-- ==== Sys2Proof/Word.lean ====
section
/-! DEFINITION. The word and byte types of the device (00 R5: registers are 32 bits wide; HBM is addressed in bytes). -/

namespace Sys2Proof

/-- A register word (R5). -/
abbrev Word := BitVec 32

/-- A byte of memory or of a stream. -/
abbrev Byte := BitVec 8

/-- A 64-bit word: a NoC data word, a flit half, a lane word. -/
abbrev Word64 := BitVec 64

end Sys2Proof
end

