-- ==== Sys2Proof/Machine/SMap.lean ====
section
/-! DEFINITION. A sparse table keyed by natural numbers: a list of entries with rising keys that lists no entry equal to
what an unlisted key reads as. `d` says what an unlisted key reads as. -/

namespace Sys2Proof.Machine

abbrev SMap (α : Type) := List (Nat × α)

/-- Read key `a`. -/
def SMap.get {α : Type} (d : Nat → α) : SMap α → Nat → α
  | [], a => d a
  | (k, v) :: t, a => if k = a then v else SMap.get d t a

/-- Drop every entry of key `a`. -/
def SMap.erase {α : Type} : SMap α → Nat → SMap α
  | [], _ => []
  | (k, v) :: t, a => if k = a then SMap.erase t a else (k, v) :: SMap.erase t a

/-- Insert an entry before the first greater key. -/
def SMap.insert {α : Type} : SMap α → Nat → α → SMap α
  | [], a, v => [(a, v)]
  | (k, w) :: t, a, v => if a ≤ k then (a, v) :: (k, w) :: t else (k, w) :: SMap.insert t a v

/-- Write key `a`; writing what an unlisted key reads as removes the entry. -/
def SMap.put {α : Type} [DecidableEq α] (d : Nat → α) (m : SMap α) (a : Nat) (v : α) : SMap α :=
  if v = d a then SMap.erase m a else SMap.insert (SMap.erase m a) a v

/-- A table of numbers whose unlisted keys read 0. -/
def nget (m : SMap Nat) (a : Nat) : Nat := SMap.get (fun _ => 0) m a

def nput (m : SMap Nat) (a v : Nat) : SMap Nat := SMap.put (fun _ => 0) m a v

/-- The canonical form: keys strictly rising, no entry equal to its default. -/
abbrev SMap.wf {α : Type} (d : Nat → α) (m : SMap α) : Prop :=
  m.Pairwise (fun x y => x.1 < y.1) ∧ ∀ e ∈ m, e.2 ≠ d e.1

theorem SMap.get_erase_self {α : Type} (d : Nat → α) (m : SMap α) (a : Nat) :
    SMap.get d (SMap.erase m a) a = d a := by
  induction m with
  | nil => rfl
  | cons h t ih =>
    obtain ⟨k, v⟩ := h
    by_cases hk : k = a <;> simp [SMap.erase, SMap.get, hk, ih]

theorem SMap.get_erase_ne {α : Type} (d : Nat → α) (m : SMap α) {a b : Nat} (h : a ≠ b) :
    SMap.get d (SMap.erase m a) b = SMap.get d m b := by
  induction m with
  | nil => rfl
  | cons x t ih =>
    obtain ⟨k, v⟩ := x
    by_cases hk : k = a
    · subst hk; simp [SMap.erase, SMap.get, h, ih]
    · simp [SMap.erase, SMap.get, hk, ih]

theorem SMap.get_insert_self {α : Type} (d : Nat → α) (m : SMap α) (a : Nat) (v : α) :
    SMap.get d (SMap.insert m a v) a = v := by
  induction m with
  | nil => simp [SMap.insert, SMap.get]
  | cons x t ih =>
    obtain ⟨k, w⟩ := x
    by_cases hk : a ≤ k
    · simp [SMap.insert, SMap.get, hk]
    · have : k ≠ a := by omega
      simp [SMap.insert, SMap.get, hk, this, ih]

theorem SMap.get_insert_ne {α : Type} (d : Nat → α) (m : SMap α) {a b : Nat} (v : α) (h : a ≠ b) :
    SMap.get d (SMap.insert m a v) b = SMap.get d m b := by
  induction m with
  | nil => simp [SMap.insert, SMap.get, h]
  | cons x t ih =>
    obtain ⟨k, w⟩ := x
    by_cases hk : a ≤ k
    · simp [SMap.insert, SMap.get, hk, h]
    · simp [SMap.insert, SMap.get, hk, ih]

/-- A read after a write to the same key gives the value written. -/
theorem SMap.get_put_self {α : Type} [DecidableEq α] (d : Nat → α) (m : SMap α) (a : Nat) (v : α) :
    SMap.get d (SMap.put d m a v) a = v := by
  unfold SMap.put
  split
  · rename_i h; rw [SMap.get_erase_self, h]
  · exact SMap.get_insert_self ..

/-- A write leaves every other key alone. -/
theorem SMap.get_put_ne {α : Type} [DecidableEq α] (d : Nat → α) (m : SMap α) {a b : Nat} (v : α) (h : a ≠ b) :
    SMap.get d (SMap.put d m a v) b = SMap.get d m b := by
  unfold SMap.put
  split
  · exact SMap.get_erase_ne d m h
  · rw [SMap.get_insert_ne d _ v h, SMap.get_erase_ne d m h]

theorem SMap.mem_erase {α : Type} {m : SMap α} {a : Nat} {e : Nat × α} (h : e ∈ SMap.erase m a) :
    e ∈ m ∧ e.1 ≠ a := by
  induction m with
  | nil => simp [SMap.erase] at h
  | cons x t ih =>
    obtain ⟨k, v⟩ := x
    by_cases hk : k = a
    · simp only [SMap.erase, hk, if_true] at h
      exact ⟨List.mem_cons_of_mem _ (ih h).1, (ih h).2⟩
    · simp only [SMap.erase, hk, if_false, List.mem_cons] at h
      rcases h with h | h
      · exact ⟨by simp [h], by simp [h, hk]⟩
      · exact ⟨List.mem_cons_of_mem _ (ih h).1, (ih h).2⟩

theorem SMap.mem_insert {α : Type} {m : SMap α} {a : Nat} {v : α} {e : Nat × α} (h : e ∈ SMap.insert m a v) :
    e = (a, v) ∨ e ∈ m := by
  induction m with
  | nil => simpa [SMap.insert] using h
  | cons x t ih =>
    obtain ⟨k, w⟩ := x
    by_cases hk : a ≤ k
    · simpa [SMap.insert, hk] using h
    · simp only [SMap.insert, hk, if_false, List.mem_cons] at h
      rcases h with h | h
      · exact .inr (by simp [h])
      · rcases ih h with h | h
        · exact .inl h
        · exact .inr (List.mem_cons_of_mem _ h)

theorem SMap.pairwise_erase {α : Type} {m : SMap α} (a : Nat) (h : m.Pairwise (fun x y => x.1 < y.1)) :
    (SMap.erase m a).Pairwise (fun x y => x.1 < y.1) := by
  induction m with
  | nil => simp [SMap.erase]
  | cons x t ih =>
    obtain ⟨k, v⟩ := x
    rw [List.pairwise_cons] at h
    by_cases hk : k = a
    · simpa [SMap.erase, hk] using ih h.2
    · simp only [SMap.erase, hk, if_false, List.pairwise_cons]
      exact ⟨fun e he => h.1 e (SMap.mem_erase he).1, ih h.2⟩

theorem SMap.pairwise_insert {α : Type} {m : SMap α} (a : Nat) (v : α)
    (h : m.Pairwise (fun x y => x.1 < y.1)) (hm : ∀ e ∈ m, e.1 ≠ a) :
    (SMap.insert m a v).Pairwise (fun x y => x.1 < y.1) := by
  induction m with
  | nil => simp [SMap.insert]
  | cons x t ih =>
    obtain ⟨k, w⟩ := x
    rw [List.pairwise_cons] at h
    have hk0 : k ≠ a := hm (k, w) (by simp)
    by_cases hk : a ≤ k
    · simp only [SMap.insert, hk, if_true, List.pairwise_cons]
      refine ⟨?_, h⟩
      intro e he
      rcases List.mem_cons.mp he with he | he
      · subst he; show a < k; omega
      · have := h.1 e he
        show a < e.1
        simp only at this; omega
    · simp only [SMap.insert, hk, if_false, List.pairwise_cons]
      refine ⟨?_, ih h.2 (fun e he => hm e (List.mem_cons_of_mem _ he))⟩
      intro e he
      rcases SMap.mem_insert he with he | he
      · subst he; show k < a; omega
      · exact h.1 e he

/-- A write keeps the canonical form. -/
theorem SMap.wf_put {α : Type} [DecidableEq α] (d : Nat → α) {m : SMap α} (a : Nat) (v : α) (h : SMap.wf d m) :
    SMap.wf d (SMap.put d m a v) := by
  unfold SMap.put
  split
  · exact ⟨SMap.pairwise_erase a h.1, fun e he => h.2 e (SMap.mem_erase he).1⟩
  · rename_i hv
    refine ⟨SMap.pairwise_insert a v (SMap.pairwise_erase a h.1) (fun e he => (SMap.mem_erase he).2), ?_⟩
    intro e he
    rcases SMap.mem_insert he with he | he
    · subst he; exact hv
    · exact h.2 e (SMap.mem_erase he).1

theorem SMap.wf_nil {α : Type} (d : Nat → α) : SMap.wf d [] := ⟨List.Pairwise.nil, by simp⟩

/-- Entries a to a + n - 1 of `src` in place of those of `dst`. -/
def SMap.replaceRange {α : Type} (dst src : SMap α) (a n : Nat) : SMap α :=
  dst.filter (fun e => decide (e.1 < a)) ++ src.filter (fun e => decide (a ≤ e.1 ∧ e.1 < a + n))
    ++ dst.filter (fun e => decide (a + n ≤ e.1))

/-- A table filtered by key keeps the canonical form. -/
def SMap.filterKeys {α : Type} (p : Nat → Bool) (m : SMap α) : SMap α := m.filter (fun e => p e.1)

theorem SMap.wf_filterKeys {α : Type} (d : Nat → α) (p : Nat → Bool) {m : SMap α} (h : SMap.wf d m) :
    SMap.wf d (SMap.filterKeys p m) :=
  ⟨h.1.filter _, fun e he => h.2 e (List.mem_filter.mp he).1⟩

end Sys2Proof.Machine
end

