-- ==== Sys2Proof/Machine/EngTypes.lean ====
section
/-! DEFINITION. The DSP engines' instruction fields (09 R220 to R228) and the state of an engine beyond its registers
(08 R194, R206, R208 to R212). -/

namespace Sys2Proof.Machine

/-- The store field, bits [37:25] of M-class and A-class words (R225). -/
structure StoreFld where
  sd : Nat
  sw : Nat
  sa : Nat
  sr : Nat
  sp : Bool
  sn : Nat
  sh : Bool
  deriving DecidableEq, Repr

/-- The fields of an M-class word (R223). -/
structure MulFld where
  aop : Nat
  tgt : Nat
  xsrc : Nat
  xr : Nat
  xp : Bool
  xn : Nat
  yr : Nat
  yp : Bool
  yn : Nat
  st : StoreFld
  deriving DecidableEq, Repr

/-- The fields of an A-class word (R226); `shamt` is the 6-bit field. -/
structure AccFld where
  ad : Nat
  as : Nat
  shamt : Nat
  st : StoreFld
  deriving DecidableEq, Repr

/-- The addressing fields of an L-class word (R227): memory or stream, address register, post-modify, offset register. -/
structure AddrFld where
  ms : Nat
  ar : Nat
  p : Bool
  n : Nat
  deriving DecidableEq, Repr

/-- The instructions of the engines, decoded (R223, R226, R227, R228). `bad d` is a word that takes ILLEGAL with
detail d at decode (R220, R235). -/
inductive EngOp where
  | nop
  | mac (f : MulFld)
  | cmac (f : MulFld)
  | qmac (f : MulFld)
  | dmac (f : MulFld)
  | pmov (f : MulFld)
  | clr (f : AccFld)
  | adda (f : AccFld)
  | suba (f : AccFld)
  | mova (f : AccFld)
  | nega (f : AccFld)
  | absa (f : AccFld)
  | ash (f : AccFld)
  | cmpa (f : AccFld)
  | tsta (f : AccFld)
  | ldi (reg imm : Nat)
  | ld (reg : Nat) (a : AddrFld)
  | st (reg : Nat) (a : AddrFld)
  | movr (rd rs : Nat)
  | lda (ad : Nat) (a : AddrFld) (form : Nat)
  | ldai (ad imm : Nat)
  | jmp (target : Nat)
  | call (target : Nat)
  | ret
  | loop (count last : Nat)
  | loopr (reg last : Nat)
  | brk
  | halt (code : Nat)
  | kick
  | stim (reg : Nat) (i : Bool) (chan imm : Nat)
  | waitd (mask : Nat)
  | sig (code : Nat)
  | bad (detail : Nat)
  deriving DecidableEq, Repr

/-- How an instruction issues: its COND field (R229) and the engine cycles it takes (R232, R240). -/
structure Issue where
  cond : Nat
  cyc : Nat
  deriving DecidableEq, Repr

/-- What a stalled engine waits for (R197): to issue the instruction again, or to put a word into a full output; or, for the
instruction of a STEP, the clock that ENG_TRIO_CLK.EN gates (R214). -/
inductive Stall where
  | retry (i : Issue) (op : EngOp)
  | word (port w : Nat)
  | gated (i : Issue) (op : EngOp)
  deriving DecidableEq, Repr

/-- One outstanding request of a DMA channel: its tag, the local byte address and the number of bytes. -/
structure DmaReq where
  tag : Nat
  addr : Nat
  n : Nat
  deriving DecidableEq, Repr

/-- A DMA channel beyond its registers (R211, R212): bytes asked for so far, requests outstanding, the request counter,
and the ERR and RSTATUS it will end with (once ERR is not 0 it sends no further request). -/
structure Dma where
  off : Nat
  out : List DmaReq
  nreq : Nat
  err : Nat
  rst : Nat
  deriving DecidableEq, Repr

def Dma.empty : Dma := ⟨0, [], 0, 0, 0⟩

/-- An engine beyond its registers. -/
structure Eng where
  /-- XA, YA, XN, YN, XB, YB by the numbers 0 to 23 of R221 -/
  regs : SMap Nat
  /-- A0 to A3, 40 bits -/
  acc : SMap Nat
  /-- N, Z, E, V as bits 3 to 0 -/
  flags : Nat
  /-- X and Y words -/
  x : SMap Nat
  y : SMap Nat
  /-- 64-bit instructions -/
  prog : SMap Nat
  /-- beats in S0, S1, T0, T1, oldest first -/
  fifo : SMap (List Nat)
  /-- the low word of the front beat of S0 or S1 has been read -/
  half : SMap Bool
  /-- pending half of T0 or T1 (key 2 or 3) -/
  pend : SMap (Option Nat)
  /-- loop entries: range (start × 65536 + end) and count -/
  lsRange : SMap Nat
  lsCount : SMap Nat
  /-- call stack -/
  cs : SMap Nat
  stall : Option Stall
  /-- one instruction runs under STEP -/
  stepping : Bool
  /-- STATE that a stop in progress ends in -/
  stopTo : Nat
  /-- address of a store whose merge met an uncorrectable error, its exception due after the next instruction -/
  merge : Option Nat
  dma : SMap Dma
  /-- the memories' contents are unknown (R216): the model's counter of open values when they became so -/
  unk : Option Nat
  deriving DecidableEq, Repr

def Eng.empty : Eng := ⟨[], [], 0, [], [], [], [], [], [], [], [], [], none, false, 0, none, [], none⟩

/-- A trio beyond its registers (R213, R215): the state a transition ends in, the kept request, the clear that waits for
the trio to wake, and the way through ON of OFF to RETAIN. -/
structure Trio where
  goal : Nat
  kept : Option Nat
  clearDue : Bool
  /-- the memories have lost their contents since the trio was last ON -/
  lost : Bool
  deriving DecidableEq, Repr

/-- A trio is OFF at reset (R213), so its memories are lost. -/
def Trio.empty : Trio := ⟨0, none, false, true⟩

end Sys2Proof.Machine
end

