-- ==== Sys2Proof/Machine/Event.lean ====
section
/-! DEFINITION. Masters, drop-log entries, events, event records and responses (00 R16, R17; 15 R396 to R402). -/

namespace Sys2Proof.Machine

/-- On whose behalf an access is made (R28, R396). A tenant requester carries its lease and the region or engine that an event
about it names (R17; 0xFFFF for none). -/
inductive Master where
  | board
  | host
  | firmware
  | debug
  | tenant (lease inst : Nat)
  deriving DecidableEq, Repr

/-- The master number shown in HUB_DROPLOG_INFO.MASTER and HUB_ATTN_SRC (R396, R398). -/
def Master.num : Master → Nat
  | .board => 0 | .host => 1 | .firmware => 2 | .debug => 3 | .tenant _ _ => 4

/-- Causes of HUB_DROPLOG_INFO.CAUSE (R398). -/
inductive DropCause where
  | notOwner | align | bootLocked | expert | badCode | order | full | mgmtDenied | strap | range
  deriving DecidableEq, Repr

def DropCause.code : DropCause → Nat
  | .notOwner => 0 | .align => 1 | .bootLocked => 2 | .expert => 3 | .badCode => 4
  | .order => 5 | .full => 6 | .mgmtDenied => 7 | .strap => 8 | .range => 9

/-- One entry of HUB_DROPLOG (R398). -/
structure DropEntry where
  master : Nat
  cause : DropCause
  addr : Nat
  deriving DecidableEq, Repr

/-- The named events of R402, 16 R424, 17 R444 and 17 R451. -/
inductive Ev where
  | MGMT_DENIED | ARB_FENCED | DIE_ADMIT_FAIL | SUPPLY_SEQ | LC_CHANGED
  | THERM_WARN
  | CLK_COAST | CLK_FORCED | CLK_SW_STALL | CLK_REF_BAD | CLK_AON_BAD | CLK_JUDGE_UNRESOLVED
  | CFG_LOAD_FAIL | BOOT_FAIL | BOOT_FALLBACK | ESSMAP_TRUNC | CFG_SWEEP_LATE | CFG_UPSET_MASKED
  | CFG_UPSET_FIXED | CFG_UPSET_CRIT | CFG_UPSET_STUCK
  | XWIRE_CONFLICT | XWIRE_ERR | XWIRE_CUT | TETHER_REPAIR | TETHER_DEGRADED | TETHER_PARKED
  | TETHER_DISABLED | DIE_LOST | REGION_LOST
  | NAP_FENCED | NOC_LINK_FAULT
  | DMC_HOT | DMC_RETRAIN | DMC_WRITE_LOST | DMC_PC_FAULT
  | MEM_AUTH_FAIL | KD_COUNTER_WARN | KD_FATAL | KD_ROOT_REPAIR
  | LANE_RX_LOST | EQ_TABLE_BAD | EQ_ENTRY_MISSING
  | PCIE_LINK_DOWN | PCIE_LINK_UP | VF_FLR
  | ENG_EXCEPTION | ENG_HALT | ENG_SIGNAL
  | GPIO_BANK_OFF | GPIO_LOCK_ABORT | GPIO_SHARED
  | DBG_LEVEL | DBG_AUTH_FAIL | DBG_HALT | TRACE_DROP
  | BIST_FAIL
  | MIR_SELF_FAIL | MIR_LINK_UP | MIR_SEQ_WARN | MIR_LINK_DOWN | MIR_FAIL_IN_SUSPECT | MIR_TAKEOVER
  | MIR_STALE | MIR_WIRE_FAULT | MIR_GIVEN | MIR_OVERRUN
  | ECC_SRAM_WEAK | ECC_SRAM_UE | RAM_WRITE_REFUSED | HBM_UE | SCRUB_DONE
  | ENV_GATE_FORCED | FAB_FLASH_WORN
  deriving DecidableEq, Repr

/-- Event codes: block number × 0x100 plus the position in the table of R402. -/
def Ev.code : Ev → Nat
  | .MGMT_DENIED => 0x0000 | .ARB_FENCED => 0x0001 | .DIE_ADMIT_FAIL => 0x0002 | .SUPPLY_SEQ => 0x0003
  | .LC_CHANGED => 0x0004
  | .THERM_WARN => 0x0100
  | .CLK_COAST => 0x0200 | .CLK_FORCED => 0x0201 | .CLK_SW_STALL => 0x0202 | .CLK_REF_BAD => 0x0203
  | .CLK_AON_BAD => 0x0204 | .CLK_JUDGE_UNRESOLVED => 0x0205
  | .CFG_LOAD_FAIL => 0x0300 | .BOOT_FAIL => 0x0301 | .BOOT_FALLBACK => 0x0302 | .ESSMAP_TRUNC => 0x0303
  | .CFG_SWEEP_LATE => 0x0304 | .CFG_UPSET_MASKED => 0x0305 | .CFG_UPSET_FIXED => 0x0306
  | .CFG_UPSET_CRIT => 0x0307 | .CFG_UPSET_STUCK => 0x0308
  | .XWIRE_CONFLICT => 0x0400 | .XWIRE_ERR => 0x0401 | .XWIRE_CUT => 0x0402 | .TETHER_REPAIR => 0x0403
  | .TETHER_DEGRADED => 0x0404 | .TETHER_PARKED => 0x0405 | .TETHER_DISABLED => 0x0406
  | .DIE_LOST => 0x0407 | .REGION_LOST => 0x0408
  | .NAP_FENCED => 0x0500 | .NOC_LINK_FAULT => 0x0501
  | .DMC_HOT => 0x0600 | .DMC_RETRAIN => 0x0601 | .DMC_WRITE_LOST => 0x0602 | .DMC_PC_FAULT => 0x0603
  | .MEM_AUTH_FAIL => 0x0700 | .KD_COUNTER_WARN => 0x0701 | .KD_FATAL => 0x0702 | .KD_ROOT_REPAIR => 0x0703
  | .LANE_RX_LOST => 0x0800 | .EQ_TABLE_BAD => 0x0801 | .EQ_ENTRY_MISSING => 0x0802
  | .PCIE_LINK_DOWN => 0x0900 | .PCIE_LINK_UP => 0x0901 | .VF_FLR => 0x0902
  | .ENG_EXCEPTION => 0x0A00 | .ENG_HALT => 0x0A01 | .ENG_SIGNAL => 0x0A02
  | .GPIO_BANK_OFF => 0x0B00 | .GPIO_LOCK_ABORT => 0x0B01 | .GPIO_SHARED => 0x0B02
  | .DBG_LEVEL => 0x0C00 | .DBG_AUTH_FAIL => 0x0C01 | .DBG_HALT => 0x0C02 | .TRACE_DROP => 0x0C03
  | .BIST_FAIL => 0x0D00
  | .MIR_SELF_FAIL => 0x0E00 | .MIR_LINK_UP => 0x0E01 | .MIR_SEQ_WARN => 0x0E02 | .MIR_LINK_DOWN => 0x0E03
  | .MIR_FAIL_IN_SUSPECT => 0x0E04 | .MIR_TAKEOVER => 0x0E05 | .MIR_STALE => 0x0E06
  | .MIR_WIRE_FAULT => 0x0E07 | .MIR_GIVEN => 0x0E08 | .MIR_OVERRUN => 0x0E09
  | .ECC_SRAM_WEAK => 0x0F00 | .ECC_SRAM_UE => 0x0F01 | .RAM_WRITE_REFUSED => 0x0F02 | .HBM_UE => 0x0F03
  | .SCRUB_DONE => 0x0F04
  | .ENV_GATE_FORCED => 0x1000 | .FAB_FLASH_WORN => 0x1001

/-- Severities (R16): 0 NOTE, 1 WARN, 2 ALARM, 3 FATAL. An event's severity is fixed. -/
def Ev.sev : Ev → Nat
  | .LC_CHANGED | .CFG_UPSET_MASKED | .PCIE_LINK_UP | .VF_FLR | .ENG_HALT | .ENG_SIGNAL | .GPIO_LOCK_ABORT
  | .GPIO_SHARED | .DBG_LEVEL | .DBG_HALT | .MIR_LINK_UP | .SCRUB_DONE => 0
  | .MGMT_DENIED | .SUPPLY_SEQ | .THERM_WARN | .CLK_COAST | .CLK_FORCED | .BOOT_FALLBACK | .ESSMAP_TRUNC
  | .CFG_SWEEP_LATE | .CFG_UPSET_FIXED | .TETHER_REPAIR | .TETHER_DEGRADED | .DMC_HOT | .DMC_RETRAIN
  | .KD_COUNTER_WARN | .KD_ROOT_REPAIR | .EQ_TABLE_BAD | .EQ_ENTRY_MISSING | .GPIO_BANK_OFF | .DBG_AUTH_FAIL
  | .TRACE_DROP | .BIST_FAIL | .MIR_SEQ_WARN | .MIR_FAIL_IN_SUSPECT | .ECC_SRAM_WEAK | .RAM_WRITE_REFUSED
  | .ENV_GATE_FORCED | .FAB_FLASH_WORN => 1
  | .ARB_FENCED | .DIE_ADMIT_FAIL | .CLK_SW_STALL | .CLK_REF_BAD | .CLK_AON_BAD | .CLK_JUDGE_UNRESOLVED
  | .CFG_LOAD_FAIL | .BOOT_FAIL | .CFG_UPSET_CRIT | .CFG_UPSET_STUCK | .XWIRE_CONFLICT | .XWIRE_ERR
  | .XWIRE_CUT | .TETHER_PARKED | .TETHER_DISABLED | .DIE_LOST | .REGION_LOST | .NAP_FENCED
  | .NOC_LINK_FAULT | .DMC_WRITE_LOST | .DMC_PC_FAULT | .MEM_AUTH_FAIL | .LANE_RX_LOST | .PCIE_LINK_DOWN
  | .ENG_EXCEPTION | .MIR_SELF_FAIL | .MIR_LINK_DOWN | .MIR_TAKEOVER | .MIR_STALE | .MIR_WIRE_FAULT
  | .MIR_GIVEN | .MIR_OVERRUN | .ECC_SRAM_UE | .HBM_UE => 2
  | .KD_FATAL => 3

/-- An event record (R402); the time is NOC_TIME[47:0] when it was raised. -/
structure EvRec where
  ev : Ev
  tenant : Bool
  lease : Nat
  inst : Nat
  time : Nat
  seqn : Nat
  deriving DecidableEq, Repr

/-- The device's last response: whether the access was served, and what it returned. -/
inductive Resp where
  | none
  | ok (data : Nat)
  | err
  | dropped
  | busy
  | bytes (data : List Byte)
  deriving DecidableEq, Repr

end Sys2Proof.Machine
end

