-- ==== Sys2Proof/Machine/Packet.lean ====
section
/-! DEFINITION. NoC packets (06 R157, R158), arbiter names (07 R179, R189) and trace records (06 R175). -/

namespace Sys2Proof.Machine

/-- A NoC packet (R157): header fields, payload bytes and byte enables (an empty list of enables enables every byte),
the virtual channel it travels on and whether its tail carries the error mark. -/
structure Packet where
  dst : Nat
  src : Nat
  opc : Nat
  tag : Nat
  lease : Nat
  addr : Nat
  bcnt : Nat
  page : Nat
  status : Nat
  key : Nat
  kv : Bool
  vc : Nat
  em : Bool
  rset : Nat
  data : List Byte
  be : List Bool
  deriving DecidableEq, Repr

/-- Opcodes (R158). -/
def opcRead : Nat := 0x1
def opcWrite : Nat := 0x2
def opcTrace : Nat := 0x3
def opcMirror : Nat := 0x4
def opcReadRsp : Nat := 0x9
def opcWriteRsp : Nat := 0xA

/-- Response status codes (R158). -/
def stOk : Nat := 0
def stErr : Nat := 1
def stUnreach : Nat := 2
def stPoison : Nat := 3
def stTetherDown : Nat := 4
def stDenied : Nat := 5
def stFenced : Nat := 6
def stSideDown : Nat := 7

/-- The response packet that answers request `p` with status `st` and data `d` (R158: on VC1). -/
def Packet.respond (p : Packet) (st : Nat) (d : List Byte) : Packet :=
  { p with dst := p.src, src := p.dst, opc := if p.opc = opcRead then opcReadRsp else opcWriteRsp,
           status := st, vc := 1, em := false, data := if st = stOk then d else [], be := [] }

/-- A trace record (R175): kind 1 PROBE, 2 STIMULUS, 3 OVERFLOW, 4 SYNC. -/
structure TraceRec where
  rtype : Nat
  source : Nat
  time : Nat
  data : Nat
  deriving DecidableEq, Repr

/-- A request as its requester raises it at an arbiter (R181): the index of R179, the urgency at a pseudo-channel controller, the
requester's lease (0 for none), and at a NoC output the table set of the packet (R166). -/
structure ArbAsk where
  idx : Nat
  urg : Nat
  lease : Nat
  rset : Nat
  deriving DecidableEq, Repr

/-- The arbiters of R179, by instance. -/
inductive ArbId where
  | noc (router out : Nat)
  | pc (n : Nat)
  | eng (e m : Nat)
  | readback (r : Nat)
  | capture
  | tether (d : Nat)
  | mirror
  deriving DecidableEq, Repr

end Sys2Proof.Machine
end

