-- ==== Sys2Proof/Machine/OpTypes.lean ====
section
/-! DEFINITION. Types of command operands that carry the outcome of something outside the model. -/

namespace Sys2Proof.Machine

/-- What a granule's path in the counter tree gives (R290, R292, R299). The level of a node counts from the leaves (0);
`top` says that the walk went up to the root. -/
inductive TreeRes where
  | good (top : Bool)
  /-- a node MAC differs -/
  | nodeMac (lv : Nat)
  /-- a node is uncorrectable in HBM -/
  | nodeUe (lv : Nat)
  /-- the HBM word of the MAC block is uncorrectable -/
  | macUe
  /-- a clean cache line is uncorrectable: dropped, fetched again -/
  | cleanUe
  /-- a dirty cache line is uncorrectable -/
  | dirtyUe (lv : Nat)
  deriving DecidableEq, Repr

/-- What raises bridle channels (17 R437, R438): a write of DBG_BR_RAISE (`late`: it waited for another write of its cycle),
a core that enters debug mode, a region's trigger output; or nothing new: the halts of channels already raised arrive. -/
inductive BrSrc where
  | write (m : Master) (mask : Nat) (late : Bool)
  | core (g : Nat)
  | region (r : Nat)
  | arrive
  deriving DecidableEq, Repr

/-- A configuration access of the host to a function (12 R322): a read of the identity (vendor, device) or of the class code, the
Command register's bus-master enable, the power state (D0 or D3hot), SR-IOV's VF Enable and NumVFs, and the function mask of
MSI-X. -/
inductive PciCfg where
  | readId
  | readClass
  | command (bm : Bool)
  | power (d3 : Bool)
  | sriov (en : Bool) (num : Nat)
  | msixMask (on : Bool)
  deriving DecidableEq, Repr

/-- What a region's fabric has done to a serial port connected to it since the last byte (02 R63): bytes pushed, bytes popped,
a read started. -/
structure SpFabric where
  push : List Byte
  pop : Nat
  rd : Bool
  deriving DecidableEq, Repr

/-- A heartbeat frame that the die of a bundle sends, and what the hub's receivers see of it (05 R137, R138): the die's SEQ and
REC_HASH, the wires it reports in RXBAD, its signatures, the frame's bits inverted on the line, and by physical wire the inverted
bits of the last period. -/
structure HbFrame where
  seq : Nat
  hash : Nat
  rxbad : List Nat
  sig : List Nat
  flips : List Nat
  errs : List (Nat × List Bool)
  deriving DecidableEq, Repr

/-- A memory request of the host (12 R322, R325): a read, a posted write, or an AtomicOp. -/
inductive Tlp where
  | read | write | atomic
  deriving DecidableEq, Repr

/-- Status of a PCIe completion (12 R326, R327): Successful Completion, one with poisoned data,
Unsupported Request, Completer Abort. -/
inductive Cpl where
  | sc | poisoned | ur | ca
  deriving DecidableEq, Repr

end Sys2Proof.Machine
end

