-- ==== Sys2Proof/Syntax.lean ====
section
/-! DEFINITION. The commands: one constructor for each row of the table. Operands that no register holds carry what comes from
outside the model: data, levels of pins, results of physical processes (log entry 7). -/

namespace Sys2Proof
open Machine

inductive Instr where
  /-- REGISTER_WRITE (R6). -/
  | registerWrite (m : Master) (a v aux : Nat)
  /-- RC_READ (R6). -/
  | rcRead (m : Master) (a : Nat)
  /-- LIVE_FIELD_APPLY (R10). -/
  | liveFieldApply (a lo : Nat)
  /-- LEASE_WRITE (R21). -/
  | leaseWrite (m : Master) (r l : Nat) (win : List (Nat × Nat))
  /-- RELEASE (R21). -/
  | release (m : Master) (r : Nat)
  /-- CLEARING_END (R22). -/
  | clearingEnd (r : Nat)
  /-- NAP_DRAIN_TIMEOUT (R54). -/
  | napDrainTimeout (node : Nat)
  /-- ENV_GATE_FORCE (R55). -/
  | envGateForce (r : Nat)
  /-- ENV_CLOSE_DONE (R55). -/
  | envCloseDone (r : Nat) (delta : List (Nat × Byte))
  /-- ENV_OPEN_DONE (R56). -/
  | envOpenDone (r ns : Nat)
  /-- NAP_HOLD_TIMEOUT (R54). -/
  | napHoldTimeout (node : Nat)
  /-- ROSC_ENABLE (R60). -/
  | roscEnable (m : Master) (d n : Nat)
  /-- ROSC_SETTLED (R60). -/
  | roscSettled (d n : Nat)
  /-- ROSC_DISABLE (R60). -/
  | roscDisable (m : Master) (d n : Nat)
  /-- ROSC_WINDOW_END (R60). -/
  | roscWindowEnd (d n cnt : Nat)
  /-- FL_READ (R61). -/
  | flRead (m : Master) (d page : Nat)
  /-- FL_WRITE (R61). -/
  | flWrite (m : Master) (d page : Nat)
  /-- FL_ERASE (R61). -/
  | flErase (m : Master) (d page : Nat)
  /-- FL_OP_END (R61). -/
  | flOpEnd (d : Nat) (ok : Bool)
  /-- SP_ENABLE (R63). -/
  | spEnable (m : Master) (d p : Nat)
  /-- SP_DISABLE (R63). -/
  | spDisable (m : Master) (d p : Nat)
  /-- SP_DATA_PUSH (R63). -/
  | spDataPush (m : Master) (d p v : Nat)
  /-- SP_DATA_POP (R63). -/
  | spDataPop (d p : Nat) (peek : Bool)
  /-- SP_RD_START (R63). -/
  | spRdStart (m : Master) (d p : Nat)
  /-- SP_BYTE_END (R63). -/
  | spByteEnd (d p : Nat) (rx : Option Byte) (sent nack more : Bool) (fab : SpFabric)
  /-- POR_N_RISE (R386). -/
  | porNRise (mode role : Nat)
  /-- POR_N_FALL (R384). -/
  | porNFall
  /-- RESET_N_ASSERT (R384). -/
  | resetNAssert
  /-- RESET_N_RELEASE (R386). -/
  | resetNRelease
  /-- PROG_N_ASSERT (R73). -/
  | progNAssert
  /-- PROG_N_RELEASE (R73). -/
  | progNRelease
  /-- BOOT_WDT_EXPIRE (R69). -/
  | bootWdtExpire
  /-- SHELL_READY (R69). -/
  | shellReady (m : Master)
  /-- SSP_WRITE_STREAM (R74). -/
  | sspWriteStream (d : List Byte)
  /-- SSP_READ_STATUS (R74). -/
  | sspReadStatus
  /-- SSP_UNKNOWN_COMMAND (R74). -/
  | sspUnknownCommand (code : Nat)
  /-- PSP_WORD (R76). -/
  | pspWord (w : Nat)
  /-- CFG_SOURCE_DATA (R78). -/
  | cfgSourceData (n : Nat)
  /-- CFG_HEADER (R80). -/
  | cfgHeader (n : Nat)
  /-- CFG_MANIFEST (R85). -/
  | cfgManifest (n : Nat)
  /-- FAR (R87). -/
  | far (n : Nat)
  /-- BODY_WRITE (R87). -/
  | bodyWrite (n : Nat)
  /-- BLANK (R87). -/
  | blank (n : Nat)
  /-- MULTI (R87). -/
  | multi (n : Nat)
  /-- ESSMAP (R107). -/
  | essmap (n : Nat)
  /-- LOADMEM (R87). -/
  | loadmem (n : Nat)
  /-- CFG_NOP (R87). -/
  | cfgNop (n : Nat)
  /-- END (R87). -/
  | endCmd (n : Nat)
  /-- LOAD_GO (R92). -/
  | loadGo (m : Master) (n r : Nat)
  /-- LOAD_ABORT (R96). -/
  | loadAbort (m : Master) (n : Nat)
  /-- LOAD_STALL (R95). -/
  | loadStall (n : Nat)
  /-- CFG_VERIFY_DONE (R82). -/
  | cfgVerifyDone (n : Nat)
  /-- BKEY_WRITE (R83). -/
  | bkeyWrite (m : Master) (k j v : Nat)
  /-- CHECKER_SLOT (R102). -/
  | checkerSlot (d c : Nat)
  /-- SWEEP_LATE_TIMER (R104). -/
  | sweepLateTimer (d : Nat)
  /-- GOLD_EN_SET (R111). -/
  | goldEnSet (m : Master)
  /-- GOLD_DIE_FILL_END (R111). -/
  | goldDieFillEnd (d : Nat)
  /-- GOLD_VALID_SET (R111). -/
  | goldValidSet (r : Nat)
  /-- UPSET_INFO_READ (R112). -/
  | upsetInfoRead
  /-- CAP_LIVE (R117). -/
  | capLive (m : Master)
  /-- CAP_LIVE_END (R117). -/
  | capLiveEnd (delta : List (Nat × Nat × Byte))
  /-- CAP_PAUSED (R118). -/
  | capPaused (m : Master)
  /-- CAP_EXPORT (R122). -/
  | capExport (m : Master)
  /-- CAP_EXPORT_END (R122). -/
  | capExportEnd
  /-- CAP_IMPORT (R122). -/
  | capImport (m : Master)
  /-- CAP_IMPORT_END (R122). -/
  | capImportEnd
  /-- CAP_INJECT (R124). -/
  | capInject (m : Master)
  /-- CAP_QUIESCE_END (R121). -/
  | capQuiesceEnd
  /-- CAP_QLIM_EXPIRE (R121). -/
  | capQlimExpire
  /-- CAP_IVHI_WRITE (R123). -/
  | capIvhiWrite (m : Master) (v : Nat)
  /-- HEARTBEAT_PERIOD (R137). -/
  | heartbeatPeriod
  /-- HEARTBEAT_FRAME (R137). -/
  | heartbeatFrame (d b : Nat) (f : HbFrame)
  /-- HEARTBEAT_MISS (R137). -/
  | heartbeatMiss (d b : Nat)
  /-- BUNDLE_REEL_IN (R145). -/
  | bundleReelIn (m : Master) (d b wire force : Nat)
  /-- BUNDLE_PAY_OUT (R145). -/
  | bundlePayOut (m : Master) (d b wire force : Nat)
  /-- BUNDLE_RETRAIN (R145). -/
  | bundleRetrain (m : Master) (d b wire force : Nat)
  /-- BUNDLE_MAINT_RETRAIN (R145). -/
  | bundleMaintRetrain (m : Master) (d b wire force : Nat)
  /-- BUNDLE_MARK_BAD (R145). -/
  | bundleMarkBad (m : Master) (d b wire force : Nat)
  /-- TRAIN_STEP_OVERRUN (R146). -/
  | trainStepOverrun (d b : Nat)
  /-- TRAIN_RETRY (R146). -/
  | trainRetry (d b : Nat)
  /-- AGREE_TIMEOUT (R148). -/
  | agreeTimeout (d b : Nat)
  /-- TRAIN_END (R146). -/
  | trainEnd (d b : Nat) (found : List Nat) (seq : Nat) (hashes : List Nat)
  /-- DIE_ISOLATE (R149). -/
  | dieIsolate (m : Master) (d : Nat)
  /-- DIE_ADMIT (R150). -/
  | dieAdmit (m : Master) (d : Nat)
  /-- ADMIT_TIMEOUT (R150). -/
  | admitTimeout (d : Nat)
  /-- DIE_ADMIT_END (R388). -/
  | dieAdmitEnd (d : Nat) (idOk : Bool)
  /-- ROUTE_WRITE (R133). -/
  | routeWrite (m : Master) (d b p valid sd sb sp : Nat)
  /-- FLIT_REPLAY (R156). -/
  | flitReplay (k p : Nat) (inward : Bool) (j err : Nat) (again : Bool)
  /-- NOC_READ (R159). -/
  | nocRead (p : Packet)
  /-- NOC_WRITE (R159). -/
  | nocWrite (p : Packet)
  /-- NOC_TRACE (R175). -/
  | nocTrace (src : Nat) (em : Bool)
  /-- NOC_MIRROR (R158). -/
  | nocMirror (p : Packet)
  /-- READ_RSP (R160). -/
  | readRsp (node tag : Nat) (em : Bool)
  /-- WRITE_RSP (R160). -/
  | writeRsp (node tag : Nat) (em : Bool)
  /-- RESERVED_OPCODE (R158). -/
  | reservedOpcode (p : Packet) (request : Bool)
  /-- CREDIT_RETURN (R163). -/
  | creditReturn (node vc stall : Nat)
  /-- CREDIT_LIM_EXPIRE (R163). -/
  | creditLimExpire (node : Nat)
  /-- PORT_REEL_IN (R172). -/
  | portReelIn (m : Master) (k p : Nat) (twin : Option Nat)
  /-- PORT_PAY_OUT (R172). -/
  | portPayOut (m : Master) (k p : Nat) (twin : Option Nat)
  /-- PORT_UNFENCE (R188). -/
  | portUnfence (m : Master) (k p : Nat)
  /-- ROUTER_REEL_IN (R172). -/
  | routerReelIn (m : Master) (k : Nat)
  /-- ROUTER_PAY_OUT (R172). -/
  | routerPayOut (m : Master) (k : Nat)
  /-- SELFTEST_END (R172). -/
  | selftestEnd (k p : Nat) (pass : Bool)
  /-- NOC_SWAP (R165). -/
  | nocSwap (m : Master)
  /-- SWAP_CHECK_END (R165). -/
  | swapCheckEnd
  /-- EPOCH_BOUNDARY (R168). -/
  | epochBoundary
  /-- SET_DRAIN_END (R166). -/
  | setDrainEnd
  /-- BRIDGE_SIDE_DOWN (R170). -/
  | bridgeSideDown (k p : Nat) (far : Bool)
  /-- RESYNC_REQ (R171). -/
  | resyncReq (k p : Nat) (far : Bool)
  /-- RESYNC_ACK (R171). -/
  | resyncAck (k p : Nat)
  /-- TRACE_FLUSH_TIMER (R175). -/
  | traceFlushTimer (src node : Nat)
  /-- TRACE_SYNC_TIMER (R176). -/
  | traceSyncTimer (k : Nat)
  /-- ARB_REQUEST (R181). -/
  | arbRequest (a : ArbId) (l : List ArbAsk)
  /-- ARB_BEAT_END (R180). -/
  | arbBeatEnd (a : ArbId) (more : Bool) (lent : Option Nat)
  /-- ARB_REQUEST_DROP (R180). -/
  | arbRequestDrop (a : ArbId) (idx : Nat) (beat : Bool)
  /-- DROGUE_BITE (R187). -/
  | drogueBite (a : ArbId)
  /-- ARB_UNFENCE (R188). -/
  | arbUnfence (m : Master) (a : ArbId) (idx : Nat)
  /-- STREAM_BEAT (R208). -/
  | streamBeat (e port d : Nat)
  /-- STREAM_FLUSH (R209). -/
  | streamFlush (m : Master) (e p : Nat)
  /-- ENG_NAP_REQUEST (R210). -/
  | engNapRequest (e : Nat)
  /-- DMA_GO (R211). -/
  | dmaGo (m : Master) (e c : Nat)
  /-- DMA_ABORT (R212). -/
  | dmaAbort (m : Master) (e c : Nat)
  /-- DMA_RESPONSE (R212). -/
  | dmaResponse (e tag : Nat) (em : Bool)
  /-- TRIO_PWR_REQ (R213). -/
  | trioPwrReq (m : Master) (t v : Nat)
  /-- TRIO_PWR_END (R213). -/
  | trioPwrEnd (t us : Nat)
  /-- TRIO_CLEAR_END (R215). -/
  | trioClearEnd (t : Nat)
  /-- ENG_NOP (R223). -/
  | engNop (e : Nat) (is : Issue)
  /-- MAC (R223). -/
  | mac (e : Nat) (is : Issue) (f : MulFld)
  /-- CMAC (R223). -/
  | cmac (e : Nat) (is : Issue) (f : MulFld)
  /-- QMAC (R223). -/
  | qmac (e : Nat) (is : Issue) (f : MulFld)
  /-- DMAC (R223). -/
  | dmac (e : Nat) (is : Issue) (f : MulFld)
  /-- PMOV (R223). -/
  | pmov (e : Nat) (is : Issue) (f : MulFld)
  /-- CLR (R226). -/
  | clr (e : Nat) (is : Issue) (f : AccFld)
  /-- ADDA (R226). -/
  | adda (e : Nat) (is : Issue) (f : AccFld)
  /-- SUBA (R226). -/
  | suba (e : Nat) (is : Issue) (f : AccFld)
  /-- MOVA (R226). -/
  | mova (e : Nat) (is : Issue) (f : AccFld)
  /-- NEGA (R226). -/
  | nega (e : Nat) (is : Issue) (f : AccFld)
  /-- ABSA (R226). -/
  | absa (e : Nat) (is : Issue) (f : AccFld)
  /-- ASH (R226). -/
  | ash (e : Nat) (is : Issue) (f : AccFld)
  /-- CMPA (R226). -/
  | cmpa (e : Nat) (is : Issue) (f : AccFld)
  /-- TSTA (R226). -/
  | tsta (e : Nat) (is : Issue) (f : AccFld)
  /-- LDI (R227). -/
  | ldi (e : Nat) (is : Issue) (reg imm : Nat)
  /-- LD (R227). -/
  | ld (e : Nat) (is : Issue) (reg : Nat) (a : AddrFld)
  /-- ST (R227). -/
  | st (e : Nat) (is : Issue) (reg : Nat) (a : AddrFld)
  /-- MOVR (R227). -/
  | movr (e : Nat) (is : Issue) (rd rs : Nat)
  /-- LDA (R227). -/
  | lda (e : Nat) (is : Issue) (ad : Nat) (a : AddrFld) (form : Nat)
  /-- LDAI (R227). -/
  | ldai (e : Nat) (is : Issue) (ad imm : Nat)
  /-- JMP (R230). -/
  | jmp (e : Nat) (is : Issue) (target : Nat)
  /-- CALL (R230). -/
  | call (e : Nat) (is : Issue) (target : Nat)
  /-- RET (R230). -/
  | ret (e : Nat) (is : Issue)
  /-- LOOP (R231). -/
  | loop (e : Nat) (is : Issue) (count last : Nat)
  /-- LOOPR (R231). -/
  | loopr (e : Nat) (is : Issue) (reg last : Nat)
  /-- BREAK (R230). -/
  | brk (e : Nat) (is : Issue)
  /-- HALT (R228). -/
  | halt (e : Nat) (is : Issue) (code : Nat)
  /-- KICK (R237). -/
  | kick (e : Nat) (is : Issue)
  /-- STIM (R238). -/
  | stim (e : Nat) (is : Issue) (reg : Nat) (imd : Bool) (chan imm : Nat)
  /-- WAITD (R228). -/
  | waitd (e : Nat) (is : Issue) (mask : Nat)
  /-- SIG (R239). -/
  | sig (e : Nat) (is : Issue) (code : Nat)
  /-- ENG_STALL_RELEASE (R197). -/
  | engStallRelease (e cyc : Nat)
  /-- ENG_START (R233). -/
  | engStart (m : Master) (e : Nat)
  /-- ENG_STOP (R234). -/
  | engStop (m : Master) (e : Nat)
  /-- ENG_STEP (R233). -/
  | engStep (m : Master) (e cyc : Nat)
  /-- ENG_CLRREG (R233). -/
  | engClrreg (m : Master) (e : Nat)
  /-- ENG_STOP_END (R234). -/
  | engStopEnd (e : Nat)
  /-- ENG_STALL_ABANDON (R234). -/
  | engStallAbandon (e : Nat)
  /-- ENG_WDT_EXPIRE (R236). -/
  | engWdtExpire (e : Nat)
  /-- ENG_REGDATA_WRITE (R241). -/
  | engRegdataWrite (m : Master) (e v : Nat)
  /-- DMC_REQUEST (R249). -/
  | dmcRequest (n : Nat)
  /-- DMC_QUEUE_ENTRY_FREE (R250). -/
  | dmcQueueEntryFree (n : Nat)
  /-- DMC_MERGE (R279). -/
  | dmcMerge (n : Nat)
  /-- DMC_COMMAND_SLOT (R253). -/
  | dmcCommandSlot (n : Nat) (busy : List Nat)
  /-- DMC_READ_CHECKED (R251). -/
  | dmcReadChecked (n : Nat)
  /-- DMC_PAGE_TIMER (R255). -/
  | dmcPageTimer (n bank : Nat) (longest : Bool)
  /-- REFRESH_DEBT_TICK (R257). -/
  | refreshDebtTick (n : Nat)
  /-- DMC_TEMP_READ (R257). -/
  | dmcTempRead (n t : Nat)
  /-- SELF_REFRESH_ENTRY (R259). -/
  | selfRefreshEntry (n : Nat)
  /-- SELF_REFRESH_EXIT (R260). -/
  | selfRefreshExit (n : Nat)
  /-- RECAL_TIMER (R262). -/
  | recalTimer (n : Nat)
  /-- DMC_CMD_RECAL (R266). -/
  | dmcCmdRecal (m : Master) (n : Nat)
  /-- RECAL_END (R262). -/
  | recalEnd (n : Nat)
  /-- DMC_PARITY_ERROR (R263). -/
  | dmcParityError (n kind : Nat) (failed : Bool)
  /-- DMC_CMD_REEL_IN (R266). -/
  | dmcCmdReelIn (m : Master) (n : Nat)
  /-- DMC_CMD_PAY_OUT (R266). -/
  | dmcCmdPayOut (m : Master) (n : Nat)
  /-- DMC_CMD_RETRAIN (R266). -/
  | dmcCmdRetrain (m : Master) (n : Nat)
  /-- RETRAIN_STEP_OVERRUN (R265). -/
  | retrainStepOverrun (n result : Nat)
  /-- RETRAIN_END (R264). -/
  | retrainEnd (n repairs us : Nat)
  /-- DMC_INIT_END (R261). -/
  | dmcInitEnd (n : Nat)
  /-- ECC_NOTIFY_READ (R275). -/
  | eccNotifyRead
  /-- ECC_MCLR (R275). -/
  | eccMclr (m : Master)
  /-- ECC_INJ_ARM (R275). -/
  | eccInjArm (m : Master)
  /-- SCRUB_GO (R281). -/
  | scrubGo (m : Master)
  /-- SCRUB_ABORT (R281). -/
  | scrubAbort (m : Master)
  /-- SCRUB_WORD (R281). -/
  | scrubWord
  /-- SCRUB_PASS_END (R282). -/
  | scrubPassEnd
  /-- KS_INSTALL (R285). -/
  | ksInstall (m : Master) (k : Nat)
  /-- KS_INIT_END (R286). -/
  | ksInitEnd (k : Nat)
  /-- KS_RETIRE (R296). -/
  | ksRetire (m : Master) (k : Nat)
  /-- KS_FLUSH_END (R296). -/
  | ksFlushEnd (k : Nat)
  /-- KS_RESUME (R295). -/
  | ksResume (m : Master) (k : Nat)
  /-- ENC_READ (R291). -/
  | encRead (e : Nat)
  /-- ENC_VERIFY_END (R292). -/
  | encVerifyEnd (e : Nat) (t : TreeRes)
  /-- ENC_WRITE (R294). -/
  | encWrite (e : Nat) (t : TreeRes) (inner : Nat)
  /-- QUAD_CFG_WRITE (R305). -/
  | quadCfgWrite (m : Master) (q v : Nat)
  /-- QUAD_PLL_RELOCK (R305). -/
  | quadPllRelock (q : Nat)
  /-- LANE_RX_RECORD (R308). -/
  | laneRxRecord (n fec : Nat) (rec : List Byte)
  /-- LANE_TX_WRITE (R309). -/
  | laneTxWrite (q : Nat)
  /-- LANE_TX_SENT (R309). -/
  | laneTxSent (n : Nat)
  /-- LANE_CDR_LOSS (R306). -/
  | laneCdrLoss (n : Nat)
  /-- EQ_RELOAD (R316). -/
  | eqReload (m : Master)
  /-- BIN_EVAL (R313). -/
  | binEval
  /-- WALK_STEP (R314). -/
  | walkStep (n : Nat)
  /-- PRBS_CLR (R319). -/
  | prbsClr (m : Master) (n : Nat)
  /-- INJ_GO (R320). -/
  | injGo (m : Master) (n : Nat)
  /-- SLIP (R321). -/
  | slip (m : Master) (n : Nat)
  /-- SLIP_END (R321). -/
  | slipEnd (n : Nat)
  /-- SNAP (R321). -/
  | snap (m : Master) (n : Nat)
  /-- SNAP_CAPTURE (R321). -/
  | snapCapture (n w : Nat)
  /-- PCIE_INBOUND (R325). -/
  | pcieInbound (e fn tag : Nat) (k : Tlp) (ro : Bool) (bar off n : Nat) (d : List Byte) (be : List Bool)
  /-- PCIE_OUTBOUND (R327). -/
  | pcieOutbound (e : Nat)
  /-- PCIE_CPL (R327). -/
  | pcieCpl (e i : Nat) (st : Cpl) (d : List Byte)
  /-- PCIE_CPL_TIMEOUT (R327). -/
  | pcieCplTimeout (e i : Nat)
  /-- PCIE_LINK_LOSS (R328). -/
  | pcieLinkLoss (e ltssm : Nat)
  /-- PCIE_LINK_RESTORE (R328). -/
  | pcieLinkRestore (e rate width flit : Nat) (tx : List (Nat × List Nat))
  /-- FLR_VF (R328). -/
  | flrVf (fn : Nat)
  /-- FLR_PF (R328). -/
  | flrPf (e : Nat)
  /-- MIR_START (R339). -/
  | mirStart (m : Master)
  /-- MIR_STOP (R356). -/
  | mirStop (m : Master)
  /-- MIR_CMD_SELF_FAIL (R334). -/
  | mirCmdSelfFail (m : Master)
  /-- MIR_TRAIN_END (R337). -/
  | mirTrainEnd
  /-- MIR_HELLO (R339). -/
  | mirHello (tagOk : Bool) (role : Nat)
  /-- MIR_IDLE (R340). -/
  | mirIdle (seq : Nat) (failOut failIn : Bool)
  /-- MIR_IDLE_TIMER (R340). -/
  | mirIdleTimer
  /-- MIR_FRAME_BAD (R340). -/
  | mirFrameBad (tagFails : Bool)
  /-- MIR_WLOG (R347). -/
  | mirWlog (seq pl epoch off : Nat) (payload : List Byte)
  /-- MIR_SEED (R350). -/
  | mirSeed (seq pl epoch off : Nat) (payload : List Byte)
  /-- MIR_IMAGE (R345). -/
  | mirImage (seq pl epoch rgn off : Nat) (payload : List Byte)
  /-- MIR_EFFECT (R349). -/
  | mirEffect (seq pl epoch : Nat) (payload : List Byte)
  /-- MIR_EPOCH_END (R347). -/
  | mirEpochEnd (seq epoch wl img eff mask : Nat)
  /-- MIR_COMMIT_APPLY_END (R347). -/
  | mirCommitApplyEnd
  /-- MIR_ACK (R348). -/
  | mirAck (seq epoch : Nat)
  /-- MIR_REL (R349). -/
  | mirRel (seq epoch : Nat)
  /-- MIR_RETRY (R340). -/
  | mirRetry (seq first : Nat)
  /-- MIR_GIVE (R352). -/
  | mirGive (seq pl : Nat)
  /-- MIR_WIRE_TEST (R353). -/
  | mirWireTest (seq time : Nat)
  /-- MIR_WIRE_TEST_TIMER (R353). -/
  | mirWireTestTimer (time : Nat)
  /-- MIR_LOSS_TIMER (R341). -/
  | mirLossTimer
  /-- MIR_LANE_LOCK_LOSS (R341). -/
  | mirLaneLockLoss (lane : Nat)
  /-- MIR_RETRAIN_END (R341). -/
  | mirRetrainEnd
  /-- MIR_RETRAIN_TIMEOUT (R341). -/
  | mirRetrainTimeout
  /-- MIR_EPOCH_TIMER (R346). -/
  | mirEpochTimer
  /-- MIR_ACK_TIMEOUT (R346). -/
  | mirAckTimeout
  /-- PAIR_FAIL_IN_RISE (R352). -/
  | pairFailInRise
  /-- TAKE_WIN_EXPIRE (R352). -/
  | takeWinExpire
  /-- TAKEOVER_END (R354). -/
  | takeoverEnd (j : Nat)
  /-- PL_GIVE (R351). -/
  | plGive (m : Master) (j : Nat)
  /-- PL_RESEED (R350). -/
  | plReseed (m : Master) (j : Nat)
  /-- JUDGE_WINDOW_END (R359). -/
  | judgeWindowEnd (c0 c1 : Nat)
  /-- JUDGE_QUARTER_END (R359). -/
  | judgeQuarterEnd (c0 c1 : Nat)
  /-- CLK_FREQ_WRITE (R363). -/
  | clkFreqWrite (m : Master) (p f0 f1 : Nat)
  /-- PLL_LOCK (R364). -/
  | pllLock (p : Nat)
  /-- PLL_LOCK_LOSS (R365). -/
  | pllLockLoss (p : Nat)
  /-- PLL_IDLE_TIMER (R364). -/
  | pllIdleTimer (p : Nat)
  /-- CLOCK_SWITCH_END (R367). -/
  | clockSwitchEnd (n w : Nat)
  /-- CLOCK_SWITCH_FORCE (R368). -/
  | clockSwitchForce (n w : Nat)
  /-- CLOCK_SW_STALL_TIMER (R369). -/
  | clockSwStallTimer (n w : Nat)
  /-- PWR_DOM_REQ (R373). -/
  | pwrDomReq (m : Master) (n v : Nat)
  /-- PWR_DOM_END (R372). -/
  | pwrDomEnd (n us : Nat)
  /-- THERM_CONVERSION (R375). -/
  | thermConversion (raw : List Nat)
  /-- SUPPLY_OUT_OF_RANGE (R382). -/
  | supplyOutOfRange (k : Nat) (floor early : Bool)
  /-- LC_ADVANCE (R392). -/
  | lcAdvance (m : Master)
  /-- LC_KEY_PROG (R392). -/
  | lcKeyProg (m : Master) (idx : Nat)
  /-- LC_REVOKE (R392). -/
  | lcRevoke (m : Master) (idx : Nat)
  /-- LC_RETURN (R392). -/
  | lcReturn (m : Master)
  /-- LC_SCRAP (R392). -/
  | lcScrap (m : Master)
  /-- LC_CMD_END (R391). -/
  | lcCmdEnd (failed : Nat)
  /-- FEAT_COMMIT (R394). -/
  | featCommit (m : Master) (v : Nat)
  /-- HUB_ATTN (R397). -/
  | hubAttn (m : Master) (v : Nat) (late : Bool)
  /-- HUB_ATTN_POP (R411). -/
  | hubAttnPop (peek : Bool)
  /-- DROPLOG_READ (R398). -/
  | droplogRead (peek : Bool)
  /-- EVQ_POP (R411). -/
  | evqPop (peek : Bool)
  /-- MBX_H2F_DB (R400). -/
  | mbxH2fDb (m : Master) (fn v : Nat) (late : Bool)
  /-- MBX_F2H_PI_WRITE (R403). -/
  | mbxF2hPiWrite (m : Master) (fn v : Nat)
  /-- HUB_MSIX_RAISE (R403). -/
  | hubMsixRaise (m : Master) (fn vec : Nat)
  /-- MSIX_UNMASK (R403). -/
  | msixUnmask (fn v : Nat)
  /-- PING (R405). -/
  | ping
  /-- RECOVERY_STATUS (R405). -/
  | recoveryStatus
  /-- FLASH_ERASE (R405). -/
  | flashErase (failed : Bool)
  /-- FLASH_PROGRAM (R405). -/
  | flashProgram (failed : Bool)
  /-- FLASH_CRC (R405). -/
  | flashCrc
  /-- RESTART (R405). -/
  | restart
  /-- HDMA_GO (R406). -/
  | hdmaGo (m : Master) (c lease win dir : Nat)
  /-- HDMA_ABORT (R406). -/
  | hdmaAbort (m : Master) (c : Nat)
  /-- HDMA_END (R406). -/
  | hdmaEnd (c : Nat)
  /-- SMB_PROCESS_READ (R407). -/
  | smbProcessRead (a : Nat)
  /-- SMB_BLOCK_WRITE (R407). -/
  | smbBlockWrite (a v : Nat) (pecOk : Bool)
  /-- SMB_EVENT_READ (R407). -/
  | smbEventRead
  /-- SMB_STATUS_READ (R407). -/
  | smbStatusRead
  /-- SMB_ARA (R407). -/
  | smbAra
  /-- SMB_TIMEOUT (R462). -/
  | smbTimeout
  /-- BSPI_READ (R409). -/
  | bspiRead (m : Master) (cnt : Nat)
  /-- BSPI_PROGRAM (R409). -/
  | bspiProgram (m : Master) (cnt : Nat)
  /-- BSPI_ERASE_4K (R409). -/
  | bspiErase4k (m : Master)
  /-- BSPI_CMD_END (R409). -/
  | bspiCmdEnd (failed : Bool)
  /-- GPIO_SWITCH_PARK (R417). -/
  | gpioSwitchPark (n : Nat)
  /-- GPIO_SWITCH_CONNECT (R417). -/
  | gpioSwitchConnect (n : Nat) (lev ext : List (Nat × Nat))
  /-- GPIO_LOCK_ARM (R421). -/
  | gpioLockArm (m : Master) (w core : Nat)
  /-- GPIO_LOCK_MASK_WRITE (R421). -/
  | gpioLockMaskWrite (m : Master) (mask : Nat)
  /-- GPIO_LOCK_COMMIT (R422). -/
  | gpioLockCommit (m : Master) (w : Nat)
  /-- GPIO_LOCK_TIMEOUT (R421). -/
  | gpioLockTimeout
  /-- BANK_SUPPLY_LOSS (R412). -/
  | bankSupplyLoss (b : Nat)
  /-- TAP_RESET (R427). -/
  | tapReset
  /-- EXTEST (R427). -/
  | extest (d : List Bool)
  /-- IDCODE (R427). -/
  | idcode
  /-- SAMPLE_PRELOAD (R427). -/
  | samplePreload (d : List Bool)
  /-- BYPASS (R427). -/
  | bypass
  /-- DBG_ACCESS (R428). -/
  | dbgAccess (op a v : Nat)
  /-- CFG_LOAD (R427). -/
  | cfgLoad (w : Nat)
  /-- DBG_AUTH_GO (R430). -/
  | dbgAuthGo (m : Master)
  /-- DBG_AUTH_END (R430). -/
  | dbgAuthEnd
  /-- DBG_TOKEN_DROP (R430). -/
  | dbgTokenDrop (m : Master)
  /-- DBG_STIM (R434). -/
  | dbgStim (m : Master) (core g v : Nat)
  /-- NAP_STIM_SAMPLE (R435). -/
  | napStimSample (r k chan v : Nat)
  /-- PMC_SEL_WRITE (R436). -/
  | pmcSelWrite (m : Master) (k v : Nat)
  /-- BR_RAISE (R437). -/
  | brRaise (x : BrSrc) (resv : List Nat)
  /-- BR_CLEAR (R440). -/
  | brClear (m : Master) (mask : Nat) (late : Bool)
  /-- HALT_DEFER_EXPIRE (R441). -/
  | haltDeferExpire (g : Nat) (ended : Bool)
  /-- BIST_SLICE_START (R446). -/
  | bistSliceStart (d : Nat)
  /-- BIST_SLICE_END (R445). -/
  | bistSliceEnd (d : Nat) (verified passed : Bool)
  /-- BST_MAPQ_WRITE (R451). -/
  | bstMapqWrite (m : Master) (unit : Nat)
  /-- BST_XP_GO (R449). -/
  | bstXpGo (m : Master) (alg unit : Nat)
  /-- BST_XP_END (R449). -/
  | bstXpEnd (fail : Option Nat)
  /-- SUPPLY_IN_RANGE (R382). -/
  | supplyInRange (k : Nat) (early : Bool)
  /-- BANK_SUPPLY_RETURN (R423). -/
  | bankSupplyReturn (b level : Nat)
  /-- PAIR_FAIL_IN_FALL (R333). -/
  | pairFailInFall
  /-- WIRE_TEST_RELEASE (R353). -/
  | wireTestRelease
  /-- WIRE_TEST_RELEASE_END (R353). -/
  | wireTestReleaseEnd
  /-- MIR_TRAIN_TIMEOUT (R339). -/
  | mirTrainTimeout
  /-- CONFIGURATION_UPSET (R101). -/
  | configurationUpset (far b : Nat)
  /-- MEMORY_BIT_ERROR (R270). -/
  | memoryBitError (mid row bit : Nat)
  /-- WIRE_FAULT (R138). -/
  | wireFault (d b w : Nat)
  /-- DIE_RESET (R147). -/
  | dieReset (d : Nat)
  /-- LANE_CDR_LOCK (R305). -/
  | laneCdrLock (n : Nat)
  /-- PCS_BLOCK_LOCK (R305). -/
  | pcsBlockLock (n : Nat)
  /-- PRBS_LOCK (R319). -/
  | prbsLock (n : Nat) (w : List Bool)
  /-- PRBS_LOCK_LOSS (R319). -/
  | prbsLockLoss (n : Nat) (w : List Bool)
  /-- TRACE_OUTPUT_RECORD (R432). -/
  | traceOutputRecord (i : Nat)
  /-- BOOT_FLASH_DATA (R66). -/
  | bootFlashData (k : Nat)
  /-- PCIE_CONFIG_REQUEST (R322). -/
  | pcieConfigRequest (e fn : Nat) (c : PciCfg)
  /-- PCIE_LINK_RETURN_TO_L0 (R314). -/
  | pcieLinkReturnToL0 (ep : Nat) (tx : List (Nat × List Nat))
  deriving DecidableEq, Repr

end Sys2Proof
end

