-- ==== Sys2Proof/Config.lean ====
section
/-! DEFINITION. What the part fixes and what the spec leaves open: constants without a body, so that no proof can
lean on a value the spec does not state. -/

namespace Sys2Proof

/-- A value the spec leaves open, as a function of the state's counter of open values: nothing constrains it. -/
opaque Config.freeValue : Nat → Nat

/-- The activate count at which a bank is due a refresh-management command: the stack's mode registers give it (10 R244). -/
opaque Config.rfmThreshold : Nat

/-- Whether the board's boot flash advertises 8D-8D-8D in its SFDP tables (03 R66): the board's, not the device's. -/
opaque Config.flashOctal : Bool

/-- The driver impedance code derived for a DRIVE setting (16 R424 gives no table): kind 0 NCODE, 1 PCODE. -/
opaque Config.padCode : Nat → Nat → Nat

/-- The divider derived for a serial port's MODE and RATE_KHZ (02 R63 does not say how it is rounded). -/
opaque Config.spDiv : Nat → Nat → Nat

/-- The vendor identifier that the eFuses hold (12 R322 gives no number). -/
opaque Config.vendorId : Nat → Nat

/-- The mode that a RAM block's 1,152 configuration bits select (02 R90: the routing graph lists their layout): 0 ECC, 1 PAR,
otherwise a mode whose ninth bits hold user data or are unused. -/
opaque Config.ramModeOf : Nat → Nat

/-- The CMD field of the hub's heartbeat frame, by the steers and forces that wait (05 R137 gives no coding). -/
opaque Config.hubCmd : List (Nat × Nat) → List (Nat × Nat × Nat) → Nat

/-- The signatures of the hub's wires in a period of a bundle: what the traffic makes of them (05 R138). -/
opaque Config.hubSig : Nat → Nat → List Nat

/-- The carry that leaves a cell with CARRY clear in the middle of a chain, by the carry that enters it (02 R40 says nothing of
such a cell). -/
opaque Config.carryGap : Bool → Bool

end Sys2Proof
end

