-- ==== Sys2Proof/Machine/Fabric.lean ====
section
/-! DEFINITION. The fabric's resources and logic elements as functions (02 R34, R37 to R48; 03 R89): routing multiplexers, cell,
carry chain, control set, RAM blocks, multiplier blocks and tap dividers. No command of the table evaluates a cell; what a loaded
design computes reaches the block through commands. -/

namespace Sys2Proof.Machine

def bitAt (w i : Nat) : Bool := w / 2 ^ i % 2 == 1
def bitNum (b : Bool) : Nat := if b then 1 else 0

/-! ## Routing (R34, R89) -/

/-- The routing points of a cluster (R34, R89). Each is a multiplexer: no wire has two drivers. -/
inductive RoutePoint where
  | input | len1 | len4 | len12 | long
  deriving DecidableEq, Repr

/-- How many a cluster has, and the first of its cluster bits, 24 for each (R89). -/
def RoutePoint.count : RoutePoint → Nat
  | .input => 48 | .len1 => 16 | .len4 => 32 | .len12 => 8 | .long => 32
def RoutePoint.base : RoutePoint → Nat
  | .input => 396 | .len1 => 1548 | .len4 => 1932 | .len12 => 2700 | .long => 2892

/-- How many clusters away a driven wire ends (R34); none for a point that drives no such wire. -/
def RoutePoint.reach : RoutePoint → Option Nat
  | .len1 => some 1 | .len4 => some 4 | .len12 => some 12 | .input | .long => none

/-- Wires of a kind driven in each of the four directions (R34). -/
def RoutePoint.perDirection (p : RoutePoint) : Nat := if p.reach.isSome then p.count / 4 else 0

/-- Clusters and long lines of a region (R34): 192 columns of 128 rows; 16 lines for each row and column. -/
def rgnClusters : Nat := 192 * 128
def rgnLongLines : Nat := 16 * 192 + 16 * 128
/-- Wires of a kind in a region. -/
def RoutePoint.inRegion (p : RoutePoint) : Nat := if p.reach.isSome then rgnClusters * p.count else rgnLongLines

/-- One stage of a routing multiplexer: the OR of the candidates whose select bits are set, 0 with none (R89). -/
def stageOr (sel : BitVec 12) (cand : Nat → Bool) : Bool := (List.range 12).any fun i => sel.getLsbD i && cand i

/-- A routing multiplexer (R89): `field` bit 0 selects first-stage candidate 0, bit 12 second-stage candidate 0. The routing graph
lists the candidates; those of the second stage may take the first stage's output. -/
def routeMux (field : BitVec 24) (first : Nat → Bool) (second : Bool → Nat → Bool) : Bool :=
  stageOr (field.extractLsb' 12 12) (second (stageOr (field.extractLsb' 0 12) first))

/-! ## Cells (R37 to R40) -/

/-- The 22 configuration bits of a cell (R37). -/
structure CellCfg where
  init : BitVec 16
  dsel : BitVec 2
  ffuse : Bool
  ival : Bool
  cset : Bool
  carry : Bool
  deriving DecidableEq, Repr

def CellCfg.ofBits (w : BitVec 22) : CellCfg :=
  ⟨w.extractLsb' 6 16, w.extractLsb' 4 2, w.getLsbD 3, w.getLsbD 2, w.getLsbD 1, w.getLsbD 0⟩

/-- The LUT output: INIT[8D + 4C + 2B + A] (R38). -/
def lutOut (init : BitVec 16) (a b c d : Bool) : Bool :=
  init.getLsbD (8 * bitNum d + 4 * bitNum c + 2 * bitNum b + bitNum a)

/-- Propagate and generate functions of a carry cell: INIT[15:8] and INIT[7:0] (R40). -/
def carryP (init : BitVec 16) (a b c : Bool) : Bool := init.getLsbD (8 + (4 * bitNum c + 2 * bitNum b + bitNum a))
def carryG (init : BitVec 16) (a b c : Bool) : Bool := init.getLsbD (4 * bitNum c + 2 * bitNum b + bitNum a)

/-- Sum and carry out of a carry cell (R40). -/
def carrySum (init : BitVec 16) (a b c cin : Bool) : Bool := carryP init a b c ^^ cin
def carryOut (init : BitVec 16) (a b c cin : Bool) : Bool := if carryP init a b c then cin else carryG init a b c

/-- The combinational output: the LUT, or the carry sum with CARRY (R38). -/
def cellOut (k : CellCfg) (a b c d cin : Bool) : Bool :=
  if k.carry then carrySum k.init a b c cin else lutOut k.init a b c d

/-- The flip-flop's data input (R37). -/
def cellD (k : CellCfg) (a b c d cin : Bool) : Bool :=
  match k.dsel.toNat with
  | 1 => carrySum k.init a b c cin
  | 2 => d
  | _ => lutOut k.init a b c d

/-- Control set (R39): tree, tap, clock enable use, set/reset mode. -/
structure CtlSet where
  tree : Bool
  tap : BitVec 3
  ceUse : Bool
  srMode : BitVec 2
  deriving DecidableEq, Repr

/-- The control set of 7 bits at bit 352 or 359 of a cluster (R89). -/
def CtlSet.ofBits (w : BitVec 7) : CtlSet := ⟨w.getLsbD 0, w.extractLsb' 1 3, w.getLsbD 4, w.extractLsb' 5 2⟩

/-- A flip-flop's start value: its IVAL, or its bit of the shadow with SRC SHADOW (R53). -/
def ffStart (k : CellCfg) (shadow : Option Bool) : Bool := shadow.getD k.ival

/-- A flip-flop at a clock edge: envelope reset hold at the start value, then set/reset to IVAL, then clock enable (R39, R50, R53).
An unused flip-flop is not clocked (R37). -/
def ffEdge (k : CellCfg) (cs : CtlSet) (hold : Bool) (shadow : Option Bool) (sr ce din q : Bool) : Bool :=
  if !k.ffuse then q
  else if hold then ffStart k shadow
  else if (cs.srMode.toNat == 1 || cs.srMode.toNat == 2) && sr then k.ival
  else if cs.ceUse && !ce then q
  else din

/-- A flip-flop between edges: the hold, and an asynchronous set/reset, act at once (R39, R50). -/
def ffAsync (k : CellCfg) (cs : CtlSet) (hold : Bool) (shadow : Option Bool) (sr q : Bool) : Bool :=
  if !k.ffuse then q
  else if hold then ffStart k shadow
  else if cs.srMode.toNat == 2 && sr then k.ival
  else q

/-- Carry into cell 0 of a cluster by CIN_SEL (R40): `south` is the carry of the cluster to the south, none in row 127. -/
def clusterCin (sel : BitVec 2) (south : Option Bool) (d0 : Bool) : Bool :=
  match sel.toNat with
  | 0 => south.getD false
  | 1 => false
  | 2 => true
  | _ => d0

/-- A cell of a chain with its inputs A, B, C. -/
structure ChainCell where
  cfg : CellCfg
  a : Bool
  b : Bool
  c : Bool
  deriving DecidableEq, Repr

/-- The carry that leaves a cell of the chain (R40); what passes a cell with CARRY clear is open. -/
def ChainCell.carry (k : ChainCell) (cin : Bool) : Bool :=
  if k.cfg.carry then carryOut k.cfg.init k.a k.b k.c cin else Config.carryGap cin

/-- The sums of a chain of cells, from cell 0 on, and the carry that leaves the last one: of cell 15, a cluster output and the carry
to the north (R40). -/
def chainRun (cin : Bool) : List ChainCell → List Bool × Bool
  | [] => ([], cin)
  | k :: t =>
    let r := chainRun (k.carry cin) t
    (carrySum k.cfg.init k.a k.b k.c cin :: r.1, r.2)

/-- A cluster's part of a chain: CIN_SEL, input D of cell 0, cells 0 to 15. -/
structure ChainCluster where
  cinSel : BitVec 2
  d0 : Bool
  cells : List ChainCell
  deriving DecidableEq, Repr

/-- The clusters of a column from row 127 northwards: each one's carry out of cell 15 reaches cell 0 of the next (R40). -/
def columnRun (south : Option Bool) : List ChainCluster → List (List Bool × Bool)
  | [] => []
  | k :: t =>
    let r := chainRun (clusterCin k.cinSel south k.d0) k.cells
    r :: columnRun (some r.2) t

/-- A chain of adder cells (INIT 0x6688) over bit pairs, low bit first: the sum bits and the carry out. -/
def chainAdd (cin : Bool) : List (Bool × Bool) → List Bool × Bool
  | [] => ([], cin)
  | (a, b) :: t =>
    let r := chainAdd (carryOut 0x6688 a b false cin) t
    (carrySum 0x6688 a b false cin :: r.1, r.2)

/-! ## The bits of a cluster (R89) -/

/-- What the 3,960 bits of a cluster say. -/
structure ClusterCfg where
  cells : List CellCfg
  set0 : CtlSet
  set1 : CtlSet
  cinSel : BitVec 2
  route : List (RoutePoint × List (BitVec 24))
  deriving DecidableEq, Repr

def ClusterCfg.ofBits (w : Nat) : ClusterCfg where
  cells := (List.range 16).map fun c => CellCfg.ofBits (BitVec.ofNat 22 (w / 2 ^ (22 * c)))
  set0 := CtlSet.ofBits (BitVec.ofNat 7 (w / 2 ^ 352))
  set1 := CtlSet.ofBits (BitVec.ofNat 7 (w / 2 ^ 359))
  cinSel := BitVec.ofNat 2 (w / 2 ^ 366)
  route := [RoutePoint.input, .len1, .len4, .len12, .long].map fun p =>
    (p, (List.range p.count).map fun i => BitVec.ofNat 24 (w / 2 ^ (p.base + 24 * i)))

/-- The control set that a cell's flip-flop uses (R37). -/
def ClusterCfg.setOf (k : ClusterCfg) (c : CellCfg) : CtlSet := if c.cset then k.set1 else k.set0

/-! ## RAM blocks (R41 to R43) -/

/-- A block's use (R41): whether each of its ports reads, and writes. An SDP block has one write port and one read port. -/
inductive RamUse where
  | sp | sdp | tdp
  deriving DecidableEq, Repr
def RamUse.ports : RamUse → List (Bool × Bool)
  | .sp => [(true, true)]
  | .sdp => [(false, true), (true, false)]
  | .tdp => [(true, true), (true, true)]

inductive RamMode where
  | ecc | par | w72 | w36 | w18 | w9 | w4 | w2 | w1
  deriving DecidableEq, Repr

/-- Depth and width (R41). -/
def RamMode.shape : RamMode → Nat × Nat
  | .ecc | .par => (512, 64)
  | .w72 => (512, 72) | .w36 => (1024, 36) | .w18 => (2048, 18) | .w9 => (4096, 9)
  | .w4 => (8192, 4) | .w2 => (16384, 2) | .w1 => (32768, 1)

/-- Two ports of one block may differ in width within one family only: 1, 2, 4, or 9, 18, 36, 72 (R41). -/
def ramPortsAgree (a b : RamMode) : Bool :=
  let narrow := fun (m : RamMode) => m == .w1 || m == .w2 || m == .w4
  let wide := fun (m : RamMode) => m == .w9 || m == .w18 || m == .w36 || m == .w72
  a == b || (narrow a && narrow b) || (wide a && wide b)

/-- A write in ECC mode with a byte enable clear is refused: the word stays (R42). -/
def eccPortWrite (old new : BitVec 64) (be : BitVec 8) : BitVec 64 × Bool :=
  if be = 0xFF then (new, false) else (old, true)

inductive WrMode where
  | writeFirst | readFirst | noChange
  deriving DecidableEq, Repr

/-- A port: its mode, WRMODE, and its own clock, from any leaf tap of either tree (R41). -/
structure RamPort where
  mode : RamMode
  wr : WrMode
  tree : Bool
  tap : BitVec 3
  deriving DecidableEq, Repr

/-- What an ECC-mode port reads (R42; 11 R271, R273): one wrong bit of the stored 72 is corrected with ERR_C, more are delivered as
stored with ERR_U. `bad` are the wrong positions, 64 to 71 check bits. -/
def eccPortRead (word : BitVec 64) (bad : List Nat) : BitVec 64 × Bool × Bool :=
  match bad with
  | [] => (word, false, false)
  | [_] => (word, true, false)
  | l => (l.foldl (fun w b => if b < 64 then w ^^^ BitVec.ofNat 64 (2 ^ b) else w) word, false, true)

/-- Even parity of a byte, and of the eight bytes of a word: the parity bits that the block writes (R41). -/
def parBit (b : BitVec 8) : Bool := (List.range 8).foldl (fun p i => p ^^ b.getLsbD i) false
def parBits (w : BitVec 64) : BitVec 8 :=
  (List.range 8).foldl (fun p i => if parBit (w.extractLsb' (8 * i) 8) then p ||| BitVec.ofNat 8 (2 ^ i) else p) 0

/-- A PAR-mode port writes the enabled bytes with their parity (R41). -/
def parPortWrite (old : BitVec 64 × BitVec 8) (new : BitVec 64) (be : BitVec 8) : BitVec 64 × BitVec 8 :=
  (List.range 8).foldl (fun r i =>
    if be.getLsbD i then
      let m := BitVec.ofNat 64 (255 * 2 ^ (8 * i))
      ((r.1 &&& ~~~m) ||| (new &&& m),
       (r.2 &&& ~~~(BitVec.ofNat 8 (2 ^ i))) ||| (if parBit (new.extractLsb' (8 * i) 8) then BitVec.ofNat 8 (2 ^ i) else 0))
    else r) old

/-- PERR of a PAR-mode port: the parity read differs from that of the bytes read (R41). -/
def parPortErr (w : BitVec 64) (p : BitVec 8) : Bool := parBits w != p

/-- What a port reads of the word that the other port writes (R43): with one clock edge the old word; with different clocks the whole
old or the whole new word, which the clocks decide (`newer`). No error or parity flag comes from the overlap. -/
def ramReadOther {w : Nat} (sameEdge newer : Bool) (old new : BitVec w) : BitVec w :=
  if sameEdge || !newer then old else new

/-- The output of a port that reads and writes in one cycle (R43). -/
def ramReadDuringWrite {w : Nat} (m : WrMode) (old new last : BitVec w) : BitVec w :=
  match m with
  | .writeFirst => new
  | .readFirst => old
  | .noChange => last

/-- Both ports of a TDP block write one word: port A's within the collision window, with COLL; the later one outside it (R43). -/
def ramCollide {w : Nat} (window aLater : Bool) (a b : BitVec w) : BitVec w × Bool :=
  if window then (a, true) else if aLater then (a, false) else (b, false)

/-! ## Multiplier blocks (R45, R46) -/

/-- An 18-bit operand as a number, signed or unsigned. -/
def mulOperand (signed : Bool) (x : BitVec 18) : Int := if signed then x.toInt else x.toNat

def mul18 (sa sb : Bool) (a b : BitVec 18) : BitVec 36 := BitVec.ofInt 36 (mulOperand sa a * mulOperand sb b)

/-- A 9-bit operand as a number. -/
def mulOperand9 (signed : Bool) (x : BitVec 9) : Int := if signed then x.toInt else x.toNat

/-- DUAL9: products of the low and the high halves (R45). -/
def dual9 (sa sb : Bool) (a b : BitVec 18) : BitVec 18 × BitVec 18 :=
  (BitVec.ofInt 18 (mulOperand9 sa (a.extractLsb' 0 9) * mulOperand9 sb (b.extractLsb' 0 9)),
   BitVec.ofInt 18 (mulOperand9 sa (a.extractLsb' 9 9) * mulOperand9 sb (b.extractLsb' 9 9)))

/-- A pipeline stage of a multiplier block (R45): used or bypassed; its clock enable and synchronous reset at an edge. -/
structure MulStage where
  used : Bool
  ce : Bool
  rst : Bool
  deriving DecidableEq, Repr

/-- The register of a stage at a clock edge. DEDUCED, log entry 87: the reset comes before the clock enable, as in a cell. -/
def MulStage.edge {w : Nat} (x : MulStage) (d q : BitVec w) : BitVec w :=
  if !x.used then q else if x.rst then 0 else if x.ce then d else q

/-- What a stage hands on: its register, or its input when bypassed. -/
def MulStage.out {w : Nat} (x : MulStage) (d q : BitVec w) : BitVec w := if x.used then q else d

/-- A MUL18 block: its clock, from any leaf tap of either tree, the signedness of its operands, its stages and their registers. -/
structure MulBlock where
  tree : Bool
  tap : BitVec 3
  sa : Bool
  sb : Bool
  inp : MulStage
  prod : MulStage
  outp : MulStage
  ra : BitVec 18
  rb : BitVec 18
  rm : BitVec 36
  rp : BitVec 36
  deriving DecidableEq, Repr

/-- The product at the input of the output stage, and the block's output, for operands a and b. -/
def MulBlock.product (x : MulBlock) (a b : BitVec 18) : BitVec 36 :=
  x.prod.out (mul18 x.sa x.sb (x.inp.out a x.ra) (x.inp.out b x.rb)) x.rm
def MulBlock.result (x : MulBlock) (a b : BitVec 18) : BitVec 36 := x.outp.out (x.product a b) x.rp

/-- The block's registers at an edge of its clock. -/
def MulBlock.edge (x : MulBlock) (a b : BitVec 18) : MulBlock :=
  { x with
    ra := x.inp.edge a x.ra
    rb := x.inp.edge b x.rb
    rm := x.prod.edge (mul18 x.sa x.sb (x.inp.out a x.ra) (x.inp.out b x.rb)) x.rm
    rp := x.outp.edge (x.product a b) x.rp }

inductive MaccOp where
  | add | sub | load | hold | clr
  deriving DecidableEq, Repr

/-- A 48-bit register as a number. -/
def accNum (signed : Bool) (p : BitVec 48) : Int := if signed then p.toInt else p.toNat

/-- A number lies in the 48-bit range of the signedness. -/
def inRange48 (signed : Bool) (x : Int) : Bool :=
  if signed then decide (-(2 ^ 47) ≤ x ∧ x < 2 ^ 47) else decide (0 ≤ x ∧ x < 2 ^ 48)

/-- MACC: the new P and OVF, which stays set until CLR or LOAD (R45, R46). -/
def macc (op : MaccOp) (sa sb signed : Bool) (a b : BitVec 18) (p : BitVec 48) (ovf : Bool) : BitVec 48 × Bool :=
  let m := mulOperand sa a * mulOperand sb b
  match op with
  | .load => (BitVec.ofInt 48 m, false)
  | .hold => (p, ovf)
  | .clr => (0, false)
  | .add => (BitVec.ofInt 48 (accNum signed p + m), ovf || !inRange48 signed (accNum signed p + m))
  | .sub => (BitVec.ofInt 48 (accNum signed p - m), ovf || !inRange48 signed (accNum signed p - m))

/-- CASC: the product added to the cascade input, modulo 2^48; the block at the south end takes 0 (R45, R46). -/
def casc (sa sb : Bool) (a b : BitVec 18) (cin : Option (BitVec 48)) : BitVec 48 :=
  BitVec.ofInt 48 (mulOperand sa a * mulOperand sb b) + cin.getD 0

/-! ## Tap dividers (R47, R48) -/

/-- Cycles of its source that a tap with DIV code d makes into one. -/
def tapRatio (d : Nat) : Nat := 2 ^ (d % 4)

/-- The divider's count after a rising edge of the source. -/
def tapCount (d n : Nat) : Nat := (n + 1) % tapRatio d

/-- A divided tap rises with the source's edge at which its count is zero (R48): every rising edge of the tap is one of the source. -/
def tapRises (d n : Nat) : Bool := n % tapRatio d == 0

end Sys2Proof.Machine
end

