-- ==== Sys2Proof/Machine/RegId.lean ====
section
/-! DEFINITION. The names of the register kinds of the device (one per register table or prose register of the spec),
and of the register blocks of R25. -/

namespace Sys2Proof.Machine

/-- The register blocks of the management address map (R25). -/
inductive Block where
  | HUB | PWR | CLK | CFG | CMX | NOC | DMC | SEC | LNE | PCI | ENG | GPIO | DBG | BST | MIR | ECC | FAB
  deriving DecidableEq, Repr

/-- One constructor for each kind of register the spec names; an instance is a kind with its instance numbers. -/
inductive RegId where
  | HUB_ID | HUB_CTRL | HUB_STATUS | HUB_GRADE | FEAT_CAP | FEAT_ACCEPT | FEAT_COMMIT | HUB_SUPPLY | HUB_DROPLOG_ADDR 
  | HUB_DROPLOG_INFO | HUB_ADMIT | HUB_ATTN | HUB_ATTN_POP | HUB_ATTN_SRC | HUB_MSIX_RAISE | HUB_LC_STATE 
  | HUB_LC_CMD | HUB_LC_STATUS | HUB_LC_NONCE_LO | HUB_LC_NONCE_HI | HDMA_HBM_LO | HDMA_HBM_HI | HDMA_OFF 
  | HDMA_LEN | HUB_HDMA_CTRL | HUB_HDMA_STATUS | HUB_RGN_STATE | HUB_LC_BUF | HUB_BSPI_CMD | HUB_BSPI_ADDR 
  | HUB_BSPI_STATUS | HUB_BSPI_BUF | HUB_EVQ | MBX_ID | MBX_H2F_DB | MBX_H2F_CI | MBX_F2H_PI | MBX_F2H_CI 
  | MBX_EVT_PI | MBX_EVT_CI | MBX_STATUS | MBX_H2F_RING | MBX_F2H_RING | MBX_EVT_RING | MBX_MSIX | MBX_PBA 
  | HUB_XP_SMB | PWR_CTRL | PWR_THERM_CFG | PWR_THERM_STATUS | PWR_DOM_CTRL | PWR_DOM_STATUS | PWR_TEMP 
  | PWR_XP_RAMP | CLK_CTRL | CLK_JUDGE | CLK_JUDGE_CNT | CLK_PLL_CFG | CLK_PLL_STATUS | CLK_PLL_XP | CLK_DOM_CTRL 
  | CLK_DOM_STATUS | CFG_CTRL | CFG_DEVINFO | CFG_SERIAL_LO | CFG_SERIAL_HI | CFG_BOOT_STATUS | CFG_BOOT_CTRL 
  | CFG_LD_CTRL | CFG_LD_SRC | CFG_LD_LEN | CFG_LD_STATUS | CFG_BKEY | CFG_XP_PACE | CFG_INTEG_CTRL | CFG_GOLD_BASE 
  | CFG_INTEG_STATUS | CFG_UPSET_ADDR | CFG_UPSET_INFO | CFG_GOLD_VALID | CFG_CAP_CTRL | CFG_CAP_MASK 
  | CFG_CAP_ADDR | CFG_CAP_STATUS | CFG_CAP_IVHI | CFG_BAL | CFG_PDIG | CMX_DIE_CTRL | CMX_DIE_STATUS 
  | CMX_XP_TRAIN | CMX_B_CTRL | CMX_B_STATUS | CMX_B_ERR | CMX_B_SPARE | CMX_B_BAD | CMX_XR | NOC_CTRL 
  | NOC_STATUS | NOC_EPOCH | NOC_TIME | NOC_XP_LINK | NOC_ROUTER_CTRL | NOC_ROUTER_STATUS | NOC_PORT_CTRL 
  | NOC_PORT_STATUS | NOC_PRB_CTRL | NOC_PRB_FLT | NOC_PRB_CNT | NOC_ROUTE | NOC_SLOT | NOC_ARB_CTRL 
  | NOC_ARB_DROGUE | NOC_ARB_STATUS | NOC_ARB_COUNT | DMC_ARB_CTRL | DMC_ARB_DROGUE | DMC_ARB_STATUS 
  | DMC_ARB_COUNT | ENG_ARB_CTRL | ENG_ARB_DROGUE | ENG_ARB_STATUS | ENG_ARB_COUNT | CFG_ARB_RB_CTRL 
  | CFG_ARB_RB_DROGUE | CFG_ARB_RB_STATUS | CFG_ARB_RB_COUNT | CFG_ARB_CAP_CTRL | CFG_ARB_CAP_DROGUE 
  | CFG_ARB_CAP_STATUS | CFG_ARB_CAP_COUNT | CMX_ARB_CTRL | CMX_ARB_DROGUE | CMX_ARB_STATUS | CMX_ARB_COUNT 
  | MIR_ARB_CTRL | MIR_ARB_DROGUE | MIR_ARB_STATUS | MIR_ARB_COUNT | ENG_MODE | ENG_DP_FLAGS | ENG_STRM_CFG 
  | ENG_STRM_STATUS | ENG_STRM_CTRL | ENG_STRM_STALL | ENG_CTRL | ENG_STATUS | ENG_PC | ENG_EXC | ENG_WDT 
  | ENG_WDT_COUNT | ENG_STIM_CTRL | ENG_STIM_STATUS | ENG_REGSEL | ENG_REGDATA | ENG_CYCLES | ENG_RETIRED 
  | ENG_DMA_LADDR | ENG_DMA_RADDR_LO | ENG_DMA_RADDR_HI | ENG_DMA_LEN | ENG_DMA_CTRL | ENG_DMA_STATUS 
  | ENG_MEM_MAP | ENG_TRIO_CTRL | ENG_TRIO_PWR | ENG_TRIO_CLK | ENG_TRIO_XP | DMC_GLB_CTRL | DMC_CTRL 
  | DMC_STATUS | DMC_PAGE | DMC_WQ | DMC_SR | DMC_REF | DMC_REF_STATUS | DMC_RECAL | DMC_LINK_CFG | DMC_LINK_ERR 
  | DMC_TRAIN | DMC_PORT_QOS | DMC_PORT_STAT | DMC_XP_T0 | DMC_XP_T1 | DMC_XP_T2 | DMC_XP_T3 | DMC_ECC_CNT 
  | DMC_ECC_LAST_ADDR | DMC_ECC_LAST_INFO | DMC_MRG_STATUS | ECC_CTRL | ECC_NOTIFY | ECC_SEL | ECC_MSTAT 
  | ECC_MCLR | ECC_MLOG | ECC_SCRUB_BASE | ECC_SCRUB_LEN | ECC_SCRUB_CTRL | ECC_SCRUB_STATUS | ECC_SCRUB_COUNT 
  | ECC_SCRUB_FIRST_LO | ECC_SCRUB_FIRST_HI | ECC_SCRUB_LAST_LO | ECC_SCRUB_LAST_HI | ECC_XP_INJ | SEC_CTRL 
  | SEC_KEYLOAD | SEC_K_CTRL | SEC_K_RANGE | SEC_K_LBN_LO | SEC_K_LBN_HI | SEC_K_STATUS | SEC_K_XP | SEC_LOG_ADDR 
  | SEC_LOG_INFO | LNE_GLB_CTRL | LNE_GLB_EQ_STATUS | LNE_Q_CFG | LNE_Q_STATUS | LNE_CTRL | LNE_STATUS 
  | LNE_PRBS_CTRL | LNE_PRBS_STATUS | LNE_INJ | LNE_SLIP | LNE_FEC_CNT | LNE_DROP | LNE_RX_BASE | LNE_RX_DST 
  | LNE_PRBS_ERRS_LO | LNE_PRBS_ERRS_HI | LNE_PRBS_BITS_LO | LNE_PRBS_BITS_HI | LNE_RX_SNAP_LO | LNE_RX_SNAP_HI 
  | LNE_TX_FILL_LO | LNE_TX_FILL_HI | LNE_XP_EQ_CTRL | LNE_XP_EQ_W | PCI_CTRL | PCI_EP_CTRL | PCI_EP_STATUS 
  | PCI_PF_HBMWIN | PCI_VF_WIN | PCI_OWIN_LO | PCI_OWIN_HI | PCI_OWIN_CTRL | MIR_CTRL | MIR_STATUS | MIR_AREA 
  | MIR_EPOCH | MIR_EPOCH_TX | MIR_EPOCH_ACK | MIR_EPOCH_CMT | MIR_SEQ_TX_LO | MIR_SEQ_TX_HI | MIR_SEQ_RX_LO 
  | MIR_SEQ_RX_HI | MIR_COUNT | MIR_KEY | MIR_PL_CFG | MIR_PL_RANGE | MIR_PL_STATUS | MIR_RGN | MIR_XP_LINK 
  | GPIO_CTRL | GPIO_BANK_STATUS | GPIO_PIN_PAD | GPIO_PIN_STATUS | GPIO_OUT | GPIO_OE | GPIO_IN | GPIO_RMAP 
  | GPIO_SMAP | GPIO_CKMAP | GPIO_TMAP | GPIO_LOCK | GPIO_LOCK_MASK | GPIO_LOCK_STATUS | GPIO_LOCKED 
  | GPIO_XP_PAD | DBG_CTRL | DBG_STATUS | DBG_AUTH_CMD | DBG_AUTH_STATUS | DBG_AUTH_NONCE_LO | DBG_AUTH_NONCE_HI 
  | DBG_AUTH_BUF | DBG_TRC_CTRL | DBG_TRC_BASE | DBG_TRC_STATUS | DBG_TRC_WPTR | DBG_STIM | DBG_STIM_CHAN 
  | DBG_STIM_RGN | DBG_PMC_SEL | DBG_PMC_LO | DBG_PMC_HI | DBG_BR_RAISE | DBG_BR_STATE | DBG_BR_CORE 
  | DBG_BR_ENG | DBG_BR_RGN | DBG_BR_PRB | DBG_XP_TRC | BST_CTRL | BST_SCHED | BST_STATUS | BST_MAPQ 
  | BST_XP_CMD | BST_XP_STATUS | FAB_DIE_CTRL | FAB_ROSC_CTRL | FAB_ROSC_MEAS | FAB_ROSC_TRIM | FAB_FL_CTRL 
  | FAB_FL_STATUS | FAB_FL_BUF | FAB_SP_CTRL | FAB_SP_RATE | FAB_SP_FMT | FAB_SP_STATUS | FAB_SP_DATA 
  | FAB_SP_DIV | FAB_RGN_ENV_STATUS | FAB_RGN_ENV_CTRL | FAB_RGN_CLKT | FAB_RGN_TAP 
  deriving DecidableEq, Repr

end Sys2Proof.Machine
end

