-- ==== Sys2Proof/Machine/RegMap.lean ====
section
/-! DEFINITION. The addresses of the registers and their fields, as the register tables of the spec place them
(00 R2 to 17 R451; block bases 01 R25). A field is the address of its register, its lowest bit and its width. -/

namespace Sys2Proof.Machine

/-- A field of a register instance: the register's management address, the field's lowest bit, its width. -/
structure Fld where
  addr : Nat
  lo : Nat
  w : Nat
  deriving DecidableEq, Repr

/-- The key under which the state holds the field. -/
def Fld.key (f : Fld) : Nat := f.addr * 32 + f.lo

namespace Reg

/-- HUB_ID (00 R2). -/
def HUB_ID : Nat := 0xF000000000
def HUB_ID_ID : Fld := ⟨HUB_ID, 0, 32⟩
/-- HUB_CTRL (15 R411). -/
def HUB_CTRL : Nat := 0xF000000004
def HUB_CTRL_OWNER : Fld := ⟨HUB_CTRL, 30, 2⟩
def HUB_CTRL_XP_ENABLE : Fld := ⟨HUB_CTRL, 8, 1⟩
/-- HUB_STATUS (15 R411). -/
def HUB_STATUS : Nat := 0xF000000008
def HUB_STATUS_FIELD_BUSY : Fld := ⟨HUB_STATUS, 7, 1⟩
def HUB_STATUS_HBM_KEPT : Fld := ⟨HUB_STATUS, 4, 1⟩
def HUB_STATUS_RECOVERY : Fld := ⟨HUB_STATUS, 3, 1⟩
def HUB_STATUS_COMMITTED : Fld := ⟨HUB_STATUS, 2, 1⟩
def HUB_STATUS_SHELL_UP : Fld := ⟨HUB_STATUS, 1, 1⟩
/-- HUB_GRADE (00 R2). -/
def HUB_GRADE : Nat := 0xF000000010
def HUB_GRADE_PKG : Fld := ⟨HUB_GRADE, 8, 8⟩
def HUB_GRADE_TEMP : Fld := ⟨HUB_GRADE, 4, 4⟩
def HUB_GRADE_SPEED : Fld := ⟨HUB_GRADE, 0, 4⟩
/-- FEAT_CAP (15 R395). -/
def FEAT_CAP (k : Nat) : Nat := 0xF000000020 + 0x4 * k
def FEAT_CAP_CAP (k : Nat) : Fld := ⟨FEAT_CAP k, 0, 32⟩
/-- FEAT_ACCEPT (15 R395). -/
def FEAT_ACCEPT (k : Nat) : Nat := 0xF000000030 + 0x4 * k
def FEAT_ACCEPT_ACCEPT (k : Nat) : Fld := ⟨FEAT_ACCEPT k, 0, 32⟩
/-- FEAT_COMMIT (15 R395). -/
def FEAT_COMMIT : Nat := 0xF000000040
def FEAT_COMMIT_COMMIT : Fld := ⟨FEAT_COMMIT, 0, 1⟩
/-- HUB_SUPPLY (15 R383). -/
def HUB_SUPPLY : Nat := 0xF000000050
def HUB_SUPPLY_SEQ_ERR : Fld := ⟨HUB_SUPPLY, 31, 1⟩
def HUB_SUPPLY_DROOP : Fld := ⟨HUB_SUPPLY, 30, 1⟩
def HUB_SUPPLY_NV_OK : Fld := ⟨HUB_SUPPLY, 29, 1⟩
def HUB_SUPPLY_IN_RANGE : Fld := ⟨HUB_SUPPLY, 0, 10⟩
/-- HUB_DROPLOG_ADDR (15 R398). -/
def HUB_DROPLOG_ADDR : Nat := 0xF000000060
def HUB_DROPLOG_ADDR_ADDR : Fld := ⟨HUB_DROPLOG_ADDR, 0, 32⟩
/-- HUB_DROPLOG_INFO (15 R398). -/
def HUB_DROPLOG_INFO : Nat := 0xF000000064
def HUB_DROPLOG_INFO_VALID : Fld := ⟨HUB_DROPLOG_INFO, 31, 1⟩
def HUB_DROPLOG_INFO_LOST : Fld := ⟨HUB_DROPLOG_INFO, 30, 1⟩
def HUB_DROPLOG_INFO_MASTER : Fld := ⟨HUB_DROPLOG_INFO, 27, 3⟩
def HUB_DROPLOG_INFO_CAUSE : Fld := ⟨HUB_DROPLOG_INFO, 23, 4⟩
def HUB_DROPLOG_INFO_ADDR_HI : Fld := ⟨HUB_DROPLOG_INFO, 8, 8⟩
/-- HUB_ADMIT (15 R389). -/
def HUB_ADMIT : Nat := 0xF000000070
def HUB_ADMIT_RESULT : Fld := ⟨HUB_ADMIT, 0, 32⟩
/-- HUB_ATTN (15 R397). -/
def HUB_ATTN : Nat := 0xF000000080
def HUB_ATTN_VALUE : Fld := ⟨HUB_ATTN, 0, 32⟩
/-- HUB_ATTN_POP (15 R411). -/
def HUB_ATTN_POP : Nat := 0xF000000084
def HUB_ATTN_POP_VALUE : Fld := ⟨HUB_ATTN_POP, 0, 32⟩
/-- HUB_ATTN_SRC (15 R411). -/
def HUB_ATTN_SRC : Nat := 0xF000000088
def HUB_ATTN_SRC_VALID : Fld := ⟨HUB_ATTN_SRC, 31, 1⟩
def HUB_ATTN_SRC_MASTER : Fld := ⟨HUB_ATTN_SRC, 0, 3⟩
/-- HUB_MSIX_RAISE (15 R403). -/
def HUB_MSIX_RAISE : Nat := 0xF000000090
def HUB_MSIX_RAISE_FUNC : Fld := ⟨HUB_MSIX_RAISE, 25, 7⟩
def HUB_MSIX_RAISE_VEC : Fld := ⟨HUB_MSIX_RAISE, 0, 6⟩
/-- HUB_LC_STATE (15 R393). -/
def HUB_LC_STATE : Nat := 0xF000000100
def HUB_LC_STATE_REVOKED : Fld := ⟨HUB_LC_STATE, 8, 4⟩
def HUB_LC_STATE_KEYS : Fld := ⟨HUB_LC_STATE, 4, 4⟩
def HUB_LC_STATE_KEY0_DEAD : Fld := ⟨HUB_LC_STATE, 3, 1⟩
def HUB_LC_STATE_STATE : Fld := ⟨HUB_LC_STATE, 0, 3⟩
/-- HUB_LC_CMD (15 R393). -/
def HUB_LC_CMD : Nat := 0xF000000104
def HUB_LC_CMD_IDX : Fld := ⟨HUB_LC_CMD, 4, 2⟩
def HUB_LC_CMD_CMD : Fld := ⟨HUB_LC_CMD, 0, 4⟩
/-- HUB_LC_STATUS (15 R393). -/
def HUB_LC_STATUS : Nat := 0xF000000108
def HUB_LC_STATUS_ERR : Fld := ⟨HUB_LC_STATUS, 28, 4⟩
def HUB_LC_STATUS_FIELD_BUSY : Fld := ⟨HUB_LC_STATUS, 27, 1⟩
def HUB_LC_STATUS_DONE : Fld := ⟨HUB_LC_STATUS, 1, 1⟩
def HUB_LC_STATUS_BUSY : Fld := ⟨HUB_LC_STATUS, 0, 1⟩
/-- HUB_LC_NONCE_LO (15 R393). -/
def HUB_LC_NONCE_LO : Nat := 0xF00000010C
def HUB_LC_NONCE_LO_NONCE : Fld := ⟨HUB_LC_NONCE_LO, 0, 32⟩
/-- HUB_LC_NONCE_HI (15 R393). -/
def HUB_LC_NONCE_HI : Nat := 0xF000000110
def HUB_LC_NONCE_HI_NONCE : Fld := ⟨HUB_LC_NONCE_HI, 0, 32⟩
/-- HDMA_HBM_LO (15 R406). -/
def HDMA_HBM_LO (c : Nat) : Nat := 0xF000000200 + 0x20 * c
def HDMA_HBM_LO_ADDR (c : Nat) : Fld := ⟨HDMA_HBM_LO c, 0, 32⟩
/-- HDMA_HBM_HI (15 R406). -/
def HDMA_HBM_HI (c : Nat) : Nat := 0xF000000204 + 0x20 * c
def HDMA_HBM_HI_ADDR (c : Nat) : Fld := ⟨HDMA_HBM_HI c, 0, 8⟩
/-- HDMA_OFF (15 R406). -/
def HDMA_OFF (c : Nat) : Nat := 0xF000000208 + 0x20 * c
def HDMA_OFF_OFF (c : Nat) : Fld := ⟨HDMA_OFF c, 0, 32⟩
/-- HDMA_LEN (15 R406). -/
def HDMA_LEN (c : Nat) : Nat := 0xF00000020C + 0x20 * c
def HDMA_LEN_LEN (c : Nat) : Fld := ⟨HDMA_LEN c, 0, 32⟩
/-- HUB_HDMA_CTRL (15 R406). -/
def HUB_HDMA_CTRL (c : Nat) : Nat := 0xF000000210 + 0x20 * c
def HUB_HDMA_CTRL_GO (c : Nat) : Fld := ⟨HUB_HDMA_CTRL c, 31, 1⟩
def HUB_HDMA_CTRL_ABORT (c : Nat) : Fld := ⟨HUB_HDMA_CTRL c, 30, 1⟩
def HUB_HDMA_CTRL_LEASE (c : Nat) : Fld := ⟨HUB_HDMA_CTRL c, 16, 8⟩
def HUB_HDMA_CTRL_WIN (c : Nat) : Fld := ⟨HUB_HDMA_CTRL c, 8, 8⟩
def HUB_HDMA_CTRL_DIR (c : Nat) : Fld := ⟨HUB_HDMA_CTRL c, 0, 1⟩
/-- HUB_HDMA_STATUS (15 R406). -/
def HUB_HDMA_STATUS (c : Nat) : Nat := 0xF000000214 + 0x20 * c
def HUB_HDMA_STATUS_ERR (c : Nat) : Fld := ⟨HUB_HDMA_STATUS c, 28, 4⟩
def HUB_HDMA_STATUS_RSTATUS (c : Nat) : Fld := ⟨HUB_HDMA_STATUS c, 25, 3⟩
def HUB_HDMA_STATUS_FIELD_BUSY (c : Nat) : Fld := ⟨HUB_HDMA_STATUS c, 2, 1⟩
def HUB_HDMA_STATUS_DONE (c : Nat) : Fld := ⟨HUB_HDMA_STATUS c, 1, 1⟩
def HUB_HDMA_STATUS_BUSY (c : Nat) : Fld := ⟨HUB_HDMA_STATUS c, 0, 1⟩
/-- HUB_RGN_STATE (01 R21). -/
def HUB_RGN_STATE (r : Nat) : Nat := 0xF000000400 + 0x4 * r
def HUB_RGN_STATE_DIE (r : Nat) : Fld := ⟨HUB_RGN_STATE r, 24, 3⟩
def HUB_RGN_STATE_LEASE (r : Nat) : Fld := ⟨HUB_RGN_STATE r, 16, 8⟩
def HUB_RGN_STATE_REL_PEND (r : Nat) : Fld := ⟨HUB_RGN_STATE r, 13, 1⟩
def HUB_RGN_STATE_RELEASE (r : Nat) : Fld := ⟨HUB_RGN_STATE r, 12, 1⟩
def HUB_RGN_STATE_MIRRORED (r : Nat) : Fld := ⟨HUB_RGN_STATE r, 11, 1⟩
def HUB_RGN_STATE_ENV (r : Nat) : Fld := ⟨HUB_RGN_STATE r, 8, 3⟩
def HUB_RGN_STATE_STATE (r : Nat) : Fld := ⟨HUB_RGN_STATE r, 0, 4⟩
/-- HUB_LC_BUF (15 R393). -/
def HUB_LC_BUF (j : Nat) : Nat := 0xF000000800 + 0x4 * j
def HUB_LC_BUF_WORD (j : Nat) : Fld := ⟨HUB_LC_BUF j, 0, 32⟩
/-- HUB_BSPI_CMD (15 R409). -/
def HUB_BSPI_CMD : Nat := 0xF000001000
def HUB_BSPI_CMD_COUNT : Fld := ⟨HUB_BSPI_CMD, 8, 8⟩
def HUB_BSPI_CMD_OP : Fld := ⟨HUB_BSPI_CMD, 0, 4⟩
/-- HUB_BSPI_ADDR (15 R409). -/
def HUB_BSPI_ADDR : Nat := 0xF000001004
def HUB_BSPI_ADDR_ADDR : Fld := ⟨HUB_BSPI_ADDR, 0, 32⟩
/-- HUB_BSPI_STATUS (15 R409). -/
def HUB_BSPI_STATUS : Nat := 0xF000001008
def HUB_BSPI_STATUS_ERR : Fld := ⟨HUB_BSPI_STATUS, 28, 4⟩
def HUB_BSPI_STATUS_FIELD_BUSY : Fld := ⟨HUB_BSPI_STATUS, 2, 1⟩
def HUB_BSPI_STATUS_DONE : Fld := ⟨HUB_BSPI_STATUS, 1, 1⟩
def HUB_BSPI_STATUS_BUSY : Fld := ⟨HUB_BSPI_STATUS, 0, 1⟩
/-- HUB_BSPI_BUF (15 R409). -/
def HUB_BSPI_BUF (j : Nat) : Nat := 0xF000001100 + 0x4 * j
def HUB_BSPI_BUF_WORD (j : Nat) : Fld := ⟨HUB_BSPI_BUF j, 0, 32⟩
/-- HUB_EVQ (15 R411). -/
def HUB_EVQ (k : Nat) : Nat := 0xF000002000 + 0x4 * k
def HUB_EVQ_WORD (k : Nat) : Fld := ⟨HUB_EVQ k, 0, 32⟩
/-- MBX_ID (15 R399). -/
def MBX_ID (f : Nat) : Nat := 0xF000100000 + 0x10000 * f
def MBX_ID_VERSION (f : Nat) : Fld := ⟨MBX_ID f, 16, 16⟩
def MBX_ID_F (f : Nat) : Fld := ⟨MBX_ID f, 0, 7⟩
/-- MBX_H2F_DB (15 R399). -/
def MBX_H2F_DB (f : Nat) : Nat := 0xF000100004 + 0x10000 * f
def MBX_H2F_DB_PI (f : Nat) : Fld := ⟨MBX_H2F_DB f, 0, 16⟩
/-- MBX_H2F_CI (15 R399). -/
def MBX_H2F_CI (f : Nat) : Nat := 0xF000100008 + 0x10000 * f
def MBX_H2F_CI_CI (f : Nat) : Fld := ⟨MBX_H2F_CI f, 0, 16⟩
/-- MBX_F2H_PI (15 R399). -/
def MBX_F2H_PI (f : Nat) : Nat := 0xF00010000C + 0x10000 * f
def MBX_F2H_PI_PI (f : Nat) : Fld := ⟨MBX_F2H_PI f, 0, 16⟩
/-- MBX_F2H_CI (15 R399). -/
def MBX_F2H_CI (f : Nat) : Nat := 0xF000100010 + 0x10000 * f
def MBX_F2H_CI_CI (f : Nat) : Fld := ⟨MBX_F2H_CI f, 0, 16⟩
/-- MBX_EVT_PI (15 R399). -/
def MBX_EVT_PI (f : Nat) : Nat := 0xF000100014 + 0x10000 * f
def MBX_EVT_PI_PI (f : Nat) : Fld := ⟨MBX_EVT_PI f, 0, 16⟩
/-- MBX_EVT_CI (15 R399). -/
def MBX_EVT_CI (f : Nat) : Nat := 0xF000100018 + 0x10000 * f
def MBX_EVT_CI_CI (f : Nat) : Fld := ⟨MBX_EVT_CI f, 0, 16⟩
/-- MBX_STATUS (15 R399). -/
def MBX_STATUS (f : Nat) : Nat := 0xF000100020 + 0x10000 * f
def MBX_STATUS_RECOVERY (f : Nat) : Fld := ⟨MBX_STATUS f, 3, 1⟩
def MBX_STATUS_DB_ERR (f : Nat) : Fld := ⟨MBX_STATUS f, 2, 1⟩
def MBX_STATUS_EVT_EN (f : Nat) : Fld := ⟨MBX_STATUS f, 1, 1⟩
def MBX_STATUS_FW_UP (f : Nat) : Fld := ⟨MBX_STATUS f, 0, 1⟩
/-- MBX_H2F_RING (15 R399). -/
def MBX_H2F_RING (f j : Nat) : Nat := 0xF000101000 + 0x10000 * f + 0x4 * j
def MBX_H2F_RING_WORD (f j : Nat) : Fld := ⟨MBX_H2F_RING f j, 0, 32⟩
/-- MBX_F2H_RING (15 R399). -/
def MBX_F2H_RING (f j : Nat) : Nat := 0xF000102000 + 0x10000 * f + 0x4 * j
def MBX_F2H_RING_WORD (f j : Nat) : Fld := ⟨MBX_F2H_RING f j, 0, 32⟩
/-- MBX_EVT_RING (15 R399). -/
def MBX_EVT_RING (f j : Nat) : Nat := 0xF000103000 + 0x10000 * f + 0x4 * j
def MBX_EVT_RING_WORD (f j : Nat) : Fld := ⟨MBX_EVT_RING f j, 0, 32⟩
/-- MBX_MSIX (15 R399). -/
def MBX_MSIX (f j : Nat) : Nat := 0xF000108000 + 0x10000 * f + 0x4 * j
def MBX_MSIX_WORD (f j : Nat) : Fld := ⟨MBX_MSIX f j, 0, 32⟩
/-- MBX_PBA (15 R399). -/
def MBX_PBA (f j : Nat) : Nat := 0xF000109000 + 0x10000 * f + 0x4 * j
def MBX_PBA_WORD (f j : Nat) : Fld := ⟨MBX_PBA f j, 0, 32⟩
/-- HUB_XP_SMB (15 R411). -/
def HUB_XP_SMB : Nat := 0xF000800000
def HUB_XP_SMB_ADDR : Fld := ⟨HUB_XP_SMB, 0, 7⟩
/-- PWR_CTRL (14 R380). -/
def PWR_CTRL : Nat := 0xF001000000
def PWR_CTRL_OWNER : Fld := ⟨PWR_CTRL, 30, 2⟩
def PWR_CTRL_XP_ENABLE : Fld := ⟨PWR_CTRL, 8, 1⟩
def PWR_CTRL_FIELD_BUSY : Fld := ⟨PWR_CTRL, 0, 1⟩
/-- PWR_THERM_CFG (14 R380). -/
def PWR_THERM_CFG : Nat := 0xF001000010
def PWR_THERM_CFG_TRIP_C : Fld := ⟨PWR_THERM_CFG, 8, 8⟩
def PWR_THERM_CFG_WARN_C : Fld := ⟨PWR_THERM_CFG, 0, 8⟩
/-- PWR_THERM_STATUS (14 R380). -/
def PWR_THERM_STATUS : Nat := 0xF001000014
def PWR_THERM_STATUS_TRIPPED : Fld := ⟨PWR_THERM_STATUS, 31, 1⟩
def PWR_THERM_STATUS_WARN : Fld := ⟨PWR_THERM_STATUS, 30, 1⟩
def PWR_THERM_STATUS_HOTTEST : Fld := ⟨PWR_THERM_STATUS, 16, 6⟩
def PWR_THERM_STATUS_MAX : Fld := ⟨PWR_THERM_STATUS, 0, 12⟩
/-- PWR_DOM_CTRL (14 R380). -/
def PWR_DOM_CTRL (n : Nat) : Nat := 0xF001000100 + 0x8 * n
def PWR_DOM_CTRL_REQ (n : Nat) : Fld := ⟨PWR_DOM_CTRL n, 0, 2⟩
/-- PWR_DOM_STATUS (14 R380). -/
def PWR_DOM_STATUS (n : Nat) : Nat := 0xF001000104 + 0x8 * n
def PWR_DOM_STATUS_ERR (n : Nat) : Fld := ⟨PWR_DOM_STATUS n, 28, 4⟩
def PWR_DOM_STATUS_WAKE_US (n : Nat) : Fld := ⟨PWR_DOM_STATUS n, 6, 16⟩
def PWR_DOM_STATUS_STATE (n : Nat) : Fld := ⟨PWR_DOM_STATUS n, 4, 2⟩
/-- PWR_TEMP (14 R380). -/
def PWR_TEMP (n : Nat) : Nat := 0xF001001000 + 0x4 * n
def PWR_TEMP_VALID (n : Nat) : Fld := ⟨PWR_TEMP n, 31, 1⟩
def PWR_TEMP_TEMP (n : Nat) : Fld := ⟨PWR_TEMP n, 0, 12⟩
/-- PWR_XP_RAMP (14 R380). -/
def PWR_XP_RAMP : Nat := 0xF001002000
def PWR_XP_RAMP_RAMP_US : Fld := ⟨PWR_XP_RAMP, 0, 8⟩
/-- CLK_CTRL (14 R379). -/
def CLK_CTRL : Nat := 0xF002000000
def CLK_CTRL_OWNER : Fld := ⟨CLK_CTRL, 30, 2⟩
def CLK_CTRL_XP_ENABLE : Fld := ⟨CLK_CTRL, 8, 1⟩
def CLK_CTRL_AON_AUTO : Fld := ⟨CLK_CTRL, 2, 1⟩
def CLK_CTRL_REF_AUTO : Fld := ⟨CLK_CTRL, 1, 1⟩
/-- CLK_JUDGE (14 R379). -/
def CLK_JUDGE : Nat := 0xF002000004
def CLK_JUDGE_BAD_WINDOWS : Fld := ⟨CLK_JUDGE, 16, 8⟩
def CLK_JUDGE_REF1_MARKED : Fld := ⟨CLK_JUDGE, 11, 1⟩
def CLK_JUDGE_REF0_MARKED : Fld := ⟨CLK_JUDGE, 10, 1⟩
def CLK_JUDGE_AON_SRC : Fld := ⟨CLK_JUDGE, 8, 2⟩
def CLK_JUDGE_VERDICT : Fld := ⟨CLK_JUDGE, 0, 3⟩
/-- CLK_JUDGE_CNT (14 R379). -/
def CLK_JUDGE_CNT (k : Nat) : Nat := 0xF002000008 + 0x4 * k
def CLK_JUDGE_CNT_COUNT (k : Nat) : Fld := ⟨CLK_JUDGE_CNT k, 0, 20⟩
/-- CLK_PLL_CFG (14 R379). -/
def CLK_PLL_CFG (p : Nat) : Nat := 0xF002001000 + 0x20 * p
def CLK_PLL_CFG_KEEP (p : Nat) : Fld := ⟨CLK_PLL_CFG p, 31, 1⟩
def CLK_PLL_CFG_REF (p : Nat) : Fld := ⟨CLK_PLL_CFG p, 28, 2⟩
def CLK_PLL_CFG_FREQ1_MHZ (p : Nat) : Fld := ⟨CLK_PLL_CFG p, 12, 12⟩
def CLK_PLL_CFG_FREQ0_MHZ (p : Nat) : Fld := ⟨CLK_PLL_CFG p, 0, 12⟩
/-- CLK_PLL_STATUS (14 R379). -/
def CLK_PLL_STATUS (p : Nat) : Nat := 0xF002001004 + 0x20 * p
def CLK_PLL_STATUS_LOCK_LOSS (p : Nat) : Fld := ⟨CLK_PLL_STATUS p, 16, 8⟩
def CLK_PLL_STATUS_OFF_TARGET (p : Nat) : Fld := ⟨CLK_PLL_STATUS p, 11, 1⟩
def CLK_PLL_STATUS_REF_USED (p : Nat) : Fld := ⟨CLK_PLL_STATUS p, 10, 1⟩
def CLK_PLL_STATUS_FIELD_BUSY (p : Nat) : Fld := ⟨CLK_PLL_STATUS p, 9, 1⟩
def CLK_PLL_STATUS_COAST_SEEN (p : Nat) : Fld := ⟨CLK_PLL_STATUS p, 8, 1⟩
def CLK_PLL_STATUS_STATE (p : Nat) : Fld := ⟨CLK_PLL_STATUS p, 0, 4⟩
/-- CLK_PLL_XP (14 R379). -/
def CLK_PLL_XP (p : Nat) : Nat := 0xF002001010 + 0x20 * p
def CLK_PLL_XP_N1 (p : Nat) : Fld := ⟨CLK_PLL_XP p, 25, 7⟩
def CLK_PLL_XP_N0 (p : Nat) : Fld := ⟨CLK_PLL_XP p, 18, 7⟩
def CLK_PLL_XP_VCO_MHZ (p : Nat) : Fld := ⟨CLK_PLL_XP p, 0, 13⟩
/-- CLK_DOM_CTRL (14 R379). -/
def CLK_DOM_CTRL (n : Nat) : Nat := 0xF002003000 + 0x8 * n
def CLK_DOM_CTRL_SRC (n : Nat) : Fld := ⟨CLK_DOM_CTRL n, 0, 3⟩
/-- CLK_DOM_STATUS (14 R379). -/
def CLK_DOM_STATUS (n : Nat) : Nat := 0xF002003004 + 0x8 * n
def CLK_DOM_STATUS_FORCED (n : Nat) : Fld := ⟨CLK_DOM_STATUS n, 27, 1⟩
def CLK_DOM_STATUS_WHERE (n : Nat) : Fld := ⟨CLK_DOM_STATUS n, 16, 5⟩
def CLK_DOM_STATUS_LOST_OLD (n : Nat) : Fld := ⟨CLK_DOM_STATUS n, 8, 4⟩
def CLK_DOM_STATUS_SRC_NOW (n : Nat) : Fld := ⟨CLK_DOM_STATUS n, 4, 4⟩
def CLK_DOM_STATUS_SW (n : Nat) : Fld := ⟨CLK_DOM_STATUS n, 0, 4⟩
/-- CFG_CTRL (03 R98). -/
def CFG_CTRL : Nat := 0xF003000000
def CFG_CTRL_OWNER : Fld := ⟨CFG_CTRL, 30, 2⟩
def CFG_CTRL_STALL_LIM : Fld := ⟨CFG_CTRL, 8, 16⟩
def CFG_CTRL_XP_ENABLE : Fld := ⟨CFG_CTRL, 0, 1⟩
/-- CFG_DEVINFO (03 R98). -/
def CFG_DEVINFO : Nat := 0xF003000004
def CFG_DEVINFO_REV : Fld := ⟨CFG_DEVINFO, 0, 8⟩
/-- CFG_SERIAL_LO (03 R98). -/
def CFG_SERIAL_LO : Nat := 0xF003000008
def CFG_SERIAL_LO_SERIAL : Fld := ⟨CFG_SERIAL_LO, 0, 32⟩
/-- CFG_SERIAL_HI (03 R98). -/
def CFG_SERIAL_HI : Nat := 0xF00300000C
def CFG_SERIAL_HI_SERIAL : Fld := ⟨CFG_SERIAL_HI, 0, 32⟩
/-- CFG_BOOT_STATUS (03 R98). -/
def CFG_BOOT_STATUS : Nat := 0xF003000010
def CFG_BOOT_STATUS_DIE_SKIP : Fld := ⟨CFG_BOOT_STATUS, 24, 8⟩
def CFG_BOOT_STATUS_ERR2 : Fld := ⟨CFG_BOOT_STATUS, 16, 8⟩
def CFG_BOOT_STATUS_ERR1 : Fld := ⟨CFG_BOOT_STATUS, 8, 8⟩
def CFG_BOOT_STATUS_RIP : Fld := ⟨CFG_BOOT_STATUS, 4, 1⟩
def CFG_BOOT_STATUS_STOPPED : Fld := ⟨CFG_BOOT_STATUS, 3, 1⟩
def CFG_BOOT_STATUS_FALLBACK : Fld := ⟨CFG_BOOT_STATUS, 2, 1⟩
def CFG_BOOT_STATUS_ATTEMPTS : Fld := ⟨CFG_BOOT_STATUS, 0, 2⟩
/-- CFG_BOOT_CTRL (03 R98). -/
def CFG_BOOT_CTRL : Nat := 0xF003000014
def CFG_BOOT_CTRL_BOOT_WDT_MS : Fld := ⟨CFG_BOOT_CTRL, 16, 16⟩
def CFG_BOOT_CTRL_SHELL_READY : Fld := ⟨CFG_BOOT_CTRL, 0, 1⟩
/-- CFG_LD_CTRL (03 R98). -/
def CFG_LD_CTRL (n : Nat) : Nat := 0xF003000100 + 0x40 * n
def CFG_LD_CTRL_TARGET (n : Nat) : Fld := ⟨CFG_LD_CTRL n, 16, 6⟩
def CFG_LD_CTRL_ABORT (n : Nat) : Fld := ⟨CFG_LD_CTRL n, 1, 1⟩
def CFG_LD_CTRL_GO (n : Nat) : Fld := ⟨CFG_LD_CTRL n, 0, 1⟩
/-- CFG_LD_SRC (03 R98). -/
def CFG_LD_SRC (n : Nat) : Nat := 0xF003000104 + 0x40 * n
def CFG_LD_SRC_SRC (n : Nat) : Fld := ⟨CFG_LD_SRC n, 0, 32⟩
/-- CFG_LD_LEN (03 R98). -/
def CFG_LD_LEN (n : Nat) : Nat := 0xF003000108 + 0x40 * n
def CFG_LD_LEN_LEN (n : Nat) : Fld := ⟨CFG_LD_LEN n, 0, 32⟩
/-- CFG_LD_STATUS (03 R98). -/
def CFG_LD_STATUS (n : Nat) : Nat := 0xF00300010C + 0x40 * n
def CFG_LD_STATUS_ERR (n : Nat) : Fld := ⟨CFG_LD_STATUS n, 24, 8⟩
def CFG_LD_STATUS_STATE (n : Nat) : Fld := ⟨CFG_LD_STATUS n, 20, 4⟩
def CFG_LD_STATUS_FIELD_BUSY (n : Nat) : Fld := ⟨CFG_LD_STATUS n, 17, 1⟩
def CFG_LD_STATUS_DONE (n : Nat) : Fld := ⟨CFG_LD_STATUS n, 16, 1⟩
def CFG_LD_STATUS_FRAMES (n : Nat) : Fld := ⟨CFG_LD_STATUS n, 0, 16⟩
/-- CFG_BKEY (03 R98). -/
def CFG_BKEY (k j : Nat) : Nat := 0xF003000420 + 0x20 * k + 0x4 * j
def CFG_BKEY_KEY (k j : Nat) : Fld := ⟨CFG_BKEY k j, 0, 32⟩
/-- CFG_XP_PACE (03 R98). -/
def CFG_XP_PACE : Nat := 0xF003000800
def CFG_XP_PACE_PACE_MBS : Fld := ⟨CFG_XP_PACE, 0, 13⟩
/-- CFG_INTEG_CTRL (04 R112). -/
def CFG_INTEG_CTRL : Nat := 0xF003001000
def CFG_INTEG_CTRL_GOLD_EN : Fld := ⟨CFG_INTEG_CTRL, 7, 1⟩
def CFG_INTEG_CTRL_RELOAD : Fld := ⟨CFG_INTEG_CTRL, 3, 1⟩
def CFG_INTEG_CTRL_CORRECT : Fld := ⟨CFG_INTEG_CTRL, 2, 1⟩
def CFG_INTEG_CTRL_EN : Fld := ⟨CFG_INTEG_CTRL, 0, 1⟩
/-- CFG_GOLD_BASE (04 R112). -/
def CFG_GOLD_BASE : Nat := 0xF003001004
def CFG_GOLD_BASE_BASE_GIB : Fld := ⟨CFG_GOLD_BASE, 0, 8⟩
/-- CFG_INTEG_STATUS (04 R112). -/
def CFG_INTEG_STATUS : Nat := 0xF003001010
def CFG_INTEG_STATUS_GOLD_DIE : Fld := ⟨CFG_INTEG_STATUS, 24, 8⟩
def CFG_INTEG_STATUS_SWEEP_LATE : Fld := ⟨CFG_INTEG_STATUS, 16, 8⟩
def CFG_INTEG_STATUS_CORR : Fld := ⟨CFG_INTEG_STATUS, 8, 8⟩
def CFG_INTEG_STATUS_STUCK : Fld := ⟨CFG_INTEG_STATUS, 0, 8⟩
/-- CFG_UPSET_ADDR (04 R112). -/
def CFG_UPSET_ADDR : Nat := 0xF003001014
def CFG_UPSET_ADDR_FAR : Fld := ⟨CFG_UPSET_ADDR, 0, 32⟩
/-- CFG_UPSET_INFO (04 R112). -/
def CFG_UPSET_INFO : Nat := 0xF003001018
def CFG_UPSET_INFO_VALID : Fld := ⟨CFG_UPSET_INFO, 31, 1⟩
def CFG_UPSET_INFO_LOST : Fld := ⟨CFG_UPSET_INFO, 30, 1⟩
def CFG_UPSET_INFO_CLASS : Fld := ⟨CFG_UPSET_INFO, 28, 2⟩
def CFG_UPSET_INFO_KIND : Fld := ⟨CFG_UPSET_INFO, 26, 2⟩
def CFG_UPSET_INFO_BIT : Fld := ⟨CFG_UPSET_INFO, 0, 12⟩
/-- CFG_GOLD_VALID (04 R112). -/
def CFG_GOLD_VALID (k : Nat) : Nat := 0xF003001020 + 0x4 * k
def CFG_GOLD_VALID_VALID (k : Nat) : Fld := ⟨CFG_GOLD_VALID k, 0, 32⟩
/-- CFG_CAP_CTRL (04 R125). -/
def CFG_CAP_CTRL : Nat := 0xF003002000
def CFG_CAP_CTRL_QLIM : Fld := ⟨CFG_CAP_CTRL, 24, 8⟩
def CFG_CAP_CTRL_KEY : Fld := ⟨CFG_CAP_CTRL, 16, 4⟩
def CFG_CAP_CTRL_ALLOW_INCONS : Fld := ⟨CFG_CAP_CTRL, 7, 1⟩
def CFG_CAP_CTRL_ALLOW_INFLIGHT : Fld := ⟨CFG_CAP_CTRL, 6, 1⟩
def CFG_CAP_CTRL_QUIESCE : Fld := ⟨CFG_CAP_CTRL, 5, 1⟩
def CFG_CAP_CTRL_OP : Fld := ⟨CFG_CAP_CTRL, 0, 3⟩
/-- CFG_CAP_MASK (04 R125). -/
def CFG_CAP_MASK (k : Nat) : Nat := 0xF003002004 + 0x4 * k
def CFG_CAP_MASK_MASK (k : Nat) : Fld := ⟨CFG_CAP_MASK k, 0, 32⟩
/-- CFG_CAP_ADDR (04 R125). -/
def CFG_CAP_ADDR : Nat := 0xF00300200C
def CFG_CAP_ADDR_ADDR : Fld := ⟨CFG_CAP_ADDR, 0, 32⟩
/-- CFG_CAP_STATUS (04 R125). -/
def CFG_CAP_STATUS : Nat := 0xF003002010
def CFG_CAP_STATUS_ERR : Fld := ⟨CFG_CAP_STATUS, 24, 8⟩
def CFG_CAP_STATUS_FIELD_BUSY : Fld := ⟨CFG_CAP_STATUS, 18, 1⟩
def CFG_CAP_STATUS_DONE : Fld := ⟨CFG_CAP_STATUS, 17, 1⟩
def CFG_CAP_STATUS_BUSY : Fld := ⟨CFG_CAP_STATUS, 16, 1⟩
def CFG_CAP_STATUS_PAUSE_NS : Fld := ⟨CFG_CAP_STATUS, 0, 16⟩
/-- CFG_CAP_IVHI (04 R125). -/
def CFG_CAP_IVHI : Nat := 0xF003002014
def CFG_CAP_IVHI_IVHI : Fld := ⟨CFG_CAP_IVHI, 0, 32⟩
/-- CFG_BAL (04 R125). -/
def CFG_BAL (r : Nat) : Nat := 0xF003002100 + 0x4 * r
def CFG_BAL_VALID (r : Nat) : Fld := ⟨CFG_BAL r, 31, 1⟩
def CFG_BAL_PAUSED (r : Nat) : Fld := ⟨CFG_BAL r, 30, 1⟩
def CFG_BAL_CONSISTENT (r : Nat) : Fld := ⟨CFG_BAL r, 29, 1⟩
def CFG_BAL_INFLIGHT (r : Nat) : Fld := ⟨CFG_BAL r, 28, 1⟩
def CFG_BAL_FORCED (r : Nat) : Fld := ⟨CFG_BAL r, 27, 1⟩
def CFG_BAL_SEQ (r : Nat) : Fld := ⟨CFG_BAL r, 0, 8⟩
/-- CFG_PDIG (04 R125). -/
def CFG_PDIG (r j : Nat) : Nat := 0xF003003000 + 0x40 * r + 0x4 * j
def CFG_PDIG_DIGEST (r j : Nat) : Fld := ⟨CFG_PDIG r j, 0, 32⟩
/-- CMX_DIE_CTRL (05 R152). -/
def CMX_DIE_CTRL (d : Nat) : Nat := 0xF004000000 + 0x100000 * d
def CMX_DIE_CTRL_OWNER (d : Nat) : Fld := ⟨CMX_DIE_CTRL d, 30, 2⟩
def CMX_DIE_CTRL_XP_ENABLE (d : Nat) : Fld := ⟨CMX_DIE_CTRL d, 8, 1⟩
def CMX_DIE_CTRL_ISOLATE (d : Nat) : Fld := ⟨CMX_DIE_CTRL d, 1, 1⟩
def CMX_DIE_CTRL_ADMIT (d : Nat) : Fld := ⟨CMX_DIE_CTRL d, 0, 1⟩
/-- CMX_DIE_STATUS (05 R152). -/
def CMX_DIE_STATUS (d : Nat) : Nat := 0xF004000004 + 0x100000 * d
def CMX_DIE_STATUS_LIVE (d : Nat) : Fld := ⟨CMX_DIE_STATUS d, 16, 16⟩
def CMX_DIE_STATUS_XR_ERR (d : Nat) : Fld := ⟨CMX_DIE_STATUS d, 12, 4⟩
def CMX_DIE_STATUS_XWIRE_CONFLICT (d : Nat) : Fld := ⟨CMX_DIE_STATUS d, 11, 1⟩
def CMX_DIE_STATUS_FIELD_BUSY (d : Nat) : Fld := ⟨CMX_DIE_STATUS d, 10, 1⟩
def CMX_DIE_STATUS_ADMIT_FAIL (d : Nat) : Fld := ⟨CMX_DIE_STATUS d, 9, 1⟩
def CMX_DIE_STATUS_CAUSE (d : Nat) : Fld := ⟨CMX_DIE_STATUS d, 4, 4⟩
def CMX_DIE_STATUS_STATE (d : Nat) : Fld := ⟨CMX_DIE_STATUS d, 0, 4⟩
/-- CMX_XP_TRAIN (05 R152). -/
def CMX_XP_TRAIN (d : Nat) : Nat := 0xF004000800 + 0x100000 * d
def CMX_XP_TRAIN_PRBS_EXP (d : Nat) : Fld := ⟨CMX_XP_TRAIN d, 16, 5⟩
def CMX_XP_TRAIN_AGREE_US (d : Nat) : Fld := ⟨CMX_XP_TRAIN d, 0, 8⟩
/-- CMX_B_CTRL (05 R152). -/
def CMX_B_CTRL (d b : Nat) : Nat := 0xF004001000 + 0x100000 * d + 0x40 * b
def CMX_B_CTRL_WIRE (d b : Nat) : Fld := ⟨CMX_B_CTRL d b, 16, 12⟩
def CMX_B_CTRL_FORCE (d b : Nat) : Fld := ⟨CMX_B_CTRL d b, 4, 1⟩
def CMX_B_CTRL_CMD (d b : Nat) : Fld := ⟨CMX_B_CTRL d b, 0, 4⟩
/-- CMX_B_STATUS (05 R152). -/
def CMX_B_STATUS (d b : Nat) : Nat := 0xF004001004 + 0x100000 * d + 0x40 * b
def CMX_B_STATUS_CMD_ERR (d b : Nat) : Fld := ⟨CMX_B_STATUS d b, 28, 4⟩
def CMX_B_STATUS_FIELD_BUSY (d b : Nat) : Fld := ⟨CMX_B_STATUS d b, 27, 1⟩
def CMX_B_STATUS_ATTEMPTS (d b : Nat) : Fld := ⟨CMX_B_STATUS d b, 24, 3⟩
def CMX_B_STATUS_BAD (d b : Nat) : Fld := ⟨CMX_B_STATUS d b, 16, 8⟩
def CMX_B_STATUS_SPARES_USED (d b : Nat) : Fld := ⟨CMX_B_STATUS d b, 8, 7⟩
def CMX_B_STATUS_WIDTH (d b : Nat) : Fld := ⟨CMX_B_STATUS d b, 6, 2⟩
def CMX_B_STATUS_PLACE (d b : Nat) : Fld := ⟨CMX_B_STATUS d b, 4, 2⟩
def CMX_B_STATUS_STATE (d b : Nat) : Fld := ⟨CMX_B_STATUS d b, 0, 4⟩
/-- CMX_B_ERR (05 R152). -/
def CMX_B_ERR (d b : Nat) : Nat := 0xF004001008 + 0x100000 * d + 0x40 * b
def CMX_B_ERR_REPLAY (d b : Nat) : Fld := ⟨CMX_B_ERR d b, 16, 16⟩
def CMX_B_ERR_MISMATCH (d b : Nat) : Fld := ⟨CMX_B_ERR d b, 8, 8⟩
def CMX_B_ERR_HB_MISS (d b : Nat) : Fld := ⟨CMX_B_ERR d b, 0, 8⟩
/-- CMX_B_SPARE (05 R152). -/
def CMX_B_SPARE (d b s : Nat) : Nat := 0xF004002000 + 0x100000 * d + 0x100 * b + 0x4 * s
def CMX_B_SPARE_USED (d b s : Nat) : Fld := ⟨CMX_B_SPARE d b s, 31, 1⟩
def CMX_B_SPARE_BAD (d b s : Nat) : Fld := ⟨CMX_B_SPARE d b s, 30, 1⟩
def CMX_B_SPARE_WIRE (d b s : Nat) : Fld := ⟨CMX_B_SPARE d b s, 0, 11⟩
/-- CMX_B_BAD (05 R152). -/
def CMX_B_BAD (d b j : Nat) : Nat := 0xF004004000 + 0x100000 * d + 0x200 * b + 0x4 * j
def CMX_B_BAD_BAD (d b j : Nat) : Fld := ⟨CMX_B_BAD d b j, 0, 32⟩
/-- CMX_XR (05 R152). -/
def CMX_XR (d b p : Nat) : Nat := 0xF004040000 + 0x100000 * d + 0x1C00 * b + 0x4 * p
def CMX_XR_VALID (d b p : Nat) : Fld := ⟨CMX_XR d b p, 31, 1⟩
def CMX_XR_SRC_DIE (d b p : Nat) : Fld := ⟨CMX_XR d b p, 28, 3⟩
def CMX_XR_SRC_BUNDLE (d b p : Nat) : Fld := ⟨CMX_XR d b p, 24, 4⟩
def CMX_XR_FORCED_RX (d b p : Nat) : Fld := ⟨CMX_XR d b p, 23, 1⟩
def CMX_XR_SRC_POS (d b p : Nat) : Fld := ⟨CMX_XR d b p, 0, 11⟩
/-- NOC_CTRL (06 R178). -/
def NOC_CTRL : Nat := 0xF005000000
def NOC_CTRL_OWNER : Fld := ⟨NOC_CTRL, 30, 2⟩
def NOC_CTRL_XP_ENABLE : Fld := ⟨NOC_CTRL, 8, 1⟩
/-- NOC_STATUS (06 R178). -/
def NOC_STATUS : Nat := 0xF005000004
def NOC_STATUS_ERR : Fld := ⟨NOC_STATUS, 12, 4⟩
def NOC_STATUS_FIELD_BUSY : Fld := ⟨NOC_STATUS, 8, 1⟩
def NOC_STATUS_CHECKING : Fld := ⟨NOC_STATUS, 3, 1⟩
def NOC_STATUS_DRAINING : Fld := ⟨NOC_STATUS, 2, 1⟩
def NOC_STATUS_SWAP_PENDING : Fld := ⟨NOC_STATUS, 1, 1⟩
def NOC_STATUS_ACTIVE : Fld := ⟨NOC_STATUS, 0, 1⟩
/-- NOC_EPOCH (06 R178). -/
def NOC_EPOCH : Nat := 0xF005000010
def NOC_EPOCH_SWAP : Fld := ⟨NOC_EPOCH, 31, 1⟩
def NOC_EPOCH_EPOCH_US : Fld := ⟨NOC_EPOCH, 0, 16⟩
/-- NOC_TIME (06 R178). -/
def NOC_TIME (k : Nat) : Nat := 0xF005000018 + 0x4 * k
def NOC_TIME_TIME (k : Nat) : Fld := ⟨NOC_TIME k, 0, 32⟩
/-- NOC_XP_LINK (06 R178). -/
def NOC_XP_LINK : Nat := 0xF005000800
def NOC_XP_LINK_TRACE_GAP : Fld := ⟨NOC_XP_LINK, 8, 8⟩
def NOC_XP_LINK_REPLAY_LIM : Fld := ⟨NOC_XP_LINK, 0, 4⟩
/-- NOC_ROUTER_CTRL (06 R178). -/
def NOC_ROUTER_CTRL (k : Nat) : Nat := 0xF005100000 + 0x4000 * k
def NOC_ROUTER_CTRL_CMD (k : Nat) : Fld := ⟨NOC_ROUTER_CTRL k, 0, 3⟩
/-- NOC_ROUTER_STATUS (06 R178). -/
def NOC_ROUTER_STATUS (k : Nat) : Nat := 0xF005100004 + 0x4000 * k
def NOC_ROUTER_STATUS_ERR (k : Nat) : Fld := ⟨NOC_ROUTER_STATUS k, 28, 4⟩
def NOC_ROUTER_STATUS_FIELD_BUSY (k : Nat) : Fld := ⟨NOC_ROUTER_STATUS k, 27, 1⟩
def NOC_ROUTER_STATUS_STATE (k : Nat) : Fld := ⟨NOC_ROUTER_STATUS k, 0, 4⟩
/-- NOC_PORT_CTRL (06 R178). -/
def NOC_PORT_CTRL (k p : Nat) : Nat := 0xF005100040 + 0x4000 * k + 0x8 * p
def NOC_PORT_CTRL_CREDIT_LIM (k p : Nat) : Fld := ⟨NOC_PORT_CTRL k p, 16, 16⟩
def NOC_PORT_CTRL_VCMASK (k p : Nat) : Fld := ⟨NOC_PORT_CTRL k p, 8, 4⟩
def NOC_PORT_CTRL_CMD (k p : Nat) : Fld := ⟨NOC_PORT_CTRL k p, 0, 3⟩
/-- NOC_PORT_STATUS (06 R178). -/
def NOC_PORT_STATUS (k p : Nat) : Nat := 0xF005100044 + 0x4000 * k + 0x8 * p
def NOC_PORT_STATUS_ERR (k p : Nat) : Fld := ⟨NOC_PORT_STATUS k p, 28, 4⟩
def NOC_PORT_STATUS_FIELD_BUSY (k p : Nat) : Fld := ⟨NOC_PORT_STATUS k p, 27, 1⟩
def NOC_PORT_STATUS_REPLAY (k p : Nat) : Fld := ⟨NOC_PORT_STATUS k p, 16, 8⟩
def NOC_PORT_STATUS_DENIED (k p : Nat) : Fld := ⟨NOC_PORT_STATUS k p, 8, 8⟩
def NOC_PORT_STATUS_STATE (k p : Nat) : Fld := ⟨NOC_PORT_STATUS k p, 0, 4⟩
/-- NOC_PRB_CTRL (06 R178). -/
def NOC_PRB_CTRL (k : Nat) : Nat := 0xF005100100 + 0x4000 * k
def NOC_PRB_CTRL_EV (k : Nat) : Fld := ⟨NOC_PRB_CTRL k, 16, 16⟩
def NOC_PRB_CTRL_FSEL (k : Nat) : Fld := ⟨NOC_PRB_CTRL k, 12, 4⟩
def NOC_PRB_CTRL_TRACE_EN (k : Nat) : Fld := ⟨NOC_PRB_CTRL k, 11, 1⟩
def NOC_PRB_CTRL_TRACE_FLT (k : Nat) : Fld := ⟨NOC_PRB_CTRL k, 10, 1⟩
def NOC_PRB_CTRL_DIR (k : Nat) : Fld := ⟨NOC_PRB_CTRL k, 8, 1⟩
def NOC_PRB_CTRL_PORT (k : Nat) : Fld := ⟨NOC_PRB_CTRL k, 0, 5⟩
/-- NOC_PRB_FLT (06 R178). -/
def NOC_PRB_FLT (k f w : Nat) : Nat := 0xF005100120 + 0x4000 * k + 0x10 * f + 0x4 * w
def NOC_PRB_FLT_VALUE (k f w : Nat) : Fld := ⟨NOC_PRB_FLT k f w, 0, 32⟩
/-- NOC_PRB_CNT (06 R178). -/
def NOC_PRB_CNT (k c : Nat) : Nat := 0xF005100140 + 0x4000 * k + 0x4 * c
def NOC_PRB_CNT_COUNT (k c : Nat) : Fld := ⟨NOC_PRB_CNT k c, 0, 32⟩
/-- NOC_ROUTE (06 R178). -/
def NOC_ROUTE (k s m : Nat) : Nat := 0xF005100400 + 0x4000 * k + 0x100 * s + 0x4 * m
def NOC_ROUTE_OUT (k s m : Nat) : Fld := ⟨NOC_ROUTE k s m, 0, 3⟩
/-- NOC_SLOT (06 R178). -/
def NOC_SLOT (k s o j : Nat) : Nat := 0xF005101000 + 0x4000 * k + 0x1000 * s + 0x80 * o + 0x4 * j
def NOC_SLOT_VALID (k s o j : Nat) : Fld := ⟨NOC_SLOT k s o j, 31, 1⟩
def NOC_SLOT_IN_PORT (k s o j : Nat) : Fld := ⟨NOC_SLOT k s o j, 0, 5⟩
/-- NOC_ARB_CTRL (07 R189). -/
def NOC_ARB_CTRL (k o : Nat) : Nat := 0xF005100200 + 0x4000 * k + 0x10 * o
def NOC_ARB_CTRL_BURST_LIM (k o : Nat) : Fld := ⟨NOC_ARB_CTRL k o, 16, 16⟩
def NOC_ARB_CTRL_PREEMPT_MAX (k o : Nat) : Fld := ⟨NOC_ARB_CTRL k o, 8, 4⟩
def NOC_ARB_CTRL_UNFENCE (k o : Nat) : Fld := ⟨NOC_ARB_CTRL k o, 7, 1⟩
def NOC_ARB_CTRL_IDX (k o : Nat) : Fld := ⟨NOC_ARB_CTRL k o, 0, 7⟩
/-- NOC_ARB_DROGUE (07 R189). -/
def NOC_ARB_DROGUE (k o : Nat) : Nat := 0xF005100204 + 0x4000 * k + 0x10 * o
def NOC_ARB_DROGUE_LIM (k o : Nat) : Fld := ⟨NOC_ARB_DROGUE k o, 0, 24⟩
/-- NOC_ARB_STATUS (07 R189). -/
def NOC_ARB_STATUS (k o : Nat) : Nat := 0xF005100208 + 0x4000 * k + 0x10 * o
def NOC_ARB_STATUS_OWNER (k o : Nat) : Fld := ⟨NOC_ARB_STATUS k o, 25, 7⟩
def NOC_ARB_STATUS_IMMUNE (k o : Nat) : Fld := ⟨NOC_ARB_STATUS k o, 24, 1⟩
def NOC_ARB_STATUS_RESUME (k o : Nat) : Fld := ⟨NOC_ARB_STATUS k o, 23, 1⟩
def NOC_ARB_STATUS_SPOOL (k o : Nat) : Fld := ⟨NOC_ARB_STATUS k o, 18, 5⟩
def NOC_ARB_STATUS_HELD (k o : Nat) : Fld := ⟨NOC_ARB_STATUS k o, 10, 8⟩
def NOC_ARB_STATUS_FENCED (k o : Nat) : Fld := ⟨NOC_ARB_STATUS k o, 0, 7⟩
/-- NOC_ARB_COUNT (07 R189). -/
def NOC_ARB_COUNT (k o : Nat) : Nat := 0xF00510020C + 0x4000 * k + 0x10 * o
def NOC_ARB_COUNT_PREEMPTS (k o : Nat) : Fld := ⟨NOC_ARB_COUNT k o, 16, 16⟩
def NOC_ARB_COUNT_IMMUNE_GRANTS (k o : Nat) : Fld := ⟨NOC_ARB_COUNT k o, 8, 8⟩
def NOC_ARB_COUNT_BITES (k o : Nat) : Fld := ⟨NOC_ARB_COUNT k o, 0, 8⟩
/-- DMC_ARB_CTRL (07 R189). -/
def DMC_ARB_CTRL (n : Nat) : Nat := 0xF006000800 + 0x10000 * n
def DMC_ARB_CTRL_BURST_LIM (n : Nat) : Fld := ⟨DMC_ARB_CTRL n, 16, 16⟩
def DMC_ARB_CTRL_PREEMPT_MAX (n : Nat) : Fld := ⟨DMC_ARB_CTRL n, 8, 4⟩
def DMC_ARB_CTRL_UNFENCE (n : Nat) : Fld := ⟨DMC_ARB_CTRL n, 7, 1⟩
def DMC_ARB_CTRL_IDX (n : Nat) : Fld := ⟨DMC_ARB_CTRL n, 0, 7⟩
/-- DMC_ARB_DROGUE (07 R189). -/
def DMC_ARB_DROGUE (n : Nat) : Nat := 0xF006000804 + 0x10000 * n
def DMC_ARB_DROGUE_LIM (n : Nat) : Fld := ⟨DMC_ARB_DROGUE n, 0, 24⟩
/-- DMC_ARB_STATUS (07 R189). -/
def DMC_ARB_STATUS (n : Nat) : Nat := 0xF006000808 + 0x10000 * n
def DMC_ARB_STATUS_OWNER (n : Nat) : Fld := ⟨DMC_ARB_STATUS n, 25, 7⟩
def DMC_ARB_STATUS_IMMUNE (n : Nat) : Fld := ⟨DMC_ARB_STATUS n, 24, 1⟩
def DMC_ARB_STATUS_RESUME (n : Nat) : Fld := ⟨DMC_ARB_STATUS n, 23, 1⟩
def DMC_ARB_STATUS_SPOOL (n : Nat) : Fld := ⟨DMC_ARB_STATUS n, 18, 5⟩
def DMC_ARB_STATUS_HELD (n : Nat) : Fld := ⟨DMC_ARB_STATUS n, 10, 8⟩
def DMC_ARB_STATUS_FENCED (n : Nat) : Fld := ⟨DMC_ARB_STATUS n, 0, 7⟩
/-- DMC_ARB_COUNT (07 R189). -/
def DMC_ARB_COUNT (n : Nat) : Nat := 0xF00600080C + 0x10000 * n
def DMC_ARB_COUNT_PREEMPTS (n : Nat) : Fld := ⟨DMC_ARB_COUNT n, 16, 16⟩
def DMC_ARB_COUNT_IMMUNE_GRANTS (n : Nat) : Fld := ⟨DMC_ARB_COUNT n, 8, 8⟩
def DMC_ARB_COUNT_BITES (n : Nat) : Fld := ⟨DMC_ARB_COUNT n, 0, 8⟩
/-- ENG_ARB_CTRL (07 R189). -/
def ENG_ARB_CTRL (t j m : Nat) : Nat := 0xF00A000F00 + 0x40000 * t + 0x10000 * j + 0x10 * m
def ENG_ARB_CTRL_BURST_LIM (t j m : Nat) : Fld := ⟨ENG_ARB_CTRL t j m, 16, 16⟩
def ENG_ARB_CTRL_PREEMPT_MAX (t j m : Nat) : Fld := ⟨ENG_ARB_CTRL t j m, 8, 4⟩
def ENG_ARB_CTRL_UNFENCE (t j m : Nat) : Fld := ⟨ENG_ARB_CTRL t j m, 7, 1⟩
def ENG_ARB_CTRL_IDX (t j m : Nat) : Fld := ⟨ENG_ARB_CTRL t j m, 0, 7⟩
/-- ENG_ARB_DROGUE (07 R189). -/
def ENG_ARB_DROGUE (t j m : Nat) : Nat := 0xF00A000F04 + 0x40000 * t + 0x10000 * j + 0x10 * m
def ENG_ARB_DROGUE_LIM (t j m : Nat) : Fld := ⟨ENG_ARB_DROGUE t j m, 0, 24⟩
/-- ENG_ARB_STATUS (07 R189). -/
def ENG_ARB_STATUS (t j m : Nat) : Nat := 0xF00A000F08 + 0x40000 * t + 0x10000 * j + 0x10 * m
def ENG_ARB_STATUS_OWNER (t j m : Nat) : Fld := ⟨ENG_ARB_STATUS t j m, 25, 7⟩
def ENG_ARB_STATUS_IMMUNE (t j m : Nat) : Fld := ⟨ENG_ARB_STATUS t j m, 24, 1⟩
def ENG_ARB_STATUS_RESUME (t j m : Nat) : Fld := ⟨ENG_ARB_STATUS t j m, 23, 1⟩
def ENG_ARB_STATUS_SPOOL (t j m : Nat) : Fld := ⟨ENG_ARB_STATUS t j m, 18, 5⟩
def ENG_ARB_STATUS_HELD (t j m : Nat) : Fld := ⟨ENG_ARB_STATUS t j m, 10, 8⟩
def ENG_ARB_STATUS_FENCED (t j m : Nat) : Fld := ⟨ENG_ARB_STATUS t j m, 0, 7⟩
/-- ENG_ARB_COUNT (07 R189). -/
def ENG_ARB_COUNT (t j m : Nat) : Nat := 0xF00A000F0C + 0x40000 * t + 0x10000 * j + 0x10 * m
def ENG_ARB_COUNT_PREEMPTS (t j m : Nat) : Fld := ⟨ENG_ARB_COUNT t j m, 16, 16⟩
def ENG_ARB_COUNT_IMMUNE_GRANTS (t j m : Nat) : Fld := ⟨ENG_ARB_COUNT t j m, 8, 8⟩
def ENG_ARB_COUNT_BITES (t j m : Nat) : Fld := ⟨ENG_ARB_COUNT t j m, 0, 8⟩
/-- CFG_ARB_RB_CTRL (07 R189). -/
def CFG_ARB_RB_CTRL (r : Nat) : Nat := 0xF003004000 + 0x10 * r
def CFG_ARB_RB_CTRL_BURST_LIM (r : Nat) : Fld := ⟨CFG_ARB_RB_CTRL r, 16, 16⟩
def CFG_ARB_RB_CTRL_PREEMPT_MAX (r : Nat) : Fld := ⟨CFG_ARB_RB_CTRL r, 8, 4⟩
def CFG_ARB_RB_CTRL_UNFENCE (r : Nat) : Fld := ⟨CFG_ARB_RB_CTRL r, 7, 1⟩
def CFG_ARB_RB_CTRL_IDX (r : Nat) : Fld := ⟨CFG_ARB_RB_CTRL r, 0, 7⟩
/-- CFG_ARB_RB_DROGUE (07 R189). -/
def CFG_ARB_RB_DROGUE (r : Nat) : Nat := 0xF003004004 + 0x10 * r
def CFG_ARB_RB_DROGUE_LIM (r : Nat) : Fld := ⟨CFG_ARB_RB_DROGUE r, 0, 24⟩
/-- CFG_ARB_RB_STATUS (07 R189). -/
def CFG_ARB_RB_STATUS (r : Nat) : Nat := 0xF003004008 + 0x10 * r
def CFG_ARB_RB_STATUS_OWNER (r : Nat) : Fld := ⟨CFG_ARB_RB_STATUS r, 25, 7⟩
def CFG_ARB_RB_STATUS_IMMUNE (r : Nat) : Fld := ⟨CFG_ARB_RB_STATUS r, 24, 1⟩
def CFG_ARB_RB_STATUS_RESUME (r : Nat) : Fld := ⟨CFG_ARB_RB_STATUS r, 23, 1⟩
def CFG_ARB_RB_STATUS_SPOOL (r : Nat) : Fld := ⟨CFG_ARB_RB_STATUS r, 18, 5⟩
def CFG_ARB_RB_STATUS_HELD (r : Nat) : Fld := ⟨CFG_ARB_RB_STATUS r, 10, 8⟩
def CFG_ARB_RB_STATUS_FENCED (r : Nat) : Fld := ⟨CFG_ARB_RB_STATUS r, 0, 7⟩
/-- CFG_ARB_RB_COUNT (07 R189). -/
def CFG_ARB_RB_COUNT (r : Nat) : Nat := 0xF00300400C + 0x10 * r
def CFG_ARB_RB_COUNT_PREEMPTS (r : Nat) : Fld := ⟨CFG_ARB_RB_COUNT r, 16, 16⟩
def CFG_ARB_RB_COUNT_IMMUNE_GRANTS (r : Nat) : Fld := ⟨CFG_ARB_RB_COUNT r, 8, 8⟩
def CFG_ARB_RB_COUNT_BITES (r : Nat) : Fld := ⟨CFG_ARB_RB_COUNT r, 0, 8⟩
/-- CFG_ARB_CAP_CTRL (07 R189). -/
def CFG_ARB_CAP_CTRL : Nat := 0xF003004400
def CFG_ARB_CAP_CTRL_BURST_LIM : Fld := ⟨CFG_ARB_CAP_CTRL, 16, 16⟩
def CFG_ARB_CAP_CTRL_PREEMPT_MAX : Fld := ⟨CFG_ARB_CAP_CTRL, 8, 4⟩
def CFG_ARB_CAP_CTRL_UNFENCE : Fld := ⟨CFG_ARB_CAP_CTRL, 7, 1⟩
def CFG_ARB_CAP_CTRL_IDX : Fld := ⟨CFG_ARB_CAP_CTRL, 0, 7⟩
/-- CFG_ARB_CAP_DROGUE (07 R189). -/
def CFG_ARB_CAP_DROGUE : Nat := 0xF003004404
def CFG_ARB_CAP_DROGUE_LIM : Fld := ⟨CFG_ARB_CAP_DROGUE, 0, 24⟩
/-- CFG_ARB_CAP_STATUS (07 R189). -/
def CFG_ARB_CAP_STATUS : Nat := 0xF003004408
def CFG_ARB_CAP_STATUS_OWNER : Fld := ⟨CFG_ARB_CAP_STATUS, 25, 7⟩
def CFG_ARB_CAP_STATUS_IMMUNE : Fld := ⟨CFG_ARB_CAP_STATUS, 24, 1⟩
def CFG_ARB_CAP_STATUS_RESUME : Fld := ⟨CFG_ARB_CAP_STATUS, 23, 1⟩
def CFG_ARB_CAP_STATUS_SPOOL : Fld := ⟨CFG_ARB_CAP_STATUS, 18, 5⟩
def CFG_ARB_CAP_STATUS_HELD : Fld := ⟨CFG_ARB_CAP_STATUS, 10, 8⟩
def CFG_ARB_CAP_STATUS_FENCED : Fld := ⟨CFG_ARB_CAP_STATUS, 0, 7⟩
/-- CFG_ARB_CAP_COUNT (07 R189). -/
def CFG_ARB_CAP_COUNT : Nat := 0xF00300440C
def CFG_ARB_CAP_COUNT_PREEMPTS : Fld := ⟨CFG_ARB_CAP_COUNT, 16, 16⟩
def CFG_ARB_CAP_COUNT_IMMUNE_GRANTS : Fld := ⟨CFG_ARB_CAP_COUNT, 8, 8⟩
def CFG_ARB_CAP_COUNT_BITES : Fld := ⟨CFG_ARB_CAP_COUNT, 0, 8⟩
/-- CMX_ARB_CTRL (07 R189). -/
def CMX_ARB_CTRL (d : Nat) : Nat := 0xF004000C00 + 0x100000 * d
def CMX_ARB_CTRL_BURST_LIM (d : Nat) : Fld := ⟨CMX_ARB_CTRL d, 16, 16⟩
def CMX_ARB_CTRL_PREEMPT_MAX (d : Nat) : Fld := ⟨CMX_ARB_CTRL d, 8, 4⟩
def CMX_ARB_CTRL_UNFENCE (d : Nat) : Fld := ⟨CMX_ARB_CTRL d, 7, 1⟩
def CMX_ARB_CTRL_IDX (d : Nat) : Fld := ⟨CMX_ARB_CTRL d, 0, 7⟩
/-- CMX_ARB_DROGUE (07 R189). -/
def CMX_ARB_DROGUE (d : Nat) : Nat := 0xF004000C04 + 0x100000 * d
def CMX_ARB_DROGUE_LIM (d : Nat) : Fld := ⟨CMX_ARB_DROGUE d, 0, 24⟩
/-- CMX_ARB_STATUS (07 R189). -/
def CMX_ARB_STATUS (d : Nat) : Nat := 0xF004000C08 + 0x100000 * d
def CMX_ARB_STATUS_OWNER (d : Nat) : Fld := ⟨CMX_ARB_STATUS d, 25, 7⟩
def CMX_ARB_STATUS_IMMUNE (d : Nat) : Fld := ⟨CMX_ARB_STATUS d, 24, 1⟩
def CMX_ARB_STATUS_RESUME (d : Nat) : Fld := ⟨CMX_ARB_STATUS d, 23, 1⟩
def CMX_ARB_STATUS_SPOOL (d : Nat) : Fld := ⟨CMX_ARB_STATUS d, 18, 5⟩
def CMX_ARB_STATUS_HELD (d : Nat) : Fld := ⟨CMX_ARB_STATUS d, 10, 8⟩
def CMX_ARB_STATUS_FENCED (d : Nat) : Fld := ⟨CMX_ARB_STATUS d, 0, 7⟩
/-- CMX_ARB_COUNT (07 R189). -/
def CMX_ARB_COUNT (d : Nat) : Nat := 0xF004000C0C + 0x100000 * d
def CMX_ARB_COUNT_PREEMPTS (d : Nat) : Fld := ⟨CMX_ARB_COUNT d, 16, 16⟩
def CMX_ARB_COUNT_IMMUNE_GRANTS (d : Nat) : Fld := ⟨CMX_ARB_COUNT d, 8, 8⟩
def CMX_ARB_COUNT_BITES (d : Nat) : Fld := ⟨CMX_ARB_COUNT d, 0, 8⟩
/-- MIR_ARB_CTRL (07 R189). -/
def MIR_ARB_CTRL : Nat := 0xF00E000C00
def MIR_ARB_CTRL_BURST_LIM : Fld := ⟨MIR_ARB_CTRL, 16, 16⟩
def MIR_ARB_CTRL_PREEMPT_MAX : Fld := ⟨MIR_ARB_CTRL, 8, 4⟩
def MIR_ARB_CTRL_UNFENCE : Fld := ⟨MIR_ARB_CTRL, 7, 1⟩
def MIR_ARB_CTRL_IDX : Fld := ⟨MIR_ARB_CTRL, 0, 7⟩
/-- MIR_ARB_DROGUE (07 R189). -/
def MIR_ARB_DROGUE : Nat := 0xF00E000C04
def MIR_ARB_DROGUE_LIM : Fld := ⟨MIR_ARB_DROGUE, 0, 24⟩
/-- MIR_ARB_STATUS (07 R189). -/
def MIR_ARB_STATUS : Nat := 0xF00E000C08
def MIR_ARB_STATUS_OWNER : Fld := ⟨MIR_ARB_STATUS, 25, 7⟩
def MIR_ARB_STATUS_IMMUNE : Fld := ⟨MIR_ARB_STATUS, 24, 1⟩
def MIR_ARB_STATUS_RESUME : Fld := ⟨MIR_ARB_STATUS, 23, 1⟩
def MIR_ARB_STATUS_SPOOL : Fld := ⟨MIR_ARB_STATUS, 18, 5⟩
def MIR_ARB_STATUS_HELD : Fld := ⟨MIR_ARB_STATUS, 10, 8⟩
def MIR_ARB_STATUS_FENCED : Fld := ⟨MIR_ARB_STATUS, 0, 7⟩
/-- MIR_ARB_COUNT (07 R189). -/
def MIR_ARB_COUNT : Nat := 0xF00E000C0C
def MIR_ARB_COUNT_PREEMPTS : Fld := ⟨MIR_ARB_COUNT, 16, 16⟩
def MIR_ARB_COUNT_IMMUNE_GRANTS : Fld := ⟨MIR_ARB_COUNT, 8, 8⟩
def MIR_ARB_COUNT_BITES : Fld := ⟨MIR_ARB_COUNT, 0, 8⟩
/-- ENG_MODE (08 R218). -/
def ENG_MODE (t j : Nat) : Nat := 0xF00A000100 + 0x40000 * t + 0x10000 * j
def ENG_MODE_SCALE (t j : Nat) : Fld := ⟨ENG_MODE t j, 14, 2⟩
def ENG_MODE_SAT (t j : Nat) : Fld := ⟨ENG_MODE t j, 13, 1⟩
def ENG_MODE_SAT40 (t j : Nat) : Fld := ⟨ENG_MODE t j, 12, 1⟩
def ENG_MODE_FRAC (t j : Nat) : Fld := ⟨ENG_MODE t j, 11, 1⟩
def ENG_MODE_XSGN (t j : Nat) : Fld := ⟨ENG_MODE t j, 10, 1⟩
def ENG_MODE_YSGN (t j : Nat) : Fld := ⟨ENG_MODE t j, 9, 1⟩
def ENG_MODE_CONJ (t j : Nat) : Fld := ⟨ENG_MODE t j, 8, 1⟩
/-- ENG_DP_FLAGS (08 R218). -/
def ENG_DP_FLAGS (t j : Nat) : Nat := 0xF00A000104 + 0x40000 * t + 0x10000 * j
def ENG_DP_FLAGS_FIELD_BUSY (t j : Nat) : Fld := ⟨ENG_DP_FLAGS t j, 11, 1⟩
def ENG_DP_FLAGS_MS (t j : Nat) : Fld := ⟨ENG_DP_FLAGS t j, 8, 1⟩
def ENG_DP_FLAGS_E (t j : Nat) : Fld := ⟨ENG_DP_FLAGS t j, 4, 4⟩
def ENG_DP_FLAGS_OV (t j : Nat) : Fld := ⟨ENG_DP_FLAGS t j, 0, 4⟩
/-- ENG_STRM_CFG (08 R218). -/
def ENG_STRM_CFG (t j : Nat) : Nat := 0xF00A000110 + 0x40000 * t + 0x10000 * j
def ENG_STRM_CFG_PACK (t j : Nat) : Fld := ⟨ENG_STRM_CFG t j, 0, 4⟩
/-- ENG_STRM_STATUS (08 R218). -/
def ENG_STRM_STATUS (t j : Nat) : Nat := 0xF00A000114 + 0x40000 * t + 0x10000 * j
def ENG_STRM_STATUS_PEND (t j : Nat) : Fld := ⟨ENG_STRM_STATUS t j, 20, 2⟩
def ENG_STRM_STATUS_LEVEL (t j : Nat) : Fld := ⟨ENG_STRM_STATUS t j, 0, 20⟩
/-- ENG_STRM_CTRL (08 R218). -/
def ENG_STRM_CTRL (t j : Nat) : Nat := 0xF00A000118 + 0x40000 * t + 0x10000 * j
def ENG_STRM_CTRL_FLUSH (t j : Nat) : Fld := ⟨ENG_STRM_CTRL t j, 0, 2⟩
/-- ENG_STRM_STALL (08 R218). -/
def ENG_STRM_STALL (t j : Nat) : Nat := 0xF00A00011C + 0x40000 * t + 0x10000 * j
def ENG_STRM_STALL_CYCLES (t j : Nat) : Fld := ⟨ENG_STRM_STALL t j, 0, 32⟩
/-- ENG_CTRL (09 R240). -/
def ENG_CTRL (t j : Nat) : Nat := 0xF00A000000 + 0x40000 * t + 0x10000 * j
def ENG_CTRL_CLRREG (t j : Nat) : Fld := ⟨ENG_CTRL t j, 3, 1⟩
def ENG_CTRL_STEP (t j : Nat) : Fld := ⟨ENG_CTRL t j, 2, 1⟩
def ENG_CTRL_STOP (t j : Nat) : Fld := ⟨ENG_CTRL t j, 1, 1⟩
def ENG_CTRL_START (t j : Nat) : Fld := ⟨ENG_CTRL t j, 0, 1⟩
/-- ENG_STATUS (09 R240). -/
def ENG_STATUS (t j : Nat) : Nat := 0xF00A000004 + 0x40000 * t + 0x10000 * j
def ENG_STATUS_HALT_CODE (t j : Nat) : Fld := ⟨ENG_STATUS t j, 24, 8⟩
def ENG_STATUS_SIG_CODE (t j : Nat) : Fld := ⟨ENG_STATUS t j, 16, 8⟩
def ENG_STATUS_SIG (t j : Nat) : Fld := ⟨ENG_STATUS t j, 15, 1⟩
def ENG_STATUS_LOST_WORD (t j : Nat) : Fld := ⟨ENG_STATUS t j, 14, 1⟩
def ENG_STATUS_LDEPTH (t j : Nat) : Fld := ⟨ENG_STATUS t j, 8, 3⟩
def ENG_STATUS_CDEPTH (t j : Nat) : Fld := ⟨ENG_STATUS t j, 4, 4⟩
def ENG_STATUS_STATE (t j : Nat) : Fld := ⟨ENG_STATUS t j, 0, 4⟩
/-- ENG_PC (09 R240). -/
def ENG_PC (t j : Nat) : Nat := 0xF00A000008 + 0x40000 * t + 0x10000 * j
def ENG_PC_PC (t j : Nat) : Fld := ⟨ENG_PC t j, 0, 12⟩
/-- ENG_EXC (09 R240). -/
def ENG_EXC (t j : Nat) : Nat := 0xF00A00000C + 0x40000 * t + 0x10000 * j
def ENG_EXC_CAUSE (t j : Nat) : Fld := ⟨ENG_EXC t j, 28, 4⟩
def ENG_EXC_DETAIL (t j : Nat) : Fld := ⟨ENG_EXC t j, 16, 4⟩
def ENG_EXC_PC (t j : Nat) : Fld := ⟨ENG_EXC t j, 0, 12⟩
/-- ENG_WDT (09 R240). -/
def ENG_WDT (t j : Nat) : Nat := 0xF00A000010 + 0x40000 * t + 0x10000 * j
def ENG_WDT_EN (t j : Nat) : Fld := ⟨ENG_WDT t j, 31, 1⟩
def ENG_WDT_LOAD (t j : Nat) : Fld := ⟨ENG_WDT t j, 0, 24⟩
/-- ENG_WDT_COUNT (09 R240). -/
def ENG_WDT_COUNT (t j : Nat) : Nat := 0xF00A000014 + 0x40000 * t + 0x10000 * j
def ENG_WDT_COUNT_COUNT (t j : Nat) : Fld := ⟨ENG_WDT_COUNT t j, 0, 24⟩
/-- ENG_STIM_CTRL (09 R240). -/
def ENG_STIM_CTRL (t j : Nat) : Nat := 0xF00A000018 + 0x40000 * t + 0x10000 * j
def ENG_STIM_CTRL_EN (t j : Nat) : Fld := ⟨ENG_STIM_CTRL t j, 0, 1⟩
/-- ENG_STIM_STATUS (09 R240). -/
def ENG_STIM_STATUS (t j : Nat) : Nat := 0xF00A00001C + 0x40000 * t + 0x10000 * j
def ENG_STIM_STATUS_LEVEL (t j : Nat) : Fld := ⟨ENG_STIM_STATUS t j, 16, 5⟩
def ENG_STIM_STATUS_DROPPED (t j : Nat) : Fld := ⟨ENG_STIM_STATUS t j, 0, 16⟩
/-- ENG_REGSEL (09 R240). -/
def ENG_REGSEL (t j : Nat) : Nat := 0xF00A000020 + 0x40000 * t + 0x10000 * j
def ENG_REGSEL_NUM (t j : Nat) : Fld := ⟨ENG_REGSEL t j, 0, 7⟩
/-- ENG_REGDATA (09 R240). -/
def ENG_REGDATA (t j : Nat) : Nat := 0xF00A000024 + 0x40000 * t + 0x10000 * j
def ENG_REGDATA_DATA (t j : Nat) : Fld := ⟨ENG_REGDATA t j, 0, 32⟩
/-- ENG_CYCLES (09 R240). -/
def ENG_CYCLES (t j : Nat) : Nat := 0xF00A000028 + 0x40000 * t + 0x10000 * j
def ENG_CYCLES_COUNT (t j : Nat) : Fld := ⟨ENG_CYCLES t j, 0, 32⟩
/-- ENG_RETIRED (09 R240). -/
def ENG_RETIRED (t j : Nat) : Nat := 0xF00A00002C + 0x40000 * t + 0x10000 * j
def ENG_RETIRED_COUNT (t j : Nat) : Fld := ⟨ENG_RETIRED t j, 0, 32⟩
/-- ENG_DMA_LADDR (08 R218). -/
def ENG_DMA_LADDR (t j c : Nat) : Nat := 0xF00A000200 + 0x40000 * t + 0x10000 * j + 0x20 * c
def ENG_DMA_LADDR_LADDR (t j c : Nat) : Fld := ⟨ENG_DMA_LADDR t j c, 0, 18⟩
/-- ENG_DMA_RADDR_LO (08 R218). -/
def ENG_DMA_RADDR_LO (t j c : Nat) : Nat := 0xF00A000204 + 0x40000 * t + 0x10000 * j + 0x20 * c
def ENG_DMA_RADDR_LO_RADDR (t j c : Nat) : Fld := ⟨ENG_DMA_RADDR_LO t j c, 0, 32⟩
/-- ENG_DMA_RADDR_HI (08 R218). -/
def ENG_DMA_RADDR_HI (t j c : Nat) : Nat := 0xF00A000208 + 0x40000 * t + 0x10000 * j + 0x20 * c
def ENG_DMA_RADDR_HI_RNODE (t j c : Nat) : Fld := ⟨ENG_DMA_RADDR_HI t j c, 8, 10⟩
def ENG_DMA_RADDR_HI_RADDR (t j c : Nat) : Fld := ⟨ENG_DMA_RADDR_HI t j c, 0, 8⟩
/-- ENG_DMA_LEN (08 R218). -/
def ENG_DMA_LEN (t j c : Nat) : Nat := 0xF00A00020C + 0x40000 * t + 0x10000 * j + 0x20 * c
def ENG_DMA_LEN_LEN (t j c : Nat) : Fld := ⟨ENG_DMA_LEN t j c, 0, 18⟩
/-- ENG_DMA_CTRL (08 R218). -/
def ENG_DMA_CTRL (t j c : Nat) : Nat := 0xF00A000210 + 0x40000 * t + 0x10000 * j + 0x20 * c
def ENG_DMA_CTRL_GO (t j c : Nat) : Fld := ⟨ENG_DMA_CTRL t j c, 31, 1⟩
def ENG_DMA_CTRL_ABORT (t j c : Nat) : Fld := ⟨ENG_DMA_CTRL t j c, 30, 1⟩
def ENG_DMA_CTRL_PAGE (t j c : Nat) : Fld := ⟨ENG_DMA_CTRL t j c, 8, 2⟩
def ENG_DMA_CTRL_VC2 (t j c : Nat) : Fld := ⟨ENG_DMA_CTRL t j c, 4, 1⟩
def ENG_DMA_CTRL_DIR (t j c : Nat) : Fld := ⟨ENG_DMA_CTRL t j c, 0, 1⟩
/-- ENG_DMA_STATUS (08 R218). -/
def ENG_DMA_STATUS (t j c : Nat) : Nat := 0xF00A000214 + 0x40000 * t + 0x10000 * j + 0x20 * c
def ENG_DMA_STATUS_ERR (t j c : Nat) : Fld := ⟨ENG_DMA_STATUS t j c, 28, 4⟩
def ENG_DMA_STATUS_RSTATUS (t j c : Nat) : Fld := ⟨ENG_DMA_STATUS t j c, 25, 3⟩
def ENG_DMA_STATUS_FIELD_BUSY (t j c : Nat) : Fld := ⟨ENG_DMA_STATUS t j c, 20, 1⟩
def ENG_DMA_STATUS_DONE (t j c : Nat) : Fld := ⟨ENG_DMA_STATUS t j c, 19, 1⟩
def ENG_DMA_STATUS_BUSY (t j c : Nat) : Fld := ⟨ENG_DMA_STATUS t j c, 18, 1⟩
def ENG_DMA_STATUS_BYTES (t j c : Nat) : Fld := ⟨ENG_DMA_STATUS t j c, 0, 18⟩
/-- ENG_MEM_MAP (08 R218). -/
def ENG_MEM_MAP (t j m : Nat) : Nat := 0xF00A000300 + 0x40000 * t + 0x10000 * j + 0x4 * m
def ENG_MEM_MAP_MAP (t j m : Nat) : Fld := ⟨ENG_MEM_MAP t j m, 0, 32⟩
/-- ENG_TRIO_CTRL (08 R218). -/
def ENG_TRIO_CTRL (t : Nat) : Nat := 0xF00A030000 + 0x40000 * t
def ENG_TRIO_CTRL_OWNER (t : Nat) : Fld := ⟨ENG_TRIO_CTRL t, 30, 2⟩
def ENG_TRIO_CTRL_XP_ENABLE (t : Nat) : Fld := ⟨ENG_TRIO_CTRL t, 8, 1⟩
/-- ENG_TRIO_PWR (08 R218). -/
def ENG_TRIO_PWR (t : Nat) : Nat := 0xF00A030004 + 0x40000 * t
def ENG_TRIO_PWR_ERR (t : Nat) : Fld := ⟨ENG_TRIO_PWR t, 28, 4⟩
def ENG_TRIO_PWR_CLEARING (t : Nat) : Fld := ⟨ENG_TRIO_PWR t, 26, 1⟩
def ENG_TRIO_PWR_STATE (t : Nat) : Fld := ⟨ENG_TRIO_PWR t, 4, 2⟩
def ENG_TRIO_PWR_REQ (t : Nat) : Fld := ⟨ENG_TRIO_PWR t, 0, 2⟩
/-- ENG_TRIO_CLK (08 R218). -/
def ENG_TRIO_CLK (t : Nat) : Nat := 0xF00A030008 + 0x40000 * t
def ENG_TRIO_CLK_EN (t : Nat) : Fld := ⟨ENG_TRIO_CLK t, 0, 3⟩
/-- ENG_TRIO_XP (08 R218). -/
def ENG_TRIO_XP (t : Nat) : Nat := 0xF00A030800 + 0x40000 * t
def ENG_TRIO_XP_OUTS (t : Nat) : Fld := ⟨ENG_TRIO_XP t, 8, 5⟩
def ENG_TRIO_XP_STEAL (t : Nat) : Fld := ⟨ENG_TRIO_XP t, 0, 3⟩
/-- DMC_GLB_CTRL (10 R268). -/
def DMC_GLB_CTRL : Nat := 0xF006800000
def DMC_GLB_CTRL_OWNER : Fld := ⟨DMC_GLB_CTRL, 30, 2⟩
def DMC_GLB_CTRL_XP_ENABLE : Fld := ⟨DMC_GLB_CTRL, 8, 1⟩
def DMC_GLB_CTRL_MAP : Fld := ⟨DMC_GLB_CTRL, 0, 1⟩
/-- DMC_CTRL (10 R268). -/
def DMC_CTRL (n : Nat) : Nat := 0xF006000000 + 0x10000 * n
def DMC_CTRL_CMD (n : Nat) : Fld := ⟨DMC_CTRL n, 0, 4⟩
/-- DMC_STATUS (10 R268). -/
def DMC_STATUS (n : Nat) : Nat := 0xF006000004 + 0x10000 * n
def DMC_STATUS_ERR (n : Nat) : Fld := ⟨DMC_STATUS n, 28, 4⟩
def DMC_STATUS_FIELD_BUSY (n : Nat) : Fld := ⟨DMC_STATUS n, 27, 1⟩
def DMC_STATUS_RQ (n : Nat) : Fld := ⟨DMC_STATUS n, 20, 7⟩
def DMC_STATUS_WQ (n : Nat) : Fld := ⟨DMC_STATUS n, 13, 7⟩
def DMC_STATUS_STATE (n : Nat) : Fld := ⟨DMC_STATUS n, 0, 4⟩
/-- DMC_PAGE (10 R268). -/
def DMC_PAGE (n : Nat) : Nat := 0xF006000010 + 0x10000 * n
def DMC_PAGE_PAGE_MAX_NS (n : Nat) : Fld := ⟨DMC_PAGE n, 16, 16⟩
def DMC_PAGE_AUTO_IDLE_NS (n : Nat) : Fld := ⟨DMC_PAGE n, 8, 8⟩
def DMC_PAGE_HIT_MAX (n : Nat) : Fld := ⟨DMC_PAGE n, 0, 8⟩
/-- DMC_WQ (10 R268). -/
def DMC_WQ (n : Nat) : Nat := 0xF006000014 + 0x10000 * n
def DMC_WQ_AGE_US (n : Nat) : Fld := ⟨DMC_WQ n, 24, 8⟩
def DMC_WQ_HI (n : Nat) : Fld := ⟨DMC_WQ n, 8, 8⟩
def DMC_WQ_LO (n : Nat) : Fld := ⟨DMC_WQ n, 0, 8⟩
/-- DMC_SR (10 R268). -/
def DMC_SR (n : Nat) : Nat := 0xF006000018 + 0x10000 * n
def DMC_SR_EN (n : Nat) : Fld := ⟨DMC_SR n, 31, 1⟩
def DMC_SR_IDLE_US (n : Nat) : Fld := ⟨DMC_SR n, 0, 16⟩
/-- DMC_REF (10 R268). -/
def DMC_REF (n : Nat) : Nat := 0xF006000020 + 0x10000 * n
def DMC_REF_POSTPONE_LIM (n : Nat) : Fld := ⟨DMC_REF n, 0, 4⟩
/-- DMC_REF_STATUS (10 R268). -/
def DMC_REF_STATUS (n : Nat) : Nat := 0xF006000024 + 0x10000 * n
def DMC_REF_STATUS_FALLBACK (n : Nat) : Fld := ⟨DMC_REF_STATUS n, 24, 8⟩
def DMC_REF_STATUS_TEMP (n : Nat) : Fld := ⟨DMC_REF_STATUS n, 16, 8⟩
def DMC_REF_STATUS_RATE (n : Nat) : Fld := ⟨DMC_REF_STATUS n, 14, 2⟩
def DMC_REF_STATUS_DEBT (n : Nat) : Fld := ⟨DMC_REF_STATUS n, 0, 9⟩
/-- DMC_RECAL (10 R268). -/
def DMC_RECAL (n : Nat) : Nat := 0xF006000028 + 0x10000 * n
def DMC_RECAL_RECAL_MS (n : Nat) : Fld := ⟨DMC_RECAL n, 0, 16⟩
/-- DMC_LINK_CFG (10 R268). -/
def DMC_LINK_CFG (n : Nat) : Nat := 0xF00600002C + 0x10000 * n
def DMC_LINK_CFG_ERR_LIM (n : Nat) : Fld := ⟨DMC_LINK_CFG n, 0, 8⟩
/-- DMC_LINK_ERR (10 R268). -/
def DMC_LINK_ERR (n : Nat) : Nat := 0xF006000030 + 0x10000 * n
def DMC_LINK_ERR_CA_PAR (n : Nat) : Fld := ⟨DMC_LINK_ERR n, 24, 8⟩
def DMC_LINK_ERR_RD_PAR (n : Nat) : Fld := ⟨DMC_LINK_ERR n, 16, 8⟩
def DMC_LINK_ERR_WR_PAR (n : Nat) : Fld := ⟨DMC_LINK_ERR n, 8, 8⟩
def DMC_LINK_ERR_RETRY_FAIL (n : Nat) : Fld := ⟨DMC_LINK_ERR n, 0, 8⟩
/-- DMC_TRAIN (10 R268). -/
def DMC_TRAIN (n : Nat) : Nat := 0xF006000034 + 0x10000 * n
def DMC_TRAIN_RESULT (n : Nat) : Fld := ⟨DMC_TRAIN n, 28, 4⟩
def DMC_TRAIN_REPAIRS (n : Nat) : Fld := ⟨DMC_TRAIN n, 26, 2⟩
def DMC_TRAIN_COUNT (n : Nat) : Fld := ⟨DMC_TRAIN n, 16, 8⟩
def DMC_TRAIN_LAST_US (n : Nat) : Fld := ⟨DMC_TRAIN n, 0, 16⟩
/-- DMC_PORT_QOS (10 R268). -/
def DMC_PORT_QOS (n p : Nat) : Nat := 0xF006000100 + 0x10000 * n + 0x8 * p
def DMC_PORT_QOS_FLOOR (n p : Nat) : Fld := ⟨DMC_PORT_QOS n p, 16, 2⟩
def DMC_PORT_QOS_TARGET_NS (n p : Nat) : Fld := ⟨DMC_PORT_QOS n p, 0, 16⟩
/-- DMC_PORT_STAT (10 R268). -/
def DMC_PORT_STAT (n p : Nat) : Nat := 0xF006000104 + 0x10000 * n + 0x8 * p
def DMC_PORT_STAT_LAT_MISS (n p : Nat) : Fld := ⟨DMC_PORT_STAT n p, 16, 16⟩
def DMC_PORT_STAT_URG (n p : Nat) : Fld := ⟨DMC_PORT_STAT n p, 0, 2⟩
/-- DMC_XP_T0 (10 R269). -/
def DMC_XP_T0 (n : Nat) : Nat := 0xF006000C00 + 0x10000 * n
def DMC_XP_T0_RCDRD (n : Nat) : Fld := ⟨DMC_XP_T0 n, 24, 8⟩
def DMC_XP_T0_RCDWR (n : Nat) : Fld := ⟨DMC_XP_T0 n, 16, 8⟩
def DMC_XP_T0_RP (n : Nat) : Fld := ⟨DMC_XP_T0 n, 8, 8⟩
def DMC_XP_T0_RAS (n : Nat) : Fld := ⟨DMC_XP_T0 n, 0, 8⟩
/-- DMC_XP_T1 (10 R269). -/
def DMC_XP_T1 (n : Nat) : Nat := 0xF006000C04 + 0x10000 * n
def DMC_XP_T1_WTR (n : Nat) : Fld := ⟨DMC_XP_T1 n, 24, 8⟩
def DMC_XP_T1_RTW (n : Nat) : Fld := ⟨DMC_XP_T1 n, 16, 8⟩
def DMC_XP_T1_RL (n : Nat) : Fld := ⟨DMC_XP_T1 n, 8, 8⟩
def DMC_XP_T1_WL (n : Nat) : Fld := ⟨DMC_XP_T1 n, 0, 8⟩
/-- DMC_XP_T2 (10 R269). -/
def DMC_XP_T2 (n : Nat) : Nat := 0xF006000C08 + 0x10000 * n
def DMC_XP_T2_REFI (n : Nat) : Fld := ⟨DMC_XP_T2 n, 16, 16⟩
def DMC_XP_T2_RFCAB (n : Nat) : Fld := ⟨DMC_XP_T2 n, 0, 16⟩
/-- DMC_XP_T3 (10 R269). -/
def DMC_XP_T3 (n : Nat) : Nat := 0xF006000C0C + 0x10000 * n
def DMC_XP_T3_XS (n : Nat) : Fld := ⟨DMC_XP_T3 n, 16, 16⟩
def DMC_XP_T3_RFCPB (n : Nat) : Fld := ⟨DMC_XP_T3 n, 0, 16⟩
/-- DMC_ECC_CNT (11 R280). -/
def DMC_ECC_CNT (n : Nat) : Nat := 0xF006000400 + 0x10000 * n
def DMC_ECC_CNT_CE (n : Nat) : Fld := ⟨DMC_ECC_CNT n, 16, 16⟩
def DMC_ECC_CNT_UE (n : Nat) : Fld := ⟨DMC_ECC_CNT n, 0, 16⟩
/-- DMC_ECC_LAST_ADDR (11 R280). -/
def DMC_ECC_LAST_ADDR (n : Nat) : Nat := 0xF006000404 + 0x10000 * n
def DMC_ECC_LAST_ADDR_WORD (n : Nat) : Fld := ⟨DMC_ECC_LAST_ADDR n, 0, 26⟩
/-- DMC_ECC_LAST_INFO (11 R280). -/
def DMC_ECC_LAST_INFO (n : Nat) : Nat := 0xF006000408 + 0x10000 * n
def DMC_ECC_LAST_INFO_VALID (n : Nat) : Fld := ⟨DMC_ECC_LAST_INFO n, 31, 1⟩
def DMC_ECC_LAST_INFO_UE (n : Nat) : Fld := ⟨DMC_ECC_LAST_INFO n, 30, 1⟩
def DMC_ECC_LAST_INFO_SYMBOL (n : Nat) : Fld := ⟨DMC_ECC_LAST_INFO n, 0, 6⟩
/-- DMC_MRG_STATUS (11 R280). -/
def DMC_MRG_STATUS (n : Nat) : Nat := 0xF00600040C + 0x10000 * n
def DMC_MRG_STATUS_MERGES (n : Nat) : Fld := ⟨DMC_MRG_STATUS n, 16, 16⟩
def DMC_MRG_STATUS_MERGE_UE (n : Nat) : Fld := ⟨DMC_MRG_STATUS n, 8, 8⟩
def DMC_MRG_STATUS_LEVEL (n : Nat) : Fld := ⟨DMC_MRG_STATUS n, 0, 5⟩
/-- ECC_CTRL (11 R275). -/
def ECC_CTRL : Nat := 0xF00F000000
def ECC_CTRL_OWNER : Fld := ⟨ECC_CTRL, 30, 2⟩
def ECC_CTRL_CE_WARN : Fld := ⟨ECC_CTRL, 16, 8⟩
def ECC_CTRL_XP_ENABLE : Fld := ⟨ECC_CTRL, 8, 1⟩
/-- ECC_NOTIFY (11 R275). -/
def ECC_NOTIFY : Nat := 0xF00F000004
def ECC_NOTIFY_VALID : Fld := ⟨ECC_NOTIFY, 31, 1⟩
def ECC_NOTIFY_OVF : Fld := ⟨ECC_NOTIFY, 30, 1⟩
def ECC_NOTIFY_MACRO : Fld := ⟨ECC_NOTIFY, 0, 20⟩
/-- ECC_SEL (11 R275). -/
def ECC_SEL : Nat := 0xF00F000010
def ECC_SEL_MACRO : Fld := ⟨ECC_SEL, 0, 20⟩
/-- ECC_MSTAT (11 R275). -/
def ECC_MSTAT : Nat := 0xF00F000014
def ECC_MSTAT_CE : Fld := ⟨ECC_MSTAT, 16, 16⟩
def ECC_MSTAT_UE : Fld := ⟨ECC_MSTAT, 8, 8⟩
def ECC_MSTAT_REFUSED : Fld := ⟨ECC_MSTAT, 0, 8⟩
/-- ECC_MCLR (11 R275). -/
def ECC_MCLR : Nat := 0xF00F000018
def ECC_MCLR_CLR : Fld := ⟨ECC_MCLR, 0, 1⟩
/-- ECC_MLOG (11 R275). -/
def ECC_MLOG (j : Nat) : Nat := 0xF00F000020 + 0x4 * j
def ECC_MLOG_VALID (j : Nat) : Fld := ⟨ECC_MLOG j, 31, 1⟩
def ECC_MLOG_UE (j : Nat) : Fld := ⟨ECC_MLOG j, 30, 1⟩
def ECC_MLOG_HITS (j : Nat) : Fld := ⟨ECC_MLOG j, 27, 3⟩
def ECC_MLOG_BIT (j : Nat) : Fld := ⟨ECC_MLOG j, 20, 7⟩
def ECC_MLOG_ROW (j : Nat) : Fld := ⟨ECC_MLOG j, 0, 20⟩
/-- ECC_SCRUB_BASE (11 R282). -/
def ECC_SCRUB_BASE : Nat := 0xF00F000200
def ECC_SCRUB_BASE_UNITS : Fld := ⟨ECC_SCRUB_BASE, 0, 26⟩
/-- ECC_SCRUB_LEN (11 R282). -/
def ECC_SCRUB_LEN : Nat := 0xF00F000204
def ECC_SCRUB_LEN_UNITS : Fld := ⟨ECC_SCRUB_LEN, 0, 26⟩
/-- ECC_SCRUB_CTRL (11 R282). -/
def ECC_SCRUB_CTRL : Nat := 0xF00F000208
def ECC_SCRUB_CTRL_GO : Fld := ⟨ECC_SCRUB_CTRL, 31, 1⟩
def ECC_SCRUB_CTRL_ABORT : Fld := ⟨ECC_SCRUB_CTRL, 30, 1⟩
def ECC_SCRUB_CTRL_RATE_GBS : Fld := ⟨ECC_SCRUB_CTRL, 0, 8⟩
/-- ECC_SCRUB_STATUS (11 R282). -/
def ECC_SCRUB_STATUS : Nat := 0xF00F00020C
def ECC_SCRUB_STATUS_ERR : Fld := ⟨ECC_SCRUB_STATUS, 24, 8⟩
def ECC_SCRUB_STATUS_FIELD_BUSY : Fld := ⟨ECC_SCRUB_STATUS, 18, 1⟩
def ECC_SCRUB_STATUS_DONE : Fld := ⟨ECC_SCRUB_STATUS, 17, 1⟩
def ECC_SCRUB_STATUS_BUSY : Fld := ⟨ECC_SCRUB_STATUS, 16, 1⟩
def ECC_SCRUB_STATUS_SKIPPED : Fld := ⟨ECC_SCRUB_STATUS, 0, 16⟩
/-- ECC_SCRUB_COUNT (11 R282). -/
def ECC_SCRUB_COUNT : Nat := 0xF00F000210
def ECC_SCRUB_COUNT_CE : Fld := ⟨ECC_SCRUB_COUNT, 16, 16⟩
def ECC_SCRUB_COUNT_UE : Fld := ⟨ECC_SCRUB_COUNT, 0, 16⟩
/-- ECC_SCRUB_FIRST_LO (11 R282). -/
def ECC_SCRUB_FIRST_LO : Nat := 0xF00F000218
def ECC_SCRUB_FIRST_LO_ADDR : Fld := ⟨ECC_SCRUB_FIRST_LO, 0, 32⟩
/-- ECC_SCRUB_FIRST_HI (11 R282). -/
def ECC_SCRUB_FIRST_HI : Nat := 0xF00F00021C
def ECC_SCRUB_FIRST_HI_ADDR : Fld := ⟨ECC_SCRUB_FIRST_HI, 0, 32⟩
/-- ECC_SCRUB_LAST_LO (11 R282). -/
def ECC_SCRUB_LAST_LO : Nat := 0xF00F000220
def ECC_SCRUB_LAST_LO_ADDR : Fld := ⟨ECC_SCRUB_LAST_LO, 0, 32⟩
/-- ECC_SCRUB_LAST_HI (11 R282). -/
def ECC_SCRUB_LAST_HI : Nat := 0xF00F000224
def ECC_SCRUB_LAST_HI_ADDR : Fld := ⟨ECC_SCRUB_LAST_HI, 0, 32⟩
/-- ECC_XP_INJ (11 R275). -/
def ECC_XP_INJ : Nat := 0xF00F000800
def ECC_XP_INJ_ARM : Fld := ⟨ECC_XP_INJ, 31, 1⟩
def ECC_XP_INJ_MODE : Fld := ⟨ECC_XP_INJ, 16, 2⟩
def ECC_XP_INJ_BIT : Fld := ⟨ECC_XP_INJ, 0, 7⟩
/-- SEC_CTRL (11 R301). -/
def SEC_CTRL : Nat := 0xF007000000
def SEC_CTRL_OWNER : Fld := ⟨SEC_CTRL, 30, 2⟩
def SEC_CTRL_XP_ENABLE : Fld := ⟨SEC_CTRL, 8, 1⟩
/-- SEC_KEYLOAD (11 R301). -/
def SEC_KEYLOAD (j : Nat) : Nat := 0xF007000100 + 0x4 * j
def SEC_KEYLOAD_KEY (j : Nat) : Fld := ⟨SEC_KEYLOAD j, 0, 32⟩
/-- SEC_K_CTRL (11 R301). -/
def SEC_K_CTRL (k : Nat) : Nat := 0xF007001000 + 0x40 * k
def SEC_K_CTRL_LEASE (k : Nat) : Fld := ⟨SEC_K_CTRL k, 16, 8⟩
def SEC_K_CTRL_CMD (k : Nat) : Fld := ⟨SEC_K_CTRL k, 0, 3⟩
/-- SEC_K_RANGE (11 R301). -/
def SEC_K_RANGE (k : Nat) : Nat := 0xF007001004 + 0x40 * k
def SEC_K_RANGE_SIZE_64M (k : Nat) : Fld := ⟨SEC_K_RANGE k, 16, 12⟩
def SEC_K_RANGE_BASE_64M (k : Nat) : Fld := ⟨SEC_K_RANGE k, 0, 12⟩
/-- SEC_K_LBN_LO (11 R301). -/
def SEC_K_LBN_LO (k : Nat) : Nat := 0xF007001008 + 0x40 * k
def SEC_K_LBN_LO_LBN (k : Nat) : Fld := ⟨SEC_K_LBN_LO k, 0, 32⟩
/-- SEC_K_LBN_HI (11 R301). -/
def SEC_K_LBN_HI (k : Nat) : Nat := 0xF00700100C + 0x40 * k
def SEC_K_LBN_HI_LBN (k : Nat) : Fld := ⟨SEC_K_LBN_HI k, 0, 32⟩
/-- SEC_K_STATUS (11 R301). -/
def SEC_K_STATUS (k : Nat) : Nat := 0xF007001010 + 0x40 * k
def SEC_K_STATUS_ERR (k : Nat) : Fld := ⟨SEC_K_STATUS k, 28, 4⟩
def SEC_K_STATUS_FIELD_BUSY (k : Nat) : Fld := ⟨SEC_K_STATUS k, 27, 1⟩
def SEC_K_STATUS_CTR_WARN (k : Nat) : Fld := ⟨SEC_K_STATUS k, 26, 1⟩
def SEC_K_STATUS_AUTHFAIL (k : Nat) : Fld := ⟨SEC_K_STATUS k, 16, 8⟩
def SEC_K_STATUS_STATE (k : Nat) : Fld := ⟨SEC_K_STATUS k, 0, 4⟩
/-- SEC_K_XP (11 R301). -/
def SEC_K_XP (k : Nat) : Nat := 0xF007001020 + 0x40 * k
def SEC_K_XP_SPEC_OFF (k : Nat) : Fld := ⟨SEC_K_XP k, 0, 1⟩
/-- SEC_LOG_ADDR (11 R301). -/
def SEC_LOG_ADDR (e : Nat) : Nat := 0xF007003000 + 0x100 * e
def SEC_LOG_ADDR_ADDR (e : Nat) : Fld := ⟨SEC_LOG_ADDR e, 0, 32⟩
/-- SEC_LOG_INFO (11 R301). -/
def SEC_LOG_INFO (e : Nat) : Nat := 0xF007003004 + 0x100 * e
def SEC_LOG_INFO_VALID (e : Nat) : Fld := ⟨SEC_LOG_INFO e, 31, 1⟩
def SEC_LOG_INFO_LOST (e : Nat) : Fld := ⟨SEC_LOG_INFO e, 30, 1⟩
def SEC_LOG_INFO_KIND (e : Nat) : Fld := ⟨SEC_LOG_INFO e, 28, 2⟩
def SEC_LOG_INFO_KEY (e : Nat) : Fld := ⟨SEC_LOG_INFO e, 22, 6⟩
def SEC_LOG_INFO_SRC (e : Nat) : Fld := ⟨SEC_LOG_INFO e, 12, 10⟩
def SEC_LOG_INFO_TAG (e : Nat) : Fld := ⟨SEC_LOG_INFO e, 4, 8⟩
/-- LNE_GLB_CTRL (12 R330). -/
def LNE_GLB_CTRL : Nat := 0xF008200000
def LNE_GLB_CTRL_OWNER : Fld := ⟨LNE_GLB_CTRL, 30, 2⟩
def LNE_GLB_CTRL_XP_ENABLE : Fld := ⟨LNE_GLB_CTRL, 8, 1⟩
def LNE_GLB_CTRL_EQ_RELOAD : Fld := ⟨LNE_GLB_CTRL, 0, 1⟩
/-- LNE_GLB_EQ_STATUS (12 R330). -/
def LNE_GLB_EQ_STATUS : Nat := 0xF008200004
def LNE_GLB_EQ_STATUS_PRESENT : Fld := ⟨LNE_GLB_EQ_STATUS, 31, 1⟩
def LNE_GLB_EQ_STATUS_LOADING : Fld := ⟨LNE_GLB_EQ_STATUS, 30, 1⟩
def LNE_GLB_EQ_STATUS_FIELD_BUSY : Fld := ⟨LNE_GLB_EQ_STATUS, 29, 1⟩
def LNE_GLB_EQ_STATUS_BAD : Fld := ⟨LNE_GLB_EQ_STATUS, 10, 10⟩
def LNE_GLB_EQ_STATUS_VALID : Fld := ⟨LNE_GLB_EQ_STATUS, 0, 10⟩
/-- LNE_Q_CFG (12 R330). -/
def LNE_Q_CFG (q : Nat) : Nat := 0xF008100000 + 0x100 * q
def LNE_Q_CFG_LEASE (q : Nat) : Fld := ⟨LNE_Q_CFG q, 24, 8⟩
def LNE_Q_CFG_RAW_MBD (q : Nat) : Fld := ⟨LNE_Q_CFG q, 4, 17⟩
def LNE_Q_CFG_RATE (q : Nat) : Fld := ⟨LNE_Q_CFG q, 0, 3⟩
/-- LNE_Q_STATUS (12 R330). -/
def LNE_Q_STATUS (q : Nat) : Nat := 0xF008100004 + 0x100 * q
def LNE_Q_STATUS_ERR (q : Nat) : Fld := ⟨LNE_Q_STATUS q, 28, 4⟩
def LNE_Q_STATUS_FIELD_BUSY (q : Nat) : Fld := ⟨LNE_Q_STATUS q, 27, 1⟩
def LNE_Q_STATUS_BIN (q : Nat) : Fld := ⟨LNE_Q_STATUS q, 1, 2⟩
def LNE_Q_STATUS_PLL_LOCK (q : Nat) : Fld := ⟨LNE_Q_STATUS q, 0, 1⟩
/-- LNE_CTRL (12 R330). -/
def LNE_CTRL (n : Nat) : Nat := 0xF008000000 + 0x1000 * n
def LNE_CTRL_MODE (n : Nat) : Fld := ⟨LNE_CTRL n, 0, 2⟩
/-- LNE_STATUS (12 R330). -/
def LNE_STATUS (n : Nat) : Nat := 0xF008000004 + 0x1000 * n
def LNE_STATUS_FIELD_BUSY (n : Nat) : Fld := ⟨LNE_STATUS n, 7, 1⟩
def LNE_STATUS_WALK (n : Nat) : Fld := ⟨LNE_STATUS n, 6, 1⟩
def LNE_STATUS_EQ_DEFAULT (n : Nat) : Fld := ⟨LNE_STATUS n, 5, 1⟩
def LNE_STATUS_PCS_LOCK (n : Nat) : Fld := ⟨LNE_STATUS n, 4, 1⟩
def LNE_STATUS_CDR_LOCK (n : Nat) : Fld := ⟨LNE_STATUS n, 3, 1⟩
def LNE_STATUS_TX_IDLE (n : Nat) : Fld := ⟨LNE_STATUS n, 2, 1⟩
def LNE_STATUS_MODE (n : Nat) : Fld := ⟨LNE_STATUS n, 0, 2⟩
/-- LNE_PRBS_CTRL (12 R330). -/
def LNE_PRBS_CTRL (n : Nat) : Nat := 0xF008000010 + 0x1000 * n
def LNE_PRBS_CTRL_CLR (n : Nat) : Fld := ⟨LNE_PRBS_CTRL n, 8, 1⟩
def LNE_PRBS_CTRL_CHK_PAT (n : Nat) : Fld := ⟨LNE_PRBS_CTRL n, 3, 3⟩
def LNE_PRBS_CTRL_GEN_PAT (n : Nat) : Fld := ⟨LNE_PRBS_CTRL n, 0, 3⟩
/-- LNE_PRBS_STATUS (12 R330). -/
def LNE_PRBS_STATUS (n : Nat) : Nat := 0xF008000014 + 0x1000 * n
def LNE_PRBS_STATUS_LOST (n : Nat) : Fld := ⟨LNE_PRBS_STATUS n, 8, 1⟩
def LNE_PRBS_STATUS_LOCK (n : Nat) : Fld := ⟨LNE_PRBS_STATUS n, 0, 1⟩
/-- LNE_INJ (12 R330). -/
def LNE_INJ (n : Nat) : Nat := 0xF008000030 + 0x1000 * n
def LNE_INJ_GO (n : Nat) : Fld := ⟨LNE_INJ n, 31, 1⟩
def LNE_INJ_INJ_MODE (n : Nat) : Fld := ⟨LNE_INJ n, 8, 2⟩
def LNE_INJ_INJ_N (n : Nat) : Fld := ⟨LNE_INJ n, 0, 8⟩
/-- LNE_SLIP (12 R330). -/
def LNE_SLIP (n : Nat) : Nat := 0xF008000034 + 0x1000 * n
def LNE_SLIP_POS (n : Nat) : Fld := ⟨LNE_SLIP n, 4, 6⟩
def LNE_SLIP_SNAP_VALID (n : Nat) : Fld := ⟨LNE_SLIP n, 3, 1⟩
def LNE_SLIP_SLIP_DONE (n : Nat) : Fld := ⟨LNE_SLIP n, 2, 1⟩
def LNE_SLIP_SNAP (n : Nat) : Fld := ⟨LNE_SLIP n, 1, 1⟩
def LNE_SLIP_SLIP (n : Nat) : Fld := ⟨LNE_SLIP n, 0, 1⟩
/-- LNE_FEC_CNT (12 R330). -/
def LNE_FEC_CNT (n : Nat) : Nat := 0xF008000040 + 0x1000 * n
def LNE_FEC_CNT_CORR (n : Nat) : Fld := ⟨LNE_FEC_CNT n, 16, 16⟩
def LNE_FEC_CNT_UNCORR (n : Nat) : Fld := ⟨LNE_FEC_CNT n, 0, 16⟩
/-- LNE_DROP (12 R330). -/
def LNE_DROP (n : Nat) : Nat := 0xF008000044 + 0x1000 * n
def LNE_DROP_RX_DROP (n : Nat) : Fld := ⟨LNE_DROP n, 16, 16⟩
def LNE_DROP_TX_REFUSED (n : Nat) : Fld := ⟨LNE_DROP n, 0, 16⟩
/-- LNE_RX_BASE (12 R330). -/
def LNE_RX_BASE (n : Nat) : Nat := 0xF008000050 + 0x1000 * n
def LNE_RX_BASE_BASE (n : Nat) : Fld := ⟨LNE_RX_BASE n, 0, 28⟩
/-- LNE_RX_DST (12 R330). -/
def LNE_RX_DST (n : Nat) : Nat := 0xF008000054 + 0x1000 * n
def LNE_RX_DST_NODE (n : Nat) : Fld := ⟨LNE_RX_DST n, 16, 10⟩
def LNE_RX_DST_RING (n : Nat) : Fld := ⟨LNE_RX_DST n, 0, 4⟩
/-- LNE_PRBS_ERRS_LO (12 R330). -/
def LNE_PRBS_ERRS_LO (n : Nat) : Nat := 0xF008000018 + 0x1000 * n
def LNE_PRBS_ERRS_LO_COUNT (n : Nat) : Fld := ⟨LNE_PRBS_ERRS_LO n, 0, 32⟩
/-- LNE_PRBS_ERRS_HI (12 R330). -/
def LNE_PRBS_ERRS_HI (n : Nat) : Nat := 0xF00800001C + 0x1000 * n
def LNE_PRBS_ERRS_HI_COUNT (n : Nat) : Fld := ⟨LNE_PRBS_ERRS_HI n, 0, 32⟩
/-- LNE_PRBS_BITS_LO (12 R330). -/
def LNE_PRBS_BITS_LO (n : Nat) : Nat := 0xF008000020 + 0x1000 * n
def LNE_PRBS_BITS_LO_COUNT (n : Nat) : Fld := ⟨LNE_PRBS_BITS_LO n, 0, 32⟩
/-- LNE_PRBS_BITS_HI (12 R330). -/
def LNE_PRBS_BITS_HI (n : Nat) : Nat := 0xF008000024 + 0x1000 * n
def LNE_PRBS_BITS_HI_COUNT (n : Nat) : Fld := ⟨LNE_PRBS_BITS_HI n, 0, 32⟩
/-- LNE_RX_SNAP_LO (12 R330). -/
def LNE_RX_SNAP_LO (n : Nat) : Nat := 0xF008000038 + 0x1000 * n
def LNE_RX_SNAP_LO_WORD (n : Nat) : Fld := ⟨LNE_RX_SNAP_LO n, 0, 32⟩
/-- LNE_RX_SNAP_HI (12 R330). -/
def LNE_RX_SNAP_HI (n : Nat) : Nat := 0xF00800003C + 0x1000 * n
def LNE_RX_SNAP_HI_WORD (n : Nat) : Fld := ⟨LNE_RX_SNAP_HI n, 0, 32⟩
/-- LNE_TX_FILL_LO (12 R330). -/
def LNE_TX_FILL_LO (n : Nat) : Nat := 0xF008000058 + 0x1000 * n
def LNE_TX_FILL_LO_WORD (n : Nat) : Fld := ⟨LNE_TX_FILL_LO n, 0, 32⟩
/-- LNE_TX_FILL_HI (12 R330). -/
def LNE_TX_FILL_HI (n : Nat) : Nat := 0xF00800005C + 0x1000 * n
def LNE_TX_FILL_HI_WORD (n : Nat) : Fld := ⟨LNE_TX_FILL_HI n, 0, 32⟩
/-- LNE_XP_EQ_CTRL (12 R330). -/
def LNE_XP_EQ_CTRL (n : Nat) : Nat := 0xF008000800 + 0x1000 * n
def LNE_XP_EQ_CTRL_OVERRIDE (n : Nat) : Fld := ⟨LNE_XP_EQ_CTRL n, 3, 1⟩
/-- LNE_XP_EQ_W (12 R330). -/
def LNE_XP_EQ_W (n j : Nat) : Nat := 0xF008000804 + 0x1000 * n + 0x4 * j
def LNE_XP_EQ_W_BYTES (n j : Nat) : Fld := ⟨LNE_XP_EQ_W n j, 0, 32⟩
/-- PCI_CTRL (12 R331). -/
def PCI_CTRL : Nat := 0xF009000000
def PCI_CTRL_OWNER : Fld := ⟨PCI_CTRL, 30, 2⟩
def PCI_CTRL_VF_SPLIT : Fld := ⟨PCI_CTRL, 0, 1⟩
/-- PCI_EP_CTRL (12 R331). -/
def PCI_EP_CTRL (e : Nat) : Nat := 0xF009000010 + 0x10 * e
def PCI_EP_CTRL_LINK_DIS (e : Nat) : Fld := ⟨PCI_EP_CTRL e, 0, 1⟩
/-- PCI_EP_STATUS (12 R331). -/
def PCI_EP_STATUS (e : Nat) : Nat := 0xF009000014 + 0x10 * e
def PCI_EP_STATUS_WR_FAIL (e : Nat) : Fld := ⟨PCI_EP_STATUS e, 16, 16⟩
def PCI_EP_STATUS_FLIT (e : Nat) : Fld := ⟨PCI_EP_STATUS e, 11, 1⟩
def PCI_EP_STATUS_RATE (e : Nat) : Fld := ⟨PCI_EP_STATUS e, 8, 3⟩
def PCI_EP_STATUS_WIDTH (e : Nat) : Fld := ⟨PCI_EP_STATUS e, 3, 5⟩
def PCI_EP_STATUS_LTSSM (e : Nat) : Fld := ⟨PCI_EP_STATUS e, 0, 3⟩
/-- PCI_PF_HBMWIN (12 R331). -/
def PCI_PF_HBMWIN : Nat := 0xF009000040
def PCI_PF_HBMWIN_BASE_GIB : Fld := ⟨PCI_PF_HBMWIN, 0, 8⟩
/-- PCI_VF_WIN (12 R331). -/
def PCI_VF_WIN (r : Nat) : Nat := 0xF009000100 + 0x4 * r
def PCI_VF_WIN_BASE_64M (r : Nat) : Fld := ⟨PCI_VF_WIN r, 0, 12⟩
/-- PCI_OWIN_LO (12 R331). -/
def PCI_OWIN_LO (k : Nat) : Nat := 0xF009001000 + 0x10 * k
def PCI_OWIN_LO_HBASE (k : Nat) : Fld := ⟨PCI_OWIN_LO k, 0, 32⟩
/-- PCI_OWIN_HI (12 R331). -/
def PCI_OWIN_HI (k : Nat) : Nat := 0xF009001004 + 0x10 * k
def PCI_OWIN_HI_HBASE (k : Nat) : Fld := ⟨PCI_OWIN_HI k, 0, 32⟩
/-- PCI_OWIN_CTRL (12 R331). -/
def PCI_OWIN_CTRL (k : Nat) : Nat := 0xF009001008 + 0x10 * k
def PCI_OWIN_CTRL_VALID (k : Nat) : Fld := ⟨PCI_OWIN_CTRL k, 31, 1⟩
def PCI_OWIN_CTRL_EP (k : Nat) : Fld := ⟨PCI_OWIN_CTRL k, 30, 1⟩
def PCI_OWIN_CTRL_LEASE (k : Nat) : Fld := ⟨PCI_OWIN_CTRL k, 16, 8⟩
def PCI_OWIN_CTRL_FUNC (k : Nat) : Fld := ⟨PCI_OWIN_CTRL k, 0, 7⟩
/-- MIR_CTRL (13 R357). -/
def MIR_CTRL : Nat := 0xF00E000000
def MIR_CTRL_OWNER : Fld := ⟨MIR_CTRL, 30, 2⟩
def MIR_CTRL_XP_ENABLE : Fld := ⟨MIR_CTRL, 8, 1⟩
def MIR_CTRL_CMD : Fld := ⟨MIR_CTRL, 0, 3⟩
/-- MIR_STATUS (13 R357). -/
def MIR_STATUS : Nat := 0xF00E000004
def MIR_STATUS_ROLE : Fld := ⟨MIR_STATUS, 31, 1⟩
def MIR_STATUS_FAIL_IN : Fld := ⟨MIR_STATUS, 30, 1⟩
def MIR_STATUS_FAIL_OUT : Fld := ⟨MIR_STATUS, 29, 1⟩
def MIR_STATUS_SELF_FAILED : Fld := ⟨MIR_STATUS, 28, 1⟩
def MIR_STATUS_FIELD_BUSY : Fld := ⟨MIR_STATUS, 27, 1⟩
def MIR_STATUS_ERR : Fld := ⟨MIR_STATUS, 20, 4⟩
def MIR_STATUS_WIDTH : Fld := ⟨MIR_STATUS, 4, 2⟩
def MIR_STATUS_LINK : Fld := ⟨MIR_STATUS, 0, 4⟩
/-- MIR_AREA (13 R357). -/
def MIR_AREA : Nat := 0xF00E000008
def MIR_AREA_BASE_GIB : Fld := ⟨MIR_AREA, 0, 8⟩
/-- MIR_EPOCH (13 R357). -/
def MIR_EPOCH : Nat := 0xF00E000010
def MIR_EPOCH_ACK_LIM_MS : Fld := ⟨MIR_EPOCH, 24, 8⟩
def MIR_EPOCH_LOG_MAX : Fld := ⟨MIR_EPOCH, 16, 8⟩
def MIR_EPOCH_EPOCH_US : Fld := ⟨MIR_EPOCH, 0, 16⟩
/-- MIR_EPOCH_TX (13 R357). -/
def MIR_EPOCH_TX : Nat := 0xF00E000014
def MIR_EPOCH_TX_EPOCH : Fld := ⟨MIR_EPOCH_TX, 0, 32⟩
/-- MIR_EPOCH_ACK (13 R357). -/
def MIR_EPOCH_ACK : Nat := 0xF00E000018
def MIR_EPOCH_ACK_EPOCH : Fld := ⟨MIR_EPOCH_ACK, 0, 32⟩
/-- MIR_EPOCH_CMT (13 R357). -/
def MIR_EPOCH_CMT : Nat := 0xF00E00001C
def MIR_EPOCH_CMT_EPOCH : Fld := ⟨MIR_EPOCH_CMT, 0, 32⟩
/-- MIR_SEQ_TX_LO (13 R357). -/
def MIR_SEQ_TX_LO : Nat := 0xF00E000020
def MIR_SEQ_TX_LO_SEQ : Fld := ⟨MIR_SEQ_TX_LO, 0, 32⟩
/-- MIR_SEQ_TX_HI (13 R357). -/
def MIR_SEQ_TX_HI : Nat := 0xF00E000024
def MIR_SEQ_TX_HI_SEQ : Fld := ⟨MIR_SEQ_TX_HI, 0, 32⟩
/-- MIR_SEQ_RX_LO (13 R357). -/
def MIR_SEQ_RX_LO : Nat := 0xF00E000028
def MIR_SEQ_RX_LO_SEQ : Fld := ⟨MIR_SEQ_RX_LO, 0, 32⟩
/-- MIR_SEQ_RX_HI (13 R357). -/
def MIR_SEQ_RX_HI : Nat := 0xF00E00002C
def MIR_SEQ_RX_HI_SEQ : Fld := ⟨MIR_SEQ_RX_HI, 0, 32⟩
/-- MIR_COUNT (13 R357). -/
def MIR_COUNT : Nat := 0xF00E000030
def MIR_COUNT_REPLAYS : Fld := ⟨MIR_COUNT, 24, 8⟩
def MIR_COUNT_TAGFAIL : Fld := ⟨MIR_COUNT, 16, 8⟩
def MIR_COUNT_RETRIES : Fld := ⟨MIR_COUNT, 8, 8⟩
def MIR_COUNT_WIRE : Fld := ⟨MIR_COUNT, 0, 8⟩
/-- MIR_KEY (13 R357). -/
def MIR_KEY (j : Nat) : Nat := 0xF00E000100 + 0x4 * j
def MIR_KEY_KEY (j : Nat) : Fld := ⟨MIR_KEY j, 0, 32⟩
/-- MIR_PL_CFG (13 R357). -/
def MIR_PL_CFG (j : Nat) : Nat := 0xF00E000200 + 0x10 * j
def MIR_PL_CFG_MODE (j : Nat) : Fld := ⟨MIR_PL_CFG j, 30, 2⟩
def MIR_PL_CFG_LEASE (j : Nat) : Fld := ⟨MIR_PL_CFG j, 16, 8⟩
def MIR_PL_CFG_CMD (j : Nat) : Fld := ⟨MIR_PL_CFG j, 0, 4⟩
/-- MIR_PL_RANGE (13 R357). -/
def MIR_PL_RANGE (j : Nat) : Nat := 0xF00E000204 + 0x10 * j
def MIR_PL_RANGE_SIZE_64M (j : Nat) : Fld := ⟨MIR_PL_RANGE j, 16, 12⟩
def MIR_PL_RANGE_BASE_64M (j : Nat) : Fld := ⟨MIR_PL_RANGE j, 0, 12⟩
/-- MIR_PL_STATUS (13 R357). -/
def MIR_PL_STATUS (j : Nat) : Nat := 0xF00E000208 + 0x10 * j
def MIR_PL_STATUS_ERR (j : Nat) : Fld := ⟨MIR_PL_STATUS j, 28, 4⟩
def MIR_PL_STATUS_FIELD_BUSY (j : Nat) : Fld := ⟨MIR_PL_STATUS j, 27, 1⟩
def MIR_PL_STATUS_SEED (j : Nat) : Fld := ⟨MIR_PL_STATUS j, 12, 12⟩
def MIR_PL_STATUS_STATE (j : Nat) : Fld := ⟨MIR_PL_STATUS j, 0, 4⟩
/-- MIR_RGN (13 R357). -/
def MIR_RGN (r : Nat) : Nat := 0xF00E000400 + 0x4 * r
def MIR_RGN_MODE (r : Nat) : Fld := ⟨MIR_RGN r, 30, 2⟩
def MIR_RGN_PL (r : Nat) : Fld := ⟨MIR_RGN r, 24, 4⟩
def MIR_RGN_PEER (r : Nat) : Fld := ⟨MIR_RGN r, 16, 6⟩
def MIR_RGN_HELD (r : Nat) : Fld := ⟨MIR_RGN r, 15, 1⟩
def MIR_RGN_IMG (r : Nat) : Fld := ⟨MIR_RGN r, 14, 1⟩
/-- MIR_XP_LINK (13 R357). -/
def MIR_XP_LINK : Nat := 0xF00E000800
def MIR_XP_LINK_TAKE_WIN_US : Fld := ⟨MIR_XP_LINK, 16, 8⟩
def MIR_XP_LINK_RETRAIN_US : Fld := ⟨MIR_XP_LINK, 0, 8⟩
/-- GPIO_CTRL (16 R424). -/
def GPIO_CTRL : Nat := 0xF00B000000
def GPIO_CTRL_OWNER : Fld := ⟨GPIO_CTRL, 30, 2⟩
def GPIO_CTRL_XP_ENABLE : Fld := ⟨GPIO_CTRL, 8, 1⟩
/-- GPIO_BANK_STATUS (16 R424). -/
def GPIO_BANK_STATUS (b : Nat) : Nat := 0xF00B000010 + 0x4 * b
def GPIO_BANK_STATUS_LEVEL (b : Nat) : Fld := ⟨GPIO_BANK_STATUS b, 0, 2⟩
/-- GPIO_PIN_PAD (16 R424). -/
def GPIO_PIN_PAD (n : Nat) : Nat := 0xF00B000100 + 0x8 * n
def GPIO_PIN_PAD_MGMT_EN (n : Nat) : Fld := ⟨GPIO_PIN_PAD n, 15, 1⟩
def GPIO_PIN_PAD_SLEEP (n : Nat) : Fld := ⟨GPIO_PIN_PAD n, 12, 2⟩
def GPIO_PIN_PAD_PARK (n : Nat) : Fld := ⟨GPIO_PIN_PAD n, 8, 2⟩
def GPIO_PIN_PAD_DRIVE (n : Nat) : Fld := ⟨GPIO_PIN_PAD n, 4, 2⟩
def GPIO_PIN_PAD_PULL (n : Nat) : Fld := ⟨GPIO_PIN_PAD n, 2, 2⟩
def GPIO_PIN_PAD_SLOW (n : Nat) : Fld := ⟨GPIO_PIN_PAD n, 1, 1⟩
def GPIO_PIN_PAD_SCHMITT (n : Nat) : Fld := ⟨GPIO_PIN_PAD n, 0, 1⟩
/-- GPIO_PIN_STATUS (16 R424). -/
def GPIO_PIN_STATUS (n : Nat) : Nat := 0xF00B000104 + 0x8 * n
def GPIO_PIN_STATUS_LOCKED (n : Nat) : Fld := ⟨GPIO_PIN_STATUS n, 31, 1⟩
def GPIO_PIN_STATUS_SWITCHING (n : Nat) : Fld := ⟨GPIO_PIN_STATUS n, 30, 1⟩
def GPIO_PIN_STATUS_ASLEEP (n : Nat) : Fld := ⟨GPIO_PIN_STATUS n, 29, 1⟩
def GPIO_PIN_STATUS_SHARED (n : Nat) : Fld := ⟨GPIO_PIN_STATUS n, 28, 1⟩
def GPIO_PIN_STATUS_DRIVERS (n : Nat) : Fld := ⟨GPIO_PIN_STATUS n, 16, 8⟩
def GPIO_PIN_STATUS_OE (n : Nat) : Fld := ⟨GPIO_PIN_STATUS n, 1, 1⟩
def GPIO_PIN_STATUS_IN (n : Nat) : Fld := ⟨GPIO_PIN_STATUS n, 0, 1⟩
/-- GPIO_OUT (16 R424). -/
def GPIO_OUT (w : Nat) : Nat := 0xF00B000800 + 0x4 * w
def GPIO_OUT_BITS (w : Nat) : Fld := ⟨GPIO_OUT w, 0, 32⟩
/-- GPIO_OE (16 R424). -/
def GPIO_OE (w : Nat) : Nat := 0xF00B000810 + 0x4 * w
def GPIO_OE_BITS (w : Nat) : Fld := ⟨GPIO_OE w, 0, 32⟩
/-- GPIO_IN (16 R424). -/
def GPIO_IN (w : Nat) : Nat := 0xF00B000820 + 0x4 * w
def GPIO_IN_BITS (w : Nat) : Fld := ⟨GPIO_IN w, 0, 32⟩
/-- GPIO_RMAP (16 R424). -/
def GPIO_RMAP (r c : Nat) : Nat := 0xF00B001000 + 0x20 * r + 0x4 * c
def GPIO_RMAP_EN (r c : Nat) : Fld := ⟨GPIO_RMAP r c, 31, 1⟩
def GPIO_RMAP_PIN (r c : Nat) : Fld := ⟨GPIO_RMAP r c, 0, 7⟩
/-- GPIO_SMAP (16 R424). -/
def GPIO_SMAP (d p k : Nat) : Nat := 0xF00B002000 + 0x40 * d + 0x10 * p + 0x4 * k
def GPIO_SMAP_EN (d p k : Nat) : Fld := ⟨GPIO_SMAP d p k, 31, 1⟩
def GPIO_SMAP_PIN (d p k : Nat) : Fld := ⟨GPIO_SMAP d p k, 0, 7⟩
/-- GPIO_CKMAP (16 R424). -/
def GPIO_CKMAP (j : Nat) : Nat := 0xF00B002800 + 0x4 * j
def GPIO_CKMAP_EN (j : Nat) : Fld := ⟨GPIO_CKMAP j, 31, 1⟩
def GPIO_CKMAP_SRC (j : Nat) : Fld := ⟨GPIO_CKMAP j, 16, 8⟩
def GPIO_CKMAP_DIV (j : Nat) : Fld := ⟨GPIO_CKMAP j, 8, 3⟩
def GPIO_CKMAP_PIN (j : Nat) : Fld := ⟨GPIO_CKMAP j, 0, 7⟩
/-- GPIO_TMAP (16 R424). -/
def GPIO_TMAP (k : Nat) : Nat := 0xF00B002900 + 0x4 * k
def GPIO_TMAP_EN (k : Nat) : Fld := ⟨GPIO_TMAP k, 31, 1⟩
def GPIO_TMAP_PIN (k : Nat) : Fld := ⟨GPIO_TMAP k, 0, 7⟩
/-- GPIO_LOCK (16 R424). -/
def GPIO_LOCK : Nat := 0xF00B003000
def GPIO_LOCK_WORD : Fld := ⟨GPIO_LOCK, 0, 32⟩
/-- GPIO_LOCK_MASK (16 R424). -/
def GPIO_LOCK_MASK : Nat := 0xF00B003004
def GPIO_LOCK_MASK_MASK : Fld := ⟨GPIO_LOCK_MASK, 0, 32⟩
/-- GPIO_LOCK_STATUS (16 R424). -/
def GPIO_LOCK_STATUS : Nat := 0xF00B003008
def GPIO_LOCK_STATUS_ABORTED : Fld := ⟨GPIO_LOCK_STATUS, 2, 1⟩
def GPIO_LOCK_STATUS_STEP : Fld := ⟨GPIO_LOCK_STATUS, 0, 2⟩
/-- GPIO_LOCKED (16 R424). -/
def GPIO_LOCKED (w : Nat) : Nat := 0xF00B003010 + 0x4 * w
def GPIO_LOCKED_BITS (w : Nat) : Fld := ⟨GPIO_LOCKED w, 0, 32⟩
/-- GPIO_XP_PAD (16 R424). -/
def GPIO_XP_PAD (n : Nat) : Nat := 0xF00B004000 + 0x4 * n
def GPIO_XP_PAD_NCODE (n : Nat) : Fld := ⟨GPIO_XP_PAD n, 6, 6⟩
def GPIO_XP_PAD_PCODE (n : Nat) : Fld := ⟨GPIO_XP_PAD n, 0, 6⟩
/-- DBG_CTRL (17 R444). -/
def DBG_CTRL : Nat := 0xF00C000000
def DBG_CTRL_OWNER : Fld := ⟨DBG_CTRL, 30, 2⟩
def DBG_CTRL_XP_ENABLE : Fld := ⟨DBG_CTRL, 8, 1⟩
def DBG_CTRL_DROP : Fld := ⟨DBG_CTRL, 2, 1⟩
def DBG_CTRL_LIMIT : Fld := ⟨DBG_CTRL, 0, 2⟩
/-- DBG_STATUS (17 R444). -/
def DBG_STATUS : Nat := 0xF00C000004
def DBG_STATUS_FIELD_BUSY : Fld := ⟨DBG_STATUS, 7, 1⟩
def DBG_STATUS_DEFERRED : Fld := ⟨DBG_STATUS, 6, 1⟩
def DBG_STATUS_TOKEN : Fld := ⟨DBG_STATUS, 5, 1⟩
def DBG_STATUS_LEVEL : Fld := ⟨DBG_STATUS, 0, 2⟩
/-- DBG_AUTH_CMD (17 R444). -/
def DBG_AUTH_CMD : Nat := 0xF00C000010
def DBG_AUTH_CMD_GO : Fld := ⟨DBG_AUTH_CMD, 0, 1⟩
/-- DBG_AUTH_STATUS (17 R444). -/
def DBG_AUTH_STATUS : Nat := 0xF00C000014
def DBG_AUTH_STATUS_ERR : Fld := ⟨DBG_AUTH_STATUS, 28, 4⟩
def DBG_AUTH_STATUS_DONE : Fld := ⟨DBG_AUTH_STATUS, 1, 1⟩
def DBG_AUTH_STATUS_BUSY : Fld := ⟨DBG_AUTH_STATUS, 0, 1⟩
/-- DBG_AUTH_NONCE_LO (17 R444). -/
def DBG_AUTH_NONCE_LO : Nat := 0xF00C000018
def DBG_AUTH_NONCE_LO_NONCE : Fld := ⟨DBG_AUTH_NONCE_LO, 0, 32⟩
/-- DBG_AUTH_NONCE_HI (17 R444). -/
def DBG_AUTH_NONCE_HI : Nat := 0xF00C00001C
def DBG_AUTH_NONCE_HI_NONCE : Fld := ⟨DBG_AUTH_NONCE_HI, 0, 32⟩
/-- DBG_AUTH_BUF (17 R444). -/
def DBG_AUTH_BUF (j : Nat) : Nat := 0xF00C000100 + 0x4 * j
def DBG_AUTH_BUF_WORD (j : Nat) : Fld := ⟨DBG_AUTH_BUF j, 0, 32⟩
/-- DBG_TRC_CTRL (17 R444). -/
def DBG_TRC_CTRL : Nat := 0xF00C000200
def DBG_TRC_CTRL_CH_EN : Fld := ⟨DBG_TRC_CTRL, 15, 1⟩
def DBG_TRC_CTRL_START_CH : Fld := ⟨DBG_TRC_CTRL, 11, 4⟩
def DBG_TRC_CTRL_STOP_CH : Fld := ⟨DBG_TRC_CTRL, 7, 4⟩
def DBG_TRC_CTRL_TCLK : Fld := ⟨DBG_TRC_CTRL, 5, 2⟩
def DBG_TRC_CTRL_OUT : Fld := ⟨DBG_TRC_CTRL, 0, 2⟩
/-- DBG_TRC_BASE (17 R444). -/
def DBG_TRC_BASE : Nat := 0xF00C000204
def DBG_TRC_BASE_RING : Fld := ⟨DBG_TRC_BASE, 28, 4⟩
def DBG_TRC_BASE_BASE : Fld := ⟨DBG_TRC_BASE, 0, 28⟩
/-- DBG_TRC_STATUS (17 R444). -/
def DBG_TRC_STATUS : Nat := 0xF00C000208
def DBG_TRC_STATUS_DROP : Fld := ⟨DBG_TRC_STATUS, 16, 16⟩
def DBG_TRC_STATUS_NAP_DROP : Fld := ⟨DBG_TRC_STATUS, 4, 12⟩
def DBG_TRC_STATUS_RUN : Fld := ⟨DBG_TRC_STATUS, 0, 1⟩
/-- DBG_TRC_WPTR (17 R444). -/
def DBG_TRC_WPTR : Nat := 0xF00C00020C
def DBG_TRC_WPTR_OFF : Fld := ⟨DBG_TRC_WPTR, 0, 32⟩
/-- DBG_STIM (17 R444). -/
def DBG_STIM (g : Nat) : Nat := 0xF00C000300 + 0x4 * g
def DBG_STIM_VALUE (g : Nat) : Fld := ⟨DBG_STIM g, 0, 32⟩
/-- DBG_STIM_CHAN (17 R444). -/
def DBG_STIM_CHAN : Nat := 0xF00C000310
def DBG_STIM_CHAN_CHAN3 : Fld := ⟨DBG_STIM_CHAN, 24, 8⟩
def DBG_STIM_CHAN_CHAN2 : Fld := ⟨DBG_STIM_CHAN, 16, 8⟩
def DBG_STIM_CHAN_CHAN1 : Fld := ⟨DBG_STIM_CHAN, 8, 8⟩
def DBG_STIM_CHAN_CHAN0 : Fld := ⟨DBG_STIM_CHAN, 0, 8⟩
/-- DBG_STIM_RGN (17 R444). -/
def DBG_STIM_RGN (k : Nat) : Nat := 0xF00C000320 + 0x4 * k
def DBG_STIM_RGN_BITS (k : Nat) : Fld := ⟨DBG_STIM_RGN k, 0, 32⟩
/-- DBG_PMC_SEL (17 R444). -/
def DBG_PMC_SEL (k : Nat) : Nat := 0xF00C000400 + 0x10 * k
def DBG_PMC_SEL_CLR (k : Nat) : Fld := ⟨DBG_PMC_SEL k, 31, 1⟩
def DBG_PMC_SEL_EN (k : Nat) : Fld := ⟨DBG_PMC_SEL k, 30, 1⟩
def DBG_PMC_SEL_GATE_EN (k : Nat) : Fld := ⟨DBG_PMC_SEL k, 28, 1⟩
def DBG_PMC_SEL_GATE_CH (k : Nat) : Fld := ⟨DBG_PMC_SEL k, 24, 4⟩
def DBG_PMC_SEL_EV (k : Nat) : Fld := ⟨DBG_PMC_SEL k, 16, 8⟩
def DBG_PMC_SEL_ARG (k : Nat) : Fld := ⟨DBG_PMC_SEL k, 0, 16⟩
/-- DBG_PMC_LO (17 R444). -/
def DBG_PMC_LO (k : Nat) : Nat := 0xF00C000404 + 0x10 * k
def DBG_PMC_LO_COUNT (k : Nat) : Fld := ⟨DBG_PMC_LO k, 0, 32⟩
/-- DBG_PMC_HI (17 R444). -/
def DBG_PMC_HI (k : Nat) : Nat := 0xF00C000408 + 0x10 * k
def DBG_PMC_HI_COUNT (k : Nat) : Fld := ⟨DBG_PMC_HI k, 0, 32⟩
/-- DBG_BR_RAISE (17 R444). -/
def DBG_BR_RAISE : Nat := 0xF00C000600
def DBG_BR_RAISE_CH : Fld := ⟨DBG_BR_RAISE, 0, 16⟩
/-- DBG_BR_STATE (17 R444). -/
def DBG_BR_STATE : Nat := 0xF00C000604
def DBG_BR_STATE_CH : Fld := ⟨DBG_BR_STATE, 0, 16⟩
/-- DBG_BR_CORE (17 R444). -/
def DBG_BR_CORE (k : Nat) : Nat := 0xF00C000700 + 0x4 * k
def DBG_BR_CORE_HALT_ON (k : Nat) : Fld := ⟨DBG_BR_CORE k, 16, 16⟩
def DBG_BR_CORE_ON (k : Nat) : Fld := ⟨DBG_BR_CORE k, 8, 1⟩
def DBG_BR_CORE_RAISE_EN (k : Nat) : Fld := ⟨DBG_BR_CORE k, 4, 1⟩
def DBG_BR_CORE_RAISE_CH (k : Nat) : Fld := ⟨DBG_BR_CORE k, 0, 4⟩
/-- DBG_BR_ENG (17 R444). -/
def DBG_BR_ENG (k : Nat) : Nat := 0xF00C000800 + 0x4 * k
def DBG_BR_ENG_HALT_ON (k : Nat) : Fld := ⟨DBG_BR_ENG k, 16, 16⟩
def DBG_BR_ENG_ON (k : Nat) : Fld := ⟨DBG_BR_ENG k, 8, 3⟩
def DBG_BR_ENG_RAISE_EN (k : Nat) : Fld := ⟨DBG_BR_ENG k, 4, 1⟩
def DBG_BR_ENG_RAISE_CH (k : Nat) : Fld := ⟨DBG_BR_ENG k, 0, 4⟩
/-- DBG_BR_RGN (17 R444). -/
def DBG_BR_RGN (k : Nat) : Nat := 0xF00C000C00 + 0x4 * k
def DBG_BR_RGN_HALT_ON (k : Nat) : Fld := ⟨DBG_BR_RGN k, 16, 16⟩
def DBG_BR_RGN_ON (k : Nat) : Fld := ⟨DBG_BR_RGN k, 8, 1⟩
def DBG_BR_RGN_RAISE_EN (k : Nat) : Fld := ⟨DBG_BR_RGN k, 4, 1⟩
def DBG_BR_RGN_RAISE_CH (k : Nat) : Fld := ⟨DBG_BR_RGN k, 0, 4⟩
/-- DBG_BR_PRB (17 R444). -/
def DBG_BR_PRB (k : Nat) : Nat := 0xF00C000D00 + 0x4 * k
def DBG_BR_PRB_ON (k : Nat) : Fld := ⟨DBG_BR_PRB k, 8, 1⟩
def DBG_BR_PRB_RAISE_EN (k : Nat) : Fld := ⟨DBG_BR_PRB k, 4, 1⟩
def DBG_BR_PRB_RAISE_CH (k : Nat) : Fld := ⟨DBG_BR_PRB k, 0, 4⟩
/-- DBG_XP_TRC (17 R444). -/
def DBG_XP_TRC : Nat := 0xF00C000E00
def DBG_XP_TRC_SKEW : Fld := ⟨DBG_XP_TRC, 0, 4⟩
/-- BST_CTRL (17 R451). -/
def BST_CTRL : Nat := 0xF00D000000
def BST_CTRL_OWNER : Fld := ⟨BST_CTRL, 30, 2⟩
def BST_CTRL_XP_ENABLE : Fld := ⟨BST_CTRL, 8, 1⟩
def BST_CTRL_CLASSES : Fld := ⟨BST_CTRL, 1, 3⟩
def BST_CTRL_EN : Fld := ⟨BST_CTRL, 0, 1⟩
/-- BST_SCHED (17 R451). -/
def BST_SCHED : Nat := 0xF00D000004
def BST_SCHED_PERIOD_US : Fld := ⟨BST_SCHED, 0, 16⟩
/-- BST_STATUS (17 R451). -/
def BST_STATUS : Nat := 0xF00D000008
def BST_STATUS_LAST : Fld := ⟨BST_STATUS, 12, 20⟩
def BST_STATUS_SKIPPED : Fld := ⟨BST_STATUS, 4, 8⟩
def BST_STATUS_ROUNDS : Fld := ⟨BST_STATUS, 0, 4⟩
/-- BST_MAPQ (17 R451). -/
def BST_MAPQ : Nat := 0xF00D00000C
def BST_MAPQ_BAD : Fld := ⟨BST_MAPQ, 31, 1⟩
def BST_MAPQ_UNIT : Fld := ⟨BST_MAPQ, 0, 20⟩
/-- BST_XP_CMD (17 R451). -/
def BST_XP_CMD : Nat := 0xF00D000800
def BST_XP_CMD_GO : Fld := ⟨BST_XP_CMD, 31, 1⟩
def BST_XP_CMD_ALG : Fld := ⟨BST_XP_CMD, 20, 2⟩
def BST_XP_CMD_MACRO : Fld := ⟨BST_XP_CMD, 0, 20⟩
/-- BST_XP_STATUS (17 R451). -/
def BST_XP_STATUS : Nat := 0xF00D000804
def BST_XP_STATUS_ERR : Fld := ⟨BST_XP_STATUS, 28, 4⟩
def BST_XP_STATUS_FIELD_BUSY : Fld := ⟨BST_XP_STATUS, 27, 1⟩
def BST_XP_STATUS_DONE : Fld := ⟨BST_XP_STATUS, 26, 1⟩
def BST_XP_STATUS_BUSY : Fld := ⟨BST_XP_STATUS, 25, 1⟩
def BST_XP_STATUS_ROW : Fld := ⟨BST_XP_STATUS, 0, 20⟩
/-- FAB_DIE_CTRL (02 R59). -/
def FAB_DIE_CTRL (d : Nat) : Nat := 0xF010000000 + 0x1000000 * d
def FAB_DIE_CTRL_OWNER (d : Nat) : Fld := ⟨FAB_DIE_CTRL d, 30, 2⟩
def FAB_DIE_CTRL_XP_ENABLE (d : Nat) : Fld := ⟨FAB_DIE_CTRL d, 8, 1⟩
def FAB_DIE_CTRL_DIE (d : Nat) : Fld := ⟨FAB_DIE_CTRL d, 0, 3⟩
/-- FAB_ROSC_CTRL (02 R60). -/
def FAB_ROSC_CTRL (d n : Nat) : Nat := 0xF010010000 + 0x1000000 * d + 0x100 * n
def FAB_ROSC_CTRL_FREQ_MHZ (d n : Nat) : Fld := ⟨FAB_ROSC_CTRL d n, 16, 9⟩
def FAB_ROSC_CTRL_EN (d n : Nat) : Fld := ⟨FAB_ROSC_CTRL d n, 0, 1⟩
/-- FAB_ROSC_MEAS (02 R60). -/
def FAB_ROSC_MEAS (d n : Nat) : Nat := 0xF010010004 + 0x1000000 * d + 0x100 * n
def FAB_ROSC_MEAS_VALID (d n : Nat) : Fld := ⟨FAB_ROSC_MEAS d n, 31, 1⟩
def FAB_ROSC_MEAS_FIELD_BUSY (d n : Nat) : Fld := ⟨FAB_ROSC_MEAS d n, 30, 1⟩
def FAB_ROSC_MEAS_COUNT (d n : Nat) : Fld := ⟨FAB_ROSC_MEAS d n, 0, 20⟩
/-- FAB_ROSC_TRIM (02 R60). -/
def FAB_ROSC_TRIM (d n : Nat) : Nat := 0xF010010080 + 0x1000000 * d + 0x100 * n
def FAB_ROSC_TRIM_TRIM (d n : Nat) : Fld := ⟨FAB_ROSC_TRIM d n, 0, 8⟩
/-- FAB_FL_CTRL (02 R62). -/
def FAB_FL_CTRL (d : Nat) : Nat := 0xF010020000 + 0x1000000 * d
def FAB_FL_CTRL_PAGE (d : Nat) : Fld := ⟨FAB_FL_CTRL d, 8, 6⟩
def FAB_FL_CTRL_OP (d : Nat) : Fld := ⟨FAB_FL_CTRL d, 0, 2⟩
/-- FAB_FL_STATUS (02 R62). -/
def FAB_FL_STATUS (d : Nat) : Nat := 0xF010020004 + 0x1000000 * d
def FAB_FL_STATUS_SEQ (d : Nat) : Fld := ⟨FAB_FL_STATUS d, 16, 16⟩
def FAB_FL_STATUS_WEAR (d : Nat) : Fld := ⟨FAB_FL_STATUS d, 8, 8⟩
def FAB_FL_STATUS_ERR (d : Nat) : Fld := ⟨FAB_FL_STATUS d, 4, 4⟩
def FAB_FL_STATUS_FIELD_BUSY (d : Nat) : Fld := ⟨FAB_FL_STATUS d, 3, 1⟩
def FAB_FL_STATUS_EMPTY (d : Nat) : Fld := ⟨FAB_FL_STATUS d, 2, 1⟩
def FAB_FL_STATUS_DONE (d : Nat) : Fld := ⟨FAB_FL_STATUS d, 1, 1⟩
def FAB_FL_STATUS_BUSY (d : Nat) : Fld := ⟨FAB_FL_STATUS d, 0, 1⟩
/-- FAB_FL_BUF (02 R59). -/
def FAB_FL_BUF (d j : Nat) : Nat := 0xF010021000 + 0x1000000 * d + 0x4 * j
def FAB_FL_BUF_WORD (d j : Nat) : Fld := ⟨FAB_FL_BUF d j, 0, 32⟩
/-- FAB_SP_CTRL (02 R63). -/
def FAB_SP_CTRL (d p : Nat) : Nat := 0xF010030000 + 0x1000000 * d + 0x1000 * p
def FAB_SP_CTRL_CONN (d p : Nat) : Fld := ⟨FAB_SP_CTRL d p, 8, 4⟩
def FAB_SP_CTRL_MODE (d p : Nat) : Fld := ⟨FAB_SP_CTRL d p, 4, 3⟩
def FAB_SP_CTRL_EN (d p : Nat) : Fld := ⟨FAB_SP_CTRL d p, 0, 1⟩
/-- FAB_SP_RATE (02 R63). -/
def FAB_SP_RATE (d p : Nat) : Nat := 0xF010030004 + 0x1000000 * d + 0x1000 * p
def FAB_SP_RATE_RATE_KHZ (d p : Nat) : Fld := ⟨FAB_SP_RATE d p, 0, 20⟩
/-- FAB_SP_FMT (02 R63). -/
def FAB_SP_FMT (d p : Nat) : Nat := 0xF010030008 + 0x1000000 * d + 0x1000 * p
def FAB_SP_FMT_I2C_ADDR (d p : Nat) : Fld := ⟨FAB_SP_FMT d p, 16, 7⟩
def FAB_SP_FMT_RDLEN (d p : Nat) : Fld := ⟨FAB_SP_FMT d p, 12, 4⟩
def FAB_SP_FMT_SPI_MODE (d p : Nat) : Fld := ⟨FAB_SP_FMT d p, 8, 2⟩
def FAB_SP_FMT_STOP2 (d p : Nat) : Fld := ⟨FAB_SP_FMT d p, 5, 1⟩
def FAB_SP_FMT_PARITY (d p : Nat) : Fld := ⟨FAB_SP_FMT d p, 3, 2⟩
def FAB_SP_FMT_BITS7 (d p : Nat) : Fld := ⟨FAB_SP_FMT d p, 0, 1⟩
/-- FAB_SP_STATUS (02 R63). -/
def FAB_SP_STATUS (d p : Nat) : Nat := 0xF01003000C + 0x1000000 * d + 0x1000 * p
def FAB_SP_STATUS_RX_LEVEL (d p : Nat) : Fld := ⟨FAB_SP_STATUS d p, 16, 5⟩
def FAB_SP_STATUS_TX_LEVEL (d p : Nat) : Fld := ⟨FAB_SP_STATUS d p, 8, 5⟩
def FAB_SP_STATUS_FIELD_BUSY (d p : Nat) : Fld := ⟨FAB_SP_STATUS d p, 4, 1⟩
def FAB_SP_STATUS_NACK (d p : Nat) : Fld := ⟨FAB_SP_STATUS d p, 3, 1⟩
def FAB_SP_STATUS_OVERRUN (d p : Nat) : Fld := ⟨FAB_SP_STATUS d p, 2, 1⟩
def FAB_SP_STATUS_PARK_ABORT (d p : Nat) : Fld := ⟨FAB_SP_STATUS d p, 1, 1⟩
def FAB_SP_STATUS_ACTIVE (d p : Nat) : Fld := ⟨FAB_SP_STATUS d p, 0, 1⟩
/-- FAB_SP_DATA (02 R63). -/
def FAB_SP_DATA (d p : Nat) : Nat := 0xF010030010 + 0x1000000 * d + 0x1000 * p
def FAB_SP_DATA_RD (d p : Nat) : Fld := ⟨FAB_SP_DATA d p, 8, 1⟩
def FAB_SP_DATA_DATA (d p : Nat) : Fld := ⟨FAB_SP_DATA d p, 0, 8⟩
/-- FAB_SP_DIV (02 R63). -/
def FAB_SP_DIV (d p : Nat) : Nat := 0xF010030080 + 0x1000000 * d + 0x1000 * p
def FAB_SP_DIV_DIV (d p : Nat) : Fld := ⟨FAB_SP_DIV d p, 0, 16⟩
/-- FAB_RGN_ENV_STATUS (02 R58). -/
def FAB_RGN_ENV_STATUS (d i : Nat) : Nat := 0xF010100000 + 0x1000000 * d + 0x10000 * i
def FAB_RGN_ENV_STATUS_CAUSE (d i : Nat) : Fld := ⟨FAB_RGN_ENV_STATUS d i, 16, 4⟩
def FAB_RGN_ENV_STATUS_FORCED (d i : Nat) : Fld := ⟨FAB_RGN_ENV_STATUS d i, 11, 1⟩
def FAB_RGN_ENV_STATUS_STEP (d i : Nat) : Fld := ⟨FAB_RGN_ENV_STATUS d i, 8, 3⟩
def FAB_RGN_ENV_STATUS_SEAM (d i : Nat) : Fld := ⟨FAB_RGN_ENV_STATUS d i, 4, 4⟩
def FAB_RGN_ENV_STATUS_SRC (d i : Nat) : Fld := ⟨FAB_RGN_ENV_STATUS d i, 3, 1⟩
def FAB_RGN_ENV_STATUS_OPEN (d i : Nat) : Fld := ⟨FAB_RGN_ENV_STATUS d i, 0, 1⟩
/-- FAB_RGN_ENV_CTRL (02 R58). -/
def FAB_RGN_ENV_CTRL (d i : Nat) : Nat := 0xF010100004 + 0x1000000 * d + 0x10000 * i
def FAB_RGN_ENV_CTRL_PARK_ZERO (d i : Nat) : Fld := ⟨FAB_RGN_ENV_CTRL d i, 1, 1⟩
def FAB_RGN_ENV_CTRL_SEAM_BLOCK (d i : Nat) : Fld := ⟨FAB_RGN_ENV_CTRL d i, 0, 1⟩
/-- FAB_RGN_CLKT (02 R47). -/
def FAB_RGN_CLKT (d i t : Nat) : Nat := 0xF010100010 + 0x1000000 * d + 0x10000 * i + 0x4 * t
def FAB_RGN_CLKT_EN (d i t : Nat) : Fld := ⟨FAB_RGN_CLKT d i t, 7, 1⟩
def FAB_RGN_CLKT_SRC (d i t : Nat) : Fld := ⟨FAB_RGN_CLKT d i t, 0, 3⟩
/-- FAB_RGN_TAP (02 R47). -/
def FAB_RGN_TAP (d i m : Nat) : Nat := 0xF010100020 + 0x1000000 * d + 0x10000 * i + 0x4 * m
def FAB_RGN_TAP_DIV (d i m : Nat) : Fld := ⟨FAB_RGN_TAP d i m, 4, 2⟩
def FAB_RGN_TAP_XSEL (d i m : Nat) : Fld := ⟨FAB_RGN_TAP d i m, 1, 1⟩
def FAB_RGN_TAP_EN (d i m : Nat) : Fld := ⟨FAB_RGN_TAP d i m, 0, 1⟩

end Reg

end Sys2Proof.Machine
end

