-- ==== Sys2Proof/Machine/RegTable.lean ====
section
/-! DEFINITION. The register table: for each block, its register kinds with the offset and the instance strides, and
for each field its access type (00 R6), class (00 R10 to R13), reset value and whether a LIVE field's safe boundary is
at once. Copied from the register tables of the spec. -/

namespace Sys2Proof.Machine

/-- Access types (R6). -/
inductive FTy where | rw | ro | wo | w1c | rc | rwl
  deriving DecidableEq, Repr

/-- Field classes (R10 to R13); none for a read-only field. -/
inductive FCls where | live | quiet | boot | none
  deriving DecidableEq, Repr

/-- One row of a register table. -/
structure FieldSpec where
  lo : Nat
  w : Nat
  ty : FTy
  cls : FCls
  rst : Nat
  once : Bool
  deriving DecidableEq, Repr

/-- One register kind: offset in its block, instance strides and counts, whether it is on the expert page. -/
structure RegKind where
  id : RegId
  off : Nat
  dims : List (Nat × Nat)
  expert : Bool
  fields : List FieldSpec
  deriving DecidableEq, Repr

def tableHUB0 : List RegKind := [
  ⟨.HUB_ID, 0x0, [], false, [⟨0, 32, .ro, .none, 1264072776, false⟩]⟩,
  ⟨.HUB_CTRL, 0x4, [], false, [⟨30, 2, .rw, .boot, 2, false⟩, ⟨8, 1, .rw, .live, 0, true⟩]⟩,
  ⟨.HUB_STATUS, 0x8, [], false, [⟨7, 1, .w1c, .none, 0, false⟩, ⟨4, 1, .ro, .none, 0, false⟩, ⟨3, 1, .ro, .none, 0, false⟩, ⟨2, 1, .ro, .none, 0, false⟩, ⟨1, 1, .ro, .none, 0, false⟩]⟩,
  ⟨.HUB_GRADE, 0x10, [], false, [⟨8, 8, .ro, .none, 1, false⟩, ⟨4, 4, .ro, .none, 1, false⟩, ⟨0, 4, .ro, .none, 1, false⟩]⟩,
  ⟨.FEAT_CAP, 0x20, [(0x4, 4)], false, [⟨0, 32, .ro, .none, 0, false⟩]⟩,
  ⟨.FEAT_ACCEPT, 0x30, [(0x4, 4)], false, [⟨0, 32, .rw, .boot, 0, false⟩]⟩,
  ⟨.FEAT_COMMIT, 0x40, [], false, [⟨0, 1, .wo, .boot, 0, false⟩]⟩,
  ⟨.HUB_SUPPLY, 0x50, [], false, [⟨31, 1, .w1c, .none, 0, false⟩, ⟨30, 1, .w1c, .none, 0, false⟩, ⟨29, 1, .ro, .none, 0, false⟩, ⟨0, 10, .ro, .none, 0, false⟩]⟩,
  ⟨.HUB_DROPLOG_ADDR, 0x60, [], false, [⟨0, 32, .ro, .none, 0, false⟩]⟩,
  ⟨.HUB_DROPLOG_INFO, 0x64, [], false, [⟨31, 1, .ro, .none, 0, false⟩, ⟨30, 1, .ro, .none, 0, false⟩, ⟨27, 3, .ro, .none, 0, false⟩, ⟨23, 4, .ro, .none, 0, false⟩, ⟨8, 8, .ro, .none, 0, false⟩]⟩,
  ⟨.HUB_ADMIT, 0x70, [], false, [⟨0, 32, .ro, .none, 0, false⟩]⟩,
  ⟨.HUB_ATTN, 0x80, [], false, [⟨0, 32, .wo, .live, 0, true⟩]⟩]

def tableHUB1 : List RegKind := [
  ⟨.HUB_ATTN_POP, 0x84, [], false, [⟨0, 32, .ro, .none, 0, false⟩]⟩,
  ⟨.HUB_ATTN_SRC, 0x88, [], false, [⟨31, 1, .ro, .none, 0, false⟩, ⟨0, 3, .ro, .none, 0, false⟩]⟩,
  ⟨.HUB_MSIX_RAISE, 0x90, [], false, [⟨25, 7, .wo, .live, 0, true⟩, ⟨0, 6, .wo, .live, 0, true⟩]⟩,
  ⟨.HUB_LC_STATE, 0x100, [], false, [⟨8, 4, .ro, .none, 0, false⟩, ⟨4, 4, .ro, .none, 0, false⟩, ⟨3, 1, .ro, .none, 0, false⟩, ⟨0, 3, .ro, .none, 0, false⟩]⟩,
  ⟨.HUB_LC_CMD, 0x104, [], false, [⟨4, 2, .wo, .quiet, 0, false⟩, ⟨0, 4, .wo, .quiet, 0, false⟩]⟩,
  ⟨.HUB_LC_STATUS, 0x108, [], false, [⟨28, 4, .ro, .none, 0, false⟩, ⟨27, 1, .w1c, .none, 0, false⟩, ⟨1, 1, .w1c, .none, 0, false⟩, ⟨0, 1, .ro, .none, 0, false⟩]⟩,
  ⟨.HUB_LC_NONCE_LO, 0x10C, [], false, [⟨0, 32, .ro, .none, 0, false⟩]⟩,
  ⟨.HUB_LC_NONCE_HI, 0x110, [], false, [⟨0, 32, .ro, .none, 0, false⟩]⟩,
  ⟨.HDMA_HBM_LO, 0x200, [(0x20, 4)], false, [⟨0, 32, .rw, .quiet, 0, false⟩]⟩,
  ⟨.HDMA_HBM_HI, 0x204, [(0x20, 4)], false, [⟨0, 8, .rw, .quiet, 0, false⟩]⟩,
  ⟨.HDMA_OFF, 0x208, [(0x20, 4)], false, [⟨0, 32, .rw, .quiet, 0, false⟩]⟩,
  ⟨.HDMA_LEN, 0x20C, [(0x20, 4)], false, [⟨0, 32, .rw, .quiet, 0, false⟩]⟩]

def tableHUB2 : List RegKind := [
  ⟨.HUB_HDMA_CTRL, 0x210, [(0x20, 4)], false, [⟨31, 1, .wo, .quiet, 0, false⟩, ⟨30, 1, .wo, .live, 0, false⟩, ⟨16, 8, .rw, .quiet, 0, false⟩, ⟨8, 8, .rw, .quiet, 0, false⟩, ⟨0, 1, .rw, .quiet, 0, false⟩]⟩,
  ⟨.HUB_HDMA_STATUS, 0x214, [(0x20, 4)], false, [⟨28, 4, .ro, .none, 0, false⟩, ⟨25, 3, .ro, .none, 0, false⟩, ⟨2, 1, .w1c, .none, 0, false⟩, ⟨1, 1, .w1c, .none, 0, false⟩, ⟨0, 1, .ro, .none, 0, false⟩]⟩,
  ⟨.HUB_RGN_STATE, 0x400, [(0x4, 64)], false, [⟨24, 3, .ro, .none, 0, false⟩, ⟨16, 8, .rw, .quiet, 0, false⟩, ⟨13, 1, .ro, .none, 0, false⟩, ⟨12, 1, .wo, .live, 0, true⟩, ⟨11, 1, .ro, .none, 0, false⟩, ⟨8, 3, .ro, .none, 0, false⟩, ⟨0, 4, .ro, .none, 0, false⟩]⟩,
  ⟨.HUB_LC_BUF, 0x800, [(0x4, 48)], false, [⟨0, 32, .rw, .quiet, 0, false⟩]⟩,
  ⟨.HUB_BSPI_CMD, 0x1000, [], false, [⟨8, 8, .wo, .quiet, 0, false⟩, ⟨0, 4, .wo, .quiet, 0, false⟩]⟩,
  ⟨.HUB_BSPI_ADDR, 0x1004, [], false, [⟨0, 32, .rw, .quiet, 0, false⟩]⟩,
  ⟨.HUB_BSPI_STATUS, 0x1008, [], false, [⟨28, 4, .ro, .none, 0, false⟩, ⟨2, 1, .w1c, .none, 0, false⟩, ⟨1, 1, .w1c, .none, 0, false⟩, ⟨0, 1, .ro, .none, 0, false⟩]⟩,
  ⟨.HUB_BSPI_BUF, 0x1100, [(0x4, 64)], false, [⟨0, 32, .rw, .live, 0, true⟩]⟩,
  ⟨.HUB_EVQ, 0x2000, [(0x4, 4)], false, [⟨0, 32, .ro, .none, 0, false⟩]⟩,
  ⟨.MBX_ID, 0x100000, [(0x10000, 65)], false, [⟨16, 16, .ro, .none, 1, false⟩, ⟨0, 7, .ro, .none, 0, false⟩]⟩,
  ⟨.MBX_H2F_DB, 0x100004, [(0x10000, 65)], false, [⟨0, 16, .ro, .none, 0, false⟩]⟩,
  ⟨.MBX_H2F_CI, 0x100008, [(0x10000, 65)], false, [⟨0, 16, .rw, .live, 0, true⟩]⟩]

def tableHUB3 : List RegKind := [
  ⟨.MBX_F2H_PI, 0x10000C, [(0x10000, 65)], false, [⟨0, 16, .rw, .live, 0, true⟩]⟩,
  ⟨.MBX_F2H_CI, 0x100010, [(0x10000, 65)], false, [⟨0, 16, .ro, .none, 0, false⟩]⟩,
  ⟨.MBX_EVT_PI, 0x100014, [(0x10000, 65)], false, [⟨0, 16, .ro, .none, 0, false⟩]⟩,
  ⟨.MBX_EVT_CI, 0x100018, [(0x10000, 65)], false, [⟨0, 16, .ro, .none, 0, false⟩]⟩,
  ⟨.MBX_STATUS, 0x100020, [(0x10000, 65)], false, [⟨3, 1, .rw, .live, 0, true⟩, ⟨2, 1, .rw, .live, 0, true⟩, ⟨1, 1, .rw, .live, 0, true⟩, ⟨0, 1, .rw, .live, 0, true⟩]⟩,
  ⟨.MBX_H2F_RING, 0x101000, [(0x10000, 65), (0x4, 1024)], false, [⟨0, 32, .ro, .none, 0, false⟩]⟩,
  ⟨.MBX_F2H_RING, 0x102000, [(0x10000, 65), (0x4, 1024)], false, [⟨0, 32, .rw, .live, 0, true⟩]⟩,
  ⟨.MBX_EVT_RING, 0x103000, [(0x10000, 65), (0x4, 1024)], false, [⟨0, 32, .ro, .none, 0, false⟩]⟩,
  ⟨.MBX_MSIX, 0x108000, [(0x10000, 65), (0x4, 256)], false, [⟨0, 32, .ro, .none, 0, false⟩]⟩,
  ⟨.MBX_PBA, 0x109000, [(0x10000, 65), (0x4, 2)], false, [⟨0, 32, .ro, .none, 0, false⟩]⟩,
  ⟨.HUB_XP_SMB, 0x800000, [], true, [⟨0, 7, .rw, .quiet, 74, false⟩]⟩]

def tablePWR0 : List RegKind := [
  ⟨.PWR_CTRL, 0x0, [], false, [⟨30, 2, .rw, .boot, 2, false⟩, ⟨8, 1, .rw, .live, 0, true⟩, ⟨0, 1, .w1c, .none, 0, false⟩]⟩,
  ⟨.PWR_THERM_CFG, 0x10, [], false, [⟨8, 8, .rw, .boot, 110, false⟩, ⟨0, 8, .rw, .live, 95, false⟩]⟩,
  ⟨.PWR_THERM_STATUS, 0x14, [], false, [⟨31, 1, .ro, .none, 0, false⟩, ⟨30, 1, .ro, .none, 0, false⟩, ⟨16, 6, .ro, .none, 0, false⟩, ⟨0, 12, .ro, .none, 0, false⟩]⟩,
  ⟨.PWR_DOM_CTRL, 0x100, [(0x8, 176)], false, [⟨0, 2, .rw, .live, 0, false⟩]⟩,
  ⟨.PWR_DOM_STATUS, 0x104, [(0x8, 176)], false, [⟨28, 4, .ro, .none, 0, false⟩, ⟨6, 16, .ro, .none, 0, false⟩, ⟨4, 2, .ro, .none, 0, false⟩]⟩,
  ⟨.PWR_TEMP, 0x1000, [(0x4, 64)], false, [⟨31, 1, .ro, .none, 0, false⟩, ⟨0, 12, .ro, .none, 0, false⟩]⟩,
  ⟨.PWR_XP_RAMP, 0x2000, [], true, [⟨0, 8, .rw, .quiet, 50, false⟩]⟩]

def tableCLK0 : List RegKind := [
  ⟨.CLK_CTRL, 0x0, [], false, [⟨30, 2, .rw, .boot, 2, false⟩, ⟨8, 1, .rw, .live, 0, true⟩, ⟨2, 1, .rw, .live, 1, false⟩, ⟨1, 1, .rw, .live, 1, false⟩]⟩,
  ⟨.CLK_JUDGE, 0x4, [], false, [⟨16, 8, .rc, .none, 0, false⟩, ⟨11, 1, .ro, .none, 0, false⟩, ⟨10, 1, .ro, .none, 0, false⟩, ⟨8, 2, .ro, .none, 0, false⟩, ⟨0, 3, .ro, .none, 0, false⟩]⟩,
  ⟨.CLK_JUDGE_CNT, 0x8, [(0x4, 2)], false, [⟨0, 20, .ro, .none, 0, false⟩]⟩,
  ⟨.CLK_PLL_CFG, 0x1000, [(0x20, 123)], false, [⟨31, 1, .rw, .live, 0, true⟩, ⟨28, 2, .rw, .quiet, 0, false⟩, ⟨12, 12, .rw, .live, 0, false⟩, ⟨0, 12, .rw, .live, 0, false⟩]⟩,
  ⟨.CLK_PLL_STATUS, 0x1004, [(0x20, 123)], false, [⟨16, 8, .rc, .none, 0, false⟩, ⟨11, 1, .ro, .none, 0, false⟩, ⟨10, 1, .ro, .none, 0, false⟩, ⟨9, 1, .w1c, .none, 0, false⟩, ⟨8, 1, .w1c, .none, 0, false⟩, ⟨0, 4, .ro, .none, 0, false⟩]⟩,
  ⟨.CLK_PLL_XP, 0x1010, [(0x20, 123)], true, [⟨25, 7, .rw, .live, 0, false⟩, ⟨18, 7, .rw, .live, 0, false⟩, ⟨0, 13, .rw, .live, 0, false⟩]⟩,
  ⟨.CLK_DOM_CTRL, 0x3000, [(0x8, 194)], false, [⟨0, 3, .rw, .live, 0, false⟩]⟩,
  ⟨.CLK_DOM_STATUS, 0x3004, [(0x8, 194)], false, [⟨27, 1, .w1c, .none, 0, false⟩, ⟨16, 5, .ro, .none, 0, false⟩, ⟨8, 4, .ro, .none, 0, false⟩, ⟨4, 4, .ro, .none, 0, false⟩, ⟨0, 4, .ro, .none, 0, false⟩]⟩]

def tableCFG0 : List RegKind := [
  ⟨.CFG_CTRL, 0x0, [], false, [⟨30, 2, .rw, .boot, 2, false⟩, ⟨8, 16, .rw, .live, 4000, false⟩, ⟨0, 1, .rw, .live, 0, true⟩]⟩,
  ⟨.CFG_DEVINFO, 0x4, [], false, [⟨0, 8, .ro, .none, 0, false⟩]⟩,
  ⟨.CFG_SERIAL_LO, 0x8, [], false, [⟨0, 32, .ro, .none, 0, false⟩]⟩,
  ⟨.CFG_SERIAL_HI, 0xC, [], false, [⟨0, 32, .ro, .none, 0, false⟩]⟩,
  ⟨.CFG_BOOT_STATUS, 0x10, [], false, [⟨24, 8, .ro, .none, 0, false⟩, ⟨16, 8, .ro, .none, 0, false⟩, ⟨8, 8, .ro, .none, 0, false⟩, ⟨4, 1, .ro, .none, 0, false⟩, ⟨3, 1, .ro, .none, 0, false⟩, ⟨2, 1, .ro, .none, 0, false⟩, ⟨0, 2, .ro, .none, 0, false⟩]⟩,
  ⟨.CFG_BOOT_CTRL, 0x14, [], false, [⟨16, 16, .rw, .boot, 2800, false⟩, ⟨0, 1, .wo, .live, 0, true⟩]⟩,
  ⟨.CFG_LD_CTRL, 0x100, [(0x40, 4)], false, [⟨16, 6, .rw, .quiet, 0, false⟩, ⟨1, 1, .wo, .live, 0, false⟩, ⟨0, 1, .wo, .quiet, 0, false⟩]⟩,
  ⟨.CFG_LD_SRC, 0x104, [(0x40, 4)], false, [⟨0, 32, .rw, .quiet, 0, false⟩]⟩,
  ⟨.CFG_LD_LEN, 0x108, [(0x40, 4)], false, [⟨0, 32, .rw, .quiet, 0, false⟩]⟩,
  ⟨.CFG_LD_STATUS, 0x10C, [(0x40, 4)], false, [⟨24, 8, .ro, .none, 0, false⟩, ⟨20, 4, .ro, .none, 0, false⟩, ⟨17, 1, .w1c, .none, 0, false⟩, ⟨16, 1, .w1c, .none, 0, false⟩, ⟨0, 16, .ro, .none, 0, false⟩]⟩,
  ⟨.CFG_BKEY, 0x420, [(0x20, 8), (0x4, 8)], false, [⟨0, 32, .wo, .quiet, 0, false⟩]⟩,
  ⟨.CFG_XP_PACE, 0x800, [], true, [⟨0, 13, .rw, .live, 3200, false⟩]⟩]

def tableCFG1 : List RegKind := [
  ⟨.CFG_INTEG_CTRL, 0x1000, [], false, [⟨7, 1, .rw, .boot, 0, false⟩, ⟨3, 1, .rw, .live, 1, false⟩, ⟨2, 1, .rw, .live, 1, false⟩, ⟨0, 1, .rw, .live, 1, false⟩]⟩,
  ⟨.CFG_GOLD_BASE, 0x1004, [], false, [⟨0, 8, .rw, .boot, 143, false⟩]⟩,
  ⟨.CFG_INTEG_STATUS, 0x1010, [], false, [⟨24, 8, .ro, .none, 0, false⟩, ⟨16, 8, .w1c, .none, 0, false⟩, ⟨8, 8, .rc, .none, 0, false⟩, ⟨0, 8, .rc, .none, 0, false⟩]⟩,
  ⟨.CFG_UPSET_ADDR, 0x1014, [], false, [⟨0, 32, .ro, .none, 0, false⟩]⟩,
  ⟨.CFG_UPSET_INFO, 0x1018, [], false, [⟨31, 1, .ro, .none, 0, false⟩, ⟨30, 1, .ro, .none, 0, false⟩, ⟨28, 2, .ro, .none, 0, false⟩, ⟨26, 2, .ro, .none, 0, false⟩, ⟨0, 12, .ro, .none, 0, false⟩]⟩,
  ⟨.CFG_GOLD_VALID, 0x1020, [(0x4, 2)], false, [⟨0, 32, .ro, .none, 0, false⟩]⟩,
  ⟨.CFG_CAP_CTRL, 0x2000, [], false, [⟨24, 8, .rw, .quiet, 64, false⟩, ⟨16, 4, .rw, .quiet, 1, false⟩, ⟨7, 1, .rw, .quiet, 0, false⟩, ⟨6, 1, .rw, .quiet, 0, false⟩, ⟨5, 1, .rw, .quiet, 0, false⟩, ⟨0, 3, .wo, .quiet, 0, false⟩]⟩,
  ⟨.CFG_CAP_MASK, 0x2004, [(0x4, 2)], false, [⟨0, 32, .rw, .quiet, 0, false⟩]⟩,
  ⟨.CFG_CAP_ADDR, 0x200C, [], false, [⟨0, 32, .rw, .quiet, 0, false⟩]⟩,
  ⟨.CFG_CAP_STATUS, 0x2010, [], false, [⟨24, 8, .ro, .none, 0, false⟩, ⟨18, 1, .w1c, .none, 0, false⟩, ⟨17, 1, .w1c, .none, 0, false⟩, ⟨16, 1, .ro, .none, 0, false⟩, ⟨0, 16, .ro, .none, 0, false⟩]⟩,
  ⟨.CFG_CAP_IVHI, 0x2014, [], false, [⟨0, 32, .rw, .quiet, 0, false⟩]⟩,
  ⟨.CFG_BAL, 0x2100, [(0x4, 64)], false, [⟨31, 1, .ro, .none, 0, false⟩, ⟨30, 1, .ro, .none, 0, false⟩, ⟨29, 1, .ro, .none, 0, false⟩, ⟨28, 1, .ro, .none, 0, false⟩, ⟨27, 1, .ro, .none, 0, false⟩, ⟨0, 8, .ro, .none, 0, false⟩]⟩]

def tableCFG2 : List RegKind := [
  ⟨.CFG_PDIG, 0x3000, [(0x40, 64), (0x4, 12)], false, [⟨0, 32, .ro, .none, 0, false⟩]⟩,
  ⟨.CFG_ARB_RB_CTRL, 0x4000, [(0x10, 64)], false, [⟨16, 16, .rw, .live, 0, false⟩, ⟨8, 4, .rw, .live, 4, false⟩, ⟨7, 1, .wo, .live, 0, true⟩, ⟨0, 7, .rw, .live, 0, true⟩]⟩,
  ⟨.CFG_ARB_RB_DROGUE, 0x4004, [(0x10, 64)], false, [⟨0, 24, .rw, .live, 32768, false⟩]⟩,
  ⟨.CFG_ARB_RB_STATUS, 0x4008, [(0x10, 64)], false, [⟨25, 7, .ro, .none, 127, false⟩, ⟨24, 1, .ro, .none, 0, false⟩, ⟨23, 1, .ro, .none, 0, false⟩, ⟨18, 5, .ro, .none, 0, false⟩, ⟨10, 8, .ro, .none, 0, false⟩, ⟨0, 7, .ro, .none, 0, false⟩]⟩,
  ⟨.CFG_ARB_RB_COUNT, 0x400C, [(0x10, 64)], false, [⟨16, 16, .rc, .none, 0, false⟩, ⟨8, 8, .rc, .none, 0, false⟩, ⟨0, 8, .rc, .none, 0, false⟩]⟩,
  ⟨.CFG_ARB_CAP_CTRL, 0x4400, [], false, [⟨16, 16, .rw, .live, 0, false⟩, ⟨8, 4, .rw, .live, 4, false⟩, ⟨7, 1, .wo, .live, 0, true⟩, ⟨0, 7, .rw, .live, 0, true⟩]⟩,
  ⟨.CFG_ARB_CAP_DROGUE, 0x4404, [], false, [⟨0, 24, .rw, .live, 32768, false⟩]⟩,
  ⟨.CFG_ARB_CAP_STATUS, 0x4408, [], false, [⟨25, 7, .ro, .none, 127, false⟩, ⟨24, 1, .ro, .none, 0, false⟩, ⟨23, 1, .ro, .none, 0, false⟩, ⟨18, 5, .ro, .none, 0, false⟩, ⟨10, 8, .ro, .none, 0, false⟩, ⟨0, 7, .ro, .none, 0, false⟩]⟩,
  ⟨.CFG_ARB_CAP_COUNT, 0x440C, [], false, [⟨16, 16, .rc, .none, 0, false⟩, ⟨8, 8, .rc, .none, 0, false⟩, ⟨0, 8, .rc, .none, 0, false⟩]⟩]

def tableCMX0 : List RegKind := [
  ⟨.CMX_DIE_CTRL, 0x0, [(0x100000, 8)], false, [⟨30, 2, .rw, .boot, 2, false⟩, ⟨8, 1, .rw, .live, 0, true⟩, ⟨1, 1, .wo, .live, 0, true⟩, ⟨0, 1, .wo, .quiet, 0, false⟩]⟩,
  ⟨.CMX_DIE_STATUS, 0x4, [(0x100000, 8)], false, [⟨16, 16, .ro, .none, 0, false⟩, ⟨12, 4, .ro, .none, 0, false⟩, ⟨11, 1, .w1c, .none, 0, false⟩, ⟨10, 1, .w1c, .none, 0, false⟩, ⟨9, 1, .w1c, .none, 0, false⟩, ⟨4, 4, .ro, .none, 0, false⟩, ⟨0, 4, .ro, .none, 0, false⟩]⟩,
  ⟨.CMX_XP_TRAIN, 0x800, [(0x100000, 8)], true, [⟨16, 5, .rw, .quiet, 17, false⟩, ⟨0, 8, .rw, .quiet, 20, false⟩]⟩,
  ⟨.CMX_B_CTRL, 0x1000, [(0x100000, 8), (0x40, 16)], false, [⟨16, 12, .rw, .quiet, 0, false⟩, ⟨4, 1, .rw, .quiet, 0, false⟩, ⟨0, 4, .wo, .quiet, 0, false⟩]⟩,
  ⟨.CMX_B_STATUS, 0x1004, [(0x100000, 8), (0x40, 16)], false, [⟨28, 4, .ro, .none, 0, false⟩, ⟨27, 1, .w1c, .none, 0, false⟩, ⟨24, 3, .ro, .none, 0, false⟩, ⟨16, 8, .ro, .none, 0, false⟩, ⟨8, 7, .ro, .none, 0, false⟩, ⟨6, 2, .ro, .none, 0, false⟩, ⟨4, 2, .ro, .none, 0, false⟩, ⟨0, 4, .ro, .none, 0, false⟩]⟩,
  ⟨.CMX_B_ERR, 0x1008, [(0x100000, 8), (0x40, 16)], false, [⟨16, 16, .rc, .none, 0, false⟩, ⟨8, 8, .rc, .none, 0, false⟩, ⟨0, 8, .rc, .none, 0, false⟩]⟩,
  ⟨.CMX_B_SPARE, 0x2000, [(0x100000, 8), (0x100, 16), (0x4, 64)], false, [⟨31, 1, .ro, .none, 0, false⟩, ⟨30, 1, .ro, .none, 0, false⟩, ⟨0, 11, .ro, .none, 0, false⟩]⟩,
  ⟨.CMX_B_BAD, 0x4000, [(0x100000, 8), (0x200, 16), (0x4, 66)], false, [⟨0, 32, .ro, .none, 0, false⟩]⟩,
  ⟨.CMX_XR, 0x40000, [(0x100000, 8), (0x1C00, 16), (0x4, 1792)], false, [⟨31, 1, .rw, .live, 0, false⟩, ⟨28, 3, .rw, .live, 0, false⟩, ⟨24, 4, .rw, .live, 0, false⟩, ⟨23, 1, .ro, .none, 0, false⟩, ⟨0, 11, .rw, .live, 0, false⟩]⟩,
  ⟨.CMX_ARB_CTRL, 0xC00, [(0x100000, 8)], false, [⟨16, 16, .rw, .live, 0, false⟩, ⟨8, 4, .rw, .live, 4, false⟩, ⟨7, 1, .wo, .live, 0, true⟩, ⟨0, 7, .rw, .live, 0, true⟩]⟩,
  ⟨.CMX_ARB_DROGUE, 0xC04, [(0x100000, 8)], false, [⟨0, 24, .rw, .live, 32768, false⟩]⟩,
  ⟨.CMX_ARB_STATUS, 0xC08, [(0x100000, 8)], false, [⟨25, 7, .ro, .none, 127, false⟩, ⟨24, 1, .ro, .none, 0, false⟩, ⟨23, 1, .ro, .none, 0, false⟩, ⟨18, 5, .ro, .none, 0, false⟩, ⟨10, 8, .ro, .none, 0, false⟩, ⟨0, 7, .ro, .none, 0, false⟩]⟩]

def tableCMX1 : List RegKind := [
  ⟨.CMX_ARB_COUNT, 0xC0C, [(0x100000, 8)], false, [⟨16, 16, .rc, .none, 0, false⟩, ⟨8, 8, .rc, .none, 0, false⟩, ⟨0, 8, .rc, .none, 0, false⟩]⟩]

def tableNOC0 : List RegKind := [
  ⟨.NOC_CTRL, 0x0, [], false, [⟨30, 2, .rw, .boot, 2, false⟩, ⟨8, 1, .rw, .live, 0, true⟩]⟩,
  ⟨.NOC_STATUS, 0x4, [], false, [⟨12, 4, .ro, .none, 0, false⟩, ⟨8, 1, .w1c, .none, 0, false⟩, ⟨3, 1, .ro, .none, 0, false⟩, ⟨2, 1, .ro, .none, 0, false⟩, ⟨1, 1, .ro, .none, 0, false⟩, ⟨0, 1, .ro, .none, 0, false⟩]⟩,
  ⟨.NOC_EPOCH, 0x10, [], false, [⟨31, 1, .wo, .live, 0, true⟩, ⟨0, 16, .rw, .live, 16, false⟩]⟩,
  ⟨.NOC_TIME, 0x18, [(0x4, 2)], false, [⟨0, 32, .ro, .none, 0, false⟩]⟩,
  ⟨.NOC_XP_LINK, 0x800, [], true, [⟨8, 8, .rw, .live, 1, false⟩, ⟨0, 4, .rw, .live, 8, false⟩]⟩,
  ⟨.NOC_ROUTER_CTRL, 0x100000, [(0x4000, 64)], false, [⟨0, 3, .wo, .quiet, 0, false⟩]⟩,
  ⟨.NOC_ROUTER_STATUS, 0x100004, [(0x4000, 64)], false, [⟨28, 4, .ro, .none, 0, false⟩, ⟨27, 1, .w1c, .none, 0, false⟩, ⟨0, 4, .ro, .none, 1, false⟩]⟩,
  ⟨.NOC_PORT_CTRL, 0x100040, [(0x4000, 64), (0x8, 20)], false, [⟨16, 16, .rw, .live, 4096, false⟩, ⟨8, 4, .rw, .quiet, 15, false⟩, ⟨0, 3, .wo, .quiet, 0, false⟩]⟩,
  ⟨.NOC_PORT_STATUS, 0x100044, [(0x4000, 64), (0x8, 20)], false, [⟨28, 4, .ro, .none, 0, false⟩, ⟨27, 1, .w1c, .none, 0, false⟩, ⟨16, 8, .rc, .none, 0, false⟩, ⟨8, 8, .rc, .none, 0, false⟩, ⟨0, 4, .ro, .none, 0, false⟩]⟩,
  ⟨.NOC_PRB_CTRL, 0x100100, [(0x4000, 64)], false, [⟨16, 16, .rw, .live, 0, false⟩, ⟨12, 4, .rw, .live, 0, false⟩, ⟨11, 1, .rw, .live, 0, false⟩, ⟨10, 1, .rw, .live, 0, false⟩, ⟨8, 1, .rw, .live, 0, false⟩, ⟨0, 5, .rw, .live, 0, false⟩]⟩,
  ⟨.NOC_PRB_FLT, 0x100120, [(0x4000, 64), (0x10, 2), (0x4, 4)], false, [⟨0, 32, .rw, .live, 0, false⟩]⟩,
  ⟨.NOC_PRB_CNT, 0x100140, [(0x4000, 64), (0x4, 4)], false, [⟨0, 32, .rc, .none, 0, false⟩]⟩]

def tableNOC1 : List RegKind := [
  ⟨.NOC_ROUTE, 0x100400, [(0x4000, 64), (0x100, 2), (0x4, 64)], false, [⟨0, 3, .rw, .live, 0, false⟩]⟩,
  ⟨.NOC_SLOT, 0x101000, [(0x4000, 64), (0x1000, 2), (0x80, 20), (0x4, 32)], false, [⟨31, 1, .rw, .live, 0, false⟩, ⟨0, 5, .rw, .live, 0, false⟩]⟩,
  ⟨.NOC_ARB_CTRL, 0x100200, [(0x4000, 64), (0x10, 20)], false, [⟨16, 16, .rw, .live, 0, false⟩, ⟨8, 4, .rw, .live, 4, false⟩, ⟨7, 1, .wo, .live, 0, true⟩, ⟨0, 7, .rw, .live, 0, true⟩]⟩,
  ⟨.NOC_ARB_DROGUE, 0x100204, [(0x4000, 64), (0x10, 20)], false, [⟨0, 24, .rw, .live, 32768, false⟩]⟩,
  ⟨.NOC_ARB_STATUS, 0x100208, [(0x4000, 64), (0x10, 20)], false, [⟨25, 7, .ro, .none, 127, false⟩, ⟨24, 1, .ro, .none, 0, false⟩, ⟨23, 1, .ro, .none, 0, false⟩, ⟨18, 5, .ro, .none, 0, false⟩, ⟨10, 8, .ro, .none, 0, false⟩, ⟨0, 7, .ro, .none, 0, false⟩]⟩,
  ⟨.NOC_ARB_COUNT, 0x10020C, [(0x4000, 64), (0x10, 20)], false, [⟨16, 16, .rc, .none, 0, false⟩, ⟨8, 8, .rc, .none, 0, false⟩, ⟨0, 8, .rc, .none, 0, false⟩]⟩]

def tableDMC0 : List RegKind := [
  ⟨.DMC_ARB_CTRL, 0x800, [(0x10000, 128)], false, [⟨16, 16, .rw, .live, 0, false⟩, ⟨8, 4, .rw, .live, 4, false⟩, ⟨7, 1, .wo, .live, 0, true⟩, ⟨0, 7, .rw, .live, 0, true⟩]⟩,
  ⟨.DMC_ARB_DROGUE, 0x804, [(0x10000, 128)], false, [⟨0, 24, .rw, .live, 32768, false⟩]⟩,
  ⟨.DMC_ARB_STATUS, 0x808, [(0x10000, 128)], false, [⟨25, 7, .ro, .none, 127, false⟩, ⟨24, 1, .ro, .none, 0, false⟩, ⟨23, 1, .ro, .none, 0, false⟩, ⟨18, 5, .ro, .none, 0, false⟩, ⟨10, 8, .ro, .none, 0, false⟩, ⟨0, 7, .ro, .none, 0, false⟩]⟩,
  ⟨.DMC_ARB_COUNT, 0x80C, [(0x10000, 128)], false, [⟨16, 16, .rc, .none, 0, false⟩, ⟨8, 8, .rc, .none, 0, false⟩, ⟨0, 8, .rc, .none, 0, false⟩]⟩,
  ⟨.DMC_GLB_CTRL, 0x800000, [], false, [⟨30, 2, .rw, .boot, 2, false⟩, ⟨8, 1, .rw, .live, 0, true⟩, ⟨0, 1, .rw, .boot, 0, false⟩]⟩,
  ⟨.DMC_CTRL, 0x0, [(0x10000, 128)], false, [⟨0, 4, .wo, .quiet, 0, false⟩]⟩,
  ⟨.DMC_STATUS, 0x4, [(0x10000, 128)], false, [⟨28, 4, .ro, .none, 0, false⟩, ⟨27, 1, .w1c, .none, 0, false⟩, ⟨20, 7, .ro, .none, 0, false⟩, ⟨13, 7, .ro, .none, 0, false⟩, ⟨0, 4, .ro, .none, 0, false⟩]⟩,
  ⟨.DMC_PAGE, 0x10, [(0x10000, 128)], false, [⟨16, 16, .rw, .live, 3500, false⟩, ⟨8, 8, .rw, .live, 40, false⟩, ⟨0, 8, .rw, .live, 16, false⟩]⟩,
  ⟨.DMC_WQ, 0x14, [(0x10000, 128)], false, [⟨24, 8, .rw, .live, 4, false⟩, ⟨8, 8, .rw, .live, 48, false⟩, ⟨0, 8, .rw, .live, 32, false⟩]⟩,
  ⟨.DMC_SR, 0x18, [(0x10000, 128)], false, [⟨31, 1, .rw, .live, 1, false⟩, ⟨0, 16, .rw, .live, 10, false⟩]⟩,
  ⟨.DMC_REF, 0x20, [(0x10000, 128)], false, [⟨0, 4, .rw, .live, 4, false⟩]⟩,
  ⟨.DMC_REF_STATUS, 0x24, [(0x10000, 128)], false, [⟨24, 8, .rc, .none, 0, false⟩, ⟨16, 8, .ro, .none, 0, false⟩, ⟨14, 2, .ro, .none, 0, false⟩, ⟨0, 9, .ro, .none, 0, false⟩]⟩]

def tableDMC1 : List RegKind := [
  ⟨.DMC_RECAL, 0x28, [(0x10000, 128)], false, [⟨0, 16, .rw, .live, 1, false⟩]⟩,
  ⟨.DMC_LINK_CFG, 0x2C, [(0x10000, 128)], false, [⟨0, 8, .rw, .live, 16, false⟩]⟩,
  ⟨.DMC_LINK_ERR, 0x30, [(0x10000, 128)], false, [⟨24, 8, .rc, .none, 0, false⟩, ⟨16, 8, .rc, .none, 0, false⟩, ⟨8, 8, .rc, .none, 0, false⟩, ⟨0, 8, .rc, .none, 0, false⟩]⟩,
  ⟨.DMC_TRAIN, 0x34, [(0x10000, 128)], false, [⟨28, 4, .ro, .none, 0, false⟩, ⟨26, 2, .ro, .none, 0, false⟩, ⟨16, 8, .rc, .none, 0, false⟩, ⟨0, 16, .ro, .none, 0, false⟩]⟩,
  ⟨.DMC_PORT_QOS, 0x100, [(0x10000, 128), (0x8, 8)], false, [⟨16, 2, .rw, .live, 0, false⟩, ⟨0, 16, .rw, .live, 0, false⟩]⟩,
  ⟨.DMC_PORT_STAT, 0x104, [(0x10000, 128), (0x8, 8)], false, [⟨16, 16, .rc, .none, 0, false⟩, ⟨0, 2, .ro, .none, 0, false⟩]⟩,
  ⟨.DMC_XP_T0, 0xC00, [(0x10000, 128)], true, [⟨24, 8, .rw, .quiet, 17, false⟩, ⟨16, 8, .rw, .quiet, 12, false⟩, ⟨8, 8, .rw, .quiet, 17, false⟩, ⟨0, 8, .rw, .quiet, 36, false⟩]⟩,
  ⟨.DMC_XP_T1, 0xC04, [(0x10000, 128)], true, [⟨24, 8, .rw, .quiet, 10, false⟩, ⟨16, 8, .rw, .quiet, 8, false⟩, ⟨8, 8, .rw, .quiet, 24, false⟩, ⟨0, 8, .rw, .quiet, 10, false⟩]⟩,
  ⟨.DMC_XP_T2, 0xC08, [(0x10000, 128)], true, [⟨16, 16, .rw, .quiet, 4680, false⟩, ⟨0, 16, .rw, .quiet, 420, false⟩]⟩,
  ⟨.DMC_XP_T3, 0xC0C, [(0x10000, 128)], true, [⟨16, 16, .rw, .quiet, 432, false⟩, ⟨0, 16, .rw, .quiet, 192, false⟩]⟩,
  ⟨.DMC_ECC_CNT, 0x400, [(0x10000, 128)], false, [⟨16, 16, .rc, .none, 0, false⟩, ⟨0, 16, .rc, .none, 0, false⟩]⟩,
  ⟨.DMC_ECC_LAST_ADDR, 0x404, [(0x10000, 128)], false, [⟨0, 26, .ro, .none, 0, false⟩]⟩]

def tableDMC2 : List RegKind := [
  ⟨.DMC_ECC_LAST_INFO, 0x408, [(0x10000, 128)], false, [⟨31, 1, .ro, .none, 0, false⟩, ⟨30, 1, .ro, .none, 0, false⟩, ⟨0, 6, .ro, .none, 0, false⟩]⟩,
  ⟨.DMC_MRG_STATUS, 0x40C, [(0x10000, 128)], false, [⟨16, 16, .rc, .none, 0, false⟩, ⟨8, 8, .rc, .none, 0, false⟩, ⟨0, 5, .ro, .none, 0, false⟩]⟩]

def tableSEC0 : List RegKind := [
  ⟨.SEC_CTRL, 0x0, [], false, [⟨30, 2, .rw, .boot, 2, false⟩, ⟨8, 1, .rw, .live, 0, true⟩]⟩,
  ⟨.SEC_KEYLOAD, 0x100, [(0x4, 24)], false, [⟨0, 32, .wo, .quiet, 0, false⟩]⟩,
  ⟨.SEC_K_CTRL, 0x1000, [(0x40, 64)], false, [⟨16, 8, .rw, .quiet, 0, false⟩, ⟨0, 3, .wo, .live, 0, true⟩]⟩,
  ⟨.SEC_K_RANGE, 0x1004, [(0x40, 64)], false, [⟨16, 12, .rw, .quiet, 0, false⟩, ⟨0, 12, .rw, .quiet, 0, false⟩]⟩,
  ⟨.SEC_K_LBN_LO, 0x1008, [(0x40, 64)], false, [⟨0, 32, .rw, .quiet, 0, false⟩]⟩,
  ⟨.SEC_K_LBN_HI, 0x100C, [(0x40, 64)], false, [⟨0, 32, .rw, .quiet, 0, false⟩]⟩,
  ⟨.SEC_K_STATUS, 0x1010, [(0x40, 64)], false, [⟨28, 4, .ro, .none, 0, false⟩, ⟨27, 1, .w1c, .none, 0, false⟩, ⟨26, 1, .ro, .none, 0, false⟩, ⟨16, 8, .rc, .none, 0, false⟩, ⟨0, 4, .ro, .none, 0, false⟩]⟩,
  ⟨.SEC_K_XP, 0x1020, [(0x40, 64)], true, [⟨0, 1, .rw, .live, 0, false⟩]⟩,
  ⟨.SEC_LOG_ADDR, 0x3000, [(0x100, 2)], false, [⟨0, 32, .ro, .none, 0, false⟩]⟩,
  ⟨.SEC_LOG_INFO, 0x3004, [(0x100, 2)], false, [⟨31, 1, .ro, .none, 0, false⟩, ⟨30, 1, .ro, .none, 0, false⟩, ⟨28, 2, .ro, .none, 0, false⟩, ⟨22, 6, .ro, .none, 0, false⟩, ⟨12, 10, .ro, .none, 0, false⟩, ⟨4, 8, .ro, .none, 0, false⟩]⟩]

def tableLNE0 : List RegKind := [
  ⟨.LNE_GLB_CTRL, 0x200000, [], false, [⟨30, 2, .rw, .boot, 2, false⟩, ⟨8, 1, .rw, .live, 0, true⟩, ⟨0, 1, .wo, .quiet, 0, false⟩]⟩,
  ⟨.LNE_GLB_EQ_STATUS, 0x200004, [], false, [⟨31, 1, .ro, .none, 0, false⟩, ⟨30, 1, .ro, .none, 0, false⟩, ⟨29, 1, .w1c, .none, 0, false⟩, ⟨10, 10, .ro, .none, 0, false⟩, ⟨0, 10, .ro, .none, 0, false⟩]⟩,
  ⟨.LNE_Q_CFG, 0x100000, [(0x100, 36)], false, [⟨24, 8, .rw, .quiet, 0, false⟩, ⟨4, 17, .rw, .quiet, 0, false⟩, ⟨0, 3, .rw, .quiet, 0, false⟩]⟩,
  ⟨.LNE_Q_STATUS, 0x100004, [(0x100, 36)], false, [⟨28, 4, .ro, .none, 0, false⟩, ⟨27, 1, .w1c, .none, 0, false⟩, ⟨1, 2, .ro, .none, 0, false⟩, ⟨0, 1, .ro, .none, 0, false⟩]⟩,
  ⟨.LNE_CTRL, 0x0, [(0x1000, 144)], false, [⟨0, 2, .rw, .quiet, 0, false⟩]⟩,
  ⟨.LNE_STATUS, 0x4, [(0x1000, 144)], false, [⟨7, 1, .w1c, .none, 0, false⟩, ⟨6, 1, .ro, .none, 0, false⟩, ⟨5, 1, .ro, .none, 0, false⟩, ⟨4, 1, .ro, .none, 0, false⟩, ⟨3, 1, .ro, .none, 0, false⟩, ⟨2, 1, .ro, .none, 1, false⟩, ⟨0, 2, .ro, .none, 0, false⟩]⟩,
  ⟨.LNE_PRBS_CTRL, 0x10, [(0x1000, 144)], false, [⟨8, 1, .wo, .live, 0, true⟩, ⟨3, 3, .rw, .live, 5, false⟩, ⟨0, 3, .rw, .live, 5, false⟩]⟩,
  ⟨.LNE_PRBS_STATUS, 0x14, [(0x1000, 144)], false, [⟨8, 1, .w1c, .none, 0, false⟩, ⟨0, 1, .ro, .none, 0, false⟩]⟩,
  ⟨.LNE_INJ, 0x30, [(0x1000, 144)], false, [⟨31, 1, .wo, .live, 0, false⟩, ⟨8, 2, .rw, .live, 0, false⟩, ⟨0, 8, .rw, .live, 1, false⟩]⟩,
  ⟨.LNE_SLIP, 0x34, [(0x1000, 144)], false, [⟨4, 6, .ro, .none, 0, false⟩, ⟨3, 1, .ro, .none, 0, false⟩, ⟨2, 1, .ro, .none, 1, false⟩, ⟨1, 1, .wo, .live, 0, false⟩, ⟨0, 1, .wo, .live, 0, false⟩]⟩,
  ⟨.LNE_FEC_CNT, 0x40, [(0x1000, 144)], false, [⟨16, 16, .rc, .none, 0, false⟩, ⟨0, 16, .rc, .none, 0, false⟩]⟩,
  ⟨.LNE_DROP, 0x44, [(0x1000, 144)], false, [⟨16, 16, .rc, .none, 0, false⟩, ⟨0, 16, .rc, .none, 0, false⟩]⟩]

def tableLNE1 : List RegKind := [
  ⟨.LNE_RX_BASE, 0x50, [(0x1000, 144)], false, [⟨0, 28, .rw, .quiet, 0, false⟩]⟩,
  ⟨.LNE_RX_DST, 0x54, [(0x1000, 144)], false, [⟨16, 10, .rw, .quiet, 1023, false⟩, ⟨0, 4, .rw, .quiet, 0, false⟩]⟩,
  ⟨.LNE_PRBS_ERRS_LO, 0x18, [(0x1000, 144)], false, [⟨0, 32, .ro, .none, 0, false⟩]⟩,
  ⟨.LNE_PRBS_ERRS_HI, 0x1C, [(0x1000, 144)], false, [⟨0, 32, .ro, .none, 0, false⟩]⟩,
  ⟨.LNE_PRBS_BITS_LO, 0x20, [(0x1000, 144)], false, [⟨0, 32, .ro, .none, 0, false⟩]⟩,
  ⟨.LNE_PRBS_BITS_HI, 0x24, [(0x1000, 144)], false, [⟨0, 32, .ro, .none, 0, false⟩]⟩,
  ⟨.LNE_RX_SNAP_LO, 0x38, [(0x1000, 144)], false, [⟨0, 32, .ro, .none, 0, false⟩]⟩,
  ⟨.LNE_RX_SNAP_HI, 0x3C, [(0x1000, 144)], false, [⟨0, 32, .ro, .none, 0, false⟩]⟩,
  ⟨.LNE_TX_FILL_LO, 0x58, [(0x1000, 144)], false, [⟨0, 32, .rw, .live, 0, false⟩]⟩,
  ⟨.LNE_TX_FILL_HI, 0x5C, [(0x1000, 144)], false, [⟨0, 32, .rw, .live, 0, false⟩]⟩,
  ⟨.LNE_XP_EQ_CTRL, 0x800, [(0x1000, 144)], true, [⟨3, 1, .rw, .live, 0, false⟩]⟩,
  ⟨.LNE_XP_EQ_W, 0x804, [(0x1000, 144), (0x4, 9)], true, [⟨0, 32, .rw, .live, 0, false⟩]⟩]

def tablePCI0 : List RegKind := [
  ⟨.PCI_CTRL, 0x0, [], false, [⟨30, 2, .rw, .boot, 2, false⟩, ⟨0, 1, .rw, .boot, 0, false⟩]⟩,
  ⟨.PCI_EP_CTRL, 0x10, [(0x10, 2)], false, [⟨0, 1, .rw, .live, 0, true⟩]⟩,
  ⟨.PCI_EP_STATUS, 0x14, [(0x10, 2)], false, [⟨16, 16, .rc, .none, 0, false⟩, ⟨11, 1, .ro, .none, 0, false⟩, ⟨8, 3, .ro, .none, 0, false⟩, ⟨3, 5, .ro, .none, 0, false⟩, ⟨0, 3, .ro, .none, 0, false⟩]⟩,
  ⟨.PCI_PF_HBMWIN, 0x40, [], false, [⟨0, 8, .rw, .live, 0, false⟩]⟩,
  ⟨.PCI_VF_WIN, 0x100, [(0x4, 64)], false, [⟨0, 12, .rw, .live, 0, false⟩]⟩,
  ⟨.PCI_OWIN_LO, 0x1000, [(0x10, 256)], false, [⟨0, 32, .rw, .live, 0, false⟩]⟩,
  ⟨.PCI_OWIN_HI, 0x1004, [(0x10, 256)], false, [⟨0, 32, .rw, .live, 0, false⟩]⟩,
  ⟨.PCI_OWIN_CTRL, 0x1008, [(0x10, 256)], false, [⟨31, 1, .rw, .live, 0, false⟩, ⟨30, 1, .rw, .live, 0, false⟩, ⟨16, 8, .rw, .live, 0, false⟩, ⟨0, 7, .rw, .live, 0, false⟩]⟩]

def tableENG0 : List RegKind := [
  ⟨.ENG_ARB_CTRL, 0xF00, [(0x40000, 64), (0x10000, 3), (0x10, 3)], false, [⟨16, 16, .rw, .live, 0, false⟩, ⟨8, 4, .rw, .live, 4, false⟩, ⟨7, 1, .wo, .live, 0, true⟩, ⟨0, 7, .rw, .live, 0, true⟩]⟩,
  ⟨.ENG_ARB_DROGUE, 0xF04, [(0x40000, 64), (0x10000, 3), (0x10, 3)], false, [⟨0, 24, .rw, .live, 32768, false⟩]⟩,
  ⟨.ENG_ARB_STATUS, 0xF08, [(0x40000, 64), (0x10000, 3), (0x10, 3)], false, [⟨25, 7, .ro, .none, 127, false⟩, ⟨24, 1, .ro, .none, 0, false⟩, ⟨23, 1, .ro, .none, 0, false⟩, ⟨18, 5, .ro, .none, 0, false⟩, ⟨10, 8, .ro, .none, 0, false⟩, ⟨0, 7, .ro, .none, 0, false⟩]⟩,
  ⟨.ENG_ARB_COUNT, 0xF0C, [(0x40000, 64), (0x10000, 3), (0x10, 3)], false, [⟨16, 16, .rc, .none, 0, false⟩, ⟨8, 8, .rc, .none, 0, false⟩, ⟨0, 8, .rc, .none, 0, false⟩]⟩,
  ⟨.ENG_MODE, 0x100, [(0x40000, 64), (0x10000, 3)], false, [⟨14, 2, .rw, .quiet, 0, false⟩, ⟨13, 1, .rw, .quiet, 1, false⟩, ⟨12, 1, .rw, .quiet, 0, false⟩, ⟨11, 1, .rw, .quiet, 1, false⟩, ⟨10, 1, .rw, .quiet, 1, false⟩, ⟨9, 1, .rw, .quiet, 1, false⟩, ⟨8, 1, .rw, .quiet, 0, false⟩]⟩,
  ⟨.ENG_DP_FLAGS, 0x104, [(0x40000, 64), (0x10000, 3)], false, [⟨11, 1, .w1c, .none, 0, false⟩, ⟨8, 1, .w1c, .none, 0, false⟩, ⟨4, 4, .ro, .none, 0, false⟩, ⟨0, 4, .w1c, .none, 0, false⟩]⟩,
  ⟨.ENG_STRM_CFG, 0x110, [(0x40000, 64), (0x10000, 3)], false, [⟨0, 4, .rw, .quiet, 15, false⟩]⟩,
  ⟨.ENG_STRM_STATUS, 0x114, [(0x40000, 64), (0x10000, 3)], false, [⟨20, 2, .ro, .none, 0, false⟩, ⟨0, 20, .ro, .none, 0, false⟩]⟩,
  ⟨.ENG_STRM_CTRL, 0x118, [(0x40000, 64), (0x10000, 3)], false, [⟨0, 2, .wo, .live, 0, false⟩]⟩,
  ⟨.ENG_STRM_STALL, 0x11C, [(0x40000, 64), (0x10000, 3)], false, [⟨0, 32, .rc, .none, 0, false⟩]⟩,
  ⟨.ENG_CTRL, 0x0, [(0x40000, 64), (0x10000, 3)], false, [⟨3, 1, .wo, .quiet, 0, false⟩, ⟨2, 1, .wo, .quiet, 0, false⟩, ⟨1, 1, .wo, .live, 0, false⟩, ⟨0, 1, .wo, .quiet, 0, false⟩]⟩,
  ⟨.ENG_STATUS, 0x4, [(0x40000, 64), (0x10000, 3)], false, [⟨24, 8, .ro, .none, 0, false⟩, ⟨16, 8, .ro, .none, 0, false⟩, ⟨15, 1, .w1c, .none, 0, false⟩, ⟨14, 1, .w1c, .none, 0, false⟩, ⟨8, 3, .ro, .none, 0, false⟩, ⟨4, 4, .ro, .none, 0, false⟩, ⟨0, 4, .ro, .none, 0, false⟩]⟩]

def tableENG1 : List RegKind := [
  ⟨.ENG_PC, 0x8, [(0x40000, 64), (0x10000, 3)], false, [⟨0, 12, .rw, .quiet, 0, false⟩]⟩,
  ⟨.ENG_EXC, 0xC, [(0x40000, 64), (0x10000, 3)], false, [⟨28, 4, .ro, .none, 0, false⟩, ⟨16, 4, .ro, .none, 0, false⟩, ⟨0, 12, .ro, .none, 0, false⟩]⟩,
  ⟨.ENG_WDT, 0x10, [(0x40000, 64), (0x10000, 3)], false, [⟨31, 1, .rw, .live, 0, true⟩, ⟨0, 24, .rw, .live, 40000, false⟩]⟩,
  ⟨.ENG_WDT_COUNT, 0x14, [(0x40000, 64), (0x10000, 3)], false, [⟨0, 24, .ro, .none, 0, false⟩]⟩,
  ⟨.ENG_STIM_CTRL, 0x18, [(0x40000, 64), (0x10000, 3)], false, [⟨0, 1, .rw, .live, 0, false⟩]⟩,
  ⟨.ENG_STIM_STATUS, 0x1C, [(0x40000, 64), (0x10000, 3)], false, [⟨16, 5, .ro, .none, 0, false⟩, ⟨0, 16, .rc, .none, 0, false⟩]⟩,
  ⟨.ENG_REGSEL, 0x20, [(0x40000, 64), (0x10000, 3)], false, [⟨0, 7, .rw, .quiet, 0, false⟩]⟩,
  ⟨.ENG_REGDATA, 0x24, [(0x40000, 64), (0x10000, 3)], false, [⟨0, 32, .rw, .quiet, 0, false⟩]⟩,
  ⟨.ENG_CYCLES, 0x28, [(0x40000, 64), (0x10000, 3)], false, [⟨0, 32, .rc, .none, 0, false⟩]⟩,
  ⟨.ENG_RETIRED, 0x2C, [(0x40000, 64), (0x10000, 3)], false, [⟨0, 32, .rc, .none, 0, false⟩]⟩,
  ⟨.ENG_DMA_LADDR, 0x200, [(0x40000, 64), (0x10000, 3), (0x20, 2)], false, [⟨0, 18, .rw, .quiet, 0, false⟩]⟩,
  ⟨.ENG_DMA_RADDR_LO, 0x204, [(0x40000, 64), (0x10000, 3), (0x20, 2)], false, [⟨0, 32, .rw, .quiet, 0, false⟩]⟩]

def tableENG2 : List RegKind := [
  ⟨.ENG_DMA_RADDR_HI, 0x208, [(0x40000, 64), (0x10000, 3), (0x20, 2)], false, [⟨8, 10, .rw, .quiet, 1023, false⟩, ⟨0, 8, .rw, .quiet, 0, false⟩]⟩,
  ⟨.ENG_DMA_LEN, 0x20C, [(0x40000, 64), (0x10000, 3), (0x20, 2)], false, [⟨0, 18, .rw, .quiet, 0, false⟩]⟩,
  ⟨.ENG_DMA_CTRL, 0x210, [(0x40000, 64), (0x10000, 3), (0x20, 2)], false, [⟨31, 1, .wo, .quiet, 0, false⟩, ⟨30, 1, .wo, .live, 0, false⟩, ⟨8, 2, .rw, .quiet, 0, false⟩, ⟨4, 1, .rw, .quiet, 0, false⟩, ⟨0, 1, .rw, .quiet, 0, false⟩]⟩,
  ⟨.ENG_DMA_STATUS, 0x214, [(0x40000, 64), (0x10000, 3), (0x20, 2)], false, [⟨28, 4, .ro, .none, 0, false⟩, ⟨25, 3, .ro, .none, 0, false⟩, ⟨20, 1, .w1c, .none, 0, false⟩, ⟨19, 1, .w1c, .none, 0, false⟩, ⟨18, 1, .ro, .none, 0, false⟩, ⟨0, 18, .ro, .none, 0, false⟩]⟩,
  ⟨.ENG_MEM_MAP, 0x300, [(0x40000, 64), (0x10000, 3), (0x4, 2)], false, [⟨0, 32, .ro, .none, 1985229328, false⟩]⟩,
  ⟨.ENG_TRIO_CTRL, 0x30000, [(0x40000, 64)], false, [⟨30, 2, .rw, .boot, 2, false⟩, ⟨8, 1, .rw, .live, 0, true⟩]⟩,
  ⟨.ENG_TRIO_PWR, 0x30004, [(0x40000, 64)], false, [⟨28, 4, .ro, .none, 0, false⟩, ⟨26, 1, .ro, .none, 0, false⟩, ⟨4, 2, .ro, .none, 0, false⟩, ⟨0, 2, .rw, .live, 0, false⟩]⟩,
  ⟨.ENG_TRIO_CLK, 0x30008, [(0x40000, 64)], false, [⟨0, 3, .rw, .live, 7, false⟩]⟩,
  ⟨.ENG_TRIO_XP, 0x30800, [(0x40000, 64)], true, [⟨8, 5, .rw, .quiet, 16, false⟩, ⟨0, 3, .rw, .live, 2, false⟩]⟩]

def tableGPIO0 : List RegKind := [
  ⟨.GPIO_CTRL, 0x0, [], false, [⟨30, 2, .rw, .boot, 2, false⟩, ⟨8, 1, .rw, .live, 0, true⟩]⟩,
  ⟨.GPIO_BANK_STATUS, 0x10, [(0x4, 4)], false, [⟨0, 2, .ro, .none, 0, false⟩]⟩,
  ⟨.GPIO_PIN_PAD, 0x100, [(0x8, 96)], false, [⟨15, 1, .rwl, .live, 0, false⟩, ⟨12, 2, .rwl, .live, 0, false⟩, ⟨8, 2, .rwl, .live, 2, false⟩, ⟨4, 2, .rwl, .live, 1, false⟩, ⟨2, 2, .rwl, .live, 1, false⟩, ⟨1, 1, .rwl, .live, 1, false⟩, ⟨0, 1, .rwl, .live, 1, false⟩]⟩,
  ⟨.GPIO_PIN_STATUS, 0x104, [(0x8, 96)], false, [⟨31, 1, .ro, .none, 0, false⟩, ⟨30, 1, .ro, .none, 0, false⟩, ⟨29, 1, .ro, .none, 0, false⟩, ⟨28, 1, .w1c, .none, 0, false⟩, ⟨16, 8, .ro, .none, 0, false⟩, ⟨1, 1, .ro, .none, 0, false⟩, ⟨0, 1, .ro, .none, 0, false⟩]⟩,
  ⟨.GPIO_OUT, 0x800, [(0x4, 3)], false, [⟨0, 32, .rw, .live, 0, true⟩]⟩,
  ⟨.GPIO_OE, 0x810, [(0x4, 3)], false, [⟨0, 32, .rw, .live, 0, true⟩]⟩,
  ⟨.GPIO_IN, 0x820, [(0x4, 3)], false, [⟨0, 32, .ro, .none, 0, false⟩]⟩,
  ⟨.GPIO_RMAP, 0x1000, [(0x20, 64), (0x4, 8)], false, [⟨31, 1, .rwl, .live, 0, false⟩, ⟨0, 7, .rwl, .live, 0, false⟩]⟩,
  ⟨.GPIO_SMAP, 0x2000, [(0x40, 8), (0x10, 4), (0x4, 4)], false, [⟨31, 1, .rwl, .live, 0, false⟩, ⟨0, 7, .rwl, .live, 0, false⟩]⟩,
  ⟨.GPIO_CKMAP, 0x2800, [(0x4, 4)], false, [⟨31, 1, .rwl, .live, 0, false⟩, ⟨16, 8, .rwl, .live, 0, false⟩, ⟨8, 3, .rwl, .live, 0, false⟩, ⟨0, 7, .rwl, .live, 0, false⟩]⟩,
  ⟨.GPIO_TMAP, 0x2900, [(0x4, 17)], false, [⟨31, 1, .rwl, .live, 0, false⟩, ⟨0, 7, .rwl, .live, 0, false⟩]⟩,
  ⟨.GPIO_LOCK, 0x3000, [], false, [⟨0, 32, .wo, .live, 0, true⟩]⟩]

def tableGPIO1 : List RegKind := [
  ⟨.GPIO_LOCK_MASK, 0x3004, [], false, [⟨0, 32, .wo, .live, 0, true⟩]⟩,
  ⟨.GPIO_LOCK_STATUS, 0x3008, [], false, [⟨2, 1, .w1c, .none, 0, false⟩, ⟨0, 2, .ro, .none, 0, false⟩]⟩,
  ⟨.GPIO_LOCKED, 0x3010, [(0x4, 3)], false, [⟨0, 32, .ro, .none, 0, false⟩]⟩,
  ⟨.GPIO_XP_PAD, 0x4000, [(0x4, 96)], true, [⟨6, 6, .rwl, .live, 0, false⟩, ⟨0, 6, .rwl, .live, 0, false⟩]⟩]

def tableDBG0 : List RegKind := [
  ⟨.DBG_CTRL, 0x0, [], false, [⟨30, 2, .rw, .boot, 2, false⟩, ⟨8, 1, .rw, .live, 0, true⟩, ⟨2, 1, .wo, .live, 0, true⟩, ⟨0, 2, .rw, .live, 2, true⟩]⟩,
  ⟨.DBG_STATUS, 0x4, [], false, [⟨7, 1, .w1c, .none, 0, false⟩, ⟨6, 1, .ro, .none, 0, false⟩, ⟨5, 1, .ro, .none, 0, false⟩, ⟨0, 2, .ro, .none, 0, false⟩]⟩,
  ⟨.DBG_AUTH_CMD, 0x10, [], false, [⟨0, 1, .wo, .live, 0, true⟩]⟩,
  ⟨.DBG_AUTH_STATUS, 0x14, [], false, [⟨28, 4, .ro, .none, 0, false⟩, ⟨1, 1, .w1c, .none, 0, false⟩, ⟨0, 1, .ro, .none, 0, false⟩]⟩,
  ⟨.DBG_AUTH_NONCE_LO, 0x18, [], false, [⟨0, 32, .ro, .none, 0, false⟩]⟩,
  ⟨.DBG_AUTH_NONCE_HI, 0x1C, [], false, [⟨0, 32, .ro, .none, 0, false⟩]⟩,
  ⟨.DBG_AUTH_BUF, 0x100, [(0x4, 48)], false, [⟨0, 32, .rw, .quiet, 0, false⟩]⟩,
  ⟨.DBG_TRC_CTRL, 0x200, [], false, [⟨15, 1, .rw, .live, 0, false⟩, ⟨11, 4, .rw, .live, 0, false⟩, ⟨7, 4, .rw, .live, 0, false⟩, ⟨5, 2, .rw, .quiet, 0, false⟩, ⟨0, 2, .rw, .live, 0, false⟩]⟩,
  ⟨.DBG_TRC_BASE, 0x204, [], false, [⟨28, 4, .rw, .quiet, 0, false⟩, ⟨0, 28, .rw, .quiet, 0, false⟩]⟩,
  ⟨.DBG_TRC_STATUS, 0x208, [], false, [⟨16, 16, .rc, .none, 0, false⟩, ⟨4, 12, .rc, .none, 0, false⟩, ⟨0, 1, .ro, .none, 0, false⟩]⟩,
  ⟨.DBG_TRC_WPTR, 0x20C, [], false, [⟨0, 32, .ro, .none, 0, false⟩]⟩,
  ⟨.DBG_STIM, 0x300, [(0x4, 4)], false, [⟨0, 32, .wo, .live, 0, true⟩]⟩]

def tableDBG1 : List RegKind := [
  ⟨.DBG_STIM_CHAN, 0x310, [], false, [⟨24, 8, .rw, .live, 0, true⟩, ⟨16, 8, .rw, .live, 0, true⟩, ⟨8, 8, .rw, .live, 0, true⟩, ⟨0, 8, .rw, .live, 0, true⟩]⟩,
  ⟨.DBG_STIM_RGN, 0x320, [(0x4, 2)], false, [⟨0, 32, .rw, .live, 0, true⟩]⟩,
  ⟨.DBG_PMC_SEL, 0x400, [(0x10, 8)], false, [⟨31, 1, .wo, .live, 0, true⟩, ⟨30, 1, .rw, .live, 0, true⟩, ⟨28, 1, .rw, .live, 0, true⟩, ⟨24, 4, .rw, .live, 0, true⟩, ⟨16, 8, .rw, .live, 0, true⟩, ⟨0, 16, .rw, .live, 0, true⟩]⟩,
  ⟨.DBG_PMC_LO, 0x404, [(0x10, 8)], false, [⟨0, 32, .ro, .none, 0, false⟩]⟩,
  ⟨.DBG_PMC_HI, 0x408, [(0x10, 8)], false, [⟨0, 32, .ro, .none, 0, false⟩]⟩,
  ⟨.DBG_BR_RAISE, 0x600, [], false, [⟨0, 16, .wo, .live, 0, true⟩]⟩,
  ⟨.DBG_BR_STATE, 0x604, [], false, [⟨0, 16, .w1c, .none, 0, false⟩]⟩,
  ⟨.DBG_BR_CORE, 0x700, [(0x4, 4)], false, [⟨16, 16, .rw, .live, 0, false⟩, ⟨8, 1, .rw, .live, 0, false⟩, ⟨4, 1, .rw, .live, 0, false⟩, ⟨0, 4, .rw, .live, 0, false⟩]⟩,
  ⟨.DBG_BR_ENG, 0x800, [(0x4, 192)], false, [⟨16, 16, .rw, .live, 0, false⟩, ⟨8, 3, .rw, .live, 0, false⟩, ⟨4, 1, .rw, .live, 0, false⟩, ⟨0, 4, .rw, .live, 0, false⟩]⟩,
  ⟨.DBG_BR_RGN, 0xC00, [(0x4, 64)], false, [⟨16, 16, .rw, .live, 0, false⟩, ⟨8, 1, .rw, .live, 0, false⟩, ⟨4, 1, .rw, .live, 0, false⟩, ⟨0, 4, .rw, .live, 0, false⟩]⟩,
  ⟨.DBG_BR_PRB, 0xD00, [(0x4, 64)], false, [⟨8, 1, .rw, .live, 0, false⟩, ⟨4, 1, .rw, .live, 0, false⟩, ⟨0, 4, .rw, .live, 0, false⟩]⟩,
  ⟨.DBG_XP_TRC, 0xE00, [], true, [⟨0, 4, .rw, .quiet, 4, false⟩]⟩]

def tableBST0 : List RegKind := [
  ⟨.BST_CTRL, 0x0, [], false, [⟨30, 2, .rw, .boot, 2, false⟩, ⟨8, 1, .rw, .live, 0, true⟩, ⟨1, 3, .rw, .live, 7, false⟩, ⟨0, 1, .rw, .live, 0, false⟩]⟩,
  ⟨.BST_SCHED, 0x4, [], false, [⟨0, 16, .rw, .live, 1000, false⟩]⟩,
  ⟨.BST_STATUS, 0x8, [], false, [⟨12, 20, .ro, .none, 0, false⟩, ⟨4, 8, .rc, .none, 0, false⟩, ⟨0, 4, .rc, .none, 0, false⟩]⟩,
  ⟨.BST_MAPQ, 0xC, [], false, [⟨31, 1, .ro, .none, 0, false⟩, ⟨0, 20, .rw, .live, 0, true⟩]⟩,
  ⟨.BST_XP_CMD, 0x800, [], true, [⟨31, 1, .wo, .quiet, 0, false⟩, ⟨20, 2, .rw, .quiet, 0, false⟩, ⟨0, 20, .rw, .quiet, 0, false⟩]⟩,
  ⟨.BST_XP_STATUS, 0x804, [], true, [⟨28, 4, .ro, .none, 0, false⟩, ⟨27, 1, .w1c, .none, 0, false⟩, ⟨26, 1, .w1c, .none, 0, false⟩, ⟨25, 1, .ro, .none, 0, false⟩, ⟨0, 20, .ro, .none, 0, false⟩]⟩]

def tableMIR0 : List RegKind := [
  ⟨.MIR_ARB_CTRL, 0xC00, [], false, [⟨16, 16, .rw, .live, 0, false⟩, ⟨8, 4, .rw, .live, 4, false⟩, ⟨7, 1, .wo, .live, 0, true⟩, ⟨0, 7, .rw, .live, 0, true⟩]⟩,
  ⟨.MIR_ARB_DROGUE, 0xC04, [], false, [⟨0, 24, .rw, .live, 32768, false⟩]⟩,
  ⟨.MIR_ARB_STATUS, 0xC08, [], false, [⟨25, 7, .ro, .none, 127, false⟩, ⟨24, 1, .ro, .none, 0, false⟩, ⟨23, 1, .ro, .none, 0, false⟩, ⟨18, 5, .ro, .none, 0, false⟩, ⟨10, 8, .ro, .none, 0, false⟩, ⟨0, 7, .ro, .none, 0, false⟩]⟩,
  ⟨.MIR_ARB_COUNT, 0xC0C, [], false, [⟨16, 16, .rc, .none, 0, false⟩, ⟨8, 8, .rc, .none, 0, false⟩, ⟨0, 8, .rc, .none, 0, false⟩]⟩,
  ⟨.MIR_CTRL, 0x0, [], false, [⟨30, 2, .rw, .boot, 2, false⟩, ⟨8, 1, .rw, .live, 0, true⟩, ⟨0, 3, .wo, .live, 0, true⟩]⟩,
  ⟨.MIR_STATUS, 0x4, [], false, [⟨31, 1, .ro, .none, 0, false⟩, ⟨30, 1, .ro, .none, 0, false⟩, ⟨29, 1, .ro, .none, 1, false⟩, ⟨28, 1, .ro, .none, 0, false⟩, ⟨27, 1, .w1c, .none, 0, false⟩, ⟨20, 4, .ro, .none, 0, false⟩, ⟨4, 2, .ro, .none, 0, false⟩, ⟨0, 4, .ro, .none, 0, false⟩]⟩,
  ⟨.MIR_AREA, 0x8, [], false, [⟨0, 8, .rw, .boot, 139, false⟩]⟩,
  ⟨.MIR_EPOCH, 0x10, [], false, [⟨24, 8, .rw, .live, 5, false⟩, ⟨16, 8, .rw, .live, 32, false⟩, ⟨0, 16, .rw, .live, 1000, false⟩]⟩,
  ⟨.MIR_EPOCH_TX, 0x14, [], false, [⟨0, 32, .ro, .none, 0, false⟩]⟩,
  ⟨.MIR_EPOCH_ACK, 0x18, [], false, [⟨0, 32, .ro, .none, 0, false⟩]⟩,
  ⟨.MIR_EPOCH_CMT, 0x1C, [], false, [⟨0, 32, .ro, .none, 0, false⟩]⟩,
  ⟨.MIR_SEQ_TX_LO, 0x20, [], false, [⟨0, 32, .ro, .none, 0, false⟩]⟩]

def tableMIR1 : List RegKind := [
  ⟨.MIR_SEQ_TX_HI, 0x24, [], false, [⟨0, 32, .ro, .none, 0, false⟩]⟩,
  ⟨.MIR_SEQ_RX_LO, 0x28, [], false, [⟨0, 32, .ro, .none, 0, false⟩]⟩,
  ⟨.MIR_SEQ_RX_HI, 0x2C, [], false, [⟨0, 32, .ro, .none, 0, false⟩]⟩,
  ⟨.MIR_COUNT, 0x30, [], false, [⟨24, 8, .rc, .none, 0, false⟩, ⟨16, 8, .rc, .none, 0, false⟩, ⟨8, 8, .rc, .none, 0, false⟩, ⟨0, 8, .rc, .none, 0, false⟩]⟩,
  ⟨.MIR_KEY, 0x100, [(0x4, 8)], false, [⟨0, 32, .wo, .quiet, 0, false⟩]⟩,
  ⟨.MIR_PL_CFG, 0x200, [(0x10, 16)], false, [⟨30, 2, .rw, .live, 0, false⟩, ⟨16, 8, .rw, .quiet, 0, false⟩, ⟨0, 4, .wo, .live, 0, false⟩]⟩,
  ⟨.MIR_PL_RANGE, 0x204, [(0x10, 16)], false, [⟨16, 12, .rw, .quiet, 0, false⟩, ⟨0, 12, .rw, .quiet, 0, false⟩]⟩,
  ⟨.MIR_PL_STATUS, 0x208, [(0x10, 16)], false, [⟨28, 4, .ro, .none, 0, false⟩, ⟨27, 1, .w1c, .none, 0, false⟩, ⟨12, 12, .ro, .none, 0, false⟩, ⟨0, 4, .ro, .none, 0, false⟩]⟩,
  ⟨.MIR_RGN, 0x400, [(0x4, 64)], false, [⟨30, 2, .rw, .live, 0, false⟩, ⟨24, 4, .rw, .live, 0, false⟩, ⟨16, 6, .rw, .live, 0, false⟩, ⟨15, 1, .ro, .none, 0, false⟩, ⟨14, 1, .ro, .none, 0, false⟩]⟩,
  ⟨.MIR_XP_LINK, 0x800, [], true, [⟨16, 8, .rw, .live, 100, false⟩, ⟨0, 8, .rw, .live, 80, false⟩]⟩]

def tableECC0 : List RegKind := [
  ⟨.ECC_CTRL, 0x0, [], false, [⟨30, 2, .rw, .boot, 2, false⟩, ⟨16, 8, .rw, .live, 16, false⟩, ⟨8, 1, .rw, .live, 0, true⟩]⟩,
  ⟨.ECC_NOTIFY, 0x4, [], false, [⟨31, 1, .ro, .none, 0, false⟩, ⟨30, 1, .ro, .none, 0, false⟩, ⟨0, 20, .ro, .none, 0, false⟩]⟩,
  ⟨.ECC_SEL, 0x10, [], false, [⟨0, 20, .rw, .live, 0, true⟩]⟩,
  ⟨.ECC_MSTAT, 0x14, [], false, [⟨16, 16, .ro, .none, 0, false⟩, ⟨8, 8, .ro, .none, 0, false⟩, ⟨0, 8, .ro, .none, 0, false⟩]⟩,
  ⟨.ECC_MCLR, 0x18, [], false, [⟨0, 1, .wo, .live, 0, true⟩]⟩,
  ⟨.ECC_MLOG, 0x20, [(0x4, 4)], false, [⟨31, 1, .ro, .none, 0, false⟩, ⟨30, 1, .ro, .none, 0, false⟩, ⟨27, 3, .ro, .none, 0, false⟩, ⟨20, 7, .ro, .none, 0, false⟩, ⟨0, 20, .ro, .none, 0, false⟩]⟩,
  ⟨.ECC_SCRUB_BASE, 0x200, [], false, [⟨0, 26, .rw, .quiet, 0, false⟩]⟩,
  ⟨.ECC_SCRUB_LEN, 0x204, [], false, [⟨0, 26, .rw, .quiet, 0, false⟩]⟩,
  ⟨.ECC_SCRUB_CTRL, 0x208, [], false, [⟨31, 1, .wo, .quiet, 0, false⟩, ⟨30, 1, .wo, .live, 0, false⟩, ⟨0, 8, .rw, .quiet, 8, false⟩]⟩,
  ⟨.ECC_SCRUB_STATUS, 0x20C, [], false, [⟨24, 8, .ro, .none, 0, false⟩, ⟨18, 1, .w1c, .none, 0, false⟩, ⟨17, 1, .w1c, .none, 0, false⟩, ⟨16, 1, .ro, .none, 0, false⟩, ⟨0, 16, .ro, .none, 0, false⟩]⟩,
  ⟨.ECC_SCRUB_COUNT, 0x210, [], false, [⟨16, 16, .ro, .none, 0, false⟩, ⟨0, 16, .ro, .none, 0, false⟩]⟩,
  ⟨.ECC_SCRUB_FIRST_LO, 0x218, [], false, [⟨0, 32, .ro, .none, 0, false⟩]⟩]

def tableECC1 : List RegKind := [
  ⟨.ECC_SCRUB_FIRST_HI, 0x21C, [], false, [⟨0, 32, .ro, .none, 0, false⟩]⟩,
  ⟨.ECC_SCRUB_LAST_LO, 0x220, [], false, [⟨0, 32, .ro, .none, 0, false⟩]⟩,
  ⟨.ECC_SCRUB_LAST_HI, 0x224, [], false, [⟨0, 32, .ro, .none, 0, false⟩]⟩,
  ⟨.ECC_XP_INJ, 0x800, [], true, [⟨31, 1, .wo, .live, 0, true⟩, ⟨16, 2, .rw, .live, 1, true⟩, ⟨0, 7, .rw, .live, 0, true⟩]⟩]

def tableFAB0 : List RegKind := [
  ⟨.FAB_DIE_CTRL, 0x0, [(0x1000000, 8)], false, [⟨30, 2, .rw, .boot, 2, false⟩, ⟨8, 1, .rw, .live, 0, true⟩, ⟨0, 3, .ro, .none, 0, false⟩]⟩,
  ⟨.FAB_ROSC_CTRL, 0x10000, [(0x1000000, 8), (0x100, 2)], false, [⟨16, 9, .rw, .quiet, 100, false⟩, ⟨0, 1, .rw, .live, 0, true⟩]⟩,
  ⟨.FAB_ROSC_MEAS, 0x10004, [(0x1000000, 8), (0x100, 2)], false, [⟨31, 1, .ro, .none, 0, false⟩, ⟨30, 1, .w1c, .none, 0, false⟩, ⟨0, 20, .ro, .none, 0, false⟩]⟩,
  ⟨.FAB_ROSC_TRIM, 0x10080, [(0x1000000, 8), (0x100, 2)], true, [⟨0, 8, .rw, .quiet, 0, false⟩]⟩,
  ⟨.FAB_FL_CTRL, 0x20000, [(0x1000000, 8)], false, [⟨8, 6, .rw, .quiet, 0, false⟩, ⟨0, 2, .wo, .quiet, 0, false⟩]⟩,
  ⟨.FAB_FL_STATUS, 0x20004, [(0x1000000, 8)], false, [⟨16, 16, .ro, .none, 0, false⟩, ⟨8, 8, .ro, .none, 0, false⟩, ⟨4, 4, .ro, .none, 0, false⟩, ⟨3, 1, .w1c, .none, 0, false⟩, ⟨2, 1, .ro, .none, 0, false⟩, ⟨1, 1, .w1c, .none, 0, false⟩, ⟨0, 1, .ro, .none, 0, false⟩]⟩,
  ⟨.FAB_FL_BUF, 0x21000, [(0x1000000, 8), (0x4, 512)], false, [⟨0, 32, .rw, .live, 0, true⟩]⟩,
  ⟨.FAB_SP_CTRL, 0x30000, [(0x1000000, 8), (0x1000, 4)], false, [⟨8, 4, .rw, .quiet, 0, false⟩, ⟨4, 3, .rw, .quiet, 0, false⟩, ⟨0, 1, .rw, .live, 0, true⟩]⟩,
  ⟨.FAB_SP_RATE, 0x30004, [(0x1000000, 8), (0x1000, 4)], false, [⟨0, 20, .rw, .quiet, 115, false⟩]⟩,
  ⟨.FAB_SP_FMT, 0x30008, [(0x1000000, 8), (0x1000, 4)], false, [⟨16, 7, .rw, .quiet, 0, false⟩, ⟨12, 4, .rw, .quiet, 0, false⟩, ⟨8, 2, .rw, .quiet, 0, false⟩, ⟨5, 1, .rw, .quiet, 0, false⟩, ⟨3, 2, .rw, .quiet, 0, false⟩, ⟨0, 1, .rw, .quiet, 0, false⟩]⟩,
  ⟨.FAB_SP_STATUS, 0x3000C, [(0x1000000, 8), (0x1000, 4)], false, [⟨16, 5, .ro, .none, 0, false⟩, ⟨8, 5, .ro, .none, 0, false⟩, ⟨4, 1, .w1c, .none, 0, false⟩, ⟨3, 1, .w1c, .none, 0, false⟩, ⟨2, 1, .w1c, .none, 0, false⟩, ⟨1, 1, .w1c, .none, 0, false⟩, ⟨0, 1, .ro, .none, 0, false⟩]⟩,
  ⟨.FAB_SP_DATA, 0x30010, [(0x1000000, 8), (0x1000, 4)], false, [⟨8, 1, .wo, .live, 0, false⟩, ⟨0, 8, .rw, .live, 0, false⟩]⟩]

def tableFAB1 : List RegKind := [
  ⟨.FAB_SP_DIV, 0x30080, [(0x1000000, 8), (0x1000, 4)], true, [⟨0, 16, .rw, .quiet, 0, false⟩]⟩,
  ⟨.FAB_RGN_ENV_STATUS, 0x100000, [(0x1000000, 8), (0x10000, 8)], false, [⟨16, 4, .ro, .none, 1, false⟩, ⟨11, 1, .w1c, .none, 0, false⟩, ⟨8, 3, .ro, .none, 5, false⟩, ⟨4, 4, .ro, .none, 0, false⟩, ⟨3, 1, .ro, .none, 0, false⟩, ⟨0, 1, .ro, .none, 0, false⟩]⟩,
  ⟨.FAB_RGN_ENV_CTRL, 0x100004, [(0x1000000, 8), (0x10000, 8)], false, [⟨1, 1, .rw, .live, 0, true⟩, ⟨0, 1, .rw, .live, 0, true⟩]⟩,
  ⟨.FAB_RGN_CLKT, 0x100010, [(0x1000000, 8), (0x10000, 8), (0x4, 2)], false, [⟨7, 1, .rw, .live, 0, false⟩, ⟨0, 3, .rw, .live, 0, false⟩]⟩,
  ⟨.FAB_RGN_TAP, 0x100020, [(0x1000000, 8), (0x10000, 8), (0x4, 16)], false, [⟨4, 2, .rw, .live, 0, false⟩, ⟨1, 1, .rw, .live, 0, false⟩, ⟨0, 1, .rw, .live, 1, false⟩]⟩]

/-- The register kinds of a block. -/
def blockTable : Block → List RegKind
  | .HUB => tableHUB0 ++ tableHUB1 ++ tableHUB2 ++ tableHUB3
  | .PWR => tablePWR0
  | .CLK => tableCLK0
  | .CFG => tableCFG0 ++ tableCFG1 ++ tableCFG2
  | .CMX => tableCMX0 ++ tableCMX1
  | .NOC => tableNOC0 ++ tableNOC1
  | .DMC => tableDMC0 ++ tableDMC1 ++ tableDMC2
  | .SEC => tableSEC0
  | .LNE => tableLNE0 ++ tableLNE1
  | .PCI => tablePCI0
  | .ENG => tableENG0 ++ tableENG1 ++ tableENG2
  | .GPIO => tableGPIO0 ++ tableGPIO1
  | .DBG => tableDBG0 ++ tableDBG1
  | .BST => tableBST0
  | .MIR => tableMIR0 ++ tableMIR1
  | .ECC => tableECC0 ++ tableECC1
  | .FAB => tableFAB0 ++ tableFAB1

/-- Base address of a block (R25). -/
def blockBase : Block → Nat
  | .HUB => 0xF000000000
  | .PWR => 0xF001000000
  | .CLK => 0xF002000000
  | .CFG => 0xF003000000
  | .CMX => 0xF004000000
  | .NOC => 0xF005000000
  | .DMC => 0xF006000000
  | .SEC => 0xF007000000
  | .LNE => 0xF008000000
  | .PCI => 0xF009000000
  | .ENG => 0xF00A000000
  | .GPIO => 0xF00B000000
  | .DBG => 0xF00C000000
  | .BST => 0xF00D000000
  | .MIR => 0xF00E000000
  | .ECC => 0xF00F000000
  | .FAB => 0xF010000000

end Sys2Proof.Machine
end

