-- ==== Sys2Proof/Machine/State.lean ====
section
/-! DEFINITION. State: everything the spec gives the block, as plain data, and the queue of commands that wait. -/
namespace Sys2Proof.Machine

/-- The HUB_DROPLOG queue, oldest first, and whether entries have been lost since the last read of it (R398). -/
structure DropLog where
  entries : List DropEntry
  lost : Bool
  deriving DecidableEq, Repr

/-- The event queues of R401 (the event rings themselves are registers of the mailbox windows), the attention queue of
R397 and the MSI-X messages sent. -/
structure Events where
  fw : List EvRec
  fwSeq : Nat
  board : List EvRec
  boardSeq : Nat
  /-- producer index of each function's event ring, as the hub counts it -/
  ringPi : SMap Nat
  /-- SEQN counter of each function's event ring -/
  ringSeq : SMap Nat
  /-- producer index of each function's firmware-to-host ring, as firmware wrote it -/
  f2hPi : SMap Nat
  attn : List (Nat × Nat)
  deriving DecidableEq, Repr

/-- An effect held by the output fence (R404). -/
structure HeldFx where
  kind : Nat
  ep : Nat
  func : Nat
  lease : Nat
  addr : Nat
  data : Nat
  epoch : Nat
  bytes : List Byte
  /-- the NoC request of an outbound WRITE, answered once it has left (12 R327) -/
  pkt : Option Packet
  deriving DecidableEq, Repr

/-- A message that has left the block for the host or the board. -/
inductive Out where
  | msix (func vec : Nat)
  | tlpWrite (ep func addr : Nat) (data : List Byte)
  | tlpRead (ep func addr len : Nat)
  | completion (ep func tag : Nat) (st : Cpl) (data : List Byte)
  | serialByte (port : Nat) (b : Byte)
  /-- a UART's frame, its line levels in order; the START of an I²C master with its address byte; its STOP (02 R63) -/
  | serialFrame (port : Nat) (levels : List Bool)
  | serialStart (port addr : Nat)
  | serialStop (port : Nat)
  /-- records sent on a serial lane, and line bits flipped by an injection (12 R309, R320) -/
  | lane (n : Nat) (data : List Byte)
  | laneFlip (n count : Nat)
  /-- a lane has nothing to send: the fill word of a RAW mode, or idle blocks (12 R309) -/
  | laneFill (n : Nat) (w : Option Nat)
  /-- the transmitter preset that an endpoint asks of its partner for a lane (12 R315) -/
  | preset (lane p : Nat)
  /-- a trace record or an align record on the trace pins (17 R432) -/
  | trace (data : List Byte)
  /-- an accepted doorbell of a function interrupts the gondola core that firmware names for it (15 R400) -/
  | coreIrq (func : Nat)
  /-- the device answers the SMBus alert response address with its own (15 R407) -/
  | alertAddress (addr : Nat)
  /-- a mirror-link frame from SEQ through TAG (13 R337, R338) -/
  | mirror (data : List Byte)
  deriving DecidableEq, Repr

/-- One entry of an arbiter's spool or hold list (R181, R184). -/
structure ArbReq where
  idx : Nat
  urg : Nat
  age : Nat
  passed : Nat
  lease : Nat
  /-- table set of the packet, at a NoC output (R166) -/
  rset : Nat
  /-- it was raised during an immune grant (R190) -/
  imm : Bool
  deriving DecidableEq, Repr

/-- An arbiter (R180 to R188). -/
structure Arb where
  owner : Option ArbReq
  beats : Nat
  burst : Nat
  immune : Bool
  resume : List (ArbReq × Nat)
  spool : List ArbReq
  held : List ArbReq
  streak : SMap Nat
  fenced : List Nat
  age : Nat
  /-- the owner has dropped its request while a beat is in progress (R180) -/
  dropped : Bool
  deriving DecidableEq, Repr

def Arb.empty : Arb := ⟨none, 0, 0, false, [], [], [], [], [], 0, false⟩

/-- A probe or stimulus store (R175, R176). -/
structure ProbeSt where
  recs : List TraceRec
  dropped : Nat
  /-- NOC_TIME when its last packet left (TRACE_GAP, R175) -/
  last : Option Nat
  /-- a packet is due, and waits for TRACE_GAP -/
  due : Bool
  deriving DecidableEq, Repr

/-- A packet that waits on its way (R162, R170): `hops` (router, input port, output port) are still to pass, the first of them at the
output where it waits: for the grant of its arbiter, or for room in the table of the bridge behind it. -/
structure WaitPkt where
  p : Packet
  hops : List (Nat × Nat × Nat)
  /-- the router, and its input port, at which the way ends at a NONE entry -/
  dead : Option (Nat × Nat)
  table : Bool
  deriving DecidableEq, Repr

/-- A request of node `src` has left router `k` by port `o`, and its response has not come back (R170). -/
structure Track where
  src : Nat
  tag : Nat
  k : Nat
  o : Nat
  deriving DecidableEq, Repr

/-- The packet network beyond its registers. -/
structure Noc where
  /-- requests whose response is still due, oldest first -/
  outst : List Packet
  /-- packets that have reached a target and wait for it -/
  inbox : List Packet
  /-- responses on their way to their requesters -/
  rsps : List Packet
  /-- responses delivered to requesters, newest first -/
  delivered : List Packet
  /-- responses held for a NAP of a PAUSED region (R54) -/
  heldRsp : List Packet
  /-- requests held at a NAP of a PAUSED region (R54) -/
  heldReq : List Packet
  /-- flits sent to a NAP whose credit is not back, by node identifier × 4 + VC (R163) -/
  owed : SMap Nat
  /-- packets discarded and counted, by node identifier -/
  discards : SMap Nat
  /-- units whose self-test or resynchronisation waits for the epoch boundary, by router × 32 + port (31 the router) -/
  ready : SMap Bool
  /-- resynchronisation step of a port: 1 RESYNC_REQ sent, 2 RESYNC_ACK received -/
  resync : SMap Nat
  /-- packets on their way that wait at an output, oldest first (R162, R170) -/
  waits : List WaitPkt
  /-- the links that outstanding requests have crossed (R170) -/
  tracks : List Track
  /-- units (router, port; port 31 the router) that have left LIVE while a set is checked (R177) -/
  left : List (Nat × Nat)
  /-- sides of bridges that are down (R171): router × 32 + port, and 2,048 more for the unit's side of a local port -/
  down : List Nat
  /-- the last packet of each link, in its sender's replay buffer (R156): router × 32 + output port, and 2,048 more for what a unit
  has sent into a local port -/
  sent : SMap (Option Packet)
  /-- consecutive replays of a link, by router × 32 + port -/
  replays : SMap Nat
  probes : SMap ProbeSt
  deriving DecidableEq, Repr

/-- One log entry of a SECDED macro (R272, R275). -/
structure MLog where
  row : Nat
  ue : Bool
  hits : Nat
  bit : Nat
  deriving DecidableEq, Repr

/-- The error record of a SECDED macro (R272, R275): counts, log, and whether its events have been raised since the last
clear. -/
structure Macro where
  ce : Nat
  ue : Nat
  refused : Nat
  log : List MLog
  weak : Bool
  ref : Bool
  deriving DecidableEq, Repr

def Macro.empty : Macro := ⟨0, 0, 0, [], false, false⟩

/-- One 64-byte beat in a pseudo-channel controller's queues (R245, R250): the request it belongs to, its byte address,
requester port, arrival order and time (NoC cycles), the bytes and enables of a write or the bytes a read has fetched,
hazard priority (R252), whether it waits in the merge buffer (R279), the page hint, the lease, and the symbols in error of
its two words when a read was issued. -/
structure Beat where
  rid : Nat
  addr : Nat
  port : Nat
  age : Nat
  time : Nat
  data : List Byte
  en : List Bool
  hz : Bool
  mrg : Bool
  hint : Nat
  lease : Nat
  err0 : List Nat
  err1 : List Nat
  deriving DecidableEq, Repr

/-- A request that a controller has accepted: the packet, the beats still to be read or merged, the bytes read by beat
address, and whether a word was uncorrectable. -/
structure PcReq where
  rid : Nat
  p : Packet
  left : Nat
  got : List (Nat × List Byte)
  bad : Bool
  deriving DecidableEq, Repr

/-- A pseudo-channel controller beyond its registers (10 R249 to R266): its queues, the requests waiting to enter, reads
issued and not yet checked, the write turn (0 none, 1 by pressure or age, 2 because no read was ready), open pages and row
hits by bank, banks refreshed in this round, a reel-in that drains, link errors of the last millisecond, the temperature at
the last calibration, whether it has been initialised, whether a training has ended and waits for the epoch, and activates by bank
since the last refresh-management command (R244). A waiting request stands with the time at which its head flit arrived (R250). -/
structure Pc where
  rq : List Beat
  wq : List Beat
  head : List (Nat × Packet)
  issued : List Beat
  reqs : List PcReq
  next : Nat
  turn : Nat
  pages : SMap (Option (Nat × Nat))
  hits : SMap Nat
  round : List Nat
  reel : Bool
  errTimes : List Nat
  calTemp : Nat
  inited : Bool
  ready : Bool
  acts : SMap Nat
  deriving DecidableEq, Repr

def Pc.empty : Pc := ⟨[], [], [], [], [], 0, 0, [], [], [], false, [], 0, false, false, []⟩

/-- Error correction beyond its registers: the macros' records, the bits in error of stored SRAM words (by macro × 2^20 +
row), the symbols in error of stored HBM words (by address div 32), the ECC_NOTIFY queue, the macro that an injection is
armed for, and the scrubber's next and last byte address. -/
structure Ecc where
  macros : SMap Macro
  bad : SMap (List Nat)
  hbmBad : SMap (List Nat)
  notify : List Nat
  ovf : Bool
  inj : Option Nat
  scrubPos : Nat
  scrubEnd : Nat
  deriving DecidableEq, Repr

/-- One entry of an encryption engine's log (R301), and whether entries were lost before it. -/
structure SecEnt where
  addr : Nat
  kind : Nat
  key : Nat
  src : Nat
  tag : Nat
  lost : Bool
  deriving DecidableEq, Repr

/-- A granule whose verification is due: its number in the slot's data area, and the ciphertext, counter and stored MAC
that its read fetched (R291). -/
structure EncGran where
  g : Nat
  ct : List Byte
  ctr : Nat
  mac : Nat
  deriving DecidableEq, Repr

/-- A protected READ that awaits verification (R291, R292): its engine, request and slot, the granules still to verify,
whether its response waits for them (SPEC_OFF), the plaintext, and whether a granule has failed. -/
structure EncPend where
  eng : Nat
  p : Packet
  k : Nat
  grans : List EncGran
  waits : Bool
  data : List Byte
  failed : Bool
  deriving DecidableEq, Repr

/-- Memory encryption beyond its registers (R283 to R301): the SEC_KEYLOAD words written since the last INSTALL, the key
words of each slot, the write counter and stored MAC of each granule (by slot × 2^32 + granule), the granule ranges
treated as poisoned because a node above them failed, reads awaiting verification, and each engine's log and its loss
mark. -/
structure Sec where
  loaded : List Nat
  keys : SMap (List Nat)
  ctr : SMap Nat
  mac : SMap Nat
  below : SMap (List (Nat × Nat))
  pend : List EncPend
  log : SMap (List SecEnt)
  lost : SMap Bool
  deriving DecidableEq, Repr

def Sec.empty : Sec := ⟨[], [], [], [], [], [], [], []⟩

/-- One entry of the equalisation table (R310): symbol rate in kBd, polarity flags, and bytes 0x08 to 0x2B. -/
structure EqEnt where
  kbd : Nat
  flags : Nat
  codes : List Nat
  deriving DecidableEq, Repr

/-- A lane's PRBS checker (12 R319): the pattern's last bits, newest first, while it seeds itself those received; how many agreed
since; and which of the last 128 judged with LOCK were wrong. -/
structure PrbsChk where
  hist : List Bool
  run : Nat
  wrong : List Bool
  deriving DecidableEq, Repr

def PrbsChk.empty : PrbsChk := ⟨[], 0, []⟩

/-- A serial lane beyond its registers (R305 to R321): records received and not yet sent, the ring offset, WRITEs
outstanding (tag and records), WRITE requests whose records wait for the line, the codes a walk moves to, the polarity in
force, whether the link partner owns the transmitter, whether EQ_ENTRY_MISSING has been raised, a running injection, and an
armed SNAP. -/
structure Lane where
  chk : PrbsChk
  rx : List Byte
  off : Nat
  out : List (Nat × Nat)
  tx : List Packet
  target : List Nat
  flags : Nat
  partner : Bool
  missing : Bool
  inj : Option Nat
  snap : Bool
  deriving DecidableEq, Repr

def Lane.empty : Lane := ⟨PrbsChk.empty, [], 0, [], [], [], 0, false, false, none, false⟩

/-- The serial lanes, the equalisation table held in the LNE block (by lane × 4 + bin) and its limits T1, T2, T3 and HYST
(R310, R311; temperatures biased by 128). -/
structure Lanes where
  lane : SMap Lane
  eq : SMap (Option EqEnt)
  lims : List Nat
  deriving DecidableEq, Repr

/-- The limits with no header (R311): 25, 55 and 85 °C, HYST 4. -/
def Lanes.empty : Lanes := ⟨[], [], [153, 183, 213, 4]⟩

/-- One record of an essential-bit map (04 R107): first frame and number of frames, the classes of bits set and clear in
the mask, and the mask (all ones for a RUN). -/
structure EssRec where
  idx : Nat
  n : Nat
  cls1 : Nat
  cls0 : Nat
  mask : Nat
  deriving DecidableEq, Repr

/-- An essential-bit map in force (04 R108): its records, and whether processing stopped early. `given` is false for a
personality loaded with no ESSMAP command. -/
structure EssMap where
  given : Bool
  recs : List EssRec
  trunc : Bool
  deriving DecidableEq, Repr

def EssMap.absent : EssMap := ⟨false, [], false⟩

/-- A region beyond its registers: NAP ready held low (R121, R344), a CLEARING that waits for the running sequence (R57,
R126), a debug halt that keeps it PAUSED (R126, 17 R439), whether it holds a completed personality (R51), whether its
outward parks have changed to 0 in this CLEARING (R51), whether its image was relocatable (R123), whether a tap was forced off in
the last close (R55), whether its outputs are connected (R55, R56), the divider counts at which its taps stand, by 8 × tree + tap
(R48), and its map (R108). -/
structure Rgn where
  hold : Bool
  wantClear : Bool
  halt : Bool
  pers : Bool
  zeroed : Bool
  reloc : Bool
  forced : Bool
  conn : Bool
  div : SMap Nat
  ess : EssMap
  deriving DecidableEq, Repr

def Rgn.empty : Rgn := ⟨false, false, false, false, false, false, false, false, [], EssMap.absent⟩

/-- What the hub keeps of the image in a region's ballast (R122): source region, stream digest, relocatable source, AON
tick count. -/
structure BalMeta where
  region : Nat
  pdig : List Byte
  reloc : Bool
  aon : Nat
  deriving DecidableEq, Repr

def BalMeta.empty : BalMeta := ⟨0, [], false, 0⟩

/-- A load slot (R92), or with number 4 the boot stream of the boot master and JTAG: every stream byte taken so far, the
bytes used, the frame address (none before the first FAR; `some none` an address that names no frame), the frames written
(newest first), the body command under way (OP, N and the stream offset of its command word), the map being read, the wake
it waits for (R96), and whether it takes a boot image. -/
structure Slot where
  all : List Byte
  pos : Nat
  far : Option (Option Nat)
  wrote : List Nat
  cmd : Option (Nat × Nat × Nat)
  ess : EssMap
  essWords : Nat
  waking : Bool
  boot : Bool
  deriving DecidableEq, Repr

def Slot.empty : Slot := ⟨[], 0, none, [], none, EssMap.absent, 0, false, false⟩

/-- An entry of the upset log (R112). -/
structure UpsetEnt where
  far : Nat
  cls : Nat
  kind : Nat
  bit : Nat
  deriving DecidableEq, Repr

/-- Configuration memory and its checking: frames by linear index (R88; a frame is a 3,200-bit number, blank reads 0), each
checker's slot (R102), STUCK frames already reported (R110), the upset log and its loss mark, the maps of the dies'
die-common frames, the frames that a load wrote while GOLD_EN was set (with 2,359,296 at the head, by region), dies whose
golden fill cannot succeed, the NoC time + 1 at which a die's late sweep was last reported, and the dies whose die-common frames
have been written since they were admitted, so that their checkers run (R103). -/
structure Integ where
  frames : SMap Nat
  slots : SMap Nat
  stuck : List Nat
  log : List UpsetEnt
  lost : Bool
  ess : SMap EssMap
  goldWrote : SMap (List Nat)
  fillBad : List Nat
  late : SMap Nat
  common : List Nat
  deriving DecidableEq, Repr

/-- The capture engine (R113 to R126): the operation that runs (0 none, 1 LIVE to 5 INJECT), its phase (1 quiesce, 2
closing, 3 opening), the regions it names and those not finished, those whose taps are gated and which wait for the others of a
joint operation (R120), INFLIGHT, whether it serves the mirror controller, the OP that firmware's request in the capture arbiter's
spool is for, the per-export count, the longest pause so far, images' meta data, the ballast, the fabric contents and the capture
latches (R114) by region × 2^21 + byte (flip-flop part, RAM area, ninth bits from 2^20), and the record being written or read. -/
structure Cap where
  op : Nat
  phase : Nat
  regions : List Nat
  left : List Nat
  gated : List Nat
  inflight : Bool
  inconsistent : Bool
  mirror : Bool
  wait : Option Nat
  count : Nat
  ns : Nat
  images : SMap BalMeta
  bal : SMap Byte
  fab : SMap Byte
  latch : SMap Byte
  buf : List Byte
  deriving DecidableEq, Repr

def Cap.empty : Cap := ⟨0, 0, [], [], [], false, false, false, none, 0, 0, [], [], [], [], []⟩

/-- eFuses beyond the registers that show them: operator-key digests (15 R391), the bitstream key (R83). -/
structure Fuses where
  digest : SMap (List Byte)
  key0 : Option (List Byte)
  life : Nat
  deriving DecidableEq, Repr

/-- Pins that the spec gives a level: inputs as driven, outputs as the device drives them; and the supplies as the AON domain
judges them: those under their NV-write floor (15 R383), and whether an order violation waits for VCC_HUB (15 R381). -/
structure Pins where
  porN : Bool
  resetN : Bool
  progN : Bool
  cfgMode : Nat
  role : Nat
  cfgDone : Bool
  cfgErr : Bool
  thermTripN : Bool
  below : List Nat
  seqDue : Bool
  deriving DecidableEq, Repr

/-- Before POR_N rises: POR_N low, RESET_N and PROG_N high (both are pulled up), every supply under its floor, and THERM_TRIP_N
not driven low. -/
def Pins.empty : Pins := ⟨false, true, true, 0, 0, false, false, true, [0, 1, 8], false⟩

/-- The boot (03 R65 to R73, 15 R386): its phase (0 before t0, 1 the hub PLL starts, 3 an attempt runs, 4 firmware in the shell
and the watchdog running, 5 SHELL_READY written, 6 stopped, 7 held by RESET_N, PROG_N or a trip), the strap sampled at
power-on, the state of the boot stream of slot 4, the flash address of its next byte, the images' flash addresses, the
frames that the passed image wrote, management SRAM (03 R85), the words of each bitstream key written, and how the boot master
reads its flash (03 R66: 0 not discovered, 1 1S-1S-1S at 50 MHz, 2 8D-8D-8D at up to 200 MHz). -/
structure Boot where
  phase : Nat
  mode : Nat
  st : Nat
  off : Nat
  prim : Nat
  fall : Nat
  wrote : List Nat
  sram : SMap Byte
  bkeyMask : SMap Nat
  flash : Nat
  deriving DecidableEq, Repr

def Boot.empty : Boot := ⟨0, 0, 0, 0, 0, 0, [], [], [], 0⟩

/-- The lifecycle command that runs and its IDX (15 R392). -/
structure Life where
  cmd : Nat
  idx : Nat
  deriving DecidableEq, Repr

/-- A tether bundle beyond its registers (05 R137 to R148): SEQ expected next, consecutive misses, the period of the last valid
heartbeat + 1 (0 none), the period + 1 in which a wire last mismatched first, steers (wire, spare) with the boundaries left,
a narrowing that waits for them, wires marked bad for the next training, wires that deliver wrong bits, a valid heartbeat
while SUSPECT, a failed attempt that will be retried, training ended and waiting for the epoch, routes that follow the
pay-out, consecutive replays of a NAP flit, and whether a record exists. -/
structure Bundle where
  seq : Nat
  misses : Nat
  lastOk : Nat
  seen : SMap Nat
  steer : List (Nat × Nat × Nat)
  narrow : Bool
  marked : List Nat
  faulty : List Nat
  back : Bool
  retry : Bool
  trained : Bool
  routesUp : Bool
  replays : Nat
  known : Bool
  /-- consecutive periods in which both sides have sent the same REC_HASH, once training has made the record (R146, R148) -/
  agree : Option Nat
  /-- SEQ of the hub's next frame -/
  txSeq : Nat
  /-- wires whose signature mismatched at the hub in the last frame: the next frame's RXBAD -/
  rxbad : List Nat
  deriving DecidableEq, Repr

def Bundle.empty : Bundle := ⟨0, 0, 0, [], [], false, [], [], false, false, false, false, 0, false, none, 0, []⟩

/-- A write of CMX_XR_b_p of die d: VALID, SRC_DIE, SRC_BUNDLE, SRC_POS (R152). -/
structure XrWrite where
  d : Nat
  b : Nat
  p : Nat
  valid : Nat
  sd : Nat
  sb : Nat
  sp : Nat
  deriving DecidableEq, Repr

/-- The tethers beyond their registers: the bundles by die × 16, the heartbeat period's number, dies that have reset and await
admission (R147), and route entries whose force comes at the next boundary (R136). -/
structure Cmx where
  bundles : SMap Bundle
  period : Nat
  resets : List Nat
  forces : List (Nat × Nat × Nat)
  /-- DIR changes of loaded regions that no heartbeat has reported yet (R136): region, crossing wire, new DIR -/
  dirq : List (Nat × Nat × Nat)
  /-- route writes in the spool of a tether switch's management path (R131): destination die, bundle and position, VALID and source -/
  xrq : List XrWrite
  deriving DecidableEq, Repr

def Cmx.empty : Cmx := ⟨[], 0, [], [], [], []⟩

/-- A ring oscillator (02 R60): output gated while it settles, the running window is not reported, an expert TRIM is
held. -/
structure Rosc where
  gated : Bool
  skip : Bool
  expert : Bool
  deriving DecidableEq, Repr

def Rosc.empty : Rosc := ⟨false, false, false⟩

/-- A physical page of a small flash (02 R61): valid mark, sequence number, its words, erase cycles. -/
structure FlPage where
  valid : Bool
  seq : Nat
  data : List Nat
  wear : Nat
  deriving DecidableEq, Repr

/-- An erased page. At reset every page is one, with sequence number and wear 0 (DESIGN CHOICE, log entry 84). -/
def FlPage.erased : FlPage := ⟨false, 0, [], 0⟩

/-- A die serial port (02 R63): FIFOs, bytes of a started read, whether a transfer is on the line, and whether an I²C master has
sent START and no STOP. -/
structure Serial where
  tx : List Byte
  rx : List Byte
  rd : Nat
  busy : Bool
  bus : Bool
  deriving DecidableEq, Repr

def Serial.empty : Serial := ⟨[], [], 0, false, false⟩

/-- Die hard blocks (02 R59 to R63): oscillators by die × 2, physical flash pages by die × 128, the flash operation that runs
(1 READ, 2 WRITE, 3 ERASE) by die, serial ports by die × 4. -/
structure Fab where
  rosc : SMap Rosc
  flash : SMap FlPage
  flOp : SMap Nat
  serial : SMap Serial
  deriving DecidableEq, Repr

/-- What a clock multiplexer can select (14 R367, R371): output o of PLL p, oscillator n of die d, the fabric root input of
region r, a reference clock, the hub's forwarded 2 GHz clock, a regional tree, and for the AON domain the internal
oscillator or a reference divided by 25. -/
inductive ClkSrc where
  | pll (p o : Nat)
  | rosc (d n : Nat)
  | root (r : Nat)
  | ref (k : Nat)
  | hub
  | tree (n : Nat)
  | osc
  | refDiv (k : Nat)
  deriving DecidableEq, Repr

/-- A clock multiplexer (14 R367 to R369): the source in use, the source a running switch goes to, SW (0 IDLE, 1 STOPPING,
2 WAIT_NEW), whether the switch was forced, and whether CLK_SW_STALL has been raised for it. -/
structure Mux where
  cur : ClkSrc
  tgt : ClkSrc
  sw : Nat
  forced : Bool
  stalled : Bool
  deriving DecidableEq, Repr

/-- A PLL beyond its registers (14 R362 to R366): the phase of a hop (0 none, 1 domains move to the reference, 2 relock,
3 domains move back), a further hop that waits, expert values that override the plan, and whether the running judge window
holds its loss of lock. -/
structure Pll where
  phase : Nat
  again : Bool
  vco : Option Nat
  n0 : Option Nat
  n1 : Option Nat
  fresh : Bool
  deriving DecidableEq, Repr

def Pll.empty : Pll := ⟨0, false, none, none, none, false⟩

/-- The clocks: PLLs by number, multiplexers by domain × 32 + place (0 to 7 a leaf tap, 31 the root), consecutive windows
that each reference has passed, the verdict acted on last (0 none), and UNRESOLVED windows before the hub PLL starts. -/
structure Clk where
  plls : SMap Pll
  mux : SMap Mux
  good0 : Nat
  good1 : Nat
  lastAct : Nat
  unres : Nat
  deriving DecidableEq, Repr

def Clk.empty : Clk := ⟨[], [], 0, 0, 0, 0⟩

/-- Power and sensors beyond their registers (14 R372 to R377): domains in transition that wake (a domain in transition that
is not listed goes OFF), domains whose wait for a PLL has raised CLK_SW_STALL, and sensors at or above TRIP_C at the last
conversion. -/
structure Pwr where
  up : List Nat
  stalled : List Nat
  hot : List Nat
  deriving DecidableEq, Repr

/-- A mirror-link frame beside its SEQ: TYPE, PL, EPOCH, ARG0, ARG1 and payload plaintext (13 R338). -/
structure MFrame where
  typ : Nat
  pl : Nat
  epoch : Nat
  arg0 : Nat
  arg1 : Nat
  data : List Byte
  deriving DecidableEq, Repr

/-- What an EPOCH_END frame says (13 R338): its epoch, the numbers of WLOG, IMAGE and EFFECT frames, the mask of imaged
source regions. -/
structure EpochEnd where
  epoch : Nat
  wl : Nat
  img : Nat
  eff : Nat
  mask : Nat
  deriving DecidableEq, Repr

/-- The mirror-link controller beyond its registers (13 R332 to R356). Key: words written since the link last left UP, their
mask, the key in force. Sender: control frames to send, WLOG frames to send, IMAGE frames to send (pair lease, region, epoch,
offset), held effects already sent, effects that wait for room, the transmit log with its size in bytes, WLOG and EFFECT frames of the open epoch, an
epoch ended whose EPOCH_END has not been sent, an EPOCH_END without ACK, an epoch end that waits, the cut capture under way,
pair leases whose GIVE waits for a cut and for an ACK, next seed offset and last seed epoch + 1 by pair lease. Receiver:
frames accepted by epoch × 4 + kind, EPOCH_ENDs not committed, the receive log, image staging (by region × 2^20 + byte), kept
effects, the epoch whose moves and apply run, a RETRY that has not been sent. Both: the window of R352, takeovers under way,
MIR_LINK_DOWN raised, lanes trained, the quad pairs whose lanes have lost lock, the own and the partner's announced wire
test (time; whether the rise was seen). -/
structure Mir where
  words : SMap Nat
  keySet : Nat
  key : List Nat
  ctl : List MFrame
  wl : List MFrame
  img : List (Nat × Nat × Nat × Nat)
  effSent : Nat
  fxWait : List HeldFx
  log : List (Nat × MFrame)
  logBytes : Nat
  wlCnt : Nat
  effCnt : Nat
  ended : Option EpochEnd
  unacked : Bool
  endDue : Bool
  cutting : Bool
  give : List Nat
  given : List Nat
  seed : SMap Nat
  seedEpoch : SMap Nat
  rx : SMap Nat
  ends : List EpochEnd
  rlog : List MFrame
  stage : SMap Byte
  keep : List MFrame
  applying : Option EpochEnd
  retrying : Bool
  win : Bool
  takes : List Nat
  downed : Bool
  trained : Bool
  badQuads : List Nat
  own : Option Nat
  expect : Option (Nat × Bool)
  deriving DecidableEq, Repr

def Mir.empty : Mir :=
  ⟨[], 0, [], [], [], [], 0, [], [], 0, 0, 0, none, false, false, false, [], [], [], [], [], [], [], [], [], none, false, false,
    [], false, false, [], none, none⟩

/-- A host-DMA channel beyond its registers (15 R406): bytes of the copy already asked for, the length of the chunk under way,
what it waits for (0 nothing, 1 the READ_RSP of a chunk, 2 the WRITE_RSP), and ABORT written. -/
structure Hdma where
  off : Nat
  n : Nat
  step : Nat
  stop : Bool
  deriving DecidableEq, Repr

def Hdma.empty : Hdma := ⟨0, 0, 0, false⟩

/-- An inbound memory request (12 R325): requester's tag, write or read, relaxed ordering, what it maps to (0 registers, 1 a
mailbox window as the host sees it, 2 HBM), device address, length, data with byte enables; how many of its bytes have been sent
to the NoC, the tags and offsets of blocks without a response, offset, status and data of those answered; whether
its completion is discarded (R328). -/
structure Inbound where
  tag : Nat
  wr : Bool
  ro : Bool
  kind : Nat
  addr : Nat
  len : Nat
  data : List Byte
  be : List Bool
  next : Nat
  due : List (Nat × Nat)
  got : List (Nat × Nat × List Byte)
  lost : Bool
  deriving DecidableEq, Repr

/-- The PCIe endpoints beyond their registers (12 R322 to R328). By function, or by endpoint × 128 for a physical function:
functions with bus mastering, in D3hot, with the MSI-X function mask set, reset by an FLR and not enabled again; NumVFs of each
endpoint whose VFs are enabled; inbound requests in their order of arrival; outbound READs that wait for completions; outbound
READs that wait behind a held WRITE of their lease, each with that WRITE. -/
structure Pci where
  bm : List Nat
  d3 : List Nat
  mask : List Nat
  off : List Nat
  vfs : SMap Nat
  inq : SMap (List Inbound)
  reads : List (Nat × Packet)
  behind : List (Packet × Packet)
  deriving DecidableEq, Repr

def Pci.empty : Pci := ⟨[], [], [], [], [], [], [], []⟩

/-- The pins beyond their registers (16 R412 to R423): phase of a function switch by pin (1 landed, 2 parked, 3 parked and
extended), OUT + 2 × OE of each source by number, level that the board drives on a pin + 1 (0 undriven),
the lock sequence's word and mask; by pin the level a keeper last saw + 1, and what the sleep latch holds (OUT + 2 × OE). -/
structure Gpio where
  phase : SMap Nat
  lev : SMap Nat
  ext : SMap Nat
  word : Nat
  mask : Nat
  keep : SMap Nat
  hold : SMap Nat
  deriving DecidableEq, Repr

def Gpio.empty : Gpio := ⟨[], [], [], 0, 0, [], []⟩

/-- Debug beyond its registers (17 R425 to R443): a granted token; the TAP's instruction, the STATUS and DATA of the last
DBG_ACCESS and the boundary-scan register; the trace sink's store, the outputs that have taken its head, whether TRACE_DROP has been
raised since the outputs were enabled, records on the pins since the last align record and whether one is due, whether START_CH was raised more
recently than STOP_CH; channels raised whose halts have not reached the participants (17 R439); cores that a halt holds, that
defer one, and that are in a locked sequence (1 a reservation, 2 a GPIO lock sequence); records of the ring's next WRITE. -/
structure Dbg where
  token : Bool
  ir : Nat
  accStatus : Nat
  accData : Nat
  bsr : List Bool
  store : List TraceRec
  taken : List Nat
  dropped : Bool
  sent : Nat
  align : Bool
  started : Bool
  due : Nat
  halted : List Nat
  deferred : List Nat
  locked : SMap Nat
  ring : List TraceRec
  deriving DecidableEq, Repr

def Dbg.empty : Dbg := ⟨false, 1, 0, 0, [], [], [], false, 0, true, false, 0, [], [], [], []⟩

/-- Self-test (17 R445 to R450): by die the next slice of the order and the running one + 1, rounds completed; the physical
unit + 1 that holds a logical RAM block where it is not its own, physical units marked bad, and engines whose START waits for a
slice to end. -/
structure Bist where
  pos : SMap Nat
  run : SMap Nat
  rounds : SMap Nat
  map : SMap Nat
  bad : List Nat
  start : List Nat
  deriving DecidableEq, Repr

def Bist.empty : Bist := ⟨[], [], [], [], [], []⟩

/-- The machine: register fields (`flds`; `held` the value in force of a LIVE field whose write waits), HBM, the AON tick count
and NOC_TIME, the model's counter of open values, the answer to the last access, and the parts above. -/
structure State where
  flds : SMap Nat
  held : SMap (Option Nat)
  mem : List Host.Cell
  aonTicks : Nat
  nocTime : Nat
  freeCtr : Nat
  resp : Resp
  drop : DropLog
  ev : Events
  heldFx : List HeldFx
  out : List Out
  arbs : SMap Arb
  noc : Noc
  leaseWin : SMap (List (Nat × Nat))
  eng : SMap Eng
  trio : SMap Trio
  ecc : Ecc
  pcs : SMap Pc
  sec : Sec
  lanes : Lanes
  /-- the boot flash on the board (03 R67): bytes that nothing has programmed read 0xFF -/
  bflash : SMap Byte
  rgn : SMap Rgn
  slots : SMap Slot
  integ : Integ
  cap : Cap
  fuses : Fuses
  pins : Pins
  boot : Boot
  life : Life
  cmx : Cmx
  fab : Fab
  clk : Clk
  pwr : Pwr
  mir : Mir
  /-- HI halves + 1 that a read of the LO register has latched for the next read of HI, by address of the HI register -/
  latch : SMap Nat
  /-- expert registers that hold a written value in place of the derived one (00 R15), by address -/
  xover : List Nat
  /-- QUIET expert fields that return to their derived values when their blocks are idle (00 R15), by key -/
  xback : List Nat
  hdma : SMap Hdma
  pci : Pci
  gpio : Gpio
  dbg : Dbg
  bist : Bist
  /-- status byte of the last SMBus command 0x11 (15 R407) -/
  smb : Nat
  /-- the boot-flash command that runs: OP and COUNT (15 R409) -/
  bspi : Option (Nat × Nat)
  pending : List Instr
  deriving DecidableEq, Repr

/-- The machine before POR_N rises: every register field at its reset value, every queue and buffer empty, no supply in
range. -/
def State.reset : State where
  flds := []
  held := []
  mem := []
  aonTicks := 0
  nocTime := 0
  freeCtr := 0
  resp := .none
  drop := ⟨[], false⟩
  ev := ⟨[], 0, [], 0, [], [], [], []⟩
  heldFx := []
  out := []
  arbs := []
  noc := ⟨[], [], [], [], [], [], [], [], [], [], [], [], [], [], [], [], []⟩
  leaseWin := []
  eng := []
  trio := []
  ecc := ⟨[], [], [], [], false, none, 0, 0⟩
  pcs := []
  sec := Sec.empty
  lanes := Lanes.empty
  bflash := []
  rgn := []
  slots := []
  integ := ⟨[], [], [], [], false, [], [], [], [], []⟩
  cap := Cap.empty
  fuses := ⟨[], none, 0⟩
  pins := Pins.empty
  boot := Boot.empty
  life := ⟨0, 0⟩
  cmx := Cmx.empty
  fab := ⟨[], [], [], []⟩
  clk := Clk.empty
  pwr := ⟨[], [], []⟩
  mir := Mir.empty
  latch := []
  xover := []
  xback := []
  hdma := []
  pci := Pci.empty
  gpio := Gpio.empty
  dbg := Dbg.empty
  bist := Bist.empty
  smb := 0
  bspi := none
  pending := []

/-- Reasons a step stops with a fault. No command of this block ends so. -/
inductive Fault where
  /-- raised by no command: safe -/
  | never
  deriving DecidableEq, Repr

/-- Reasons a command has no meaning in the model. No command of this block ends so. -/
inductive Refusal where
  /-- kept for a command that exec does not give its meaning: safe -/
  | notModelled (mnemonic : String)
  deriving DecidableEq, Repr

end Sys2Proof.Machine
end

