-- ==== Sys2Proof/Machine/Ops.lean ====
section
/-! DEFINITION. The named operations over the registers, the memory, the drop log and the event queues that every
command's meaning uses. -/

namespace Sys2Proof.Machine

open Reg

/-! ## Address decode (R25) -/

/-- The register block whose window holds `a`, if any. -/
def blockOf (a : Nat) : Option Block :=
  if 0xF010000000 ≤ a ∧ a < 0xF018000000 then some .FAB
  else if 0xF000000000 ≤ a ∧ a < 0xF010000000 then
    match (a / 0x1000000) % 16 with
    | 0 => some .HUB | 1 => some .PWR | 2 => some .CLK | 3 => some .CFG
    | 4 => some .CMX | 5 => some .NOC | 6 => some .DMC | 7 => some .SEC
    | 8 => some .LNE | 9 => some .PCI | 10 => some .ENG | 11 => some .GPIO
    | 12 => some .DBG | 13 => some .BST | 14 => some .MIR | _ => some .ECC
  else none

/-- HBM occupies 0x00_0000_0000 to 0x23_FFFF_FFFF (R25). -/
def hbmEnd : Nat := 0x2400000000

def isHbm (a : Nat) : Bool := decide (a < hbmEnd)

/-- Instance numbers of offset `o` under the strides and counts `dims`, outermost first. -/
def matchDims : List (Nat × Nat) → Nat → Option (List Nat)
  | [], o => if o = 0 then some [] else none
  | (st, n) :: t, o =>
    if o / st < n then (matchDims t (o % st)).map (o / st :: ·) else none

/-- The first kind of a table that implements offset `o`, with the instance numbers. -/
def findKind : List RegKind → Nat → Option (RegKind × List Nat)
  | [], _ => none
  | k :: t, o =>
    if o < k.off then findKind t o
    else match matchDims k.dims (o - k.off) with
      | some ix => some (k, ix)
      | none => findKind t o

/-- The register at management address `a`, if one is implemented there. -/
def decodeReg (a : Nat) : Option (RegKind × List Nat) :=
  match blockOf a with
  | none => none
  | some b => findKind (blockTable b) (a - blockBase b)

/-! ## Reset values -/

/-- Mesh router of number k = 8y + x (R178). -/
def routerX (k : Nat) : Nat := k % 8
def routerY (k : Nat) : Nat := k / 8

/-- The XY route from router k toward router m (R164): 0 N, 1 E, 2 S, 3 W, 4 LOCAL. -/
def xyRoute (k m : Nat) : Nat :=
  if routerX k < routerX m then 1
  else if routerX m < routerX k then 3
  else if routerY k < routerY m then 2
  else if routerY m < routerY k then 0
  else 4

/-- The units of R155. -/
inductive Unit' where
  | fabricNap (r k : Nat)
  | engine (e : Nat)
  | pc (n : Nat)
  | core (g : Nat)
  | cfgCtl
  | sink
  | enc (e : Nat)
  | hubRegs
  | pcie (e : Nat)
  | mirrorLink
  | quad (q : Nat)
  | absent
  deriving DecidableEq, Repr

/-- The region at router k: the inverse of the relation in R23. -/
def regionAt (k : Nat) : Nat :=
  let x := routerX k; let y := routerY k
  8 * (x / 2 + 4 * (y / 4)) + (x % 2 + 2 * (y % 4))

/-- The router of region r (R23). -/
def routerOf (r : Nat) : Nat :=
  let d := r / 8; let i := r % 8
  (4 * (d / 4) + i / 2) * 8 + (2 * (d % 4) + i % 2)

/-- First tenant quad of the lane tile that has attachments at router k, the tile's first column and its count (R155). -/
def tileAt (k : Nat) : Option (Nat × Nat × Nat) :=
  let x := routerX k
  if routerY k = 0 then (if x < 4 then some (12, 0, 5) else some (17, 4, 5))
  else if routerY k = 7 then (if x < 4 then some (22, 0, 5) else some (27, 4, 9))
  else none

/-- The unit at local port p of router k (R155). -/
def unitAt (k p : Nat) : Unit' :=
  let x := routerX k; let y := routerY k
  if p < 2 then .fabricNap (regionAt k) p
  else if p < 5 then .engine (3 * regionAt k + (p - 2))
  else if p < 13 then
    if x = 0 then .pc (8 * y + p - 5)
    else if x = 7 then .pc (64 + 8 * y + p - 5)
    else if k = 27 then (if p = 5 then .core 0 else if p = 6 then .cfgCtl else if p = 7 then .hubRegs else .absent)
    else if k = 28 then (if p = 5 then .core 1 else if p = 6 then .sink else .absent)
    else if k = 35 then (if p = 5 then .core 2 else if p = 6 then .enc 0 else .absent)
    else if k = 36 then (if p = 5 then .core 3 else if p = 6 then .enc 1 else .absent)
    else if p = 5 ∧ k = 1 then .pcie 0
    else if p = 5 ∧ k = 6 then .pcie 1
    else if p = 5 ∧ (k = 57 ∨ k = 58) then .mirrorLink
    else .absent
  else if p < 16 then
    match tileAt k with
    | some (q0, x0, n) => let j := (x - x0) + 4 * (p - 13); if j < n then .quad (q0 + j) else .absent
    | none => .absent
  else .absent

/-- The unit at a node identifier (R154). -/
def unitOf (node : Nat) : Unit' := unitAt (((node / 16) % 8) * 8 + (node / 128) % 8) (node % 16)

/-- Router number of a node identifier (R154). -/
def nodeRouter (node : Nat) : Nat := ((node / 16) % 8) * 8 + (node / 128) % 8

/-- The node identifier of local port p of router k (R154). -/
def nodeAt (k p : Nat) : Nat := routerX k * 128 + routerY k * 16 + p

/-- Whether mesh port p of router k has a neighbour. -/
def meshPresent (k p : Nat) : Bool :=
  match p with
  | 0 => decide (0 < routerY k)
  | 1 => decide (routerX k < 7)
  | 2 => decide (routerY k < 7)
  | _ => decide (0 < routerX k)

/-- Reset STATE of a router port (R155, R178): ABSENT where nothing is attached; LIVE for mesh links and hub-core units;
SIDE_DOWN across a bridge whose other side is not up yet (R170). -/
def portReset (k p : Nat) : Nat :=
  if p < 4 then (if meshPresent k p then 1 else 8)
  else match unitAt k (p - 4) with
    | .absent => 8
    | .core _ | .cfgCtl | .sink | .hubRegs => 1
    | _ => 5

/-- Reset values that differ by instance. -/
def specialReset (id : RegId) (ix : List Nat) (lo : Nat) : Option Nat :=
  match id, ix with
  | .FEAT_CAP, [k] => some (if k = 0 then 0xFFFF else if k = 1 then 0xB else 0)
  | .HUB_RGN_STATE, [r] => if lo = 24 then some (r / 8) else none
  | .MBX_ID, [f] => if lo = 0 then some f else none
  | .MBX_MSIX, [_, j] => if j % 4 = 3 then some 1 else none
  | .PWR_DOM_CTRL, [n] => some (if 64 ≤ n ∧ n < 128 then 0 else if 140 ≤ n ∧ n < 164 then 0 else 1)
  | .PWR_DOM_STATUS, [n] =>
    if lo = 4 then some (if 64 ≤ n ∧ n < 128 then 0 else if 140 ≤ n ∧ n < 164 then 0 else 2) else none
  | .CLK_PLL_CFG, [p] =>
    if lo = 12 then some (if p = 0 then 1000 else if 1 ≤ p ∧ p < 65 then 100 else 0)
    else if lo = 0 then some (if p = 0 then 2000 else if p < 65 then 100 else if p < 73 then 1000
      else if p < 77 then 1200 else if 115 ≤ p then 2000 else 0)
    else if lo = 28 then some (if p = 113 ∨ p = 114 then 1 else 0)
    else none
  | .CLK_PLL_XP, [p] =>   -- the plan of the reset frequencies (14 R363)
    if 1 ≤ p ∧ p < 65 then some (if lo = 0 then 6400 else 64)
    else if 65 ≤ p ∧ p < 73 then some (if lo = 0 then 6000 else if lo = 18 then 6 else 0)
    else none
  | .NOC_PORT_STATUS, [k, p] => if lo = 0 then some (portReset k p) else none
  | .NOC_ROUTE, [k, _, m] => some (xyRoute k m)
  | .NOC_ARB_CTRL, _ => if lo = 16 then some 1 else none
  | .DMC_ARB_CTRL, _ => if lo = 16 then some 16 else none
  | .ENG_ARB_CTRL, _ => if lo = 16 then some 8 else none
  | .CFG_ARB_RB_CTRL, _ => if lo = 16 then some 1024 else none
  | .CFG_ARB_CAP_CTRL, _ => if lo = 16 then some 1 else none
  | .CMX_ARB_CTRL, _ => if lo = 16 then some 16 else none
  | .MIR_ARB_CTRL, _ => if lo = 16 then some 8 else none
  | .DMC_PORT_QOS, [_, p] =>
    if lo = 16 then some (match p with | 4 => 1 | 5 => 2 | _ => 0)
    else some (match p with
      | 0 => 1000 | 1 => 1000 | 2 => 2000 | 3 => 1000 | 4 => 400 | 5 => 500 | _ => 4000)
  | .DBG_STATUS, _ => if lo = 0 then some 2 else none
  | .FAB_DIE_CTRL, [d] => if lo = 0 then some d else none
  | _, _ => none

/-- The field of a kind that starts at bit `lo`. -/
def fieldAt : List FieldSpec → Nat → Option FieldSpec
  | [], _ => none
  | f :: t, lo => if f.lo = lo then some f else fieldAt t lo

/-- What a field that nothing has written reads as: its reset value. -/
def fieldReset (key : Nat) : Nat :=
  match decodeReg (key / 32) with
  | none => 0
  | some (k, ix) =>
    match fieldAt k.fields (key % 32) with
    | none => 0
    | some f => (specialReset k.id ix f.lo).getD f.rst

/-! ## Register fields -/

/-- The value of a field: the last value written (R10), or what the hardware last put there. -/
def State.f (s : State) (F : Fld) : Nat := SMap.get fieldReset s.flds F.key

/-- Set a field, truncated to its width. -/
def State.setF (s : State) (F : Fld) (v : Nat) : State :=
  { s with flds := SMap.put fieldReset s.flds F.key (v % 2 ^ F.w) }

/-- Set several fields, in order. -/
def State.setFs (s : State) (l : List (Fld × Nat)) : State := l.foldl (fun s p => s.setF p.1 p.2) s

/-- Return a field to its reset or derived value. -/
def State.clearF (s : State) (F : Fld) : State :=
  { s with flds := SMap.put fieldReset s.flds F.key (fieldReset F.key) }

/-- An expert field whose return to its derived value waits (R15) returns now, if it is one. -/
def State.xbackNow (s : State) (F : Fld) : State :=
  if s.xback.contains F.key then
    { s.clearF F with xback := s.xback.filter fun k => decide (k ≠ F.key), xover := s.xover.filter fun a => decide (a ≠ F.key / 32) }
  else s

/-- Count into a field that saturates. -/
def State.count (s : State) (F : Fld) (n : Nat) : State := s.setF F (min (s.f F + n) (2 ^ F.w - 1))

/-- The value of a LIVE field in force: the old one until the field's safe boundary (R10). -/
def State.eff (s : State) (F : Fld) : Nat :=
  match SMap.get (fun _ => none) s.held F.key with
  | some v => v
  | none => s.f F

/-- A write to a LIVE field that waits for its safe boundary: the value in force stays until then (R10). -/
def State.writeLive (s : State) (F : Fld) (v : Nat) : State :=
  let old := s.eff F
  { s.setF F v with held := SMap.put (fun _ => none) s.held F.key (some old) }

/-- The safe boundary of a LIVE field: the last value written takes effect. -/
def State.applyLive (s : State) (F : Fld) : State :=
  { s with held := SMap.put (fun _ => none) s.held F.key none }

/-- A one-bit field. -/
def State.bit (s : State) (F : Fld) : Bool := decide (s.f F = 1)

def b2n (b : Bool) : Nat := if b then 1 else 0

/-- The value of all fields of a register instance, assembled (reserved bits read zero, R4). -/
def State.regWord (s : State) (a : Nat) (fs : List FieldSpec) : Nat :=
  fs.foldl (fun acc f => acc + s.f ⟨a, f.lo, f.w⟩ * 2 ^ f.lo) 0

/-! ## HBM -/

/-- What a byte of HBM that nothing has written reads as: the stacks are zeroed at their first power-up (R261). -/
def memDefault (_ : Nat) : Byte := 0

/-- Read one byte of HBM. -/
def State.byte (s : State) (a : Nat) : Byte := SMap.get memDefault s.mem a

/-- Write one byte of HBM. -/
def State.setByte (s : State) (a : Nat) (b : Byte) : State := { s with mem := SMap.put memDefault s.mem a b }

/-- Read `n` bytes of HBM from address `a`. -/
def State.bytes (s : State) (a : Nat) : Nat → List Byte
  | 0 => []
  | n + 1 => s.byte a :: s.bytes (a + 1) n

/-- Write bytes to HBM from address `a`. -/
def State.setBytes (s : State) (a : Nat) : List Byte → State
  | [] => s
  | b :: t => (s.setByte a b).setBytes (a + 1) t

/-- Write bytes under byte enables; a missing enable enables its byte (R157). -/
def State.setBytesEn (s : State) (a : Nat) : List Byte → List Bool → State
  | [], _ => s
  | b :: t, [] => (s.setByte a b).setBytesEn (a + 1) t []
  | b :: t, e :: u => (if e then s.setByte a b else s).setBytesEn (a + 1) t u

/-- The canonical form of the memory: addresses strictly rising, no entry equal to what an unlisted address reads as. -/
abbrev Memory.wf (m : List Host.Cell) : Prop := SMap.wf memDefault m

/-- Little-endian value of bytes. -/
def leNat : List Byte → Nat
  | [] => 0
  | b :: t => b.toNat + 256 * leNat t

/-- The `n` little-endian bytes of a number. -/
def leBytes : Nat → Nat → List Byte
  | 0, _ => []
  | n + 1, v => BitVec.ofNat 8 v :: leBytes n (v / 256)

/-! ## Open values -/

/-- An open value of width `w` (a value the spec does not state): nothing constrains it. -/
def State.free (s : State) (w : Nat) : Nat := Config.freeValue s.freeCtr % 2 ^ w

/-- Use up the current open value. -/
def State.freeNext (s : State) : State := { s with freeCtr := s.freeCtr + 1 }

/-! ## Drop log, responses -/

/-- Log an entry; a full log loses it (R398). -/
def State.logDrop (s : State) (m : Master) (c : DropCause) (a : Nat) : State :=
  if s.drop.entries.length < 32 then
    { s with drop := { s.drop with entries := s.drop.entries ++ [⟨m.num, c, a⟩] } }
  else { s with drop := { s.drop with lost := true } }

def State.answer (s : State) (r : Resp) : State := { s with resp := r }

/-- A write that is dropped and logged (R396, R12, R14, R470). -/
def State.dropWrite (s : State) (m : Master) (c : DropCause) (a : Nat) : State :=
  (s.logDrop m c a).answer .dropped

/-! ## Features and the commit -/

def State.committed (s : State) : Bool := s.bit HUB_STATUS_COMMITTED

/-- A feature bit accepted and committed (R394, R395). -/
def State.feature (s : State) (n : Nat) : Bool :=
  s.committed && decide (s.f (FEAT_ACCEPT_ACCEPT (n / 32)) / 2 ^ (n % 32) % 2 = 1)

/-! ## Output fence, MSI-X, event rings -/

/-- The pair lease that holds lease `l` as an ARMED source, if any (R348). -/
def State.fencePl (s : State) (l : Nat) : Option Nat :=
  (List.range 16).find? fun j =>
    decide (s.f (MIR_PL_STATUS_STATE j) = 2 ∧ s.eff (MIR_PL_CFG_MODE j) = 1 ∧ s.f (MIR_PL_CFG_LEASE j) = l)

/-- The lease a function acts for: none for the physical function (R323). -/
def State.funcLease (s : State) (fn : Nat) : Nat := if fn = 0 then 0 else s.f (HUB_RGN_STATE_LEASE (fn - 1))

/-- Whether the output fence holds the effects of a function (R348, R404). -/
def State.funcFenced (s : State) (fn : Nat) : Bool :=
  decide (s.funcLease fn ≠ 0) && (s.fencePl (s.funcLease fn)).isSome

/-- The open epoch (R346): one more than the last closed. -/
def State.openEpoch (s : State) : Nat := s.f MIR_EPOCH_TX_EPOCH

/-- Bytes that the fence buffer holds (R404). -/
def State.fenceFill (s : State) : Nat := s.heldFx.foldl (fun n h => n + 32 + h.bytes.length) 0

/-- `n` bytes of data with their record fit in the fence buffer of 512 MiB, and nothing waits for room (R349, R357). -/
def State.fenceFits (s : State) (n : Nat) : Bool := decide (s.fenceFill + 32 + n ≤ 2 ^ 29) && s.mir.fxWait.isEmpty

/-- Store a held effect (R404); it belongs to the open epoch (R348). While the buffer is full it waits, of no epoch yet (R349). -/
def State.holdFx (s : State) (h : HeldFx) : State :=
  { s with
    heldFx := if s.fenceFits h.bytes.length then s.heldFx ++ [{ h with epoch := s.openEpoch }] else s.heldFx
    mir := if s.fenceFits h.bytes.length then { s.mir with effCnt := s.mir.effCnt + 1 }
      else { s.mir with fxWait := s.mir.fxWait ++ [{ h with epoch := 2 ^ 32 }] } }

/-- The endpoint that serves a function (R323). -/
def State.funcEp (s : State) (fn : Nat) : Nat :=
  if fn = 0 then 0 else if s.f PCI_CTRL_VF_SPLIT = 0 then 0 else if fn ≤ 32 then 0 else 1

/-- Whether the function mask or the MSI-X table entry masks the vector (PCIe 6.0 format: bit 0 of the entry's fourth
word). -/
def State.msixMasked (s : State) (fn v : Nat) : Bool :=
  s.pci.mask.contains fn || decide (s.f (MBX_MSIX_WORD fn (4 * v + 3)) % 2 = 1)

/-- Set or clear a PBA bit. -/
def State.setPba (s : State) (fn v : Nat) (b : Bool) : State :=
  let F := MBX_PBA_WORD fn (v / 32)
  let w := s.f F
  let has := w / 2 ^ (v % 32) % 2 = 1
  if b then (if has then s else s.setF F (w + 2 ^ (v % 32)))
  else (if has then s.setF F (w - 2 ^ (v % 32)) else s)

def State.pba (s : State) (fn v : Nat) : Bool := decide (s.f (MBX_PBA_WORD fn (v / 32)) / 2 ^ (v % 32) % 2 = 1)

/-- Raise vector `v` of a function (R403): held by the fence (R404), pended when masked, otherwise sent. -/
def State.msix (s : State) (fn v : Nat) : State :=
  if s.funcFenced fn then
    s.holdFx ⟨2, s.funcEp fn, fn, s.funcLease fn,
      s.f (MBX_MSIX_WORD fn (4 * v)) + s.f (MBX_MSIX_WORD fn (4 * v + 1)) * 2 ^ 32,
      s.f (MBX_MSIX_WORD fn (4 * v + 2)), s.openEpoch, [], none⟩
  else if s.msixMasked fn v then s.setPba fn v true
  else { s with out := s.out ++ [.msix fn v] }

/-- The bytes of an event record (R402). -/
def EvRec.toBytes (r : EvRec) : List Byte :=
  leBytes 2 r.ev.code ++ [BitVec.ofNat 8 (r.ev.sev + 4 * b2n r.tenant)] ++ leBytes 1 r.lease ++ leBytes 2 r.inst
    ++ leBytes 6 r.time ++ leBytes 4 r.seqn

/-- Word j of an event record. -/
def EvRec.word (r : EvRec) (j : Nat) : Nat := leNat ((r.toBytes.drop (4 * j)).take 4)

/-- Put a record into the event ring of function `fn` (R399, R401, R403). -/
def State.ringPush (s : State) (fn : Nat) (r : EvRec) : State :=
  let seq := nget s.ev.ringSeq fn
  let pi := nget s.ev.ringPi fn
  let ci := s.f (MBX_EVT_CI_CI fn)
  let s := { s with ev := { s.ev with ringSeq := nput s.ev.ringSeq fn (seq + 1) } }
  if (pi + 65536 - ci) % 65536 ≥ 256 then s
  else
    let r := { r with seqn := seq % 2 ^ 32 }
    let b := 4 * (pi % 256)
    let pi' := (pi + 1) % 65536
    let s := s.setFs [(MBX_EVT_RING_WORD fn b, r.word 0), (MBX_EVT_RING_WORD fn (b + 1), r.word 1),
      (MBX_EVT_RING_WORD fn (b + 2), r.word 2), (MBX_EVT_RING_WORD fn (b + 3), r.word 3)]
    let s := { s with ev := { s.ev with ringPi := nput s.ev.ringPi fn pi' } }
    let s := if s.funcFenced fn then
        s.holdFx ⟨3, s.funcEp fn, fn, s.funcLease fn, 0x14, pi', s.openEpoch, [], none⟩
      else s.setF (MBX_EVT_PI_PI fn) pi'
    if pi = ci then s.msix fn 1 else s

/-- The lowest-numbered region whose HUB_RGN_STATE holds a lease (R401). -/
def State.leaseRegion (s : State) (l : Nat) : Option Nat :=
  (List.range 64).find? fun r => decide (s.f (HUB_RGN_STATE_LEASE r) = l)

/-! ## Counters and the bridle's inputs (17 R436 to R438) -/

/-- Event code and argument that performance counter k counts: codes 10 to 255 count nothing, and codes 3 to 7 count for their
argument only. -/
def State.pmcHits (s : State) (k ev arg : Nat) : Bool :=
  s.bit (DBG_PMC_SEL_EN k) && decide (s.f (DBG_PMC_SEL_EV k) = ev) &&
    (decide (ev < 3 ∨ 7 < ev) || decide (s.f (DBG_PMC_SEL_ARG k) = arg)) &&
    (!s.bit (DBG_PMC_SEL_GATE_EN k) || decide (s.f DBG_BR_STATE_CH / 2 ^ s.f (DBG_PMC_SEL_GATE_CH k) % 2 = 1))

/-- The event `ev` with argument `arg` happens `n` times: every counter that counts it takes them, up to 2^48 - 1. -/
def State.pmcBump (s : State) (ev arg n : Nat) : State :=
  (List.range 8).foldl (fun t k =>
    if t.pmcHits k ev arg then
      let v := min (t.f (DBG_PMC_LO_COUNT k) + t.f (DBG_PMC_HI_COUNT k) * 2 ^ 32 + n) (2 ^ 48 - 1)
      t.setFs [(DBG_PMC_LO_COUNT k, v), (DBG_PMC_HI_COUNT k, v / 2 ^ 32)]
    else t) s

/-- Channels of a set that are raised. -/
def State.chRaised (s : State) (mask : Nat) : Bool := decide ((s.f DBG_BR_STATE_CH) &&& mask ≠ 0)

/-- A bridle channel is raised (R437): its halts are due, and it starts or stops the trace outputs. -/
def State.brRaiseCh (s : State) (ch : Nat) : State :=
  if s.chRaised (2 ^ ch) then s
  else
    let s := (s.setF DBG_BR_STATE_CH (s.f DBG_BR_STATE_CH + 2 ^ ch)).pmcBump 7 ch 1
    { s with dbg := { s.dbg with
      due := s.dbg.due ||| 2 ^ ch
      started := if s.eff DBG_TRC_CTRL_STOP_CH = ch then false
        else if s.eff DBG_TRC_CTRL_START_CH = ch then true else s.dbg.started } }

/-- An event of a bridle participant: bit `on` of its ON mask raises RAISE_CH when RAISE_EN is set (R438). -/
def State.brInput (s : State) (mask en ch : Fld) (on : Nat) : State :=
  if s.eff en = 1 ∧ s.eff mask / 2 ^ on % 2 = 1 then s.brRaiseCh (s.eff ch) else s

/-- An engine's exception (0), HALT (1) or SIG (2). -/
def State.brEng (s : State) (e on : Nat) : State :=
  s.brInput (DBG_BR_ENG_ON e) (DBG_BR_ENG_RAISE_EN e) (DBG_BR_ENG_RAISE_CH e) on

/-- Whether a halt of the bridle stands for an engine. -/
def State.engHeld (s : State) (e : Nat) : Bool := s.chRaised (s.eff (DBG_BR_ENG_HALT_ON e))

/-- Put a record into the firmware event queue, 256 entries; a full queue loses it, its sequence number is used (R401). -/
def State.pushFw (s : State) (r : EvRec) : State :=
  { s with ev := { s.ev with
      fw := if s.ev.fw.length < 256 then s.ev.fw ++ [{ r with seqn := s.ev.fwSeq % 2 ^ 32 }] else s.ev.fw
      fwSeq := s.ev.fwSeq + 1 } }

/-- Put a record into the board event queue, 64 entries; a full queue loses it, its sequence number is used (R401). -/
def State.pushBoard (s : State) (r : EvRec) : State :=
  { s with ev := { s.ev with
      board := if s.ev.board.length < 64 then s.ev.board ++ [{ r with seqn := s.ev.boardSeq % 2 ^ 32 }] else s.ev.board
      boardSeq := s.ev.boardSeq + 1 } }

/-- Raise an event (R16, R17, R401). A TENANT event whose lease is 0x00 is raised as a DEVICE event. -/
def State.raise (s : State) (e : Ev) (tenant : Bool) (lease inst : Nat) : State :=
  let ten := tenant && decide (lease ≠ 0)
  let r : EvRec := ⟨e, ten, if ten then lease else 0, inst, s.nocTime % 2 ^ 48, 0⟩
  let s := (s.pushFw r).pmcBump 3 e.code 1
  let s := if !ten && decide (1 ≤ e.sev) then s.pushBoard r else s
  let s := s.ringPush 0 r
  match (if ten && s.feature 33 then s.leaseRegion lease else none) with
  | some rg => if s.bit (MBX_STATUS_EVT_EN (rg + 1)) then s.ringPush (rg + 1) r else s
  | none => s

/-- No instance named (R402). -/
def noInst : Nat := 0xFFFF

/-! ## Dies -/

/-- A die counts as isolated in STATE ISOLATED (05 R149, R152; 01 R27). -/
def dieIsolated (s : State) (d : Nat) : Bool := decide (s.f (CMX_DIE_STATUS_STATE d) = 3)

/-! ## Slices of the self-test (17 R445 to R447) -/

def State.rgnAt (s : State) (r : Nat) : Rgn := SMap.get (fun _ => Rgn.empty) s.rgn r

/-- A region's outputs are connected: from step 4 of an open to step 5 of the next close (R55, R56). -/
def State.connected (s : State) (r : Nat) : Bool := (s.rgnAt r).conn

/-- The engine whose program bank the slice at place `p` of die d's order tests. -/
def sliceProg (d p : Nat) : Option Nat :=
  let k := p % 252
  if 192 ≤ k ∧ 16 ≤ (k - 192) % 20 then some (3 * (8 * d + p / 252) + (k - 192) / 20) else none

/-- A slice of engine e's program bank runs. -/
def State.progSlice (s : State) (e : Nat) : Bool :=
  let r := nget s.bist.run (e / 24)
  decide (r ≠ 0) && decide (sliceProg (e / 24) (r - 1) = some e)

/-- The region enters CLEARING or its trio is cleared: the slice that runs there is abandoned, and a START that waited for its
end is forgotten. -/
def State.bistAbandon (s : State) (t : Nat) : State :=
  let r := nget s.bist.run (t / 8)
  if r ≠ 0 ∧ (r - 1) / 252 = t % 8 then
    { s with bist := { s.bist with run := nput s.bist.run (t / 8) 0, start := s.bist.start.filter fun e => decide (e / 3 ≠ t) } }
  else s

/-! ## Owners and expert pages (R14, R396) -/

/-- The OWNER field that governs an address. -/
def ownerFld (a : Nat) : Option Fld :=
  match blockOf a with
  | none => none
  | some .HUB => some HUB_CTRL_OWNER
  | some .PWR => some PWR_CTRL_OWNER
  | some .CLK => some CLK_CTRL_OWNER
  | some .CFG => some CFG_CTRL_OWNER
  | some .CMX => some (CMX_DIE_CTRL_OWNER ((a - 0xF004000000) / 0x100000))
  | some .NOC => some NOC_CTRL_OWNER
  | some .DMC => some DMC_GLB_CTRL_OWNER
  | some .SEC => some SEC_CTRL_OWNER
  | some .LNE => some LNE_GLB_CTRL_OWNER
  | some .PCI => some PCI_CTRL_OWNER
  | some .ENG => some (ENG_TRIO_CTRL_OWNER ((a - 0xF00A000000) / 0x40000))
  | some .GPIO => some GPIO_CTRL_OWNER
  | some .DBG => some DBG_CTRL_OWNER
  | some .BST => some BST_CTRL_OWNER
  | some .MIR => some MIR_CTRL_OWNER
  | some .ECC => some ECC_CTRL_OWNER
  | some .FAB => some (FAB_DIE_CTRL_OWNER ((a - 0xF010000000) / 0x1000000))

/-- The self-test expert page works in FACTORY and RETURN only (17 R449). -/
def State.bstOpen (s : State) : Bool := decide (s.f HUB_LC_STATE_STATE = 1 ∨ s.f HUB_LC_STATE_STATE = 4)

/-- What FEAT_CAPk offers: the fused bits, BST_EXPERT only while its page works (R394, R395, 17 R449). -/
def State.featCap (s : State) (k : Nat) : Nat :=
  let v := s.f (FEAT_CAP_CAP k)
  if k = 0 ∧ !s.bstOpen ∧ v / 2 ^ 15 % 2 = 1 then v - 2 ^ 15 else v

/-- The expert page of an address's block is enabled: XP_ENABLE and the block's feature bit (R14, R395). -/
def State.xpOn (s : State) (a : Nat) : Bool :=
  match blockOf a with
  | none => false
  | some .HUB => s.bit HUB_CTRL_XP_ENABLE && s.feature 0
  | some .FAB => s.bit (FAB_DIE_CTRL_XP_ENABLE ((a - 0xF010000000) / 0x1000000)) && s.feature 1
  | some .CFG => s.bit CFG_CTRL_XP_ENABLE && s.feature 2
  | some .CMX => s.bit (CMX_DIE_CTRL_XP_ENABLE ((a - 0xF004000000) / 0x100000)) && s.feature 3
  | some .NOC => s.bit NOC_CTRL_XP_ENABLE && s.feature 4
  | some .ENG => s.bit (ENG_TRIO_CTRL_XP_ENABLE ((a - 0xF00A000000) / 0x40000)) && s.feature 5
  | some .DMC => s.bit DMC_GLB_CTRL_XP_ENABLE && s.feature 6
  | some .ECC => s.bit ECC_CTRL_XP_ENABLE && s.feature 7
  | some .SEC => s.bit SEC_CTRL_XP_ENABLE && s.feature 8
  | some .LNE => s.bit LNE_GLB_CTRL_XP_ENABLE && s.feature 9
  | some .MIR => s.bit MIR_CTRL_XP_ENABLE && s.feature 10
  | some .CLK => s.bit CLK_CTRL_XP_ENABLE && s.feature 11
  | some .PWR => s.bit PWR_CTRL_XP_ENABLE && s.feature 12
  | some .GPIO => s.bit GPIO_CTRL_XP_ENABLE && s.feature 13
  | some .DBG => s.bit DBG_CTRL_XP_ENABLE && s.feature 14
  | some .BST => s.bit BST_CTRL_XP_ENABLE && s.feature 15 && s.bstOpen
  | some .PCI => false

/-- Whether the write of a master is let through to the register at `a`. -/
inductive Gate where
  | pass
  /-- dropped and logged with a cause -/
  | drop (c : DropCause)
  /-- a tenant requester: error response, logged, MGMT_DENIED (R28) -/
  | denied (lease : Nat)
  /-- error response at once: the window of an isolated die (R27), or no register and no HBM there (R25) -/
  | error
  deriving DecidableEq, Repr

/-- Registers a debug-port write reaches whatever the OWNER (R429): the bridle's, and the authentication registers. -/
def isBridleReg (a : Nat) : Bool :=
  decide (a = DBG_BR_RAISE ∨ a = DBG_BR_STATE ∨ (0xF00C000700 ≤ a ∧ a < 0xF00C000E00))

def isAuthReg (a : Nat) : Bool :=
  decide (a = DBG_AUTH_CMD ∨ (0xF00C000100 ≤ a ∧ a < 0xF00C0001C0))

/-- The access check of a register write: R27, R28, R396 and, for the debug port, R429. -/
def State.gate (s : State) (m : Master) (a : Nat) : Gate :=
  match m with
  | .tenant l _ => .denied l
  | _ =>
    match ownerFld a with
    | none => .error
    | some F =>
      if decide (0xF010000000 ≤ a) && dieIsolated s ((a - 0xF010000000) / 0x1000000) then .error
      else if m = .debug then
        let lvl := s.f DBG_STATUS_LEVEL
        if isAuthReg a && decide (1 ≤ lvl) then .pass
        else if lvl < 2 then .drop .mgmtDenied
        else if isBridleReg a then .pass
        else if s.f F = 3 then .pass else .drop .notOwner
      else if s.f F = m.num then .pass
      else .drop .notOwner

/-- The region or engine that an event about a master names (R17). -/
def Master.inst : Master → Nat
  | .tenant _ i => i
  | _ => noInst

/-- Answer a refused access (R27, R28, R396). -/
def State.refuse (s : State) (m : Master) (a : Nat) : Gate → State
  | .pass => s
  | .drop c => s.dropWrite m c a
  | .denied l => ((s.logDrop m .mgmtDenied a).raise .MGMT_DENIED true l m.inst).answer .err
  | .error => s.answer .err

/-- A write to the register at `a` on a master's behalf: what it does when the access check lets it through, and the
check's answer otherwise. -/
def State.viaWrite (s : State) (m : Master) (a : Nat) (act : State → State) : State :=
  match s.gate m a with
  | .pass => act (s.answer (.ok 0))
  | g => s.refuse m a g

/-- A QUIET write to a busy block: ignored, FIELD_BUSY set (R11). -/
def State.busy (s : State) (F : Fld) : State := s.setF F 1

end Sys2Proof.Machine
end

