-- ==== Sys2Proof/Machine/Arb.lean ====
section
/-! DEFINITION. The arbiter pattern (07 R179 to R190) and the commands ARB_REQUEST, ARB_BEAT_END, ARB_REQUEST_DROP,
DROGUE_BITE and ARB_UNFENCE. -/

namespace Sys2Proof.Machine

open Reg

/-- Base address of an arbiter's register group (R189). -/
def ArbId.base : ArbId → Nat
  | .noc k o => NOC_ARB_CTRL k o
  | .pc n => DMC_ARB_CTRL n
  | .eng e m => ENG_ARB_CTRL (e / 3) (e % 3) m
  | .readback r => CFG_ARB_RB_CTRL r
  | .capture => CFG_ARB_CAP_CTRL
  | .tether d => CMX_ARB_CTRL d
  | .mirror => MIR_ARB_CTRL

/-- Fields of the group at an arbiter's base: ARB_CTRL, ARB_DROGUE, ARB_STATUS, ARB_COUNT (R189). -/
def ArbId.burstF (a : ArbId) : Fld := ⟨a.base, 16, 16⟩
def ArbId.preemptMaxF (a : ArbId) : Fld := ⟨a.base, 8, 4⟩
def ArbId.idxF (a : ArbId) : Fld := ⟨a.base, 0, 7⟩
def ArbId.ownerF (a : ArbId) : Fld := ⟨a.base + 8, 25, 7⟩
def ArbId.immuneF (a : ArbId) : Fld := ⟨a.base + 8, 24, 1⟩
def ArbId.resumeF (a : ArbId) : Fld := ⟨a.base + 8, 23, 1⟩
def ArbId.spoolF (a : ArbId) : Fld := ⟨a.base + 8, 18, 5⟩
def ArbId.heldF (a : ArbId) : Fld := ⟨a.base + 8, 10, 8⟩
def ArbId.fencedF (a : ArbId) : Fld := ⟨a.base + 8, 0, 7⟩
def ArbId.preemptsF (a : ArbId) : Fld := ⟨a.base + 12, 16, 16⟩
def ArbId.immuneGrantsF (a : ArbId) : Fld := ⟨a.base + 12, 8, 8⟩
def ArbId.bitesF (a : ArbId) : Fld := ⟨a.base + 12, 0, 8⟩

/-- The arbiter's record. -/
def State.arb (s : State) (a : ArbId) : Arb := SMap.get (fun _ => Arb.empty) s.arbs a.base

/-- Store the arbiter's record and show it in ARB_STATUS (R189). -/
def State.setArb (s : State) (a : ArbId) (b : Arb) : State :=
  { s with arbs := SMap.put (fun _ => Arb.empty) s.arbs a.base b }.setFs
    [(a.ownerF, match b.owner with | some o => o.idx | none => 0x7F), (a.immuneF, b2n b.immune),
     (a.resumeF, b2n (!b.resume.isEmpty)), (a.spoolF, b.spool.length), (a.heldF, min b.held.length 255),
     (a.fencedF, b.fenced.length)]

/-- BURST_LIM in force; 0 behaves as 1. -/
def State.burstLim (s : State) (a : ArbId) : Nat := max 1 (s.eff a.burstF)

/-- PREEMPT_MAX; 0 behaves as 1. -/
def State.preemptMax (s : State) (a : ArbId) : Nat := max 1 (s.eff a.preemptMaxF)

/-- The slot entry of output `o` of router `k` for the current cycle of set `set` names input `p` (R166, R167). -/
def State.slotNames (s : State) (set k o p : Nat) : Bool :=
  let j := s.nocTime % 32
  decide (s.eff (NOC_SLOT_VALID k set o j) = 1 ∧ s.eff (NOC_SLOT_IN_PORT k set o j) = p)

/-- The class of a request, higher first (the classes of R179; for a NoC output the order of R162). -/
def State.arbClass (s : State) (a : ArbId) (q : ArbReq) : Nat :=
  match a with
  | .noc k o =>
    match q.idx % 4 with
    | 2 => if s.slotNames q.rset k o (q.idx / 4) then 4 else 1
    | 3 => 3
    | 1 => 2
    | _ => 0
  | .pc _ => q.urg
  | .eng _ _ => q.idx
  | .readback _ => if q.idx = 8 then 1 else 0
  | .capture => q.idx
  | .tether _ => q.idx
  | .mirror => 3 - q.idx

/-- Move held requests into free spool entries, longest held first (R185). A request's age counts from there (R181). -/
def Arb.refill : Nat → Arb → Arb
  | 0, b => b
  | n + 1, b =>
    if b.spool.length < 16 then
      match b.held with
      | [] => b
      | h :: t => Arb.refill n { b with spool := b.spool ++ [{ h with age := b.age }], held := t, age := b.age + 1 }
    else b

/-- The oldest spool entry of the highest class (R181). -/
def State.bestSpool (s : State) (a : ArbId) : List ArbReq → Option ArbReq
  | [] => none
  | q :: t =>
    match s.bestSpool a t with
    | none => some q
    | some r => if s.arbClass a q ≥ s.arbClass a r then some q else some r

/-- Entries passed over by a grant to `g` (R184). DEDUCED, log entry 77: where `g` was raised during an immune grant, that grant
counts as a pass of its own (R190). -/
def State.passOver (s : State) (a : ArbId) (g : ArbReq) (l : List ArbReq) : List ArbReq :=
  l.map fun q =>
    if s.arbClass a q < s.arbClass a g ∧ q.age < g.age then { q with passed := q.passed + (if g.imm then 2 else 1) } else q

def Arb.streakOf (b : Arb) (i : Nat) : Nat := nget b.streak i
def Arb.setStreak (b : Arb) (i v : Nat) : Arb := { b with streak := nput b.streak i v }

/-- The spool entry that a free resource goes to: the oldest promoted one, whose grant is immune, or else the oldest of the
highest class (R181, R184). -/
def State.arbPick (s : State) (a : ArbId) : Option (ArbReq × Bool) :=
  match (s.arb a).spool.find? (fun q => decide (q.passed ≥ s.preemptMax a)) with
  | some q => some (q, true)
  | none => (s.bestSpool a (s.arb a).spool).map fun q => (q, false)

/-- Spool entry `q` becomes the owner; an immune grant is counted. -/
def State.arbTake (s : State) (a : ArbId) (q : ArbReq) (imm : Bool) : State :=
  let b := s.arb a
  let b := { b with owner := some q, immune := imm, beats := 0, dropped := false, spool := s.passOver a q (b.spool.erase q),
                    burst := s.burstLim a }
  (if imm then s.count a.immuneGrantsF 1 else s).setArb a (Arb.refill 1 b)

/-- The owner that was preempted last resumes: with its count of beats, or immune after PREEMPT_MAX preemptions (R182, R183). -/
def State.arbResume (s : State) (a : ArbId) (q : ArbReq) (n : Nat) (t : List (ArbReq × Nat)) : State :=
  let b := s.arb a
  let imm := decide (b.streakOf q.idx ≥ s.preemptMax a)
  let b := { b with owner := some q, resume := t, immune := imm, beats := if imm then 0 else n, dropped := false,
                    spool := s.passOver a q b.spool, burst := s.burstLim a }
  (if imm then s.count a.immuneGrantsF 1 else s).setArb a (if imm then b.setStreak q.idx 0 else b)

/-- Grant the resource if it is free (R181). -/
def State.arbGrant (s : State) (a : ArbId) : State :=
  match (s.arb a).owner, (s.arb a).resume with
  | some _, _ => s
  | none, (q, n) :: t => s.arbResume a q n t
  | none, [] =>
    match s.arbPick a with
    | some (q, imm) => s.arbTake a q imm
    | none => s.setArb a { s.arb a with immune := false, beats := 0 }

/-- A request enters the spool, or is held while the spool is full (R185); a fenced requester is answered FENCED (R187). -/
def State.arbEnter (s : State) (a : ArbId) (x : ArbAsk) : State :=
  let b := s.arb a
  if b.fenced.contains x.idx then s.answer (.ok stFenced)
  else
    let q : ArbReq := ⟨x.idx, x.urg, b.age, 0, x.lease, x.rset, b.immune⟩
    s.setArb a (if b.spool.length < 16 ∧ b.held.isEmpty then { b with spool := b.spool ++ [q], age := b.age + 1 }
      else { b with held := b.held ++ [q] })

/-- Requests of one cycle in increasing index: the lower counts as older (R181). -/
def askInsert (x : ArbAsk) : List ArbAsk → List ArbAsk
  | [] => [x]
  | y :: t => if x.idx < y.idx then x :: y :: t else y :: askInsert x t

/-- The requests `l` are raised in one cycle, and take part in arbitration from the next (R181). -/
def State.arbRequest (s : State) (a : ArbId) (l : List ArbAsk) : State :=
  ((l.foldr askInsert []).foldl (fun t x => t.arbEnter a x) s).arbGrant a

/-- Requester `x.idx` owns the resource. -/
def State.arbOwns (s : State) (a : ArbId) (idx : Nat) : Bool := (s.arb a).owner.any fun o => o.idx = idx

/-- Requester `idx` has no new request to raise: one of it stands, or it is fenced (R187). -/
def State.arbStands (s : State) (a : ArbId) (idx : Nat) : Bool :=
  let b := s.arb a
  s.arbOwns a idx || b.fenced.contains idx || (b.spool ++ b.held ++ b.resume.map (·.1)).any fun q => q.idx = idx

/-- A unit of the block raises its request unless it stands already or the unit is fenced. -/
def State.arbAsk (s : State) (a : ArbId) (x : ArbAsk) : State := if s.arbStands a x.idx then s else s.arbRequest a [x]

/-- The grant at a NoC output is one packet: it ends with the tail (R162, R179). -/
def ArbId.perPacket : ArbId → Bool
  | .noc _ _ => true
  | _ => false

/-- The probe of router k counts `n` events of code `c` that no packet makes, seen at port `p`: `dir` 0 its input side, 1 its output
side, 2 either (R178). DEDUCED, log entry 78: the filters choose packets, so such an event counts whatever they hold. -/
def State.probeEvent (s : State) (k p dir c n : Nat) : State :=
  if n = 0 ∨ s.eff (NOC_PRB_CTRL_PORT k) ≠ p ∨ (dir ≠ 2 ∧ s.eff (NOC_PRB_CTRL_DIR k) ≠ dir) then s
  else (List.range 4).foldl (fun t i =>
    if s.eff (NOC_PRB_CTRL_EV k) / 2 ^ (4 * i) % 16 = c then t.count (NOC_PRB_CNT_COUNT k i) n else t) s

/-- A preemption is counted by the arbiter and by a probe that watches the output (R182, R189, R178). -/
def State.arbPreempted (s : State) (a : ArbId) : State :=
  let s := s.count a.preemptsF 1
  match a with
  | .noc k o => s.probeEvent k o 1 5 1
  | _ => s

/-- A beat of the owner completes (R180, R182): the grant ends, is preempted, or goes on; then the next owner is granted. `more`
says that the owner's request stays raised (at a NoC output: that the flit was not the packet's tail). DEDUCED, log entry 79: a
request still raised when its grant ends enters the spool anew; the owner just preempted stands behind every waiting request. -/
def State.arbBeat (s : State) (a : ArbId) (more : Bool) : State :=
  let b := s.arb a
  match b.owner with
  | none => s.arbGrant a
  | some o =>
    let n := b.beats + 1
    let stays := more && !b.dropped
    if !stays || (!a.perPacket && decide (n ≥ b.burst)) then
      let s := s.setArb a ({ b with owner := none, immune := false, beats := 0, dropped := false }.setStreak o.idx 0)
      (if stays then s.arbEnter a ⟨o.idx, o.urg, o.lease, o.rset⟩ else s).arbGrant a
    else if !b.immune && b.spool.any fun q => decide (s.arbClass a q > s.arbClass a o) then
      let s := (s.setArb a ({ b with owner := none, resume := (o, n) :: b.resume, beats := 0 }.setStreak o.idx
        (b.streakOf o.idx + 1))).arbPreempted a
      match s.arbPick a with
      | some (q, imm) => s.arbTake a q imm
      | none => s
    else s.setArb a { b with beats := n }

/-- Take away the grant and every entry of the requesters that `f` names. -/
def Arb.remove (b : Arb) (f : Nat → Bool) : Arb :=
  let mine := b.owner.any fun o => f o.idx
  { b with
    owner := if mine then none else b.owner
    immune := b.immune && !mine
    beats := if mine then 0 else b.beats
    dropped := b.dropped && !mine
    resume := b.resume.filter fun p => !f p.1.idx
    spool := b.spool.filter fun p => !f p.idx
    held := b.held.filter fun p => !f p.idx
    streak := b.streak.filter fun e => !f e.1 }

/-- The side of the requesters that `f` names is reset, powered down or isolated: their grants end, and their entries go without
responses (R190). -/
def State.arbRemove (s : State) (a : ArbId) (f : Nat → Bool) : State :=
  (s.setArb a (Arb.refill 16 ((s.arb a).remove f))).arbGrant a

/-- An owner, or a preempted owner, drops its request (R180, R190). `beat` says that a beat of the owner is in progress: it
completes, and the grant ends at its end. -/
def State.arbDrop (s : State) (a : ArbId) (idx : Nat) (beat : Bool) : State :=
  if beat ∧ (s.arb a).owner.any (fun o => o.idx = idx) then s.setArb a { s.arb a with dropped := true }
  else s.arbRemove a fun i => i = idx

/-- Remove every entry of requester `idx` and end its grant: a fence (R187). -/
def Arb.fence (b : Arb) (idx : Nat) : Arb :=
  let b := Arb.refill 16 (b.remove fun i => i = idx)
  { b with fenced := if b.fenced.contains idx then b.fenced else b.fenced ++ [idx] }

/-- INST of ARB_FENCED: the instance the arbiter belongs to (R402). -/
def ArbId.inst : ArbId → Nat
  | .noc k _ => k
  | .pc n => n
  | .eng e _ => e
  | .readback r => r
  | .tether d => d
  | _ => noInst

/-- A port of the network takes STATE `v`. A unit that leaves LIVE while a set is checked is remembered (R177). -/
def State.portState (s : State) (k p v : Nat) : State :=
  let was := s.f (NOC_PORT_STATUS_STATE k p)
  let s := s.setF (NOC_PORT_STATUS_STATE k p) v
  if s.bit NOC_STATUS_CHECKING ∧ was = 1 ∧ v ≠ 1 then { s with noc := { s.noc with left := (k, p) :: s.noc.left } } else s

/-- The port fence of R163: STATE FENCED, counted by a probe that watches the port, NAP_FENCED for the lease behind it. -/
def State.fencePort (s : State) (k p lease : Nat) : State :=
  let inst := if p < 4 then k else match unitAt k (p - 4) with
    | .fabricNap r _ => r
    | .engine e => e
    | _ => k
  ((s.portState k p 4).probeEvent k p 2 7 1).raise .NAP_FENCED true lease inst

/-- Whether CREDIT_LIM and the port fence of R163 apply: a fabric, engine or tenant quad NAP. -/
def isTenantPort (k p : Nat) : Bool :=
  if p < 4 then false
  else match unitAt k (p - 4) with
    | .fabricNap _ _ => true
    | .engine _ => true
    | .quad _ => true
    | _ => false

/-- The lease behind a tenant port (R159, R195, R304). -/
def State.portLease (s : State) (k p : Nat) : Nat :=
  match unitAt k (p - 4) with
  | .fabricNap r _ => s.f (HUB_RGN_STATE_LEASE r)
  | .engine e => s.f (HUB_RGN_STATE_LEASE (e / 3))
  | .quad q => s.f (LNE_Q_CFG_LEASE q)
  | _ => 0

/-- ARB_CTRL.UNFENCE releases requester IDX (R188); at a NoC port it has no effect. -/
def State.unfence (s : State) (a : ArbId) (idx : Nat) : State :=
  match a with
  | .noc _ _ => s
  | _ =>
    let b := s.arb a
    s.setArb a { b with fenced := b.fenced.filter (· ≠ idx % 128) }

def execArbUnfence (m : Master) (a : ArbId) (idx : Nat) (s : State) : Host.Outcome State Fault Refusal :=
  .next (s.viaWrite m a.base fun s => (s.setF a.idxF idx).unfence a idx)

end Sys2Proof.Machine
end

