-- ==== Sys2Proof/Machine/Crypto.lean ====
section
/-! DEFINITION. The cryptographic functions that the spec names by their standards: AES-256 (FIPS 197), XTS (IEEE 1619,
11 R287), GCM (NIST SP 800-38D, 03 R83, 04 R122, 11 R288, 13 R338), SHA-384 (FIPS 180-4) and ECDSA on P-384 (FIPS 186,
03 R82), and the CRC-32 of IEEE 802.3. Bytes are natural numbers below 256 inside this file. -/

namespace Sys2Proof.Machine.Crypto

/-! ## AES-256 -/

def xtime (b : Nat) : Nat := if 128 ≤ b then (2 * b) ^^^ 0x11B else 2 * b

/-- Multiplication in GF(2^8), over the low `n` bits of `a`. -/
def gmul : Nat → Nat → Nat → Nat
  | 0, _, _ => 0
  | n + 1, a, b => (if a % 2 = 1 then b else 0) ^^^ gmul n (a / 2) (xtime b)

def mul8 (a b : Nat) : Nat := gmul 8 a b

def pow8 (a : Nat) : Nat → Nat
  | 0 => 1
  | n + 1 => mul8 a (pow8 a n)

def rotl8 (b k : Nat) : Nat := (b * 2 ^ k + b / 2 ^ (8 - k)) % 256

def sboxOf (b : Nat) : Nat :=
  let s := mul8 b b; let s2 := mul8 s s; let s4 := mul8 s2 s2; let s8 := mul8 s4 s4
  let s16 := mul8 s8 s8; let s32 := mul8 s16 s16; let s64 := mul8 s32 s32
  let i := mul8 s (mul8 s2 (mul8 s4 (mul8 s8 (mul8 s16 (mul8 s32 s64)))))
  i ^^^ rotl8 i 1 ^^^ rotl8 i 2 ^^^ rotl8 i 3 ^^^ rotl8 i 4 ^^^ 0x63

def sboxTab : List Nat := (List.range 256).map sboxOf
def sbox (b : Nat) : Nat := (sboxTab[b]?).getD 0
def invSbox (b : Nat) : Nat := (sboxTab.findIdx? (· = b)).getD 0

def xorL : List Nat → List Nat → List Nat
  | a :: s, b :: t => (a ^^^ b) :: xorL s t
  | _, _ => []

/-- Key expansion: words of 4 bytes, newest first. -/
def expand : Nat → Nat → List (List Nat) → List (List Nat)
  | 0, _, ws => ws
  | n + 1, i, ws =>
    let t := ws.headD []
    let t' :=
      if i % 8 = 0 then xorL ((t.drop 1 ++ t.take 1).map sbox) [pow8 2 (i / 8 - 1), 0, 0, 0]
      else if i % 8 = 4 then t.map sbox else t
    expand n (i + 1) (xorL (ws.getD 7 []) t' :: ws)

def chunks (k : Nat) : Nat → List Nat → List (List Nat)
  | 0, _ => []
  | n + 1, l => l.take k :: chunks k n (l.drop k)

/-- The 15 round keys of a 32-byte key. -/
def roundKeys (key : List Nat) : List (List Nat) :=
  let ws := (expand 52 8 (chunks 4 8 key).reverse).reverse
  (List.range 15).map fun r => ((ws.drop (4 * r)).take 4).flatten

def shiftRows (s : List Nat) : List Nat := (List.range 16).map fun i => s.getD ((i + 4 * (i % 4)) % 16) 0
def invShiftRows (s : List Nat) : List Nat := (List.range 16).map fun i => s.getD ((i + 16 - 4 * (i % 4)) % 16) 0

def mixCol (a b c d : Nat) (s : List Nat) : List Nat :=
  (List.range 16).map fun i =>
    let k := i / 4 * 4
    let g := fun (j : Nat) => s.getD (k + (i + j) % 4) 0
    mul8 a (g 0) ^^^ mul8 b (g 1) ^^^ mul8 c (g 2) ^^^ mul8 d (g 3)

/-- AES-256 encryption of a 16-byte block under round keys. -/
def encRounds (rk : List (List Nat)) : Nat → List Nat → List Nat
  | 0, s => xorL (shiftRows (s.map sbox)) (rk.getD 14 [])
  | n + 1, s => encRounds rk n (xorL (mixCol 2 3 1 1 (shiftRows (s.map sbox))) (rk.getD (13 - n) []))

def aesEnc (key blk : List Nat) : List Nat :=
  let rk := roundKeys key
  encRounds rk 13 (xorL blk (rk.getD 0 []))

def decRounds (rk : List (List Nat)) : Nat → List Nat → List Nat
  | 0, s => xorL (invShiftRows (s.map invSbox)) (rk.getD 0 [])
  | n + 1, s => decRounds rk n (mixCol 14 11 13 9 (xorL ((invShiftRows s).map invSbox) (rk.getD (n + 1) [])))

def aesDec (key blk : List Nat) : List Nat :=
  let rk := roundKeys key
  decRounds rk 13 (xorL blk (rk.getD 14 []))

/-! ## Number forms -/

def beNat (l : List Nat) : Nat := l.foldl (fun a b => a * 256 + b) 0
def leNum : List Nat → Nat
  | [] => 0
  | b :: t => b + 256 * leNum t
def beBytes : Nat → Nat → List Nat
  | 0, _ => []
  | n + 1, v => v / 256 ^ n % 256 :: beBytes n v
def leBytesN : Nat → Nat → List Nat
  | 0, _ => []
  | n + 1, v => v % 256 :: leBytesN n (v / 256)

/-! ## XTS (IEEE 1619) -/

/-- Multiply a tweak by alpha, j times; the tweak is a little-endian number. -/
def xtsTweak : Nat → Nat → Nat
  | 0, t => t
  | j + 1, t => xtsTweak j (let u := 2 * t; if 2 ^ 128 ≤ u then (u - 2 ^ 128) ^^^ 0x87 else u)

/-- Encrypt block j of the data unit `lbn` under key 1 and key 2 (R287). -/
def xtsEncBlock (k1 k2 : List Nat) (lbn j : Nat) (blk : List Nat) : List Nat :=
  let t := leBytesN 16 (xtsTweak j (leNum (aesEnc k2 (leBytesN 16 lbn))))
  xorL (aesEnc k1 (xorL blk t)) t

def xtsDecBlock (k1 k2 : List Nat) (lbn j : Nat) (blk : List Nat) : List Nat :=
  let t := leBytesN 16 (xtsTweak j (leNum (aesEnc k2 (leBytesN 16 lbn))))
  xorL (aesDec k1 (xorL blk t)) t

/-! ## GCM -/

/-- Multiplication in GF(2^128) in GCM's bit order, over `n` bits of x from the top. -/
def gf128 : Nat → Nat → Nat → Nat
  | 0, _, _ => 0
  | n + 1, x, v =>
    (if x / 2 ^ n % 2 = 1 then v else 0)
      ^^^ gf128 n x (if v % 2 = 1 then (v / 2) ^^^ (0xE1 * 2 ^ 120) else v / 2)

/-- GHASH of a padded sequence of 16-byte blocks. -/
def ghash (h : Nat) (blocks : List (List Nat)) : Nat := blocks.foldl (fun y b => gf128 128 (y ^^^ beNat b) h) 0

/-- 16-byte blocks, the last padded with zeros. -/
def blocks16 (l : List Nat) : List (List Nat) :=
  (chunks 16 ((l.length + 15) / 16) l).map fun b => b ++ List.replicate (16 - b.length) 0

/-- Counter-mode keystream over a text from counter value c. -/
def ctr (key iv : List Nat) (c : Nat) (text : List Nat) : List Nat :=
  ((chunks 16 ((text.length + 15) / 16) text).mapIdx fun i b => xorL b (aesEnc key (iv ++ beBytes 4 (c + i)))).flatten

/-- The 16-byte GCM tag of a ciphertext and additional data under a 12-byte IV. -/
def gcmTag (key iv aad ct : List Nat) : List Nat :=
  let h := beNat (aesEnc key (List.replicate 16 0))
  let s := ghash h (blocks16 aad ++ blocks16 ct ++ [beBytes 8 (8 * aad.length) ++ beBytes 8 (8 * ct.length)])
  xorL (beBytes 16 s) (aesEnc key (iv ++ [0, 0, 0, 1]))

/-- GCM encryption: ciphertext and tag. -/
def gcmSeal (key iv aad pt : List Nat) : List Nat × List Nat :=
  let ct := ctr key iv 2 pt
  (ct, gcmTag key iv aad ct)

/-! ## SHA-384 -/

def sha384Init : List Nat :=
  [0xCBBB9D5DC1059ED8, 0x629A292A367CD507, 0x9159015A3070DD17, 0x152FECD8F70E5939, 0x67332667FFC00B31, 0x8EB44A8768581511, 0xDB0C2E0D64F98FA7, 0x47B5481DBEFA4FA4]

def sha512K : List Nat :=
  [0x428A2F98D728AE22, 0x7137449123EF65CD, 0xB5C0FBCFEC4D3B2F, 0xE9B5DBA58189DBBC]
  ++ [0x3956C25BF348B538, 0x59F111F1B605D019, 0x923F82A4AF194F9B, 0xAB1C5ED5DA6D8118]
  ++ [0xD807AA98A3030242, 0x12835B0145706FBE, 0x243185BE4EE4B28C, 0x550C7DC3D5FFB4E2]
  ++ [0x72BE5D74F27B896F, 0x80DEB1FE3B1696B1, 0x9BDC06A725C71235, 0xC19BF174CF692694]
  ++ [0xE49B69C19EF14AD2, 0xEFBE4786384F25E3, 0xFC19DC68B8CD5B5, 0x240CA1CC77AC9C65]
  ++ [0x2DE92C6F592B0275, 0x4A7484AA6EA6E483, 0x5CB0A9DCBD41FBD4, 0x76F988DA831153B5]
  ++ [0x983E5152EE66DFAB, 0xA831C66D2DB43210, 0xB00327C898FB213F, 0xBF597FC7BEEF0EE4]
  ++ [0xC6E00BF33DA88FC2, 0xD5A79147930AA725, 0x6CA6351E003826F, 0x142929670A0E6E70]
  ++ [0x27B70A8546D22FFC, 0x2E1B21385C26C926, 0x4D2C6DFC5AC42AED, 0x53380D139D95B3DF]
  ++ [0x650A73548BAF63DE, 0x766A0ABB3C77B2A8, 0x81C2C92E47EDAEE6, 0x92722C851482353B]
  ++ [0xA2BFE8A14CF10364, 0xA81A664BBC423001, 0xC24B8B70D0F89791, 0xC76C51A30654BE30]
  ++ [0xD192E819D6EF5218, 0xD69906245565A910, 0xF40E35855771202A, 0x106AA07032BBD1B8]
  ++ [0x19A4C116B8D2D0C8, 0x1E376C085141AB53, 0x2748774CDF8EEB99, 0x34B0BCB5E19B48A8]
  ++ [0x391C0CB3C5C95A63, 0x4ED8AA4AE3418ACB, 0x5B9CCA4F7763E373, 0x682E6FF3D6B2B8A3]
  ++ [0x748F82EE5DEFB2FC, 0x78A5636F43172F60, 0x84C87814A1F0AB72, 0x8CC702081A6439EC]
  ++ [0x90BEFFFA23631E28, 0xA4506CEBDE82BDE9, 0xBEF9A3F7B2C67915, 0xC67178F2E372532B]
  ++ [0xCA273ECEEA26619C, 0xD186B8C721C0C207, 0xEADA7DD6CDE0EB1E, 0xF57D4F7FEE6ED178]
  ++ [0x6F067AA72176FBA, 0xA637DC5A2C898A6, 0x113F9804BEF90DAE, 0x1B710B35131C471B]
  ++ [0x28DB77F523047D84, 0x32CAAB7B40C72493, 0x3C9EBE0A15C9BEBC, 0x431D67C49C100D4C]
  ++ [0x4CC5D4BECB3E42B6, 0x597F299CFC657E2A, 0x5FCB6FAB3AD6FAEC, 0x6C44198C4A475817]

def rotr64 (x k : Nat) : Nat := x / 2 ^ k + x % 2 ^ k * 2 ^ (64 - k)

/-- Message schedule, newest first. -/
def shaSched : Nat → List Nat → List Nat
  | 0, w => w
  | n + 1, w =>
    let a := w.getD 1 0; let b := w.getD 14 0
    let s1 := rotr64 a 19 ^^^ rotr64 a 61 ^^^ (a / 2 ^ 6)
    let s0 := rotr64 b 1 ^^^ rotr64 b 8 ^^^ (b / 2 ^ 7)
    shaSched n ((s1 + w.getD 6 0 + s0 + w.getD 15 0) % 2 ^ 64 :: w)

def shaRound (st : List Nat) (kw : Nat) : List Nat :=
  match st with
  | [a, b, c, d, e, f, g, h] =>
    let t1 := h + (rotr64 e 14 ^^^ rotr64 e 18 ^^^ rotr64 e 41) + ((e &&& f) ^^^ ((2 ^ 64 - 1 - e) &&& g)) + kw
    let t2 := (rotr64 a 28 ^^^ rotr64 a 34 ^^^ rotr64 a 39) + ((a &&& b) ^^^ (a &&& c) ^^^ (b &&& c))
    [(t1 + t2) % 2 ^ 64, a, b, c, (d + t1) % 2 ^ 64, e, f, g]
  | _ => st

def addL : List Nat → List Nat → List Nat
  | a :: s, b :: t => (a + b) % 2 ^ 64 :: addL s t
  | _, _ => []

def shaBlock (st blk : List Nat) : List Nat :=
  let w := (shaSched 64 ((chunks 8 16 blk).map beNat).reverse).reverse
  addL st ((w.zip sha512K).foldl (fun s x => shaRound s (x.1 + x.2)) st)

def sha384 (m : List Nat) : List Nat :=
  let z := (128 + 111 - m.length % 128) % 128
  let p := m ++ [0x80] ++ List.replicate z 0 ++ beBytes 16 (8 * m.length)
  (((chunks 128 (p.length / 128) p).foldl shaBlock sha384Init).take 6).flatMap (beBytes 8)

/-! ## ECDSA on P-384 -/

def p384p : Nat := 2 ^ 384 - 2 ^ 128 - 2 ^ 96 + 2 ^ 32 - 1
def p384n : Nat := 0xFFFFFFFFFFFFFFFFFFFFFFFFFFFFFFFFFFFFFFFFFFFFFFFFC7634D81F4372DDF581A0DB248B0A77AECEC196ACCC52973
def p384b : Nat := 0xB3312FA7E23EE7E4988E056BE3F82D19181D9C6EFE8141120314088F5013875AC656398D8A2ED19D2A85C8EDD3EC2AEF
def p384g : Nat × Nat :=
  (0xAA87CA22BE8B05378EB1C71EF320AD746E1D3B628BA79B9859F741E082542A385502F25DBF55296C3A545E3872760AB7,
   0x3617DE4A96262C6F5D9E98BF9292DC29F8F41DBD289A147CE9DA3113B5F0B8C00A60B1CE1D7E819D7A431D7C90EA0E5F)

/-- a^e mod m over `n` bits of e from the top. -/
def powMod (m a e : Nat) : Nat → Nat
  | 0 => 1 % m
  | n + 1 =>
    let r := powMod m a (e / 2) n
    let r2 := r * r % m
    if e % 2 = 1 then r2 * a % m else r2

/-- Inverse modulo a prime. -/
def invMod (m a : Nat) : Nat := powMod m a (m - 2) 384

def subMod (m a b : Nat) : Nat := (a + m - b % m) % m

/-- Addition of points of P-384; none is the point at infinity. -/
def ecAdd : Option (Nat × Nat) → Option (Nat × Nat) → Option (Nat × Nat)
  | none, q => q
  | p, none => p
  | some (x1, y1), some (x2, y2) =>
    let m := p384p
    if x1 = x2 ∧ (y1 + y2) % m = 0 then none
    else
      let l := if x1 = x2 then (3 * x1 * x1 + m - 3) * invMod m (2 * y1) % m
        else subMod m y2 y1 * invMod m (subMod m x2 x1) % m
      let x3 := subMod m (l * l) (x1 + x2)
      some (x3, subMod m (l * subMod m x1 x3) y1)

/-- k·P over `n` bits of k from the top. -/
def ecMul (P : Option (Nat × Nat)) (k : Nat) : Nat → Option (Nat × Nat)
  | 0 => none
  | n + 1 =>
    let r := ecMul P (k / 2) n
    let r2 := ecAdd r r
    if k % 2 = 1 then ecAdd r2 P else r2

def onCurve (q : Nat × Nat) : Bool :=
  decide (q.1 < p384p ∧ q.2 < p384p ∧ q.2 * q.2 % p384p = (q.1 * q.1 * q.1 + (p384p - 3) * q.1 + p384b) % p384p)

/-- ECDSA verification of a SHA-384 digest: public key X || Y and signature r || s, 48 bytes each, big-endian. -/
def ecdsaVerify (pub digest sig : List Nat) : Bool :=
  let q := (beNat (pub.take 48), beNat ((pub.drop 48).take 48))
  let r := beNat (sig.take 48)
  let s := beNat ((sig.drop 48).take 48)
  let n := p384n
  if r = 0 ∨ n ≤ r ∨ s = 0 ∨ n ≤ s ∨ !onCurve q then false
  else
    let z := beNat digest
    let w := powMod n s (n - 2) 384
    match ecAdd (ecMul (some p384g) (z * w % n) 384) (ecMul (some q) (r * w % n) 384) with
    | none => false
    | some (x, _) => decide (x % n = r)

/-! ## CRC-32 -/

/-- `n` shifts of the reflected IEEE 802.3 polynomial. -/
def crcBits : Nat → Nat → Nat
  | 0, c => c
  | n + 1, c => crcBits n (if c % 2 = 1 then (c / 2) ^^^ 0xEDB88320 else c / 2)

/-- CRC-32 of IEEE 802.3: initial value and final inversion all ones, reflected. -/
def crc32 (l : List Nat) : Nat := (l.foldl (fun c b => crcBits 8 (c ^^^ b)) 0xFFFFFFFF) ^^^ 0xFFFFFFFF

/-- Bytes of the model as numbers, and back. -/
def nums (l : List Byte) : List Nat := l.map BitVec.toNat
def bytesOf (l : List Nat) : List Byte := l.map (BitVec.ofNat 8)

end Sys2Proof.Machine.Crypto
end

