-- ==== Sys2Proof/Machine/Flit.lean ====
section
/-! DEFINITION. Flits: the header, the byte enables, the sideband and its CRC (06 R156, R157). -/

namespace Sys2Proof.Machine

/-- A flit: 1,024 data bits and the 40-bit sideband (R156). -/
structure Flit where
  data : Nat
  side : Nat
  deriving DecidableEq, Repr

/-- The header of a packet, bits [127:0] of its head flit (R157). -/
def Packet.header (p : Packet) : Nat :=
  b2n p.kv * 2 ^ 102 + p.key % 64 * 2 ^ 96 + p.status % 8 * 2 ^ 91 + p.page % 4 * 2 ^ 89 + p.bcnt % 512 * 2 ^ 80
    + p.addr % 2 ^ 40 * 2 ^ 40 + p.lease % 256 * 2 ^ 32 + p.tag % 256 * 2 ^ 24 + p.opc % 16 * 2 ^ 20
    + p.src % 1024 * 2 ^ 10 + p.dst % 1024

/-- Byte enables of a WRITE: one per payload byte, payload byte 0 at bit 128 (R157). -/
def Packet.enables (p : Packet) : Nat :=
  if p.opc = opcWrite then
    (List.range (p.bcnt % 512 + 1)).foldr (fun i v => 2 * v + b2n ((p.be[i]?).getD true)) 0
  else 0

/-- The data flits that BCNT names (R158): none for a READ and for a response without data. -/
def Packet.dataFlits (p : Packet) : Nat :=
  if p.opc = opcRead ∨ p.opc = opcWriteRsp ∨ (p.opc = opcReadRsp ∧ p.status ≠ stOk) then 0 else (p.bcnt + 128) / 128

/-- The packet is longer than the payload that BCNT names: the receiver ends it as if it carried an EM tail (R157). -/
def Packet.tooLong (p : Packet) : Bool := decide (128 * p.dataFlits < p.data.length)

/-- EM as the receiver sees it (R157, R160). -/
def Packet.ended (p : Packet) : Bool := p.em || p.tooLong

/-- CRC of the sideband over the data bits and sideband bits [7:0] (R156). DEDUCED, log entry 80: byte 0 is bits [7:0] of the data,
the sideband's byte comes last. -/
def flitCrc (data low : Nat) : Nat :=
  Crypto.crc32 ((List.range 128).map (fun i => data / 2 ^ (8 * i) % 256) ++ [low % 256])

/-- A flit with its sideband: `kind` 0 body, 1 head, 2 tail, 3 head and tail (R156). -/
def mkFlit (data kind vc rset : Nat) (em : Bool) : Flit :=
  let low := rset % 2 * 32 + b2n em * 16 + kind % 4 * 4 + vc % 4
  ⟨data % 2 ^ 1024, flitCrc (data % 2 ^ 1024) low * 2 ^ 8 + low⟩

/-- The flits of a packet: a head flit and up to 4 data flits (R156, R157). -/
def Packet.toFlits (p : Packet) : List Flit :=
  let n := (p.data.length + 127) / 128
  let head := p.header + p.enables * 2 ^ 128
  mkFlit head (if n = 0 then 3 else 1) p.vc p.rset (p.em && decide (n = 0)) ::
    (List.range n).map fun i =>
      mkFlit (leNat ((p.data.drop (128 * i)).take 128)) (if i + 1 = n then 2 else 0) p.vc p.rset (p.em && decide (i + 1 = n))

/-- The receiver's check of a flit (R156). -/
def Flit.ok (f : Flit) : Bool := decide (f.side / 2 ^ 8 % 2 ^ 32 = flitCrc f.data f.side)

/-- A flit as it arrives with the bits of `e` inverted: data in [1023:0], the sideband in [1063:1024]. -/
def Flit.hit (f : Flit) (e : Nat) : Flit := ⟨f.data ^^^ (e % 2 ^ 1024), f.side ^^^ (e / 2 ^ 1024 % 2 ^ 40)⟩

end Sys2Proof.Machine
end

