-- ==== Sys2Proof/Machine/Noc.lean ====
section
/-! DEFINITION. The packet network: address mapping, routes, table sets, port and router states, bridges, probes
(06 R153 to R178), and its commands that need no other block. -/

namespace Sys2Proof.Machine

open Reg

/-! ## HBM mapping (R246) -/

/-- Pseudo-channel and byte address inside it of HBM address `A`, for a value of DMC_GLB_CTRL.MAP (R246). -/
def mapAddr (map A : Nat) : Nat × Nat :=
  if map = 0 then
    let st := A / 0x900000000
    let o := A % 0x900000000
    (32 * st + ((o / 512) ^^^ (o / 16384)) % 32, (o / 16384) * 512 + o % 512)
  else
    (((A / 512) ^^^ (A / 65536)) % 128, (A / 65536) * 512 + A % 512)

/-- The HBM address of byte `P` of pseudo-channel `pc` under a value of DMC_GLB_CTRL.MAP: mapAddr the other way (R246). -/
def unmapAddr (map pc P : Nat) : Nat :=
  let h := P / 512
  if map = 0 then pc / 32 * 0x900000000 + h * 16384 + ((pc % 32) ^^^ (h % 32)) * 512 + P % 512
  else h * 65536 + (pc ^^^ (h % 128)) * 512 + P % 512

/-- Where the data at HBM address `A` under mapping `old` lie under mapping `new` (R248). -/
def remapAddr (old new A : Nat) : Nat := let x := mapAddr old A; unmapAddr new x.1 x.2

/-- The pseudo-channel that serves an HBM address. -/
def State.pcOf (s : State) (A : Nat) : Nat := (mapAddr (s.f DMC_GLB_CTRL_MAP) A).1

/-- The router of a pseudo-channel controller (R155). -/
def pcRouter (n : Nat) : Nat := if n < 64 then (n / 8) * 8 else ((n - 64) / 8) * 8 + 7

/-- The node of a pseudo-channel controller (R155). -/
def pcNode (n : Nat) : Nat := nodeAt (pcRouter n) (5 + n % 8)

/-- The node of memory-encryption engine A (0) or B (1). -/
def encNode (e : Nat) : Nat := nodeAt (if e = 0 then 35 else 36) 6

/-- The node of the debug and trace sink (0x236, R175). -/
def sinkNode : Nat := nodeAt 28 6

/-- The node of engine e's NAP. -/
def engineNode (e : Nat) : Nat := nodeAt (routerOf (e / 3)) (2 + e % 3)

/-- The node of fabric NAP k (0 or 1) of region r. -/
def napNode (r k : Nat) : Nat := nodeAt (routerOf r) k

/-- The node of tenant quad q (12 to 35), by R155. -/
def quadNode (q : Nat) : Nat :=
  let t := if q < 17 then (q - 12, 0, 0) else if q < 22 then (q - 17, 4, 0)
    else if q < 27 then (q - 22, 0, 7) else (q - 27, 4, 7)
  nodeAt (t.2.2 * 8 + t.2.1 + t.1 % 4) (13 + t.1 / 4)

/-- Port index (R153) of a node's local port. -/
def nodePort (node : Nat) : Nat := 4 + node % 16

/-! ## Routes -/

/-- The neighbour of router k through mesh port p. -/
def neighbour (k p : Nat) : Nat :=
  match p with
  | 0 => k - 8 | 1 => k + 1 | 2 => k + 8 | _ => k - 1

/-- The mesh port of the neighbour that faces back. -/
def facing (p : Nat) : Nat := (p + 2) % 4

/-- The routing entry of set `t` at router k for destination router m; codes 6 and 7 behave as NONE (R178). -/
def State.route (s : State) (t k m : Nat) : Nat := min (s.f (NOC_ROUTE_OUT k t m)) 5

/-- How the routing tables lead a packet: over the hops listed (router, input port, output port) to its target, or to router `k`,
entered by port `i`, whose entry is NONE. -/
inductive Way where
  | tgt (hops : List (Nat × Nat × Nat))
  | dead (hops : List (Nat × Nat × Nat)) (k i : Nat)
  deriving DecidableEq, Repr

/-- Follow set `t` from router k (entered by port `i`) to node `dst`, at most `fuel` hops (R164). -/
def State.way (s : State) (t dst : Nat) : Nat → Nat → Nat → Way
  | 0, k, i => .dead [] k i
  | fuel + 1, k, i =>
    let o := s.route t k (nodeRouter dst)
    if o = 4 then .tgt [(k, i, nodePort dst)]
    else if o = 5 ∨ !meshPresent k o then .dead [] k i
    else match s.way t dst fuel (neighbour k o) (facing o) with
      | .tgt l => .tgt ((k, i, o) :: l)
      | .dead l j h => .dead ((k, i, o) :: l) j h

/-- The active table set (R165). -/
def State.activeSet (s : State) : Nat := s.f NOC_STATUS_ACTIVE

/-! ## The set check (R165) -/

/-- A route of set `t` from router k to router m reaches it within 14 hops. -/
def State.routeEnds (s : State) (t m : Nat) : Nat → Nat → Bool
  | 0, _ => false
  | fuel + 1, k =>
    match s.route t k m with
    | 4 => decide (k = m)
    | 5 => true
    | o => meshPresent k o && s.routeEnds t m fuel (neighbour k o)

/-- ROUTE_LOOP: a route does not reach its destination, or a router's own entry is not LOCAL. -/
def State.setLoops (s : State) (t : Nat) : Bool :=
  (List.range 64).any fun k =>
    decide (s.route t k k ≠ 4) || (List.range 64).any fun m => !s.routeEnds t m 15 k

/-- A router is not LIVE, or left LIVE while the set was checked (R177). -/
def State.routerDead (s : State) (k : Nat) : Bool :=
  decide (s.f (NOC_ROUTER_STATUS_STATE k) ≠ 1) || s.noc.left.contains (k, 31)

/-- A port or link that is not LIVE, or left LIVE while the set was checked (R177), or is absent. A mesh link needs both its
routers. -/
def State.portDead (s : State) (k p : Nat) : Bool :=
  decide (20 ≤ p) || decide (s.f (NOC_PORT_STATUS_STATE k p) ≠ 1) || s.noc.left.contains (k, p) || s.routerDead k ||
    (decide (p < 4) && (!meshPresent k p || s.routerDead (neighbour k p)))

/-- ROUTE_DEAD (R165, R178). -/
def State.setDead (s : State) (t : Nat) : Bool :=
  (List.range 64).any fun k =>
    ((List.range 64).any fun m => let o := s.route t k m; decide (o < 4) && s.portDead k o) ||
    ((List.range 20).any fun o => (List.range 32).any fun j =>
      decide (s.f (NOC_SLOT_VALID k t o j) = 1) && (s.portDead k (s.f (NOC_SLOT_IN_PORT k t o j)) || s.portDead k o))

/-- The dependencies between mesh channels (router × 4 + output) that the routes of set `t` make. -/
def State.channelDeps (s : State) (t : Nat) : List (Nat × Nat) :=
  (List.range 64).flatMap fun k => (List.range 64).filterMap fun m =>
    let o := s.route t k m
    if o < 4 ∧ meshPresent k o then
      let k' := neighbour k o
      let o' := s.route t k' m
      if o' < 4 then some (4 * k + o, 4 * k' + o') else none
    else none

/-- Drop every dependency whose head has no further dependency; what is left after enough rounds lies on cycles. -/
def pruneDeps : Nat → List (Nat × Nat) → List (Nat × Nat)
  | 0, l => l
  | n + 1, l => pruneDeps n (l.filter fun e => l.any fun g => g.1 = e.2)

/-- ROUTE_CYCLE: the channel-dependency graph has a cycle. Every VC follows the same routes. -/
def State.setCycles (s : State) (t : Nat) : Bool := !(pruneDeps 256 (s.channelDeps t).eraseDups).isEmpty

/-- The first failure of the writable set: 0 none, 1 ROUTE_CYCLE, 2 ROUTE_LOOP, 3 ROUTE_DEAD (R165). -/
def State.setCheck (s : State) (t : Nat) : Nat :=
  if s.setLoops t then 2 else if s.setDead t then 3 else if s.setCycles t then 1 else 0

/-! ## Probes (R174 to R176) -/

/-- The packet key (R174). -/
def Packet.key64 (p : Packet) : Nat :=
  (p.addr / 4096 % 2 ^ 26) * 2 ^ 38 + b2n p.em * 2 ^ 37 + p.status % 8 * 2 ^ 34 + p.vc % 4 * 2 ^ 32
    + p.lease % 256 * 2 ^ 24 + p.opc % 16 * 2 ^ 20 + p.src % 1024 * 2 ^ 10 + p.dst % 1024

/-- A probe's filter `g` matches a packet (R174). -/
def State.filterHit (s : State) (k g : Nat) (p : Packet) : Bool :=
  let mt := s.eff (NOC_PRB_FLT_VALUE k g 0) + s.eff (NOC_PRB_FLT_VALUE k g 1) * 2 ^ 32
  let mk := s.eff (NOC_PRB_FLT_VALUE k g 2) + s.eff (NOC_PRB_FLT_VALUE k g 3) * 2 ^ 32
  decide (p.key64 &&& mk = mt &&& mk)

def ProbeSt.empty : ProbeSt := ⟨[], 0, none, false⟩

/-- A store of a record source, by trace SOURCE value (R175). -/
def State.probe (s : State) (src : Nat) : ProbeSt := SMap.get (fun _ => ProbeSt.empty) s.noc.probes src

/-- Store it; an engine shows how many records it holds (09 R240). -/
def State.setProbe (s : State) (src : Nat) (p : ProbeSt) : State :=
  let s := { s with noc := { s.noc with probes := SMap.put (fun _ => ProbeSt.empty) s.noc.probes src p } }
  if src / 2 ^ 10 = 1 then
    s.setF (ENG_STIM_STATUS_LEVEL (src % 2 ^ 10 / 3) (src % 2 ^ 10 % 3)) p.recs.length
  else s

/-- Bytes of a trace record (R175). -/
def TraceRec.toBytes (r : TraceRec) : List Byte :=
  leBytes 2 (r.rtype % 16 + r.source % 4096 * 16) ++ leBytes 6 r.time ++ leBytes 8 r.data

/-- The record that bytes spell. -/
def TraceRec.ofBytes (b : List Byte) : TraceRec :=
  let w := leNat (b.take 2)
  ⟨w % 16, w / 16 % 4096, leNat ((b.drop 2).take 6), leNat ((b.drop 8).take 8)⟩

/-- The debug level lets records be made (R426). -/
def State.observes (s : State) : Bool := decide (1 ≤ s.f DBG_STATUS_LEVEL)

/-- Make a record in a store of `cap` records; a full store drops and counts it, and the next record that fits is
preceded by one OVERFLOW record (R176). A probe that holds 32 owes a packet (R175). -/
def State.record (s : State) (src cap : Nat) (r : TraceRec) : State :=
  let p := s.probe src
  let q : ProbeSt := if p.dropped = 0 then
      if p.recs.length < cap then { p with recs := p.recs ++ [r] } else { p with dropped := 1 }
    else if p.recs.length + 2 ≤ cap then
      { p with recs := p.recs ++ [⟨3, src, s.nocTime % 2 ^ 48, p.dropped⟩, r], dropped := 0 }
    else { p with dropped := p.dropped + 1 }
  s.setProbe src { q with due := q.due || (decide (src < 2 ^ 10) && decide (32 ≤ q.recs.length)) }

/-- The number of data flits of a packet (R158). -/
def Packet.flits (p : Packet) : Nat := 1 + (p.data.length + 127) / 128

/-- What counter event code `c` of a probe counts for one passing packet (R178). -/
def evCount (c : Nat) (p : Packet) : Nat :=
  match c with
  | 1 => p.flits
  | 2 => 1
  | 4 => b2n p.em
  | _ => 0

/-- The probe of router k sees a packet pass from input port i to output port o (R174, R175). -/
def State.probeSee (s : State) (p : Packet) (k i o : Nat) : State :=
  let port := s.eff (NOC_PRB_CTRL_PORT k)
  let here := if s.eff (NOC_PRB_CTRL_DIR k) = 0 then i else o
  if port ≠ here then s
  else
    let evs := s.eff (NOC_PRB_CTRL_EV k)
    let fs := s.eff (NOC_PRB_CTRL_FSEL k)
    let s' := (List.range 4).foldl (fun t c =>
      let n := evCount (evs / 2 ^ (4 * c) % 16) p
      if n ≠ 0 ∧ s.filterHit k (fs / 2 ^ c % 2) p then t.count (NOC_PRB_CNT_COUNT k c) n else t) s
    if s.eff (NOC_PRB_CTRL_TRACE_EN k) = 1 ∧ s.observes ∧ s.filterHit k (s.eff (NOC_PRB_CTRL_TRACE_FLT k)) p then
      let s' := s'.record k 64 ⟨1, k, s.nocTime % 2 ^ 48, p.key64⟩
      s'.brInput (DBG_BR_PRB_ON k) (DBG_BR_PRB_RAISE_EN k) (DBG_BR_PRB_RAISE_CH k) 0
    else s'

def State.updNoc (s : State) (g : Noc → Noc) : State := { s with noc := g s.noc }

def countDiscard (n : Noc) (node : Nat) : Noc :=
  { n with discards := nput n.discards node (nget n.discards node + 1) }

/-- Whether an opcode names a request (R158). -/
def isRequest (p : Packet) : Bool := decide (p.opc = opcRead ∨ p.opc = opcWrite)

/-! ## On the way (R156, R162, R163, R170, R173) -/

/-- A bridge lies behind output `o` of router `k`: between quadrants, and at the units that R170 lists. -/
def bridged (k o : Nat) : Bool :=
  match o with
  | 0 => decide (routerY k = 4)
  | 1 => decide (routerX k = 3)
  | 2 => decide (routerY k = 3)
  | 3 => decide (routerX k = 4)
  | _ => match unitAt k (o - 4) with
    | .absent | .core _ | .cfgCtl | .sink | .hubRegs => false
    | _ => true

/-- The mesh link at port `o` carries packets: LIVE, and so is the router beyond it. -/
def State.linkUp (s : State) (k o : Nat) : Bool :=
  meshPresent k o && decide (s.f (NOC_PORT_STATUS_STATE k o) = 1) && decide (s.f (NOC_ROUTER_STATUS_STATE (neighbour k o)) = 1)

/-- What becomes of a packet on its way: it gets through, waits at an output, or is answered with a status by router `k`, which it
entered by port `i` (a request; any other packet is discarded there). -/
inductive Fate where
  | through
  | waits
  | lost (st k i : Nat)
  deriving DecidableEq, Repr

/-- The packet leaves router k by output o: the probe sees it, the replay buffers of its links hold it, and a request is tracked until its
response comes back (R156, R170, R174). -/
def State.crossed (s : State) (p : Packet) (k i o : Nat) : State :=
  (s.probeSee p k i o).updNoc fun n => { n with
    sent := SMap.put (fun _ => none) (if 4 ≤ i then SMap.put (fun _ => none) n.sent (2048 + 32 * k + i) (some p) else n.sent) (32 * k + o)
      (some p)
    tracks := if isRequest p ∧ (o < 4 ∨ bridged k o = true) then n.tracks ++ [⟨p.src, p.tag, k, o⟩] else n.tracks }

/-- The packet waits where its first hop leaves. -/
def State.waitAt (s : State) (w : WaitPkt) : State := s.updNoc fun n => { n with waits := n.waits ++ [w] }

/-- The requester index of a packet at a NoC output (07 R179). -/
def nocIdx (p : Packet) (i : Nat) : Nat := 4 * i + p.vc % 4

/-- The status with which router k stops what has come in by port i and leaves by port o: the router is reeled in or tests itself, a
mesh port is fenced, the link is down (R163, R170, R172, R173, 07 R187). -/
def State.hopLost (s : State) (k i o : Nat) : Option Nat :=
  let rst := s.f (NOC_ROUTER_STATUS_STATE k)
  if rst = 2 ∨ rst = 3 then some stUnreach
  else if (o < 4 ∧ s.f (NOC_PORT_STATUS_STATE k o) = 4) ∨ (i < 4 ∧ s.f (NOC_PORT_STATUS_STATE k i) = 4) then some stFenced
  else if rst ≠ 1 ∨ (o < 4 ∧ !s.linkUp k o) then some stSideDown
  else none

/-- Pass the hops of a way, as far as links, arbiters and bridge tables let the packet go. An output in use makes it wait in the
arbiter's spool (R162, 07 R185); a fenced input is answered FENCED (07 R187); a bridge that tracks 256 requests holds new ones
(R170). -/
def State.passHops (p : Packet) (dead : Option (Nat × Nat)) : List (Nat × Nat × Nat) → State → State × Fate
  | [], s =>
    match dead with
    | none => (s, .through)
    | some (k, i) => (s, .lost stUnreach k i)
  | (k, i, o) :: t, s =>
    let a : ArbId := .noc k o
    if let some st := s.hopLost k i o then (s, .lost st k i)
    else if (s.arb a).fenced.contains (nocIdx p i) then (s, .lost stFenced k i)
    else if isRequest p ∧ bridged k o = true ∧ 256 ≤ (s.noc.tracks.filter fun x => decide (x.k = k ∧ x.o = o)).length then
      (s.waitAt ⟨p, (k, i, o) :: t, dead, true⟩, .waits)
    else if (s.arb a).owner.isSome then
      ((s.waitAt ⟨p, (k, i, o) :: t, dead, false⟩).arbEnter a ⟨nocIdx p i, 0, p.lease, p.rset⟩, .waits)
    else State.passHops p dead t (s.crossed p k i o)

/-- A packet starts from router `k`, which it enters by port `i`. -/
def State.travel (s : State) (p : Packet) (k i : Nat) : State × Fate :=
  match s.way p.rset p.dst 15 k i with
  | .tgt l => State.passHops p none l s
  | .dead l j h => State.passHops p (some (j, h)) l s

/-- A VC class that the sender's NAP lacks (R161): VC2 and VC3 traffic goes on VC0. A request never goes on VC1. -/
def State.vcOf (s : State) (p : Packet) : Nat :=
  if p.vc = 1 then 0
  else if isTenantPort (nodeRouter p.src) (nodePort p.src) then
    if s.eff (NOC_PORT_CTRL_VCMASK (nodeRouter p.src) (nodePort p.src)) / 2 ^ p.vc % 2 = 1 then p.vc else 0
  else p.vc

/-- What becomes of a posted packet or a response that a router cannot send on (R164). -/
def State.settle (r : State × Fate) (p : Packet) (reach : State → State) : State :=
  match r.2 with
  | .through => reach r.1
  | .waits => r.1
  | .lost .. => r.1.updNoc fun n => countDiscard n p.dst

/-- Credits a NAP owes the router for the flits of a packet that has entered it (R156, R163). -/
def oweCredits (n : Noc) (p : Packet) : Noc :=
  if isTenantPort (nodeRouter p.dst) (nodePort p.dst) then
    { n with owed := nput n.owed (4 * p.dst + p.vc % 4) (nget n.owed (4 * p.dst + p.vc % 4) + p.toFlits.length) }
  else n

/-- A packet has reached its target and waits for it. -/
def State.reached (s : State) (p : Packet) : State := s.updNoc fun n => oweCredits { n with inbox := n.inbox ++ [p] } p

/-- The TRACE packet that carries up to 32 records of a store to the sink (R175), on VC3 or, from a NAP without VC3, on VC0. -/
def State.sendTrace (s : State) (src node : Nat) : State :=
  let p := s.probe src
  if p.recs.isEmpty then s
  else
    let go := p.recs.take 32
    let d := go.flatMap TraceRec.toBytes
    let pk : Packet := ⟨sinkNode, node, opcTrace, 0, 0, 0, d.length - 1, 0, 0, 0, false, 3, false, s.activeSet, d, []⟩
    let pk := if src < 2 ^ 10 then pk else { pk with vc := s.vcOf pk }
    let rest := p.recs.drop 32
    let s := s.setProbe src { p with recs := rest, last := some s.nocTime, due := decide (32 ≤ rest.length) }
    State.settle (s.travel pk (nodeRouter node) (nodePort node)) pk fun s => s.reached pk

/-- TRACE_GAP × 256 cycles have passed since the probe's last packet (R175). -/
def State.gapOver (s : State) (p : ProbeSt) : Bool :=
  match p.last with
  | none => true
  | some t => decide (256 * max 1 (s.eff NOC_XP_LINK_TRACE_GAP) ≤ s.nocTime - t)

/-- A packet of the store is due: a probe waits for TRACE_GAP. -/
def State.traceDue (s : State) (src node : Nat) : State :=
  if src < 2 ^ 10 ∧ !s.gapOver (s.probe src) then s.setProbe src { s.probe src with due := true } else s.sendTrace src node

/-- Probes that owe a packet send it once TRACE_GAP lets them (R175). -/
def State.traceSweep (s : State) : State :=
  (s.noc.probes.map (·.1)).foldl (fun t k =>
    if k < 2 ^ 10 ∧ (t.probe k).due ∧ t.gapOver (t.probe k) then t.sendTrace k (nodeAt k 0) else t) s

/-- The store whose records a TRACE packet carries. -/
def traceSource (p : Packet) : Nat := leNat (p.data.take 2) / 16 % 4096

/-- A TRACE packet of the store is on its way (09 R238). -/
def State.flying (s : State) (src : Nat) : Bool :=
  (s.noc.inbox ++ s.noc.waits.map (·.p)).any fun p => decide (p.opc = opcTrace) && decide (traceSource p = src)

/-- A store of 8 records sends when it holds 8 and none of its packets is in flight (09 R238). -/
def State.stimGo (s : State) (src node : Nat) : State :=
  if 8 ≤ (s.probe src).recs.length ∧ !s.flying src then s.sendTrace src node else s

/-- A record of a store of 8 (09 R238). -/
def State.stimPush (s : State) (src node : Nat) (r : TraceRec) : State := (s.record src 8 r).stimGo src node

/-! ## Requests and responses in flight -/

/-- The pair lease in SOURCE mode, SEEDING or ARMED, whose range holds the bytes written under a lease (13 R335). -/
def State.mirPl (s : State) (lease a n : Nat) : Option Nat :=
  if lease = 0 then none
  else (List.range 16).find? fun j =>
    let st := s.f (MIR_PL_STATUS_STATE j)
    let b := s.f (MIR_PL_RANGE_BASE_64M j) * 2 ^ 26
    decide ((st = 1 ∨ st = 2) ∧ s.eff (MIR_PL_CFG_MODE j) = 1 ∧ s.f (MIR_PL_CFG_LEASE j) = lease ∧ b ≤ a
      ∧ a + n ≤ b + s.f (MIR_PL_RANGE_SIZE_64M j) * 2 ^ 26)

/-- Bits as bytes, lowest first. -/
def packBits : Nat → List Bool → List Byte
  | 0, _ => []
  | n + 1, l => BitVec.ofNat 8 (((l.take 8).foldr (fun b v => 2 * v + b2n b) 0)) :: packBits n (l.drop 8)

/-- A WRITE of a mirrored lease is duplicated when its WRITE_RSP leaves (13 R335, R338, R346): bit i of the enables is byte i
of the data. -/
def State.mirDup (s : State) (p : Packet) (st : Nat) : State :=
  if st = stOk ∧ p.opc = opcWrite ∧ isHbm p.addr then
    match s.mirPl p.lease p.addr (p.bcnt + 1) with
    | some j =>
      let b := s.f (MIR_PL_RANGE_BASE_64M j) * 2 ^ 26
      let n := p.bcnt + 1
      let en := (List.range n).map fun i => (p.be[i]?).getD true
      let x : MFrame := ⟨3, j, s.openEpoch, p.addr - b, 0, packBits 64 en ++ p.data.take n⟩
      { s with mir := { s.mir with wl := s.mir.wl ++ [x], wlCnt := s.mir.wlCnt + 1 } }
    | none => s
  else s

/-- The request has a response on its way. -/
def Noc.answered (n : Noc) (p : Packet) : Bool :=
  (n.rsps ++ n.waits.map (·.p)).any fun r => decide (r.dst = p.src ∧ r.tag = p.tag) && !isRequest r && decide (8 ≤ r.opc)

/-- A response leaves from router `k`, which it enters by port `i`; a request that has been answered gets no second response. -/
def State.answerFrom (s : State) (k i : Nat) (p : Packet) (st : Nat) (d : List Byte) : State :=
  let r := { p.respond st d with rset := s.activeSet }
  if s.noc.answered p then s.updNoc fun n => countDiscard n r.dst
  else (State.settle ((s.mirDup p st).travel r k i) r fun s => s.updNoc fun n => { n with rsps := n.rsps ++ [r] }).traceSweep

/-- Send the response of a request back from its target (R158): it waits for its delivery. -/
def State.respond (s : State) (p : Packet) (st : Nat) (d : List Byte) : State :=
  s.answerFrom (nodeRouter p.dst) (nodePort p.dst) p st d

/-- The hub side of the requester's own NAP answers (R159). -/
def State.respondHere (s : State) (p : Packet) (st : Nat) : State :=
  s.updNoc fun n => { n with rsps := n.rsps ++ [{ p.respond st [] with rset := s.activeSet }] }

/-- A request that has no response yet. -/
def State.rspDue (s : State) (p : Packet) : Bool :=
  s.noc.outst.any (fun q => decide (q.src = p.src ∧ q.tag = p.tag)) && !s.noc.rsps.any fun r => decide (r.dst = p.src ∧ r.tag = p.tag)

/-- Answer every request of a list with one status. -/
def State.respondAll (s : State) (l : List Packet) (st : Nat) : State :=
  l.foldl (fun t p => t.respond p st []) s

/-- Requests at an inbox addressed to a node. -/
def Noc.takeFor (n : Noc) (node : Nat) : List Packet × Noc :=
  (n.inbox.filter (fun p => p.dst = node),
   { n with inbox := n.inbox.filter (fun p => p.dst ≠ node) })

/-- Empty the inbox of a node, answering its requests with a status and discarding the rest (R163, R170). -/
def State.flushNode (s : State) (node st : Nat) : State :=
  let (l, n) := s.noc.takeFor node
  { s with noc := n }.respondAll (l.filter isRequest) st

/-- The requests that have left router `k` by port `o` and have no response yet are answered there (R170). -/
def State.answerTracked (s : State) (k o st : Nat) : State :=
  let due := s.noc.outst.filter fun q =>
    s.noc.tracks.any (fun x => decide (x.src = q.src ∧ x.tag = q.tag ∧ x.k = k ∧ x.o = o)) && !s.noc.answered q
  due.foldl (fun t q => t.answerFrom k o q st []) s

/-- A packet in progress that comes in by port `i` of router `k` is ended with an EM tail (R163, R170). -/
def State.cutLink (s : State) (k i : Nat) : State :=
  s.updNoc fun n => { n with
    waits := n.waits.map fun w =>
      if w.hops.head?.any (fun h => decide (h.1 = k ∧ h.2.1 = i)) then { w with p := { w.p with em := true } } else w }

/-! ## Commands -/

/-- A NAP returns a credit for a flit it has freed (R163), for which the router had waited `stall` cycles. -/
def execCreditReturn (node vc stall : Nat) (s : State) : Host.Outcome State Fault Refusal :=
  .next ((s.updNoc fun n =>
    { n with owed := nput n.owed (4 * node + vc % 4) (nget n.owed (4 * node + vc % 4) - 1) }).probeEvent
      (nodeRouter node) (nodePort node) 1 3 stall)

/-- Credits are owed by the NAP in some VC: flits for it wait for one. -/
def State.creditDue (s : State) (node : Nat) : Bool := (List.range 4).any fun v => decide (0 < nget s.noc.owed (4 * node + v))

def clearOwed (n : Noc) (node : Nat) : Noc := { n with owed := (List.range 4).foldl (fun m v => nput m (4 * node + v) 0) n.owed }

/-- CREDIT_LIM passes without credit: the router fences the port (R163). -/
def execCreditLimExpire (node : Nat) (s : State) : Host.Outcome State Fault Refusal :=
  let k := nodeRouter node; let p := nodePort node
  .next (if isTenantPort k p ∧ s.f (NOC_PORT_STATUS_STATE k p) = 1 ∧ s.creditDue node then
      ((((s.probeEvent k p 1 3 (s.eff (NOC_PORT_CTRL_CREDIT_LIM k p))).fencePort k p (s.portLease k p)).cutLink k p).updNoc
        fun n => clearOwed n node).flushNode node stFenced
    else s)

/-- A table set in use: the active one, and the other while it drains (R166). -/
def State.setInUse (s : State) (t : Nat) : Bool :=
  decide (t = s.activeSet) || s.bit NOC_STATUS_DRAINING

/-- A set in use routes through mesh port p of router k, or names it in a slot (R172). -/
def State.linkUsed (s : State) (k p : Nat) : Bool :=
  (List.range 2).any fun t => s.setInUse t &&
    (((List.range 64).any fun m => decide (s.route t k m = p)) ||
     ((List.range 32).any fun j => decide (s.f (NOC_SLOT_VALID k t p j) = 1)) ||
     ((List.range 20).any fun o => (List.range 32).any fun j =>
        decide (s.f (NOC_SLOT_VALID k t o j) = 1 ∧ s.f (NOC_SLOT_IN_PORT k t o j) = p)))

/-- A set in use routes through router k or names it in a slot (R172). -/
def State.routerUsed (s : State) (k : Nat) : Bool :=
  ((List.range 4).any fun p => meshPresent k p && (s.linkUsed (neighbour k p) (facing p) || s.linkUsed k p)) ||
    (List.range 2).any fun t => s.setInUse t &&
      (List.range 20).any fun o => (List.range 32).any fun j => decide (s.f (NOC_SLOT_VALID k t o j) = 1)

/-- Set the STATE of a port; a mesh link changes at both ends (R172). -/
def State.setPort (s : State) (k p v : Nat) : State :=
  let s := s.portState k p v
  if p < 4 ∧ meshPresent k p then s.portState (neighbour k p) (facing p) v else s

/-- A router takes STATE `v`; one that leaves LIVE while a set is checked is remembered (R177). -/
def State.routerState (s : State) (k v : Nat) : State :=
  let was := s.f (NOC_ROUTER_STATUS_STATE k)
  let s := s.setF (NOC_ROUTER_STATUS_STATE k) v
  if s.bit NOC_STATUS_CHECKING ∧ was = 1 ∧ v ≠ 1 then s.updNoc fun n => { n with left := (k, 31) :: n.left } else s

/-- The port has a packet in progress or a request outstanding: not idle for its QUIET fields (R178). -/
def State.portBusy (s : State) (k p : Nat) : Bool :=
  decide (4 ≤ p) &&
    (s.noc.outst.any (fun q => q.src = nodeAt k (p - 4)) || s.noc.inbox.any (fun q => q.dst = nodeAt k (p - 4)))

/-- The region of a fabric or engine NAP is ACTIVE or PAUSED (R172). -/
def State.napInUse (s : State) (k p : Nat) : Bool :=
  match unitAt k (p - 4) with
  | .fabricNap r _ => decide (s.f (HUB_RGN_STATE_STATE r) = 2 ∨ s.f (HUB_RGN_STATE_STATE r) = 3)
  | .engine e => decide (s.f (HUB_RGN_STATE_STATE (e / 3)) = 2 ∨ s.f (HUB_RGN_STATE_STATE (e / 3)) = 3)
  | _ => false

/-- Port command REEL_IN (R172). -/
def State.portReelIn (s : State) (k p : Nat) : State :=
  if s.portBusy k p then s.busy (NOC_PORT_STATUS_FIELD_BUSY k p)
  else if s.f (NOC_PORT_STATUS_STATE k p) ≠ 1 then s.setF (NOC_PORT_STATUS_ERR k p) 3
  else if (if p < 4 then s.linkUsed k p || s.linkUsed (neighbour k p) (facing p) else s.napInUse k p) then
    s.setF (NOC_PORT_STATUS_ERR k p) 2
  else
    let s := s.setPort k p 2
    if p < 4 then s else s.flushNode (nodeAt k (p - 4)) stUnreach

/-- Port command PAY_OUT (R172): a self-test, then LIVE at an epoch boundary. -/
def State.portPayOut (s : State) (k p : Nat) : State :=
  if s.portBusy k p then s.busy (NOC_PORT_STATUS_FIELD_BUSY k p)
  else if s.f (NOC_PORT_STATUS_STATE k p) = 2 ∨ s.f (NOC_PORT_STATUS_STATE k p) = 7 then s.setPort k p 3
  else s.setF (NOC_PORT_STATUS_ERR k p) 3

def setResync (n : Noc) (u v : Nat) : Noc := { n with resync := nput n.resync u v }
def setReady (n : Noc) (u : Nat) (b : Bool) : Noc := { n with ready := SMap.put (fun _ => false) n.ready u b }

/-- A side of the bridge at port p of router k, as a key: the router's, or the one beyond, which at a mesh link is the next
router's. -/
def sideKey (k p : Nat) (far : Bool) : Nat :=
  if far then (if p < 4 then 32 * neighbour k p + facing p else 2048 + 32 * k + p) else 32 * k + p

/-- Both sides of the bridge are up. -/
def State.sidesUp (s : State) (k p : Nat) : Bool :=
  !s.noc.down.contains (sideKey k p true) && !s.noc.down.contains (sideKey k p false)

/-- No arbiter of router k fences an input VC of port p any more (07 R188). -/
def State.unfenceInputs (s : State) (k p : Nat) : State :=
  (List.range 20).foldl (fun t o =>
    let b := t.arb (.noc k o)
    if b.fenced.any (fun x => decide (x / 4 = p)) then t.setArb (.noc k o) { b with fenced := b.fenced.filter (· / 4 ≠ p) } else t) s

/-- Port command UNFENCE (07 R188, R163): requests outstanding at the fence are answered FENCED, and the port
resynchronises. Ignored for a port that is not fenced. -/
def State.portUnfence (s : State) (k p : Nat) : State :=
  if s.f (NOC_PORT_STATUS_STATE k p) ≠ 4 then s
  else
    let node := nodeAt k (p - 4)
    let due := if p < 4 then [] else
      s.noc.outst.filter fun q => q.src = node && !(s.noc.rsps.any fun r => r.dst = node ∧ r.tag = q.tag)
    let s := (due.foldl (fun t q => t.respondHere q stFenced) s).unfenceInputs k p
    if s.sidesUp k p then (s.portState k p 6).updNoc fun n => setResync n (32 * k + p) 1 else s.portState k p 5

def execPortUnfence (m : Master) (k p : Nat) (s : State) : Host.Outcome State Fault Refusal :=
  .next (s.viaWrite m (NOC_PORT_CTRL k p) fun s => s.portUnfence k p)

/-- The command of code `c` in NOC_PORTp_CTRL.CMD. -/
def State.portCmd (s : State) (k p c : Nat) : State :=
  match c with
  | 1 => s.portReelIn k p
  | 2 => s.portPayOut k p
  | 3 => s.portUnfence k p
  | _ => s

/-- Both ends of a mesh link receive commands in one cycle, `c` at port p of router k and `c'` at the other end: the one at the lower
port index applies, the other sets FIELD_BUSY (R177). -/
def State.portCmds (s : State) (k p c : Nat) (twin : Option Nat) : State :=
  match twin with
  | some c' =>
    if p < 4 ∧ meshPresent k p then
      let k' := neighbour k p; let p' := facing p
      if p < p' then (s.portCmd k p c).busy (NOC_PORT_STATUS_FIELD_BUSY k' p')
      else (s.portCmd k' p' c').busy (NOC_PORT_STATUS_FIELD_BUSY k p)
    else s.portCmd k p c
  | none => s.portCmd k p c

def execPortReelIn (m : Master) (k p : Nat) (twin : Option Nat) (s : State) : Host.Outcome State Fault Refusal :=
  .next (s.viaWrite m (NOC_PORT_CTRL k p) fun s => s.portCmds k p 1 twin)

def execPortPayOut (m : Master) (k p : Nat) (twin : Option Nat) (s : State) : Host.Outcome State Fault Refusal :=
  .next (s.viaWrite m (NOC_PORT_CTRL k p) fun s => s.portCmds k p 2 twin)

/-- Router command REEL_IN (R172). -/
def State.routerReelIn (s : State) (k : Nat) : State :=
  if s.f (NOC_ROUTER_STATUS_STATE k) = 3 then s.busy (NOC_ROUTER_STATUS_FIELD_BUSY k)
  else if s.f (NOC_ROUTER_STATUS_STATE k) ≠ 1 then s.setF (NOC_ROUTER_STATUS_ERR k) 3
  else if s.routerUsed k then s.setF (NOC_ROUTER_STATUS_ERR k) 2
  else s.routerState k 2

def execRouterReelIn (m : Master) (k : Nat) (s : State) : Host.Outcome State Fault Refusal :=
  .next (s.viaWrite m (NOC_ROUTER_CTRL k) fun s => s.routerReelIn k)

/-- Router command PAY_OUT (R172). -/
def State.routerPayOut (s : State) (k : Nat) : State :=
  if s.f (NOC_ROUTER_STATUS_STATE k) = 3 then s.busy (NOC_ROUTER_STATUS_FIELD_BUSY k)
  else if s.f (NOC_ROUTER_STATUS_STATE k) = 2 ∨ s.f (NOC_ROUTER_STATUS_STATE k) = 7 then
    s.setF (NOC_ROUTER_STATUS_STATE k) 3
  else s.setF (NOC_ROUTER_STATUS_ERR k) 3

def execRouterPayOut (m : Master) (k : Nat) (s : State) : Host.Outcome State Fault Refusal :=
  .next (s.viaWrite m (NOC_ROUTER_CTRL k) fun s => s.routerPayOut k)

/-- The March and loopback tests of a paid-out unit end (R172): `p` is the port, 31 for the router itself. -/
def execSelftestEnd (k p : Nat) (pass : Bool) (s : State) : Host.Outcome State Fault Refusal :=
  .next (if p = 31 then
      if s.f (NOC_ROUTER_STATUS_STATE k) ≠ 3 then s
      else if pass then s.updNoc fun n => setReady n (32 * k + 31) true
      else (s.routerState k 7).setF (NOC_ROUTER_STATUS_ERR k) 4
    else
      if s.f (NOC_PORT_STATUS_STATE k p) ≠ 3 then s
      else if pass then s.updNoc fun n => setReady n (32 * k + p) true
      else (s.setPort k p 7).setF (NOC_PORT_STATUS_ERR k p) 4)

/-- NOC_EPOCH.SWAP (R165, R177). -/
def State.nocSwap (s : State) : State :=
  if s.bit NOC_STATUS_CHECKING ∨ s.bit NOC_STATUS_SWAP_PENDING ∨ s.bit NOC_STATUS_DRAINING then
    s.busy NOC_STATUS_FIELD_BUSY
  else (s.setF NOC_STATUS_CHECKING 1).updNoc fun n => { n with left := [] }

def execNocSwap (m : Master) (s : State) : Host.Outcome State Fault Refusal :=
  .next (s.viaWrite m NOC_EPOCH State.nocSwap)

/-- The set check ends (R165). -/
def execSwapCheckEnd (s : State) : Host.Outcome State Fault Refusal :=
  .next (if s.bit NOC_STATUS_CHECKING then
      let e := s.setCheck (1 - s.activeSet)
      let s := s.setF NOC_STATUS_CHECKING 0
      if e = 0 then (s.setF NOC_STATUS_ERR 0).setF NOC_STATUS_SWAP_PENDING 1 else s.setF NOC_STATUS_ERR e
    else s)

/-- A packet stamped with set `t` has not delivered its tail (R166). -/
def State.setFlies (s : State) (t : Nat) : Bool := (s.noc.waits.map (·.p) ++ s.noc.rsps).any fun p => p.rset = t

/-- The network's part of an epoch boundary (R165, R168, R172): a pending swap occurs, waiting units become LIVE, and a
new EPOCH_US takes effect. -/
def State.nocEpoch (s : State) : State :=
  let s := if s.bit NOC_STATUS_SWAP_PENDING then
      ((s.setF NOC_STATUS_SWAP_PENDING 0).setF NOC_STATUS_ACTIVE (1 - s.activeSet)).setF NOC_STATUS_DRAINING 1
    else s
  let s := s.noc.ready.foldl (fun t e =>
      let k := e.1 / 32; let p := e.1 % 32
      if p = 31 then t.routerState k 1 else t.setPort k p 1) s
  (s.updNoc fun n => { n with ready := [], resync := n.resync.filter (fun e => e.2 ≠ 2) }).applyLive NOC_EPOCH_EPOCH_US

/-- The last packet stamped with the old set delivers its tail (R166): while one is on its way, DRAINING stays. -/
def execSetDrainEnd (s : State) : Host.Outcome State Fault Refusal :=
  .next (if s.setFlies (1 - s.activeSet) then s else s.setF NOC_STATUS_DRAINING 0)

/-- Whether the port's self-test or resynchronisation has begun: it begins anew (R171). -/
def State.resyncDrop (s : State) (k p : Nat) : State :=
  s.updNoc fun n =>
    let u := 32 * k + p
    let n := setReady (setResync n u 0) u false
    if p < 4 then let u' := 32 * neighbour k p + facing p; setReady (setResync n u' 0) u' false else n

/-- STATE of a port of which a side has gone down. A fence holds until UNFENCE, a fault and a reel-in until PAY_OUT (R163, R172,
R173). -/
def State.portDown (s : State) (k p : Nat) : State :=
  let st := s.f (NOC_PORT_STATUS_STATE k p)
  if st = 2 ∨ st = 4 ∨ st = 7 ∨ st = 8 then s else s.setPort k p 5

/-- The side of a bridge beyond port p of router k goes down (R170): a packet in progress from it ends with an EM tail, its grants
and requests go (07 R190), the tracked requests are answered, and those that wait inside it with them. -/
def State.bridgeDown (s : State) (k p st : Nat) : State :=
  let s := ((s.portDown k p).resyncDrop k p).cutLink k p
  let s := (List.range 20).foldl (fun t o =>
    if t.noc.waits.any (fun w => w.hops.head? = some (k, p, o)) then t
    else if (t.arb (.noc k o)).owner.isSome then t.arbRemove (.noc k o) fun i => i / 4 = p else t) s
  if p < 4 then s.answerTracked k p st
  else
    let node := nodeAt k (p - 4)
    (((s.answerTracked k p st).flushNode node st)).updNoc fun n => clearOwed n node

/-- BRIDGE_SIDE_DOWN: `far` says which side, the unit's (at a mesh link the next router's) or the router's. When the router's side
goes, a unit's own requests are answered SIDE_DOWN at its side. -/
def State.sideDown (s : State) (k p : Nat) (far : Bool) : State :=
  if s.f (NOC_PORT_STATUS_STATE k p) = 8 then s
  else
    let s := s.updNoc fun n => { n with down := sideKey k p far :: n.down.filter (· ≠ sideKey k p far) }
    if far then s.bridgeDown k p stSideDown
    else if p < 4 then s.bridgeDown (neighbour k p) (facing p) stSideDown
    else
      let due := s.noc.outst.filter fun q => decide (q.src = nodeAt k (p - 4)) && !s.noc.answered q
      due.foldl (fun t q => t.respondHere q stSideDown) ((s.portDown k p).resyncDrop k p)

def execBridgeSideDown (k p : Nat) (far : Bool) (s : State) : Host.Outcome State Fault Refusal := .next (s.sideDown k p far)

/-- What lies behind a local port can carry traffic: an engine's trio has power and is clear (08 R213), a fabric NAP's bundle is
LIVE (05 R143). -/
def State.unitUp (s : State) (k p : Nat) : Bool :=
  if p < 4 then true
  else match unitAt k (p - 4) with
    | .engine e => decide (s.f (ENG_TRIO_PWR_STATE (e / 3)) = 2)
    | .fabricNap r j => decide (s.f (CMX_B_STATUS_STATE (r / 8) (2 * (r % 8) + j)) = 3)
    | _ => true

/-- RESYNC_REQ: a side is up again, empties its half and asks the other (R171). While the other is down it waits: the side that is
up second begins. -/
def execResyncReq (k p : Nat) (far : Bool) (s : State) : Host.Outcome State Fault Refusal :=
  let s := s.updNoc fun n => { n with down := n.down.filter (· ≠ sideKey k p far) }
  .next (if (s.f (NOC_PORT_STATUS_STATE k p) = 5 ∨ s.f (NOC_PORT_STATUS_STATE k p) = 6) ∧ s.sidesUp k p ∧ s.unitUp k p then
      ((s.resyncDrop k p).setPort k p 6).updNoc fun n => setResync n (32 * k + p) 1
    else s)

/-- The returning side receives RESYNC_ACK and waits for the next epoch boundary (R171). -/
def execResyncAck (k p : Nat) (s : State) : Host.Outcome State Fault Refusal :=
  .next (if s.f (NOC_PORT_STATUS_STATE k p) = 6 ∧ nget s.noc.resync (32 * k + p) = 1 then
      s.updNoc fun n => setReady (setResync n (32 * k + p) 2) (32 * k + p) true
    else s)

/-- 2,048 cycles after its oldest record, a record store sends a TRACE packet (R175). `src` is the SOURCE value of the
store, `node` the node it sends from. -/
def execTraceFlushTimer (src node : Nat) (s : State) : Host.Outcome State Fault Refusal :=
  .next (s.traceDue src node)

/-- Every 2^20 cycles a tracing probe makes a SYNC record (R176). -/
def execTraceSyncTimer (k : Nat) (s : State) : Host.Outcome State Fault Refusal :=
  .next (if s.eff (NOC_PRB_CTRL_TRACE_EN k) = 1 ∧ s.observes then
      (s.record k 64 ⟨4, k, s.nocTime % 2 ^ 48, s.nocTime % 2 ^ 64⟩).traceSweep
    else s)

/-- In `n` NoC cycles without a packet, a probe that watches an output counts the VC2 slots of the active set that pass unused
(R167, R178). -/
def State.slotsPass (s : State) (n : Nat) : State :=
  (List.range 64).foldl (fun t k =>
    if t.eff (NOC_PRB_CTRL_EV k) = 0 then t
    else
      let o := t.eff (NOC_PRB_CTRL_PORT k)
      t.probeEvent k o 1 6 (((List.range n).filter fun i =>
        decide (t.eff (NOC_SLOT_VALID k t.activeSet o ((t.nocTime + i) % 32)) = 1)).length)) s

end Sys2Proof.Machine
end

