-- ==== Sys2Proof/Machine/NocReq.lean ====
section
/-! DEFINITION. A request on its way: stamping and checks at the hub side of a NAP (06 R159, 01 R28, 10 R247, 11 R284,
04 R111), routing and delivery, the responses' way back (R160), and the commands NOC_READ, NOC_WRITE, NOC_TRACE,
NOC_MIRROR, READ_RSP, WRITE_RSP, RESERVED_OPCODE, FLIT_REPLAY and NAP_HOLD_TIMEOUT. -/

namespace Sys2Proof.Machine

open Reg

/-- The node value that asks for HBM (R211: RNODE 0x3FF). -/
def noNode : Nat := 0x3FF

/-- The bundle of a fabric NAP d.k is bundle d.k (05 R128). -/
def napBundle (r k : Nat) : Nat × Nat := (r / 8, 2 * (r % 8) + k)

/-- The HBM ranges [base, base + size) hold the bytes `a` to `a + n - 1` in one of them. -/
def inWindow (l : List (Nat × Nat)) (a n : Nat) : Bool :=
  l.any fun w => decide (w.1 ≤ a ∧ a + n ≤ w.1 + w.2)

/-- The HBM window of a lease (R28; no register names it, log entry 8). -/
def State.window (s : State) (l : Nat) : List (Nat × Nat) := SMap.get (fun _ => []) s.leaseWin l

/-- Two byte ranges overlap. -/
def overlaps (a n b m : Nat) : Bool := decide (a < b + m ∧ b < a + n)

/-- The golden store's base (R111). -/
def State.goldBase (s : State) : Nat := s.f CFG_GOLD_BASE_BASE_GIB * 2 ^ 30

/-- The golden store is fenced (R111). -/
def State.goldHit (s : State) (a n : Nat) : Bool :=
  s.bit CFG_INTEG_CTRL_GOLD_EN && overlaps a n s.goldBase (2 ^ 30)

/-- The mirror area is fenced (13 R357): 4 GiB from MIR_AREA.BASE_GIB. -/
def State.mirHit (s : State) (a n : Nat) : Bool := overlaps a n (s.f MIR_AREA_BASE_GIB * 2 ^ 30) (2 ^ 32)

/-- Base and length of the trace ring (17 R433). -/
def State.ringBase (s : State) : Nat := s.f DBG_TRC_BASE_BASE * 4096
def State.ringLen (s : State) : Nat := 4096 * 2 ^ s.f DBG_TRC_BASE_RING

/-- The trace ring is fenced while its output is enabled (17 R433). -/
def State.ringHit (s : State) (a n : Nat) : Bool :=
  decide (s.eff DBG_TRC_CTRL_OUT / 2 % 2 = 1) && overlaps a n s.ringBase s.ringLen

/-- The key slot of a lease, in any state but EMPTY (R283). -/
def State.slotOf (s : State) (l : Nat) : Option Nat :=
  (List.range 64).find? fun k => decide (s.f (SEC_K_STATUS_STATE k) ≠ 0 ∧ s.f (SEC_K_CTRL_LEASE k) = l)

/-- Base and size in bytes of a slot's range (R283). -/
def State.slotRange (s : State) (k : Nat) : Nat × Nat :=
  (s.f (SEC_K_RANGE_BASE_64M k) * 2 ^ 26, s.f (SEC_K_RANGE_SIZE_64M k) * 2 ^ 26)

/-- Size in bytes of a slot's data area: the first 15/16 of the range (R283). -/
def State.slotData (s : State) (k : Nat) : Nat := (s.slotRange k).2 / 16 * 15

/-- The request touches the metadata area of a slot in use (R284). -/
def State.metaHit (s : State) (a n : Nat) : Bool :=
  (List.range 64).any fun k => decide (s.f (SEC_K_STATUS_STATE k) ≠ 0) &&
    overlaps a n ((s.slotRange k).1 + s.slotData k) ((s.slotRange k).2 / 16)

/-- The lease behind the sender of a packet: its NAP's, or for a PCIe endpoint the one its function stamps; 0x00 for
hub traffic (R157, R159). -/
def State.srcLease (s : State) (p : Packet) : Nat :=
  match unitOf p.src with
  | .fabricNap _ _ | .engine _ | .quad _ => s.portLease (nodeRouter p.src) (nodePort p.src)
  | .pcie _ => p.lease
  | _ => 0

/-- The sender is a tenant requester (R28). -/
def isTenantSrc (p : Packet) : Bool :=
  match unitOf p.src with
  | .fabricNap _ _ | .engine _ | .quad _ => true
  | .pcie _ => decide (p.lease ≠ 0)
  | _ => false

/-- A tenant may address this node under the lease: a fabric, engine or tenant quad NAP of the same lease (R159). -/
def State.sameLeaseNode (s : State) (l node : Nat) : Bool :=
  match unitOf node with
  | .fabricNap r _ => decide (s.f (HUB_RGN_STATE_LEASE r) = l)
  | .engine e => decide (s.f (HUB_RGN_STATE_LEASE (e / 3)) = l)
  | .quad q => decide (s.f (LNE_Q_CFG_LEASE q) = l)
  | _ => false

/-- The outcome of the checks at a NAP's hub side: forward the stamped packet, or answer with a status after an effect
on the counters and logs. -/
inductive NapCheck where
  | forward (p : Packet)
  | answer (status : Nat) (counted : Bool) (log : Option DropCause)
  deriving DecidableEq, Repr

/-- The check and stamp of a tenant request with lease `l` (R28, R159, R247, R284, R111). -/
def State.napCheck (s : State) (p : Packet) (l : Nat) : NapCheck :=
  let q := { p with lease := l, kv := false, key := 0 }
  let n := p.bcnt + 1
  let fenced := s.goldHit p.addr n || s.mirHit p.addr n || s.ringHit p.addr n
  if p.dst ≠ noNode ∧ s.sameLeaseNode l p.dst = true then .forward q
  else if (blockOf p.addr).isSome then .answer stDenied true (some .mgmtDenied)
  else if p.dst ≠ noNode then .answer stDenied true (if fenced then some .range else none)
  else if isHbm p.addr then
    if p.addr % 512 + n > 512 then .answer stErr false none
    else if fenced then .answer stDenied (!inWindow (s.window l) p.addr n) (some .range)
    else if !inWindow (s.window l) p.addr n then .answer stDenied true none
    else if s.metaHit p.addr n then .answer stDenied false none
    else
      let pc := s.pcOf p.addr
      match s.slotOf l with
      | some k =>
        if inWindow [((s.slotRange k).1, s.slotData k)] p.addr n then
          .forward { q with kv := true, key := k, dst := encNode (if pc < 64 then 0 else 1) }
        else .forward { q with dst := pcNode pc }
      | none => .forward { q with dst := pcNode pc }
  else .answer stDenied true none

/-- The node is a pseudo-channel controller or a memory-encryption engine: a request to it is one to HBM. -/
def hbmNode (node : Nat) : Bool :=
  match unitOf node with
  | .pc _ | .enc _ => true
  | _ => false

/-- A hub request touches a range of HBM that is fenced against its sender (R111, R357, R433). -/
def State.hubFenced (s : State) (p : Packet) : Bool :=
  let n := p.bcnt + 1
  (s.goldHit p.addr n && decide (unitOf p.src ≠ .cfgCtl)) || (s.mirHit p.addr n && decide (unitOf p.src ≠ .mirrorLink))
    || (s.ringHit p.addr n && decide (unitOf p.src ≠ .sink))

/-- The stamp of a hub request: LEASE 0x00, KV 0, an HBM address mapped to its controller (R157, R284). A supplied DST passes no
fence. -/
def State.hubStamp (s : State) (p : Packet) : NapCheck :=
  let q := { p with lease := 0, kv := false, key := 0 }
  if p.dst ≠ noNode then
    if hbmNode p.dst && s.hubFenced p then .answer stDenied false (some .range) else .forward q
  else if isHbm p.addr then
    if p.addr % 512 + (p.bcnt + 1) > 512 then .answer stErr false none
    else if s.hubFenced p then .answer stDenied false (some .range)
    else .forward { q with dst := pcNode (s.pcOf p.addr) }
  else if (blockOf p.addr).isSome then .forward { q with dst := nodeAt 27 7 }
  else .answer stErr false none

/-- What a target port does with a packet addressed to it: none lets it in; a status answers a request (05 R143, R149,
06 R158, R170). -/
def State.portRefusal (s : State) (node : Nat) : Option Nat :=
  let st := s.f (NOC_PORT_STATUS_STATE (nodeRouter node) (nodePort node))
  let die := match unitOf node with
    | .fabricNap r _ => dieIsolated s (r / 8)
    | .engine e => dieIsolated s (e / 24)
    | _ => false
  if die then some stUnreach
  else if st = 4 then some stFenced
  else if st = 2 ∨ st = 8 then some stUnreach
  else
    match unitOf node with
    | .fabricNap r k =>
      let b := napBundle r k
      if s.f (CMX_B_STATUS_STATE b.1 b.2) ≠ 3 then some stTetherDown
      else if st ≠ 1 then some stSideDown else none
    | _ => if st ≠ 1 then some stSideDown else none

/-- The NAPs of a region accept traffic: from step 4 of an open (STEP 6) to the request of the next close (R55, R56). -/
def State.napOpen (s : State) (r : Nat) : Bool :=
  decide (s.f (HUB_RGN_STATE_ENV r) = 1 ∨ s.f (FAB_RGN_ENV_STATUS_STEP (r / 8) (r % 8)) = 6)

/-- Whether a region's NAP takes inbound requests now: none while its envelope is open, otherwise whether it holds them
(PAUSED) or refuses them (R54). -/
def State.napClosed (s : State) (r : Nat) : Option Bool :=
  if s.napOpen r then none else some (decide (s.f (HUB_RGN_STATE_STATE r) = 3))

/-- Deliver a request that has reached its destination router. -/
def State.arrive (s : State) (p : Packet) : State :=
  match s.portRefusal p.dst with
  | some st => s.respond p st []
  | none =>
    match unitOf p.dst with
    | .fabricNap r _ =>
      match s.napClosed r with
      | some true => s.updNoc fun n => { n with heldReq := n.heldReq ++ [p] }
      | some false => s.respond p stErr []
      | none => s.reached p
    | _ => s.reached p

/-- A request that ends with an EM tail is answered ERR by its target (R157, R160); any other arrives. -/
def State.arriveReq (s : State) (p : Packet) : State := if p.ended then s.respond p stErr [] else s.arrive p

/-- A request that a router stops on its way is answered there (R164, R170, R173, 07 R187). -/
def State.reqFate (r : State × Fate) (p : Packet) : State :=
  match r.2 with
  | .through => r.1.arriveReq p
  | .waits => r.1
  | .lost st k i => r.1.answerFrom k i p st []

/-- A request leaves its NAP, stamped with the active set (R166). -/
def State.forward (s : State) (p : Packet) : State :=
  let p := { p with rset := s.activeSet }
  (State.reqFate (s.travel p (nodeRouter p.src) (nodePort p.src)) p).traceSweep

/-- The region or engine that an event about a packet's sender names (R17). -/
def srcInst (p : Packet) : Nat :=
  match unitOf p.src with
  | .fabricNap r _ => r
  | .engine e => e
  | _ => noInst

/-- Count and log a refused tenant request (R28, R111, R159). -/
def State.napRefused (s : State) (p : Packet) (l : Nat) (counted : Bool) (log : Option DropCause) : State :=
  let k := nodeRouter p.src; let j := nodePort p.src
  let s := if counted then s.count (NOC_PORT_STATUS_DENIED k j) 1 else s
  let m : Master := if isTenantSrc p then .tenant l (srcInst p) else match unitOf p.src with | .pcie _ => .host | _ => .firmware
  match log with
  | some .mgmtDenied => (s.logDrop m .mgmtDenied p.addr).raise .MGMT_DENIED true l m.inst
  | some c => s.logDrop m c p.addr
  | none => s

/-- A request that has no response yet (R160). -/
def State.dueOf (s : State) (node : Nat) : List Packet := s.noc.outst.filter fun q => q.src = node

/-- Send a READ or WRITE request from its NAP (R159): stamped and checked, then routed to its target, or answered at
once. A sender whose port is not LIVE or that has 64 requests outstanding sends nothing (R160, R163). -/
def State.sendRequest (s : State) (p : Packet) : State :=
  if s.f (NOC_PORT_STATUS_STATE (nodeRouter p.src) (nodePort p.src)) ≠ 1 then s
  else if 64 ≤ (s.dueOf p.src).length then s
  else
    let l := s.srcLease p
    let p := { p with vc := s.vcOf p }
    let chk := if isTenantSrc p then s.napCheck p l else s.hubStamp p
    match chk with
    | .forward q =>
      (s.updNoc fun n => { n with outst := n.outst ++ [{ q with rset := s.activeSet }] }).forward q
    | .answer st c log =>
      ((s.updNoc fun n => { n with outst := n.outst ++ [p] }).napRefused p l c log).respondHere p st

/-- Whether a fabric NAP can send: its envelope is open, its bundle is LIVE and no quiesce or standby load holds its ready
low (R54, R143, 04 R121, 13 R344). -/
def State.napMaySend (s : State) (node : Nat) : Bool :=
  match unitOf node with
  | .fabricNap r k =>
    s.napOpen r && decide (s.f (CMX_B_STATUS_STATE (napBundle r k).1 (napBundle r k).2) = 3)
      && !(SMap.get (fun _ => Rgn.empty) s.rgn r).hold
  | _ => true

def State.requestFrom (s : State) (p : Packet) : State :=
  if s.napMaySend p.src then s.sendRequest p else s

/-! ## Posted packets -/

/-- A posted packet that has come through: discarded and counted when it ends with an EM tail or its target's port takes none
(R160, R170). -/
def State.arrivePost (s : State) (p : Packet) : State :=
  if p.ended ∨ (s.portRefusal p.dst).isSome then s.updNoc fun n => countDiscard n p.dst else s.reached p

/-- Send a posted packet to node `node` (R160, R164). -/
def State.post (s : State) (p : Packet) (node : Nat) : State :=
  let p := { p with dst := node, rset := s.activeSet }
  (State.settle (s.travel p (nodeRouter p.src) (nodePort p.src)) p fun s => s.arrivePost p).traceSweep

/-- A MIRROR packet goes on VC3 to the mirror-link controller at N(1,7) (R155, R158, R161). -/
def execNocMirror (p : Packet) (s : State) : Host.Outcome State Fault Refusal :=
  .next (s.post { p with opc := opcMirror, vc := 3 } (nodeAt 57 5))

/-! ## Packets that have waited (R162, R170, 07 R187) -/

/-- A packet that has waited goes on from the output where it stood. -/
def State.resumeWait (s : State) (w : WaitPkt) : State :=
  let s := s.updNoc fun n => { n with waits := n.waits.erase w }
  let r := match w.hops with
    | [] => State.passHops w.p w.dead [] s
    | (k, i, o) :: t => State.passHops w.p w.dead t (s.crossed w.p k i o)
  if isRequest w.p then State.reqFate r w.p
  else State.settle r w.p fun s =>
    if 8 ≤ w.p.opc then s.updNoc fun n => { n with rsps := n.rsps ++ [w.p] } else s.arrivePost w.p

/-- Grants of a NoC output go to packets that wait there: each passes whole, and its grant ends with its tail. -/
def State.nocServe (k o : Nat) : Nat → State → State
  | 0, s => s
  | n + 1, s =>
    match (s.arb (.noc k o)).owner with
    | none => s
    | some q =>
      match s.noc.waits.find? (fun w => !w.table && w.hops.head?.any fun h => decide (h.1 = k ∧ h.2.2 = o ∧ nocIdx w.p h.2.1 = q.idx)) with
      | none => s
      | some w => State.nocServe k o n ((s.resumeWait w).arbBeat (.noc k o) false)

/-- Packets that wait at an output of router k with requester index `idx`. -/
def State.waitsAt (s : State) (k o idx : Nat) : List WaitPkt :=
  s.noc.waits.filter fun w => !w.table && w.hops.head?.any fun h => decide (h.1 = k ∧ h.2.2 = o ∧ nocIdx w.p h.2.1 = idx)

/-- A fenced requester's packets that wait at the output: requests are answered FENCED, others discarded (07 R187). -/
def State.waitsFenced (s : State) (k o idx : Nat) : State :=
  (s.waitsAt k o idx).foldl (fun t w =>
    let t := t.updNoc fun n => { n with waits := n.waits.erase w }
    if isRequest w.p then t.answerFrom k (idx / 4) w.p stFenced [] else t.updNoc fun n => countDiscard n w.p.dst) s

/-- A bridge's table has room again: the oldest request that it holds goes on (R170). -/
def State.tableGo (s : State) : State :=
  match s.noc.waits.find? (fun w => w.table && w.hops.head?.any fun h =>
      decide ((s.noc.tracks.filter fun x => decide (x.k = h.1 ∧ x.o = h.2.2)).length < 256)) with
  | none => s
  | some w =>
    let s := s.updNoc fun n => { n with waits := n.waits.erase w }
    State.reqFate (State.passHops w.p w.dead w.hops s) w.p

/-- A packet with a reserved opcode reaches `node`: a request gets STATUS ERR, any other is discarded and counted
(R158). -/
def execReservedOpcode (p : Packet) (request : Bool) (s : State) : Host.Outcome State Fault Refusal :=
  .next (if request then
      (s.updNoc fun n => { n with outst := n.outst ++ [p] }).respond p stErr []
    else s.updNoc fun n => countDiscard n p.dst)

/-! ## Responses -/

/-- Drop the first packet that matches. -/
def dropFirst (q : Packet → Bool) : List Packet → List Packet
  | [] => []
  | h :: t => if q h then t else h :: dropFirst q t

/-- The first response on its way to `node` for `tag`. -/
def State.rspFor (s : State) (node tag : Nat) : Option Packet :=
  s.noc.rsps.find? fun r => decide (r.dst = node ∧ r.tag = tag)

/-- Take the response of `node` and `tag` off its way; its request is no longer outstanding, and no bridge tracks it. -/
def State.takeRsp (s : State) (node tag : Nat) : State :=
  (s.updNoc fun n => { n with
    rsps := dropFirst (fun r => decide (r.dst = node ∧ r.tag = tag)) n.rsps
    outst := dropFirst (fun r => decide (r.src = node ∧ r.tag = tag)) n.outst
    tracks := n.tracks.filter fun x => !decide (x.src = node ∧ x.tag = tag) }).tableGo

/-- The requester's port is FENCED: it discards responses, and UNFENCE answers their requests (R163, R188). -/
def State.rspFenced (s : State) (node : Nat) : Bool :=
  decide (s.f (NOC_PORT_STATUS_STATE (nodeRouter node) (nodePort node)) = 4)

/-- Discard the response of `node` and `tag`; its request stays outstanding. -/
def State.dropRsp (s : State) (node tag : Nat) : State :=
  s.updNoc fun n => countDiscard { n with rsps := dropFirst (fun r => decide (r.dst = node ∧ r.tag = tag)) n.rsps } node

/-- Deliver the response of opcode `opc` for `tag` to its requester (R160): STATUS ERR when it ends with an EM tail; held
for a NAP of a PAUSED region or a bundle that is not LIVE, discarded and counted at another closed envelope (R54, R143),
discarded at a fenced port (R163). -/
def State.deliverRsp (s : State) (opc node tag : Nat) (em : Bool) : State :=
  match s.rspFor node tag with
  | none => s
  | some r =>
    if r.opc ≠ opc then s
    else
      let r := if em ∨ r.ended then { r with status := stErr, data := [], em := true } else r
      if s.rspFenced node then s.dropRsp node tag
      else
        let s := s.takeRsp node tag
        match unitOf node with
        | .fabricNap g k =>
          if s.f (CMX_B_STATUS_STATE (napBundle g k).1 (napBundle g k).2) ≠ 3 then
            s.updNoc fun n => { n with heldRsp := n.heldRsp ++ [r] }
          else
            match s.napClosed g with
            | some true => s.updNoc fun n => { n with heldRsp := n.heldRsp ++ [r] }
            | some false => s.updNoc fun n => countDiscard n node
            | none => s.updNoc fun n => oweCredits { n with delivered := r :: n.delivered } r
        | _ =>
          if s.f (NOC_PORT_STATUS_STATE (nodeRouter node) (nodePort node)) ≠ 1 then s.updNoc fun n => countDiscard n node
          else s.updNoc fun n => oweCredits { n with delivered := r :: n.delivered } r

/-- Packets held for a NAP: responses are delivered and requests let in (R54, after the envelope opens; 05 R143, after the bundle
pays out). -/
def State.releaseNap (s : State) (node : Nat) : State :=
  let shut := match unitOf node with
    | .fabricNap g k => !s.napOpen g || decide (s.f (CMX_B_STATUS_STATE (napBundle g k).1 (napBundle g k).2) ≠ 3)
    | _ => false
  if shut then s else
  let rs := s.noc.heldRsp.filter fun p => p.dst = node
  let qs := s.noc.heldReq.filter fun p => p.dst = node
  let s := s.updNoc fun n => rs.foldl oweCredits { n with
    heldRsp := n.heldRsp.filter (fun p => p.dst ≠ node)
    heldReq := n.heldReq.filter (fun p => p.dst ≠ node)
    delivered := rs.reverse ++ n.delivered }
  qs.foldl (fun t p => t.arrive p) s

def State.releaseHeld (s : State) (r : Nat) : State := (s.releaseNap (napNode r 0)).releaseNap (napNode r 1)

/-- Responses held for the NAPs of region r are discarded and counted; held requests are refused with STATUS ERR (R54:
a PAUSED region that leaves PAUSED without opening). -/
def State.refuseHeld (s : State) (r : Nat) : State :=
  let mine := fun (d : Nat) => decide (d = napNode r 0 ∨ d = napNode r 1)
  let rs := s.noc.heldRsp.filter fun p => mine p.dst
  let qs := s.noc.heldReq.filter fun p => mine p.dst
  let s := s.updNoc fun n => { n with
    heldRsp := n.heldRsp.filter (fun p => !mine p.dst)
    heldReq := n.heldReq.filter (fun p => !mine p.dst) }
  (rs.foldl (fun t p => t.updNoc fun n => countDiscard n p.dst) s).respondAll qs stErr

/-- 2 µs after it came, the oldest request held at a NAP of a PAUSED region is refused (R54). -/
def execNapHoldTimeout (node : Nat) (s : State) : Host.Outcome State Fault Refusal :=
  .next (match s.noc.heldReq.find? (fun p => p.dst = node) with
    | none => s
    | some p =>
      (s.updNoc fun n => { n with heldReq := dropFirst (fun q => q.dst = node) n.heldReq }).respond p stErr [])

/-- Port p of router k receives flit `j` of the last packet of its link with the bits of `err` inverted (`inward`: the packet that
the other side sent): a flit that fails its CRC is replayed from the sender's buffer, so what arrives is the flit as sent (R156). -/
def State.flitFails (s : State) (k p : Nat) (inward : Bool) (j err : Nat) : Bool :=
  let u := if inward then (if p < 4 then 32 * neighbour k p + facing p else 2048 + 32 * k + p) else 32 * k + p
  match SMap.get (fun _ => none) s.noc.sent u with
  | none => false
  | some (q : Packet) =>
    match q.toFlits[j]? with
    | none => false
    | some f => !(f.hit err).ok

/-- A replayed flit on port p of router k (R156): REPLAY_LIM replays in a row put a mesh link in FAULT (R173). Both ends then behave
as SIDE_DOWN: the requests that have crossed it either way are answered. -/
def State.linkReplay (s : State) (k p : Nat) (again : Bool) : State :=
  let u := 32 * k + p
  let n := if again then nget s.noc.replays u + 1 else 1
  let s := (s.count (NOC_PORT_STATUS_REPLAY k p) 1).updNoc fun x => { x with replays := nput x.replays u n }
  let lim := max 1 (s.eff NOC_XP_LINK_REPLAY_LIM)
  if p < 4 ∧ meshPresent k p ∧ lim ≤ n ∧ s.f (NOC_PORT_STATUS_STATE k p) = 1 then
    ((((s.setPort k p 7).raise .NOC_LINK_FAULT false 0 k).cutLink k p).cutLink (neighbour k p) (facing p)
      |>.answerTracked k p stSideDown).answerTracked (neighbour k p) (facing p) stSideDown
  else s

end Sys2Proof.Machine
end

