-- ==== Sys2Proof/Machine/Ecc.lean ====
section
/-! DEFINITION. The SECDED macros: errors found on reads, logs, counts and events (11 R270 to R275), and the commands
ECC_NOTIFY_READ, ECC_MCLR and ECC_INJ_ARM. -/

namespace Sys2Proof.Machine

open Reg

def State.macroOf (s : State) (m : Nat) : Macro := SMap.get (fun _ => Macro.empty) s.ecc.macros m

def State.setMacro (s : State) (m : Nat) (x : Macro) : State :=
  { s with ecc := { s.ecc with macros := SMap.put (fun _ => Macro.empty) s.ecc.macros m x } }

/-- Show the macro that ECC_SEL names in ECC_MSTAT and ECC_MLOG (R275). -/
def State.eccShow (s : State) : State :=
  let x := s.macroOf (s.f ECC_SEL_MACRO)
  let s := s.setFs [(ECC_MSTAT_CE, min x.ce 65535), (ECC_MSTAT_UE, min x.ue 255), (ECC_MSTAT_REFUSED, min x.refused 255)]
  (List.range 4).foldl (fun t j =>
    match x.log[j]? with
    | some l => t.setFs [(ECC_MLOG_VALID j, 1), (ECC_MLOG_UE j, b2n l.ue), (ECC_MLOG_HITS j, min l.hits 7),
        (ECC_MLOG_BIT j, l.bit), (ECC_MLOG_ROW j, l.row)]
    | none => t.setFs [(ECC_MLOG_VALID j, 0), (ECC_MLOG_UE j, 0), (ECC_MLOG_HITS j, 0), (ECC_MLOG_BIT j, 0),
        (ECC_MLOG_ROW j, 0)]) s

/-- Show the head of the ECC_NOTIFY queue. -/
def State.notifyShow (s : State) : State :=
  s.setFs [(ECC_NOTIFY_VALID, b2n (!s.ecc.notify.isEmpty)), (ECC_NOTIFY_OVF, b2n s.ecc.ovf),
    (ECC_NOTIFY_MACRO, s.ecc.notify.headD 0)]

/-- The lease a macro belongs to, for the scope of its events (R273): region of a RAM block or ballast, trio of an
engine bank. -/
def State.macroLease (s : State) (m : Nat) : Nat :=
  match m / 2 ^ 16 with
  | 0 => s.f (HUB_RGN_STATE_LEASE (m / 2 ^ 8 % 64))
  | 1 => s.f (HUB_RGN_STATE_LEASE (m / 2 ^ 8 % 256 / 3))
  | 2 => s.f (HUB_RGN_STATE_LEASE (m % 64))
  | _ => 0

/-- INST of a macro's events: its region or engine (R402). -/
def macroInst (m : Nat) : Nat :=
  match m / 2 ^ 16 with
  | 0 => m / 2 ^ 8 % 64
  | 1 => m / 2 ^ 8 % 256
  | 2 => m % 64
  | _ => noInst

/-- Stored bits in error of a word of a macro. -/
def State.badBits (s : State) (m row : Nat) : List Nat := SMap.get (fun _ => []) s.ecc.bad (m * 2 ^ 20 + row)

def State.setBadBits (s : State) (m row : Nat) (l : List Nat) : State :=
  { s with ecc := { s.ecc with bad := SMap.put (fun _ => []) s.ecc.bad (m * 2 ^ 20 + row) l } }

/-- What a read of a word meets (R270): 0 nothing, 1 a correctable, 2 an uncorrectable error. -/
def State.eccErr (s : State) (m row : Nat) : Nat := min 2 (s.badBits m row).length

/-- Add a failing row to a macro's log (R272). -/
def Macro.logRow (x : Macro) (row bit : Nat) (ue : Bool) : Macro :=
  if x.log.any (fun l => l.row = row) then
    { x with log := x.log.map fun l => if l.row = row then { l with hits := l.hits + 1, ue := l.ue || ue } else l }
  else if x.log.length < 4 then { x with log := x.log ++ [⟨row, ue, 0, bit⟩] }
  else x

/-- Push a macro's identifier into ECC_NOTIFY (R272, R275: 64 entries). -/
def State.eccNotify (s : State) (m : Nat) : State :=
  (if s.ecc.notify.length < 64 then { s with ecc := { s.ecc with notify := s.ecc.notify ++ [m] } }
   else { s with ecc := { s.ecc with ovf := true } }).notifyShow

/-- A read of a word of a macro is checked: an error is counted, logged and reported (R271 to R273). -/
def State.eccRead (s : State) (m row : Nat) : State :=
  let bits := s.badBits m row
  match bits with
  | [] => s
  | b :: t =>
    let ue := !t.isEmpty
    let x := s.macroOf m
    let first := x.log.isEmpty
    let x := if ue then { x with ue := x.ue + 1 } else { x with ce := x.ce + 1 }
    let x := x.logRow row (if ue then 0x7F else b) ue
    let warn := !ue && !x.weak && decide (max 1 (s.f ECC_CTRL_CE_WARN) ≤ x.ce)
    let x := if warn then { x with weak := true } else x
    let s := (s.setMacro m x).eccShow
    let s := if first then s.eccNotify m else s
    let s := if ue then s else s.pmcBump 8 0 1
    let s := if warn then s.raise .ECC_SRAM_WEAK false 0 (macroInst m) else s
    if ue then s.raise .ECC_SRAM_UE true (s.macroLease m) (macroInst m) else s

/-- A word of a macro is written: check bits are fresh, with the bits of an armed injection flipped (R271, R275). -/
def State.eccWrite (s : State) (m row : Nat) : State :=
  if s.ecc.inj = some m then
    let b := s.f ECC_XP_INJ_BIT
    let md := s.f ECC_XP_INJ_MODE
    let l := if md = 1 ∧ b ≤ 71 then [b] else if md = 2 ∧ b ≤ 70 then [b, b + 1] else []
    let s := s.setBadBits m row l
    { s with ecc := { s.ecc with inj := none } }
  else s.setBadBits m row []

/-- Rows of a macro, from `lo` on, that hold bits in error. -/
def State.badRows (s : State) (m lo n : Nat) : List Nat :=
  s.ecc.bad.filterMap fun e =>
    if m * 2 ^ 20 + lo ≤ e.1 ∧ e.1 < m * 2 ^ 20 + lo + n then some (e.1 - m * 2 ^ 20) else none

/-- Read `n` rows of a macro: whether one was uncorrectable (R271 to R273). -/
def State.eccReadRange (s : State) (m lo n : Nat) : State × Bool :=
  let rows := s.badRows m lo n
  (rows.foldl (fun t r => t.eccRead m r) s, rows.any fun r => decide (s.eccErr m r = 2))

/-- Write `n` rows of a macro: check bits are fresh; an armed injection takes the first (R275). -/
def State.eccWriteRange (s : State) (m lo n : Nat) : State :=
  let s := { s with ecc := { s.ecc with
    bad := s.ecc.bad.filter fun e => decide (e.1 < m * 2 ^ 20 + lo ∨ m * 2 ^ 20 + lo + n ≤ e.1) } }
  if s.ecc.inj = some m ∧ 0 < n then s.eccWrite m lo else s

/-- Macro identifier of the unit that holds logical RAM block k of region r (R275, 02 R44). -/
def State.ramMacro (s : State) (r k : Nat) : Nat :=
  let u := 256 * r + k
  if nget s.bist.map u = 0 then u else nget s.bist.map u - 1

/-- Macro identifiers of ballast and of the hub SRAMs (R275). -/
def balMacro (r : Nat) : Nat := 2 * 2 ^ 16 + r
def mgmtMacro : Nat := 3 * 2 ^ 16
def stageMacro : Nat := 3 * 2 ^ 16 + 2
def mapMacro : Nat := 3 * 2 ^ 16 + 4

/-- A write refused by a RAM block in ECC mode (R274). -/
def State.ramRefused (s : State) (m : Nat) : State :=
  let x := s.macroOf m
  let s := (s.setMacro m { x with refused := x.refused + 1, ref := true }).eccShow
  if x.ref then s else s.raise .RAM_WRITE_REFUSED true (s.macroLease m) (macroInst m)

/-- A read of ECC_NOTIFY returns the head and pops it; OVF is cleared by the read (R275). -/
def State.notifyWord (s : State) : Nat :=
  b2n (!s.ecc.notify.isEmpty) * 2 ^ 31 + b2n s.ecc.ovf * 2 ^ 30 + s.ecc.notify.headD 0
def State.notifyPop (s : State) : State :=
  { s with ecc := { s.ecc with notify := s.ecc.notify.tail, ovf := false } }.notifyShow

def execEccNotifyRead (s : State) : Host.Outcome State Fault Refusal :=
  .next (s.notifyPop.answer (.ok s.notifyWord))

/-- ECC_MCLR.CLR clears the selected macro's log and counts and re-arms its events (R275). -/
def State.eccClear (s : State) : State := (s.setMacro (s.f ECC_SEL_MACRO) Macro.empty).eccShow

def execEccMclr (m : Master) (s : State) : Host.Outcome State Fault Refusal :=
  .next (s.viaWrite m ECC_MCLR State.eccClear)

/-- ECC_XP_INJ.ARM, an expert register (R275): the next write to the selected macro stores flipped bits. -/
def State.eccArm (s : State) : State := { s with ecc := { s.ecc with inj := some (s.f ECC_SEL_MACRO) } }

def execEccInjArm (m : Master) (s : State) : Host.Outcome State Fault Refusal :=
  .next (s.viaWrite m ECC_XP_INJ fun s => if s.xpOn ECC_XP_INJ then s.eccArm else s.dropWrite m .expert ECC_XP_INJ)

/-! ## Stored errors -/

/-- Bits of a set that a flip leaves in error. -/
def toggle (l : List Nat) (b : Nat) : List Nat := if l.contains b then l.filter (· ≠ b) else l ++ [b]

/-- The state with a bit of an SRAM word or a symbol of an HBM word upset in storage (R270). For an HBM word `mid` is
2^20 or more and `row` is the address div 32. -/
def State.upset (s : State) (mid row bit : Nat) : State :=
  if mid < 2 ^ 20 then s.setBadBits mid row (toggle (s.badBits mid row) bit)
  else
    let l := SMap.get (fun _ => []) s.ecc.hbmBad row
    { s with ecc := { s.ecc with hbmBad := SMap.put (fun _ => []) s.ecc.hbmBad row (if l.contains bit then l else l ++ [bit]) } }

/-- MEMORY_BIT_ERROR: a bit of an SRAM macro's word, or a symbol of an HBM word, is upset in storage (R270). -/
def execMemoryBitError (mid row bit : Nat) (s : State) : Host.Outcome State Fault Refusal :=
  .next (s.upset mid row bit)

end Sys2Proof.Machine
end

