-- ==== Sys2Proof/Machine/Dmc.lean ====
section
/-! DEFINITION. The stacked DRAM controllers (10 R244 to R269, 11 R276 to R280): queues, ordering, scheduling, refresh,
self-refresh, calibration, retraining, and their commands. -/

namespace Sys2Proof.Machine

open Reg

def State.pcAt (s : State) (n : Nat) : Pc := SMap.get (fun _ => Pc.empty) s.pcs n

/-- Store a controller and show its queue levels (R268, R280). -/
def State.setPc (s : State) (n : Nat) (c : Pc) : State :=
  { s with pcs := SMap.put (fun _ => Pc.empty) s.pcs n c }.setFs
    [(DMC_STATUS_RQ n, c.rq.length), (DMC_STATUS_WQ n, c.wq.length),
     (DMC_MRG_STATUS_LEVEL n, (c.wq.filter fun (b : Beat) => b.mrg).length)]

def State.updPc (s : State) (n : Nat) (f : Pc → Pc) : State := s.setPc n (f (s.pcAt n))

/-- STATE of a controller (R268): 0 DOWN, 1 LIVE, 2 REELED, 3 TRAIN, 4 SLEEP, 5 RECAL, 7 FAULT. -/
def State.pcState (s : State) (n : Nat) : Nat := s.f (DMC_STATUS_STATE n)
def State.setPcState (s : State) (n v : Nat) : State := s.setF (DMC_STATUS_STATE n) v

/-! ## Geometry (R245, R246) -/

/-- Row and bank (0 to 47: SID × 16 + bank) of a byte address inside a pseudo-channel. -/
def rowBank (P : Nat) : Nat × Nat :=
  let q := P / 2 ^ 14
  let row := q / 3
  (row, q % 3 * 16 + ((P / 2 ^ 10 % 16) ^^^ (row % 16)))

/-- Row and bank of an HBM address. -/
def State.rowBankOf (s : State) (a : Nat) : Nat × Nat := rowBank (mapAddr (s.f DMC_GLB_CTRL_MAP) a).2

/-! ## Words and errors (R276) -/

/-- Symbols in error of the stored 32-byte word at address `a`. -/
def State.wordBad (s : State) (a : Nat) : List Nat := SMap.get (fun _ => []) s.ecc.hbmBad (a / 32)

def State.setWordBad (s : State) (a : Nat) (l : List Nat) : State :=
  { s with ecc := { s.ecc with hbmBad := SMap.put (fun _ => []) s.ecc.hbmBad (a / 32) l } }

/-- An error found at a word is counted and shown in DMC_ECC_* (R277, R280). -/
def State.pcSeeErr (s : State) (n a : Nat) (l : List Nat) : State :=
  match l with
  | [] => s
  | b :: t =>
    let ue := !t.isEmpty
    let s := s.count (if ue then DMC_ECC_CNT_UE n else DMC_ECC_CNT_CE n) 1
    let s := if ue then s else s.pmcBump 9 0 1
    s.setFs [(DMC_ECC_LAST_ADDR_WORD n, (mapAddr (s.f DMC_GLB_CTRL_MAP) a).2 / 32), (DMC_ECC_LAST_INFO_VALID n, 1),
      (DMC_ECC_LAST_INFO_UE n, b2n ue), (DMC_ECC_LAST_INFO_SYMBOL n, if ue then 0x3F else b)]

/-- The enables of one 32-byte word of a beat (h = 0 or 1). -/
def Beat.wordEn (b : Beat) (h : Nat) : List Bool := (b.en.drop (32 * h)).take 32

/-- A word is partly enabled, so it needs a merge (R279). -/
def Beat.wordPart (b : Beat) (h : Nat) : Bool := (b.wordEn h).any id && !(b.wordEn h).all id

def Beat.isPart (b : Beat) : Bool := b.wordPart 0 || b.wordPart 1

/-- Write a beat to the DRAM: the enabled bytes, with fresh check bits for every word written (R276). -/
def State.writeBeat (s : State) (b : Beat) : State :=
  let s := s.setBytesEn b.addr b.data b.en
  let s := if (b.wordEn 0).any id then s.setWordBad b.addr [] else s
  if (b.wordEn 1).any id then s.setWordBad (b.addr + 32) [] else s

/-! ## A change of the mapping (R248) -/

/-- What a controller holds, by the addresses of the new mapping. -/
def Pc.remap (c : Pc) (g : Nat → Nat) : Pc :=
  let b := fun (x : Beat) => { x with addr := g x.addr }
  { c with
    rq := c.rq.map b, wq := c.wq.map b, issued := c.issued.map b
    head := c.head.map fun x => (x.1, { x.2 with addr := g x.2.addr })
    reqs := c.reqs.map fun q => { q with p := { q.p with addr := g q.p.addr }, got := q.got.map fun e => (g e.1, e.2) } }

/-- DMC_GLB_CTRL.MAP has changed: what HBM holds lies at other addresses (R248). -/
def State.mapMoved (s : State) (old new : Nat) : State :=
  if old = new then s
  else
    let g := remapAddr old new
    let s := { s with
      mem := s.mem.foldl (fun m (e : Nat × Byte) => SMap.put memDefault m (g e.1) e.2) []
      ecc := { s.ecc with hbmBad := s.ecc.hbmBad.foldl (fun m (e : Nat × List Nat) => SMap.put (fun _ => []) m (g (32 * e.1) / 32) e.2) [] } }
    (s.pcs.map (Prod.fst)).foldl (fun t n => t.updPc n fun c => c.remap g) s

/-! ## Arrival (R247, R249, R250) -/

/-- The requester port of a request (R249). -/
def pcPort (p : Packet) : Nat :=
  match p.vc with
  | 2 => 4
  | 3 => match unitOf p.src with | .enc _ => 5 | _ => 6
  | _ =>
    match unitOf p.src with
    | .fabricNap _ _ => 0
    | .engine _ => 1
    | .quad _ | .pcie _ => 2
    | .enc _ => 3
    | _ => 7

/-- Addresses of the 64-byte beats of a request. -/
def beatAddrs (a n : Nat) : List Nat := (List.range ((a + n - 1) / 64 + 1 - a / 64)).map fun i => (a / 64 + i) * 64

/-- The bytes and enables of a write in the beat at `b`. -/
def beatData (p : Packet) (b : Nat) : List Byte × List Bool :=
  let n := p.bcnt + 1
  ((List.range 64).map fun j => if p.addr ≤ b + j ∧ b + j < p.addr + n then (p.data[b + j - p.addr]?).getD 0 else 0,
   (List.range 64).map fun j =>
     decide (p.addr ≤ b + j ∧ b + j < p.addr + n) && (p.be[b + j - p.addr]?).getD true)

/-- Entries of a queue in use: a port's own, and those of the shared pool (R250: 4 reserved for each port, 32 shared). -/
def usedBy (q : List Beat) (p : Nat) : Nat := (q.filter fun b => b.port = p).length
def sharedUsed (q : List Beat) : Nat := ((List.range 8).map fun p => usedBy q p - 4).foldl (· + ·) 0

/-- A request of `k` beats on port p fits: its port's reserved entries first, then shared ones when it may use them. -/
def fits (q : List Beat) (p k : Nat) (shared : Bool) : Bool :=
  decide (k ≤ (4 - min 4 (usedBy q p)) + (if shared then 32 - sharedUsed q else 0))

/-- Merge entries that a request needs (R279). -/
def Packet.mergeBeats (p : Packet) : Nat :=
  if p.opc = opcWrite then
    ((beatAddrs p.addr (p.bcnt + 1)).filter fun b =>
      let d := beatData p b
      (⟨0, b, 0, 0, 0, d.1, d.2, false, false, 0, 0, [], []⟩ : Beat).isPart).length
  else 0

/-- A request can enter its queue (R250, R279). -/
def Pc.canEnter (c : Pc) (p : Packet) (shared : Bool) : Bool :=
  let k := (beatAddrs p.addr (p.bcnt + 1)).length
  if p.opc = opcWrite then
    fits c.wq (pcPort p) k shared && decide ((c.wq.filter (·.mrg)).length + p.mergeBeats ≤ 16)
  else fits c.rq (pcPort p) k shared

/-- A read beat waits under R252: an older write of its address is queued. -/
def Pc.readWaits (c : Pc) (b : Beat) : Bool := c.wq.any fun w => w.addr = b.addr && decide (w.age < b.age)

/-- Hazard priority under R252 when a beat has arrived: a read raises the older writes of its address; a write raises the
older reads of its address. -/
def Pc.hazards (c : Pc) (rd : Bool) (a : Nat) : Pc :=
  if rd then { c with wq := c.wq.map fun b => if b.addr = a then { b with hz := true } else b } else c

/-- A request whose head flit arrived at time `t` enters its queue beat by beat (R250). A WRITE with no merge is answered OK (R251). -/
def State.pcEnter (s : State) (n t : Nat) (p : Packet) : State :=
  let c := s.pcAt n
  let id := c.next
  let addrs := beatAddrs p.addr (p.bcnt + 1)
  let wr := decide (p.opc = opcWrite)
  let mk := fun (i a : Nat) =>
    let d := if wr then beatData p a else ([], [])
    let b : Beat := ⟨id, a, pcPort p, id * 8 + i, t, d.1, d.2, false, false, p.page % 4, p.lease, [], []⟩
    { b with mrg := wr && b.isPart }
  let beats := addrs.mapIdx mk
  let m := (beats.filter (·.mrg)).length
  let c := addrs.foldl (fun c a => c.hazards (!wr) a) c
  let c := { c with
    next := id + 1
    wq := if wr then c.wq ++ beats else c.wq
    rq := if wr then c.rq else c.rq ++ beats
    reqs := if wr && m = 0 then c.reqs else c.reqs ++ [⟨id, p, if wr then m else addrs.length, [], false⟩] }
  let s := s.setPc n c
  if wr then (if m = 0 then s.respond p stOk [] else s)
  else if beats.all c.readWaits then s
  else s.arbAsk (.pc n) ⟨pcPort p, s.eff (DMC_PORT_QOS_FLOOR n (pcPort p)), 0, 0⟩   -- a ready beat: the port raises its request (R254)

/-- Let waiting requests enter: the oldest may use shared entries, the head of another VC only its port's reserved ones
while the oldest waits (R250). -/
def State.pcAdmit (s : State) (n : Nat) : Nat → State
  | 0 => s
  | k + 1 =>
    let c := s.pcAt n
    match c.head with
    | [] => s
    | p :: t =>
      if c.canEnter p.2 true then ((s.setPc n { c with head := t }).pcEnter n p.1 p.2).pcAdmit n k
      else
        match t.find? (fun q => q.2.vc ≠ p.2.vc && c.canEnter q.2 false &&
            !((t.takeWhile (fun x => x ≠ q)).any fun x => x.2.vc = q.2.vc)) with
        | some q => ((s.setPc n { c with head := p :: t.erase q }).pcEnter n q.1 q.2).pcAdmit n k
        | none => s

/-- The answer of a controller that serves no request now (R261, R264, R265, R266). -/
def State.pcRefusal (s : State) (n : Nat) : Option Nat :=
  let st := s.pcState n
  if st = 0 ∨ st = 3 then some stSideDown
  else if st = 2 ∨ st = 7 ∨ (s.pcAt n).reel then some stUnreach
  else none

/-- A request that has reached the controller is refused, or sorted onto its port and entered or held (R247, R249). A
fenced port's reads are answered FENCED (R187). -/
def State.pcAccept (s : State) (n : Nat) (p : Packet) : State :=
  if !isRequest p then s.updNoc fun x => countDiscard x (pcNode n)
  else
    match s.pcRefusal n with
    | some st => s.respond p st []
    | none =>
      if !isHbm p.addr || decide (s.pcOf p.addr ≠ n) || decide (512 < p.addr % 512 + (p.bcnt + 1)) then
        s.respond p stErr []
      else if p.opc = opcRead ∧ (s.arb (.pc n)).fenced.contains (pcPort p) then s.respond p stFenced []
      else (s.updPc n fun c => { c with head := c.head ++ [(s.nocTime, p)] }).pcAdmit n (((s.pcAt n).head.length) + 1)

/-- DMC_REQUEST: the oldest request at the controller's input is accepted. A sleeping controller is woken first (R260). -/
def execDmcRequest (n : Nat) (s : State) : Host.Outcome State Fault Refusal :=
  .next (match s.noc.inbox.find? (fun p => p.dst = pcNode n) with
    | none => s
    | some p =>
      if s.pcState n = 4 ∧ isRequest p ∧ !(s.pcAt n).reel then s
      else (s.updNoc fun x => { x with inbox := dropFirst (fun q => q.dst = pcNode n) x.inbox }).pcAccept n p)

/-- DMC_QUEUE_ENTRY_FREE: waiting head requests enter as far as they fit (R250). -/
def execDmcQueueEntryFree (n : Nat) (s : State) : Host.Outcome State Fault Refusal :=
  .next (s.pcAdmit n (s.pcAt n).head.length)

/-! ## Merge (R279, R280) -/

/-- Merge the words of a partly written beat: the enabled bytes over the stored, corrected word. A word whose read is
uncorrectable is not written. -/
def State.mergeBeat (s : State) (b : Beat) : Beat × Bool :=
  let word := fun (h : Nat) =>
    let a := b.addr + 32 * h
    let en := b.wordEn h
    let d := (b.data.drop (32 * h)).take 32
    if !b.wordPart h then (d, en, false)
    else if 2 ≤ (s.wordBad a).length then (d, List.replicate 32 false, true)
    else ((List.range 32).map fun j => if (en[j]?).getD false then (d[j]?).getD 0 else s.byte (a + j),
          List.replicate 32 true, false)
  let w0 := word 0
  let w1 := word 1
  ({ b with data := w0.1 ++ w1.1, en := w0.2.1 ++ w1.2.1, mrg := false }, w0.2.2 || w1.2.2)

/-- HBM_UE for a request (R278): TENANT for its lease, DEVICE when it is 0x00. -/
def State.hbmUe (s : State) (n lease : Nat) : State := s.raise .HBM_UE true lease n

/-- Beat `b` of the merge buffer is merged. When the last merge of its WRITE is done the response leaves: ERR when a merge read was
uncorrectable (R279, R280). -/
def State.mergeThis (s : State) (n : Nat) (b : Beat) : State :=
  let c := s.pcAt n
  let r := s.mergeBeat b
  let s := s.pcSeeErr n b.addr (if b.wordPart 0 then s.wordBad b.addr else [])
  let s := s.pcSeeErr n (b.addr + 32) (if b.wordPart 1 then s.wordBad (b.addr + 32) else [])
  let s := s.count (if r.2 then DMC_MRG_STATUS_MERGE_UE n else DMC_MRG_STATUS_MERGES n) 1
  let s := if r.2 then s.hbmUe n b.lease else s
  let c := { c with wq := c.wq.map fun (x : Beat) => if x.age = b.age then r.1 else x }
  match c.reqs.find? (fun q => q.rid = b.rid) with
  | none => s.setPc n c
  | some q =>
    let q' := { q with left := q.left - 1, bad := q.bad || r.2 }
    if q'.left = 0 then
      (s.setPc n { c with reqs := c.reqs.filter (fun (x : PcReq) => x.rid ≠ q.rid) }).respond q.p (if q'.bad then stErr else stOk) []
    else s.setPc n { c with reqs := c.reqs.map fun (x : PcReq) => if x.rid = q.rid then q' else x }

/-- The oldest beat in the merge buffer is merged, unless an older write of its address is still queued (R252, R279). -/
def execDmcMerge (n : Nat) (s : State) : Host.Outcome State Fault Refusal :=
  let c := s.pcAt n
  .next (match c.wq.find? (·.mrg) with
    | none => s
    | some b =>
      if c.wq.any (fun x => x.addr = b.addr && decide (x.age < b.age)) then
        s.setPc n { c with wq := c.wq.map fun (x : Beat) => if x.addr = b.addr ∧ x.age < b.age then { x with hz := true } else x }
      else s.mergeThis n b)

/-! ## Scheduling (R252 to R256) -/

/-- A write beat waits: it is in the merge buffer, or an older write or read of its address is queued (R252). -/
def Pc.writeWaits (c : Pc) (b : Beat) : Bool :=
  b.mrg || c.wq.any (fun w => w.addr = b.addr && decide (w.age < b.age))
    || c.rq.any (fun r => r.addr = b.addr && decide (r.age < b.age))

/-- A beat's urgency by its age against its port's target (R256), in ns; NoC time counts half nanoseconds. -/
def State.urgency (s : State) (n : Nat) (b : Beat) : Nat :=
  let fl := s.eff (DMC_PORT_QOS_FLOOR n b.port)
  let tg := s.eff (DMC_PORT_QOS_TARGET_NS n b.port)
  let age := (s.nocTime - b.time) / 2
  if tg = 0 then fl
  else max fl (if tg ≤ age then 3 else if 3 * tg ≤ 4 * age then 2 else if tg ≤ 2 * age then 1 else 0)

/-- The page of a beat's bank is open at its row. -/
def State.rowHit (s : State) (c : Pc) (b : Beat) : Bool :=
  let rb := s.rowBankOf b.addr
  decide ((SMap.get (fun _ => none) c.pages rb.2).map (·.1) = some rb.1)

/-- Choose among ready beats: a same-row hit first, but at most HIT_MAX in a row at a bank while an older beat to another
row of that bank waits (R254), otherwise the oldest. Beats are listed oldest first. -/
def State.pick (s : State) (n : Nat) (c : Pc) (l : List Beat) : Option Beat :=
  let lim := max 1 (s.eff (DMC_PAGE_HIT_MAX n))
  let ok := fun (b : Beat) =>
    let bank := (s.rowBankOf b.addr).2
    s.rowHit c b && (decide (nget c.hits bank < lim) ||
      !l.any (fun x => decide (x.age < b.age ∧ (s.rowBankOf x.addr).2 = bank) && !s.rowHit c x))
  match l.find? ok with
  | some b => some b
  | none => l.head?

/-- The page and hit count of a bank after an access with a hint (R255): close carries auto-precharge. An access that finds its row
closed activates the bank (R244). -/
def State.touchPage (s : State) (c : Pc) (b : Beat) : Pc :=
  let rb := s.rowBankOf b.addr
  let hit := s.rowHit c b
  { c with
    pages := SMap.put (fun _ => none) c.pages rb.2 (if b.hint = 2 then none else some (rb.1, b.hint))
    hits := nput c.hits rb.2 (if hit then nget c.hits rb.2 + 1 else 0)
    acts := if hit then c.acts else nput c.acts rb.2 (nget c.acts rb.2 + 1) }

/-- Issue a write beat. -/
def State.issueWrite (s : State) (n : Nat) (b : Beat) : State :=
  let c := s.pcAt n
  (s.writeBeat b).setPc n (s.touchPage { c with wq := c.wq.filter (fun x => x.age ≠ b.age) } b)

/-- A read beat that issues at or after its target counts in LAT_MISS of its port (R256). -/
def State.readSeen (s : State) (n : Nat) (b : Beat) : State :=
  let tg := s.eff (DMC_PORT_QOS_TARGET_NS n b.port)
  (if tg ≠ 0 ∧ tg ≤ (s.nocTime - b.time) / 2 then (s.count (DMC_PORT_STAT_LAT_MISS n b.port) 1).pmcBump 6 n 1
    else s).pmcBump 5 n 1

/-- Issue a read beat: its words are fetched with their errors. -/
def State.issueRead (s : State) (n : Nat) (b : Beat) : State :=
  let c := s.pcAt n
  let s := s.readSeen n b
  let b' := { b with data := s.bytes b.addr 64, err0 := s.wordBad b.addr, err1 := s.wordBad (b.addr + 32) }
  s.setPc n (s.touchPage { c with rq := c.rq.filter (fun x => x.age ≠ b.age), issued := c.issued ++ [b'] } b)

/-! ## Hub-side accesses

Units of the hub that reach HBM in one step of theirs read and write through these: what is queued at the controllers for the same
beats goes first, in the order of its arrival (R252). -/

/-- The oldest queued beat that touches [a, a + k) goes: a write that waits in the merge buffer is merged, another is written, a read
fetches its words. -/
def State.drainGo (n a k : Nat) : Nat → State → State
  | 0, s => s
  | f + 1, s =>
    let c := s.pcAt n
    let hit := fun (b : Beat) => overlaps b.addr 64 a k
    match c.wq.find? hit, c.rq.find? hit with
    | some w, some r =>
      State.drainGo n a k f (if r.age < w.age then s.issueRead n r else if w.mrg then s.mergeThis n w else s.issueWrite n w)
    | some w, none => State.drainGo n a k f (if w.mrg then s.mergeThis n w else s.issueWrite n w)
    | none, some r => State.drainGo n a k f (s.issueRead n r)
    | none, none => s

/-- Drain what a controller has queued for the bytes [a, a + k) of one of its blocks. -/
def State.drainFor (s : State) (a k : Nat) : State :=
  let n := s.pcOf a
  let c := s.pcAt n
  State.drainGo n a k (c.rq.length + 2 * c.wq.length) s

/-- Drain for every 512-byte block of a range (R246: a block lies in one pseudo-channel). -/
def State.drainRange (s : State) (a k : Nat) : State :=
  (List.range ((a + k + 511) / 512 - a / 512)).foldl (fun t i =>
    t.drainFor ((a / 512 + i) * 512) 512) s

/-- Beats that a unit issues in one step of its own, with the requester port and the VC of packet `p` (R249): the beats of `k` bytes
from `a`, with a write's data. -/
def State.unitBeats (s : State) (p : Packet) (a k : Nat) (d : List Byte) : List Beat :=
  (beatAddrs a k).map fun b =>
    ⟨0, b, pcPort p, 0, s.nocTime, (d.drop (b - a)).take 64, if d.isEmpty then [] else List.replicate 64 true, false, false, p.page % 4,
      p.lease, [], []⟩

/-- A unit's request reads `k` bytes of one block: what is queued for them goes first; the pages see the accesses, and the port counts
them (R252, R255, R256). -/
def State.unitRead (s : State) (p : Packet) (a k : Nat) : State :=
  let n := s.pcOf a
  (s.unitBeats p a k []).foldl (fun t b => (t.readSeen n b).setPc n (t.touchPage (t.pcAt n) b)) (s.drainFor a k)

/-- A unit's request writes whole words of one block. -/
def State.unitWrite (s : State) (p : Packet) (a : Nat) (d : List Byte) : State :=
  let n := s.pcOf a
  (s.unitBeats p a d.length d).foldl (fun t b => (t.writeBeat b).setPc n (t.touchPage (t.pcAt n) b)) (s.drainFor a d.length)

/-- Read HBM bytes from a unit of the hub. -/
def State.hbmRead (s : State) (a k : Nat) : State × List Byte :=
  let s := s.drainRange a k
  (s, s.bytes a k)

/-- Write HBM bytes from a unit of the hub. -/
def State.hbmWrite (s : State) (a : Nat) (d : List Byte) : State :=
  let s := (s.drainRange a d.length).setBytes a d
  (List.range ((a + d.length + 31) / 32 - a / 32)).foldl (fun t i => t.setWordBad ((a / 32 + i) * 32) []) s

/-- A word of the range is uncorrectable. -/
def State.hbmBadRange (s : State) (a k : Nat) : Bool :=
  (List.range ((a + k + 31) / 32 - a / 32)).any fun i => decide (2 ≤ (s.wordBad ((a / 32 + i) * 32)).length)

/-- Show the urgency of each port's oldest queued read and raise the class of its request, wherever that stands (R254, R256,
07 R181). -/
def State.reclass (s : State) (n : Nat) : State :=
  let c := s.pcAt n
  let urg := fun (p : Nat) => match c.rq.find? (·.port = p) with
    | some b => s.urgency n b
    | none => s.eff (DMC_PORT_QOS_FLOOR n p)
  let b := s.arb (.pc n)
  let up := fun (q : ArbReq) => { q with urg := urg q.idx }
  let s := s.setArb (.pc n) { b with owner := b.owner.map up, spool := b.spool.map up, held := b.held.map up,
                                     resume := b.resume.map fun e => (up e.1, e.2) }
  (List.range 8).foldl (fun t p => t.setF (DMC_PORT_STAT_URG n p) (if c.rq.any (·.port = p) then urg p else 0)) s

/-- A port raises its request while it has a ready read beat and drops it otherwise (R254); `ready` are the ready ones. -/
def State.pcPorts (s : State) (n : Nat) (ready : List Beat) : State :=
  (List.range 8).foldl (fun t p =>
    if ready.any (·.port = p) then t.arbAsk (.pc n) ⟨p, t.eff (DMC_PORT_QOS_FLOOR n p), 0, 0⟩
    else if t.arbStands (.pc n) p && !(t.arb (.pc n)).fenced.contains p then t.arbDrop (.pc n) p false
    else t) s

/-- Whether a write turn runs now (R253), and its kind. -/
def State.writeTurn (s : State) (n : Nat) (c : Pc) (readReady : Bool) : Nat :=
  let hi := s.eff (DMC_WQ_HI n)
  let lo := s.eff (DMC_WQ_LO n)
  let us := max 1 (s.eff (DMC_WQ_AGE_US n))
  let old := c.wq.any fun b => decide (us * 2000 ≤ s.nocTime - b.time)
  if c.turn = 1 then (if c.wq.length ≤ lo ∧ !old then 0 else 1)
  else if hi ≤ c.wq.length ∨ old then 1
  else if !readReady ∧ !c.wq.isEmpty then 2
  else 0

/-- A reel-in whose queues have drained ends in REELED (R266). -/
def State.pcReeled (s : State) (n : Nat) : State :=
  let c := s.pcAt n
  if c.reel && c.rq.isEmpty && c.wq.isEmpty && c.head.isEmpty && c.issued.isEmpty then
    (s.setPc n { c with reel := false, pages := [], hits := [] }).setPcState n 2
  else s

/-- A bank that is due a refresh-management command (R244): at twice the threshold at once, at the threshold when it is idle. -/
def State.rfmDue (s : State) (c : Pc) (busy : List Nat) (twice : Bool) : Option Nat :=
  (c.acts.map (·.1)).find? fun k => !busy.contains k
    && decide (max 1 Config.rfmThreshold * (if twice then 2 else 1) ≤ nget c.acts k)
    && (twice || !(c.rq ++ c.wq).any fun b => decide ((s.rowBankOf b.addr).2 = k))

/-- RFMpb: the bank's page closes, and its activates count from 0 (DESIGN CHOICE, log 91). -/
def Pc.rfm (c : Pc) (k : Nat) : Pc :=
  { c with pages := SMap.put (fun _ => none) c.pages k none, hits := nput c.hits k 0, acts := nput c.acts k 0 }

/-- The lowest command source (R253): refresh management of an idle bank, else a per-bank refresh into the lowest idle bank that this
round still owes (R258). -/
def State.refreshSlot (s : State) (n : Nat) (busy : List Nat) : State :=
  let c := s.pcAt n
  let debt := s.f (DMC_REF_STATUS_DEBT n)
  match s.rfmDue c busy false with
  | some k => s.setPc n (c.rfm k)
  | none =>
    if debt = 0 then s
    else
      match (List.range 48).find? (fun k => !busy.contains k && !c.round.contains k &&
          !(c.rq ++ c.wq).any (fun b => decide ((s.rowBankOf b.addr).2 = k))) with
      | none => s
      | some k =>
        let rd := c.round ++ [k]
        (s.setPc n { c with
          round := if 48 ≤ rd.length then [] else rd
          pages := SMap.put (fun _ => none) c.pages k none }).setF (DMC_REF_STATUS_DEBT n) (debt - 1)

/-- One command slot (R253): the first source that has a beat or command ready issues it. `busy` lists the banks whose
timing allows no command now. -/
def execDmcCommandSlot (n : Nat) (busy : List Nat) (s : State) : Host.Outcome State Fault Refusal :=
  .next (if s.pcState n ≠ 1 then s
    else
      let c := s.pcAt n
      let free := fun (b : Beat) => !busy.contains (s.rowBankOf b.addr).2
      let rds := c.rq.filter fun b => free b && !c.readWaits b
      let wrs := c.wq.filter fun b => free b && !c.writeWaits b
      let lim := 48 * max 1 (s.eff (DMC_REF_POSTPONE_LIM n))
      let debt := s.f (DMC_REF_STATUS_DEBT n)
      if lim ≤ debt then
        ((s.setPc n { c with pages := [], hits := [], round := [] }).setF (DMC_REF_STATUS_DEBT n) (debt - 48)).count
          (DMC_REF_STATUS_FALLBACK n) 1
      else if let some k := s.rfmDue c busy true then s.setPc n (c.rfm k)
      else
        let turn := s.writeTurn n c (!rds.isEmpty)
        -- a read older than a queued write to its address is at hazard priority with it (R252)
        let hzw := wrs.find? (·.hz)
        let hzr := rds.find? fun r => c.wq.any fun w => w.addr = r.addr && decide (r.age < w.age)
        let c := { c with turn := turn }
        let s := s.setPc n c
        let hz : Option (Bool × Beat) :=
          match hzw, hzr with
          | some w, some r => if w.age < r.age then some (true, w) else some (false, r)
          | some w, none => some (true, w)
          | none, some r => some (false, r)
          | none, none => none
        match hz with
        | some (true, b) => ((s.issueWrite n b).pcAdmit n 8).pcReeled n
        | some (false, b) => (s.issueRead n b).pcAdmit n 8
        | none =>
          match (if turn = 0 then none else s.pick n c wrs) with
          | some b => ((s.issueWrite n b).pcAdmit n 8).pcReeled n
          | none =>
            let s := ((s.pcPorts n rds).reclass n).arbGrant (.pc n)
            let own := match (s.arb (.pc n)).owner with
              | some o => s.pick n c (rds.filter (·.port = o.idx))
              | none => none
            match own with
            | some b =>
              let s := s.issueRead n b
              let more := rds.any fun x => decide (x.port = b.port ∧ x.age ≠ b.age)
              ((s.arbBeat (.pc n) more).pcAdmit n 8)
            | none => s.refreshSlot n busy)

/-- A correctable word found by a read is written back as a full-word write at hazard priority, in the arrival position
of the read that found it (R277); `h0` and `h1` name the words. A word that a later write has replaced needs none. -/
def writeBack (b : Beat) (h0 h1 : Bool) : Beat :=
  { b with
    en := List.replicate 32 h0 ++ List.replicate 32 h1
    hz := true, mrg := false, err0 := [], err1 := [] }

/-- Insert a beat into a queue at its arrival position. -/
def insertAge (b : Beat) : List Beat → List Beat
  | [] => [b]
  | x :: t => if b.age < x.age then b :: x :: t else x :: insertAge b t

/-- DMC_READ_CHECKED: the oldest issued read beat returns and is checked (R251, R277, R278). -/
def execDmcReadChecked (n : Nat) (s : State) : Host.Outcome State Fault Refusal :=
  let c := s.pcAt n
  .next (match c.issued with
    | [] => s
    | b :: rest =>
      let ue := decide (2 ≤ b.err0.length ∨ 2 ≤ b.err1.length)
      let s := (s.pcSeeErr n b.addr b.err0).pcSeeErr n (b.addr + 32) b.err1
      let h0 := decide (b.err0.length = 1 ∧ s.wordBad b.addr = b.err0)
      let h1 := decide (b.err1.length = 1 ∧ s.wordBad (b.addr + 32) = b.err1)
      let wq := if h0 || h1 then insertAge (writeBack b h0 h1) c.wq else c.wq
      let c := { c with issued := rest, wq := wq }
      match c.reqs.find? (fun q => q.rid = b.rid) with
      | none => (s.setPc n c).pcReeled n
      | some q =>
        let q' := { q with left := q.left - 1, got := q.got ++ [(b.addr, b.data)], bad := q.bad || ue }
        let s := if ue then s.hbmUe n b.lease else s
        if q'.left = 0 then
          let d := (List.range (q.p.bcnt + 1)).map fun i =>
            let a := q.p.addr + i
            match q'.got.find? (fun g => g.1 = a / 64 * 64) with
            | some g => (g.2[a % 64]?).getD 0
            | none => 0
          ((s.setPc n { c with reqs := c.reqs.filter (fun (x : PcReq) => x.rid ≠ q.rid) }).respond q.p
            (if q'.bad then stPoison else stOk) (if q'.bad then [] else d)).pcReeled n
        else s.setPc n { c with reqs := c.reqs.map fun (x : PcReq) => if x.rid = q.rid then q' else x })

/-- A page is closed at PAGE_MAX_NS (`longest`), or AUTO_IDLE_NS after its last access when that carried an auto hint and no queued
beat targets its row (R255). -/
def execDmcPageTimer (n bank : Nat) (longest : Bool) (s : State) : Host.Outcome State Fault Refusal :=
  let c := s.pcAt n
  .next (match SMap.get (fun _ => none) c.pages bank with
    | none => s
    | some pg =>
      let wanted := (c.rq ++ c.wq).any fun b => decide (s.rowBankOf b.addr = (pg.1, bank))
      if longest || ((pg.2 = 0 || pg.2 = 3) && !wanted) then
        s.setPc n { c with pages := SMap.put (fun _ => none) c.pages bank none, hits := nput c.hits bank 0 }
      else s)

/-- Every tREFI / 48 the refresh debt rises by one (R257), to 384 at most; not while the controller is in self-refresh or
down. -/
def execRefreshDebtTick (n : Nat) (s : State) : Host.Outcome State Fault Refusal :=
  .next (if s.pcState n = 1 ∨ s.pcState n = 3 ∨ s.pcState n = 5 then
      s.setF (DMC_REF_STATUS_DEBT n) (min 384 (s.f (DMC_REF_STATUS_DEBT n) + 1))
    else s)

/-- The controller reads the stack temperature and sets tREFI (R257). DEDUCED, log 92: DMC_HOT is raised when it rises above 95 °C, not
at every reading above it. A temperature below 0 °C reads 0 (`t` is that reading). -/
def execDmcTempRead (n t : Nat) (s : State) : Host.Outcome State Fault Refusal :=
  let rate := if t ≤ 85 then 0 else if t ≤ 95 then 1 else 2
  let was := s.f (DMC_REF_STATUS_RATE n)
  let s := s.setFs [(DMC_REF_STATUS_TEMP n, min t 255), (DMC_REF_STATUS_RATE n, rate)]
  .next (if rate = 2 ∧ was ≠ 2 then s.raise .DMC_HOT false 0 n else s)

/-- No request waits at the controller's input. -/
def State.pcInputEmpty (s : State) (n : Nat) : Bool :=
  (s.pcAt n).head.isEmpty && !s.noc.inbox.any (fun p => p.dst = pcNode n)

/-- IDLE_US passes with EN set, both queues and the input empty: self-refresh (R259). A head flit in the same cycle wins
(R267). -/
def execSelfRefreshEntry (n : Nat) (s : State) : Host.Outcome State Fault Refusal :=
  let c := s.pcAt n
  .next (if s.pcState n = 1 ∧ s.eff (DMC_SR_EN n) = 1 ∧ c.rq.isEmpty ∧ c.wq.isEmpty ∧ c.issued.isEmpty ∧ s.pcInputEmpty n
      then (s.setPc n { c with pages := [], hits := [], turn := 0 }).setPcState n 4
    else s)

/-- Leave self-refresh (R260): the debt is 0, a new round begins, and a recalibration runs when the temperature has moved
by more than 10 °C since the last one. -/
def State.pcWake (s : State) (n : Nat) : State :=
  let c := s.pcAt n
  let t := s.f (DMC_REF_STATUS_TEMP n)
  ((s.setPc n { c with round := [] }).setF (DMC_REF_STATUS_DEBT n) 0).setPcState n
    (if 10 < t - c.calTemp ∨ 10 < c.calTemp - t then 5 else 1)

/-- A head flit wakes a sleeping controller (R260). -/
def execSelfRefreshExit (n : Nat) (s : State) : Host.Outcome State Fault Refusal :=
  .next (if s.pcState n = 4 ∧ !s.pcInputEmpty n then s.pcWake n else s)

/-- A controller command (R266, R267): ignored with FIELD_BUSY in TRAIN or RECAL, refused with ERR STATE in a state that
does not accept it. DESIGN CHOICE, log 92: an accepted command clears ERR. -/
def State.pcCmd (s : State) (n : Nat) (accepted : List Nat) (act : State → State) : State :=
  let st := s.pcState n
  if st = 3 ∨ st = 5 then s.busy (DMC_STATUS_FIELD_BUSY n)
  else if accepted.contains st ∧ !(s.pcAt n).reel then act (s.setF (DMC_STATUS_ERR n) 0)
  else s.setF (DMC_STATUS_ERR n) 3

/-- A recalibration starts (R262): no beat is ready, so the ports drop their requests (R254). -/
def State.pcRecal (s : State) (n : Nat) : State := (s.pcPorts n []).setPcState n 5

def State.pcCmdRecal (s : State) (n : Nat) : State := s.pcCmd n [1] fun s => s.pcRecal n

def execDmcCmdRecal (m : Master) (n : Nat) (s : State) : Host.Outcome State Fault Refusal :=
  .next (s.viaWrite m (DMC_CTRL n) fun s => s.pcCmdRecal n)

/-- RECAL_MS passes: a recalibration; not in SLEEP, and not with RECAL_MS 0 (R262). -/
def execRecalTimer (n : Nat) (s : State) : Host.Outcome State Fault Refusal :=
  .next (if s.pcState n = 1 ∧ s.eff (DMC_RECAL_RECAL_MS n) ≠ 0 then s.pcRecal n else s)

/-- Recalibration ends and waiting beats resume (R262). -/
def execRecalEnd (n : Nat) (s : State) : Host.Outcome State Fault Refusal :=
  .next (if s.pcState n = 5 then
      (s.updPc n fun c => { c with calTemp := s.f (DMC_REF_STATUS_TEMP n) }).setPcState n 1
    else s)

/-- Start a retraining (R264): STATE TRAIN, pages closed, DMC_RETRAIN raised, the retraining counted. -/
def State.pcRetrain (s : State) (n : Nat) : State :=
  ((((s.updPc n fun c => { c with pages := [], hits := [], errTimes := [], ready := false, turn := 0 }).pcPorts n []).setPcState n 3).count
    (DMC_TRAIN_COUNT n) 1).raise .DMC_RETRAIN false 0 n

/-- A link parity error (R263): kind 0 command/address, 1 read data, 2 write data; `failed` says that the access failed its
retries. A write that fails has not left the queue, and issues again after the retraining that starts at once; so does a retraining at
ERR_LIM errors within 1 ms. -/
def execDmcParityError (n kind : Nat) (failed : Bool) (s : State) : Host.Outcome State Fault Refusal :=
  .next (if s.pcState n ≠ 1 ∧ s.pcState n ≠ 5 then s
    else
      let s := s.count (if kind = 0 then DMC_LINK_ERR_CA_PAR n else if kind = 1 then DMC_LINK_ERR_RD_PAR n
        else DMC_LINK_ERR_WR_PAR n) 1
      let s := if failed then s.count (DMC_LINK_ERR_RETRY_FAIL n) 1 else s
      let c := s.pcAt n
      let now := if failed then [s.nocTime, s.nocTime] else [s.nocTime]
      let l := (c.errTimes ++ now).filter fun t => decide (s.nocTime < t + 2000000)
      let s := s.setPc n { c with errTimes := l }
      if (failed ∧ kind = 2) ∨ max 1 (s.eff (DMC_LINK_CFG_ERR_LIM n)) ≤ l.length then s.pcRetrain n else s)

/-- CMD REEL_IN (R266). -/
def State.pcCmdReelIn (s : State) (n : Nat) : State :=
  s.pcCmd n [1, 4] fun s => (s.updPc n fun c => { c with reel := true }).pcReeled n

def execDmcCmdReelIn (m : Master) (n : Nat) (s : State) : Host.Outcome State Fault Refusal :=
  .next (s.viaWrite m (DMC_CTRL n) fun s => s.pcCmdReelIn n)

/-- CMD PAY_OUT: a retraining as self-test (R266). -/
def State.pcCmdPayOut (s : State) (n : Nat) : State := s.pcCmd n [2, 7] fun s => s.pcRetrain n

def execDmcCmdPayOut (m : Master) (n : Nat) (s : State) : Host.Outcome State Fault Refusal :=
  .next (s.viaWrite m (DMC_CTRL n) fun s => s.pcCmdPayOut n)

/-- CMD RETRAIN: wake if sleeping, then a retraining (R266). -/
def State.pcCmdRetrain (s : State) (n : Nat) : State :=
  s.pcCmd n [1, 4] fun s => (if s.pcState n = 4 then s.pcWake n else s).pcRetrain n

def execDmcCmdRetrain (m : Master) (n : Nat) (s : State) : Host.Outcome State Fault Refusal :=
  .next (s.viaWrite m (DMC_CTRL n) fun s => s.pcCmdRetrain n)

/-- Leases of a list of beats, each once. -/
def leasesOf (l : List Beat) : List Nat := (l.map (·.lease)).eraseDups

/-- A training fails (R265): FAULT with RESULT; queued reads are answered ERR, queued writes are discarded with
DMC_WRITE_LOST for each lease, and DMC_PC_FAULT is raised. -/
def State.pcFault (s : State) (n result : Nat) : State :=
  let c := s.pcAt n
  let reads := c.reqs.filter fun q => q.p.opc = opcRead
  let writes := c.reqs.filter fun q => q.p.opc = opcWrite
  let lost := leasesOf (c.wq.filter fun b => b.en.any id)
  let s := s.setPc n { c with rq := [], wq := [], issued := [], reqs := [], pages := [], hits := [], head := [], ready := false }
  let s := (s.setPcState n 7).setF (DMC_TRAIN_RESULT n) result
  let s := (s.respondAll (reads.map (·.p)) stErr).respondAll (writes.map (·.p)) stErr
  let s := s.respondAll (c.head.map (·.2)) stUnreach
  (lost.foldl (fun t l => t.raise .DMC_WRITE_LOST true l n) s).raise .DMC_PC_FAULT false 0 n

/-- A retraining step overruns its bound, or a training fails with another result: 2 FAIL_CA, 3 FAIL_READ, 4 FAIL_WRITE,
5 FAIL_REPAIR, 6 FAIL_TIME (R265, R268). -/
def execRetrainStepOverrun (n result : Nat) (s : State) : Host.Outcome State Fault Refusal :=
  .next (if s.pcState n = 3 then s.pcFault n (if 2 ≤ result ∧ result ≤ 6 then result else 6) else s)

/-- A retraining completes (R264, steps 2 to 8): RESULT PASS, the repair lanes and duration it took; LIVE at the next epoch
boundary. -/
def execRetrainEnd (n repairs us : Nat) (s : State) : Host.Outcome State Fault Refusal :=
  .next (if s.pcState n = 3 then
      ((s.updPc n fun c => { c with ready := true, calTemp := s.f (DMC_REF_STATUS_TEMP n) }).setFs
        [(DMC_TRAIN_RESULT n, 1), (DMC_TRAIN_REPAIRS n, min repairs 2), (DMC_TRAIN_LAST_US n, min us 65535)])
    else s)

/-- The controllers' part of an epoch boundary: those whose training has ended become LIVE (R264). -/
def State.pcEpoch (s : State) : State :=
  (s.pcs.filter (fun e => e.2.ready)).foldl (fun t e =>
    if t.pcState e.1 = 3 then (t.updPc e.1 fun c => { c with ready := false }).setPcState e.1 1 else t) s

/-- The stack's HBM PHY domain of a controller. -/
def pcDomain (n : Nat) : Nat := n / 32

/-- Initialisation, training and zeroing after the first power-up of the stack's PHY domain end: LIVE (R261). -/
def execDmcInitEnd (n : Nat) (s : State) : Host.Outcome State Fault Refusal :=
  .next (if s.pcState n = 0 ∧ !(s.pcAt n).inited then
      (s.updPc n fun c => { c with inited := true, calTemp := s.f (DMC_REF_STATUS_TEMP n) }).setPcState n 1
    else s)

end Sys2Proof.Machine
end

