-- ==== Sys2Proof/Machine/Clk.lean ====
section
/-! DEFINITION. Clocks (14 R358 to R371, R378, R379): the judge, the PLLs with their plans and hops, and the switching of a
running clock. -/

namespace Sys2Proof.Machine
open Reg

/-! ## Domains and their sources (R371) -/

/-- The PLL that feeds a clock domain with only one source. -/
def domPll (n : Nat) : Nat :=
  if n < 136 then 65 + (n - 128) else if n < 140 then 73 + (n - 136) else if n < 176 then 77 + (n - 140)
  else if n < 180 then 0 else if n < 188 then 115 + (n - 180) else if n < 190 then 113 + (n - 188) else 0

/-- The source of tree n under code c of FAB_RGN_CLKTt.SRC (02 R47). -/
def treeSrc (n c : Nat) : ClkSrc :=
  let r := n / 2
  match c with
  | 0 => .pll (1 + r) 0 | 1 => .pll (1 + r) 1 | 2 => .rosc (r / 8) 0 | 3 => .rosc (r / 8) 1 | _ => .root r

def aonSrc (c : Nat) : ClkSrc := match c with | 1 => .refDiv 0 | 2 => .refDiv 1 | _ => .osc

/-- The FAB_RGN_CLKT and FAB_RGN_TAP fields of tree n. -/
def treeEn (n : Nat) : Fld := FAB_RGN_CLKT_EN (n / 16) (n / 2 % 8) (n % 2)
def treeSel (n : Nat) : Fld := FAB_RGN_CLKT_SRC (n / 16) (n / 2 % 8) (n % 2)
def tapXsel (n k : Nat) : Fld := FAB_RGN_TAP_XSEL (n / 16) (n / 2 % 8) (8 * (n % 2) + k)

/-- The other tree of a region. -/
def otherTree (n : Nat) : Nat := if n % 2 = 0 then n + 1 else n - 1

/-- The source that multiplexer w of domain n is set to by its field, or by R371. -/
def State.muxWant (s : State) (n w : Nat) : ClkSrc :=
  if n < 128 then
    if w < 8 then .tree (if s.f (tapXsel n w) = 1 then otherTree n else n) else treeSrc n (s.f (treeSel n))
  else if n = 191 then aonSrc (s.f (CLK_DOM_CTRL_SRC 191))
  else .pll (domPll n) (if n = 190 then 1 else 0)

/-- The source of a multiplexer that has never switched: what its field's reset value names. -/
def muxReset (key : Nat) : Mux :=
  let n := key / 32; let w := key % 32
  ⟨if n < 128 then (if w < 8 then .tree n else treeSrc n 0)
    else if n = 191 then .osc else .pll (domPll n) (if n = 190 then 1 else 0), .osc, 0, false, false⟩

def rootW : Nat := 31

def State.muxAt (s : State) (n w : Nat) : Mux := SMap.get muxReset s.clk.mux (32 * n + w)
def State.setMux (s : State) (n w : Nat) (m : Mux) : State :=
  { s with clk := { s.clk with mux := SMap.put muxReset s.clk.mux (32 * n + w) m } }

def State.pllAt (s : State) (p : Nat) : Pll := SMap.get (fun _ => Pll.empty) s.clk.plls p
def State.updPll (s : State) (p : Nat) (g : Pll → Pll) : State :=
  { s with clk := { s.clk with plls := SMap.put (fun _ => Pll.empty) s.clk.plls p (g (s.pllAt p)) } }

/-- CLK_PLLp_STATUS.STATE: 0 STOPPED, 1 LOCKING, 2 LOCKED, 3 COASTING, 4 HOPPED. -/
def State.pllState (s : State) (p : Nat) : Nat := s.f (CLK_PLL_STATUS_STATE p)
def State.setPll (s : State) (p v : Nat) : State := s.setF (CLK_PLL_STATUS_STATE p) v

/-- The switched power domain that a clock domain lies in (R372). -/
def domPower (n : Nat) : Option Nat :=
  if n < 128 then some (n / 2) else if n < 136 then none else if n < 140 then some (164 + (n - 136))
  else if n < 176 then some (128 + (n - 140)) else if n < 180 then some (168 + (n - 176)) else if n < 188 then none
  else if n < 190 then some (172 + (n - 188)) else if 192 ≤ n then some (174 + (n - 192)) else none

def State.domOn (s : State) (n : Nat) : Bool :=
  match domPower n with
  | some k => decide (s.f (PWR_DOM_STATUS_STATE k) = 2)
  | none => true

/-- A PLL's output runs: locked, coasting, or before and after the relock of a hop (R364, R365). -/
def State.pllRuns (s : State) (p : Nat) : Bool :=
  let st := s.pllState p
  decide (st = 2 ∨ st = 3) || (decide (st = 4) && decide ((s.pllAt p).phase ≠ 2))

/-- Sources other than a tree that run (R369, 02 R49). A reference clock counts as running. -/
def State.srcRuns (s : State) : ClkSrc → Bool
  | .pll p _ => s.pllRuns p
  | .rosc d n => s.bit (FAB_ROSC_CTRL_EN d n) && !(SMap.get (fun _ => Rosc.empty) s.fab.rosc (2 * d + n)).gated
  | .root r => decide (s.f (FAB_RGN_ENV_STATUS_OPEN (r / 8) (r % 8)) = 1) && (s.rgnAt r).pers
  | .hub => s.pllRuns 0
  | .tree _ | .ref _ | .osc | .refDiv _ => true

/-- A source runs; a tree runs with EN set, its domain ON and its root source running. -/
def State.clkRuns (s : State) : ClkSrc → Bool
  | .tree n => decide (s.eff (treeEn n) = 1) && s.domOn n && decide ((s.muxAt n rootW).sw = 0) && s.srcRuns (s.muxAt n rootW).cur
  | c => s.srcRuns c

/-! ## Events' scope (R365) -/

/-- Raise an event that names a region PLL's or a tree's region: TENANT in a leased region, DEVICE otherwise. -/
def State.rgnEvent (s : State) (e : Ev) (r : Nat) : State := s.raise e true (s.f (HUB_RGN_STATE_LEASE r)) r

def State.pllEvent (s : State) (e : Ev) (p : Nat) : State :=
  if 1 ≤ p ∧ p ≤ 64 then s.rgnEvent e (p - 1)
  else s.raise e false 0 (if 65 ≤ p ∧ p < 73 then p - 65 else if 115 ≤ p then p - 115 else noInst)

def State.domEvent (s : State) (e : Ev) (n : Nat) : State :=
  if n < 128 then s.rgnEvent e (n / 2)
  else s.raise e false 0 (if n < 136 then n - 128 else if 180 ≤ n ∧ n < 188 then n - 180 else noInst)

/-! ## Switching (R367 to R369, R374) -/

/-- The clock that a PLL's domains run on during a hop. -/
def State.hopSrc (s : State) (p : Nat) : ClkSrc := if 115 ≤ p then .hub else .ref (s.f (CLK_PLL_STATUS_REF_USED p))

/-- Where the multiplexer should be now: its source, or its PLL's reference while a hop holds it there (R364). -/
def State.muxTarget (s : State) (n w : Nat) : ClkSrc :=
  match s.muxWant n w with
  | .pll p o => let h := (s.pllAt p).phase; if h = 1 ∨ h = 2 then s.hopSrc p else .pll p o
  | c => c

/-- SRC_NOW of a source (R379). -/
def ClkSrc.code : ClkSrc → Nat
  | .pll p o => if 1 ≤ p ∧ p ≤ 64 then o else 0
  | .rosc _ n => 2 + n
  | .root _ => 4
  | .refDiv k => 1 + k
  | .osc => 0
  | .ref _ | .hub => 0xF
  | .tree _ => 0

def State.showSrc (s : State) (n w : Nat) (c : ClkSrc) : State :=
  if w = rootW then
    let s := s.setF (CLK_DOM_STATUS_SRC_NOW n) c.code
    if n = 191 then s.setF CLK_JUDGE_AON_SRC c.code else s
  else s

/-- SW of a switch that starts: STOPPING; WAIT_NEW where the old source runs, so that its edges have released it, and the new one
does not (R367, R369, 02 R49). DEDUCED, log entry 86: the old source's three edges fall within the step. -/
def State.swStart (s : State) (old new : ClkSrc) : Nat := if s.clkRuns old && !s.clkRuns new then 2 else 1

/-- Start a switch toward the multiplexer's target, if it is not there. A running switch completes first (R378); a domain that
is not ON runs no switch (R374). -/
def State.muxUpd (s : State) (n w : Nat) : State :=
  let m := s.muxAt n w
  let t := s.muxTarget n w
  if m.sw ≠ 0 ∨ !s.domOn n ∨ t = m.cur then s
  else
    let sw := s.swStart m.cur t
    (s.setMux n w ⟨m.cur, t, sw, false, false⟩).setFs [(CLK_DOM_STATUS_SW n, sw), (CLK_DOM_STATUS_WHERE n, w)]

/-- The domains that a PLL feeds; of a region, the trees whose SRC selects it. -/
def State.pllDoms (s : State) (p : Nat) : List Nat :=
  if p = 0 then [176, 177, 178, 179, 190, 192, 193]
  else if p ≤ 64 then [2 * (p - 1), 2 * (p - 1) + 1].filter fun n => decide (s.f (treeSel n) < 2)
  else if p < 73 then [128 + (p - 65)] else if p < 77 then [136 + (p - 73)] else if p < 113 then [140 + (p - 77)]
  else if p < 115 then [188 + (p - 113)] else [180 + (p - 115)]

/-! ## Plans (R363) -/

/-- The divider of 4 to 127 that brings VCO ÷ N nearest to f, with the error as a fraction of f. -/
def bestN (vco f : Nat) : Nat × (Nat × Nat) :=
  let lo := min 127 (max 4 (vco / f))
  let hi := min 127 (lo + 1)
  let e (n : Nat) : Nat := if vco ≤ n * f then n * f - vco else vco - n * f
  -- |vco/n - f| / f = e n / (n f)
  if e lo * hi ≤ e hi * lo then (lo, (e lo, lo * f)) else (hi, (e hi, hi * f))

def fracLt (a b : Nat × Nat) : Bool := decide (a.1 * b.2 < b.1 * a.2)

/-- The plan (VCO, N0, N1, larger relative error) for a VCO. -/
def planAt (vco f0 f1 : Nat) : Nat × Nat × Nat × (Nat × Nat) :=
  let a := bestN vco f0; let b := bestN vco f1
  (vco, a.1, b.1, if fracLt a.2 b.2 then b.2 else a.2)

/-- The plan with the smallest larger relative error, and among equals the highest VCO. -/
def planPll (f0 f1 : Nat) : Nat × Nat × Nat × (Nat × Nat) :=
  (List.range 3201).foldl (fun best k =>
    let c := planAt (6400 - k) f0 f1
    if fracLt c.2.2.2 best.2.2.2 then c else best) (planAt 6400 f0 f1)

/-- The error of an output with its divider in force, as a fraction. -/
def outErr (vco n f : Nat) : Nat × Nat := ((if vco ≤ n * f then n * f - vco else vco - n * f), n * f)

/-- The VCO, dividers and OFF_TARGET that a region or engine PLL would take at its next relock: the plan, with expert values
in place of its own (R15, R363, R379). -/
def State.pllPlan (s : State) (p : Nat) : Nat × Nat × Nat × Bool :=
  let f0 := s.f (CLK_PLL_CFG_FREQ0_MHZ p)
  let f1 := if p ≤ 64 then s.f (CLK_PLL_CFG_FREQ1_MHZ p) else f0
  let pl := planPll f0 f1
  let x := s.pllAt p
  let v := x.vco.getD pl.1; let n0 := x.n0.getD pl.2.1; let n1 := x.n1.getD pl.2.2.1
  let off (e : Nat × Nat) : Bool := decide (e.2 < 200 * e.1)
  (v, n0, if p ≤ 64 then n1 else 0, off (outErr v n0 f0) || (decide (p ≤ 64) && off (outErr v n1 f1)))

def planned (p : Nat) : Bool := decide (1 ≤ p ∧ p < 73)

/-- CLK_PLLp_XP reads the plan, or the expert values that override it. -/
def State.pllShow (s : State) (p : Nat) : State :=
  if planned p then
    let q := s.pllPlan p
    s.setFs [(CLK_PLL_XP_VCO_MHZ p, q.1), (CLK_PLL_XP_N0 p, q.2.1), (CLK_PLL_XP_N1 p, q.2.2.1)]
  else s

/-- A relock takes the last values written (R364). -/
def State.pllApply (s : State) (p : Nat) : State :=
  if planned p then ((s.applyLive (CLK_PLL_CFG_FREQ0_MHZ p)).applyLive (CLK_PLL_CFG_FREQ1_MHZ p)).setF
      (CLK_PLL_STATUS_OFF_TARGET p) (b2n (s.pllPlan p).2.2.2)
  else s

/-! ## Demand (R364) and hops (R364 to R366) -/

/-- The reference of PLL p is REFCLK0 or REFCLK1. -/
def refPll (p : Nat) : Bool := decide (p < 77 ∨ p = 113 ∨ p = 114)

def State.marked (s : State) (k : Nat) : Bool := s.bit (if k = 0 then CLK_JUDGE_REF0_MARKED else CLK_JUDGE_REF1_MARKED)

/-- The PLL's reference is one the judge has not marked bad. -/
def State.refOk (s : State) (p : Nat) : Bool := !(refPll p && s.marked (s.f (CLK_PLL_STATUS_REF_USED p)))

/-- The die that holds a region, engine or die tether PLL. -/
def pllDie (p : Nat) : Option Nat :=
  if 1 ≤ p ∧ p ≤ 64 then some ((p - 1) / 8) else if 65 ≤ p ∧ p < 73 then some (p - 65)
  else if 115 ≤ p then some (p - 115) else none

/-- A power domain is ON, or waking. -/
def State.powered (s : State) (k : Nat) : Bool :=
  let st := s.f (PWR_DOM_STATUS_STATE k)
  decide (st = 2) || (decide (st = 3) && s.pwr.up.contains k)

/-- A consumer needs the PLL, or KEEP holds it (R364). None runs while its die is isolated. -/
def State.pllNeeded (s : State) (p : Nat) : Bool :=
  let iso := match pllDie p with | some d => dieIsolated s d | none => false
  if iso then false
  else if p = 0 ∨ 115 ≤ p then true
  else if s.bit (CLK_PLL_CFG_KEEP p) then true
  else if p ≤ 64 then
    s.powered (p - 1) && [2 * (p - 1), 2 * (p - 1) + 1].any fun n =>
      (s.bit (treeEn n) || decide (s.eff (treeEn n) = 1)) && decide (s.f (treeSel n) < 2)
  else if p < 73 then (List.range 8).any fun i => decide (s.f (PWR_DOM_STATUS_STATE (64 + 8 * (p - 65) + i)) ≠ 0)
  else if p < 77 then s.powered (164 + (p - 73))
  else if p < 113 then s.powered (128 + (p - 77)) && decide (p < 89 ∨ s.f (LNE_Q_CFG_RATE (p - 77)) ≠ 0)
    && decide (s.f (LNE_Q_STATUS_ERR (p - 77)) = 0)
  else s.powered (172 + (p - 113))

/-- The reference a PLL starts on: REF, or the other one under REF_AUTO while REF's is marked bad (R364). -/
def State.startRef (s : State) (p : Nat) : Nat :=
  if p = 0 then s.f (CLK_PLL_STATUS_REF_USED 0)
  else if !refPll p then 0
  else
    let k := if s.f (CLK_PLL_CFG_REF p) = 1 then 1 else 0
    if s.marked k ∧ s.eff CLK_CTRL_REF_AUTO = 1 ∧ !s.marked (1 - k) then 1 - k else k

/-- A consumer has come or left: a stopped PLL that is needed starts. The hub PLL starts under R361 only, and nothing starts
before it. -/
def State.pllEval (s : State) (p : Nat) : State :=
  if s.pllState p = 0 ∧ p ≠ 0 ∧ s.pllState 0 ≠ 0 ∧ s.pllNeeded p then
    ((s.setPll p 1).setF (CLK_PLL_STATUS_REF_USED p) (s.startRef p)).pllShow p
  else s

/-- Step 1 of a hop is done once every domain that is ON runs on the reference: the PLL relocks. -/
def State.hopAway (s : State) (p : Nat) : State :=
  if (s.pllAt p).phase = 1 ∧ ((s.pllDoms p).filter s.domOn).all (fun n =>
      decide ((s.muxAt n rootW).sw = 0 ∧ (s.muxAt n rootW).cur = s.hopSrc p)) then
    s.updPll p fun x => { x with phase := 2 }
  else s

def State.muxUpds (s : State) (l : List Nat) : State := l.foldl (fun t n => t.muxUpd n rootW) s

/-- Start a hop, or note that the PLL must hop again (R364). -/
def State.hop (s : State) (p : Nat) : State :=
  match (s.pllAt p).phase with
  | 0 => let s := (s.updPll p fun x => { x with phase := 1 }).setPll p 4
         (s.muxUpds (s.pllDoms p)).hopAway p
  | 3 => s.updPll p fun x => { x with again := true }
  | _ => s

/-- Step 3 of a hop is done once every domain that is ON is back. -/
def State.hopBack (s : State) (p : Nat) : State :=
  if (s.pllAt p).phase = 3 ∧ ((s.pllDoms p).filter s.domOn).all (fun n =>
      decide ((s.muxAt n rootW).sw = 0 ∧ (s.muxAt n rootW).cur = s.muxWant n rootW)) then
    let ag := (s.pllAt p).again
    let s := (s.updPll p fun x => { x with phase := 0, again := false }).setPll p 2
    if ag then s.hop p else s
  else s

def State.hopCheck (s : State) (p : Nat) : State := (s.hopAway p).hopBack p

/-- A PLL stops at once: its clock, a hop and a start in progress end (R364, R378). -/
def State.pllHalt (s : State) (p : Nat) : State :=
  (s.setPll p 0).updPll p fun x => { x with phase := 0, again := false, fresh := false }

/-- Coasting (R365). -/
def State.coast (s : State) (p : Nat) : State :=
  let s := (s.setFs [(CLK_PLL_STATUS_COAST_SEEN p, 1)]).count (CLK_PLL_STATUS_LOCK_LOSS p) 1
  (s.updPll p fun x => { x with fresh := true }).pllEvent .CLK_COAST p

/-- A PLL loses lock or its reference: it coasts. During a hop, the hop completes onto the reference (R378). A PLL that has
not locked never coasts. -/
def State.pllLoss (s : State) (p : Nat) : State :=
  match s.pllState p with
  | 2 => (s.setPll p 3).coast p
  | 4 =>
    if (s.pllAt p).phase = 2 then s
    else
      let s := (s.coast p).updPll p fun x => { x with phase := 1 }
      (s.muxUpds (s.pllDoms p)).hopAway p
  | _ => s

/-- R374: a power-off abandons the switches inside the domain; at power-up each multiplexer takes the source its field names,
with no switch. -/
def State.muxAbandon (s : State) (n w : Nat) : State :=
  let m := s.muxAt n w
  if m.sw = 0 then s else (s.setMux n w ⟨m.tgt, .osc, 0, false, false⟩).setF (CLK_DOM_STATUS_SW n) 0

def State.muxAdopt (s : State) (n w : Nat) : State :=
  let t := s.muxTarget n w
  (s.setMux n w ⟨t, .osc, 0, false, false⟩).showSrc n w t

def domMuxes (n : Nat) : List Nat := if n < 128 then [0, 1, 2, 3, 4, 5, 6, 7, rootW] else [rootW]

def State.domAbandon (s : State) (n : Nat) : State := (domMuxes n).foldl (fun t w => t.muxAbandon n w) s
def State.domAdopt (s : State) (n : Nat) : State := (domMuxes n).foldl (fun t w => t.muxAdopt n w) s

/-- The clock domains of die d. -/
def dieDoms (d : Nat) : List Nat := (List.range 16).map (16 * d + ·) ++ [128 + d, 180 + d]
def diePlls (d : Nat) : List Nat := (List.range 8).map (8 * d + 1 + ·) ++ [65 + d, 115 + d]

/-- The die's PLLs stop with its isolation, and switches are abandoned (R364, R378). -/
def State.dieClocksStop (s : State) (d : Nat) : State :=
  (dieDoms d).foldl State.domAbandon ((diePlls d).foldl State.pllHalt s)

/-- The die's PLLs start again as they are needed. -/
def State.dieClocksStart (s : State) (d : Nat) : State :=
  (diePlls d).foldl State.pllEval ((dieDoms d).foldl State.domAdopt s)

/-- Every PLL is evaluated, when the hub has started. -/
def State.pllsEval (s : State) : State := (List.range 123).foldl State.pllEval s

/-! ## The judge (R359 to R361) -/

/-- Comparisons A, B, C and the presence of REFCLK1 over a window (div 1) or a quarter (div 4). -/
def cmpRef (div c : Nat) : Bool := decide (101376 / div ≤ c ∧ c ≤ 103424 / div)
def cmpBoth (div c0 c1 : Nat) : Bool := decide (c0 ≤ c1 + 1024 / div ∧ c1 ≤ c0 + 1024 / div)
def ref1Absent (div c1 : Nat) : Bool := decide (c1 < 1024 / div)

/-- The verdict: 0 GOOD, 1 REF0_BAD, 2 REF1_BAD, 3 AON_BAD, 4 UNRESOLVED, 5 SINGLE. -/
def verdict (aonRef : Bool) (div c0 c1 : Nat) : Nat :=
  let c := cmpBoth div c0 c1
  if aonRef then (if c then 0 else 4)
  else if ref1Absent div c1 && cmpRef div c0 then 5
  else match cmpRef div c0, cmpRef div c1, c with
    | true, true, true => 0
    | false, true, false => 1
    | true, false, false => 2
    | false, false, true => 3
    | _, _, _ => 4

/-- References mark bad: PLLs on it coast and, under REF_AUTO, hop to the other one (R360). One that is hopping stays on it
(R378); one that is starting tries the other (R364). -/
def State.refLost (s : State) (k : Nat) : State :=
  let auto := decide (s.eff CLK_CTRL_REF_AUTO = 1) && !s.marked (1 - k)
  (List.range 115).foldl (fun t p =>
    if refPll p ∧ t.f (CLK_PLL_STATUS_REF_USED p) = k ∧ t.pllState p ≠ 0 then
      let t := t.pllLoss p
      if auto ∧ (t.pllState p = 1 ∨ t.pllState p = 3) then
        let t := t.setF (CLK_PLL_STATUS_REF_USED p) (1 - k)
        if t.pllState p = 3 then t.hop p else t
      else t
    else t) s

/-- Mark reference k bad, once. -/
def State.refBad (s : State) (k : Nat) : State :=
  if s.marked k then s
  else ((s.setF (if k = 0 then CLK_JUDGE_REF0_MARKED else CLK_JUDGE_REF1_MARKED) 1).raise .CLK_REF_BAD false 0 noInst).refLost k

/-- Act on a verdict; an action already taken is not repeated (R360). -/
def State.judgeAct (s : State) (v : Nat) : State :=
  let last := s.clk.lastAct
  let s := { s with clk := { s.clk with lastAct := if v = 5 then 0 else v } }
  match v with
  | 1 => s.refBad 0
  | 2 => s.refBad 1
  | 3 =>
    if last = 3 then s
    else
      let s := s.raise .CLK_AON_BAD false 0 noInst
      if s.eff CLK_CTRL_AON_AUTO = 1 then
        (s.setF (CLK_DOM_CTRL_SRC 191) (if s.marked 0 then 2 else 1)).muxUpd 191 rootW
      else s
  | 4 => if last = 4 then s else s.raise .CLK_JUDGE_UNRESOLVED false 0 noInst
  | _ => s

/-- Consecutive windows a reference has passed; after four it is marked good again (R360). -/
def State.judgeGood (s : State) (k : Nat) (ok : Bool) : State :=
  let n := if ok then min 4 ((if k = 0 then s.clk.good0 else s.clk.good1) + 1) else 0
  let s := { s with clk := if k = 0 then { s.clk with good0 := n } else { s.clk with good1 := n } }
  if n = 4 then s.setF (if k = 0 then CLK_JUDGE_REF0_MARKED else CLK_JUDGE_REF1_MARKED) 0 else s

/-- A PLL that has not locked tries the other reference, with REF_AUTO set and its own marked bad (R364). -/
def State.tryOther (s : State) (p : Nat) : State :=
  let k := s.f (CLK_PLL_STATUS_REF_USED p)
  if s.pllState p = 1 ∧ refPll p ∧ s.marked k ∧ s.eff CLK_CTRL_REF_AUTO = 1 ∧ !s.marked (1 - k) then
    s.setF (CLK_PLL_STATUS_REF_USED p) (1 - k)
  else s

/-- A coasting PLL hops once its reference has passed a whole window after the loss (R366). -/
def State.windowHops (s : State) (ok0 ok1 : Bool) : State :=
  (List.range 123).foldl (fun t p =>
    if (t.pllAt p).fresh then t.updPll p fun x => { x with fresh := false }
    else if t.pllState p = 3 ∧ (!refPll p || (if t.f (CLK_PLL_STATUS_REF_USED p) = 0 then ok0 else ok1)) then t.hop p
    else t.tryOther p) s

/-- R361: the hub PLL starts at the end of the first window that is not UNRESOLVED, or after four that are. -/
def State.hubStart (s : State) (v : Nat) : State :=
  if s.pllState 0 ≠ 0 then s
  else if v = 4 ∧ s.clk.unres < 3 then { s with clk := { s.clk with unres := s.clk.unres + 1 } }
  else (((s.setPll 0 1).setF (CLK_PLL_STATUS_REF_USED 0) (if v = 1 then 1 else 0))).pllsEval

/-- A window ends: the counts are shown, the verdict formed, shown, counted and acted on. -/
def State.judgeWindow (s : State) (c0 c1 : Nat) : State :=
  let s := (s.applyLive CLK_CTRL_AON_AUTO).applyLive CLK_CTRL_REF_AUTO
  let aonRef := decide (s.f CLK_JUDGE_AON_SRC ≠ 0)
  let v := verdict aonRef 1 c0 c1
  let c := cmpBoth 1 c0 c1
  let ok0 := (aonRef || cmpRef 1 c0) && (c || ref1Absent 1 c1)
  let ok1 := (aonRef || cmpRef 1 c1) && c
  let s := s.setFs [(CLK_JUDGE_CNT_COUNT 0, c0), (CLK_JUDGE_CNT_COUNT 1, c1), (CLK_JUDGE_VERDICT, v)]
  let s := if v = 0 ∨ v = 5 then s else s.count CLK_JUDGE_BAD_WINDOWS 1
  let s := (s.judgeGood 0 ok0).judgeGood 1 ok1
  let s := s.hubStart v
  let s := if s.pllState 0 = 0 then s else s.judgeAct v
  s.windowHops ok0 ok1

/-! ## Meanings -/

/-- JUDGE_WINDOW_END (R359, R360, R361). -/
def execJudgeWindowEnd (c0 c1 : Nat) (s : State) : Host.Outcome State Fault Refusal := .next (s.judgeWindow c0 c1)

/-- JUDGE_QUARTER_END (R359, R360): an early verdict that is neither GOOD nor SINGLE is acted on. -/
def execJudgeQuarterEnd (c0 c1 : Nat) (s : State) : Host.Outcome State Fault Refusal :=
  let v := verdict (decide (s.f CLK_JUDGE_AON_SRC ≠ 0)) 4 c0 c1
  .next (if v = 0 ∨ v = 5 ∨ s.pllState 0 = 0 then s else s.judgeAct v)

/-- R362: a value outside an output's range is stored as the nearer limit. -/
def freqClamp (p f : Nat) : Nat := if p ≤ 64 then min 800 (max 26 f) else min 1600 (max 200 f)

/-- A write of CLK_PLLp_CFG.FREQ0_MHZ and FREQ1_MHZ (R363, R379): the other fields of the register are not part of it. -/
def State.freqWrite (s : State) (p f0 f1 : Nat) : State :=
  if !planned p then s
  else
    let a := freqClamp p f0; let b := freqClamp p f1
    let same := decide (a = s.f (CLK_PLL_CFG_FREQ0_MHZ p) ∧ (64 < p ∨ b = s.f (CLK_PLL_CFG_FREQ1_MHZ p)))
    if same then s
    else
      let run := decide (s.pllState p = 2 ∨ s.pllState p = 3 ∨ s.pllState p = 4)
      let put (t : State) (F : Fld) (v : Nat) : State := if run then t.writeLive F v else t.setF F v
      let s := put s (CLK_PLL_CFG_FREQ0_MHZ p) a
      let s := if p ≤ 64 then put s (CLK_PLL_CFG_FREQ1_MHZ p) b else s
      let s := s.pllShow p
      if run then s.hop p else s

/-- CLK_FREQ_WRITE (R363, R364). -/
def execClkFreqWrite (m : Master) (p f0 f1 : Nat) (s : State) : Host.Outcome State Fault Refusal :=
  .next (s.viaWrite m (CLK_PLL_CFG p) fun s => s.freqWrite p f0 f1)

/-- A PLL that starts locks; one that relocks in a hop locks at the new plan and its domains switch back (R364, R366). Neither
happens on a reference that is marked bad. -/
def State.pllLock (s : State) (p : Nat) : State :=
  if !s.refOk p then s
  else if s.pllState p = 1 then (s.setPll p 2).pllApply p
  else if (s.pllAt p).phase = 2 then
    let s := (s.pllApply p).updPll p fun x => { x with phase := 3 }
    (s.muxUpds (s.pllDoms p)).hopBack p
  else s

/-- PLL_IDLE_TIMER (R364): a PLL that nothing needs stops. -/
def execPllIdleTimer (p : Nat) (s : State) : Host.Outcome State Fault Refusal :=
  .next (if s.pllNeeded p ∨ s.pllState p = 0 then s
    else let t := s.pllHalt p; t.muxUpds (t.pllDoms p))

/-- CLOCK_SWITCH_END (R367): the new source is delivered. The old side has released by three edges or by force. -/
def execClockSwitchEnd (n w : Nat) (s : State) : Host.Outcome State Fault Refusal :=
  let m := s.muxAt n w
  .next (if m.sw = 0 ∨ !s.clkRuns m.tgt ∨ !(decide (m.sw = 2) || s.clkRuns m.cur) then s
    else
      let want := s.muxWant n w
      let s := (s.setMux n w ⟨m.tgt, .osc, 0, false, false⟩).setFs [(CLK_DOM_STATUS_SW n, 0), (CLK_DOM_STATUS_WHERE n, w),
        (CLK_DOM_STATUS_LOST_OLD n, if m.forced then 0xF else 3)]
      let s := s.showSrc n w m.tgt
      let s := match want with | .pll p _ => s.hopCheck p | _ => s
      s.muxUpd n w)

/-- CLOCK_SWITCH_FORCE (R368). -/
def execClockSwitchForce (n w : Nat) (s : State) : Host.Outcome State Fault Refusal :=
  let m := s.muxAt n w
  .next (if m.sw ≠ 1 then s
    else
      let s := (s.setMux n w { m with sw := 2, forced := true }).setFs [(CLK_DOM_STATUS_SW n, 2), (CLK_DOM_STATUS_WHERE n, w),
        (CLK_DOM_STATUS_LOST_OLD n, 0xF), (CLK_DOM_STATUS_FORCED n, 1)]
      s.domEvent .CLK_FORCED n)

/-- CLOCK_SW_STALL_TIMER (R369): WAIT_NEW has lasted 32 AON ticks. A switch whose old source has stopped is still in STOPPING. -/
def execClockSwStallTimer (n w : Nat) (s : State) : Host.Outcome State Fault Refusal :=
  let m := s.muxAt n w
  .next (if m.sw = 0 ∨ m.stalled ∨ s.clkRuns m.tgt ∨ (m.sw = 1 ∧ !s.clkRuns m.cur) then s
    else
      let s := (s.setMux n w { m with sw := 2, stalled := true }).setFs [(CLK_DOM_STATUS_SW n, 2), (CLK_DOM_STATUS_WHERE n, w)]
      s.domEvent .CLK_SW_STALL n)

/-! ## Writes of clock fields outside the rows above -/

/-- A write of FAB_RGN_CLKTt.SRC (02 R47): codes 5 to 7 are ignored and logged. -/
def State.treeSrcWrite (s : State) (m : Master) (n v : Nat) : State :=
  if 4 < v then s.logDrop m .badCode (FAB_RGN_CLKT (n / 16) (n / 2 % 8) (n % 2))
  else (((s.setFs [(treeSel n, v), (CLK_DOM_CTRL_SRC n, v)]).muxUpd n rootW).pllEval (1 + n / 2)).hopCheck (1 + n / 2)

/-- A write of FAB_RGN_CLKTt.EN (02 R47): it takes effect at the next falling edge of the tree's source. The PLL that the value
written asks for starts at once (R364). -/
def State.treeEnWrite (s : State) (n v : Nat) : State := (s.writeLive (treeEn n) v).pllEval (1 + n / 2)

/-- A falling edge of tree n's source can come: its root source runs (02 R47). -/
def State.treeEdge (s : State) (n : Nat) : Bool := s.domOn n && decide ((s.muxAt n rootW).sw = 0) && s.srcRuns (s.muxAt n rootW).cur

/-- A write of FAB_RGN_TAPt_k.XSEL (02 R49). -/
def State.xselWrite (s : State) (n k v : Nat) : State := (s.setF (tapXsel n k) v).muxUpd n k

/-- A write of CLK_DOM191_CTRL.SRC (R379). -/
def State.aonSrcWrite (s : State) (m : Master) (v : Nat) : State :=
  if 2 < v then s.logDrop m .badCode (CLK_DOM_CTRL 191) else (s.setF (CLK_DOM_CTRL_SRC 191) v).muxUpd 191 rootW

/-- Expert writes of CLK_PLLp_XP (R379). -/
def State.pllXpWrite (s : State) (p : Nat) (vco n0 n1 : Nat) : State :=
  if planned p then
    (s.updPll p fun x =>
      ⟨x.phase, x.again, some (min 6400 (max 3200 vco)), some (max 4 n0), if p ≤ 64 then some (max 4 n1) else none, x.fresh⟩).pllShow p
  else s

/-- Expert values return to derived ones when XP_ENABLE is cleared (R15). -/
def State.pllXpClear (s : State) : State :=
  (List.range 73).foldl (fun t p =>
    if (t.pllAt p).vco.isSome then (t.updPll p fun x => { x with vco := none, n0 := none, n1 := none }).pllShow p else t) s

end Sys2Proof.Machine
end

