-- ==== Sys2Proof/Machine/Operands.lean ====
section
/-! DEFINITION. The operand forms of the DSP engines: registers, address generation (08 R206, R207), memories (R202) and
stream ports (R208, R209). -/

namespace Sys2Proof.Machine

open Reg

/-- The signed value of the low `w` bits. -/
def sext (w v : Nat) : Int := if v % 2 ^ w < 2 ^ (w - 1) then ((v % 2 ^ w : Nat) : Int) else ((v % 2 ^ w : Nat) : Int) - 2 ^ w

/-- The low `w` bits of an integer. -/
def toBits (w : Nat) (i : Int) : Nat := (i % 2 ^ w).toNat

/-! ## Engine state -/

def State.engAt (s : State) (e : Nat) : Eng := SMap.get (fun _ => Eng.empty) s.eng e

/-- A FIFO of an engine: 0 S0, 1 S1, 2 T0, 3 T1. -/
def Eng.fifoOf (g : Eng) (i : Nat) : List Nat := SMap.get (fun _ => []) g.fifo i
def Eng.setFifo (g : Eng) (i : Nat) (l : List Nat) : Eng := { g with fifo := SMap.put (fun _ => []) g.fifo i l }
def Eng.halfOf (g : Eng) (i : Nat) : Bool := SMap.get (fun _ => false) g.half i
def Eng.setHalf (g : Eng) (i : Nat) (b : Bool) : Eng := { g with half := SMap.put (fun _ => false) g.half i b }
def Eng.pendOf (g : Eng) (i : Nat) : Option Nat := SMap.get (fun _ => none) g.pend i
def Eng.setPend (g : Eng) (i : Nat) (v : Option Nat) : Eng := { g with pend := SMap.put (fun _ => none) g.pend i v }

/-- The 40-bit pattern of accumulator k. -/
def Eng.accOf (g : Eng) (k : Nat) : Nat := nget g.acc k
/-- Accumulator k as a signed integer (R200). -/
def Eng.accInt (g : Eng) (k : Nat) : Int := sext 40 (g.accOf k)
def Eng.setAcc (g : Eng) (k v : Nat) : Eng := { g with acc := nput g.acc k (v % 2 ^ 40) }

/-- Bits [39:31] are not all equal: the value does not fit in 32 bits (R200). -/
def accE (v : Nat) : Bool := decide (v / 2 ^ 31 % 512 ≠ 0 ∧ v / 2 ^ 31 % 512 ≠ 511)

/-- The live flags E of ENG_DP_FLAGS (R218). -/
def Eng.eBits (g : Eng) : Nat :=
  b2n (accE (g.accOf 0)) + 2 * b2n (accE (g.accOf 1)) + 4 * b2n (accE (g.accOf 2)) + 8 * b2n (accE (g.accOf 3))

/-- LEVEL of ENG_STRM_STATUS (R218). -/
def Eng.level (g : Eng) : Nat :=
  (g.fifoOf 0).length + 32 * (g.fifoOf 1).length + 1024 * (g.fifoOf 2).length + 32768 * (g.fifoOf 3).length

/-- PEND of ENG_STRM_STATUS (R218). -/
def Eng.pendBits (g : Eng) : Nat := b2n (g.pendOf 2).isSome + 2 * b2n (g.pendOf 3).isSome

/-- Store an engine and show its live flags and FIFO levels (R200, R218). -/
def State.setEng (s : State) (e : Nat) (g : Eng) : State :=
  { s with eng := SMap.put (fun _ => Eng.empty) s.eng e g }.setFs
    [(ENG_DP_FLAGS_E (e / 3) (e % 3), g.eBits), (ENG_STRM_STATUS_LEVEL (e / 3) (e % 3), g.level),
     (ENG_STRM_STATUS_PEND (e / 3) (e % 3), g.pendBits)]

def State.updEng (s : State) (e : Nat) (f : Eng → Eng) : State := s.setEng e (f (s.engAt e))

/-- STATE of an engine (R233): 0 STOPPED, 1 RUNNING, 2 HALTED, 3 EXCEPTION, 4 DEBUG, 5 STOPPING. -/
def State.engState (s : State) (e : Nat) : Nat := s.f (ENG_STATUS_STATE (e / 3) (e % 3))
def State.setEngState (s : State) (e v : Nat) : State := s.setF (ENG_STATUS_STATE (e / 3) (e % 3)) v

/-- RUNNING or STOPPING: not idle for the run-control registers (R240). -/
def State.engBusy (s : State) (e : Nat) : Bool := decide (s.engState e = 1 ∨ s.engState e = 5)

def State.engPc (s : State) (e : Nat) : Nat := s.f (ENG_PC_PC (e / 3) (e % 3))
def State.setEngPc (s : State) (e v : Nat) : State := s.setF (ENG_PC_PC (e / 3) (e % 3)) v

/-- The lease of an engine's trio (R195). -/
def State.engLease (s : State) (e : Nat) : Nat := s.f (HUB_RGN_STATE_LEASE (e / 3))

/-- Set one bit of a field. -/
def State.setBit (s : State) (F : Fld) (b : Nat) : State :=
  if s.f F / 2 ^ b % 2 = 1 then s else s.setF F (s.f F + 2 ^ b)

/-! ## Address generation (R206, R207) -/

/-- Reverse the order of the K low bits. -/
def revBits : Nat → Nat → Nat
  | 0, _ => 0
  | k + 1, v => v % 2 * 2 ^ k + revBits k (v / 2)

/-- K when the length is 2^K with K from 1 to 14. -/
def log2Len (L : Nat) : Option Nat := ((List.range 14).find? fun k => 2 ^ (k + 1) = L).map (· + 1)

/-- Post-modification of address `a` by `n` under buffer descriptor `d` (R207). -/
def postMod (d a : Nat) (n : Int) : Nat :=
  let mode : Nat := d / 2 ^ 30
  let first : Nat := d / 2 ^ 14 % 2 ^ 14
  let last : Nat := d % 2 ^ 14
  let linear : Nat := toBits 14 ((a : Int) + n)
  if last < first then linear
  else
    let L : Nat := last - first + 1
    if mode = 1 then first + (((a : Int) - first + n) % (L : Int)).toNat
    else if mode = 2 then
      match log2Len L with
      | none => linear
      | some K =>
        let o : Nat := (((a : Int) - first) % (L : Int)).toNat
        first + revBits K ((revBits K o + revBits K (n % (L : Int)).toNat) % L)
    else linear

/-- Address register `k` of memory m (0 X, 1 Y), by the numbers of R221. -/
def Eng.adr (g : Eng) (m k : Nat) : Nat := nget g.regs (4 * m + k)

/-- Post-modify address register k of memory m by offset register n under its buffer descriptor (R206). -/
def Eng.post (g : Eng) (m k n : Nat) : Eng :=
  let v := postMod (nget g.regs (16 + 4 * m + k)) (nget g.regs (4 * m + k)) (sext 16 (nget g.regs (8 + 4 * m + n)))
  { g with regs := nput g.regs (4 * m + k) v }

/-- Post-modify when the instruction asks for it. -/
def Eng.postIf (g : Eng) (b : Bool) (m k n : Nat) : Eng := if b then g.post m k n else g

/-! ## Memories (R202) -/

/-- Cell `i` of a memory, of 2^w values: an open value while the contents are unknown (R216); the three memories and their cells
take open values of their own. -/
def Eng.cell (g : Eng) (mem : SMap Nat) (m i w : Nat) : Nat :=
  match g.unk with
  | none => nget mem i
  | some c => Config.freeValue (c + m * 2 ^ 14 + i) % 2 ^ w

/-- Word `w` of X (m = 0) or Y (m = 1). -/
def Eng.word (g : Eng) (m w : Nat) : Nat := if m = 0 then g.cell g.x 0 w 32 else g.cell g.y 1 w 32

/-- The instruction word at `pc` in program memory. -/
def Eng.progWord (g : Eng) (pc : Nat) : Nat := g.cell g.prog 2 pc 64

def Eng.setWord (g : Eng) (m w v : Nat) : Eng :=
  if m = 0 then { g with x := nput g.x w (v % 2 ^ 32) } else { g with y := nput g.y w (v % 2 ^ 32) }

/-- Byte `a` of the engine-local space (R210): X, Y, then program memory. -/
def Eng.localByte (g : Eng) (a : Nat) : Byte :=
  if a < 0x10000 then BitVec.ofNat 8 (g.word 0 (a / 4) / 256 ^ (a % 4))
  else if a < 0x20000 then BitVec.ofNat 8 (g.word 1 ((a - 0x10000) / 4) / 256 ^ (a % 4))
  else BitVec.ofNat 8 (g.progWord ((a - 0x20000) / 8) / 256 ^ (a % 8))

/-- Replace byte `i` of a number. -/
def setByteOf (v i : Nat) (b : Byte) : Nat := v - v / 256 ^ i % 256 * 256 ^ i + b.toNat * 256 ^ i

def Eng.setLocalByte (g : Eng) (a : Nat) (b : Byte) : Eng :=
  if a < 0x10000 then g.setWord 0 (a / 4) (setByteOf (g.word 0 (a / 4)) (a % 4) b)
  else if a < 0x20000 then g.setWord 1 ((a - 0x10000) / 4) (setByteOf (g.word 1 ((a - 0x10000) / 4)) (a % 4) b)
  else
    let i := (a - 0x20000) / 8
    { g with prog := nput g.prog i (setByteOf (g.progWord i) (a % 8) b) }

def Eng.localBytes (g : Eng) (a : Nat) : Nat → List Byte
  | 0 => []
  | n + 1 => g.localByte a :: g.localBytes (a + 1) n

/-- The memory of an engine-local address: 0 X, 1 Y, 2 program, 3 none (R210). -/
def localMem (a : Nat) : Nat :=
  if a < 0x10000 then 0 else if a < 0x20000 then 1 else if a < 0x28000 then 2 else 3

/-- A local range of n ≥ 1 bytes lies in one memory (R210, R211). -/
def localRange (a n : Nat) : Bool := decide (localMem a < 3 ∧ localMem a = localMem (a + n - 1))

/-- The 64-bit rows that the bytes `a` to `a + n - 1` touch, numbered over the three memories (R202). -/
def localRows (a n : Nat) : List Nat := (List.range ((a + n - 1) / 8 + 1 - a / 8)).map (· + a / 8)

/-- Macro and row of a 64-bit row of the engine-local space: logical banks by row mod 8, mapped by ENG_MEMm_MAP; program
banks by row mod 4 (R202, R205, R275). -/
def State.engMacro (s : State) (e r : Nat) : Nat × Nat :=
  let base := 2 ^ 16 + e * 2 ^ 8
  if r < 0x2000 then (base + s.f (ENG_MEM_MAP_MAP (e / 3) (e % 3) 0) / 16 ^ (r % 8) % 16, r / 8)
  else if r < 0x4000 then
    (base + 16 + s.f (ENG_MEM_MAP_MAP (e / 3) (e % 3) 1) / 16 ^ (r % 8) % 16, (r - 0x2000) / 8)
  else (base + 32 + r % 4, (r - 0x4000) / 4)

/-- The error that a read of a row meets: 0 none, 1 correctable, 2 uncorrectable (R203, R270). -/
def State.rowErr (s : State) (e r : Nat) : Nat := s.eccErr (s.engMacro e r).1 (s.engMacro e r).2

/-- A read of a row is checked and logged (R271). -/
def State.rowSee (s : State) (e r : Nat) : State := s.eccRead (s.engMacro e r).1 (s.engMacro e r).2

/-- A row is written whole, or merged and written back (R203). -/
def State.rowWrote (s : State) (e r : Nat) : State := s.eccWrite (s.engMacro e r).1 (s.engMacro e r).2

/-- The macros of an engine's memory banks in use: eight of X, eight of Y, four of program memory (R202, R275). -/
def State.engMacros (s : State) (e : Nat) : List Nat :=
  (List.range 8).map (fun i => (s.engMacro e i).1) ++ (List.range 8).map (fun i => (s.engMacro e (0x2000 + i)).1)
    ++ (List.range 4).map fun i => (s.engMacro e (0x4000 + i)).1

/-- Every row of the engine's memories is written with valid check bits (R213, R215). -/
def State.engRowsWrote (s : State) (e : Nat) : State :=
  (s.engMacros e).foldl (fun t m => t.eccWriteRange m 0 (2 ^ 20)) s

/-- Write bytes under enables, except those of the rows `bad` (R203, R210). -/
def Eng.setLocalBytes (g : Eng) (a : Nat) (bad : List Nat) : List Byte → List Bool → Eng
  | [], _ => g
  | b :: t, en =>
    let on := match en with | [] => true | x :: _ => x
    let g := if on && !bad.contains (a / 8) then g.setLocalByte a b else g
    g.setLocalBytes (a + 1) bad t en.tail

/-! ## Stream ports (R208, R209) -/

/-- PACK of a port (R209). -/
def State.pack (s : State) (e i : Nat) : Bool := decide (s.f (ENG_STRM_CFG_PACK (e / 3) (e % 3)) / 2 ^ i % 2 = 1)

/-- The next word of input port i, with the port after the read; none while the port is empty (R209). -/
def Eng.streamRead (g : Eng) (i : Nat) (pack : Bool) : Option (Nat × Eng) :=
  match g.fifoOf i with
  | [] => none
  | b :: t =>
    if pack then
      if g.halfOf i then some (b / 2 ^ 32, (g.setFifo i t).setHalf i false)
      else some (b % 2 ^ 32, g.setHalf i true)
    else some (b % 2 ^ 32, g.setFifo i t)

/-- Output port i (2 T0, 3 T1) takes a word; none while it is full (R209). -/
def Eng.streamWrite (g : Eng) (i : Nat) (pack : Bool) (w : Nat) : Option Eng :=
  let w := w % 2 ^ 32
  if pack then
    match g.pendOf i with
    | none => some (g.setPend i (some w))
    | some lo =>
      if (g.fifoOf i).length < 16 then some ((g.setFifo i (g.fifoOf i ++ [lo + w * 2 ^ 32])).setPend i none) else none
  else if (g.fifoOf i).length < 16 then some (g.setFifo i (g.fifoOf i ++ [w])) else none

/-- An operand read: 0 X, 1 Y at an address register with post-modification, 2 S0, 3 S1 (R224, R227). -/
def State.readOperand (s : State) (e : Nat) (g : Eng) (a : AddrFld) : Option (Nat × Eng) :=
  if a.ms < 2 then some (g.word a.ms (g.adr a.ms a.ar), g.postIf a.p a.ms a.ar a.n)
  else g.streamRead (a.ms - 2) (s.pack e (a.ms - 2))

/-- The 64-bit row of an operand in memory. -/
def AddrFld.row (g : Eng) (a : AddrFld) : Nat := 0x2000 * a.ms + g.adr a.ms a.ar / 2

/-- The error of an operand read (R235); streams have none. -/
def State.operandErr (s : State) (e : Nat) (g : Eng) (a : AddrFld) : Nat :=
  if a.ms < 2 then s.rowErr e (a.row g) else 0

/-- An operand read is checked and logged. -/
def State.operandSee (s : State) (e : Nat) (g : Eng) (a : AddrFld) : State :=
  if a.ms < 2 then s.rowSee e (a.row g) else s

end Sys2Proof.Machine
end

