-- ==== Sys2Proof/Machine/Flags.lean ====
section
/-! DEFINITION. The engines' arithmetic: products (08 R198, R199), accumulation (R200), moves (R201), and the flags an
A-class instruction computes (09 R226). -/

namespace Sys2Proof.Machine

open Reg

/-- ENG_MODE (R218). -/
structure EngMode where
  scale : Nat
  sat : Bool
  sat40 : Bool
  frac : Bool
  xsgn : Bool
  ysgn : Bool
  conj : Bool
  deriving DecidableEq, Repr

def State.engMode (s : State) (e : Nat) : EngMode :=
  let t := e / 3; let j := e % 3
  ⟨s.f (ENG_MODE_SCALE t j), s.bit (ENG_MODE_SAT t j), s.bit (ENG_MODE_SAT40 t j), s.bit (ENG_MODE_FRAC t j),
   s.bit (ENG_MODE_XSGN t j), s.bit (ENG_MODE_YSGN t j), s.bit (ENG_MODE_CONJ t j)⟩

/-! ## Products -/

/-- A 16-bit half of an operand extended to 17 bits: half 0 is [15:0], half 1 is [31:16] (R198). -/
def half (signed : Bool) (w h : Nat) : Int :=
  let v := w / 2 ^ (16 * h) % 2 ^ 16
  if signed then sext 16 v else (v : Int)

/-- The product of two halves, with the FRAC shift (R198). -/
def EngMode.prod (m : EngMode) (x hx y hy : Nat) : Int :=
  let p := half m.xsgn x hx * half m.ysgn y hy
  if m.frac then 2 * p else p

/-- The DMAC contribution: X·yk with the FRAC shift, arithmetically shifted right by 16 (R199). -/
def EngMode.dprod (m : EngMode) (x y hy : Nat) : Int :=
  let xw : Int := if m.xsgn then sext 32 x else ((x % 2 ^ 32 : Nat) : Int)
  let p := xw * half m.ysgn y hy
  (if m.frac then 2 * p else p) / 2 ^ 16

/-! ## Accumulation -/

/-- The value stored for an exact result, and whether the result left −2^39 to 2^39 − 1 (R200). -/
def accStore (sat40 : Bool) (v : Int) : Nat × Bool :=
  let ov := decide (v < -(2 ^ 39) ∨ 2 ^ 39 - 1 < v)
  let r := if ov && sat40 then (if v < 0 then -(2 ^ 39) else 2 ^ 39 - 1) else v
  (toBits 40 r, ov)

/-- Write an exact result to accumulator k: wrapped or saturated, OVk set when it left the range (R200). -/
def State.accWrite (s : State) (e k : Nat) (v : Int) : State :=
  let r := accStore (s.engMode e).sat40 v
  let s := s.updEng e fun g => g.setAcc k r.1
  if r.2 then s.setBit (ENG_DP_FLAGS_OV (e / 3) (e % 3)) k else s

/-- Combine a contribution with the accumulator's value by AOP: add, subtract, write (R223). -/
def combine (aop : Nat) (a p : Int) : Int := if aop = 0 then a + p else if aop = 1 then a - p else p

/-- Apply contributions (accumulator, P). -/
def State.accumulate (s : State) (e aop : Nat) : List (Nat × Int) → State
  | [] => s
  | (k, p) :: t => (s.accWrite e k (combine aop ((s.engAt e).accInt k) p)).accumulate e aop t

/-! ## Moves (R201) -/

/-- Power of two of the scale, plus one. -/
def scaleShift (scale : Nat) : Nat :=
  if scale = 0 then 1 else if scale = 1 then 2 else if scale = 2 then 3 else 0

/-- Scale, round to nearest even and saturate or truncate to `width` bits; the second part says that it saturated. -/
def moveOut (m : EngMode) (width : Nat) (a : Int) : Nat × Bool :=
  let t := a * 2 ^ scaleShift m.scale
  let sh := if width = 16 then 17 else 1
  let q := t / 2 ^ sh
  let f := t - q * 2 ^ sh
  let h : Int := 2 ^ (sh - 1)
  let q := if h < f ∨ (f = h ∧ q % 2 = 1) then q + 1 else q
  let lo : Int := -(2 ^ (width - 1))
  let hi : Int := 2 ^ (width - 1) - 1
  if m.sat then
    if q < lo then (toBits width lo, true) else if hi < q then (toBits width hi, true) else (toBits width q, false)
  else (toBits width q, false)

/-- The word a store field's source gives, and whether the move saturated (R225): 32 bits, 16 bits, or a complex pair. -/
def moveWord (m : EngMode) (g : Eng) (st : StoreFld) : Nat × Bool :=
  if st.sw = 0 then moveOut m 32 (g.accInt st.sa)
  else if st.sw = 1 then moveOut m 16 (g.accInt st.sa)
  else
    let re := moveOut m 16 (g.accInt (2 * st.sa))
    let im := moveOut m 16 (g.accInt (2 * st.sa + 1))
    (re.1 + im.1 * 2 ^ 16, re.2 || im.2)

/-! ## Flags -/

/-- N, Z, E and V of an A-class result (R226): `v` is the exact result, `r` the 40-bit value. -/
def accFlags (r : Nat) (v : Int) : Nat :=
  8 * b2n (decide (sext 40 r < 0)) + 4 * b2n (decide (sext 40 r = 0)) + 2 * b2n (accE r)
    + b2n (decide (v < -(2 ^ 39) ∨ 2 ^ 39 - 1 < v))

/-- COND (R229): N, Z, E, V are FLAGS bits 3 to 0; `inw i` says that input i holds a word, `outw i` that output i
accepts one. -/
def condTrue (flags : Nat) (inw outw : Nat → Bool) (c : Nat) : Bool :=
  let n := decide (flags / 8 % 2 = 1)
  let z := decide (flags / 4 % 2 = 1)
  let e := decide (flags / 2 % 2 = 1)
  let v := decide (flags % 2 = 1)
  match c with
  | 0 => true
  | 1 => z
  | 2 => !z
  | 3 => n
  | 4 => !n
  | 5 => !n && !z
  | 6 => n || z
  | 7 => v
  | 8 => !v
  | 9 => e
  | 10 => !e
  | 11 => inw 0
  | 12 => inw 1
  | 13 => outw 2
  | 14 => outw 3
  | _ => false

/-- COND of engine e's next instruction (R229). -/
def State.condHolds (s : State) (e c : Nat) : Bool :=
  let g := s.engAt e
  condTrue g.flags (fun i => (g.streamRead i (s.pack e i)).isSome)
    (fun i => (g.streamWrite i (s.pack e i) 0).isSome) c

end Sys2Proof.Machine
end

