-- ==== Sys2Proof/Machine/EngDma.lean ====
section
/-! DEFINITION. The engines' stream ports toward the fabric (08 R208, R209), the DMA port (R210), the DMA channels (R211,
R212), trio power (R213) and the trio clear (R215), with their commands. -/

namespace Sys2Proof.Machine

open Reg

/-! ## Trio -/

def State.trioAt (s : State) (t : Nat) : Trio := SMap.get (fun _ => Trio.empty) s.trio t
def State.setTrio (s : State) (t : Nat) (x : Trio) : State :=
  { s with trio := SMap.put (fun _ => Trio.empty) s.trio t x }

/-- The trio is ON and is not being cleared, and its die is not isolated (R213, R215, R216). -/
def State.trioUp (s : State) (t : Nat) : Bool :=
  decide (s.f (ENG_TRIO_PWR_STATE t) = 2 ∧ s.f (ENG_TRIO_PWR_CLEARING t) = 0) && !dieIsolated s (t / 8)

/-! ## Stream beats -/

/-- A beat moves between the fabric and a stream FIFO (R208): into S0 or S1 (port 0, 1) with DATA `d`, or out of T0 or T1
(2, 3). It moves only while the trio is up and the region's envelope is open (R50). -/
def execStreamBeat (e port d : Nat) (s : State) : Host.Outcome State Fault Refusal :=
  let g := s.engAt e
  .next (if !s.trioUp (e / 3) || !s.connected (e / 3) then s
    else if port < 2 then
      if (g.fifoOf port).length < 16 then s.setEng e (g.setFifo port (g.fifoOf port ++ [d % 2 ^ 64])) else s
    else
      match g.fifoOf port with
      | [] => s
      | b :: t => (s.setEng e (g.setFifo port t)).answer (.ok b))

/-- FLUSHp sends the pending half of Tp with DATA[63:32] = 0 (R209). A half waits while its FIFO is full. -/
def State.flushPort (s : State) (e p : Nat) : State :=
  let g := s.engAt e
  match g.pendOf (2 + p) with
  | none => s
  | some lo =>
    if (g.fifoOf (2 + p)).length < 16 then
      s.setEng e ((g.setFifo (2 + p) (g.fifoOf (2 + p) ++ [lo])).setPend (2 + p) none)
    else s

def execStreamFlush (m : Master) (e p : Nat) (s : State) : Host.Outcome State Fault Refusal :=
  .next (s.viaWrite m (ENG_STRM_CTRL (e / 3) (e % 3)) fun s => s.flushPort e p)

/-! ## DMA port (R210) -/

/-- A write of the bytes from `a` does not cover the whole of a row, so it merges (R203). -/
def partialRow (a : Nat) (d : List Byte) (en : List Bool) (row : Nat) : Bool :=
  !(decide (a ≤ 8 * row ∧ 8 * row + 8 ≤ a + d.length) &&
    (List.range 8).all fun i => (en[8 * row + i - a]?).getD true)

/-- Read bytes of an engine's memories through its DMA port: checked and logged by row (R203, R210); the second part says
that a row has an uncorrectable error. -/
def State.localRead (s : State) (e a n : Nat) : State × List Byte × Bool :=
  let rows := localRows a n
  let hit := rows.any fun r => decide (s.rowErr e r = 2)
  (rows.foldl (fun u r => u.rowSee e r) s, (s.engAt e).localBytes a n, hit)

/-- Write bytes through the DMA port: a row that is not written whole is merged, and keeps its word when the merge read
meets an uncorrectable error (R203). -/
def State.localWrite (s : State) (e a : Nat) (d : List Byte) (en : List Bool) : State × Bool :=
  let rows := localRows a d.length
  let mrg := rows.filter (partialRow a d en)
  let bad := mrg.filter fun r => decide (s.rowErr e r = 2)
  let s := mrg.foldl (fun u r => u.rowSee e r) s
  let s := s.setEng e ((s.engAt e).setLocalBytes a bad d en)
  ((rows.filter fun r => !bad.contains r).foldl (fun u r => u.rowWrote e r) s, !bad.isEmpty)

/-- The memory that holds local address `a` is with its BIST copy: a beat of the DMA port waits (07 R179, R181). -/
def State.memHeld (s : State) (e a : Nat) : Bool := (s.arb (.eng e (localMem a))).owner.any fun o => decide (o.idx ≠ 0)

/-- The DMA port is fenced at that memory (07 R187). -/
def State.memFenced (s : State) (e a : Nat) : Bool := (s.arb (.eng e (localMem a))).fenced.contains 0

/-- Serve a request addressed to the engine's node (R210). -/
def State.serveEng (s : State) (e : Nat) (p : Packet) : State :=
  let n := p.bcnt + 1
  if s.f (ENG_TRIO_PWR_CLEARING (e / 3)) = 1 then s.respond p stErr []
  else if s.memFenced e p.addr then s.respond p stFenced []
  else if !localRange p.addr n || decide (p.addr % 4 ≠ 0) then s.respond p stErr []
  else if p.opc = opcWrite then
    if localMem p.addr = 2 ∧ s.engBusy e then s.respond p stErr []
    else
      let r := s.localWrite e p.addr (p.data.take n) p.be
      r.1.respond p (if r.2 then stErr else stOk) []
  else
    let r := s.localRead e p.addr n
    if r.2.2 then r.1.respond p stErr [] else r.1.respond p stOk r.2.1

/-- The engine's NAP serves the oldest request that has reached it (R210: in arrival order). -/
def execEngNapRequest (e : Nat) (s : State) : Host.Outcome State Fault Refusal :=
  .next (match s.noc.inbox.find? (fun p => p.dst = engineNode e) with
    | none => s
    | some p =>
      if s.memHeld e p.addr then s
      else (s.updNoc fun n => { n with inbox := dropFirst (fun q => q.dst = engineNode e) n.inbox }).serveEng e p)

/-! ## DMA channels -/

def Eng.dmaOf (g : Eng) (c : Nat) : Dma := SMap.get (fun _ => Dma.empty) g.dma c
def Eng.setDma (g : Eng) (c : Nat) (d : Dma) : Eng := { g with dma := SMap.put (fun _ => Dma.empty) g.dma c d }
def State.dmaBusy (s : State) (e c : Nat) : Bool := s.bit (ENG_DMA_STATUS_BUSY (e / 3) (e % 3) c)

def State.dmaLen (s : State) (e c : Nat) : Nat := s.f (ENG_DMA_LEN_LEN (e / 3) (e % 3) c)
def State.dmaLocal (s : State) (e c : Nat) : Nat := s.f (ENG_DMA_LADDR_LADDR (e / 3) (e % 3) c)
def State.dmaRemote (s : State) (e c : Nat) : Nat :=
  s.f (ENG_DMA_RADDR_HI_RADDR (e / 3) (e % 3) c) * 2 ^ 32 + s.f (ENG_DMA_RADDR_LO_RADDR (e / 3) (e % 3) c)

/-- Outstanding requests allowed per channel (R211); 0 behaves as 1. -/
def State.dmaOuts (s : State) (t : Nat) : Nat := max 1 (s.eff (ENG_TRIO_XP_OUTS t))

/-- End a channel that has no request outstanding and sends none (R212). -/
def State.dmaSettle (s : State) (e c : Nat) : State :=
  let d := (s.engAt e).dmaOf c
  let t := e / 3; let j := e % 3
  if s.dmaBusy e c && d.out.isEmpty && (decide (d.err ≠ 0) || decide (s.dmaLen e c ≤ d.off)) then
    s.setFs [(ENG_DMA_STATUS_BUSY t j c, 0), (ENG_DMA_STATUS_DONE t j c, 1), (ENG_DMA_STATUS_ERR t j c, d.err),
      (ENG_DMA_STATUS_RSTATUS t j c, d.rst)]
  else s

/-- The sender's NAP can take one more request. -/
def State.nodeReady (s : State) (node : Nat) : Bool :=
  decide (s.f (NOC_PORT_STATUS_STATE (nodeRouter node) (nodePort node)) = 1) && decide ((s.dueOf node).length < 64)

/-- Send requests while the channel may (R211): at most 512 bytes each, none crossing a 512-byte remote boundary, at
most OUTS outstanding. A local read that meets an uncorrectable error ends the sending (R212). -/
def State.dmaPump (e c : Nat) : Nat → State → State
  | 0, s => s
  | k + 1, s =>
    let g := s.engAt e
    let d := g.dmaOf c
    let t := e / 3; let j := e % 3
    let len := s.dmaLen e c
    if !s.dmaBusy e c || decide (d.err ≠ 0) || decide (len ≤ d.off) || decide (s.dmaOuts t ≤ d.out.length)
        || !s.nodeReady (engineNode e) || s.memHeld e (s.dmaLocal e c + d.off) then s
    else
      let ra := s.dmaRemote e c + d.off
      let la := s.dmaLocal e c + d.off
      let n := min (512 - ra % 512) (len - d.off)
      let wr := s.bit (ENG_DMA_CTRL_DIR t j c)
      let rd := if wr then s.localRead e la n else (s, [], false)
      let s := rd.1
      if rd.2.2 then s.setEng e (g.setDma c { d with err := 4, rst := stErr })
      else
        let tag := 128 * c + d.nreq % 128
        let p : Packet := ⟨s.f (ENG_DMA_RADDR_HI_RNODE t j c), engineNode e, if wr then opcWrite else opcRead, tag, 0,
          ra % 2 ^ 40, n - 1, s.f (ENG_DMA_CTRL_PAGE t j c), 0, 0, false,
          if s.bit (ENG_DMA_CTRL_VC2 t j c) then 2 else 0, false, 0, rd.2.1, []⟩
        let s := s.setEng e (g.setDma c { d with off := d.off + n, nreq := d.nreq + 1, out := d.out ++ [⟨tag, la, n⟩] })
        State.dmaPump e c k (s.sendRequest p)

/-- The refusal of GO (R211): 0 none, 1 RANGE, 2 ALIGN, 3 PM_BUSY. -/
def State.dmaCheck (s : State) (e c : Nat) : Nat :=
  let la := s.dmaLocal e c; let n := s.dmaLen e c
  if !localRange la (max 1 n) then 1
  else if la % 4 ≠ 0 ∨ s.dmaRemote e c % 4 ≠ 0 ∨ n % 4 ≠ 0 ∨ n = 0 then 2
  else if s.f (ENG_DMA_CTRL_DIR (e / 3) (e % 3) c) = 0 ∧ localMem la = 2 ∧ s.engBusy e then 3
  else 0

/-- GO of a channel (R211, R217). -/
def State.dmaGo (s : State) (e c : Nat) : State :=
  let t := e / 3; let j := e % 3
  if s.dmaBusy e c then s.busy (ENG_DMA_STATUS_FIELD_BUSY t j c)
  else
    let r := s.dmaCheck e c
    if r ≠ 0 then s.setF (ENG_DMA_STATUS_ERR t j c) r
    else
      let s := s.setFs [(ENG_DMA_STATUS_BUSY t j c, 1), (ENG_DMA_STATUS_ERR t j c, 0), (ENG_DMA_STATUS_RSTATUS t j c, 0),
        (ENG_DMA_STATUS_BYTES t j c, 0)]
      let s := if (List.range 6).any fun i => s.dmaBusy (3 * t + i / 2) (i % 2) && decide (6 * t + i ≠ 2 * e + c) then s
        else s.xbackNow (ENG_TRIO_XP_OUTS t)
      let s := s.updEng e fun g => g.setDma c { (g.dmaOf c) with off := 0, out := [], err := 0, rst := 0 }
      (State.dmaPump e c 16 s).dmaSettle e c

def execDmaGo (m : Master) (e c : Nat) (s : State) : Host.Outcome State Fault Refusal :=
  .next (s.viaWrite m (ENG_DMA_CTRL (e / 3) (e % 3) c) fun s => s.dmaGo e c)

/-- ABORT of a channel (R212); a channel that is not BUSY has nothing to abort. -/
def State.dmaAbort (s : State) (e c : Nat) : State :=
  if s.dmaBusy e c then
    (s.updEng e fun g => let d := g.dmaOf c; g.setDma c { d with err := if d.err = 0 then 5 else d.err }).dmaSettle e c
  else s

def execDmaAbort (m : Master) (e c : Nat) (s : State) : Host.Outcome State Fault Refusal :=
  .next (s.viaWrite m (ENG_DMA_CTRL (e / 3) (e % 3) c) fun s => s.dmaAbort e c)

/-- Count an OK response, writing the data of a read into the local memory; a merge that meets an uncorrectable error
ends the channel (R203, R212). -/
def State.dmaOk (s : State) (e c : Nat) (q : DmaReq) (r : Packet) : State :=
  let w := if r.opc = opcReadRsp then s.localWrite e q.addr r.data [] else (s, false)
  let s := if w.2 then w.1.updEng e fun g =>
      let d := g.dmaOf c
      g.setDma c (if d.err = 0 then { d with err := 4, rst := stErr } else d) else w.1
  let F := ENG_DMA_STATUS_BYTES (e / 3) (e % 3) c
  s.setF F (s.f F + q.n)

/-- A response to a DMA request is sunk (R212): OK data are counted, the first other status ends the sending, and the
last response ends the channel. A response that no channel waits for any more is discarded (R215). -/
def State.dmaResponse (s : State) (e tag : Nat) (em : Bool) : State :=
  match s.rspFor (engineNode e) tag with
  | none => s
  | some r =>
    let c := tag / 128
    if s.rspFenced (engineNode e) then s.dropRsp (engineNode e) tag
    else if ((s.engAt e).dmaOf c).out.any (fun q => decide (q.tag = tag) && s.memHeld e q.addr) then s
    else
    let s := s.takeRsp (engineNode e) tag
    let g := s.engAt e
    let d := g.dmaOf c
    match d.out.find? (fun q => q.tag = tag) with
    | none => s
    | some q =>
      let st := if em ∨ r.ended then stErr else r.status
      let d := { d with out := d.out.filter (fun x => x.tag ≠ tag) }
      let d := if st ≠ stOk ∧ d.err = 0 then { d with err := 4, rst := st } else d
      let s := s.setEng e (g.setDma c d)
      let s := if st = stOk then s.dmaOk e c q r else s
      (State.dmaPump e c 16 s).dmaSettle e c

def execDmaResponse (e tag : Nat) (em : Bool) (s : State) : Host.Outcome State Fault Refusal :=
  .next (s.dmaResponse e tag em)

/-- The DMA port of an engine is fenced: its BUSY channels end with RESPONSE and RSTATUS FENCED (R217). -/
def State.dmaFenced (s : State) (e : Nat) : State :=
  (List.range 2).foldl (fun t c =>
    if t.dmaBusy e c then
      (t.updEng e fun g =>
        let d := g.dmaOf c
        g.setDma c (if d.err = 0 then { d with err := 4, rst := stFenced } else d)).dmaSettle e c
    else t) s

/-- Write DMA channel register i (0 LADDR, 1 RADDR_LO, 2 RADDR_HI, 3 LEN, 4 CTRL, 5 STATUS) with the types and classes of
its map (R211, R218): QUIET fields are ignored while BUSY, with FIELD_BUSY set. -/
def State.dmaRegWrite (s : State) (e c i v : Nat) : State :=
  let t := e / 3; let j := e % 3
  let fb := ENG_DMA_STATUS_FIELD_BUSY t j c
  let quiet := fun (l : List (Fld × Nat)) => if s.dmaBusy e c then s.busy fb else s.setFs l
  if i = 0 then quiet [(ENG_DMA_LADDR_LADDR t j c, v)]
  else if i = 1 then quiet [(ENG_DMA_RADDR_LO_RADDR t j c, v)]
  else if i = 2 then quiet [(ENG_DMA_RADDR_HI_RNODE t j c, v / 2 ^ 8), (ENG_DMA_RADDR_HI_RADDR t j c, v)]
  else if i = 3 then quiet [(ENG_DMA_LEN_LEN t j c, v)]
  else if i = 4 then
    let s := quiet [(ENG_DMA_CTRL_PAGE t j c, v / 2 ^ 8), (ENG_DMA_CTRL_VC2 t j c, v / 2 ^ 4), (ENG_DMA_CTRL_DIR t j c, v)]
    let s := if v / 2 ^ 31 % 2 = 1 then s.dmaGo e c else s
    if v / 2 ^ 30 % 2 = 1 then s.dmaAbort e c else s
  else
    let s := if v / 2 ^ 20 % 2 = 1 then s.setF fb 0 else s
    if v / 2 ^ 19 % 2 = 1 then s.setF (ENG_DMA_STATUS_DONE t j c) 0 else s

/-! ## Clearing and power (R213, R215) -/

/-- Fields of an engine at their reset values: the registers of R240, R218 and the DMA channels. -/
def State.engResetFields (s : State) (e : Nat) : State :=
  let t := e / 3; let j := e % 3
  [ENG_MODE_SCALE t j, ENG_MODE_SAT t j, ENG_MODE_SAT40 t j, ENG_MODE_FRAC t j, ENG_MODE_XSGN t j, ENG_MODE_YSGN t j,
   ENG_MODE_CONJ t j, ENG_DP_FLAGS_FIELD_BUSY t j, ENG_DP_FLAGS_MS t j, ENG_DP_FLAGS_OV t j, ENG_STRM_CFG_PACK t j,
   ENG_STRM_STALL_CYCLES t j, ENG_STATUS_HALT_CODE t j, ENG_STATUS_SIG_CODE t j, ENG_STATUS_SIG t j,
   ENG_STATUS_LOST_WORD t j, ENG_STATUS_LDEPTH t j, ENG_STATUS_CDEPTH t j, ENG_STATUS_STATE t j, ENG_PC_PC t j,
   ENG_EXC_CAUSE t j, ENG_EXC_DETAIL t j, ENG_EXC_PC t j, ENG_WDT_EN t j, ENG_WDT_LOAD t j, ENG_WDT_COUNT_COUNT t j,
   ENG_STIM_CTRL_EN t j, ENG_STIM_STATUS_LEVEL t j, ENG_STIM_STATUS_DROPPED t j, ENG_REGSEL_NUM t j,
   ENG_CYCLES_COUNT t j, ENG_RETIRED_COUNT t j].foldl State.clearF s

def State.dmaResetFields (s : State) (e c : Nat) : State :=
  let t := e / 3; let j := e % 3
  [ENG_DMA_LADDR_LADDR t j c, ENG_DMA_RADDR_LO_RADDR t j c, ENG_DMA_RADDR_HI_RNODE t j c, ENG_DMA_RADDR_HI_RADDR t j c,
   ENG_DMA_LEN_LEN t j c, ENG_DMA_CTRL_PAGE t j c, ENG_DMA_CTRL_VC2 t j c, ENG_DMA_CTRL_DIR t j c,
   ENG_DMA_STATUS_ERR t j c, ENG_DMA_STATUS_RSTATUS t j c, ENG_DMA_STATUS_FIELD_BUSY t j c, ENG_DMA_STATUS_DONE t j c,
   ENG_DMA_STATUS_BUSY t j c, ENG_DMA_STATUS_BYTES t j c].foldl State.clearF s

/-- The engine's registers, accumulators and stacks at reset (R233: the registers of R221, and the loop and call
stacks). -/
def State.engClrReg (s : State) (e : Nat) : State :=
  let t := e / 3; let j := e % 3
  let s := s.updEng e fun g => { g with regs := [], acc := [], flags := 0, lsRange := [], lsCount := [], cs := [] }
  [ENG_MODE_SCALE t j, ENG_MODE_SAT t j, ENG_MODE_SAT40 t j, ENG_MODE_FRAC t j, ENG_MODE_XSGN t j, ENG_MODE_YSGN t j,
   ENG_MODE_CONJ t j, ENG_STATUS_LDEPTH t j, ENG_STATUS_CDEPTH t j].foldl State.clearF s

/-- One engine of a trio being cleared: it stops with no exception, both DMA channels end with ERR CLEARED, FIFOs,
pending halves and memories are emptied, registers, stacks, ENG_MODE and ENG_STRM_CFG reset (R215, R243). -/
def State.engClear (s : State) (e : Nat) : State :=
  let t := e / 3; let j := e % 3
  let s := (List.range 2).foldl (fun u c =>
      if u.dmaBusy e c then
        u.setFs [(ENG_DMA_STATUS_BUSY t j c, 0), (ENG_DMA_STATUS_DONE t j c, 1), (ENG_DMA_STATUS_ERR t j c, 6),
          (ENG_DMA_STATUS_RSTATUS t j c, 0)]
      else u) s
  let s := (s.engClrReg e).updEng e fun g =>
    { Eng.empty with dma := [(0, { Dma.empty with nreq := (g.dmaOf 0).nreq + 1 }),
                             (1, { Dma.empty with nreq := (g.dmaOf 1).nreq + 1 })] }
  ((s.clearF (ENG_STRM_CFG_PACK t j)).setEngState e 0).engRowsWrote e

/-- The hub clears a trio that is ON; a trio that is OFF or RETAIN, or in transition, is marked, and is cleared when it
next wakes (R215). -/
def State.trioClear (s : State) (t : Nat) : State :=
  let s := s.bistAbandon t
  if s.f (ENG_TRIO_PWR_STATE t) = 2 then
    (((s.engClear (3 * t)).engClear (3 * t + 1)).engClear (3 * t + 2)).setF (ENG_TRIO_PWR_CLEARING t) 1
  else s.setTrio t { s.trioAt t with clearDue := true }

/-- Any engine of the trio runs, a DMA channel is BUSY, or an inbound request is being served (R213). -/
def State.trioInUse (s : State) (t : Nat) : Bool :=
  (List.range 3).any fun j =>
    let e := 3 * t + j
    s.engBusy e || s.dmaBusy e 0 || s.dmaBusy e 1 || s.noc.inbox.any (fun p => p.dst = engineNode e)

/-- Loss of registers, accumulators and FIFOs on leaving ON; OFF loses the memories too (R213). -/
def State.engLose (s : State) (off : Bool) (e : Nat) : State :=
  let s := s.updEng e fun g =>
    if off then Eng.empty else { Eng.empty with x := g.x, y := g.y, prog := g.prog, unk := g.unk }
  ((s.engResetFields e).dmaResetFields e 0).dmaResetFields e 1

/-- Grants and entries at the arbiters of the trio's memories go with its clock (07 R190). -/
def State.trioArbs (s : State) (t : Nat) : State :=
  (List.range 9).foldl (fun u i => u.arbRemove (.eng (3 * t + i / 3) (i % 3)) fun _ => true) s

/-- Begin a transition of the trio to state `v` (0 OFF, 1 RETAIN, 2 ON), STATE reading 3. Leaving ON takes the engine NAPs
down (R213, R170). -/
def State.trioStart (s : State) (t v : Nat) : State :=
  let st := s.f (ENG_TRIO_PWR_STATE t)
  let s := if st = 2 then (List.range 3).foldl (fun u j =>
      ((u.bridgeDown (routerOf t) (6 + j) (if dieIsolated u (t / 8) then stUnreach else stSideDown)).engLose
        (decide (v = 0)) (3 * t + j))) (s.trioArbs t)
    else if st = 1 ∧ v = 0 then (List.range 3).foldl (fun u j => u.engLose true (3 * t + j)) s
    else s
  (s.setTrio t { s.trioAt t with goal := v, lost := (s.trioAt t).lost || decide (v = 0) }).setFs [(ENG_TRIO_PWR_STATE t, 3), (ENG_TRIO_PWR_ERR t, 0)]

/-- Check a request for state `v` and start its transition, or refuse it with IN_USE (R213). -/
def State.trioTry (s : State) (t v : Nat) : State :=
  let st := s.f (ENG_TRIO_PWR_STATE t)
  if v = st then s.setF (ENG_TRIO_PWR_ERR t) 0
  else if v < 2 ∧ s.trioInUse t then s.setFs [(ENG_TRIO_PWR_REQ t, st), (ENG_TRIO_PWR_ERR t, 1)]
  else s.trioStart t v

/-- A request of a trio power state (R213): started or refused now, or kept while a transition or a clear is in
progress. -/
def State.trioReq (s : State) (t v : Nat) : State :=
  let s := s.setF (ENG_TRIO_PWR_REQ t) v
  if s.f (ENG_TRIO_PWR_STATE t) = 3 ∨ s.f (ENG_TRIO_PWR_CLEARING t) = 1 then
    s.setTrio t { s.trioAt t with kept := some v }
  else s.trioTry t v

/-- PWR_DOMn of the trio mirrors it (14 R373), and the die's engine PLL starts while a trio of the die is not OFF (14 R364). -/
def State.trioMirror (s : State) (t : Nat) : State :=
  let q := s.f (ENG_TRIO_PWR_REQ t)
  let s := s.setFs [(PWR_DOM_CTRL_REQ (64 + t), if q = 2 then 1 else if q = 1 then 2 else 0),
    (PWR_DOM_STATUS_STATE (64 + t), s.f (ENG_TRIO_PWR_STATE t)), (PWR_DOM_STATUS_ERR (64 + t), s.f (ENG_TRIO_PWR_ERR t))]
  s.pllEval (65 + t / 8)

/-- ENG_TRIO_PWR.REQ; code 3 is ignored and logged (R218). -/
def execTrioPwrReq (m : Master) (t v : Nat) (s : State) : Host.Outcome State Fault Refusal :=
  .next (s.viaWrite m (ENG_TRIO_PWR t) fun s =>
    if v % 4 = 3 then s.logDrop m .badCode (ENG_TRIO_PWR t) else (s.trioReq t (v % 4)).trioMirror t)

/-- Take the kept request once the transition and any clear have ended. -/
def State.trioKept (s : State) (t : Nat) : State :=
  match (s.trioAt t).kept with
  | none => s
  | some v =>
    if s.f (ENG_TRIO_PWR_STATE t) = 3 ∨ s.f (ENG_TRIO_PWR_CLEARING t) = 1 then s
    else (s.setTrio t { s.trioAt t with kept := none }).trioTry t v

/-- The engines of a trio that wakes are stopped, with registers at their reset values, whatever was written meanwhile; after OFF
the memories hold zero with valid check bits (R213). -/
def State.trioWoken (s : State) (t : Nat) : State :=
  (List.range 3).foldl (fun u j =>
    let e := 3 * t + j
    let u := u.engLose (s.trioAt t).lost e
    if (s.trioAt t).lost then u.engRowsWrote e else u) (s.setTrio t { s.trioAt t with lost := false })

/-- A transition ends (R213): a clear that was due runs when the trio wakes, before its NAPs carry traffic (R215); OFF to
RETAIN passes through ON, so its clear has run too; then a kept request is checked. -/
def execTrioPwrEnd (t us : Nat) (s : State) : Host.Outcome State Fault Refusal :=
  .next (if s.f (ENG_TRIO_PWR_STATE t) ≠ 3 then s
    else
      let x := s.trioAt t
      let s := s.setF (ENG_TRIO_PWR_STATE t) x.goal
      let s := if x.goal = 2 then (s.setF (PWR_DOM_STATUS_WAKE_US (64 + t)) (min us 65535)).trioWoken t else s
      let s := if x.goal = 2 ∧ x.clearDue then (s.setTrio t { s.trioAt t with clearDue := false }).trioClear t
        else if x.goal = 1 ∧ x.lost then
          State.trioWoken (s.setTrio t { x with clearDue := false }) t   -- OFF to RETAIN passes through ON
        else s
      (s.trioKept t).trioMirror t)

/-- A trio clear ends (R215): CLEARING reads 0 and a kept request is checked. -/
def execTrioClearEnd (t : Nat) (s : State) : Host.Outcome State Fault Refusal :=
  .next (if s.bit (ENG_TRIO_PWR_CLEARING t) then ((s.setF (ENG_TRIO_PWR_CLEARING t) 0).trioKept t).trioMirror t else s)

end Sys2Proof.Machine
end

