-- ==== Sys2Proof/Machine/EngIsa.lean ====
section
/-! DEFINITION. The engines' instruction set (09 R219 to R232, R238, R239): decoding, the effect of each instruction, and
the issue of one instruction at ENG_PC. -/

namespace Sys2Proof.Machine

open Reg

/-! ## Instruction words (R220 to R228) -/

/-- Bits [hi:lo] of a word. -/
def bitsOf (w hi lo : Nat) : Nat := w / 2 ^ lo % 2 ^ (hi - lo + 1)

/-- The store field of a word (R225). -/
def decodeStore (w : Nat) : StoreFld :=
  ⟨bitsOf w 37 35, bitsOf w 34 33, bitsOf w 32 31, bitsOf w 30 29, decide (bitsOf w 28 28 = 1), bitsOf w 27 26,
   decide (bitsOf w 25 25 = 1)⟩

/-- The fields of an M-class word (R223). -/
def decodeMul (w : Nat) : MulFld :=
  ⟨bitsOf w 53 52, bitsOf w 51 50, bitsOf w 49 48, bitsOf w 47 46, decide (bitsOf w 45 45 = 1), bitsOf w 44 43,
   bitsOf w 42 41, decide (bitsOf w 40 40 = 1), bitsOf w 39 38, decodeStore w⟩

/-- The fields of an A-class word (R226). -/
def decodeAcc (w : Nat) : AccFld := ⟨bitsOf w 53 52, bitsOf w 51 50, bitsOf w 49 44, decodeStore w⟩

/-- The addressing fields of LD and ST: MS or MD [47:46], AR [45:44], P [43], N [42:41] (R227). -/
def decodeLd (w : Nat) : AddrFld := ⟨bitsOf w 47 46, bitsOf w 45 44, decide (bitsOf w 43 43 = 1), bitsOf w 42 41⟩

/-- The addressing fields of LDA: MS [51:50], AR [49:48], P [47], N [46:45] (R227). -/
def decodeLda (w : Nat) : AddrFld := ⟨bitsOf w 51 50, bitsOf w 49 48, decide (bitsOf w 47 47 = 1), bitsOf w 46 45⟩

/-- A word whose bits in a field marked zero are zero, or ILLEGAL with detail 1 (R220). -/
def zeroBits (z : Bool) (op : EngOp) : EngOp := if z then op else .bad 1

/-- The instruction of a 64-bit word (R220 to R228): an OPC outside the table is ILLEGAL detail 0. -/
def decodeEng (w : Nat) : EngOp :=
  let m := decodeMul w
  let zm := decide (bitsOf w 24 0 = 0)
  let a := decodeAcc w
  let za := decide (bitsOf w 43 38 = 0 ∧ bitsOf w 24 0 = 0)
  match bitsOf w 63 58 with
  | 0x00 => .nop
  | 0x01 => zeroBits zm (.mac m)
  | 0x02 => zeroBits zm (.cmac m)
  | 0x03 => zeroBits zm (.qmac m)
  | 0x04 => zeroBits zm (.dmac m)
  | 0x05 => zeroBits zm (.pmov m)
  | 0x10 => zeroBits za (.clr a)
  | 0x11 => zeroBits za (.adda a)
  | 0x12 => zeroBits za (.suba a)
  | 0x13 => zeroBits za (.mova a)
  | 0x14 => zeroBits za (.nega a)
  | 0x15 => zeroBits za (.absa a)
  | 0x16 => zeroBits za (.ash a)
  | 0x17 => zeroBits za (.cmpa a)
  | 0x18 => zeroBits za (.tsta a)
  | 0x20 => zeroBits (decide (bitsOf w 47 32 = 0)) (.ldi (bitsOf w 53 48) (bitsOf w 31 0))
  | 0x21 => zeroBits (decide (bitsOf w 40 0 = 0)) (.ld (bitsOf w 53 48) (decodeLd w))
  | 0x22 => zeroBits (decide (bitsOf w 40 0 = 0)) (.st (bitsOf w 53 48) (decodeLd w))
  | 0x23 => zeroBits (decide (bitsOf w 41 0 = 0)) (.movr (bitsOf w 53 48) (bitsOf w 47 42))
  | 0x24 => zeroBits (decide (bitsOf w 42 0 = 0)) (.lda (bitsOf w 53 52) (decodeLda w) (bitsOf w 44 43))
  | 0x25 => zeroBits (decide (bitsOf w 51 32 = 0)) (.ldai (bitsOf w 53 52) (bitsOf w 31 0))
  | 0x30 => zeroBits (decide (bitsOf w 53 12 = 0)) (.jmp (bitsOf w 11 0))
  | 0x31 => zeroBits (decide (bitsOf w 53 12 = 0)) (.call (bitsOf w 11 0))
  | 0x32 => zeroBits (decide (bitsOf w 53 0 = 0)) .ret
  | 0x33 => zeroBits (decide (bitsOf w 53 44 = 0 ∧ bitsOf w 27 12 = 0)) (.loop (bitsOf w 43 28) (bitsOf w 11 0))
  | 0x34 => zeroBits (decide (bitsOf w 47 12 = 0)) (.loopr (bitsOf w 53 48) (bitsOf w 11 0))
  | 0x35 => zeroBits (decide (bitsOf w 53 0 = 0)) .brk
  | 0x36 => zeroBits (decide (bitsOf w 53 8 = 0)) (.halt (bitsOf w 7 0))
  | 0x37 => zeroBits (decide (bitsOf w 53 0 = 0)) .kick
  | 0x38 => zeroBits (decide (bitsOf w 46 44 = 0 ∧ bitsOf w 35 32 = 0))
      (.stim (bitsOf w 53 48) (decide (bitsOf w 47 47 = 1)) (bitsOf w 43 36) (bitsOf w 31 0))
  | 0x39 => zeroBits (decide (bitsOf w 53 2 = 0)) (.waitd (bitsOf w 1 0))
  | 0x3A => zeroBits (decide (bitsOf w 53 8 = 0)) (.sig (bitsOf w 7 0))
  | _ => .bad 0

/-! ## Illegal field values (R220 to R228) -/

/-- A store field value marked illegal (R225). -/
def StoreFld.illegal (f : StoreFld) : Bool :=
  decide (5 ≤ f.sd) || (decide (f.sd ≠ 0) && (decide (f.sw = 3) || decide (f.sw = 2 ∧ 2 ≤ f.sa)))

/-- A field value of an M-class word marked illegal, for the largest TGT the opcode allows (R223). -/
def MulFld.illegal (f : MulFld) (maxTgt : Nat) (pmov : Bool) : Bool :=
  (if pmov then decide (f.aop ≠ 0) else decide (f.aop = 3)) || decide (maxTgt < f.tgt) || decide (f.xsrc = 3)
    || f.st.illegal

/-- A field of an A-class word marked illegal: SHAMT is zero but in ASH (R226). -/
def AccFld.illegal (f : AccFld) (ash : Bool) : Bool := (!ash && decide (f.shamt ≠ 0)) || f.st.illegal

/-- A register number an instruction may not name, or not write (R221): 47 to 63, and LCNT for a write. -/
def badReg (n : Nat) (write : Bool) : Bool := decide (47 ≤ n) || (write && decide (n = 46))

/-- The ILLEGAL detail of an instruction that its fields alone make illegal (R220, R235). -/
def EngOp.illegal : EngOp → Option Nat
  | .bad d => some d
  | .mac f => if f.illegal 3 false then some 1 else none
  | .cmac f => if f.illegal 1 false then some 1 else none
  | .qmac f => if f.illegal 0 false then some 1 else none
  | .dmac f => if f.illegal 1 false then some 1 else none
  | .pmov f => if f.illegal 0 true then some 1 else none
  | .ash f => if f.illegal true then some 1 else none
  | .clr f | .adda f | .suba f | .mova f | .nega f | .absa f | .cmpa f | .tsta f =>
    if f.illegal false then some 1 else none
  | .ldi r _ => if badReg r true then some 2 else none
  | .ld r _ => if badReg r true then some 2 else none
  | .st r _ => if badReg r false then some 2 else none
  | .movr d r => if badReg d true || badReg r false then some 2 else none
  | .lda _ _ form => if form = 3 then some 1 else none
  | .loopr r _ => if badReg r false then some 2 else none
  | .stim r i _ _ => if !i && badReg r false then some 2 else none
  | _ => none

/-- Control instructions that may not be the END instruction of an active loop (R231). -/
def EngOp.noEnd : EngOp → Bool
  | .jmp _ | .call _ | .ret | .loop _ _ | .loopr _ _ | .brk | .halt _ => true
  | _ => false

/-! ## Registers of R221 -/

/-- A register as instructions and ENG_REGDATA read it (R222). -/
def State.engReg (s : State) (e n : Nat) : Nat :=
  let g := s.engAt e
  let t := e / 3; let j := e % 3
  if n < 8 then nget g.regs n
  else if n < 16 then toBits 32 (sext 16 (nget g.regs n))
  else if n < 24 then nget g.regs n
  else if n = 24 then
    s.f (ENG_MODE_SCALE t j) * 2 ^ 14 + s.f (ENG_MODE_SAT t j) * 2 ^ 13 + s.f (ENG_MODE_SAT40 t j) * 2 ^ 12
      + s.f (ENG_MODE_FRAC t j) * 2 ^ 11 + s.f (ENG_MODE_XSGN t j) * 2 ^ 10 + s.f (ENG_MODE_YSGN t j) * 2 ^ 9
      + s.f (ENG_MODE_CONJ t j) * 2 ^ 8
  else if n = 25 then g.flags
  else if n < 30 then g.accOf (n - 26) % 2 ^ 32
  else if n < 34 then g.accOf (n - 30) / 2 ^ 32
  else if n < 46 then
    let c := (n - 34) / 6
    match (n - 34) % 6 with
    | 0 => s.f (ENG_DMA_LADDR_LADDR t j c)
    | 1 => s.f (ENG_DMA_RADDR_LO_RADDR t j c)
    | 2 => s.f (ENG_DMA_RADDR_HI_RNODE t j c) * 2 ^ 8 + s.f (ENG_DMA_RADDR_HI_RADDR t j c)
    | 3 => s.f (ENG_DMA_LEN_LEN t j c)
    | 4 => s.f (ENG_DMA_CTRL_PAGE t j c) * 2 ^ 8 + s.f (ENG_DMA_CTRL_VC2 t j c) * 2 ^ 4 + s.f (ENG_DMA_CTRL_DIR t j c)
    | _ => s.f (ENG_DMA_STATUS_ERR t j c) * 2 ^ 28 + s.f (ENG_DMA_STATUS_RSTATUS t j c) * 2 ^ 25
        + s.f (ENG_DMA_STATUS_FIELD_BUSY t j c) * 2 ^ 20 + s.f (ENG_DMA_STATUS_DONE t j c) * 2 ^ 19
        + s.f (ENG_DMA_STATUS_BUSY t j c) * 2 ^ 18 + s.f (ENG_DMA_STATUS_BYTES t j c)
  else if n = 46 then
    if s.f (ENG_STATUS_LDEPTH t j) = 0 then 0 else nget g.lsCount (s.f (ENG_STATUS_LDEPTH t j) - 1)
  else 0

/-- Write ENG_MODE's fields from a word. -/
def State.setMode (s : State) (e v : Nat) : State :=
  let t := e / 3; let j := e % 3
  s.setFs [(ENG_MODE_SCALE t j, v / 2 ^ 14), (ENG_MODE_SAT t j, v / 2 ^ 13), (ENG_MODE_SAT40 t j, v / 2 ^ 12),
    (ENG_MODE_FRAC t j, v / 2 ^ 11), (ENG_MODE_XSGN t j, v / 2 ^ 10), (ENG_MODE_YSGN t j, v / 2 ^ 9),
    (ENG_MODE_CONJ t j, v / 2 ^ 8)]

/-- Write a register in the layout of R222; only the bits of its width are used. -/
def State.setEngReg (s : State) (e n v : Nat) : State :=
  if n < 8 then s.updEng e fun g => { g with regs := nput g.regs n (v % 2 ^ 14) }
  else if n < 16 then s.updEng e fun g => { g with regs := nput g.regs n (v % 2 ^ 16) }
  else if n < 24 then s.updEng e fun g => { g with regs := nput g.regs n (v / 2 ^ 30 % 4 * 2 ^ 30 + v % 2 ^ 28) }
  else if n = 24 then s.setMode e v
  else if n = 25 then s.updEng e fun g => { g with flags := v % 16 }
  else if n < 30 then s.updEng e fun g => g.setAcc (n - 26) (g.accOf (n - 26) / 2 ^ 32 * 2 ^ 32 + v % 2 ^ 32)
  else if n < 34 then s.updEng e fun g => g.setAcc (n - 30) (g.accOf (n - 30) % 2 ^ 32 + v % 2 ^ 8 * 2 ^ 32)
  else if n < 46 then s.dmaRegWrite e ((n - 34) / 6) ((n - 34) % 6) v
  else s

/-! ## Effects -/

/-- How an instruction ends: it falls through or continues at an address; it waits and has had no effect; its stream word waits with
every other effect done; it takes an exception with no effect but the errors logged; or it halts. `mergeUe`: the merge read of its
store met an uncorrectable error (R235). -/
inductive OpRes where
  | next (s : State) (mergeUe : Bool)
  | jump (s : State) (pc : Nat)
  | wait
  | word (s : State) (port w : Nat)
  | exc (s : State) (cause detail : Nat)
  | halt (s : State) (code : Nat)

/-- The word of a store field as it goes to memory or a stream: a 16-bit result is sign-extended for a stream (R225). -/
def storeStream (st : StoreFld) (w : Nat) : Nat := if st.sw = 1 then toBits 32 (sext 16 w) else w

/-- The word that a store leaves in memory: the whole word, or the half that SH names (R225). -/
def storeMerge (st : StoreFld) (old w : Nat) : Nat :=
  if st.sw = 1 then
    if st.sh then old % 2 ^ 16 + w % 2 ^ 16 * 2 ^ 16 else old / 2 ^ 16 * 2 ^ 16 + w % 2 ^ 16
  else w

/-- Store word `w` at word address `a` of memory m: a merge of the row, which writes nothing when its read meets an
uncorrectable error (R203, R235). -/
def State.engStore (s : State) (e m a w : Nat) : State × Bool :=
  let r := 0x2000 * m + a / 2
  if s.rowErr e r = 2 then (s.rowSee e r, true)
  else (((s.rowSee e r).updEng e fun g => g.setWord m a w).rowWrote e r, false)

/-- Perform a store field with a source word computed before the instruction (R224, R225). -/
def State.opStore (s : State) (e : Nat) (st : StoreFld) (w : Nat) (sat : Bool) : OpRes :=
  if st.sd = 0 then .next s false
  else
    let s := if sat then s.setF (ENG_DP_FLAGS_MS (e / 3) (e % 3)) 1 else s
    let g := s.engAt e
    if st.sd < 3 then
      let m := st.sd - 1
      let a := g.adr m st.sr
      let r := s.engStore e m a (storeMerge st (g.word m a) w)
      .next (r.1.updEng e fun g => g.postIf st.sp m st.sr st.sn) r.2
    else
      let i := st.sd - 1
      let v := storeStream st w
      match g.streamWrite i (s.pack e i) v with
      | some g' => .next (s.setEng e g') false
      | none => .word s i v

/-- The X operand of an M-class word (R224). -/
def MulFld.xAddr (f : MulFld) : AddrFld := if f.xsrc = 0 then ⟨0, f.xr, f.xp, f.xn⟩ else ⟨f.xsrc + 1, 0, false, 0⟩

/-- The Y operand of an M-class word (R224). -/
def MulFld.yAddr (f : MulFld) : AddrFld := ⟨1, f.yr, f.yp, f.yn⟩

/-- An M-class multiply: reads its operands, accumulates the contributions `ps`, then performs its store of the value
from before the instruction (R196, R223 to R225). -/
def State.opMul (s : State) (e : Nat) (f : MulFld) (ps : EngMode → Nat → Nat → List (Nat × Int)) : OpRes :=
  let g := s.engAt e
  let md := s.engMode e
  match s.readOperand e g f.xAddr with
  | none => .wait
  | some (x, g1) =>
    let ue := s.operandErr e g f.xAddr = 2 ∨ s.operandErr e g f.yAddr = 2
    let s := (s.operandSee e g f.xAddr).operandSee e g f.yAddr
    if ue then .exc s 2 0
    else
      match s.readOperand e g1 f.yAddr with
      | none => .wait
      | some (y, g2) =>
        let w := moveWord md g f.st
        ((s.setEng e g2).accumulate e f.aop (ps md x y)).opStore e f.st w.1 w.2

/-- MAC: x0·y0 into accumulator TGT (R223). -/
def opMac (f : MulFld) (e : Nat) (s : State) : OpRes :=
  s.opMul e f fun m x y => [(f.tgt, m.prod x 0 y 0)]

/-- CMAC: the complex product into pair TGT, each sum formed exactly (R199, R200). -/
def opCmac (f : MulFld) (e : Nat) (s : State) : OpRes :=
  s.opMul e f fun m x y =>
    if m.conj then
      [(2 * f.tgt, m.prod x 0 y 0 + m.prod x 1 y 1), (2 * f.tgt + 1, m.prod x 1 y 0 - m.prod x 0 y 1)]
    else
      [(2 * f.tgt, m.prod x 0 y 0 - m.prod x 1 y 1), (2 * f.tgt + 1, m.prod x 0 y 1 + m.prod x 1 y 0)]

/-- QMAC: x0·y0, x1·y1, x0·y1, x1·y0 into A0 to A3 in that order (R199). -/
def opQmac (f : MulFld) (e : Nat) (s : State) : OpRes :=
  s.opMul e f fun m x y =>
    [(0, m.prod x 0 y 0), (1, m.prod x 1 y 1), (2, m.prod x 0 y 1), (3, m.prod x 1 y 0)]

/-- DMAC: X·y0 and X·y1 into pair TGT (R199). -/
def opDmac (f : MulFld) (e : Nat) (s : State) : OpRes :=
  s.opMul e f fun m x y => [(2 * f.tgt, m.dprod x y 0), (2 * f.tgt + 1, m.dprod x y 1)]

/-- PMOV: no operand and no product; XP and YP post-modify, and the store field acts (R223). -/
def opPmov (f : MulFld) (e : Nat) (s : State) : OpRes :=
  let g := s.engAt e
  let w := moveWord (s.engMode e) g f.st
  let g1 := g.postIf (f.xp && decide (f.xsrc = 0)) 0 f.xr f.xn
  (s.setEng e (g1.postIf f.yp 1 f.yr f.yn)).opStore e f.st w.1 w.2

/-- An A-class instruction with an exact result `v`: written to AD under R200 when `wr`, FLAGS set from it, and the store
performed with the value from before the instruction (R226). Without a write the flags come from the exact value. -/
def State.opAcc (s : State) (e : Nat) (f : AccFld) (wr : Bool) (v : Int) : OpRes :=
  let g := s.engAt e
  let md := s.engMode e
  let w := moveWord md g f.st
  let fl := if wr then accFlags (accStore md.sat40 v).1 v
    else 8 * b2n (decide (v < 0)) + 4 * b2n (decide (v = 0)) + 2 * b2n (decide (v < -(2 ^ 31) ∨ 2 ^ 31 - 1 < v))
      + b2n (decide (v < -(2 ^ 39) ∨ 2 ^ 39 - 1 < v))
  let s := if wr then s.accWrite e f.ad v else s
  (s.updEng e fun g => { g with flags := fl }).opStore e f.st w.1 w.2

def opClr (f : AccFld) (e : Nat) (s : State) : OpRes := s.opAcc e f true 0

def opAdda (f : AccFld) (e : Nat) (s : State) : OpRes :=
  s.opAcc e f true ((s.engAt e).accInt f.ad + (s.engAt e).accInt f.as)

def opSuba (f : AccFld) (e : Nat) (s : State) : OpRes :=
  s.opAcc e f true ((s.engAt e).accInt f.ad - (s.engAt e).accInt f.as)

def opMova (f : AccFld) (e : Nat) (s : State) : OpRes := s.opAcc e f true ((s.engAt e).accInt f.as)

def opNega (f : AccFld) (e : Nat) (s : State) : OpRes := s.opAcc e f true (-(s.engAt e).accInt f.as)

def opAbsa (f : AccFld) (e : Nat) (s : State) : OpRes :=
  let a := (s.engAt e).accInt f.as
  s.opAcc e f true (if a < 0 then -a else a)

/-- ASH: AD ← AS × 2^SHAMT, right shifts rounding toward minus infinity (R226). -/
def opAsh (f : AccFld) (e : Nat) (s : State) : OpRes :=
  let a := (s.engAt e).accInt f.as
  s.opAcc e f true (if f.shamt % 64 < 32 then a * 2 ^ (f.shamt % 64) else a / 2 ^ (64 - f.shamt % 64))

def opCmpa (f : AccFld) (e : Nat) (s : State) : OpRes :=
  s.opAcc e f false ((s.engAt e).accInt f.ad - (s.engAt e).accInt f.as)

def opTsta (f : AccFld) (e : Nat) (s : State) : OpRes := s.opAcc e f false ((s.engAt e).accInt f.as)

def opLdi (reg imm e : Nat) (s : State) : OpRes := .next (s.setEngReg e reg imm) false

/-- LD: the word of a memory or stream into REG; the addressed register is post-modified first (R227). -/
def opLd (reg : Nat) (a : AddrFld) (e : Nat) (s : State) : OpRes :=
  match s.readOperand e (s.engAt e) a with
  | none => .wait
  | some (w, g) =>
    let ue := s.operandErr e (s.engAt e) a = 2
    let s := s.operandSee e (s.engAt e) a
    if ue then .exc s 2 0 else .next ((s.setEng e g).setEngReg e reg w) false

/-- ST: the word of REG to memory or a stream (R227). -/
def opSt (reg : Nat) (a : AddrFld) (e : Nat) (s : State) : OpRes :=
  let v := s.engReg e reg
  let g := s.engAt e
  if a.ms < 2 then
    let r := s.engStore e a.ms (g.adr a.ms a.ar) v
    .next (r.1.updEng e fun g => g.postIf a.p a.ms a.ar a.n) r.2
  else
    match g.streamWrite a.ms (s.pack e a.ms) v with
    | some g' => .next (s.setEng e g') false
    | none => .word s a.ms v

def opMovr (rd rs e : Nat) (s : State) : OpRes := .next (s.setEngReg e rd (s.engReg e rs)) false

/-- The accumulator value of LDA: FORM 0 the word, FORM 1 and 2 a half as Q31 (R227). -/
def ldaValue (form w : Nat) : Int :=
  if form = 0 then sext 32 w else if form = 1 then sext 16 w * 2 ^ 16 else sext 16 (w / 2 ^ 16) * 2 ^ 16

def opLda (ad : Nat) (a : AddrFld) (form e : Nat) (s : State) : OpRes :=
  match s.readOperand e (s.engAt e) a with
  | none => .wait
  | some (w, g) =>
    let ue := s.operandErr e (s.engAt e) a = 2
    let s := s.operandSee e (s.engAt e) a
    if ue then .exc s 2 0 else .next (s.setEng e (g.setAcc ad (toBits 40 (ldaValue form w)))) false

def opLdai (ad imm e : Nat) (s : State) : OpRes :=
  .next (s.updEng e fun g => g.setAcc ad (toBits 40 (sext 32 imm))) false

/-! ### Control -/

def State.ldepth (s : State) (e : Nat) : Nat := s.f (ENG_STATUS_LDEPTH (e / 3) (e % 3))
def State.cdepth (s : State) (e : Nat) : Nat := s.f (ENG_STATUS_CDEPTH (e / 3) (e % 3))
def State.setLdepth (s : State) (e v : Nat) : State := s.setF (ENG_STATUS_LDEPTH (e / 3) (e % 3)) v
def State.setCdepth (s : State) (e v : Nat) : State := s.setF (ENG_STATUS_CDEPTH (e / 3) (e % 3)) v

/-- First instruction and END of loop entry i (R241). -/
def Eng.loopFirst (g : Eng) (i : Nat) : Nat := nget g.lsRange i / 2 ^ 16
def Eng.loopEnd (g : Eng) (i : Nat) : Nat := nget g.lsRange i % 2 ^ 16

/-- Loop entries left after a jump to `t`: popped from the innermost while the range does not contain it (R230). -/
def Eng.popTo (g : Eng) (t : Nat) : Nat → Nat
  | 0 => 0
  | d + 1 => if g.loopFirst d ≤ t ∧ t ≤ g.loopEnd d then d + 1 else g.popTo t d

def opJmp (t e : Nat) (s : State) : OpRes := .jump (s.setLdepth e ((s.engAt e).popTo t (s.ldepth e))) t

def opCall (t e : Nat) (s : State) : OpRes :=
  let d := s.cdepth e
  if 8 ≤ d then .exc s 6 0
  else .jump ((s.updEng e fun g => { g with cs := nput g.cs d ((s.engPc e + 1) % 4096) }).setCdepth e (d + 1)) t

def opRet (e : Nat) (s : State) : OpRes :=
  let d := s.cdepth e
  if d = 0 then .exc s 6 0 else .jump (s.setCdepth e (d - 1)) (nget (s.engAt e).cs (d - 1))

/-- LOOP and LOOPR with a count (R231). -/
def opLoop (count last e : Nat) (s : State) : OpRes :=
  let pc := s.engPc e
  if last < pc + 1 then .exc s 1 4
  else if count = 0 then .jump s ((last + 1) % 4096)
  else
    let d := s.ldepth e
    if 4 ≤ d then .exc s 5 0
    else .next ((s.updEng e fun g => { g with
      lsRange := nput g.lsRange d ((pc + 1) * 2 ^ 16 + last), lsCount := nput g.lsCount d count }).setLdepth e (d + 1)) false

def opLoopr (reg last e : Nat) (s : State) : OpRes := opLoop (s.engReg e reg % 2 ^ 16) last e s

def opBreak (e : Nat) (s : State) : OpRes :=
  let d := s.ldepth e
  if d = 0 then .exc s 1 5 else .jump (s.setLdepth e (d - 1)) (((s.engAt e).loopEnd (d - 1) + 1) % 4096)

/-- Reload the watchdog with LOAD, whose safe boundary this is (R236). -/
def State.wdtReload (s : State) (e : Nat) : State :=
  (s.applyLive (ENG_WDT_LOAD (e / 3) (e % 3))).setF (ENG_WDT_COUNT_COUNT (e / 3) (e % 3)) (s.f (ENG_WDT_LOAD (e / 3) (e % 3)))

/-- KICK reloads the watchdog; with EN clear it does nothing (R237). -/
def opKick (e : Nat) (s : State) : OpRes :=
  .next (if s.bit (ENG_WDT_EN (e / 3) (e % 3)) then s.wdtReload e else s) false

/-- SOURCE of an engine's records: kind 1 and the engine number (R175, R238). -/
def engSource (e : Nat) : Nat := 2 ^ 10 + e

/-- STIM (R238): a record, or dropped and counted while 8 are held; no effect with EN clear or below OBSERVE. -/
def opStim (reg : Nat) (i : Bool) (chan imm e : Nat) (s : State) : OpRes :=
  let t := e / 3; let j := e % 3
  if !s.bit (ENG_STIM_CTRL_EN t j) || !s.observes then .next s false
  else
    let v := if i then imm else s.engReg e reg
    let src := engSource e
    let was := (s.probe src).dropped
    let s := s.stimPush src (engineNode e) ⟨2, src, s.nocTime % 2 ^ 48, chan % 256 * 2 ^ 56 + s.engPc e * 2 ^ 44 + v % 2 ^ 32⟩
    .next (if was < (s.probe src).dropped then s.count (ENG_STIM_STATUS_DROPPED t j) 1 else s) false

/-- WAITD stalls while a channel named in MASK is BUSY (R228). -/
def opWaitd (mask e : Nat) (s : State) : OpRes :=
  if (mask % 2 = 1 ∧ s.dmaBusy e 0) ∨ (mask / 2 % 2 = 1 ∧ s.dmaBusy e 1) then .wait else .next s false

/-- SIG sets SIG and SIG_CODE and raises ENG_SIGNAL (R239). -/
def opSig (code e : Nat) (s : State) : OpRes :=
  let t := e / 3; let j := e % 3
  .next (((s.setFs [(ENG_STATUS_SIG_CODE t j, code), (ENG_STATUS_SIG t j, 1)]).raise .ENG_SIGNAL true (s.engLease e) e).brEng
    e 2) false

/-- The effect of an instruction. -/
def runOp (e : Nat) (s : State) : EngOp → OpRes
  | .nop => .next s false
  | .mac f => opMac f e s
  | .cmac f => opCmac f e s
  | .qmac f => opQmac f e s
  | .dmac f => opDmac f e s
  | .pmov f => opPmov f e s
  | .clr f => opClr f e s
  | .adda f => opAdda f e s
  | .suba f => opSuba f e s
  | .mova f => opMova f e s
  | .nega f => opNega f e s
  | .absa f => opAbsa f e s
  | .ash f => opAsh f e s
  | .cmpa f => opCmpa f e s
  | .tsta f => opTsta f e s
  | .ldi r i => opLdi r i e s
  | .ld r a => opLd r a e s
  | .st r a => opSt r a e s
  | .movr d r => opMovr d r e s
  | .lda d a f => opLda d a f e s
  | .ldai d i => opLdai d i e s
  | .jmp t => opJmp t e s
  | .call t => opCall t e s
  | .ret => opRet e s
  | .loop c l => opLoop c l e s
  | .loopr r l => opLoopr r l e s
  | .brk => opBreak e s
  | .halt c => .halt s c
  | .kick => opKick e s
  | .stim r i c v => opStim r i c v e s
  | .waitd m => opWaitd m e s
  | .sig c => opSig c e s
  | .bad d => .exc s 1 d

/-! ## Issue -/

/-- The END rule of active loops at the fetch of `pc` (R231), from the innermost entry outward: where the next fetch goes
and the entries and counts left. -/
def loopNext (pc : Nat) (g : Eng) : Nat → Nat × Nat × Eng
  | 0 => ((pc + 1) % 4096, 0, g)
  | d + 1 =>
    if g.loopEnd d = pc then
      if 1 < nget g.lsCount d then
        (g.loopFirst d, d + 1, { g with lsCount := nput g.lsCount d (nget g.lsCount d - 1) })
      else loopNext pc g d
    else ((pc + 1) % 4096, d + 1, g)

/-- An instruction is retired with a true condition. -/
def State.engRetire (s : State) (e : Nat) : State := (s.count (ENG_RETIRED_COUNT (e / 3) (e % 3)) 1).pmcBump 4 e 1

/-- Take an exception (R235): STATE EXCEPTION, CAUSE, DETAIL and the faulting address recorded, ENG_EXCEPTION raised. -/
def State.engExc (s : State) (e cause detail pc : Nat) : State :=
  let t := e / 3; let j := e % 3
  let s := s.updEng e fun g => { g with stepping := false, stall := none, merge := none }
  ((s.setFs [(ENG_STATUS_STATE t j, 3), (ENG_EXC_CAUSE t j, cause), (ENG_EXC_DETAIL t j, detail), (ENG_EXC_PC t j, pc)]).raise
    .ENG_EXCEPTION true (s.engLease e) e).brEng e 0

/-- An instruction has completed and the next is at `npc` (R234, R235): a MERGE_UE due from the instruction before is
taken now; a STEP ends. -/
def State.engDone (s : State) (e pc npc : Nat) (ue : Bool) (count : Bool) : State :=
  let s := s.setEngPc e npc
  let s := if count then s.engRetire e else s
  let g := s.engAt e
  match g.merge with
  | some at' => s.engExc e 3 0 at'
  | none =>
    if ue then
      if g.stepping then s.engExc e 3 0 pc else s.setEng e { g with merge := some pc }
    else if g.stepping then
      (s.setEng e { g with stepping := false }).setEngState e (if s.engState e = 5 then 5 else 0)
    else s

/-- A precise exception, or the MERGE_UE that is already due from the instruction before (R235). -/
def State.engFault (s : State) (e cause detail : Nat) : State :=
  let pc := s.engPc e
  match (s.engAt e).merge with
  | some at' => s.engExc e 3 0 at'
  | none => s.engExc e cause detail pc

/-- HALT: the engine stops with STATE HALTED and HALT_CODE, and raises ENG_HALT (R228, R239). -/
def State.engHalt (s : State) (e code : Nat) : State :=
  let t := e / 3; let j := e % 3
  let s := (s.setEngPc e ((s.engPc e + 1) % 4096)).engRetire e
  match (s.engAt e).merge with
  | some at' => s.engExc e 3 0 at'
  | none =>
    (((s.updEng e fun g => { g with stepping := false }).setFs
      [(ENG_STATUS_STATE t j, 2), (ENG_STATUS_HALT_CODE t j, code)]).raise .ENG_HALT true (s.engLease e) e).brEng e 1

/-- Run the instruction at ENG_PC: fetch error, loop END rule and illegal words first (R220, R231, R235), then COND
(R229), then the effect. -/
def State.engRun (s : State) (e : Nat) (is : Issue) (op : EngOp) : State :=
  let t := e / 3; let j := e % 3
  let pc := s.engPc e
  let s := s.count (ENG_CYCLES_COUNT t j) is.cyc
  let g := s.engAt e
  let atEnd := (List.range (s.ldepth e)).any fun i => decide (g.loopEnd i = pc)
  let fe := s.rowErr e (0x4000 + pc)
  let s := s.rowSee e (0x4000 + pc)
  if fe = 2 then s.engFault e 4 0
  else
    match op.illegal with
    | some d => s.engFault e 1 d
    | none =>
      if op ≠ .nop ∧ is.cond = 15 then s.engFault e 1 1
      else if atEnd && op.noEnd then s.engFault e 1 3
      else
        let nx := fun (u : State) =>
          let r := loopNext pc (u.engAt e) (u.ldepth e)
          ((u.setEng e r.2.2).setLdepth e r.2.1, r.1)
        if op ≠ .nop ∧ !s.condHolds e is.cond then
          let r := nx s
          r.1.engDone e pc r.2 false false
        else
          match runOp e s op with
          | .next u ue =>
            -- an entry pushed by this instruction does not count at its own fetch
            let r := if op.noEnd then (u, (pc + 1) % 4096) else nx u
            r.1.engDone e pc r.2 ue true
          | .jump u npc => u.engDone e pc npc false true
          | .wait => s.updEng e fun g => { g with stall := some (.retry is op) }
          | .word u i w =>
            let r := nx u
            (r.1.setEngPc e r.2).updEng e fun g => { g with stall := some (.word i w) }
          | .exc u c d => u.engFault e c d
          | .halt u code => u.engHalt e code

/-- ENG_TRIO_CLK.EN does not gate the engine's datapath and sequencer (R214). -/
def State.engClocked (s : State) (e : Nat) : Bool := decide (s.eff (ENG_TRIO_CLK_EN (e / 3)) / 2 ^ (e % 3) % 2 = 1)

/-- A RUNNING engine that is clocked and not stalled issues one instruction (R196, R214). -/
def State.engIssue (s : State) (e : Nat) (is : Issue) (op : EngOp) : State :=
  if s.engState e ≠ 1 ∨ (s.engAt e).stall.isSome ∨ !s.engClocked e then s
  else s.engRun e is op

/-! ## The instruction commands -/

def execEngNop (e : Nat) (is : Issue) (s : State) : Host.Outcome State Fault Refusal := .next (s.engIssue e is .nop)
def execMac (e : Nat) (is : Issue) (f : MulFld) (s : State) : Host.Outcome State Fault Refusal :=
  .next (s.engIssue e is (.mac f))
def execCmac (e : Nat) (is : Issue) (f : MulFld) (s : State) : Host.Outcome State Fault Refusal :=
  .next (s.engIssue e is (.cmac f))
def execQmac (e : Nat) (is : Issue) (f : MulFld) (s : State) : Host.Outcome State Fault Refusal :=
  .next (s.engIssue e is (.qmac f))
def execDmac (e : Nat) (is : Issue) (f : MulFld) (s : State) : Host.Outcome State Fault Refusal :=
  .next (s.engIssue e is (.dmac f))
def execPmov (e : Nat) (is : Issue) (f : MulFld) (s : State) : Host.Outcome State Fault Refusal :=
  .next (s.engIssue e is (.pmov f))
def execClr (e : Nat) (is : Issue) (f : AccFld) (s : State) : Host.Outcome State Fault Refusal :=
  .next (s.engIssue e is (.clr f))
def execAdda (e : Nat) (is : Issue) (f : AccFld) (s : State) : Host.Outcome State Fault Refusal :=
  .next (s.engIssue e is (.adda f))
def execSuba (e : Nat) (is : Issue) (f : AccFld) (s : State) : Host.Outcome State Fault Refusal :=
  .next (s.engIssue e is (.suba f))
def execMova (e : Nat) (is : Issue) (f : AccFld) (s : State) : Host.Outcome State Fault Refusal :=
  .next (s.engIssue e is (.mova f))
def execNega (e : Nat) (is : Issue) (f : AccFld) (s : State) : Host.Outcome State Fault Refusal :=
  .next (s.engIssue e is (.nega f))
def execAbsa (e : Nat) (is : Issue) (f : AccFld) (s : State) : Host.Outcome State Fault Refusal :=
  .next (s.engIssue e is (.absa f))
def execAsh (e : Nat) (is : Issue) (f : AccFld) (s : State) : Host.Outcome State Fault Refusal :=
  .next (s.engIssue e is (.ash f))
def execCmpa (e : Nat) (is : Issue) (f : AccFld) (s : State) : Host.Outcome State Fault Refusal :=
  .next (s.engIssue e is (.cmpa f))
def execTsta (e : Nat) (is : Issue) (f : AccFld) (s : State) : Host.Outcome State Fault Refusal :=
  .next (s.engIssue e is (.tsta f))
def execLdi (e : Nat) (is : Issue) (reg imm : Nat) (s : State) : Host.Outcome State Fault Refusal :=
  .next (s.engIssue e is (.ldi reg imm))
def execLd (e : Nat) (is : Issue) (reg : Nat) (a : AddrFld) (s : State) : Host.Outcome State Fault Refusal :=
  .next (s.engIssue e is (.ld reg a))
def execSt (e : Nat) (is : Issue) (reg : Nat) (a : AddrFld) (s : State) : Host.Outcome State Fault Refusal :=
  .next (s.engIssue e is (.st reg a))
def execMovr (e : Nat) (is : Issue) (rd rs : Nat) (s : State) : Host.Outcome State Fault Refusal :=
  .next (s.engIssue e is (.movr rd rs))
def execLda (e : Nat) (is : Issue) (ad : Nat) (a : AddrFld) (form : Nat) (s : State) : Host.Outcome State Fault Refusal :=
  .next (s.engIssue e is (.lda ad a form))
def execLdai (e : Nat) (is : Issue) (ad imm : Nat) (s : State) : Host.Outcome State Fault Refusal :=
  .next (s.engIssue e is (.ldai ad imm))
def execJmp (e : Nat) (is : Issue) (target : Nat) (s : State) : Host.Outcome State Fault Refusal :=
  .next (s.engIssue e is (.jmp target))
def execCall (e : Nat) (is : Issue) (target : Nat) (s : State) : Host.Outcome State Fault Refusal :=
  .next (s.engIssue e is (.call target))
def execRet (e : Nat) (is : Issue) (s : State) : Host.Outcome State Fault Refusal := .next (s.engIssue e is .ret)
def execLoop (e : Nat) (is : Issue) (count last : Nat) (s : State) : Host.Outcome State Fault Refusal :=
  .next (s.engIssue e is (.loop count last))
def execLoopr (e : Nat) (is : Issue) (reg last : Nat) (s : State) : Host.Outcome State Fault Refusal :=
  .next (s.engIssue e is (.loopr reg last))
def execBreak (e : Nat) (is : Issue) (s : State) : Host.Outcome State Fault Refusal := .next (s.engIssue e is .brk)
def execHalt (e : Nat) (is : Issue) (code : Nat) (s : State) : Host.Outcome State Fault Refusal :=
  .next (s.engIssue e is (.halt code))
def execKick (e : Nat) (is : Issue) (s : State) : Host.Outcome State Fault Refusal := .next (s.engIssue e is .kick)
def execStim (e : Nat) (is : Issue) (reg : Nat) (imd : Bool) (chan imm : Nat) (s : State) :
    Host.Outcome State Fault Refusal := .next (s.engIssue e is (.stim reg imd chan imm))
def execWaitd (e : Nat) (is : Issue) (mask : Nat) (s : State) : Host.Outcome State Fault Refusal :=
  .next (s.engIssue e is (.waitd mask))
def execSig (e : Nat) (is : Issue) (code : Nat) (s : State) : Host.Outcome State Fault Refusal :=
  .next (s.engIssue e is (.sig code))

end Sys2Proof.Machine
end

