-- ==== Sys2Proof/Machine/EngCtl.lean ====
section
/-! DEFINITION. Run control of the engines (09 R233 to R241): START, STOP, STEP, CLRREG, the end of a stop, stalls, the
watchdog and ENG_REGDATA. -/

namespace Sys2Proof.Machine

open Reg

/-- ENG_EXC at its cleared value. -/
def State.excClear (s : State) (e : Nat) : State :=
  let t := e / 3; let j := e % 3
  s.setFs [(ENG_EXC_CAUSE t j, 0), (ENG_EXC_DETAIL t j, 0), (ENG_EXC_PC t j, 0)]

/-- START (R233): refused while RUNNING or STOPPING; an engine of a trio that is not ON or is being cleared cannot run (R213, R215).
While a halt of the bridle stands the engine goes to DEBUG (17 R439); while a self-test slice holds its program bank the START waits
(17 R445). -/
def State.engStart (s : State) (e : Nat) : State :=
  if s.engBusy e then s.busy (ENG_DP_FLAGS_FIELD_BUSY (e / 3) (e % 3))
  else if !s.trioUp (e / 3) then s
  else if s.progSlice e then { s with bist := { s.bist with start := s.bist.start ++ [e] } }
  else
    (((s.excClear e).updEng e fun g => { g with stall := none, stepping := false, merge := none }).wdtReload e).setEngState e
      (if s.engHeld e then 4 else 1)

def execEngStart (m : Master) (e : Nat) (s : State) : Host.Outcome State Fault Refusal :=
  .next (s.viaWrite m (ENG_CTRL (e / 3) (e % 3)) fun s => s.engStart e)

/-- Begin a stop that ends in STATE `to` (R234). -/
def State.engStopTo (s : State) (e tgt : Nat) : State :=
  if s.engState e = 1 then (s.updEng e fun g => { g with stopTo := tgt }).setEngState e 5 else s

def execEngStop (m : Master) (e : Nat) (s : State) : Host.Outcome State Fault Refusal :=
  .next (s.viaWrite m (ENG_CTRL (e / 3) (e % 3)) fun s => s.engStopTo e 0)

/-- STEP (R233): the instruction at ENG_PC is fetched from program memory and run, then the engine stops. While its clock is gated
the instruction waits (R214). -/
def State.engStep (s : State) (e cyc : Nat) : State :=
  if s.engBusy e then s.busy (ENG_DP_FLAGS_FIELD_BUSY (e / 3) (e % 3))
  else if !s.trioUp (e / 3) then s
  else
    let w := (s.engAt e).progWord (s.engPc e)
    let s := ((s.updEng e fun g => { g with stall := none, stepping := true, merge := none }).wdtReload e).setEngState e 1
    if s.engClocked e then s.engRun e ⟨bitsOf w 57 54, cyc⟩ (decodeEng w)
    else s.updEng e fun g => { g with stall := some (.gated ⟨bitsOf w 57 54, 0⟩ (decodeEng w)) }

def execEngStep (m : Master) (e cyc : Nat) (s : State) : Host.Outcome State Fault Refusal :=
  .next (s.viaWrite m (ENG_CTRL (e / 3) (e % 3)) fun s => s.engStep e cyc)

/-- CLRREG (R233): only while the engine is not RUNNING or STOPPING. -/
def State.engClrregCmd (s : State) (e : Nat) : State :=
  if s.engBusy e then s.busy (ENG_DP_FLAGS_FIELD_BUSY (e / 3) (e % 3)) else s.engClrReg e

def execEngClrreg (m : Master) (e : Nat) (s : State) : Host.Outcome State Fault Refusal :=
  .next (s.viaWrite m (ENG_CTRL (e / 3) (e % 3)) fun s => s.engClrregCmd e)

/-- A halted engine returns to RUNNING; its watchdog resumes from 4,096 ticks at least (17 R440, R442). -/
def State.engResume (s : State) (e : Nat) : State :=
  let c := ENG_WDT_COUNT_COUNT (e / 3) (e % 3)
  (s.setF c (max (s.f c) 4096)).setEngState e 1

/-- The last instruction in flight completes and the stop ends (R234): in STOPPED, DEBUG, or the WDT or MERGE_UE
exception; a halt that has been cleared meanwhile releases the engine (17 R440). A stop with a stalled instruction has not
ended. -/
def execEngStopEnd (e : Nat) (s : State) : Host.Outcome State Fault Refusal :=
  let g := s.engAt e
  .next (if s.engState e ≠ 5 ∨ g.stall.isSome then s
    else
      match g.merge with
      | some at' => s.engExc e 3 0 at'
      | none =>
        if g.stopTo = 3 then s.engExc e 7 0 (s.engPc e)
        else if g.stopTo = 4 ∧ !s.engHeld e then (s.setEng e { g with stepping := false }).engResume e
        else (s.setEng e { g with stepping := false }).setEngState e g.stopTo)

/-- The stall is on a stream port, not on WAITD (R218). -/
def Stall.onStream : Stall → Bool
  | .retry _ (.waitd _) | .gated _ _ => false
  | _ => true

/-- Data, space or a DMA end arrives and the pipeline resumes after `cyc` cycles (R197): the instruction issues again, or
its stream word goes out and it completes. Nothing moves while the engine's clock is gated (R214). -/
def execEngStallRelease (e cyc : Nat) (s : State) : Host.Outcome State Fault Refusal :=
  let t := e / 3; let j := e % 3
  let g := s.engAt e
  .next (match g.stall with
    | none => s
    | some st =>
      if !s.engClocked e then s
      else
      let s := (if st.onStream then s.count (ENG_STRM_STALL_CYCLES t j) cyc else s).count (ENG_CYCLES_COUNT t j) cyc
      match st with
      | .retry is op | .gated is op => (s.setEng e { g with stall := none }).engRun e { is with cyc := 0 } op
      | .word i w =>
        match g.streamWrite i (s.pack e i) w with
        | none => s
        | some g' => (s.setEng e { g' with stall := none }).engDone e (s.engPc e) (s.engPc e) false true)

/-- 1,024 engine cycles after a stop the stall is abandoned (R234): a stalled read or WAITD has had no effect; a store
stalled on a full output completes without its word, LOST_WORD set. -/
def execEngStallAbandon (e : Nat) (s : State) : Host.Outcome State Fault Refusal :=
  let t := e / 3; let j := e % 3
  let g := s.engAt e
  .next (if s.engState e ≠ 5 then s
    else
      match g.stall with
      | none => s
      | some (.retry _ _) | some (.gated _ _) => s.setEng e { g with stall := none }
      | some (.word _ _) =>
        ((s.setEng e { g with stall := none }).setF (ENG_STATUS_LOST_WORD t j) 1).engRetire e)

/-- Engines whose watchdog counts: EN set and STATE RUNNING, stalls included (R236). -/
def State.wdtEngines (s : State) : List Nat :=
  (s.flds.filterMap fun kv =>
    let a := kv.1 / 32 - 0xF00A000000
    if kv.1 % 32 = 31 ∧ blockOf (kv.1 / 32) = some .ENG ∧ a % 0x40000 / 0x10000 < 3 ∧ a % 0x10000 = 0x10 then
      some (3 * (a / 0x40000) + a % 0x40000 / 0x10000)
    else none).filter fun e => s.bit (ENG_WDT_EN (e / 3) (e % 3)) && decide (s.engState e = 1)

/-- One AON tick of the watchdogs. -/
def State.wdtTick (s : State) : State :=
  s.wdtEngines.foldl (fun t e =>
    let c := ENG_WDT_COUNT_COUNT (e / 3) (e % 3)
    t.setF c (t.f c - 1)) s

/-- A write of ENG_WDT (R236): setting EN while the engine runs loads LOAD, and another LOAD waits for the next reload. -/
def State.wdtWrite (s : State) (e en load : Nat) : State :=
  let F := ENG_WDT_EN (e / 3) (e % 3)
  let t := (s.writeLive (ENG_WDT_LOAD (e / 3) (e % 3)) (max 4096 load)).setF F en
  if en = 1 ∧ s.f F = 0 ∧ s.engState e = 1 then t.wdtReload e else t

/-- The watchdog of a RUNNING engine has reached 0 with EN set: it stops as STOP does, then takes the WDT exception (R235,
R236). After a KICK of the same tick the count is not 0, and nothing is taken (R237). -/
def execEngWdtExpire (e : Nat) (s : State) : Host.Outcome State Fault Refusal :=
  let t := e / 3; let j := e % 3
  .next (if s.engState e = 1 ∧ s.f (ENG_WDT_EN t j) = 1 ∧ s.f (ENG_WDT_COUNT_COUNT t j) = 0 then s.engStopTo e 3 else s)

/-- Sequencer state and registers as ENG_REGDATA reads them (R241); an unused number reads 0. -/
def State.regdata (s : State) (e n : Nat) : Nat :=
  let g := s.engAt e
  if n < 47 then s.engReg e n
  else if 64 ≤ n ∧ n < 68 then nget g.lsRange (n - 64)
  else if 68 ≤ n ∧ n < 72 then nget g.lsCount (n - 68)
  else if n = 72 then s.ldepth e
  else if 80 ≤ n ∧ n < 88 then nget g.cs (n - 80)
  else if n = 88 then s.cdepth e
  else 0

/-- A write of ENG_REGDATA (R240, R241). -/
def State.setRegdata (s : State) (m : Master) (e v : Nat) : State :=
  let t := e / 3; let j := e % 3
  let n := s.f (ENG_REGSEL_NUM t j)
  if s.engBusy e then s.busy (ENG_DP_FLAGS_FIELD_BUSY t j)
  else if n < 46 then s.setEngReg e n v
  else if 64 ≤ n ∧ n < 68 then
    s.updEng e fun g => { g with lsRange := nput g.lsRange (n - 64) (bitsOf v 27 16 * 2 ^ 16 + bitsOf v 11 0) }
  else if 68 ≤ n ∧ n < 72 then s.updEng e fun g => { g with lsCount := nput g.lsCount (n - 68) (v % 2 ^ 16) }
  else if n = 72 then s.setLdepth e (min 4 (v % 8))
  else if 80 ≤ n ∧ n < 88 then s.updEng e fun g => { g with cs := nput g.cs (n - 80) (v % 2 ^ 12) }
  else if n = 88 then s.setCdepth e (min 8 (v % 16))
  else s.logDrop m .badCode (ENG_REGDATA t j)

def execEngRegdataWrite (m : Master) (e v : Nat) (s : State) : Host.Outcome State Fault Refusal :=
  .next (s.viaWrite m (ENG_REGDATA (e / 3) (e % 3)) fun s => s.setRegdata m e v)

end Sys2Proof.Machine
end

