-- ==== Sys2Proof/Machine/Frames.lean ====
section
/-! DEFINITION. Frame addresses, frame contents and the frame check word (03 R88 to R90, 04 R100 to R102). A frame is held
under its linear index in the increment order of R88, as one number of 3,200 bits whose word j is bits 32j to 32j + 31. -/

namespace Sys2Proof.Machine
open Sys2Proof.Machine.Reg

/-- Words 0 to 98 of a frame, which its check word covers, as a number lie below this (04 R100). -/
def frameSpan : Nat := 2 ^ 3168

/-- Frames of one region, of one die, of the device (R88). -/
def rgnFrames : Nat := 34816
def dieFrames : Nat := 294912
def devFrames : Nat := 2359296

/-- Region index of a frame (R102), for fields in range. -/
def regionIndex (ty col qtr minor : Nat) : Option Nat :=
  match ty with
  | 0 => if col < 192 ∧ minor < 40 then some ((col * 4 + qtr) * 40 + minor) else none
  | 1 => if col < 6 ∧ minor < 96 then some (30720 + (col * 4 + qtr) * 96 + minor) else none
  | 2 => if col < 3 ∧ minor < 16 then some (33024 + (col * 4 + qtr) * 16 + minor) else none
  | 3 => if col = 0 ∧ qtr = 0 ∧ minor < 1600 then some (33216 + minor) else none
  | _ => none

/-- The linear index of a frame address; none for an address that names no frame (R88). -/
def farIndex (a : Nat) : Option Nat :=
  let die := a / 2 ^ 29 % 8; let common := a / 2 ^ 28 % 2; let rgn := a / 2 ^ 25 % 8; let ty := a / 2 ^ 22 % 8
  let col := a / 2 ^ 14 % 256; let qtr := a / 2 ^ 12 % 4; let minor := a % 4096
  if common = 1 then
    if rgn = 0 ∧ ty = 4 ∧ qtr = 0 ∧ col < 4 then some (die * dieFrames + 8 * rgnFrames + col * 4096 + minor) else none
  else (regionIndex ty col qtr minor).map fun x => die * dieFrames + rgn * rgnFrames + x

/-- The address fields TYPE, COL, QTR and MINOR of a region index. -/
def indexFields (x : Nat) : Nat × Nat × Nat × Nat :=
  if x < 30720 then (0, x / 160, x / 40 % 4, x % 40)
  else if x < 33024 then (1, (x - 30720) / 384, (x - 30720) / 96 % 4, (x - 30720) % 96)
  else if x < 33216 then (2, (x - 33024) / 64, (x - 33024) / 16 % 4, (x - 33024) % 16)
  else (3, 0, 0, x - 33216)

/-- The frame address of a linear index. -/
def indexFar (i : Nat) : Nat :=
  let die := i / dieFrames; let y := i % dieFrames
  if y < 8 * rgnFrames then
    let f := indexFields (y % rgnFrames)
    die * 2 ^ 29 + y / rgnFrames * 2 ^ 25 + f.1 * 2 ^ 22 + f.2.1 * 2 ^ 14 + f.2.2.1 * 2 ^ 12 + f.2.2.2
  else
    let c := y - 8 * rgnFrames
    die * 2 ^ 29 + 2 ^ 28 + 4 * 2 ^ 22 + c / 4096 * 2 ^ 14 + c % 4096

/-- First linear index of a region's frames, and of a die's common frames. -/
def rgnBase (r : Nat) : Nat := r / 8 * dieFrames + r % 8 * rgnFrames
def commonBase (d : Nat) : Nat := d * dieFrames + 8 * rgnFrames

/-- The region of a frame; none for a die-common frame. -/
def frameRegion (i : Nat) : Option Nat :=
  if i % dieFrames < 8 * rgnFrames then some (i / dieFrames * 8 + i % dieFrames / rgnFrames) else none
def frameDie (i : Nat) : Nat := i / dieFrames

def State.frame (s : State) (i : Nat) : Nat := nget s.integ.frames i
def State.updInteg (s : State) (g : Integ → Integ) : State := { s with integ := g s.integ }
def State.setFrame (s : State) (i v : Nat) : State := s.updInteg fun x => { x with frames := nput x.frames i v }

/-- Word j of a frame. -/
def fWord (v j : Nat) : Nat := v / 2 ^ (32 * j) % 2 ^ 32
/-- Bit b of a frame. -/
def fBit (v b : Nat) : Nat := v / 2 ^ b % 2

/-- A frame made of its 100 words. -/
def frameOf : List Nat → Nat
  | [] => 0
  | w :: t => w + 2 ^ 32 * frameOf t

/-- Whether a frame holds RAM contents only (R103). -/
def contentFrame (i : Nat) : Bool :=
  match frameRegion i with
  | none => false
  | some _ => let f := indexFields (i % dieFrames % rgnFrames); decide (f.1 = 1 ∧ f.2.2.2 < 93)

/-- The bits that the check word covers: RAM contents count as 0 (R100). Contents fill bits n < 294,912 of a RAM column
quarter, so minors 0 to 92 and the first 288 bits of minor 93. -/
def maskFrame (i v : Nat) : Nat :=
  match frameRegion i with
  | none => v % frameSpan
  | some _ =>
    let f := indexFields (i % dieFrames % rgnFrames)
    if f.1 = 1 then
      (if f.2.2.2 < 93 then 0 else if f.2.2.2 = 93 then v % frameSpan / 2 ^ 288 * 2 ^ 288 else v % frameSpan)
    else v % frameSpan

/-- `n` shifts of CRC-16 with polynomial 0x1021 (R100). -/
def crc16Bits : Nat → Nat → Nat
  | 0, c => c
  | n + 1, c => crc16Bits n (if 32768 ≤ c then (2 * c % 65536) ^^^ 0x1021 else 2 * c)

/-- CRC-16 over `n` bytes of a number, lowest first. -/
def crc16Of : Nat → Nat → Nat → Nat
  | 0, _, c => c
  | n + 1, v, c => crc16Of n (v / 256) (crc16Bits 8 (c ^^^ (v % 256 * 256)))

/-- Parity and position code of the set bits of a number from bit b on (R100). -/
def bitsPH : Nat → Nat → Nat → Nat × Nat
  | 0, _, _ => (0, 0)
  | n + 1, b, v =>
    let r := bitsPH n (b + 1) (v / 2)
    if v % 2 = 1 then (r.1 ^^^ 1, r.2 ^^^ (b + 1)) else r

def frameCrc (v : Nat) : Nat := crc16Of 396 v 0
def framePH (v : Nat) : Nat × Nat := bitsPH 3168 0 v

/-- The check word of a frame's masked bits (R100). -/
def frameCheck (v : Nat) : Nat := let p := framePH v; frameCrc v * 2 ^ 16 + p.1 * 2 ^ 12 + p.2 % 4096

/-- The outcomes of R101. -/
inductive FrameOut where
  | clean
  | checkWord
  | single (b : Nat)
  | uncorrectable
  deriving DecidableEq, Repr

/-- The outcome of a checker's read of frame i with stored value v (R101). -/
def frameOutcome (i v : Nat) : FrameOut :=
  let m := maskFrame i v
  let w := fWord v 99
  let crcOk := decide (frameCrc m = w / 2 ^ 16)
  let ph := framePH m
  let sy := (ph.2 ^^^ w % 4096) % 4096
  let pBad := decide (ph.1 ≠ w / 2 ^ 12 % 2)
  if crcOk && decide (sy = 0) && !pBad && decide (w / 2 ^ 13 % 8 = 0) then .clean
  else if crcOk then .checkWord
  else if pBad ∧ 1 ≤ sy ∧ sy ≤ 3168 ∧ frameCrc (m ^^^ 2 ^ (sy - 1)) = w / 2 ^ 16 then .single (sy - 1)
  else .uncorrectable

/-! ## What frames say -/

/-- The 12 bits of service-frame crossing wire w of region r (R90). -/
def State.wireBits (s : State) (r w : Nat) : Nat :=
  s.frame (rgnBase r + 33216 + w / 264) / 2 ^ (12 * (w % 264)) % 4096

/-- DIR of a wire: 1 outward source, 2 inward receiver (R90). -/
def State.wireDir (s : State) (r w : Nat) : Nat := s.wireBits r w % 4

/-- Outward and inward park values of a crossing wire's four signals (R90). -/
def State.wireOutPark (s : State) (r w : Nat) : Nat := s.wireBits r w / 4 % 16
def State.wireInPark (s : State) (r w : Nat) : Nat := s.wireBits r w / 64 % 16

/-- Outward and inward park bits of seam wire w of an edge (0 north, 1 east, 2 south, 3 west) of region r (R90). -/
def State.seamBits (s : State) (r e w : Nat) : Nat :=
  let n := 2 * (1024 * e + w)
  s.frame (rgnBase r + 33216 + 16 + n / 3168) / 2 ^ (n % 3168) % 4

/-- The frames of a region that nothing blank is stored in. -/
def State.rgnFrameList (s : State) (r : Nat) : List (Nat × Nat) :=
  s.integ.frames.filter fun e => decide (rgnBase r ≤ e.1 ∧ e.1 < rgnBase r + rgnFrames)

/-- Write blank frames over a range of linear indices (R87). -/
def State.blankFrames (s : State) (a n : Nat) : State :=
  s.updInteg fun x => { x with
    frames := x.frames.filter fun e => decide (e.1 < a ∨ a + n ≤ e.1)
    stuck := x.stuck.filter fun i => decide (i < a ∨ a + n ≤ i) }

end Sys2Proof.Machine
end

