-- ==== Sys2Proof/Machine/Gpio.lean ====
section
/-! DEFINITION. Pins and their multiplexer (16 R412 to R424): sources and driver sets, function switches, sleep, what a pin shows,
and the lock sequence. -/

namespace Sys2Proof.Machine
open Reg

def State.updGpio (s : State) (g : Gpio → Gpio) : State := { s with gpio := g s.gpio }

/-! ## Sources (R414) -/

/-- The sources by number: management bit n (0 to 95), region r channel c (96 + 8r + c), port p of die d in role k
(608 + 16d + 4p + k), clock output j (736 + j), trace signal k (740 + k). -/
def srcCount : Nat := 757

/-- EN of a source. -/
def srcEn (i : Nat) : Fld :=
  if i < 96 then GPIO_PIN_PAD_MGMT_EN i
  else if i < 608 then GPIO_RMAP_EN ((i - 96) / 8) ((i - 96) % 8)
  else if i < 736 then GPIO_SMAP_EN ((i - 608) / 16) ((i - 608) / 4 % 4) ((i - 608) % 4)
  else if i < 740 then GPIO_CKMAP_EN (i - 736)
  else GPIO_TMAP_EN (i - 740)

/-- PIN of a source's map register; a management bit always names its own pin. -/
def srcPin (i : Nat) : Option Fld :=
  if i < 96 then none
  else if i < 608 then some (GPIO_RMAP_PIN ((i - 96) / 8) ((i - 96) % 8))
  else if i < 736 then some (GPIO_SMAP_PIN ((i - 608) / 16) ((i - 608) / 4 % 4) ((i - 608) % 4))
  else if i < 740 then some (GPIO_CKMAP_PIN (i - 736))
  else some (GPIO_TMAP_PIN (i - 740))

/-- The map register of a source: its number from its address. -/
def srcAt (a : Nat) : Option Nat :=
  let o := a - 0xF00B000000
  if a < 0xF00B000000 ∨ o % 4 ≠ 0 then none
  else if 0x1000 ≤ o ∧ o < 0x1800 then some (96 + (o - 0x1000) / 4)
  else if 0x2000 ≤ o ∧ o < 0x2200 then some (608 + (o - 0x2000) / 4)
  else if 0x2800 ≤ o ∧ o < 0x2810 then some (736 + (o - 0x2800) / 4)
  else if 0x2900 ≤ o ∧ o < 0x2944 then some (740 + (o - 0x2900) / 4)
  else none

/-- The pin a source drives by the map in force, and by the map as last written. -/
def State.srcNow (s : State) (i : Nat) : Option Nat :=
  if s.eff (srcEn i) = 0 then none else some (match srcPin i with | none => i | some F => s.eff F)
def State.srcNew (s : State) (i : Nat) : Option Nat :=
  if s.f (srcEn i) = 0 then none else some (match srcPin i with | none => i | some F => s.f F)

/-- The driver set of pin n (R415). -/
def State.drivers (s : State) (n : Nat) : List Nat := (List.range srcCount).filter fun i => decide (s.srcNow i = some n)

/-- The region a source belongs to (R414, R416). -/
def State.srcRegion (s : State) (i : Nat) : Option Nat :=
  if 96 ≤ i ∧ i < 608 then some ((i - 96) / 8)
  else if 736 ≤ i ∧ i < 740 ∧ s.eff (GPIO_CKMAP_SRC (i - 736)) < 128 then some (s.eff (GPIO_CKMAP_SRC (i - 736)) / 2)
  else none

/-- The die a source needs (R419). -/
def State.srcDie (s : State) (i : Nat) : Option Nat :=
  if 608 ≤ i ∧ i < 736 then some ((i - 608) / 16)
  else if 736 ≤ i ∧ i < 740 ∧ 128 ≤ s.eff (GPIO_CKMAP_SRC (i - 736)) ∧ s.eff (GPIO_CKMAP_SRC (i - 736)) < 136 then
    some (s.eff (GPIO_CKMAP_SRC (i - 736)) - 128)
  else none

/-- A source is unpowered (R419). -/
def State.srcOff (s : State) (i : Nat) : Bool :=
  (match s.srcRegion i with | some r => decide (s.f (PWR_DOM_STATUS_STATE r) = 0) | none => false)
    || (match s.srcDie i with | some d => dieIsolated s d | none => false)

/-- A source in a closed envelope contributes 0 (R415, 02 R50). -/
def State.srcShut (s : State) (i : Nat) : Bool :=
  match s.srcRegion i with
  | some r => !s.connected r
  | none => false

/-- OE and OUT of role k of port p of die d under the port's mode, from the OE and OUT its unit drives (R414): an output role
drives always, and the idle level while EN is 0 (02 R63); an input role never drives; an open-drain role drives 0 or nothing. -/
def State.roleLevel (s : State) (d p k : Nat) (oe out : Bool) : Bool × Bool :=
  let en := decide (s.eff (FAB_SP_CTRL_EN d p) = 1)
  match s.f (FAB_SP_CTRL_MODE d p), k with
  | 1, 0 => (true, out || !en)
  | 2, 0 => (true, if en then out else decide (s.f (FAB_SP_FMT_SPI_MODE d p) / 2 = 1))
  | 2, 1 => (true, out)
  | 2, 3 => (true, out || !en)
  | 3, 2 => (true, out)
  | 4, 0 | 4, 1 | 5, 0 | 5, 1 => (en && oe, false)
  | _, _ => (false, false)

/-- The clock that code c of GPIO_CKMAPj.SRC selects runs (R416). -/
def State.outClkRuns (s : State) (c : Nat) : Bool :=
  if c < 128 then s.clkRuns (.tree c) else if c < 136 then s.clkRuns (s.muxAt c rootW).cur else true

/-- OE and OUT of a source: a management bit's from GPIO_OEw and GPIO_OUTw, any other's as its unit drives them. -/
def State.srcLevel (s : State) (i : Nat) : Bool × Bool :=
  let oe := decide (nget s.gpio.lev i / 2 % 2 = 1)
  let out := decide (nget s.gpio.lev i % 2 = 1)
  if i < 96 then (decide (s.f (GPIO_OE_BITS (i / 32)) / 2 ^ (i % 32) % 2 = 1), decide (s.f (GPIO_OUT_BITS (i / 32)) / 2 ^ (i % 32) % 2 = 1))
  else if s.srcShut i then (false, false)
  else if 608 ≤ i ∧ i < 736 then s.roleLevel ((i - 608) / 16) ((i - 608) / 4 % 4) ((i - 608) % 4) oe out
  else if 736 ≤ i ∧ i < 740 then (s.outClkRuns (s.eff (GPIO_CKMAP_SRC (i - 736))), out)
  else (oe, out)

/-! ## What a pin shows (R412, R415, R420) -/

/-- The bank's supply is in range. -/
def State.bankUp (s : State) (b : Nat) : Bool := decide (s.f (GPIO_BANK_STATUS_LEVEL b) ≠ 0)

/-- Asleep: the driver set is not empty, and every source in it is unpowered (R419). -/
def State.asleep (s : State) (n : Nat) : Bool := let l := s.drivers n; !l.isEmpty && l.all s.srcOff

/-- The OR rule: output enable and driven value (R415). -/
def State.pinOr (s : State) (n : Nat) : Bool × Bool :=
  (s.drivers n).foldl (fun x i => let v := s.srcLevel i; (x.1 || v.1, x.2 || (v.1 && v.2))) (false, false)

/-- A pin is parked: step 2 of a switch. -/
def State.parked (s : State) (n : Nat) : Bool := decide (2 ≤ nget s.gpio.phase n)

/-- What the pad's latch holds: the output enable and driven value of the last cycle before the pin fell asleep (R420). -/
def State.padHeld (s : State) (n : Nat) : Bool × Bool :=
  let v := nget s.gpio.hold n
  (decide (v / 2 % 2 = 1), decide (v % 2 = 1))

/-- Output enable and driven value of the pad, highest precedence first (R420). Without GPIO_SLEEP_NATIVE the latch holds. -/
def State.padDrive (s : State) (n : Nat) : Bool × Bool :=
  if !s.bankUp (n / 24) ∨ s.bit CFG_BOOT_STATUS_RIP then (false, false)
  else if s.parked n then
    match s.eff (GPIO_PIN_PAD_PARK n) with
    | 0 => (true, false)
    | 1 => (true, true)
    | _ => (false, false)
  else if s.asleep n then
    match (if s.feature 32 then s.eff (GPIO_PIN_PAD_SLEEP n) else 3) with
    | 0 => (false, false)
    | 1 => (true, false)
    | 2 => (true, true)
    | _ => s.padHeld n
  else s.pinOr n

/-- The pad level: the driver's, else the board's, else the pull's; a keeper's is the level it last saw. The spec states no level
for a pad that nothing drives or pulls, nor for a keeper that has seen none: a free value. -/
def State.padLevel (s : State) (n : Nat) : Bool :=
  let d := s.padDrive n
  if !s.bankUp (n / 24) then false
  else if d.1 then d.2
  else if nget s.gpio.ext n ≠ 0 then decide (nget s.gpio.ext n = 2)
  else
    match s.eff (GPIO_PIN_PAD_PULL n), nget s.gpio.keep n with
    | 1, _ => false
    | 2, _ => true
    | 3, k + 1 => decide (k = 1)
    | _, _ => decide (Config.freeValue s.freeCtr / 2 ^ n % 2 = 1)

/-- The pads with a keeper, in force or written, note the level they show: they keep it once nothing drives them (R413). -/
def State.padNote (s : State) : State :=
  let l := (List.range 96).filter fun n => decide (s.eff (GPIO_PIN_PAD_PULL n) = 3 ∨ s.f (GPIO_PIN_PAD_PULL n) = 3)
  s.updGpio fun g => { g with keep := l.foldl (fun m n => nput m n (b2n (s.padLevel n) + 1)) g.keep }

/-- Pins that have fallen asleep since `old` latch what they showed then (R420). -/
def State.sleepPins (old s : State) (l : List Nat) : State :=
  l.foldl (fun t n =>
    if s.asleep n ∧ !old.asleep n then
      let v := old.padDrive n
      t.updGpio fun g => { g with hold := nput g.hold n (2 * b2n v.1 + b2n v.2) }
    else t) s

/-- The pins that the sources of region r, and those of die d, drive (R419). -/
def State.regionPins (s : State) (r : Nat) : List Nat :=
  (((List.range 8).map (96 + 8 * r + ·)) ++ (List.range' 736 4).filter fun i => decide (s.srcRegion i = some r)).filterMap s.srcNow
def State.diePins (s : State) (d : Nat) : List Nat :=
  (((List.range 16).map (608 + 16 * d + ·)) ++ (List.range' 736 4).filter fun i => decide (s.srcDie i = some d)).filterMap s.srcNow

/-- GPIO_PINn_STATUS. -/
def State.pinStatus (s : State) (n : Nat) : Nat :=
  s.f (GPIO_LOCKED_BITS (n / 32)) / 2 ^ (n % 32) % 2 * 2 ^ 31 + b2n (s.parked n) * 2 ^ 30 + b2n (s.asleep n) * 2 ^ 29
    + s.f (GPIO_PIN_STATUS_SHARED n) * 2 ^ 28 + min 255 (s.drivers n).length * 2 ^ 16 + b2n (s.padDrive n).1 * 2
    + b2n (s.padLevel n)

/-- GPIO_INw. -/
def State.pinsIn (s : State) (w : Nat) : Nat :=
  (List.range 32).foldl (fun a i => a + b2n (s.padLevel (32 * w + i)) * 2 ^ i) 0

/-! ## Sharing (R415) -/

/-- Sources of a pin with OE = 1. -/
def State.pinActive (s : State) (n : Nat) : List Nat := (s.drivers n).filter fun i => (s.srcLevel i).1

/-- The lowest-numbered leased region among sources. -/
def State.shareRegion (s : State) (l : List Nat) : Option Nat :=
  (List.range 64).find? fun r => decide (s.f (HUB_RGN_STATE_LEASE r) ≠ 0) && l.any fun i => decide (s.srcRegion i = some r)

/-- Two or more sources with OE = 1 set SHARED, and raise GPIO_SHARED once after each clear. -/
def State.shareCheck (s : State) (n : Nat) : State :=
  let l := s.pinActive n
  if l.length < 2 ∨ s.parked n ∨ s.f (GPIO_PIN_STATUS_SHARED n) = 1 then s
  else
    let s := s.setF (GPIO_PIN_STATUS_SHARED n) 1
    match s.shareRegion l with
    | some r => s.raise .GPIO_SHARED true (s.f (HUB_RGN_STATE_LEASE r)) noInst
    | none => s.raise .GPIO_SHARED false 0 noInst

def State.shareAll (s : State) (l : List Nat) : State := l.foldl State.shareCheck s

/-! ## Function switches (R417, R418) -/

/-- A change of a pin's driver set lands: step 1, or a longer park when step 2 is in force. -/
def State.pinSwitch (s : State) (n : Nat) : State :=
  s.updGpio fun g => { g with phase := nput g.phase n (if nget g.phase n < 2 then 1 else 3) }

/-- A source's EN and PIN as written: they take effect with the switch of the pins they name. -/
def State.mapWrite (s : State) (i en pin : Nat) : State :=
  let old := s.srcNew i
  let set := fun (t : State) (F : Fld) (v : Nat) =>
    if s.f (srcEn i) = 0 ∧ s.eff (srcEn i) = 0 ∧ en = 0 then t.setF F v else t.writeLive F v
  let s := set s (srcEn i) en
  let s := match srcPin i with | some F => set s F pin | none => s
  let new := s.srcNew i
  if old = new then s
  else
    let s := match old with | some n => s.pinSwitch n | none => s
    match new with | some n => s.pinSwitch n | none => s

/-- The map fields that wait for pin n take effect. -/
def State.mapApply (s : State) (n : Nat) : State :=
  (List.range srcCount).foldl (fun t i =>
    if t.srcNow i = t.srcNew i then t
    else if t.srcNow i = some n ∨ t.srcNew i = some n then
      let t := t.applyLive (srcEn i)
      match srcPin i with | some F => t.applyLive F | none => t
    else t) s

/-- GPIO_SWITCH_PARK: an AON tick boundary after the change. -/
def execGpioSwitchPark (n : Nat) (s : State) : Host.Outcome State Fault Refusal :=
  .next (if nget s.gpio.phase n = 1 ∨ nget s.gpio.phase n = 3 then
      (s.updGpio fun g => { g with phase := nput g.phase n 2 }).padNote
    else s)

/-- GPIO_SWITCH_CONNECT: one tick later the new set is connected, or an extended park goes on. `lev` is what the units behind the
sources drive (OUT + 2 OE by source), `ext` what the board drives at pins (level + 1 by pin). -/
def State.pinConnect (s : State) (n : Nat) (lev ext : List (Nat × Nat)) : State :=
  let s := s.updGpio fun g => { g with lev := lev.foldl (fun m x => nput m x.1 x.2) g.lev
                                       ext := ext.foldl (fun m x => nput m x.1 x.2) g.ext }
  let s := s.shareAll ((lev.map Prod.fst).filterMap s.srcNow)
  match nget s.gpio.phase n with
  | 2 => (State.sleepPins s ((s.mapApply n).updGpio fun g => { g with phase := nput g.phase n 0 }) [n]).shareCheck n
  | 3 => s.updGpio fun g => { g with phase := nput g.phase n 2 }
  | _ => s

def execGpioSwitchConnect (n : Nat) (lev ext : List (Nat × Nat)) (s : State) : Host.Outcome State Fault Refusal :=
  .next (s.pinConnect n lev ext).padNote

/-- Pins that were asleep and have a powered source again switch (R419). -/
def State.wakePins (old s : State) (l : List Nat) : State :=
  l.foldl (fun t n => if old.asleep n ∧ !s.asleep n then t.pinSwitch n else t) s

/-- The region's domain has woken. -/
def State.wakeRegionPins (old s : State) (r : Nat) : State := State.wakePins old s (s.regionPins r)

/-- The die is admitted again. -/
def State.wakeDiePins (old s : State) (d : Nat) : State := State.wakePins old s (s.diePins d)

/-- The outputs of a region are connected: its channels and clock outputs contribute (R415, R416). -/
def State.shareRegionPins (s : State) (r : Nat) : State := (s.shareAll (s.regionPins r)).padNote

/-! ## Locks (R421, R422) -/

def State.pinLocked (s : State) (n : Nat) : Bool := decide (s.f (GPIO_LOCKED_BITS (n / 32)) / 2 ^ (n % 32) % 2 = 1)

/-- A core in a lock sequence leaves it; one that defers a halt halts (17 R441). -/
def State.lockLeave (s : State) : State :=
  let mine := (List.range 4).filter fun g => decide (nget s.dbg.locked g = 2)
  let due := mine.filter s.dbg.deferred.contains
  let s := { s with dbg := { s.dbg with
    locked := SMap.filterKeys (fun g => !mine.contains g) s.dbg.locked
    deferred := s.dbg.deferred.filter (fun g => !due.contains g)
    halted := s.dbg.halted ++ due } }
  s.setF DBG_STATUS_DEFERRED (b2n (!s.dbg.deferred.isEmpty))

/-- A lock sequence is aborted back to idle: no pin is locked. -/
def State.lockAbort (s : State) : State :=
  if s.f GPIO_LOCK_STATUS_STEP = 0 then s
  else ((s.setFs [(GPIO_LOCK_STATUS_STEP, 0), (GPIO_LOCK_STATUS_ABORTED, 1)]).raise .GPIO_LOCK_ABORT false 0 noInst).lockLeave

/-- GPIO_LOCK = 0x4C4B_0000 + w; `core` is the core that runs the sequence when firmware owns the block. -/
def State.lockArm (s : State) (m : Master) (w core : Nat) : State :=
  if s.f GPIO_LOCK_STATUS_STEP ≠ 0 then s.lockAbort
  else if w < 3 then
    let s := (s.setF GPIO_LOCK_STATUS_STEP 1).updGpio fun g => { g with word := w, mask := 0 }
    if m = .firmware then { s with dbg := { s.dbg with locked := nput s.dbg.locked core 2 } } else s
  else s

def execGpioLockArm (m : Master) (w core : Nat) (s : State) : Host.Outcome State Fault Refusal :=
  .next (s.viaWrite m GPIO_LOCK fun s => s.lockArm m w core)

/-- GPIO_LOCK_MASK. -/
def State.lockMask (s : State) (mask : Nat) : State :=
  if s.f GPIO_LOCK_STATUS_STEP = 1 then
    (s.setF GPIO_LOCK_STATUS_STEP 2).updGpio fun g => { g with mask := mask % 2 ^ 32 }
  else s.lockAbort

def execGpioLockMaskWrite (m : Master) (mask : Nat) (s : State) : Host.Outcome State Fault Refusal :=
  .next (s.viaWrite m GPIO_LOCK_MASK fun s => s.lockMask mask)

/-- GPIO_LOCK = 0xB4B4_0000 + w: every pin in the mask is locked. -/
def State.lockCommit (s : State) (w : Nat) : State :=
  if s.f GPIO_LOCK_STATUS_STEP = 2 ∧ s.gpio.word = w then
    ((s.setF GPIO_LOCK_STATUS_STEP 0).setF (GPIO_LOCKED_BITS w) (s.f (GPIO_LOCKED_BITS w) ||| s.gpio.mask)).lockLeave
  else s.lockAbort

def execGpioLockCommit (m : Master) (w : Nat) (s : State) : Host.Outcome State Fault Refusal :=
  .next (s.viaWrite m GPIO_LOCK fun s => s.lockCommit w)

def execGpioLockTimeout (s : State) : Host.Outcome State Fault Refusal := .next s.lockAbort

/-- A map register that names a locked pin, or whose write would name one, takes no write (R422). -/
def State.mapLocked (s : State) (i en pin : Nat) : Bool :=
  (match s.srcNew i with | some n => s.pinLocked n | none => false) || (decide (en = 1) && s.pinLocked pin)

/-- Codes of GPIO_CKMAPj.SRC (R416). -/
def ckSrcOk (v : Nat) : Bool := decide (v < 136 ∨ v = 191 ∨ v = 255)

/-- A write of a whole map register (R414, R416, R422). -/
def State.mapRegWrite (s : State) (m : Master) (a i v : Nat) : State :=
  let en := v / 2 ^ 31 % 2
  let pin := v % 128
  if s.mapLocked i en pin then s.dropWrite m .bootLocked a
  else if 96 ≤ pin then s.dropWrite m .range a
  else
    let s := s.mapWrite i en pin
    if 736 ≤ i ∧ i < 740 then
      let src := v / 2 ^ 16 % 256
      let s := s.writeLive (GPIO_CKMAP_DIV (i - 736)) (v / 256)
      if ckSrcOk src then s.writeLive (GPIO_CKMAP_SRC (i - 736)) src else s.logDrop m .badCode a
    else s

end Sys2Proof.Machine
end

