-- ==== Sys2Proof/Machine/Lane.lean ====
section
/-! DEFINITION. Serial lanes (12 R302 to R321): quads, records, equalisation, PRBS, injection, bit slip. -/

namespace Sys2Proof.Machine
open Sys2Proof.Machine.Reg

def State.laneAt (s : State) (n : Nat) : Lane := SMap.get (fun _ => Lane.empty) s.lanes.lane n
def State.setLane (s : State) (n : Nat) (x : Lane) : State :=
  { s with lanes := { s.lanes with lane := SMap.put (fun _ => Lane.empty) s.lanes.lane n x } }
def State.updLane (s : State) (n : Nat) (g : Lane → Lane) : State := s.setLane n (g (s.laneAt n))

def quadOf (n : Nat) : Nat := n / 4
/-- Quads Q12 to Q35 are tenant quads (R303). -/
def tenantQuad (q : Nat) : Bool := decide (12 ≤ q ∧ q < 36)
def quadLanes (q : Nat) : List Nat := [4 * q, 4 * q + 1, 4 * q + 2, 4 * q + 3]

/-- Lane tile of a quad (01 R23). -/
def quadTile (q : Nat) : Nat :=
  if q < 4 then 0 else if q < 8 then 1 else if q < 12 then 2
  else if q < 17 then 0 else if q < 22 then 1 else if q < 27 then 2 else 3

/-- Mode in force: 0 OFF, 1 DATA, 2 TEST. -/
def State.laneMode (s : State) (n : Nat) : Nat := s.f (LNE_STATUS_MODE n)
def State.quadRate (s : State) (q : Nat) : Nat := s.f (LNE_Q_CFG_RATE q)
/-- A PCS rate (R305). -/
def pcsRate (r : Nat) : Bool := decide (1 ≤ r ∧ r ≤ 5)
def rawRate (r : Nat) : Bool := decide (r = 6 ∨ r = 7)

/-- Symbol rate of a quad in kBd (R303, R305, R322). -/
def State.quadKbd (s : State) (q : Nat) : Nat :=
  if q < 8 then
    match s.f (PCI_EP_STATUS_RATE (q / 4)) with
    | 1 => 2500000 | 2 => 5000000 | 3 => 8000000 | 4 => 16000000 | 5 => 32000000 | 6 => 32000000 | _ => 0
  else if q < 12 then 112000000
  else
    match s.quadRate q with
    | 1 => 10312500 | 2 => 25781250 | 3 => 26562500 | 4 => 53125000 | 5 => 106250000
    | 6 | 7 => s.f (LNE_Q_CFG_RAW_MBD q) * 1000
    | _ => 0

/-! ## Equalisation -/

/-- The default setting, as bytes 0x08 to 0x2B of an entry (R312). -/
def eqDefault : List Nat := [0, 0, 0, 64, 0, 8, 0xFF, 0, 0, 0, 0, 64] ++ List.replicate 24 0

/-- The codes a lane applies now, shown in LNE_XP_EQ_Wj (R330). -/
def State.laneCodes (s : State) (n : Nat) : List Nat :=
  (List.range 9).flatMap fun j => Crypto.leBytesN 4 (s.f (LNE_XP_EQ_W_BYTES n j))

def State.setLaneCodes (s : State) (n : Nat) (c : List Nat) : State :=
  (List.range 9).foldl (fun t j => t.setF (LNE_XP_EQ_W_BYTES n j) (Crypto.leNum ((c.drop (4 * j)).take 4))) s

/-- Magnitude of a signed byte. -/
def mag8 (b : Nat) : Nat := if b < 128 then b else 256 - b

/-- Sum of the magnitudes of the five TX taps. -/
def txSum (c : List Nat) : Nat := ((c.take 5).map mag8).foldl (· + ·) 0

/-- The valid entry of a lane and bin. -/
def State.eqEntry (s : State) (n bin : Nat) : Option EqEnt := SMap.get (fun _ => none) s.lanes.eq (4 * n + bin)

/-- The entry a lane applies at its present rate and bin; none: the default setting (R312). -/
def State.laneEntry (s : State) (n : Nat) : Option EqEnt :=
  let r := s.quadKbd (quadOf n)
  match s.eqEntry n (s.f (LNE_Q_STATUS_BIN (quadOf n))) with
  | some e => if e.kbd ≤ 2 * r ∧ r ≤ e.kbd then some e else none
  | none => none

/-- The codes a lane is to apply. TX codes that the PCIe partner has asked for stay (R315). -/
def State.laneTarget (s : State) (n : Nat) : List Nat :=
  let c := (match s.laneEntry n with | some e => e.codes | none => eqDefault)
  if (s.laneAt n).partner then (s.laneCodes n).take 5 ++ c.drop 5 else c

/-- EQ_DEFAULT, and the event of the first default setting above 16 GBd (R312). -/
def State.laneNoteDefault (s : State) (n : Nat) : State :=
  let dflt := (s.laneEntry n).isNone
  let s := s.setF (LNE_STATUS_EQ_DEFAULT n) (b2n dflt)
  if dflt && decide (16000000 < s.quadKbd (quadOf n)) && !(s.laneAt n).missing then
    (s.updLane n fun x => { x with missing := true }).raise .EQ_ENTRY_MISSING false 0 n
  else s

/-- Aim a running lane at its entry: a walk begins (R314). A lane with OVERRIDE never walks. -/
def State.laneRetarget (s : State) (n : Nat) : State :=
  if s.laneMode n = 0 ∨ s.eff (LNE_XP_EQ_CTRL_OVERRIDE n) = 1 then s
  else
    let s := s.laneNoteDefault n
    let t := s.laneTarget n
    (s.updLane n fun x => { x with target := t }).setF (LNE_STATUS_WALK n) (b2n (decide (s.laneCodes n ≠ t)))

/-- A lane that uses LNE_XP_EQ_Wj in place of the table applies them at once; a TX sum above 64 gives the default
setting (R330). -/
def State.laneOverride (s : State) (n : Nat) : State :=
  if s.eff (LNE_XP_EQ_CTRL_OVERRIDE n) = 1 then
    let s := s.setF (LNE_STATUS_WALK n) 0
    if 64 < txSum (s.laneCodes n) then s.setLaneCodes n eqDefault else s
  else s.laneRetarget n

/-- A lane starts: entry codes and polarity at once (R312, R314). -/
def State.laneStart (s : State) (n : Nat) : State :=
  if s.laneMode n = 0 ∨ !s.bit (LNE_Q_STATUS_PLL_LOCK (quadOf n)) then s
  else if s.eff (LNE_XP_EQ_CTRL_OVERRIDE n) = 1 then s
  else
    let s := s.laneNoteDefault n
    let t := s.laneTarget n
    let fl := (match s.laneEntry n with | some e => e.flags | none => 0)
    ((s.setLaneCodes n t).updLane n fun x => { x with target := t, flags := fl }).setF (LNE_STATUS_WALK n) 0

/-- Electrical idle of a transmitter: OFF, no PLL, or a tenant lane while the rip panel is engaged (03 R71). -/
def State.laneTxIdle (s : State) (n : Nat) : State :=
  let q := quadOf n
  s.setF (LNE_STATUS_TX_IDLE n) (b2n (decide (s.laneMode n = 0) || !s.bit (LNE_Q_STATUS_PLL_LOCK q)
    || (tenantQuad q && s.bit CFG_BOOT_STATUS_RIP)))

/-- The rip panel engages or is released: tenant transmitters follow (03 R71). -/
def State.ripLanes (s : State) : State := (List.range 96).foldl (fun t i => t.laneTxIdle (48 + i)) s

/-- The receiver of a lane loses all lock. -/
def State.laneUnlock (s : State) (n : Nat) : State :=
  s.setFs [(LNE_STATUS_CDR_LOCK n, 0), (LNE_STATUS_PCS_LOCK n, 0)]

/-- A lane is switched OFF: its buffers are empty. -/
def State.laneOff (s : State) (n : Nat) : State :=
  let s := (s.laneAt n).tx.foldl (fun t p => t.respond p stErr []) s
  let s := (s.updLane n fun x => { x with rx := [], tx := [], inj := none, snap := false, chk := PrbsChk.empty }).laneUnlock n
  (s.setFs [(LNE_STATUS_MODE n, 0), (LNE_CTRL_MODE n, 0), (LNE_STATUS_WALK n, 0), (LNE_PRBS_STATUS_LOCK n, 0)]).laneTxIdle n

/-! ## Quads -/

/-- RAW_MBD lies outside the mode's range (R305). -/
def State.rateBad (s : State) (q : Nat) : Bool :=
  let m := s.f (LNE_Q_CFG_RAW_MBD q)
  match s.quadRate q with
  | 6 => decide (m < 1000 ∨ 56000 < m)
  | 7 => decide (m < 20000 ∨ 112000 < m)
  | _ => false

/-- The quad has no clock: every lane loses lock, walks are abandoned (R305, R329). -/
def State.quadUnlock (s : State) (q : Nat) : State :=
  let s := s.setF (LNE_Q_STATUS_PLL_LOCK q) 0
  (quadLanes q).foldl (fun t n => ((t.laneUnlock n).setF (LNE_STATUS_WALK n) 0).laneTxIdle n) s

/-- The quad PLL restarts (R305). A RAW_MBD outside its range keeps the quad OFF. The rate in force reads as an open value: R379
shows it in whole MHz and R305 states symbol rates. -/
def State.quadRestart (s : State) (q : Nat) : State :=
  let s := s.setF (LNE_Q_STATUS_ERR q) (b2n (s.rateBad q))
  let s := s.quadUnlock q
  let s := (s.setF (CLK_PLL_CFG_FREQ0_MHZ (77 + q)) (s.free 12)).freeNext
  (s.pllHalt (77 + q)).pllEval (77 + q)

/-- A write of LNE_Qq_CFG (R303, R305, R330): QUIET while a lane is not OFF; RATE of a quad that is not a tenant quad is
ignored and logged. -/
def State.quadCfg (s : State) (m : Master) (q v : Nat) : State :=
  let idle := (quadLanes q).all fun n => decide (s.laneMode n = 0)
  let l := v / 2 ^ 24 % 256; let mb := v / 16 % 2 ^ 17; let r := v % 8
  let rate := s.quadRate q
  let s := if tenantQuad q then s else s.logDrop m .badCode (LNE_Q_CFG q)
  let r := if tenantQuad q then r else rate
  if !idle then s.busy (LNE_Q_STATUS_FIELD_BUSY q)
  else
    let again := decide (r ≠ rate) || (rawRate r && decide (mb ≠ s.f (LNE_Q_CFG_RAW_MBD q)))
    let s := s.setFs [(LNE_Q_CFG_LEASE q, l), (LNE_Q_CFG_RAW_MBD q, mb), (LNE_Q_CFG_RATE q, r)]
    if again then s.quadRestart q else s

def execQuadCfgWrite (m : Master) (q v : Nat) (s : State) : Host.Outcome State Fault Refusal :=
  .next (s.viaWrite m (LNE_Q_CFG q) fun s => s.quadCfg m q v)

/-- A quad's clock returns: lanes apply their entries (R305, R312). -/
def State.quadClock (s : State) (q : Nat) : State :=
  (quadLanes q).foldl (fun t n => (t.laneStart n).laneTxIdle n) (s.setF (LNE_Q_STATUS_PLL_LOCK q) 1)

/-- A PLL locks; the lanes of a quad PLL that is ON follow. A quad with ERR set stays OFF (R305). -/
def State.pllLocks (s : State) (p : Nat) : State :=
  if 77 ≤ p ∧ p < 113 then
    let q := p - 77
    if s.powered (128 + q) ∧ s.f (LNE_Q_STATUS_ERR q) = 0 ∧ (s.quadRate q ≠ 0 ∨ !tenantQuad q) then
      let t := s.pllLock p
      if t.pllRuns p ∧ !t.bit (LNE_Q_STATUS_PLL_LOCK q) ∧ t.domOn (140 + q) then t.quadClock q else t
    else s
  else s.pllLock p

/-- PLL_LOCK_LOSS (14 R365): lanes of a quad PLL lose lock. -/
def execPllLockLoss (p : Nat) (s : State) : Host.Outcome State Fault Refusal :=
  let t := s.pllLoss p
  .next (if 77 ≤ p ∧ p < 113 ∧ t.pllState p ≠ s.pllState p then t.quadUnlock (p - 77) else t)

/-- The quad PLL relocks after a restart (R305). -/
def execQuadPllRelock (q : Nat) (s : State) : Host.Outcome State Fault Refusal := .next (s.pllLocks (77 + q))

/-- Tenant quads whose lease no region holds any longer (R304). -/
def State.quadOrphans (s : State) : State :=
  (List.range 24).foldl (fun t i =>
    let q := 12 + i
    let l := t.f (LNE_Q_CFG_LEASE q)
    if l ≠ 0 ∧ (t.leaseRegion l).isNone then
      ((quadLanes q).foldl State.laneOff t).setF (LNE_Q_CFG_LEASE q) 0
    else t) s

/-- A WRITE to the lane has not been answered: in its transmit buffer, or at the quad NAP (R330). -/
def State.laneOwes (s : State) (n : Nat) : Bool :=
  !(s.laneAt n).tx.isEmpty
    || s.noc.inbox.any fun p => decide (p.dst = quadNode (quadOf n) ∧ p.opc = opcWrite ∧ p.addr / 4096 % 4 = n % 4)

/-- A write of LNE_CTRL.MODE (R318, R330). -/
def State.laneModeWrite (s : State) (n v : Nat) : State :=
  let v := if v % 4 = 3 then 0 else v % 4
  let q := quadOf n
  let mayTest := tenantQuad q || (if q < 8 then s.bit (PCI_EP_CTRL_LINK_DIS (q / 4))
    else decide (s.f MIR_STATUS_LINK = 0 ∨ 4 ≤ s.f MIR_STATUS_LINK))
  if s.laneOwes n ∨ (v = 2 ∧ !mayTest) then s.busy (LNE_STATUS_FIELD_BUSY n)
  else if v = s.laneMode n then s
  else if v = 0 then s.laneOff n
  else
    let first := s.laneMode n = 0
    let s := (s.updLane n fun x => { x with chk := PrbsChk.empty }).setFs [(LNE_CTRL_MODE n, v), (LNE_STATUS_MODE n, v),
      (LNE_PRBS_STATUS_LOCK n, 0)]
    let s := if v = 2 then s.applyLive (LNE_PRBS_CTRL_CHK_PAT n) else s
    let s := if first then s.laneStart n else s
    s.laneTxIdle n

/-! ## Receive -/

/-- Bytes of one record in the quad's mode (R307). -/
def State.recSize (s : State) (n : Nat) : Nat := if rawRate (s.quadRate (quadOf n)) then 8 else 16

/-- The lowest of the 16 tags of a lane that no WRITE of it holds. -/
def Lane.freeTag (x : Lane) (n : Nat) : Option Nat :=
  ((List.range 16).map fun i => 16 * (n % 4) + i).find? fun t => !x.out.any fun o => o.1 = t

/-- Send received records as WRITEs of up to 512 bytes, at most 16 outstanding (R308). -/
def State.lanePump (s : State) (n : Nat) : Nat → State
  | 0 => s
  | fuel + 1 =>
    let x := s.laneAt n
    let node := quadNode (quadOf n)
    let up := decide (s.f (NOC_PORT_STATUS_STATE (nodeRouter node) (nodePort node)) = 1 ∧ (s.dueOf node).length < 64)
    match x.freeTag n with
    | none => s
    | some tag =>
      if x.rx.isEmpty || !up then s
      else
        let ring := 4096 * 2 ^ min 8 (s.f (LNE_RX_DST_RING n))
        let a := s.f (LNE_RX_BASE_BASE n) * 4096 + x.off % ring
        let k := min (min (512 - a % 512) x.rx.length) (ring - x.off % ring)
        let d := x.rx.take k
        let s := s.setLane n { x with rx := x.rx.drop k, off := (x.off + k) % ring, out := x.out ++ [(tag, k / s.recSize n)] }
        let p : Packet := ⟨s.f (LNE_RX_DST_NODE n), node, opcWrite, tag, 0, a, k - 1, 0, 0, 0, false, 0, false, 0, d, []⟩
        (s.sendRequest p).lanePump n fuel

/-- The response of a WRITE of received records: a refused request loses them (R308). -/
def State.laneRsp (s : State) (q tag st : Nat) : State :=
  let n := 4 * q + tag / 16
  let x := s.laneAt n
  match x.out.find? (fun o => o.1 = tag) with
  | none => s
  | some o =>
    let s := s.setLane n { x with out := x.out.filter fun o => o.1 ≠ tag }
    let s := if st = stOk then s else s.count (LNE_DROP_RX_DROP n) o.2
    s.lanePump n 16

/-- A record received on a lane in DATA mode (R306, R308, R321): `fec` 1 ends a corrected codeword, 2 an uncorrectable
one. -/
def State.laneRx (s : State) (n fec : Nat) (rec : List Byte) : State :=
  let r := s.quadRate (quadOf n)
  let k := s.recSize n
  if s.laneMode n ≠ 1 ∨ !tenantQuad (quadOf n) ∨ r = 0 ∨ !s.bit (LNE_STATUS_CDR_LOCK n)
      ∨ (pcsRate r ∧ !s.bit (LNE_STATUS_PCS_LOCK n)) then s
  else
    let s := if 3 ≤ r ∧ r ≤ 5 then
        (if fec = 1 then s.count (LNE_FEC_CNT_CORR n) 1 else if fec = 2 then s.count (LNE_FEC_CNT_UNCORR n) 1 else s)
      else s
    if rawRate r ∧ !s.bit (LNE_SLIP_SLIP_DONE n) then s.count (LNE_DROP_RX_DROP n) 1
    else if 16384 < (s.laneAt n).rx.length + k then s.count (LNE_DROP_RX_DROP n) 1
    else
      let rec' := rec.take k ++ List.replicate (k - rec.length) 0
      (s.updLane n fun x => { x with rx := x.rx ++ rec' }).lanePump n 16

def execLaneRxRecord (n fec : Nat) (rec : List Byte) (s : State) : Host.Outcome State Fault Refusal :=
  .next (s.laneRx n fec rec)

/-! ## Transmit -/

/-- A quad NAP takes the oldest request at its node (R309): records enter the lane's transmit buffer, or the request is
answered ERR. -/
def execLaneTxWrite (q : Nat) (s : State) : Host.Outcome State Fault Refusal :=
  .next (match s.noc.inbox.find? (fun p => p.dst = quadNode q) with
    | none => s
    | some p =>
      let s := s.updNoc fun x => { x with inbox := dropFirst (fun p => p.dst = quadNode q) x.inbox }
      let n := 4 * q + p.addr / 4096 % 4
      let x := s.laneAt n
      let used := (x.tx.map fun p => p.data.length).foldl (· + ·) 0
      if p.opc ≠ opcWrite then (if p.opc = opcRead then s.respond p stErr [] else s.updNoc fun y => countDiscard y p.dst)
      else if s.laneMode n ≠ 1 ∨ s.bit CFG_BOOT_STATUS_RIP ∨ s.quadRate q = 0
          ∨ p.data.length % s.recSize n ≠ 0 ∨ 16384 < used + p.data.length then
        (s.count (LNE_DROP_TX_REFUSED n) 1).respond p stErr []
      else s.setLane n { x with tx := x.tx ++ [p] })

/-- What a lane in DATA mode sends while its transmit buffer is empty (R309): the word of LNE_TX_FILL in the RAW modes; none stands
for idle blocks as IEEE 802.3 gives. -/
def State.laneFill (s : State) (n : Nat) : Option Nat :=
  if rawRate (s.quadRate (quadOf n)) then some (s.f (LNE_TX_FILL_LO_WORD n) + 2 ^ 32 * s.f (LNE_TX_FILL_HI_WORD n)) else none

/-- The buffer has run empty: fill words or idle blocks follow, the last values written to LNE_TX_FILL from now on (R309). -/
def State.laneRunsDry (s : State) (n : Nat) : State :=
  if (s.laneAt n).tx.isEmpty then
    { (s.applyLive (LNE_TX_FILL_LO_WORD n)).applyLive (LNE_TX_FILL_HI_WORD n) with out := s.out ++ [.laneFill n (s.laneFill n)] }
  else s

/-- The last record of the oldest WRITE has gone onto the line: WRITE_RSP OK (R309). -/
def execLaneTxSent (n : Nat) (s : State) : Host.Outcome State Fault Refusal :=
  .next (match (s.laneAt n).tx with
    | [] => s
    | p :: t =>
      if s.laneMode n ≠ 1 ∨ s.bit (LNE_STATUS_TX_IDLE n) then s
      else
        let s := (s.updLane n fun x => { x with tx := t }).respond p stOk []
        ({ s with out := s.out ++ [.lane n p.data] } : State).laneRunsDry n)

/-! ## Lock -/

/-- The receiver gains CDR lock (R305). -/
def execLaneCdrLock (n : Nat) (s : State) : Host.Outcome State Fault Refusal :=
  .next (if s.laneMode n ≠ 0 ∧ s.bit (LNE_Q_STATUS_PLL_LOCK (quadOf n)) then s.setF (LNE_STATUS_CDR_LOCK n) 1 else s)

/-- CDR lock is lost (R306). -/
def execLaneCdrLoss (n : Nat) (s : State) : Host.Outcome State Fault Refusal :=
  .next (if s.bit (LNE_STATUS_CDR_LOCK n) then
      let s := s.laneUnlock n
      if s.laneMode n = 1 then s.raise .LANE_RX_LOST true (s.f (LNE_Q_CFG_LEASE (quadOf n))) n else s
    else s)

/-- Block lock, and FEC alignment at rates 3 to 5 (R305). -/
def execPcsBlockLock (n : Nat) (s : State) : Host.Outcome State Fault Refusal :=
  .next (if s.bit (LNE_STATUS_CDR_LOCK n) ∧ pcsRate (s.quadRate (quadOf n)) then s.setF (LNE_STATUS_PCS_LOCK n) 1 else s)

/-! ## The table (R310, R311, R316) -/

def State.fb (s : State) (a : Nat) : Nat := (SMap.get (fun _ => (0xFF : Byte)) s.bflash a).toNat
def State.fbs (s : State) (a k : Nat) : List Nat := (List.range k).map fun i => s.fb (a + i)

/-- A directory copy at flash byte a with a matching CRC (R67). -/
def State.dirAt (s : State) (a : Nat) : Option (List Nat) :=
  let d := s.fbs a 64
  if Crypto.leNum (d.drop 60) = Crypto.crc32 (d.take 60) then some d else none

/-- The directory the boot master uses: the first copy that is good (R67). -/
def State.directory (s : State) : Option (List Nat) := (s.dirAt 0).orElse fun _ => s.dirAt 0x1000

/-- The value of a directory word. -/
def dirWord (d : List Nat) (o : Nat) : Nat := Crypto.leNum ((d.drop o).take 4)

/-- A signed byte, biased by 128. -/
def bias8 (b : Nat) : Nat := (b + 128) % 256

/-- The header at flash byte a: the limits and COUNT when it is good (R311). -/
def State.eqHeader (s : State) (a : Nat) : Option (List Nat × Nat) :=
  let h := s.fbs a 32
  let n := Crypto.leNum ((h.drop 6).take 2)
  let t := (h.drop 16).take 3
  let hy := h.getD 19 0
  let b := t.map bias8
  if h.take 4 = [0x4B, 0x58, 0x45, 0x51] ∧ (h.drop 4).take 2 = [1, 0] ∧ 1 ≤ n ∧ n ≤ 576
      ∧ b.getD 0 0 < b.getD 1 0 ∧ b.getD 1 0 < b.getD 2 0 ∧ 1 ≤ hy ∧ hy ≤ 10
      ∧ Crypto.leNum (h.drop 28) = Crypto.crc32 (h.take 28) then some (b ++ [hy], n) else none

/-- An entry is valid (R311). -/
def eqValid (e : List Nat) : Bool :=
  decide (Crypto.leNum (e.drop 60) = Crypto.crc32 (e.take 60) ∧ e.getD 0 0 < 144 ∧ e.getD 1 0 < 4 ∧ e.getD 2 0 < 4
    ∧ e.getD 3 0 = 0 ∧ e.getD 15 0 = 0 ∧ ((e.drop 0x2B).take 17).all (· = 0) ∧ txSum (e.drop 8) ≤ 64)

/-- Read COUNT entries: the table, and how many are valid and bad (R311). -/
def State.eqRead (s : State) (a : Nat) : Nat → SMap (Option EqEnt) × Nat × Nat
  | 0 => ([], 0, 0)
  | n + 1 =>
    let (m, v, b) := s.eqRead a n
    let e := s.fbs (a + 64 * n) 64
    if eqValid e then
      let k := 4 * e.getD 0 0 + e.getD 1 0
      (if (SMap.get (fun _ => none) m k).isSome then m
       else SMap.put (fun _ => none) m k (some ⟨Crypto.leNum ((e.drop 4).take 4), e.getD 2 0, (e.drop 8).take 36⟩), v + 1, b)
    else (m, v, b + 1)

/-- Read and check the table (R311, R316). A bad new header leaves the old copy. With EQ_OFF 0 the board has no table. -/
def State.eqLoad (s : State) : State :=
  let a := (s.directory.map fun d => dirWord d 0x10).getD 0
  if a = 0 then s
  else
    match s.eqHeader a with
    | none => s.raise .EQ_TABLE_BAD false 0 noInst
    | some (lims, n) =>
      let (m, v, b) := s.eqRead (a + 32) n
      { s.setFs [(LNE_GLB_EQ_STATUS_PRESENT, 1), (LNE_GLB_EQ_STATUS_VALID, v), (LNE_GLB_EQ_STATUS_BAD, b)] with
        lanes := { s.lanes with eq := m, lims := lims } }

/-- EQ_RELOAD (R316): every running lane walks to its entry. -/
def State.eqReload (s : State) : State := (List.range 144).foldl State.laneRetarget s.eqLoad

def execEqReload (m : Master) (s : State) : Host.Outcome State Fault Refusal :=
  .next (s.viaWrite m LNE_GLB_CTRL State.eqReload)

/-! ## Bins (R313) -/

/-- A sensor's reading in units of 0.25 °C, biased by 2048. -/
def State.tempQ (s : State) (n : Nat) : Nat := (s.f (PWR_TEMP_TEMP n) + 2048) % 4096

/-- The hottest valid reading of a list of sensors, biased. -/
def State.hottest (s : State) (l : List Nat) : Option Nat :=
  ((l.filter fun n => s.bit (PWR_TEMP_VALID n)).map s.tempQ).max?

/-- A limit in °C biased by 128, in the biased units of a reading. -/
def limQ (t : Nat) : Nat := 4 * t + 2048 - 512

/-- The bin of a tile at temperature q (R313): up to the highest limit reached, down by hysteresis. -/
def nextBin (lims : List Nat) (b q : Nat) : Nat → Nat
  | 0 => b
  | n + 1 =>
    let up := ([1, 2, 3].filter fun k => decide (limQ (lims.getD (k - 1) 0) ≤ q)).foldl max 0
    if b < up then up
    else if 0 < b ∧ q + 4 * lims.getD 3 0 < limQ (lims.getD (b - 1) 0) then nextBin lims (b - 1) q n
    else b

/-- The temperature of a lane tile, if any sensor is valid (R313). -/
def State.tileTemp (s : State) (t : Nat) : Option Nat :=
  match s.hottest ((List.range 16).map fun i => 16 * t + i) with
  | some q => some q
  | none => s.hottest (List.range 64)

/-- BIN_EVAL: the hub evaluates each tile; lanes of a tile whose bin changes walk (R313, R314). -/
def execBinEval (s : State) : Host.Outcome State Fault Refusal :=
  .next ((List.range 36).foldl (fun u q =>
    match s.tileTemp (quadTile q) with
    | none => u
    | some t =>
      let b := s.f (LNE_Q_STATUS_BIN q)
      let b' := nextBin s.lanes.lims b t 3
      if b' = b then u else (quadLanes q).foldl State.laneRetarget (u.setF (LNE_Q_STATUS_BIN q) b')) s)

/-- One code toward its target (signed bytes). -/
def codeStep (c t : Nat) : Nat :=
  if c = t then c else if bias8 c < bias8 t then (c + 1) % 256 else (c + 255) % 256

/-- The codes one step on: PRESET (byte 6) is no coefficient and follows at once. -/
def walkStep (c t : List Nat) : List Nat :=
  (List.range 36).map fun i => if i = 6 then t.getD i 0 else codeStep (c.getD i 0) (t.getD i 0)

/-- A PCIe lane whose link is in Recovery or equalisation waits for L0 (R314). -/
def State.walkWaits (s : State) (n : Nat) : Bool :=
  decide (n < 32 ∧ s.f (PCI_EP_STATUS_LTSSM (n / 16)) = 4)

/-- WALK_STEP: 1 µs of a walk (R314). -/
def execWalkStep (n : Nat) (s : State) : Host.Outcome State Fault Refusal :=
  .next (if !s.bit (LNE_STATUS_WALK n) ∨ s.walkWaits n then s
    else
      let t := (s.laneAt n).target
      let c := walkStep (s.laneCodes n) t
      (s.setLaneCodes n c).setF (LNE_STATUS_WALK n) (b2n (decide (c ≠ t))))

/-- A PCIe link is back in L0 (R314, R315): `tx` lists the transmitter taps that the partner asked for, by lane. -/
def State.partnerTx (s : State) (tx : List (Nat × List Nat)) : State :=
  tx.foldl (fun t x => ((t.setLaneCodes x.1 (x.2.take 5 ++ (t.laneCodes x.1).drop 5)).updLane x.1 fun y =>
    { y with partner := true, target := x.2.take 5 ++ y.target.drop 5 })) s

def execPcieLinkReturnToL0 (ep : Nat) (tx : List (Nat × List Nat)) (s : State) : Host.Outcome State Fault Refusal :=
  .next (if s.f (PCI_EP_STATUS_LTSSM ep) = 4 ∨ s.f (PCI_EP_STATUS_LTSSM ep) = 5 then (s.setF (PCI_EP_STATUS_LTSSM ep) 3).partnerTx tx else s)

/-! ## PRBS and injection (R317 to R320) -/

/-- The delays whose exclusive-or is a pattern's next bit, its order first (R317). PRBS13Q and PRBS31Q carry the bits of PRBS13 and
PRBS31, two to a Gray-coded symbol. -/
def prbsTaps (pat : Nat) : List Nat :=
  match pat % 8 with
  | 0 => [7, 6] | 1 => [9, 5] | 2 | 6 => [13, 12, 2, 1] | 3 => [15, 14] | 4 => [23, 18] | _ => [31, 28]

/-- The next bit of a pattern after the bits `hist`, newest first. -/
def prbsNext (taps : List Nat) (hist : List Bool) : Bool := taps.foldl (fun b d => b != hist.getD (d - 1) false) false

/-- What a checker reports of the bits it has judged: LOCK, whether it seeded itself again and lost LOCK, and the bits and errors
counted. -/
structure PrbsRun where
  chk : PrbsChk
  lock : Bool
  reseed : Bool
  lost : Bool
  bits : Nat
  errs : Nat
  deriving DecidableEq, Repr

/-- The checker seeds itself from the received bit `b` on. -/
def PrbsRun.seed (x : PrbsRun) (b : List Bool) : PrbsRun := { x with chk := ⟨b, 0, []⟩, lock := false, reseed := true }

/-- A received bit at a checker of pattern `taps` (R319): the seed's bits, then 128 that agree give LOCK. With LOCK every bit is
counted, and 64 wrong ones of the last 128 drop it. An all-zero seed is no state of any pattern. -/
def PrbsRun.bit (taps : List Nat) (x : PrbsRun) (b : Bool) : PrbsRun :=
  let c := x.chk
  let e := prbsNext taps c.hist
  if x.lock then
    let wrong := ((b != e) :: c.wrong).take 128
    let x := { x with bits := x.bits + 1, errs := x.errs + b2n (b != e) }
    if 64 ≤ wrong.count true then { x.seed [] with lost := true }
    else { x with chk := ⟨(e :: c.hist).take 31, 0, wrong⟩ }
  else if c.hist.length < taps.headD 0 then { x with chk := { c with hist := b :: c.hist } }
  else if b = e ∧ c.hist.any id then { x with chk := ⟨(b :: c.hist).take 31, c.run + 1, []⟩, lock := decide (128 ≤ c.run + 1) }
  else x.seed [b]

/-- The bits of a window in order; CHK_PAT takes effect at a reseed. -/
def prbsWindow (now next : List Nat) (x : PrbsRun) : List Bool → PrbsRun
  | [] => x
  | b :: t => prbsWindow now next (x.bit (if x.reseed then next else now) b) t

/-- PRBS writes to a quad that is not a tenant quad are ignored and logged, unless its lane is in TEST (R303, R318). -/
def State.prbsAllowed (s : State) (n : Nat) : Bool := tenantQuad (quadOf n) || decide (s.laneMode n = 2)

/-- A 48-bit saturating counter held in a LO and a HI register. -/
def State.count48 (s : State) (lo hi : Fld) (n : Nat) : State :=
  let v := min (s.f lo + s.f hi * 2 ^ 32 + n) (2 ^ 48 - 1)
  s.setFs [(lo, v), (hi, v / 2 ^ 32)]

def State.prbsCount (s : State) (n bits errs : Nat) : State :=
  (s.count48 (LNE_PRBS_BITS_LO_COUNT n) (LNE_PRBS_BITS_HI_COUNT n) bits).count48
    (LNE_PRBS_ERRS_LO_COUNT n) (LNE_PRBS_ERRS_HI_COUNT n) errs

def State.prbsClr (s : State) (m : Master) (n : Nat) : State :=
  if s.prbsAllowed n then
    s.setFs [(LNE_PRBS_ERRS_LO_COUNT n, 0), (LNE_PRBS_ERRS_HI_COUNT n, 0), (LNE_PRBS_BITS_LO_COUNT n, 0),
      (LNE_PRBS_BITS_HI_COUNT n, 0)]
  else s.dropWrite m .badCode (LNE_PRBS_CTRL n)

def execPrbsClr (m : Master) (n : Nat) (s : State) : Host.Outcome State Fault Refusal :=
  .next (s.viaWrite m (LNE_PRBS_CTRL n) fun s => s.prbsClr m n)

/-- What the checker of lane n makes of a window of received bits. -/
def State.prbsJudge (s : State) (n : Nat) (w : List Bool) : PrbsRun :=
  prbsWindow (prbsTaps (s.eff (LNE_PRBS_CTRL_CHK_PAT n))) (prbsTaps (s.f (LNE_PRBS_CTRL_CHK_PAT n)))
    ⟨(s.laneAt n).chk, s.bit (LNE_PRBS_STATUS_LOCK n), false, false, 0, 0⟩ w

/-- A lane in TEST mode receives the bits `w` (R318, R319). -/
def State.prbsSee (s : State) (n : Nat) (w : List Bool) : State :=
  if s.laneMode n ≠ 2 then s
  else
    let r := s.prbsJudge n w
    let s := ((s.updLane n fun x => { x with chk := r.chk }).prbsCount n r.bits r.errs).setF (LNE_PRBS_STATUS_LOCK n) (b2n r.lock)
    let s := if r.lost then s.setF (LNE_PRBS_STATUS_LOST n) 1 else s
    if r.reseed then s.applyLive (LNE_PRBS_CTRL_CHK_PAT n) else s

/-- PRBS_LOCK: `w` are received bits, the last of which may be the 128th that agrees. -/
def execPrbsLock (n : Nat) (w : List Bool) (s : State) : Host.Outcome State Fault Refusal := .next (s.prbsSee n w)

/-- PRBS_LOCK_LOSS: `w` are received bits, the last of which may be the 64th wrong one of 128. -/
def execPrbsLockLoss (n : Nat) (w : List Bool) (s : State) : Host.Outcome State Fault Refusal := .next (s.prbsSee n w)

/-- LNE_INJ.GO (R320). -/
def State.injGo (s : State) (n : Nat) : State :=
  let md := s.f (LNE_INJ_INJ_MODE n)
  let k := s.f (LNE_INJ_INJ_N n)
  if s.laneMode n = 0 then s
  else if s.laneMode n = 1 ∧ !tenantQuad (quadOf n) then s.busy (LNE_STATUS_FIELD_BUSY n)
  else
    match md with
    | 0 => s.updLane n fun x => { x with inj := none }
    | 1 => { s with out := s.out ++ [.laneFlip n 1] }
    | 2 => { s with out := s.out ++ [.laneFlip n k] }
    | _ => s.updLane n fun x => { x with inj := some k }

def execInjGo (m : Master) (n : Nat) (s : State) : Host.Outcome State Fault Refusal :=
  .next (s.viaWrite m (LNE_INJ n) fun s => s.injGo n)

/-! ## Bit slip (R321) -/

/-- SLIP. -/
def State.slip (s : State) (m : Master) (n : Nat) : State :=
  if !tenantQuad (quadOf n) ∨ !rawRate (s.quadRate (quadOf n)) then s.dropWrite m .badCode (LNE_SLIP n)
  else if !s.bit (LNE_SLIP_SLIP_DONE n) then s.busy (LNE_STATUS_FIELD_BUSY n)
  else s.setF (LNE_SLIP_SLIP_DONE n) 0

def execSlip (m : Master) (n : Nat) (s : State) : Host.Outcome State Fault Refusal :=
  .next (s.viaWrite m (LNE_SLIP n) fun s => s.slip m n)

/-- The slip is complete: 64 positions for NRZ, 32 for PAM4. -/
def execSlipEnd (n : Nat) (s : State) : Host.Outcome State Fault Refusal :=
  .next (if s.bit (LNE_SLIP_SLIP_DONE n) then s
    else
      let np := if s.quadRate (quadOf n) = 7 then 32 else 64
      s.setFs [(LNE_SLIP_POS n, (s.f (LNE_SLIP_POS n) + 1) % np), (LNE_SLIP_SLIP_DONE n, 1)])

/-- SNAP arms a capture. -/
def State.snap (s : State) (n : Nat) : State :=
  (s.setF (LNE_SLIP_SNAP_VALID n) 0).updLane n fun x => { x with snap := true }

def execSnap (m : Master) (n : Nat) (s : State) : Host.Outcome State Fault Refusal :=
  .next (s.viaWrite m (LNE_SLIP n) fun s => s.snap n)

/-- The next complete word after an armed SNAP, never during a slip (R329), is captured and still delivered. -/
def execSnapCapture (n w : Nat) (s : State) : Host.Outcome State Fault Refusal :=
  .next (if (s.laneAt n).snap ∧ s.bit (LNE_SLIP_SLIP_DONE n) ∧ s.laneMode n = 1 ∧ rawRate (s.quadRate (quadOf n)) then
      ((s.updLane n fun x => { x with snap := false }).setFs [(LNE_RX_SNAP_LO_WORD n, w),
        (LNE_RX_SNAP_HI_WORD n, w / 2 ^ 32), (LNE_SLIP_SNAP_VALID n, 1)]).laneRx n 0 (leBytes 8 w)
    else s)

end Sys2Proof.Machine
end

