-- ==== Sys2Proof/Machine/Sec.lean ====
section
/-! DEFINITION. The scrubber (11 R281, R282), the key slots (R283 to R286, R295 to R297) and the memory-encryption engines
(R287 to R294, R298 to R300). -/

namespace Sys2Proof.Machine
open Sys2Proof.Machine.Reg

/-! ## Scrubber -/

/-- End a pass (R282): DONE is set and SCRUB_DONE raised. -/
def State.scrubDone (s : State) (err : Nat) : State :=
  (s.setFs [(ECC_SCRUB_STATUS_BUSY, 0), (ECC_SCRUB_STATUS_DONE, 1), (ECC_SCRUB_STATUS_ERR, err)]).raise
    .SCRUB_DONE false 0 noInst

/-- GO (R281, R282): refused with RANGE, ignored while BUSY, or the summary is cleared and a pass starts. -/
def State.scrubGo (s : State) : State :=
  let b := s.f ECC_SCRUB_BASE_UNITS * 4096
  let n := s.f ECC_SCRUB_LEN_UNITS * 4096
  if s.bit ECC_SCRUB_STATUS_BUSY then s.busy ECC_SCRUB_STATUS_FIELD_BUSY
  else if n = 0 ∨ 0x2400000000 < b + n then s.setF ECC_SCRUB_STATUS_ERR 1
  else
    let s := s.setFs [(ECC_SCRUB_COUNT_CE, 0), (ECC_SCRUB_COUNT_UE, 0), (ECC_SCRUB_FIRST_LO_ADDR, 0),
      (ECC_SCRUB_FIRST_HI_ADDR, 0), (ECC_SCRUB_LAST_LO_ADDR, 0), (ECC_SCRUB_LAST_HI_ADDR, 0),
      (ECC_SCRUB_STATUS_SKIPPED, 0), (ECC_SCRUB_STATUS_ERR, 0), (ECC_SCRUB_STATUS_BUSY, 1)]
    { s with ecc := { s.ecc with scrubPos := b, scrubEnd := b + n } }

def execScrubGo (m : Master) (s : State) : Host.Outcome State Fault Refusal :=
  .next (s.viaWrite m ECC_SCRUB_CTRL State.scrubGo)

/-- ABORT ends a running pass with ERR ABORTED at the next word (R281, R282). -/
def State.scrubAbort (s : State) : State := if s.bit ECC_SCRUB_STATUS_BUSY then s.scrubDone 2 else s

def execScrubAbort (m : Master) (s : State) : Host.Outcome State Fault Refusal :=
  .next (s.viaWrite m ECC_SCRUB_CTRL State.scrubAbort)

/-- Note a failing word in the summary (R282). -/
def State.scrubSee (s : State) (a : Nat) (ue : Bool) : State :=
  let first := s.f ECC_SCRUB_COUNT_CE = 0 ∧ s.f ECC_SCRUB_COUNT_UE = 0
  let s := s.count (if ue then ECC_SCRUB_COUNT_UE else ECC_SCRUB_COUNT_CE) 1
  let s := if first then s.setFs [(ECC_SCRUB_FIRST_LO_ADDR, a), (ECC_SCRUB_FIRST_HI_ADDR, a / 2 ^ 32)] else s
  s.setFs [(ECC_SCRUB_LAST_LO_ADDR, a), (ECC_SCRUB_LAST_HI_ADDR, a / 2 ^ 32)]

/-- A word is read and checked by its controller (R277): counted, and corrected in storage when it can be. -/
def State.checkWord (s : State) (a : Nat) : State :=
  let l := s.wordBad a
  let s := s.pcSeeErr (s.pcOf a) a l
  if l.length = 1 then s.setWordBad a [] else s

/-- The scrubber reads its next word (R281): a unit in a REELED or FAULT controller is skipped, a sleeping controller
woken. -/
def execScrubWord (s : State) : Host.Outcome State Fault Refusal :=
  let a := s.ecc.scrubPos
  let n := s.pcOf a
  let st := s.pcState n
  .next (if !s.bit ECC_SCRUB_STATUS_BUSY ∨ s.ecc.scrubEnd ≤ a then s
    else if st = 2 ∨ st = 7 then
      { s.count ECC_SCRUB_STATUS_SKIPPED 1 with ecc := { s.ecc with scrubPos := (a / 4096 + 1) * 4096 } }
    else if st = 4 then s.pcWake n
    else if st ≠ 1 then s
    else
      let s := s.unitRead ⟨noNode, nodeAt 27 5, opcRead, 0, 0, a, 31, 0, 0, 0, false, 0, false, 0, [], []⟩ a 32   -- on port 7
      let l := s.wordBad a
      let s := s.checkWord a
      let s := if l.isEmpty then s else s.scrubSee a (decide (2 ≤ l.length))
      { s with ecc := { s.ecc with scrubPos := a + 32 } })

/-- The pass ends after its last word (R282). -/
def execScrubPassEnd (s : State) : Host.Outcome State Fault Refusal :=
  .next (if s.bit ECC_SCRUB_STATUS_BUSY ∧ s.ecc.scrubEnd ≤ s.ecc.scrubPos then s.scrubDone 0 else s)

/-! ## Key slots -/

def State.updSec (s : State) (g : Sec → Sec) : State := { s with sec := g s.sec }

/-- STATE of a slot (R295): 0 EMPTY, 1 INIT, 2 ACTIVE, 3 QUARANTINED, 4 FATAL, 5 FLUSHING. -/
def State.ksState (s : State) (k : Nat) : Nat := s.f (SEC_K_STATUS_STATE k)
def State.setKs (s : State) (k v : Nat) : State := s.setF (SEC_K_STATUS_STATE k) v

/-- Slots in INIT. -/
def State.ksIniting (s : State) : List Nat := (List.range 64).filter fun k => decide (s.ksState k = 1)

/-- A SEC_KEYLOAD write or INSTALL while a slot is in INIT: FIELD_BUSY in every slot in INIT (R300). -/
def State.ksBusyAll (s : State) : State := s.ksIniting.foldl (fun t k => t.busy (SEC_K_STATUS_FIELD_BUSY k)) s

/-- A write of SEC_KEYLOAD_Wj (R285, R301). -/
def State.keyload (s : State) (j v : Nat) : State :=
  if s.ksIniting.isEmpty then
    (s.setF (SEC_KEYLOAD_KEY j) v).updSec fun c =>
      { c with loaded := if c.loaded.contains j then c.loaded else c.loaded ++ [j] }
  else s.ksBusyAll

/-- The reason for which INSTALL is refused, 0 none (R285). -/
def State.installErr (s : State) (k : Nat) : Nat :=
  let l := s.f (SEC_K_CTRL_LEASE k)
  let r := s.slotRange k
  let others := (List.range 64).filter fun j => decide (j ≠ k ∧ s.ksState j ≠ 0)
  if s.ksState k ≠ 0 then 1
  else if l = 0 ∨ (s.leaseRegion l).isNone then 2
  else if others.any (fun j => decide (s.f (SEC_K_CTRL_LEASE j) = l)) then 3
  else if r.2 = 0 ∨ 0x2400000000 < r.1 + r.2 ∨ !inWindow (s.window l) r.1 r.2 ∨ s.goldHit r.1 r.2
      ∨ (s.f DMC_GLB_CTRL_MAP = 0 ∧ r.1 < 0x1200000000 ∧ 0x1200000000 < r.1 + r.2) then 4
  else if others.any (fun j => overlaps r.1 r.2 (s.slotRange j).1 (s.slotRange j).2) then 5
  else if s.sec.loaded.length < 24 then 6
  else 0

/-- Key bytes of a slot: word 0 holds bytes 0 to 3, lowest first. -/
def State.keyWords (s : State) : List Nat := (List.range 24).map fun j => s.f (SEC_KEYLOAD_KEY j)

/-- INSTALL (R285, R286, R300). -/
def State.ksInstall (s : State) (k : Nat) : State :=
  if !s.ksIniting.isEmpty then s.ksBusyAll
  else
    let e := s.installErr k
    let s := s.setF (SEC_K_STATUS_ERR k) e
    if e ≠ 0 then s
    else
      let ws := s.keyWords
      let s := s.updSec fun c => { c with loaded := [], keys := SMap.put (fun _ => []) c.keys k ws }
      let s := (List.range 24).foldl (fun t j => t.setF (SEC_KEYLOAD_KEY j) 0) s
      (s.setF (SEC_K_STATUS_CTR_WARN k) 0).setKs k 1

def execKsInstall (m : Master) (k : Nat) (s : State) : Host.Outcome State Fault Refusal :=
  .next (s.viaWrite m (SEC_K_CTRL k) fun s => s.ksInstall k)

/-- Remove every entry of a slot from a table by granule. -/
def dropSlot {α : Type} (k : Nat) (m : SMap α) : SMap α := m.filter fun e => decide (e.1 / 2 ^ 32 ≠ k)

/-- The metadata writes of INIT end: every counter of the slot is 0, and it is ACTIVE (R286), or FLUSHING when its lease
has ended meanwhile (R300). -/
def execKsInitEnd (k : Nat) (s : State) : Host.Outcome State Fault Refusal :=
  .next (if s.ksState k = 1 then
      let s := s.updSec fun c => { c with
        ctr := dropSlot k c.ctr, mac := dropSlot k c.mac, below := SMap.put (fun _ => []) c.below k [] }
      s.setKs k (if (s.leaseRegion (s.f (SEC_K_CTRL_LEASE k))).isSome then 2 else 5)
    else s)

/-- RETIRE (R295, R296). -/
def State.ksRetire (s : State) (k : Nat) : State :=
  let st := s.ksState k
  if st = 2 ∨ st = 3 ∨ st = 4 then (s.setF (SEC_K_STATUS_ERR k) 0).setKs k 5
  else s.setF (SEC_K_STATUS_ERR k) 1

def execKsRetire (m : Master) (k : Nat) (s : State) : Host.Outcome State Fault Refusal :=
  .next (s.viaWrite m (SEC_K_CTRL k) fun s => s.ksRetire k)

/-- Slots whose lease no region holds any longer are retired (R297). -/
def State.ksOrphans (s : State) : State :=
  (List.range 64).foldl (fun t k =>
    let st := t.ksState k
    if (st = 2 ∨ st = 3 ∨ st = 4) ∧ (t.leaseRegion (t.f (SEC_K_CTRL_LEASE k))).isNone then t.setKs k 5 else t) s

/-- The flush completes once the slot's accepted requests are verified: root copies and key words are cleared (R296). -/
def execKsFlushEnd (k : Nat) (s : State) : Host.Outcome State Fault Refusal :=
  .next (if s.ksState k = 5 ∧ !s.sec.pend.any (fun q => q.k = k) then
      (s.updSec fun c => { c with keys := SMap.put (fun _ => []) c.keys k [] }).setKs k 0
    else s)

/-- RESUME (R295). -/
def State.ksResume (s : State) (k : Nat) : State :=
  if s.ksState k = 3 then (s.setF (SEC_K_STATUS_ERR k) 0).setKs k 2 else s.setF (SEC_K_STATUS_ERR k) 1

def execKsResume (m : Master) (k : Nat) (s : State) : Host.Outcome State Fault Refusal :=
  .next (s.viaWrite m (SEC_K_CTRL k) fun s => s.ksResume k)

/-! ## Ciphertext, MAC, counters -/

/-- The MAC value that marks a poisoned granule (R289). -/
def poisonMac : Nat := 2 ^ 64 - 1

def State.keyBytes (s : State) (k : Nat) : List Nat :=
  (SMap.get (fun _ => []) s.sec.keys k).flatMap (Crypto.leBytesN 4)

def granKey (k g : Nat) : Nat := k * 2 ^ 32 + g
def State.granCtr (s : State) (k g : Nat) : Nat := nget s.sec.ctr (granKey k g)
def State.granMac (s : State) (k g : Nat) : Nat := nget s.sec.mac (granKey k g)
def State.setGranMac (s : State) (k g v : Nat) : State := s.updSec fun c => { c with mac := nput c.mac (granKey k g) v }
def State.setGranCtr (s : State) (k g v : Nat) : State := s.updSec fun c => { c with ctr := nput c.ctr (granKey k g) v }

/-- Byte address of granule g of a slot. -/
def State.granAddr (s : State) (k g : Nat) : Nat := (s.slotRange k).1 + 256 * g

/-- The granule's stored MAC is POISON_MAC, or a node above it failed (R289, R292). -/
def State.poisoned (s : State) (k g : Nat) : Bool :=
  decide (s.granMac k g = poisonMac) ||
    (SMap.get (fun _ => []) s.sec.below k).any fun r => decide (r.1 ≤ g ∧ g < r.1 + r.2)

/-- LBN_BASE of a slot (R287). -/
def State.lbnBase (s : State) (k : Nat) : Nat := s.f (SEC_K_LBN_LO_LBN k) + s.f (SEC_K_LBN_HI_LBN k) % 16 * 2 ^ 32

/-- Encrypt the plaintext of granule g (R287). -/
def State.granEnc (s : State) (k g : Nat) (pt : List Byte) : List Byte :=
  let key := s.keyBytes k
  Crypto.bytesOf (((Crypto.chunks 16 16 (Crypto.nums pt)).mapIdx fun j b =>
    Crypto.xtsEncBlock (key.take 32) ((key.drop 32).take 32) (s.lbnBase k + g / 16) (16 * (g % 16) + j) b).flatten)

/-- Decrypt the ciphertext of granule g (R287). -/
def State.granDec (s : State) (k g : Nat) (ct : List Byte) : List Byte :=
  let key := s.keyBytes k
  Crypto.bytesOf (((Crypto.chunks 16 16 (Crypto.nums ct)).mapIdx fun j b =>
    Crypto.xtsDecBlock (key.take 32) ((key.drop 32).take 32) (s.lbnBase k + g / 16) (16 * (g % 16) + j) b).flatten)

/-- The IV of a granule's MAC: LGN and counter, little-endian (R288). -/
def granIv (lgn ctr : Nat) : List Nat := Crypto.leBytesN 5 lgn ++ Crypto.leBytesN 7 ctr

/-- The MAC of granule g with ciphertext ct and counter ctr: the first 8 bytes of the GCM tag, lowest first (R288). -/
def State.granTag (s : State) (k g ctr : Nat) (ct : List Byte) : Nat :=
  let lgn := (s.lbnBase k + g / 16) * 16 + g % 16
  Crypto.leNum ((Crypto.gcmTag ((s.keyBytes k).drop 64) (granIv lgn ctr) (Crypto.nums ct) []).take 8)

/-- The counter and MAC of a new ciphertext, from counter c on: a MAC equal to POISON_MAC advances the counter again
(R289). -/
def State.newTag (s : State) (k g : Nat) (ct : List Byte) : Nat → Nat → Nat × Nat
  | 0, c => (c, s.granTag k g c ct)
  | n + 1, c => if s.granTag k g c ct = poisonMac then s.newTag k g ct n (c + 1) else (c, s.granTag k g c ct)

/-! ## Log and failures -/

/-- Show the oldest entry of an engine's log (R301). -/
def State.secShow (s : State) (e : Nat) : State :=
  match SMap.get (fun _ => []) s.sec.log e with
  | [] => s.setFs [(SEC_LOG_ADDR_ADDR e, 0), (SEC_LOG_INFO_VALID e, 0), (SEC_LOG_INFO_LOST e, 0),
      (SEC_LOG_INFO_KIND e, 0), (SEC_LOG_INFO_KEY e, 0), (SEC_LOG_INFO_SRC e, 0), (SEC_LOG_INFO_TAG e, 0)]
  | x :: _ => s.setFs [(SEC_LOG_ADDR_ADDR e, x.addr), (SEC_LOG_INFO_VALID e, 1), (SEC_LOG_INFO_LOST e, b2n x.lost),
      (SEC_LOG_INFO_KIND e, x.kind), (SEC_LOG_INFO_KEY e, x.key), (SEC_LOG_INFO_SRC e, x.src), (SEC_LOG_INFO_TAG e, x.tag)]

/-- Add an entry to an engine's 16-entry log; a full log loses it and marks the next (R301). -/
def State.secLog (s : State) (e addr kind k src tag : Nat) : State :=
  let l := SMap.get (fun _ => []) s.sec.log e
  if l.length < 16 then
    let x : SecEnt := ⟨addr, kind, k, src, tag, SMap.get (fun _ => false) s.sec.lost e⟩
    (s.updSec fun c => { c with
      log := SMap.put (fun _ => []) c.log e (l ++ [x]), lost := SMap.put (fun _ => false) c.lost e false }).secShow e
  else s.updSec fun c => { c with lost := SMap.put (fun _ => false) c.lost e true }

/-- A read of SEC_LOG_INFO removes the entry shown (R301). -/
def State.secPop (s : State) (e : Nat) : State :=
  (s.updSec fun c => { c with log := SMap.put (fun _ => []) c.log e ((SMap.get (fun _ => []) c.log e).drop 1) }).secShow e

/-- The slot becomes FATAL: only from ACTIVE or QUARANTINED (R295, R300). -/
def State.ksFatal (s : State) (k : Nat) : State :=
  if s.ksState k = 2 ∨ s.ksState k = 3 then s.setKs k 4 else s

/-- KD_FATAL for the slot's lease (R298, R299). -/
def State.kdFatal (s : State) (k : Nat) : State :=
  (s.ksFatal k).raise .KD_FATAL true (s.f (SEC_K_CTRL_LEASE k)) k

/-- A late alarm: logged, counted and reported (R293). -/
def State.lateAlarm (s : State) (e addr kind k src tag : Nat) : State :=
  ((s.secLog e addr kind k src tag).count (SEC_K_STATUS_AUTHFAIL k) 1).raise .MEM_AUTH_FAIL true
    (s.f (SEC_K_CTRL_LEASE k)) k

/-- Every granule below the node of level lv above granule g is treated as poisoned (R292, R299). -/
def State.poisonBelow (s : State) (k g lv : Nat) : State :=
  let n := 8 ^ (lv + 1)
  s.updSec fun c => { c with
    below := SMap.put (fun _ => []) c.below k (SMap.get (fun _ => []) c.below k ++ [(g / n * n, n)]) }

/-- Macros of the two root copies in hub SRAM, and the row of a slot's root of an engine. -/
def rootMacro (b : Nat) : Nat := 3 * 2 ^ 16 + 5 + b
def rootRow (e k : Nat) : Nat := 64 * e + k

/-- The root of a slot is read (R299): one bad copy is rewritten from the other, two make the slot FATAL. The flag tells
that the walk holds. -/
def State.rootCheck (s : State) (e k src tag : Nat) : State × Bool :=
  let bad := fun (b : Nat) => decide (s.eccErr (rootMacro b) (rootRow e k) = 2)
  match bad 0, bad 1 with
  | false, false => (s, true)
  | true, true => ((s.secLog e (s.free 32) 2 k src tag).freeNext.kdFatal k, false)
  | a, _ => ((s.setBadBits (rootMacro (if a then 0 else 1)) (rootRow e k) []).raise .KD_ROOT_REPAIR false 0 noInst, true)

/-- The outcome of a tree walk for granule g of slot k (R292, R299): the state, and whether the walk holds. -/
def State.treeOut (s : State) (e k g src tag : Nat) (t : TreeRes) : State × Bool :=
  match t with
  | .good false | .cleanUe => (s, true)
  | .good true => s.rootCheck e k src tag
  | .nodeMac lv =>
    let a := s.free 32
    (((s.freeNext.poisonBelow k g lv).ksFatal k).lateAlarm e a 1 k src tag, false)
  | .nodeUe lv =>
    let a := s.free 32
    (((s.freeNext.poisonBelow k g lv).secLog e a 2 k src tag).kdFatal k, false)
  | .dirtyUe lv =>
    let a := s.free 32
    (((s.freeNext.poisonBelow k g lv).secLog e a 3 k src tag).kdFatal k, false)
  | .macUe => ((List.range 4).foldl (fun u i => u.setGranMac k (g / 4 * 4 + i) poisonMac) s, false)

/-- A granule MAC differs (R292, R293). -/
def State.macFail (s : State) (e k g src tag : Nat) : State :=
  let s := s.setGranMac k g poisonMac
  let s := if s.ksState k = 2 then s.setKs k 3 else s
  s.lateAlarm e (s.granAddr k g / 256) 0 k src tag

/-! ## Reads -/

/-- Granules of a slot that a request touches. -/
def State.granules (s : State) (p : Packet) : List Nat :=
  let o := p.addr - (s.slotRange p.key).1
  (List.range ((o + p.bcnt) / 256 + 1 - o / 256)).map fun i => o / 256 + i

/-- Two requests meet in a granule. -/
def sharesGranule (p q : Packet) : Bool := decide (p.addr / 256 ≤ (q.addr + q.bcnt) / 256 ∧ q.addr / 256 ≤ (p.addr + p.bcnt) / 256)

/-- The first request of opcode `opc` for an engine that no earlier request and no read awaiting verification holds back
(R294). -/
def State.encPick (s : State) (e opc : Nat) : List Packet → List Packet → Option Packet
  | _, [] => none
  | seen, p :: t =>
    if p.dst ≠ encNode e then s.encPick e opc seen t
    else if p.opc = opc ∧ !seen.any (sharesGranule p) ∧ !s.sec.pend.any (fun q => sharesGranule p q.p) then some p
    else s.encPick e opc (seen ++ [p]) t

def State.encTake (s : State) (p : Packet) : State :=
  s.updNoc fun n => { n with inbox := dropFirst (fun q => decide (q = p)) n.inbox }

/-- The status with which a slot answers every request now, if it does (R286, R293, R295). -/
def State.encClosed (s : State) (k : Nat) (rd : Bool) : Option Nat :=
  match s.ksState k with
  | 2 => none
  | 3 | 4 => some (if rd then stPoison else stErr)
  | _ => some stErr

/-- The request that an engine forwards to the controller of address `a`: a whole granule, on the VC on which the tenant's request
arrived (R291, 10 R249). -/
def State.encForward (s : State) (e : Nat) (p : Packet) (a : Nat) : Packet :=
  { p with src := encNode e, dst := pcNode (s.pcOf a), addr := a, bcnt := 255, kv := false, key := 0 }

/-- The controller of a granule reads it for an engine (R277, R278, R291): the state, the ciphertext, and whether it came
back POISON. -/
def State.encFetch (s : State) (e : Nat) (p : Packet) (a : Nat) : State × List Byte × Bool :=
  let n := s.pcOf a
  let lease := p.lease
  let s := if s.pcState n = 4 then s.pcWake n else s
  let s := s.unitRead (s.encForward e p a) a 256
  let bad := s.hbmBadRange a 256
  let s := (List.range 8).foldl (fun t i => t.checkWord (a + 32 * i)) s
  (if bad then s.hbmUe n lease else s, s.bytes a 256, bad)

/-- Read the granules of a request: plaintext, the granules to verify, and whether one is poisoned (R289, R291). -/
def State.encReadAll (s : State) (e : Nat) (p : Packet) : List Nat → State × List Byte × List EncGran × Bool
  | [] => (s, [], [], false)
  | g :: t =>
    let c := s.granCtr p.key g
    let r := s.encFetch e p (s.granAddr p.key g)
    let s := r.1
    let bad := s.poisoned p.key g || (decide (c ≠ 0) && r.2.2)
    let pt := if c = 0 then List.replicate 256 0 else s.granDec p.key g r.2.1
    let x : EncGran := ⟨g, r.2.1, c, s.granMac p.key g⟩
    let q := s.encReadAll e p t
    (q.1, pt ++ q.2.1, x :: q.2.2.1, bad || q.2.2.2)

/-- A refusal by a controller that one of the granules needs (R247), or of a read by its fenced port (10 R254). -/
def State.encPcRefusal (s : State) (e : Nat) (p : Packet) (rd : Bool) : Option Nat :=
  ((s.granules p).filterMap fun g =>
    let a := s.granAddr p.key g
    let n := s.pcOf a
    match s.pcRefusal n with
    | some st => some st
    | none => if rd ∧ (s.arb (.pc n)).fenced.contains (pcPort (s.encForward e p a)) then some stFenced else none).head?

/-- The granules of a READ, once its slot and controllers take it (R289, R291). -/
def State.encReadGo (s : State) (e : Nat) (p : Packet) : State :=
  let r := s.encReadAll e p (s.granules p)
  let s := r.1
  let o := p.addr - s.granAddr p.key ((p.addr - (s.slotRange p.key).1) / 256)
  let d := (r.2.1.drop o).take (p.bcnt + 1)
  if r.2.2.2 then s.respond p stPoison []
  else
    let waits := s.bit (SEC_K_XP_SPEC_OFF p.key)
    let s := if waits then s else s.respond p stOk d
    s.updSec fun c => { c with pend := c.pend ++ [⟨e, p, p.key, r.2.2.1, waits, d, false⟩] }

/-- A request that the slot or a controller refuses is answered so; otherwise `go`. -/
def State.encCheck (s : State) (e : Nat) (p : Packet) (rd : Bool) (go : State → State) : State :=
  match s.encClosed p.key rd with
  | some st => s.respond p st []
  | none =>
    match s.encPcRefusal e p rd with
    | some st => s.respond p st []
    | none => go s

/-- ENC_READ: an engine serves its next READ (R289, R291): plaintext leaves before verification, unless SPEC_OFF is
set. -/
def execEncRead (e : Nat) (s : State) : Host.Outcome State Fault Refusal :=
  .next (match s.encPick e opcRead [] s.noc.inbox with
    | none => s
    | some p => (s.encTake p).encCheck e p true fun s => s.encReadGo e p)

/-- Verify one granule (R288, R292): the state and whether it holds. A counter of 0 has no MAC (R289). -/
def State.verify (s : State) (e : Nat) (p : Packet) (x : EncGran) (t : TreeRes) : State × Bool :=
  let r := s.treeOut e p.key x.g p.src p.tag t
  if !r.2 then r
  else if x.ctr = 0 ∨ s.granTag p.key x.g x.ctr x.ct = x.mac then r
  else (r.1.macFail e p.key x.g p.src p.tag, false)

/-- Replace or drop the first entry of a pending list that belongs to an engine. -/
def replPend (e : Nat) (q : Option EncPend) : List EncPend → List EncPend
  | [] => []
  | h :: t => if h.eng = e then (match q with | some x => x :: t | none => t) else h :: replPend e q t

/-- ENC_VERIFY_END: the verification of the oldest granule due at an engine ends (R292, R293). A response that waited
leaves when its last granule is verified (R291). -/
def execEncVerifyEnd (e : Nat) (t : TreeRes) (s : State) : Host.Outcome State Fault Refusal :=
  .next (match s.sec.pend.find? (fun q => q.eng = e) with
    | none => s
    | some q =>
      match q.grans with
      | [] => s.updSec fun c => { c with pend := replPend e none c.pend }
      | x :: rest =>
        let r := s.verify e q.p x t
        let failed := q.failed || !r.2
        if rest.isEmpty then
          let s := r.1.updSec fun c => { c with pend := replPend e none c.pend }
          if q.waits then s.respond q.p (if failed then stPoison else stOk) (if failed then [] else q.data) else s
        else r.1.updSec fun c => { c with pend := replPend e (some { q with grans := rest, failed := failed }) c.pend })

/-! ## Writes -/

/-- A counter of a slot has advanced to c (R298): the warning once for each INSTALL, the end makes the slot FATAL. -/
def State.ctrSeen (s : State) (k c : Nat) : State :=
  let s := if 0x00FF000000000000 < c ∧ !s.bit (SEC_K_STATUS_CTR_WARN k) then
      (s.setF (SEC_K_STATUS_CTR_WARN k) 1).raise .KD_COUNTER_WARN true (s.f (SEC_K_CTRL_LEASE k)) k
    else s
  if 2 ^ 56 - 1 ≤ c then s.kdFatal k else s

/-- Data and enables of a write inside one granule (base address a): per byte, the new value if it is written. -/
def granBytes (p : Packet) (a : Nat) : List (Option Byte) :=
  (List.range 256).map fun i =>
    if p.addr ≤ a + i ∧ a + i ≤ p.addr + p.bcnt then
      let j := a + i - p.addr
      if (p.be[j]?).getD true then some ((p.data[j]?).getD 0) else none
    else none

/-- Write the ciphertext, counter and MAC of a granule (R294). -/
def State.granPut (s : State) (e : Nat) (p : Packet) (g : Nat) (pt : List Byte) : State :=
  let k := p.key
  let a := s.granAddr k g
  let ct := s.granEnc k g pt
  let r := s.newTag k g ct 4 (s.granCtr k g + 1)
  (((s.unitWrite (s.encForward e p a) a ct).setGranCtr k g r.1).setGranMac k g r.2).ctrSeen k r.1

/-- Write one granule of a request (R294): the state and whether it was written. -/
def State.encWriteGran (s : State) (e : Nat) (p : Packet) (g : Nat) (t : TreeRes) : State × Bool :=
  let k := p.key
  let a := s.granAddr k g
  let new := granBytes p a
  if new.all Option.isSome then
    match t with
    | .macUe =>
      let r := s.treeOut e k g p.src p.tag t
      (r.1.granPut e p g (new.map fun b => b.getD 0), true)
    | _ =>
      let r := s.treeOut e k g p.src p.tag t
      if r.2 then (r.1.granPut e p g (new.map fun b => b.getD 0), true) else (r.1, false)
  else if s.poisoned k g then (s, false)
  else
    let c := s.granCtr k g
    let f := s.encFetch e p a
    if c ≠ 0 ∧ f.2.2 then (f.1, false)
    else
      let s := f.1
      let x : EncGran := ⟨g, f.2.1, c, s.granMac k g⟩
      let r := s.verify e p x t
      if !r.2 then r
      else
        let old := if c = 0 then List.replicate 256 0 else r.1.granDec k g f.2.1
        (r.1.granPut e p g (new.mapIdx fun i b => b.getD ((old[i]?).getD 0)), true)

def State.encWriteAll (s : State) (e : Nat) (p : Packet) (t : TreeRes) : List Nat → State × Bool
  | [] => (s, true)
  | g :: l =>
    let r := s.encWriteGran e p g t
    let q := r.1.encWriteAll e p t l
    (q.1, r.2 && q.2)

/-- The granules of a WRITE, once its slot and controllers take it; `inner` is the greatest inner counter seen. -/
def State.encWriteGo (s : State) (e : Nat) (p : Packet) (t : TreeRes) (inner : Nat) : State :=
  let r := s.encWriteAll e p t (s.granules p)
  let s := if inner = 0 then r.1 else r.1.ctrSeen p.key inner
  s.respond p (if r.2 then stOk else stErr) []

/-- ENC_WRITE: an engine serves its next WRITE (R294). `t` is what the counter tree gives; `inner` is the highest
inner-node counter that the cache's write-backs advance now (0 none, R290, R298). -/
def execEncWrite (e : Nat) (t : TreeRes) (inner : Nat) (s : State) : Host.Outcome State Fault Refusal :=
  .next (match s.encPick e opcWrite [] s.noc.inbox with
    | none => s
    | some p => (s.encTake p).encCheck e p false fun s => s.encWriteGo e p t inner)

end Sys2Proof.Machine
end

