-- ==== Sys2Proof/Machine/Rgn.lean ====
section
/-! DEFINITION. Regions and their envelopes (01 R21, R22; 02 R35, R36, R50 to R58): the close and the open, seams, serial
ports at the envelope, route entries' ends (05 R134), the contents of a region's registers and RAM blocks, and the
operations by which other parts move a region. -/

namespace Sys2Proof.Machine
open Reg

def State.updRgn (s : State) (r : Nat) (g : Rgn → Rgn) : State :=
  { s with rgn := SMap.put (fun _ => Rgn.empty) s.rgn r (g (s.rgnAt r)) }

/-- HUB_RGN_STATEr.STATE (R21): 0 FREE, 1 LOADING, 2 ACTIVE, 3 PAUSED, 4 LOST, 5 CLEARING. -/
def State.rState (s : State) (r : Nat) : Nat := s.f (HUB_RGN_STATE_STATE r)
def State.setRState (s : State) (r v : Nat) : State := s.setF (HUB_RGN_STATE_STATE r) v
def State.lease (s : State) (r : Nat) : Nat := s.f (HUB_RGN_STATE_LEASE r)

/-- FAB_RGN_ENV_STATUS.STEP (R58): 0 open, 1 draining, 2 gating, 3 parked, 4 saving shadow, 5 closed, 6 opening. -/
def State.envStep (s : State) (r : Nat) : Nat := s.f (FAB_RGN_ENV_STATUS_STEP (r / 8) (r % 8))
def State.setEnvStep (s : State) (r v : Nat) : State := s.setF (FAB_RGN_ENV_STATUS_STEP (r / 8) (r % 8)) v
def State.envSrc (s : State) (r : Nat) : Nat := s.f (FAB_RGN_ENV_STATUS_SRC (r / 8) (r % 8))
def State.setEnvSrc (s : State) (r v : Nat) : State := s.setF (FAB_RGN_ENV_STATUS_SRC (r / 8) (r % 8)) v
def State.setEnvCause (s : State) (r v : Nat) : State := s.setF (FAB_RGN_ENV_STATUS_CAUSE (r / 8) (r % 8)) v

/-- A close or an open of the region's envelope is under way. -/
def State.envMoves (s : State) (r : Nat) : Bool := decide (s.envStep r ≠ 0 ∧ s.envStep r ≠ 5)

/-- Firmware has set the region to be a standby of the pair (13 R344). -/
def State.standby (s : State) (r : Nat) : Bool := decide (s.f (MIR_RGN_MODE r) = 2)

/-! ## Seams (R36) -/

/-- The region across an edge of region r: 0 north, 1 east, 2 south, 3 west (R36). -/
def seamNeighbour (r e : Nat) : Option Nat :=
  let i := r % 8
  match e with
  | 0 => if 2 ≤ i then some (r - 2) else none
  | 1 => if i % 2 = 0 then some (r + 1) else none
  | 2 => if i < 6 then some (r + 2) else none
  | 3 => if i % 2 = 1 then some (r - 1) else none
  | _ => none

/-- The part of R36 that each region of a seam meets by itself: ACTIVE or PAUSED, or in the close that begins CLEARING with
its programmed parks; SEAM_BLOCK clear. -/
def State.seamSide (s : State) (r : Nat) : Bool :=
  let st := s.rState r
  (decide (st = 2 ∨ st = 3) || (decide (st = 5) && (s.rgnAt r).pers && !(s.rgnAt r).zeroed))
    && decide (s.f (FAB_RGN_ENV_CTRL_SEAM_BLOCK (r / 8) (r % 8)) = 0)

/-- The seam between two regions is enabled (R36). -/
def State.seamOn (s : State) (r t : Nat) : Bool :=
  decide (s.lease r = s.lease t ∧ s.lease r ≠ 0) && s.seamSide r && s.seamSide t

/-- The SEAM field of a region: bit 3 north, 2 east, 1 south, 0 west. -/
def State.seamWord (s : State) (r : Nat) : Nat :=
  (List.range 4).foldl (fun n e =>
    match seamNeighbour r e with
    | some t => if s.seamOn r t then n + 2 ^ (3 - e) else n
    | none => n) 0

def State.seamSet (s : State) (r : Nat) : State := s.setF (FAB_RGN_ENV_STATUS_SEAM (r / 8) (r % 8)) (s.seamWord r)

/-- Seams are judged again after a change of region r: its own SEAM field and its neighbours'. -/
def State.seams (s : State) (r : Nat) : State :=
  (List.range 4).foldl (fun t e => match seamNeighbour r e with | some n => t.seamSet n | none => t) (s.seamSet r)

/-! ## Outward signals -/


/-- The envelope shows the personality's park values (R51): PAUSED, and the close that begins CLEARING until the parks
change to 0. PARK_ZERO replaces them with 0. -/
def State.parksShown (s : State) (r : Nat) : Bool :=
  (s.rgnAt r).pers && (decide (s.rState r = 3) || (decide (s.rState r = 5) && !(s.rgnAt r).zeroed))
    && decide (s.eff (FAB_RGN_ENV_CTRL_PARK_ZERO (r / 8) (r % 8)) = 0)

/-- What crossing wire w of a region shows outward while its outputs are not connected: its four signals (R50, R51). -/
def State.wireParked (s : State) (r w : Nat) : Nat := if s.parksShown r then s.wireOutPark r w else 0

/-- What seam wire w of edge e shows outward while the outputs are not connected (R50, R51). -/
def State.seamParked (s : State) (r e w : Nat) : Nat := if s.parksShown r then s.seamBits r e w % 2 else 0

/-- The same edge as the neighbour names it. -/
def seamFacing (e : Nat) : Nat := (e + 2) % 4

/-- What region r receives on seam wire w of its edge e (R36, R52): its inward park while the seam is disabled, the neighbour's
outward park while that one's outputs are not connected. `none`: what the neighbour's logic drives. -/
def State.seamShows (s : State) (r e w : Nat) : Option Nat :=
  match seamNeighbour r e with
  | none => some (s.seamBits r e w / 2 % 2)
  | some t =>
    if !s.seamOn r t then some (s.seamBits r e w / 2 % 2)
    else if s.connected t then none
    else some (s.seamParked t (seamFacing e) w)

/-! ## Serial ports and route entries at the envelope -/

def State.serialAt (s : State) (d p : Nat) : Serial := SMap.get (fun _ => Serial.empty) s.fab.serial (4 * d + p)
def State.setSerial (s : State) (d p : Nat) (x : Serial) : State :=
  let s := { s with fab := { s.fab with serial := SMap.put (fun _ => Serial.empty) s.fab.serial (4 * d + p) x } }
  s.setFs [(FAB_SP_STATUS_RX_LEVEL d p, x.rx.length), (FAB_SP_STATUS_TX_LEVEL d p, x.tx.length)]

/-- The port has a transfer under way or bytes to send. -/
def Serial.active (x : Serial) : Bool := x.busy || !x.tx.isEmpty || decide (x.rd ≠ 0)

/-- The serial ports of die r / 8 connected to region r (R63). -/
def State.portsOf (s : State) (r : Nat) : List Nat :=
  (List.range 4).filter fun p => decide (s.f (FAB_SP_CTRL_CONN (r / 8) p) = 8 + r % 8)

/-- Connected ports stop, flush their FIFOs and set PARK_ABORT (R50). -/
def State.parkPorts (s : State) (r : Nat) : State :=
  (s.portsOf r).foldl (fun t p =>
    if t.bit (FAB_SP_CTRL_EN (r / 8) p) then
      (t.setSerial (r / 8) p Serial.empty).setFs [(FAB_SP_STATUS_ACTIVE (r / 8) p, 0), (FAB_SP_STATUS_PARK_ABORT (r / 8) p, 1)]
    else t) s

/-- CLEARING: every port connected to the region has EN cleared (R63). -/
def State.disablePorts (s : State) (r : Nat) : State :=
  (s.portsOf r).foldl (fun t p =>
    ((t.setSerial (r / 8) p Serial.empty).setFs [(FAB_SP_CTRL_EN (r / 8) p, 0), (FAB_SP_STATUS_ACTIVE (r / 8) p, 0)])) s

/-- The route entry whose VALID field has this key. -/
def xrOfKey (key : Nat) : Option (Nat × Nat × Nat) :=
  let a := key / 32
  if key % 32 = 31 ∧ 0xF004000000 ≤ a ∧ a < 0xF004800000 then
    let o := a - 0xF004000000
    let q := o % 0x100000
    if 0x40000 ≤ q ∧ (q - 0x40000) / 4 < 16 * 1792 ∧ q % 4 = 0 then
      some (o / 0x100000, (q - 0x40000) / 4 / 1792, (q - 0x40000) / 4 % 1792)
    else none
  else none

/-- Route entries with VALID set, or with a write of VALID that waits for its heartbeat boundary. -/
def State.routes (s : State) : List (Nat × Nat × Nat) :=
  ((s.flds.map fun e => e.1) ++ (s.held.map fun e => e.1)).eraseDups.filterMap xrOfKey

/-- The destination and source regions of a route entry (R128), by the values last written and by those in force. -/
def xrEnds (d b sd sb : Nat) : Nat × Nat := (8 * d + b / 2, 8 * sd + sb / 2)
def State.xrNew (s : State) (d b p : Nat) : Nat × Nat :=
  xrEnds d b (s.f (CMX_XR_SRC_DIE d b p)) (s.f (CMX_XR_SRC_BUNDLE d b p))
def State.xrNow (s : State) (d b p : Nat) : Nat × Nat :=
  xrEnds d b (s.eff (CMX_XR_SRC_DIE d b p)) (s.eff (CMX_XR_SRC_BUNDLE d b p))

/-- The entry has an end in a region that `q` names. -/
def State.xrTouches (s : State) (q : Nat → Bool) (x : Nat × Nat × Nat) : Bool :=
  let n := s.xrNew x.1 x.2.1 x.2.2; let o := s.xrNow x.1 x.2.1 x.2.2
  q n.1 || q n.2 || q o.2

/-- Make what was last written to a route entry its value in force. -/
def State.xrApply (s : State) (x : Nat × Nat × Nat) : State :=
  (((s.applyLive (CMX_XR_VALID x.1 x.2.1 x.2.2)).applyLive (CMX_XR_SRC_DIE x.1 x.2.1 x.2.2)).applyLive
    (CMX_XR_SRC_BUNDLE x.1 x.2.1 x.2.2)).applyLive (CMX_XR_SRC_POS x.1 x.2.1 x.2.2)

/-- Clear VALID of a route entry at once; a write that waits is dropped. -/
def State.xrClear (s : State) (x : Nat × Nat × Nat) : State :=
  (s.xrApply x).setF (CMX_XR_VALID x.1 x.2.1 x.2.2) 0

/-- VALID is cleared in every entry with an end in the region (R134). -/
def State.routesEnd (s : State) (r : Nat) : State :=
  (s.routes.filter (s.xrTouches fun x => decide (x = r))).foldl State.xrClear s

/-! ## Register and RAM contents of a region (R53, R90, R113) -/

/-- First key of a region's image, size of the flip-flop part and of the RAM area, and where ninth bits stand. -/
def imgBase (r : Nat) : Nat := r * 2 ^ 21
def ffSize : Nat := 65536
def ramSize : Nat := 786432
def ninthOff : Nat := 2 ^ 20

def State.updCap (s : State) (g : Cap → Cap) : State := { s with cap := g s.cap }

/-- Set bit b (0 to 7) of a byte. -/
def orBit (b : Byte) (i : Nat) : Byte := b ||| BitVec.ofNat 8 (2 ^ i)

/-- Set bit n of a bit string kept as bytes from key `a`. -/
def setBitAt (m : SMap Byte) (a n : Nat) : SMap Byte :=
  SMap.put (fun _ => 0) m (a + n / 8) (orBit (SMap.get (fun _ => 0) m (a + n / 8)) (n % 8))

/-- Set bits of the flip-flop part whose IVAL is 1 in a cluster frame (R37, R53, R88, R89, R113). -/
def ivalFrame (a col q minor v : Nat) (m : SMap Byte) : SMap Byte :=
  (List.range 32).foldl (fun m sl =>
    (List.range 16).foldl (fun m c =>
      if (22 * c + 2) / 99 = minor ∧ fBit v (99 * sl + (22 * c + 2) % 99) = 1 then
        setBitAt m a ((col * 128 + 32 * q + sl) * 16 + c)
      else m) m) m

/-- Bit n of the concatenated bits of a column quarter (R90): frames of TYPE `t`, column `c`, quarter `q` of a region. -/
def State.quarterBits (s : State) (r t c q n k : Nat) : Nat :=
  (List.range k).foldl (fun v i =>
    let b := n + i
    v + s.frame (rgnBase r + (regionIndex t c q (b / 3168)).getD 0) / 2 ^ (b % 3168) % 2 * 2 ^ i) 0

/-- The mode of logical RAM block k of a region, by its 1,152 configuration bits (R90): 0 ECC, 1 PAR. -/
def State.ramMode (s : State) (r k : Nat) : Nat :=
  Config.ramModeOf (s.quarterBits r 1 (k / 32) (k % 32 / 8) (294912 + 1152 * (k % 8)) 1152)

/-- The bits of the cluster at column `col`, row `row` of a region: 99 in each of its 40 minors (R88). -/
def State.clusterBits (s : State) (r col row : Nat) : Nat :=
  (List.range 40).foldl (fun v m =>
    v + s.frame (rgnBase r + (regionIndex 0 col (row / 32) m).getD 0) / 2 ^ (99 * (row % 32)) % 2 ^ 99 * 2 ^ (99 * m)) 0
def State.clusterCfg (s : State) (r col row : Nat) : ClusterCfg := ClusterCfg.ofBits (s.clusterBits r col row)

/-- Set the RAM bits that a contents frame of a RAM column quarter holds (R90, R113): 44 rows of 72 bits in minors 0 to 92,
4 in minor 93; bits 64 to 71 of a row at the ninth bits, ignored in a block that `checked` names (ECC and PAR modes). -/
def ramFrame (checked : Nat → Bool) (a c q minor v : Nat) (m : SMap Byte) : SMap Byte :=
  (List.range (if minor < 93 then 44 else 4)).foldl (fun m i =>
    let row := (32 * c + 8 * q) * 512 + 44 * minor + i
    (List.range (if checked (row / 512) then 8 else 9)).foldl (fun m j =>
      let b := v / 2 ^ (72 * i + 8 * j) % 256
      SMap.put (fun _ => (0 : Byte)) m (if j < 8 then a + ffSize + 8 * row + j else a + ninthOff + row) (BitVec.ofNat 8 b)) m) m

/-- The blocks of a region in PAR mode generate the parity of their rows (R41, R90), one bit for each byte at the row's ninth bits.
The check bits of an ECC block are internal to it and stand with no bit in error. -/
def State.parityFill (s : State) (r : Nat) (m : SMap Byte) : SMap Byte :=
  let a := imgBase r + ffSize
  m.foldl (fun n e =>
    let o := e.1 - a
    if a ≤ e.1 ∧ o < ramSize ∧ parBit e.2 ∧ s.ramMode r (o / 4096) = 1 then setBitAt n (imgBase r + ninthOff + o / 8) (o % 8) else n) m

/-- Start values of every register, with SRC INIT, and RAM contents as the frames gave them (R53, R93): RAM output and
multiplier registers start at 0. -/
def State.fabInit (s : State) (r : Nat) : State :=
  let base := rgnBase r
  let m := SMap.replaceRange s.cap.fab [] (imgBase r) (2 ^ 21)
  let m := (s.rgnFrameList r).foldl (fun m e =>
    let x := indexFields (e.1 - base)
    if x.1 = 0 ∧ x.2.2.2 < 4 then ivalFrame (imgBase r) x.2.1 x.2.2.1 x.2.2.2 e.2 m
    else if x.1 = 1 ∧ x.2.2.2 < 94 then ramFrame (fun k => decide (s.ramMode r k < 2)) (imgBase r) x.2.1 x.2.2.1 x.2.2.2 e.2 m
    else m) m
  s.updCap fun c => { c with fab := s.parityFill r m }

/-- Registers start from the shadow, with SRC SHADOW (R53). -/
def State.fabShadow (s : State) (r : Nat) : State :=
  s.updCap fun c => { c with fab := SMap.replaceRange c.fab c.bal (imgBase r) ffSize }

/-- The RAM row that byte `o` of a region's image lies in: block and row (R113). -/
def ramRowAt (o : Nat) : Option (Nat × Nat) :=
  if ffSize ≤ o ∧ o < ffSize + ramSize then some ((o - ffSize) / 4096, (o - ffSize) % 4096 / 8) else none

/-- A write that an ECC-mode block of a region has refused (R42; 11 R274): `o` is 2^21 + the block. Or a read of a row by its
port, which the macro checks (R42; 11 R271): 2^22 + 512 × block + row. -/
def State.ramSeen (s : State) (r o : Nat) : State :=
  if 2 ^ 22 ≤ o then
    let k := (o - 2 ^ 22) / 512
    if k < 192 ∧ s.ramMode r k = 0 then s.eccRead (s.ramMacro r k) (o % 512) else s
  else
    let k := o - 2 ^ 21
    if 2 ^ 21 ≤ o ∧ k < 192 ∧ s.ramMode r k = 0 then s.ramRefused (s.ramMacro r k) else s

/-- What the tenant's logic has done with its registers and RAM rows: bytes it has changed by offset in the image (R113), ninth
bits from 2^20 on; refused writes and reads of RAM blocks above (`ramSeen`). Every row written has fresh check bits (11 R271). -/
def State.fabDelta (s : State) (r : Nat) (delta : List (Nat × Byte)) : State :=
  let s := delta.foldl (fun t e => t.ramSeen r e.1) s
  let s := (delta.filterMap fun e => ramRowAt e.1).eraseDups.foldl (fun t x => t.eccWrite (t.ramMacro r x.1) x.2) s
  s.updCap fun c => { c with
    fab := delta.foldl (fun m e => if e.1 < 2 ^ 21 then SMap.put (fun _ => (0 : Byte)) m (imgBase r + e.1) e.2 else m) c.fab }

/-- The registers are copied to the shadow in ballast (R55 step 6); with the RAM rows for a paused capture (R118). -/
def State.toBallast (s : State) (r : Nat) (ram : Bool) : State :=
  s.updCap fun c => { c with
    bal := SMap.replaceRange c.bal c.fab (imgBase r) (if ram then ffSize + ramSize else ffSize) }

/-! ## The close and the open -/

/-- A close of the region's envelope is requested (R55 step 1): STEP 1, ENV closed; the outputs stay live. A request in a close
joins it and CAUSE keeps the first cause (R57). SRC is SHADOW for a paused cause (R53). -/
def State.envClose (s : State) (r cause : Nat) : State :=
  if s.envStep r = 0 then
    (((s.setEnvStep r 1).setEnvCause r cause).setEnvSrc r (b2n (decide (cause = 4 ∨ cause = 5)))).updRgn r
        (fun x => { x with forced := false })
      |>.setFs [(FAB_RGN_ENV_STATUS_OPEN (r / 8) (r % 8), 0), (HUB_RGN_STATE_ENV r, 0)]
  else s

/-- An open of a closed envelope (R56). Steps 1 to 4 follow one another in this step, log entry 82: STEP 6; the start values; the
hold released with every divider at count zero (R48); the outputs connected, and what the NAPs held goes on. -/
def State.envOpen (s : State) (r : Nat) : State :=
  if s.envStep r = 5 then
    let s := s.setEnvStep r 6
    let s := if s.envSrc r = 1 then s.fabShadow r else s.fabInit r
    ((s.updRgn r fun x => { x with conn := true, div := [] }).shareRegionPins r).releaseHeld r
  else s

/-- Every tap of a region has been gated (R55 step 3). The dividers stand at count zero where each group stopped after complete
periods (04 R116), else wherever the taps' falling edges found them, which the spec leaves open. -/
def State.gateTaps (s : State) (r : Nat) (whole : Bool) : State :=
  if whole then s.updRgn r fun x => { x with div := [] }
  else (List.range 16).foldl (fun t k =>
    (t.updRgn r fun x => { x with div := nput x.div k (t.free 3 % 2 ^ t.eff (FAB_RGN_TAP_DIV (r / 8) (r % 8) k)) }).freeNext) s

/-- Step 5 of a close (R55): STEP 3, parks shown, PARK_ZERO takes its last value, pins disabled, serial ports stopped (R50). -/
def State.envPark (s : State) (r : Nat) : State :=
  let s := (s.setEnvStep r 3).applyLive (FAB_RGN_ENV_CTRL_PARK_ZERO (r / 8) (r % 8))
  (s.updRgn r fun x => { x with conn := false }).padNote.parkPorts r

/-- The parks change to 0 at the start of CLEARING (R51): seams go, route entries lose VALID, connected ports EN, packets
held at the NAPs are discarded or refused. -/
def State.clearParks (s : State) (r : Nat) : State :=
  let s := s.updRgn r fun x => { x with zeroed := true, pers := false }
  (((s.seams r).routesEnd r).disablePorts r).refuseHeld r

/-- A region enters CLEARING (R22): from an open envelope through the close with CAUSE CLEAR, otherwise its parks change to
0 at once. The trio of the region is cleared (08 R215). -/
def State.beginClearing (s : State) (r : Nat) : State :=
  let s := ((s.setRState r 5).trioClear r).updRgn r fun x =>
    { x with hold := false, halt := false, wantClear := false, zeroed := false }
  if s.envStep r = 5 then ((s.setEnvCause r 3).setEnvSrc r 0).clearParks r
  else (s.envClose r 3).seams r

/-- The capture engine works on the region. -/
def State.underCapture (s : State) (r : Nat) : Bool := decide (s.cap.op ≠ 0) && s.cap.regions.contains r

/-- A region is to be cleared: at once, or once the running close, open or capture has ended (R57, R126). -/
def State.clearRegion (s : State) (r : Nat) : State :=
  if s.envMoves r ∨ s.underCapture r then s.updRgn r fun x => { x with wantClear := true } else s.beginClearing r

/-- A region is lost with its die (R22, R58): its envelope counts as closed, its sequence and a BIST slice are abandoned (R20). -/
def State.loseRegion (s : State) (r : Nat) : State :=
  let s := (((s.setRState r 4).setEnvStep r 5).bistAbandon r).setFs [(HUB_RGN_STATE_ENV r, 0), (FAB_RGN_ENV_STATUS_OPEN (r / 8) (r % 8), 0)]
  let s := s.updRgn r fun x =>
    { x with hold := false, halt := false, wantClear := false, pers := false, zeroed := true, conn := false }
  (s.seams r).refuseHeld r

/-- The reset of its die closes a region's envelope with CAUSE RESET (R58). -/
def State.resetEnv (s : State) (r : Nat) : State :=
  (((s.setEnvStep r 5).setEnvCause r 1).setEnvSrc r 0).updRgn r (fun x => { x with conn := false, div := [] })
    |>.setFs [(FAB_RGN_ENV_STATUS_FORCED (r / 8) (r % 8), 0), (FAB_RGN_ENV_STATUS_SEAM (r / 8) (r % 8), 0),
      (FAB_RGN_ENV_STATUS_OPEN (r / 8) (r % 8), 0), (HUB_RGN_STATE_ENV r, 0)]

/-- In one period after STEP 5, the parks of regions in CLEARING change to 0 (R51, R55). -/
def State.clearTick (s : State) : State :=
  s.rgn.foldl (fun t e => if t.rState e.1 = 5 ∧ t.envStep e.1 = 5 ∧ !e.2.zeroed then t.clearParks e.1 else t) s

/-- The image in a region's ballast is gone; SEQ is kept (R113, R125). -/
def State.clearImage (s : State) (r : Nat) : State :=
  let s := s.updCap fun c => { c with bal := SMap.replaceRange c.bal [] (imgBase r) (2 ^ 21), images := SMap.erase c.images r }
  s.setFs [(CFG_BAL_VALID r, 0), (CFG_BAL_PAUSED r, 0), (CFG_BAL_CONSISTENT r, 0), (CFG_BAL_INFLIGHT r, 0), (CFG_BAL_FORCED r, 0)]

/-- CLEARING clears a region's ballast, its registers and its RAM blocks (R22). -/
def State.clearBallast (s : State) (r : Nat) : State :=
  (s.clearImage r).updCap fun c => { c with fab := SMap.replaceRange c.fab [] (imgBase r) (2 ^ 21) }

/-- The lease of a region changes (R21): its trio is cleared (08 R215), slots and quads whose lease no region holds any
longer are released (11 R297, 12 R304), seams are judged again. -/
def State.setLease (s : State) (r v : Nat) : State :=
  if v = s.lease r then s
  else ((((s.setF (HUB_RGN_STATE_LEASE r) v).trioClear r).ksOrphans).quadOrphans).seams r

/-! ## Commands -/

/-- The packet that a NAP was still sending, the newest from it that no target has served, ends with an EM tail: a request
is answered ERR, any other packet is discarded and counted (R54, 06 R160). -/
def State.cutPacket (s : State) (node : Nat) : State :=
  match s.noc.inbox.reverse.find? fun p => decide (p.src = node) with
  | none => s
  | some p =>
    let s := s.updNoc fun n => { n with inbox := (dropFirst (fun q => decide (q.src = node)) n.inbox.reverse).reverse }
    if isRequest p then s.respond p stErr [] else s.updNoc fun n => countDiscard n p.dst

/-- 256 ns after a close began, a NAP's unfinished packet is ended and the drain is over: STEP 2 (R54, R55). -/
def execNapDrainTimeout (node : Nat) (s : State) : Host.Outcome State Fault Refusal :=
  .next (match unitOf node with
    | .fabricNap r _ => if s.envStep r = 1 ∨ s.envStep r = 2 then (s.cutPacket node).setEnvStep r 2 else s
    | _ => s)

/-- 500 ns after the drain ended, a tap not yet gated is forced off (R55 step 4). -/
def execEnvGateForce (r : Nat) (s : State) : Host.Outcome State Fault Refusal :=
  .next (if s.envStep r = 1 ∨ s.envStep r = 2 then
      (((s.setEnvStep r 2).setF (FAB_RGN_ENV_STATUS_FORCED (r / 8) (r % 8)) 1).updRgn r fun x => { x with forced := true }).raise
        .ENV_GATE_FORCED true (s.lease r) r
    else s)

end Sys2Proof.Machine
end

