-- ==== Sys2Proof/Machine/Slots.lean ====
section
/-! DEFINITION. Load slots, bitstream keys, accesses to HBM by the configuration controller, golden-store addresses and the
writing of frames (03 R83, R86, R92, R96, R97; 04 R107, R108, R110, R111), shared by loading, checking and capture. -/

namespace Sys2Proof.Machine
open Reg

/-! ## HBM for units of the hub -/

/-- The node of the configuration controller (06 R155). -/
def cfgNode : Nat := nodeAt 27 6

/-- The node of the mirror-link controller (06 R155). -/
def mirNode : Nat := nodeAt 57 5

/-- What answers a request of a hub unit on its way to a controller, if anything does: a router that is not LIVE, a link that is
down, an entry NONE or the controller's port (06 R164, R170 to R173, R178). -/
def State.hubPath (s : State) (src n : Nat) : Option Nat :=
  if s.f (NOC_PORT_STATUS_STATE (nodeRouter src) (nodePort src)) ≠ 1 then some stUnreach
  else
    match s.way s.activeSet (pcNode n) 15 (nodeRouter src) (nodePort src) with
    | .dead .. => some stUnreach
    | .tgt l =>
      ((l.filterMap fun h => s.hopLost h.1 h.2.1 h.2.2).head?).orElse fun _ => s.portRefusal (pcNode n)

/-- The refusal of an access of a hub unit to a controller: on its way, or the controller's own (R247). -/
def State.hubRefusal (s : State) (src n : Nat) : Option Nat := (s.hubPath src n).orElse fun _ => s.pcRefusal n

/-- STATUS of an access to `k` bytes of HBM from `a` by a unit of the hub: outside HBM ERR, the refusal of the network or of a
controller (06 R164, R247), POISON for an uncorrectable word (R278). -/
def State.hubStatus (s : State) (a k : Nat) (src : Nat := cfgNode) : Nat :=
  if hbmEnd < a + k then stErr
  else
    match ((List.range ((a + k + 511) / 512 - a / 512)).filterMap fun i => s.hubRefusal src (s.pcOf ((a / 512 + i) * 512))).head? with
    | some st => st
    | none => if s.hbmBadRange a k then stPoison else stOk

/-- Controllers of the range leave SELF_REFRESH (R258). -/
def State.hubWake (s : State) (a k : Nat) : State :=
  (List.range ((a + k + 511) / 512 - a / 512)).foldl (fun t i =>
    let n := t.pcOf ((a / 512 + i) * 512)
    if t.pcState n = 4 then t.pcWake n else t) s

/-- Read `k` bytes of HBM: the state, the STATUS, the bytes. -/
def State.hubRead (s : State) (a k : Nat) (src : Nat := cfgNode) : State × Nat × List Byte :=
  let st := s.hubStatus a k src
  if st = stOk then
    let r := (s.hubWake a k).hbmRead a k
    (r.1, stOk, r.2)
  else if st = stPoison then ((s.hubWake a k).hbmUe (s.pcOf a) 0, st, [])
  else (s, st, [])

/-- Write bytes to HBM: the state and the STATUS. -/
def State.hubWrite (s : State) (a : Nat) (d : List Byte) (src : Nat := cfgNode) : State × Nat :=
  let st := s.hubStatus a d.length src
  if st = stOk ∨ st = stPoison then ((s.hubWake a d.length).hbmWrite a d, stOk) else (s, st)

/-! ## Slots (R92) -/

def State.slotAt (s : State) (n : Nat) : Slot := SMap.get (fun _ => Slot.empty) s.slots n
def State.setSlot (s : State) (n : Nat) (x : Slot) : State :=
  { s with slots := SMap.put (fun _ => Slot.empty) s.slots n x }
def State.updSlot (s : State) (n : Nat) (g : Slot → Slot) : State := s.setSlot n (g (s.slotAt n))

/-- The state of a slot: 0 IDLE, 1 ARMED, 2 HEADER, 3 MANIFEST, 4 FRAMES, 5 VERIFY, 6 OPENING, 7 DONE, 8 FAIL, 9 CLEARING. Slot
4 stands for the boot master and JTAG. -/
def State.ldState (s : State) (n : Nat) : Nat := if n < 4 then s.f (CFG_LD_STATUS_STATE n) else s.boot.st
def State.setLdState (s : State) (n v : Nat) : State :=
  if n < 4 then s.setF (CFG_LD_STATUS_STATE n) v else { s with boot := { s.boot with st := v } }

def State.ldTarget (s : State) (n : Nat) : Nat := s.f (CFG_LD_CTRL_TARGET n)

/-- The slot counts as idle (CFG_LDn_CTRL): IDLE, DONE or FAIL. -/
def State.ldIdle (s : State) (n : Nat) : Bool := decide (s.ldState n = 0 ∨ s.ldState n = 7 ∨ s.ldState n = 8)

/-- The slot that loads region r. -/
def State.loaderOf (s : State) (r : Nat) : Option Nat :=
  (List.range 4).find? fun n =>
    decide (s.ldTarget n = r ∧ 1 ≤ s.ldState n ∧ s.ldState n ≤ 6) && !(s.slotAt n).boot

/-- A region load fails (R92, R97): ERR, DONE, the event; a region that the load has moved to LOADING is cleared. -/
def State.loadFail (s : State) (n code : Nat) : State :=
  let r := s.ldTarget n
  let s := (s.setFs [(CFG_LD_STATUS_ERR n, code), (CFG_LD_STATUS_DONE n, 1)]).setLdState n 8
  let s := (s.setSlot n Slot.empty).raise .CFG_LOAD_FAIL true (s.lease r) r
  if s.rState r = 1 ∧ code ≠ 0x14 ∧ code ≠ 0x15 ∧ code ≠ 0x17 then (s.setLdState n 9).clearRegion r else s

/-- A higher control level abandons what a slot does (R20, R92, R96): ABORT_LEVEL, or from CLEARING straight to FAIL with its
ERR kept. DESIGN CHOICE (log 89): R92 states the CLEARING row for the isolation of the die; at PROG_N (R73) the model does the same. -/
def State.loadAbandon (s : State) (n : Nat) : State :=
  let st := s.ldState n
  if st = 9 then s.setLdState n 8
  else if 1 ≤ st ∧ st ≤ 6 ∧ !(s.slotAt n).boot then s.loadFail n 0x17
  else s

/-! ## Keys (R83) -/

/-- Key k (1 to 8) is programmed: all eight words written. -/
def State.bkeySet (s : State) (k : Nat) : Bool := decide (nget s.boot.bkeyMask k = 255)

/-- The bytes of key k (1 to 8), or of the eFuse bitstream key (0); none when it is not programmed. -/
def State.bkey (s : State) (k : Nat) : Option (List Nat) :=
  if k = 0 then (if s.bit HUB_LC_STATE_KEY0_DEAD then none else s.fuses.key0.map Crypto.nums)
  else if k ≤ 8 ∧ s.bkeySet k then
    some ((List.range 8).flatMap fun j => Crypto.leBytesN 4 (s.f (CFG_BKEY_KEY (k - 1) j)))
  else none

/-! ## The header's fields (R79) -/

/-- Little-endian number at an offset of the stream. -/
def Slot.num (x : Slot) (o k : Nat) : Nat := leNat ((x.all.drop o).take k)
def Slot.flags (x : Slot) : Nat := x.num 0xF 1
def Slot.signed (x : Slot) : Bool := decide (x.flags % 2 = 1)
def Slot.encrypted (x : Slot) : Bool := decide (x.flags / 2 % 2 = 1)
def Slot.reloc (x : Slot) : Bool := decide (x.flags / 4 % 2 = 1)
def Slot.manCount (x : Slot) : Nat := x.num 0x20 4
def Slot.bodyLen (x : Slot) : Nat := x.num 0x24 4
def Slot.keyId (x : Slot) : Nat := x.num 0x2D 1
/-- Offset of the body, of the end of its commands, and length of the stream. -/
def Slot.body0 (x : Slot) : Nat := 384 + 8 * x.manCount
def Slot.bodyEnd (x : Slot) : Nat := x.body0 + x.bodyLen - (if x.encrypted then 16 else 0)
def Slot.total (x : Slot) : Nat := x.body0 + x.bodyLen

/-- The slot decrypts with key k now (R96). -/
def State.decrypts (s : State) (n k : Nat) : Bool :=
  decide (3 ≤ s.ldState n ∧ s.ldState n ≤ 5) && (s.slotAt n).encrypted && decide ((s.slotAt n).keyId = k)

/-- The capture engine exports or imports with key k now (R126). -/
def State.capUsesKey (s : State) (k : Nat) : Bool :=
  decide (s.cap.op = 3 ∨ s.cap.op = 4) && decide (s.f CFG_CAP_CTRL_KEY = k)

/-- A write of word j of key k (R83, R96, R126): QUIET while a slot or the capture engine uses the key. -/
def State.bkeyWrite (s : State) (k j v : Nat) : State :=
  let users := (List.range 4).filter fun n => s.decrypts n k
  if !users.isEmpty || s.capUsesKey k then
    let s := users.foldl (fun t n => t.busy (CFG_LD_STATUS_FIELD_BUSY n)) s
    if s.capUsesKey k then s.busy CFG_CAP_STATUS_FIELD_BUSY else s
  else
    let m := nget s.boot.bkeyMask k
    let m := if m = 255 then 0 else m
    let m := if m / 2 ^ j % 2 = 1 then m else m + 2 ^ j
    { s.setF (CFG_BKEY_KEY (k - 1) j) v with boot := { s.boot with bkeyMask := nput s.boot.bkeyMask k m } }

/-- BKEY_WRITE: a write of CFG_BKEYk_Wj, k = 1 to 8. -/
def execBkeyWrite (m : Master) (k j v : Nat) (s : State) : Host.Outcome State Fault Refusal :=
  .next (s.viaWrite m (CFG_BKEY (k - 1) j) fun s => s.bkeyWrite k j v)

/-! ## Golden store (R111) -/

/-- HBM address of a frame's golden copy. -/
def State.goldAddr (s : State) (i : Nat) : Nat :=
  match frameRegion i with
  | some r => s.goldBase + r * 0xE00000 + (i - rgnBase r) * 400
  | none => s.goldBase + 0x38000000 + frameDie i * 0x640000 + (i - commonBase (frameDie i)) * 400

/-- The 400 bytes of a frame. -/
def frameBytes (v : Nat) : List Byte := leBytes 400 v

/-- A frame that a stream writes, and its golden copy while GOLD_EN is set. STUCK findings of it count again (R110). -/
def State.writeFrame (s : State) (i v : Nat) : State :=
  let s := (s.setFrame i v).updInteg fun x => { x with stuck := x.stuck.filter (· ≠ i) }
  if s.bit CFG_INTEG_CTRL_GOLD_EN then (s.hubWrite (s.goldAddr i) (frameBytes v)).1 else s

def State.goldValid (s : State) (r : Nat) : Bool := decide (s.f (CFG_GOLD_VALID_VALID (r / 32)) / 2 ^ (r % 32) % 2 = 1)
def setBitN (w b : Nat) (v : Bool) : Nat := if decide (w / 2 ^ b % 2 = 1) = v then w else if v then w + 2 ^ b else w - 2 ^ b
def State.setGoldValid (s : State) (r : Nat) (v : Bool) : State :=
  let F := CFG_GOLD_VALID_VALID (r / 32)
  s.setF F (setBitN (s.f F) (r % 32) v)

/-! ## Essential-bit maps (R106 to R108) -/

/-- The class of bit b of frame i in a map whose later records replace earlier ones. -/
def EssMap.classOf (m : EssMap) (i b : Nat) : Nat :=
  if !m.given then 1
  else
    match m.recs.reverse.find? fun e => decide (e.idx ≤ i ∧ i < e.idx + e.n) with
    | some e => if e.mask / 2 ^ b % 2 = 1 then e.cls1 else e.cls0
    | none => if m.trunc then 1 else 0

/-- The classes that bits of frame i may have in a map. -/
def EssMap.classes (m : EssMap) (i : Nat) : List Nat :=
  if !m.given then [1]
  else
    match m.recs.reverse.find? fun e => decide (e.idx ≤ i ∧ i < e.idx + e.n) with
    | some e => (if e.mask = 0 then [] else [e.cls1]) ++ (if e.mask % frameSpan = frameSpan - 1 then [] else [e.cls0])
    | none => [if m.trunc then 1 else 0]

end Sys2Proof.Machine
end

