-- ==== Sys2Proof/Machine/Capture.lean ====
section
/-! DEFINITION. The capture engine (04 R113 to R126): live and paused captures, quiesce, export, import and inject, and the
commands CAP_LIVE, CAP_LIVE_END, CAP_PAUSED, CAP_EXPORT, CAP_EXPORT_END, CAP_IMPORT, CAP_IMPORT_END, CAP_INJECT,
CAP_QUIESCE_END, CAP_QLIM_EXPIRE and CAP_IVHI_WRITE. -/

namespace Sys2Proof.Machine
open Reg

/-- The regions that CFG_CAP_MASK names. -/
def State.capMask (s : State) : List Nat :=
  (List.range 64).filter fun r => decide (s.f (CFG_CAP_MASK_MASK (r / 32)) / 2 ^ (r % 32) % 2 = 1)

def State.capBusy (s : State) : Bool := s.bit CFG_CAP_STATUS_BUSY

/-- The clock groups of a region: trees that feed a tap with EN set and have EN set themselves (R115). -/
def State.clockGroups (s : State) (r : Nat) : List Nat :=
  let d := r / 8; let i := r % 8
  (List.range 2).filter fun t =>
    decide (s.eff (FAB_RGN_CLKT_EN d i t) = 1) &&
      (List.range 16).any fun m =>
        let own := m / 8
        let feed := if s.eff (FAB_RGN_TAP_XSEL d i m) = 0 then own else 1 - own
        decide (s.eff (FAB_RGN_TAP_EN d i m) = 1 ∧ feed = t)

/-- The digest of the stream that loaded a region (R123). -/
def State.pdig (s : State) (r : Nat) : List Byte := (List.range 12).flatMap fun j => leBytes 4 (s.f (CFG_PDIG_DIGEST r j))

def State.setPdig (s : State) (r : Nat) (d : List Nat) : State :=
  (List.range 12).foldl (fun t j => t.setF (CFG_PDIG_DIGEST r j) (Crypto.leNum ((d.drop (4 * j)).take 4))) s

def State.balMeta (s : State) (r : Nat) : BalMeta := SMap.get (fun _ => BalMeta.empty) s.cap.images r
def State.setBalMeta (s : State) (r : Nat) (x : BalMeta) : State :=
  s.updCap fun c => { c with images := SMap.put (fun _ => BalMeta.empty) c.images r x }

/-- Device serial (R98). -/
def State.serial (s : State) : Nat := s.f CFG_SERIAL_LO_SERIAL + s.f CFG_SERIAL_HI_SERIAL * 2 ^ 32

/-- NAPs of the regions of an operation hold their ready low, or take it back (R121). -/
def State.napHold (s : State) (l : List Nat) (b : Bool) : State := l.foldl (fun t r => t.updRgn r fun x => { x with hold := b }) s

/-! ## Beginning and end of an operation -/

/-- The readback lines of a region are held for the capture engine (R104): a checker that owns them yields after its beat. -/
def State.linesTake (s : State) (r : Nat) : State :=
  let a := ArbId.readback r
  let s := s.arbAsk a ⟨8, 0, 0, 0⟩
  if s.arbOwns a 8 then s else s.arbBeat a true

def State.linesDrop (s : State) (r : Nat) : State := s.arbDrop (.readback r) 8 false

/-- An operation ends with an error code (0 none): regions take back their NAPs' ready, the readback lines and the engine are
free, DONE is set, releases that waited take effect (R126). -/
def State.capEnd (s : State) (err : Nat) : State :=
  let c := s.cap
  let s := (s.napHold (c.regions.filter fun r => !s.standby r) false).updCap fun c => { c with
    op := 0, phase := 0, regions := [], left := [], gated := [], inflight := false, inconsistent := false, mirror := false,
    buf := [] }
  let s := if c.mirror then s
    else s.setFs [(CFG_CAP_STATUS_ERR, err), (CFG_CAP_STATUS_DONE, 1), (CFG_CAP_STATUS_BUSY, b2n c.wait.isSome)]
  let s := c.regions.foldl State.linesDrop s
  let s := if s.arbOwns .capture (b2n c.mirror) then s.arbBeat .capture false else s
  c.regions.foldl (fun t r => if (t.rgnAt r).wantClear then t.clearRegion r else t) s

/-- VALID is cleared in the regions of a capture as it begins (R113). -/
def State.invalidate (s : State) (l : List Nat) : State := l.foldl (fun t r => t.setF (CFG_BAL_VALID r) 0) s

/-- Regions of the operation close for a paused capture or an inject (R118, R120, R124). -/
def State.capClose (s : State) : State :=
  let s := s.updCap fun c => { c with phase := 2, left := c.regions, gated := [] }
  s.cap.regions.foldl (fun t r => ((t.setRState r 3).envClose r 4).linesTake r) s

/-- The image's flip-flop part goes from the shadow into the capture latches of the region (R114, R124). -/
def State.latchLoad (s : State) (r : Nat) : State :=
  s.updCap fun c => { c with latch := SMap.replaceRange c.latch c.bal (imgBase r) ffSize }

/-- The capture latches of the region sample its registers (R114, R117). -/
def State.latchSample (s : State) (r : Nat) : State :=
  s.updCap fun c => { c with latch := SMap.replaceRange c.latch c.fab (imgBase r) ffSize }

/-- The shadow takes what the capture latches of the region hold (R117, R124). -/
def State.latchToShadow (s : State) (r : Nat) : State :=
  s.updCap fun c => { c with bal := SMap.replaceRange c.bal c.latch (imgBase r) ffSize }

/-- The checks of R124 over the regions of an inject: the first failing code of R125, 0 when every check passes. -/
def State.injectErr (s : State) (l : List Nat) : Nat :=
  let wrong (r : Nat) : Bool :=
    decide ((s.balMeta r).pdig ≠ s.pdig r) || (decide ((s.balMeta r).region ≠ r) && !(s.balMeta r).reloc)
  if l.any fun r => decide (s.rState r ≠ 2) || (s.rgnAt r).wantClear then 0x01
  else if l.any fun r => !s.bit (CFG_BAL_VALID r) then 0x03
  else if l.any fun r => !s.bit (CFG_BAL_CONSISTENT r) && !s.bit CFG_CAP_CTRL_ALLOW_INCONS then 0x04
  else if l.any fun r => s.bit (CFG_BAL_INFLIGHT r) && !s.bit CFG_CAP_CTRL_ALLOW_INFLIGHT then 0x05
  else if l.any wrong then 0x06
  else 0

/-- Every word of a region's image is read; an uncorrectable one clears VALID (11 R273). -/
def State.imageRead (s : State) (r : Nat) : State × Bool :=
  let n := if s.bit (CFG_BAL_PAUSED r) then 106496 else 8192
  let q := s.eccReadRange (balMacro r) 0 n
  (if q.2 then q.1.setF (CFG_BAL_VALID r) 0 else q.1, q.2)

def State.imagesRead (s : State) : List Nat → State × Bool
  | [] => (s, false)
  | r :: t => let q := s.imageRead r; let u := q.1.imagesRead t; (u.1, q.2 || u.2)

/-- The quiesce has ended, or none was asked for: the capture samples or closes; an inject checks every region again and
reads its image (R121, R124). -/
def State.capProceed (s : State) : State :=
  let c := s.cap
  if c.op = 5 then
    let e := if c.mirror then 0 else s.injectErr c.regions
    if e ≠ 0 then s.capEnd e
    else
      let q := s.imagesRead c.regions
      if q.2 then q.1.capEnd 0x03 else (c.regions.foldl State.latchLoad q.1).capClose
  else if c.regions.any fun r => decide (s.rState r ≠ 2) then s.capEnd 0x01
  else if c.op = 1 then c.regions.foldl State.linesTake (s.updCap fun c => { c with phase := 2, left := c.regions })
  else s.capClose

/-- Begin LIVE, PAUSED or INJECT of regions `l`, quiescing first when asked. -/
def State.capBegin (s : State) (op : Nat) (l : List Nat) (quiesce mirror : Bool) : State :=
  let s := s.updCap fun c => { c with
    op := op, phase := 1, regions := l, left := [], gated := [], inflight := false, inconsistent := false, mirror := mirror, ns := 0 }
  let s := if op = 5 then s else s.invalidate l
  if quiesce then s.napHold l true else s.capProceed

/-! ## Export and import (R122, R123) -/

/-- Bytes of an image: the flip-flop part and, for a paused image, the RAM area. -/
def State.imageBytes (s : State) (r : Nat) : List Byte :=
  (List.range (if s.bit (CFG_BAL_PAUSED r) then ffSize + ramSize else ffSize)).map fun i =>
    SMap.get (fun _ => 0) s.cap.bal (imgBase r + i)

/-- The 128-byte header of a capture record. -/
def State.capHeader (s : State) (r counter : Nat) : List Byte :=
  let x := s.balMeta r
  let flags := s.f (CFG_BAL_PAUSED r) + 2 * s.f (CFG_BAL_CONSISTENT r) + 4 * s.f (CFG_BAL_INFLIGHT r)
    + 8 * s.f (CFG_BAL_FORCED r) + 16 * b2n x.reloc
  leBytes 4 0x5043584B ++ leBytes 2 1 ++ leBytes 2 flags ++ leBytes 8 s.serial ++ leBytes 1 x.region
    ++ leBytes 1 (s.f (CFG_BAL_SEQ r)) ++ leBytes 2 0
    ++ leBytes 4 (if s.bit (CFG_BAL_PAUSED r) then ffSize + ramSize else ffSize)
    ++ leBytes 8 counter ++ (x.pdig ++ List.replicate (48 - x.pdig.length) 0) ++ leBytes 8 x.aon ++ List.replicate 40 0

/-- The IV of a record: SERIAL bytes 0 to 3, then COUNTER (R123). -/
def capIv (hdr : List Byte) : List Nat := Crypto.nums ((hdr.drop 8).take 4 ++ (hdr.drop 0x18).take 8)

def State.capAddr (s : State) : Nat := s.f CFG_CAP_ADDR_ADDR * 256

/-- A region of the pair belongs to the mirror controller (13 R336): every operation of firmware finds it in the wrong state. -/
def State.pairRegion (s : State) (r : Nat) : Bool := decide (s.eff (MIR_RGN_MODE r) = 1 ∨ s.eff (MIR_RGN_MODE r) = 2)

/-- EXPORT's checks in the order of R123. -/
def State.exportErr (s : State) : Nat :=
  match s.capMask with
  | [r] =>
    let k := s.f CFG_CAP_CTRL_KEY
    if k = 0 ∨ (s.bkey k).isNone then 0x09
    else if s.pairRegion r ∨ (s.rState r ≠ 2 ∧ s.rState r ≠ 3 ∧ s.rState r ≠ 4) then 0x01
    else if !s.bit (CFG_BAL_VALID r) then 0x03
    else if s.cap.count = 0xFFFFFFFF then 0x0B
    else 0
  | _ => 0x02

/-- EXPORT of region r with its checks passed: the next count is taken, the image sealed. -/
def State.exportBegin (s : State) (r : Nat) : State :=
  let counter := s.f CFG_CAP_IVHI_IVHI * 2 ^ 32 + s.cap.count
  let s := s.updCap fun c => { c with op := 3, phase := 1, regions := [r], count := c.count + 1 }
  let q := s.imageRead r
  if q.2 then q.1.capEnd 0x03
  else
    let hdr := q.1.capHeader r counter
    match q.1.bkey (q.1.f CFG_CAP_CTRL_KEY) with
    | none => q.1
    | some k =>
      let x := Crypto.gcmSeal k (capIv hdr) (Crypto.nums hdr) (Crypto.nums (q.1.imageBytes r))
      q.1.updCap fun c => { c with buf := hdr ++ Crypto.bytesOf (x.1 ++ x.2) }

/-- IMPORT's checks: mask, key, state. -/
def State.importErr (s : State) : Nat :=
  match s.capMask with
  | [r] =>
    let k := s.f CFG_CAP_CTRL_KEY
    if k = 0 ∨ (s.bkey k).isNone then 0x09
    else if s.pairRegion r ∨ s.rState r ≠ 2 then 0x01
    else 0
  | _ => 0x02

/-- The header of a record has the form of R122. -/
def capFormatOk (b : List Byte) : Bool :=
  let n (o k : Nat) : Nat := leNat ((b.drop o).take k)
  decide (n 0 4 = 0x5043584B ∧ n 4 2 = 1 ∧ n 6 2 < 32 ∧ n 0x12 2 = 0 ∧ n 0x58 40 = 0
    ∧ n 0x14 4 = if n 6 2 % 2 = 1 then ffSize + ramSize else ffSize)

/-- IMPORT of region r with its checks passed: the record is read from HBM. -/
def State.importBegin (s : State) (r : Nat) : State :=
  let s := (s.updCap fun c => { c with op := 4, phase := 1, regions := [r], buf := [] }).clearImage r
  let h := s.hubRead s.capAddr 128
  if h.2.1 ≠ stOk then h.1.capEnd 0x0A
  else if !capFormatOk h.2.2 then h.1.updCap fun c => { c with buf := h.2.2 }
  else
    let q := h.1.hubRead (s.capAddr + 128) (leNat ((h.2.2.drop 0x14).take 4) + 16)
    if q.2.1 ≠ stOk then q.1.capEnd 0x0A else q.1.updCap fun c => { c with buf := h.2.2 ++ q.2.2 }
/-- Write bytes into the table of ballast bytes. -/
def putBytes (m : SMap Byte) (a : Nat) : List Byte → SMap Byte
  | [] => m
  | b :: t => putBytes (SMap.put (fun _ => (0 : Byte)) m a b) (a + 1) t

/-- The image of a record goes to the ballast of region r, with its status and meta data. -/
def State.setImage (s : State) (r : Nat) (hdr : List Byte) (body : List Byte) : State :=
  let n (o k : Nat) : Nat := leNat ((hdr.drop o).take k)
  let fl := n 6 2
  let s := s.updCap fun c => { c with bal := putBytes (SMap.replaceRange c.bal [] (imgBase r) (2 ^ 21)) (imgBase r) body }
  let s := (s.eccWriteRange (balMacro r) 0 (body.length / 8)).setBalMeta r
    ⟨n 0x10 1, (hdr.drop 0x20).take 48, decide (fl / 16 % 2 = 1), n 0x50 8⟩
  s.setFs [(CFG_BAL_VALID r, 1), (CFG_BAL_PAUSED r, fl % 2), (CFG_BAL_CONSISTENT r, fl / 2 % 2),
    (CFG_BAL_INFLIGHT r, fl / 4 % 2), (CFG_BAL_FORCED r, fl / 8 % 2), (CFG_BAL_SEQ r, n 0x11 1)]

/-! ## OP -/

/-- Start operation `op` of firmware (R125): its checks, then its beginning. -/
def State.capStart (s : State) (op : Nat) : State :=
  let s := s.setFs [(CFG_CAP_STATUS_ERR, 0), (CFG_CAP_STATUS_BUSY, 1)]
  let l := s.capMask
  match op with
  | 3 => match s.exportErr, l with
    | 0, [r] => s.exportBegin r
    | e, _ => s.capEnd e
  | 4 => match s.importErr, l with
    | 0, [r] => s.importBegin r
    | e, _ => s.capEnd e
  | 5 =>
    if l.isEmpty then s.capEnd 0x02
    else
      let e := if l.any s.pairRegion then 0x01 else s.injectErr l
      if e ≠ 0 then s.capEnd e else s.capBegin 5 l true false
  | _ =>
    if l.isEmpty then s.capEnd 0x02
    else if l.any fun r => s.pairRegion r || decide (s.rState r ≠ 2) then s.capEnd 0x01
    else s.capBegin op l (s.bit CFG_CAP_CTRL_QUIESCE) false

/-- The capture arbiter's grant to firmware starts the OP that its request is for. -/
def State.capServe (s : State) : State :=
  match s.cap.wait with
  | some op => if s.cap.op = 0 ∧ s.arbOwns .capture 0 then (s.updCap fun c => { c with wait := none }).capStart op else s
  | none => s

/-- A write of OP (R125, R126): QUIET while BUSY; otherwise firmware requests the engine, and waits in the arbiter's spool while it
serves the mirror controller. A fenced requester is answered FENCED (07 R187). -/
def State.capOp (s : State) (op : Nat) : State :=
  if op = 0 ∨ 6 ≤ op then s
  else if s.capBusy then s.busy CFG_CAP_STATUS_FIELD_BUSY
  else if (s.arb .capture).fenced.contains 0 then s.answer (.ok stFenced)
  else (((s.updCap fun c => { c with wait := some op }).setF CFG_CAP_STATUS_BUSY 1).arbAsk .capture ⟨0, 0, 0, 0⟩).capServe

def execCapLive (m : Master) (s : State) : Host.Outcome State Fault Refusal :=
  .next (s.viaWrite m CFG_CAP_CTRL fun s => s.capOp 1)
def execCapPaused (m : Master) (s : State) : Host.Outcome State Fault Refusal :=
  .next (s.viaWrite m CFG_CAP_CTRL fun s => s.capOp 2)
def execCapExport (m : Master) (s : State) : Host.Outcome State Fault Refusal :=
  .next (s.viaWrite m CFG_CAP_CTRL fun s => s.capOp 3)
def execCapImport (m : Master) (s : State) : Host.Outcome State Fault Refusal :=
  .next (s.viaWrite m CFG_CAP_CTRL fun s => s.capOp 4)
def execCapInject (m : Master) (s : State) : Host.Outcome State Fault Refusal :=
  .next (s.viaWrite m CFG_CAP_CTRL fun s => s.capOp 5)

/-! ## Steps of an operation -/

/-- A capture of region r is complete: status, SEQ and meta data of the new image (R113, R122, R125). -/
def State.newImage (s : State) (r : Nat) (paused consistent : Bool) : State :=
  let x := s.rgnAt r
  let s := s.setBalMeta r ⟨r, s.pdig r, x.reloc, s.aonTicks⟩
  s.setFs [(CFG_BAL_VALID r, 1), (CFG_BAL_PAUSED r, b2n paused), (CFG_BAL_CONSISTENT r, b2n (consistent && !s.cap.inconsistent)),
    (CFG_BAL_INFLIGHT r, b2n s.cap.inflight), (CFG_BAL_FORCED r, b2n (paused && x.forced)),
    (CFG_BAL_SEQ r, (s.f (CFG_BAL_SEQ r) + 1) % 256)]

/-- CAP_LIVE_END: the latches of every group have sampled at its common edge and been copied to the shadow (R117). `delta` says
what the tenants' logic had made of its registers by the sampling edges: region, byte of the image, value. A region that has left
ACTIVE meanwhile has no image and the operation ends with ABORT_LEVEL (DEDUCED, log entry 85: a halt stops its edges). -/
def execCapLiveEnd (delta : List (Nat × Nat × Byte)) (s : State) : Host.Outcome State Fault Refusal :=
  .next (if s.cap.op = 1 ∧ s.cap.phase = 2 then
      let l := s.cap.regions.filter fun r => decide (s.rState r = 2)
      let one := decide ((s.cap.regions.flatMap s.clockGroups).length = 1)
      let s := s.cap.regions.foldl (fun t r => t.fabDelta r ((delta.filter fun e => decide (e.1 = r)).map (·.2))) s
      let s := l.foldl (fun t r =>
        (((t.latchSample r).latchToShadow r).eccWriteRange (balMacro r) 0 8192).newImage r false one) s
      (s.capEnd (if l.length = s.cap.regions.length then (if s.cap.inconsistent then 0x0C else 0) else 0x0C)).capServe
    else s)

/-- The RAM blocks of a region take the image's RAM area; their check bits and parity are written anew
(R124, 02 R41). -/
def State.ramFromImage (s : State) (r : Nat) : State :=
  let s := s.updCap fun c => { c with
    fab := s.parityFill r (SMap.replaceRange (SMap.replaceRange c.fab c.bal (imgBase r + ffSize) ramSize) [] (imgBase r + ninthOff) (2 ^ 20)) }
  (List.range 192).foldl (fun t k => t.eccWriteRange (t.ramMacro r k) 0 512) s

/-- Step 6 of the close of region r for a capture or an inject (R118, R124): the image is complete, or the shadow and the RAM blocks
hold it. -/
def State.capCopy (s : State) (r : Nat) : State :=
  if s.cap.op = 5 then
    let s := ((s.toBallast r false).latchToShadow r).eccWriteRange (balMacro r) 0 8192
    if s.bit (CFG_BAL_PAUSED r) then s.ramFromImage r else s
  else ((s.toBallast r true).eccWriteRange (balMacro r) 0 106496).newImage r true (!(s.rgnAt r).forced)

/-- Once every region of the operation has closed, those not halted open again (R118, R120, R126). -/
def State.capReopen (s : State) : State :=
  if s.cap.phase = 2 ∧ s.cap.left.isEmpty then
    let go := s.cap.regions.filter fun r => !(s.rgnAt r).halt
    go.foldl State.envOpen (s.updCap fun c => { c with phase := 3, left := go })
  else s

/-- Region r of a capture or inject has opened after a pause of `ns` (R119). One that a halt kept back is no longer counted. -/
def State.capOpened (s : State) (r ns : Nat) : State :=
  if s.cap.left.contains r then
    s.updCap fun c => { c with left := c.left.filter (· ≠ r), ns := max c.ns ns }
  else s

/-- Every region of the operation is done: PAUSE_NS and the end (R119). -/
def State.capFinish (s : State) : State :=
  if s.cap.phase = 3 ∧ s.cap.left.isEmpty then
    (s.setF CFG_CAP_STATUS_PAUSE_NS (min s.cap.ns 65535)).capEnd (if s.cap.inconsistent then 0x0C else 0)
  else s

/-- The copy of region r has begun: its image is being changed (R126). -/
def State.copyBegun (s : State) (r : Nat) : Bool :=
  decide (s.cap.phase = 3) || (decide (s.cap.phase = 2) && !s.cap.left.contains r)

/-- A region's tail of a close: parks, the shadow copy of a paused cause, STEP 5 (R55 steps 5 to 7). -/
def State.envParked (s : State) (r : Nat) (copy : State → State) : State :=
  let s := s.envPark r
  (if s.envSrc r = 1 then copy (s.setEnvStep r 4) else s).setEnvStep r 5

/-- The regions of a joint operation that wait with their taps gated show their parks together once every one of them has reached
that point (R120), and are copied. -/
def State.capBarrier (s : State) : State :=
  if decide (s.cap.phase = 2) && !s.cap.left.isEmpty && s.cap.left.all fun r => s.cap.gated.contains r then
    let l := s.cap.left
    let s := l.foldl (fun t r => t.envParked r fun u => u.capCopy r) s
    s.updCap fun c => { c with left := [], gated := [] }
  else s

/-- A die is isolated while the engine works (R126): its regions leave the operation; the images of the others are not
CONSISTENT. -/
def State.capIsolate (s : State) (d : Nat) : State :=
  let gone := s.cap.regions.filter fun r => decide (r / 8 = d)
  if s.cap.op = 0 ∨ gone.isEmpty then s
  else if s.cap.op = 3 ∨ s.cap.op = 4 then s.capEnd 0x0C
  else if s.cap.op = 5 ∧ s.cap.phase = 1 then s
  else
    let s := (s.invalidate (gone.filter s.copyBegun)).updCap fun c => { c with
      regions := c.regions.filter (fun r => decide (r / 8 ≠ d)), left := c.left.filter (fun r => decide (r / 8 ≠ d)),
      gated := c.gated.filter (fun r => decide (r / 8 ≠ d)), inconsistent := true }
    let s := gone.foldl State.linesDrop s
    let s := s.cap.regions.foldl (fun t r => t.setF (CFG_BAL_CONSISTENT r) 0) s
    if s.cap.regions.isEmpty then s.capEnd 0x0C
    else if s.cap.op = 1 then s
    else s.capBarrier.capReopen.capFinish

/-- A device-level action abandons the engine's operation (R20). -/
def State.capAbandon (s : State) : State :=
  let s := (s.updCap fun c => { c with wait := none }).arbRemove .capture fun _ => true
  if s.cap.op = 0 then s else (s.updCap fun c => { c with mirror := false }).capEnd 0x0C

/-- Requests of a region's NAPs that have no response yet. -/
def State.napDue (s : State) (r : Nat) : Bool :=
  !(s.dueOf (napNode r 0)).isEmpty || !(s.dueOf (napNode r 1)).isEmpty

/-- CAP_QUIESCE_END: every outstanding request of the regions has its response (R121). -/
def execCapQuiesceEnd (s : State) : Host.Outcome State Fault Refusal :=
  .next (if s.cap.phase = 1 ∧ (s.cap.op = 1 ∨ s.cap.op = 2 ∨ s.cap.op = 5) ∧ !s.cap.regions.any s.napDue then s.capProceed.capServe
    else s)

/-- CAP_QLIM_EXPIRE: QLIM µs have passed in a quiesce (R121, R126). -/
def execCapQlimExpire (s : State) : Host.Outcome State Fault Refusal :=
  .next (if s.cap.phase = 1 ∧ (s.cap.op = 1 ∨ s.cap.op = 2) then (s.updCap fun c => { c with inflight := true }).capProceed.capServe
    else if s.cap.phase = 1 ∧ s.cap.op = 5 then (s.capEnd 0x05).capServe
    else s)

/-- CAP_EXPORT_END: the sealed record has been written, or HBM refuses it (R122, R125). -/
def execCapExportEnd (s : State) : Host.Outcome State Fault Refusal :=
  .next (if s.cap.op = 3 then
      let q := s.hubWrite s.capAddr s.cap.buf
      (q.1.capEnd (if q.2 = stOk then 0 else 0x0A)).capServe
    else s)

/-- CAP_IMPORT_END: format and tag of the record are checked (R122, R125). -/
def execCapImportEnd (s : State) : Host.Outcome State Fault Refusal :=
  .next (if s.cap.op = 4 then
      match s.cap.regions, s.bkey (s.f CFG_CAP_CTRL_KEY) with
      | [r], some k =>
        let b := s.cap.buf
        if !capFormatOk b then s.capEnd 0x07
        else
          let hdr := b.take 128
          let n := leNat ((hdr.drop 0x14).take 4)
          let ct := Crypto.nums ((b.drop 128).take n)
          if Crypto.gcmTag k (capIv hdr) (Crypto.nums hdr) ct = Crypto.nums ((b.drop (128 + n)).take 16) then
            (s.setImage r hdr (Crypto.bytesOf (Crypto.ctr k (capIv hdr) 2 ct))).capEnd 0
          else s.capEnd 0x08
      | _, _ => s.capEnd 0x09
    else s)

/-- CAP_IVHI_WRITE: a write of CFG_CAP_IVHI (R123). -/
def State.ivhiWrite (s : State) (v : Nat) : State :=
  if s.capBusy then s.busy CFG_CAP_STATUS_FIELD_BUSY
  else (s.setF CFG_CAP_IVHI_IVHI v).updCap fun c => { c with count := 0 }

def execCapIvhiWrite (m : Master) (v : Nat) (s : State) : Host.Outcome State Fault Refusal :=
  .next (s.viaWrite m CFG_CAP_IVHI fun s => s.ivhiWrite v)

end Sys2Proof.Machine
end

