-- ==== Sys2Proof/Machine/Heart.lean ====
section
/-! DEFINITION. The tether's heartbeat frame and its checks (05 R137, R138): the frame's fields and CRC, wire signatures, PRBS31. -/

namespace Sys2Proof.Machine

/-- The low `w` bits of a number, lowest first. DEDUCED, log entry 81: each field goes on the line so. -/
def bitsLow (w v : Nat) : List Bool := (List.range w).map fun i => decide (v / 2 ^ i % 2 = 1)

/-- CRC-32 (IEEE 802.3) over bits in their order on the line. -/
def crcLine (l : List Bool) : Nat :=
  (l.foldl (fun c b => if (decide (c % 2 = 1)) != b then c / 2 ^^^ 0xEDB88320 else c / 2) 0xFFFFFFFF) ^^^ 0xFFFFFFFF

/-- A heartbeat frame before its CRC (R137): DIRCHG as (crossing wire of the region, new DIR), SIG as one byte for each wire. -/
structure Beat1 where
  seq : Nat
  state : Nat
  hash : Nat
  cmd : Nat
  dirs : List (Nat × Nat)
  rxbad : List Nat
  sig : List Nat
  deriving DecidableEq, Repr

/-- A DIR change: position, bundle side, new DIR (R137). -/
def dirChg (x : Nat × Nat) : Nat := x.1 % 2048 + x.1 / 2048 % 2 * 2 ^ 11 + x.2 % 4 * 2 ^ 12

/-- The fields of a frame that its CRC covers, in transmission order. -/
def Beat1.body (f : Beat1) : List Bool :=
  bitsLow 16 f.seq ++ bitsLow 4 f.state ++ bitsLow 32 f.hash ++ bitsLow 32 f.cmd
    ++ (List.range 16).flatMap (fun i => bitsLow 16 ((f.dirs[i]?).elim 0 dirChg))
    ++ (List.range 16).flatMap (fun i => bitsLow 12 ((f.rxbad[i]?).getD 0xFFF))
    ++ f.sig.flatMap (bitsLow 8)

/-- The frame on the line. -/
def Beat1.line (f : Beat1) : List Bool := f.body ++ bitsLow 32 (crcLine f.body)

/-- A line with the bits at the positions `l` inverted. -/
def flipLine (bits : List Bool) (l : List Nat) : List Bool := bits.zipIdx.map fun x => x.1 != l.contains x.2

/-- The CRC at the end of a received line matches. -/
def lineOk (bits : List Bool) : Bool :=
  let n := bits.length - 32
  decide (bits.drop n = bitsLow 32 (crcLine (bits.take n)))

/-- One bit into an 8-bit signature: x^8 + x^4 + x^3 + x^2 + 1 (R138). -/
def sigBit (c : Nat) (b : Bool) : Nat := let x := 2 * (c % 128) + (if b then 1 else 0); if 128 ≤ c then x ^^^ 0x1D else x

/-- The signature of a wire's bits in a period, from 0x00 (R138). -/
def sig8 (l : List Bool) : Nat := l.foldl sigBit 0

/-- PRBS31, which free spares and unused wires carry (R138): the next of its states, by x^31 + x^28 + 1 (12 R317). -/
def prbs31 (c : Nat) : Nat := 2 * (c % 2 ^ 30) + (c / 2 ^ 30 + c / 2 ^ 27) % 2
/-- `n` bits of PRBS31 from state c. -/
def prbsBits : Nat → Nat → List Bool
  | 0, _ => []
  | n + 1, c => decide (c / 2 ^ 30 % 2 = 1) :: prbsBits n (prbs31 c)

end Sys2Proof.Machine
end

