-- ==== Sys2Proof/Machine/MirLine.lean ====
section
/-! DEFINITION. The mirror link's line (13 R337): blocks, scrambling, RS(544,514), striping, alignment markers. What IEEE 802.3
gives, and the order of a marker's bits: PRESUMED, log entry 93. -/

namespace Sys2Proof.Machine

/-! ## Blocks -/

/-- A control block: header 0, its code in bits 1 to 8, zeros. -/
def ctlBlock (code : Nat) : List Bool := false :: bitsLow 8 code ++ List.replicate 248 false
def idleBlock : List Bool := ctlBlock 0x1E
def startBlock : List Bool := ctlBlock 0x78

/-- A data block: header 1, then 32 frame bytes, byte 0 in bits 1 to 8, least significant bit first; zero bytes fill the last one. -/
def dataBlock (b : List Byte) : List Bool :=
  true :: ((b.take 32).flatMap (fun x => bitsLow 8 x.toNat) ++ List.replicate (8 * (32 - b.length)) false)

/-- The blocks of a frame: START, then its bytes from SEQ through TAG. -/
def frameBlocks (b : List Byte) : List (List Bool) :=
  startBlock :: (List.range ((b.length + 31) / 32)).map fun i => dataBlock (b.drop (32 * i))

/-- A receiver's reading of a block: data, IDLE, START, or a reserved code, which discards the frames of its codeword. -/
inductive LineBlock where
  | data (bits : List Bool)
  | idle
  | start
  | reserved
  deriving DecidableEq, Repr

def readBlock (b : List Bool) : LineBlock :=
  if b.headD false then .data b.tail
  else if b.tail = idleBlock.tail then .idle
  else if b.tail = startBlock.tail then .start
  else .reserved

/-! ## Scrambling -/

/-- The self-synchronous scrambler 1 + x^39 + x^58: its last 58 output bits, newest first, and a block's 256 bits. -/
def scramble : List Bool → List Bool → List Bool × List Bool
  | h, [] => (h, [])
  | h, b :: t =>
    let o := (b != h.getD 38 false) != h.getD 57 false
    let r := scramble ((o :: h).take 58) t
    (r.1, o :: r.2)

/-- The receiver's descrambler. -/
def descramble : List Bool → List Bool → List Bool × List Bool
  | h, [] => (h, [])
  | h, b :: t =>
    let r := descramble ((b :: h).take 58) t
    (r.1, ((b != h.getD 38 false) != h.getD 57 false) :: r.2)

/-- A block as it is coded: the header is not scrambled. -/
def lineBlock (h b : List Bool) : List Bool × List Bool :=
  let r := scramble h b.tail
  (r.1, b.headD false :: r.2)

/-! ## RS(544,514) over GF(2^10) -/

/-- A symbol times x, modulo x^10 + x^3 + 1. -/
def gfX (a : Nat) : Nat := if 512 ≤ a % 1024 then 2 * (a % 512) ^^^ 9 else 2 * (a % 512)

def gfMul (a b : Nat) : Nat :=
  ((List.range 10).foldl (fun (r : Nat × Nat) i => (if b / 2 ^ i % 2 = 1 then r.1 ^^^ r.2 else r.1, gfX r.2)) (0, a)).1

/-- The powers of x in the field. -/
def gfPow (i : Nat) : Nat := (List.range i).foldl (fun a _ => gfX a) 1

/-- The 30 low coefficients of the generator, the highest first: the product of the terms x plus the i-th power, i from 0 to 29. -/
def rsGen : List Nat :=
  ((List.range 30).foldl (fun (g : List Nat) i =>
    List.zipWith (· ^^^ ·) (g ++ [0]) (0 :: g.map (gfMul (gfPow i)))) [1]).tail

/-- The check symbols of a message, the first symbol the highest. -/
def rsCheck (msg : List Nat) : List Nat :=
  msg.foldl (fun reg m =>
    let f := (reg.headD 0) ^^^ m
    List.zipWith (· ^^^ ·) (reg.tail ++ [0]) (rsGen.map (gfMul f))) (List.replicate 30 0)

/-- Symbols of ten bits, the first bit the lowest. -/
def lineSymbols : Nat → List Bool → List Nat
  | 0, _ => []
  | n + 1, l => ((l.take 10).zipIdx.foldl (fun v b => v + b2n b.1 * 2 ^ b.2) 0) :: lineSymbols n (l.drop 10)

/-- The 544 symbols of the codeword of 20 blocks. -/
def lineCodeword (blocks : List (List Bool)) : List Nat :=
  let m := lineSymbols 514 (blocks.take 20).flatten
  m ++ rsCheck m

/-! ## Lanes -/

/-- The lanes that carry the link: all sixteen, or those of the surviving quad pair (Q8 and Q9 when `low`). -/
def lineLanes (width16 low : Bool) : List Nat :=
  if width16 then (List.range 16).map (· + 32) else (List.range 8).map (· + if low then 32 else 40)

/-- Striping: symbol k goes to lane k mod W. -/
def stripe (w j : Nat) (l : List Nat) : List Nat := (l.zipIdx.filter fun x => decide (x.2 % w = j)).map (·.1)

/-- Two bits as a Gray-coded PAM4 level. -/
def pam4 (v : Nat) : Nat := match v % 4 with | 0 => 0 | 1 => 1 | 3 => 2 | _ => 3

/-- A symbol on a lane: five PAM4 levels, the most significant bits first. -/
def symbolLevels (v : Nat) : List Nat := [8, 6, 4, 2, 0].map fun o => pam4 (v / 2 ^ o)

/-- The 80 bits of the alignment marker of lane index j with its count, as a number. -/
def alignMarker (j n : Nat) : Nat :=
  0x4B584D4C4E4B * 2 ^ 32 + j % 256 * 2 ^ 24 + (255 - j % 256) * 2 ^ 16 + n % 2 ^ 16

/-- A marker follows every 4,096 codewords. -/
def markerDue (codewords : Nat) : Bool := decide (0 < codewords ∧ codewords % 4096 = 0)

/-- Markers of a lane in a row that were missing: two count as loss of its lock (R341). -/
def markerLost (misses : Nat) : Bool := decide (2 ≤ misses)

end Sys2Proof.Machine
end

