-- ==== Sys2Proof/Machine/PciLink.lean ====
section
/-! DEFINITION. The functions of the PCIe endpoints and their links (12 R323, R328, R315). -/

namespace Sys2Proof.Machine
open Reg

def State.updPci (s : State) (g : Pci → Pci) : State := { s with pci := g s.pci }

/-- The node of endpoint e (06 R155). -/
def pcieNode (e : Nat) : Nat := nodeAt (if e = 0 then 1 else 6) 5

/-- The key of function `fn` on endpoint e: each endpoint has a physical function of its own. -/
def funcKey (e fn : Nat) : Nat := if fn = 0 then 128 * e else fn

/-- A function is present on an endpoint (R323). -/
def State.funcOn (s : State) (e fn : Nat) : Bool :=
  if fn = 0 then true
  else if s.f PCI_CTRL_VF_SPLIT = 0 then decide (e = 0 ∧ fn ≤ 64)
  else decide ((e = 0 ∧ fn ≤ 32) ∨ (e = 1 ∧ 33 ≤ fn ∧ fn ≤ 64))

/-- A function that the host has enabled: a physical function always, a virtual function below NumVFs with VF Enable. -/
def State.funcEnabled (s : State) (e fn : Nat) : Bool :=
  s.funcOn e fn && (decide (fn = 0) || decide ((if e = 1 then fn - 32 else fn) ≤ nget s.pci.vfs e))

/-- The link is up: L0, Recovery or L1. -/
def State.pciUp (s : State) (e : Nat) : Bool :=
  let l := s.f (PCI_EP_STATUS_LTSSM e)
  decide (l = 3 ∨ l = 4 ∨ l = 5)

/-- A function key belongs to endpoint e. -/
def State.keyOn (s : State) (e k : Nat) : Bool :=
  if k = 0 ∨ k = 128 then decide (k = 128 * e) else s.funcOn e k

/-- What is left of a function's inbound requests when its completions are discarded: a write that is on its way completes. -/
def inboundRest (l : List Inbound) : List Inbound :=
  l.filterMap fun x => if x.wr ∧ x.next ≠ 0 then some { x with lost := true, len := x.next } else none

/-- Completions owed to the host by the functions that `q` picks are discarded; requests already sent to the NoC complete. -/
def State.inboundForget (s : State) (q : Nat → Bool) : State :=
  s.updPci fun p => { p with
    inq := p.inq.foldl (fun m x => if q x.1 then SMap.put (fun _ => []) m x.1 (inboundRest x.2) else m) p.inq }

/-- The configuration of the functions that `q` picks returns to its reset state: no bus mastering, D0, no function mask. -/
def State.configReset (s : State) (q : Nat → Bool) : State :=
  s.updPci fun p => { p with bm := p.bm.filter (fun k => !q k), d3 := p.d3.filter (fun k => !q k), mask := p.mask.filter (fun k => !q k) }

/-- The endpoint's function state is lost: its functions' configuration, VF Enable, and what it held. -/
def State.pciForget (s : State) (e : Nat) : State :=
  let old := s
  let s := (s.inboundForget (old.keyOn e)).configReset (old.keyOn e)
  s.updPci fun p => { p with
    off := p.off.filter (fun k => !old.keyOn e k)
    vfs := nput p.vfs e 0
    reads := p.reads.filter (fun x => x.2.dst ≠ pcieNode e)
    behind := p.behind.filter (fun x => x.1.dst ≠ pcieNode e) }

/-- Outbound requests at endpoint e that have no answer yet. -/
def State.outDue (s : State) (e : Nat) : List Packet :=
  (s.pci.reads.filterMap fun x => if x.2.dst = pcieNode e then some x.2 else none) ++ s.pci.behind.filterMap (fun x => if x.1.dst = pcieNode e then some x.1 else none)

/-- The status fields of a link that is not up. -/
def State.linkShow (s : State) (e ltssm : Nat) : State :=
  s.setFs [(PCI_EP_STATUS_LTSSM e, ltssm), (PCI_EP_STATUS_RATE e, 0), (PCI_EP_STATUS_WIDTH e, 0), (PCI_EP_STATUS_FLIT e, 0)]

/-- The transmitters of endpoint e follow their table entries until the partner asks again (R315). -/
def State.partnersGone (s : State) (e : Nat) : State :=
  (List.range 16).foldl (fun t i => t.updLane (16 * e + i) fun x => { x with partner := false }) s

/-- A link goes down (R328): requests are answered SIDE_DOWN, completions are discarded. -/
def State.linkLoss (s : State) (e ltssm : Nat) : State :=
  let was := s.pciUp e
  let due := s.outDue e
  let s := (((s.linkShow e ltssm).pciForget e).flushNode (pcieNode e) stSideDown).respondAll due stSideDown
  let s := s.partnersGone e
  if was then s.raise .PCIE_LINK_DOWN false 0 e else s

/-- PCIE_LINK_LOSS: the link leaves L0 for the LTSSM state given. Recovery and L1 (4, 5) are no loss. -/
def execPcieLinkLoss (e ltssm : Nat) (s : State) : Host.Outcome State Fault Refusal :=
  .next (if !s.pciUp e then s
    else if ltssm = 4 ∨ ltssm = 5 then s.setF (PCI_EP_STATUS_LTSSM e) ltssm
    else s.linkLoss e (if ltssm = 3 then 0 else ltssm))

/-- The preset that the endpoint asks of its partner for a lane: its entry's, P7 for 0xFF (R310, R315). -/
def State.lanePreset (s : State) (n : Nat) : Nat :=
  let p := ((match s.laneEntry n with | some e => e.codes | none => eqDefault)).getD 6 0xFF
  if p = 0xFF then 7 else p

/-- PCIE_LINK_RESTORE: the link trains to L0 at a rate and width, with the transmitter taps that the partner has asked for. -/
def execPcieLinkRestore (e rate width flit : Nat) (tx : List (Nat × List Nat)) (s : State) : Host.Outcome State Fault Refusal :=
  .next (if s.pciUp e ∨ s.f (PCI_EP_CTRL_LINK_DIS e) = 1 ∨ s.f (PWR_DOM_STATUS_STATE (172 + e)) ≠ 2 then s
    else
      let s := s.setFs [(PCI_EP_STATUS_LTSSM e, 3), (PCI_EP_STATUS_RATE e, rate), (PCI_EP_STATUS_WIDTH e, width),
        (PCI_EP_STATUS_FLIT e, flit)]
      let s := { s with out := s.out ++ (List.range width).map fun i => Out.preset (16 * e + i) (s.lanePreset (16 * e + i)) }
      (s.partnerTx tx).raise .PCIE_LINK_UP false 0 e)

/-- A write of PCI_EPe_CTRL.LINK_DIS (R318, R328): the link is held down, or may train again from Detect. -/
def State.linkDis (s : State) (e v : Nat) : State :=
  let s := s.setF (PCI_EP_CTRL_LINK_DIS e) v
  if v % 2 = 1 then s.linkLoss e 6
  else if s.f (PCI_EP_STATUS_LTSSM e) = 6 then s.setF (PCI_EP_STATUS_LTSSM e) 0 else s

/-- The mailbox window of a function returns to its reset state (R328; 15 R399); SEQN of its event ring goes on (15 R410). -/
def State.mailboxReset (s : State) (fn : Nat) : State :=
  let lo := (0xF000100000 + 0x10000 * fn) * 32
  let out := fun k => decide (k < lo ∨ lo + 0x10000 * 32 ≤ k)
  { s with flds := SMap.filterKeys out s.flds, held := SMap.filterKeys out s.held
           ev := { s.ev with ringPi := nput s.ev.ringPi fn 0, f2hPi := nput s.ev.f2hPi fn 0 } }

/-- FLR_VF (R328): `fn` is the virtual function that serves region fn - 1. -/
def State.flrVf (s : State) (fn : Nat) : State :=
  let reads := s.pci.reads.filterMap fun x => if x.1 = fn then some x.2 else none
  let s := ((s.inboundForget fun k => decide (k = fn)).configReset fun k => decide (k = fn)).mailboxReset fn
  let s := s.updPci fun p => { p with off := fn :: p.off, reads := p.reads.filter fun x => x.1 ≠ fn }
  (s.respondAll reads stSideDown).raise .VF_FLR true (s.f (HUB_RGN_STATE_LEASE (fn - 1))) (fn - 1)

def execFlrVf (fn : Nat) (s : State) : Host.Outcome State Fault Refusal :=
  .next (if 1 ≤ fn ∧ fn ≤ 64 ∧ s.funcEnabled (s.funcEp fn) fn then s.flrVf fn else s)

/-- FLR_PF (R328): handled as a link down of the endpoint. -/
def execFlrPf (e : Nat) (s : State) : Host.Outcome State Fault Refusal := .next (if s.pciUp e then s.linkLoss e 0 else s)

end Sys2Proof.Machine
end

