-- ==== Sys2Proof/Machine/Pwr.lean ====
section
/-! DEFINITION. Power domains and thermal sensors (14 R372 to R377, R380). -/

namespace Sys2Proof.Machine
open Reg

/-- PWR_DOMn_STATUS.STATE: 0 OFF, 1 RETAIN, 2 ON, 3 in transition. -/
def State.pwrState (s : State) (n : Nat) : Nat := s.f (PWR_DOM_STATUS_STATE n)
def State.updPwr (s : State) (g : Pwr → Pwr) : State := { s with pwr := g s.pwr }

/-- The clock domains inside a power domain (R371, R372). -/
def pwrDoms (n : Nat) : List Nat :=
  if n < 64 then [2 * n, 2 * n + 1] else if n < 128 then [] else if n < 164 then [140 + (n - 128)]
  else if n < 168 then [136 + (n - 164)] else if n < 172 then [176 + (n - 168)] else if n < 174 then [188 + (n - 172)]
  else [192 + (n - 174)]

/-- The PLL that a power domain needs. -/
def pwrPll (n : Nat) : Nat :=
  if n < 64 then 1 + n else if n < 128 then 65 + (n - 64) / 8 else if n < 164 then 77 + (n - 128)
  else if n < 168 then 73 + (n - 164) else if n < 172 then 0 else if n < 174 then 113 + (n - 172) else 0

/-- The nodes behind bridges into a power domain (06 R170). -/
def pwrNodes (n : Nat) : List Nat :=
  if n < 64 then [napNode n 0, napNode n 1]
  else if 140 ≤ n ∧ n < 164 then [quadNode (n - 128)]
  else if 164 ≤ n ∧ n < 168 then (List.range 32).map fun i => pcNode (32 * (n - 164) + i)
  else if n = 172 then [nodeAt 1 5] else if n = 173 then [nodeAt 6 5]
  else if n = 174 ∨ n = 175 then [encNode (n - 174)] else []

/-- The 16 routers of NoC quadrant q (01 R18). -/
def quadrantRouters (q : Nat) : List Nat :=
  (List.range 16).map fun i => 8 * (4 * (q / 2) + i / 4) + 4 * (q % 2) + i % 4

/-- R373: a request for OFF is refused. -/
def State.offRefused (s : State) (n : Nat) : Bool :=
  if n < 64 then decide (s.rState n ≠ 0)
  else if 128 ≤ n ∧ n < 164 then
    let q := n - 128
    (quadLanes q).any (fun l => decide (s.laneMode l ≠ 0))
      || (decide (q < 8) && decide (s.pwrState (172 + q / 4) = 2))
      || (decide (8 ≤ q ∧ q < 12) && decide (¬ (s.f MIR_STATUS_LINK = 0 ∨ s.f MIR_STATUS_LINK = 4 ∨ s.f MIR_STATUS_LINK = 5)))
  else if n < 168 then (List.range 32).any fun i => decide (s.pcState (32 * (n - 164) + i) ≠ 2)
  else if n < 172 then decide (n = 168) || (quadrantRouters (n - 168)).any fun k => decide (s.f (NOC_ROUTER_STATUS_STATE k) ≠ 2)
  else if n < 174 then decide (s.f (PCI_EP_CTRL_LINK_DIS (n - 172)) = 0)
  else (List.range 64).any fun k => decide (s.f (SEC_K_STATUS_STATE k) ≠ 0)

/-- The 32 controllers of the HBM PHY domain n: DOWN while it is off, REELED at every later power-up (10 R261, R268). -/
def State.phyStates (s : State) (n v : Nat) : State :=
  (List.range 32).foldl (fun t i => t.setPcState (32 * (n - 164) + i) v) s

/-- Grants and entries at the arbiters of a region's readback lines, or of the controllers of an HBM stack's PHY, go with the domain
(07 R190). -/
def State.pwrArbs (s : State) (n : Nat) : State :=
  if n < 64 then s.arbRemove (.readback n) fun _ => true
  else if 164 ≤ n ∧ n < 168 then (List.range 32).foldl (fun t i => t.arbRemove (.pc (32 * (n - 164) + i)) fun _ => true) s
  else s

/-- What a domain loses when it goes OFF, and what others see of it (R372, R374; 06 R170). -/
def State.pwrLose (s : State) (n : Nat) : State :=
  let s := (pwrDoms n).foldl State.domAbandon s
  let s := (pwrNodes n).foldl (fun t x => t.bridgeDown (nodeRouter x) (x % 16 + 4)
    (if n < 64 ∧ dieIsolated t (n / 8) then stUnreach else stSideDown)) s
  let s := s.pwrArbs n
  if n < 64 then
    (s.blankFrames (rgnBase n) rgnFrames).updCap fun c => { c with fab := SMap.replaceRange c.fab [] (imgBase n) (2 ^ 21) }
  else if 128 ≤ n ∧ n < 164 then s.quadUnlock (n - 128)
  else if 164 ≤ n ∧ n < 168 then s.phyStates n 0
  else if n = 172 ∨ n = 173 then (s.pciForget (n - 172)).partnersGone (n - 172)
  else s

/-- Begin a transition (R372): a PLL that the domain needs starts during the ramp. -/
def State.pwrStart (s : State) (n : Nat) (on : Bool) : State :=
  let s := s.setFs [(PWR_DOM_STATUS_STATE n, 3), (PWR_DOM_STATUS_ERR n, 0)]
  if on then (s.updPwr fun p => { p with up := n :: p.up }).pllEval (pwrPll n) else s.pwrLose n

/-- Take the last request written (R373, R374). A refused OFF is not kept. -/
def State.pwrTry (s : State) (n : Nat) : State :=
  let q := s.f (PWR_DOM_CTRL_REQ n)
  if q = 1 ∧ s.pwrState n = 0 then s.pwrStart n true
  else if q = 0 ∧ s.pwrState n = 2 then
    if s.offRefused n then s.setFs [(PWR_DOM_STATUS_ERR n, 1), (PWR_DOM_CTRL_REQ n, 1)] else s.pwrStart n false
  else s

/-- A request: taken now, or at the end of the transition in progress (R374). -/
def State.pwrReq (s : State) (n v : Nat) : State :=
  let s := s.setF (PWR_DOM_CTRL_REQ n) v
  if s.pwrState n = 3 then s else s.pwrTry n

/-- A write of PWR_DOMn_CTRL.REQ: codes 2 and 3, and any write for an engine trio, are ignored and logged (R373, R380). -/
def State.pwrReqWrite (s : State) (m : Master) (n v : Nat) : State :=
  if 2 ≤ v ∨ (64 ≤ n ∧ n < 128) then s.logDrop m .badCode (PWR_DOM_CTRL n) else s.pwrReq n v

/-- PWR_DOM_REQ (R373). -/
def execPwrDomReq (m : Master) (n v : Nat) (s : State) : Host.Outcome State Fault Refusal :=
  .next (s.viaWrite m (PWR_DOM_CTRL n) fun s => s.pwrReqWrite m n v)

/-- The PLL that a waking domain needs cannot be used yet (R374). A quad whose RAW_MBD lies outside its range has none. -/
def State.wakeWaits (s : State) (n : Nat) : Bool :=
  (s.pllNeeded (pwrPll n) && !s.pllRuns (pwrPll n))
    || (decide (128 ≤ n ∧ n < 164) && decide (s.f (LNE_Q_STATUS_ERR (n - 128)) = 1))

/-- Slots whose GO named the region, while it was OFF, take their stream (03 R96). -/
def State.slotsWoken (s : State) (r : Nat) : State :=
  (List.range 4).foldl (fun t k => if (t.slotAt k).waking ∧ t.ldTarget k = r then t.updSlot k fun x => { x with waking := false } else t) s

/-- A domain has woken (R372, R374); pins that its region's sources drive wake with it (16 R419). -/
def State.pwrWoken (s : State) (n us : Nat) : State :=
  let old := s
  let s := (s.setFs [(PWR_DOM_STATUS_STATE n, 2), (PWR_DOM_STATUS_WAKE_US n, min us 65535)]).updPwr fun p =>
    { p with up := p.up.filter (· ≠ n), stalled := p.stalled.filter (· ≠ n) }
  let s := (pwrDoms n).foldl State.domAdopt s
  let s := s.hopCheck (pwrPll n)
  if n < 64 then State.wakeRegionPins old (s.slotsWoken n) n
  else if 128 ≤ n ∧ n < 164 then (if s.pllRuns (77 + (n - 128)) then s.quadClock (n - 128) else s)
  else if 164 ≤ n ∧ n < 168 then s.phyStates n 2
  else s

/-- A domain has gone OFF; the pins that only its region's sources drove fall asleep (16 R419, R420). -/
def State.pwrOff (s : State) (n : Nat) : State :=
  let t := s.setF (PWR_DOM_STATUS_STATE n) 0
  if n < 64 then (State.sleepPins s t (s.regionPins n)).padNote else t

/-- PWR_DOM_END (R372, R374): a transition ends and the last request written is checked. -/
def execPwrDomEnd (n us : Nat) (s : State) : Host.Outcome State Fault Refusal :=
  .next (if s.pwrState n ≠ 3 ∨ (64 ≤ n ∧ n < 128) then s
    else if s.pwr.up.contains n then
      if s.wakeWaits n then
        if s.pwr.stalled.contains n then s
        else (s.updPwr fun p => { p with stalled := n :: p.stalled }).domEvent .CLK_SW_STALL ((pwrDoms n).headD 0)
      else (s.pwrWoken n us).pwrTry n
    else (s.pwrOff n).pwrTry n)

/-! ## Thermal sensors (R375 to R377) -/

/-- A 12-bit signed reading, biased so that readings compare as numbers. -/
def tempKey (v : Nat) : Nat := (v + 2048) % 4096

def State.validSensors (s : State) : List Nat := (List.range 64).filter fun n => s.bit (PWR_TEMP_VALID n)

/-- PWR_THERM_STATUS.MAX and HOTTEST over the valid sensors; the lowest-numbered of equals. -/
def State.thermShow (s : State) : State :=
  match s.validSensors with
  | [] => s.setFs [(PWR_THERM_STATUS_MAX, 0), (PWR_THERM_STATUS_HOTTEST, 0)]
  | n :: t =>
    let b := t.foldl (fun b k => if tempKey (s.f (PWR_TEMP_TEMP b)) < tempKey (s.f (PWR_TEMP_TEMP k)) then k else b) n
    s.setFs [(PWR_THERM_STATUS_MAX, s.f (PWR_TEMP_TEMP b)), (PWR_THERM_STATUS_HOTTEST, b)]

/-- The sensors of a die become or cease to be valid (R375, 15 R388). -/
def State.sensorsValid (s : State) (d : Nat) (v : Bool) : State :=
  ((List.range 8).foldl (fun t i => t.setF (PWR_TEMP_VALID (8 * d + i)) (b2n v)) s).thermShow

/-- A conversion with the 64 readings given, in units of 0.25 °C (12 bits, signed): the warning and its re-arm. -/
def State.thermConvert (s : State) (raw : List Nat) : State :=
  let s := s.applyLive PWR_THERM_CFG_WARN_C
  let s := (List.range 64).foldl (fun t n => t.setF (PWR_TEMP_TEMP n) (raw.getD n 0)) s
  let s := s.thermShow
  let k (n : Nat) : Nat := tempKey (s.f (PWR_TEMP_TEMP n))
  let warn := 4 * s.f PWR_THERM_CFG_WARN_C + 2048
  if s.bit PWR_THERM_STATUS_WARN then
    (if s.validSensors.all fun n => decide (k n + 20 < warn) then s.setF PWR_THERM_STATUS_WARN 0 else s)
  else if s.validSensors.any fun n => decide (warn ≤ k n) then
    (s.setF PWR_THERM_STATUS_WARN 1).raise .THERM_WARN false 0 noInst
  else s

/-- Valid sensors at or above TRIP_C. -/
def State.hotSensors (s : State) : List Nat :=
  s.validSensors.filter fun n => decide (4 * s.f PWR_THERM_CFG_TRIP_C + 2048 ≤ tempKey (s.f (PWR_TEMP_TEMP n)))

/-- A valid sensor has been at or above TRIP_C on this conversion and the one before (R377). -/
def State.thermTrips (s : State) : Bool := s.hotSensors.any fun n => s.pwr.hot.contains n

end Sys2Proof.Machine
end

