-- ==== Sys2Proof/Machine/Mirror.lean ====
section
/-! DEFINITION. The redundant pair (13 R332 to R357): the mirror link and its frames, epochs and their cuts, the output
fence's release, seeding, standby regions, and failover. -/

namespace Sys2Proof.Machine
open Reg

def State.updMir (s : State) (g : Mir → Mir) : State := { s with mir := g s.mir }

/-- MIR_STATUS.LINK: 0 DOWN, 1 TRAIN, 2 UP, 3 RETRAIN, 4 LOST, 5 FAILED. -/
def State.link (s : State) : Nat := s.f MIR_STATUS_LINK
/-- MIR_PLj_STATUS.STATE: 0 OFF, 1 SEEDING, 2 ARMED, 3 STALE, 4 SOLO, 5 GIVEN, 6 TAKEN. -/
def State.plState (s : State) (j : Nat) : Nat := s.f (MIR_PL_STATUS_STATE j)
def State.plMode (s : State) (j : Nat) : Nat := s.eff (MIR_PL_CFG_MODE j)
def State.plLease (s : State) (j : Nat) : Nat := s.f (MIR_PL_CFG_LEASE j)
def State.plBase (s : State) (j : Nat) : Nat := s.f (MIR_PL_RANGE_BASE_64M j) * 2 ^ 26
def State.plSize (s : State) (j : Nat) : Nat := s.f (MIR_PL_RANGE_SIZE_64M j) * 2 ^ 26

def State.pls (s : State) (mode : Nat) (states : List Nat) : List Nat :=
  (List.range 16).filter fun j => decide (s.plMode j = mode) && states.contains (s.plState j)

/-- Regions of pair lease j with a MODE: sources hold the pair lease's lease and run or are paused (R335, R356). -/
def State.srcRegions (s : State) (j : Nat) : List Nat :=
  (List.range 64).filter fun r => decide (s.eff (MIR_RGN_MODE r) = 1 ∧ s.eff (MIR_RGN_PL r) = j ∧ s.lease r = s.plLease j
    ∧ (s.rState r = 2 ∨ s.rState r = 3))
def State.stbyRegions (s : State) (j : Nat) : List Nat :=
  (List.range 64).filter fun r => decide (s.eff (MIR_RGN_MODE r) = 2 ∧ s.eff (MIR_RGN_PL r) = j)

/-- HUB_RGN_STATE.MIRRORED follows the pair leases (R335). -/
def State.mirShow (s : State) : State :=
  (List.range 64).foldl (fun t r => t.setF (HUB_RGN_STATE_MIRRORED r)
    (b2n (decide (t.eff (MIR_RGN_MODE r) = 1 ∧ t.plMode (t.eff (MIR_RGN_PL r)) = 1 ∧ t.plState (t.eff (MIR_RGN_PL r)) = 2)))) s

def State.setPlState (s : State) (j v : Nat) : State := (s.setF (MIR_PL_STATUS_STATE j) v).mirShow

/-! ## Frames (R338) -/

def State.seqTx (s : State) : Nat := s.f MIR_SEQ_TX_LO_SEQ + s.f MIR_SEQ_TX_HI_SEQ * 2 ^ 32
def State.seqRx (s : State) : Nat := s.f MIR_SEQ_RX_LO_SEQ + s.f MIR_SEQ_RX_HI_SEQ * 2 ^ 32
def State.setSeqTx (s : State) (v : Nat) : State := s.setFs [(MIR_SEQ_TX_LO_SEQ, v), (MIR_SEQ_TX_HI_SEQ, v / 2 ^ 32)]
def State.setSeqRx (s : State) (v : Nat) : State := s.setFs [(MIR_SEQ_RX_LO_SEQ, v), (MIR_SEQ_RX_HI_SEQ, v / 2 ^ 32)]

/-- The bytes of a frame from SEQ through TAG. -/
def State.mirBytes (s : State) (seq : Nat) (x : MFrame) : List Byte :=
  let hdr := leBytes 8 seq ++ leBytes 1 x.typ ++ leBytes 1 x.pl ++ leBytes 2 x.data.length ++ leBytes 4 x.epoch
    ++ leBytes 8 x.arg0 ++ leBytes 8 x.arg1
  let iv := s.f MIR_STATUS_ROLE :: [0, 0, 0] ++ Crypto.leBytesN 8 seq
  let g := Crypto.gcmSeal s.mir.key iv (Crypto.nums hdr) (Crypto.nums x.data)
  hdr ++ Crypto.bytesOf g.1 ++ Crypto.bytesOf g.2

def noPl : Nat := 0xFF

/-- A control frame of the open epoch. -/
def State.pushCtl (s : State) (typ arg0 arg1 : Nat) : State :=
  s.updMir fun m => { m with ctl := m.ctl ++ [⟨typ, noPl, s.openEpoch, arg0, arg1, []⟩] }

/-! ## Effects of the output fence (R348, 15 R404) -/

/-- The held-effect record followed by its data. -/
def HeldFx.toBytes (h : HeldFx) : List Byte :=
  leBytes 1 h.kind ++ leBytes 1 h.ep ++ leBytes 1 h.func ++ leBytes 1 h.lease ++ leBytes 2 h.bytes.length ++ leBytes 2 0
    ++ leBytes 8 h.addr ++ leBytes 4 h.data ++ leBytes 4 h.epoch ++ leBytes 8 0 ++ h.bytes

def fxOfBytes (b : List Byte) : HeldFx :=
  let n (o k : Nat) : Nat := leNat ((b.drop o).take k)
  ⟨n 0 1, n 1 1, n 2 1, n 3 1, n 8 8, n 0x10 4, n 0x14 4, (b.drop 0x20).take (n 4 2), none⟩

/-- An effect leaves: a WRITE and an MSI-X message as a memory write toward the host, an index advance in its register. The
request of a WRITE is answered (12 R327). -/
def State.fxRelease (s : State) (h : HeldFx) : State :=
  let s := match h.kind with
    | 1 => { s with out := s.out ++ [.tlpWrite h.ep h.func h.addr h.bytes] }
    | 2 => { s with out := s.out ++ [.tlpWrite h.ep h.func h.addr (leBytes 4 h.data)] }
    | _ => if h.addr = 0x14 then s.setF (MBX_EVT_PI_PI h.func) h.data else s.setF (MBX_F2H_PI_PI h.func) h.data
  match h.pkt with
  | some p => if s.rspDue p then s.respond p stOk [] else s
  | none => s

/-- Drop held effects, keeping count of those already sent to the receiver, and effects that wait for room. -/
def State.dropFx (s : State) (q : HeldFx → Bool) : State :=
  let sent := (s.heldFx.take s.mir.effSent).filter fun h => !q h
  { s with heldFx := s.heldFx.filter (fun h => !q h) }.updMir fun m => { m with
    effSent := sent.length, fxWait := m.fxWait.filter fun h => !q h }

/-- Effects that waited enter the fence buffer as it has room again (R349). -/
def State.fxRefill (s : State) : State :=
  s.mir.fxWait.foldl (fun t h => t.holdFx h) (s.updMir fun m => { m with fxWait := [] })

/-- Release held effects in their order; those that still waited for room have no epoch yet. -/
def State.releaseFx (s : State) (q : HeldFx → Bool) : State :=
  ((s.heldFx ++ s.mir.fxWait).filter q).foldl State.fxRelease (s.dropFx q) |>.fxRefill

/-! ## The mirror's accesses to a lease's range (R347, R350; 11 R284) -/

/-- The key slot that covers bytes of a lease, if one does. -/
def State.mirSlot (s : State) (l a n : Nat) : Option Nat :=
  match s.slotOf l with
  | some k => if inWindow [((s.slotRange k).1, s.slotData k)] a n then some k else none
  | none => none

def mirPacket (l k a : Nat) (d : List Byte) (be : List Bool) (n : Nat) : Packet :=
  ⟨noNode, nodeAt 57 5, opcRead, 0, l, a, n - 1, 0, 0, k, true, 0, false, 0, d, be⟩

/-- Read `n` bytes of a lease's range, through a key slot if it has one: the state, the bytes, whether they are good. -/
def State.mirReadBy (s : State) (l a n : Nat) : Option Nat → State × List Byte × Bool
  | some k =>
    let p := mirPacket l k a [] [] n
    let r := s.encReadAll (if s.pcOf a < 64 then 0 else 1) p (s.granules p)
    (r.1, ((r.2.1.drop ((a - (s.slotRange k).1) % 256)).take n), !r.2.2.2)
  | none =>
    let r := s.hubRead a n mirNode
    (r.1, (if r.2.1 = stOk then r.2.2 else List.replicate n 0), decide (r.2.1 = stOk))

def State.mirRead (s : State) (l a n : Nat) : State × List Byte × Bool := s.mirReadBy l a n (s.mirSlot l a n)

/-- Write bytes under enables to a lease's range: the state and whether they were written. -/
def State.mirWriteBy (s : State) (l a : Nat) (d : List Byte) (be : List Bool) : Option Nat → State × Bool
  | some k =>
    let p := mirPacket l k a d be d.length
    s.encWriteAll (if s.pcOf a < 64 then 0 else 1) p (.good false) (s.granules p)
  | none =>
    if be.all id then let r := s.hubWrite a d mirNode; (r.1, decide (r.2 = stOk))
    else ((d.zip be).zipIdx).foldl (fun q x =>
      if x.1.2 then let r := q.1.hubWrite (a + x.2) [x.1.1] mirNode; (r.1, q.2 && decide (r.2 = stOk)) else q) (s, true)

def State.mirWrite (s : State) (l a : Nat) (d : List Byte) (be : List Bool) : State × Bool :=
  s.mirWriteBy l a d be (s.mirSlot l a d.length)

/-! ## Pair leases -/

/-- A pair lease starts to seed (R350). -/
def State.plSeed (s : State) (j : Nat) : State :=
  let s := (s.setFs [(MIR_PL_STATUS_ERR j, 0), (MIR_PL_STATUS_SEED j, 0)]).setPlState j 1
  s.updMir fun m => { m with
    seed := nput m.seed j 0
    seedEpoch := nput m.seedEpoch j (if s.plSize j = 0 then s.openEpoch + 1 else 0) }

/-- A pair lease goes STALE on the receiver (R352), with an error code. -/
def State.plStale (s : State) (j err : Nat) : State :=
  ((s.setF (MIR_PL_STATUS_ERR j) err).setPlState j 3).raise .MIR_STALE true (s.plLease j) noInst

/-- SOLO: held effects are released, the fence is off (R352). -/
def State.plSolo (s : State) (j : Nat) : State :=
  (s.setPlState j 4).releaseFx fun h => decide (h.lease = s.plLease j)

/-- A pair lease takes its MODE: OFF ends it; otherwise it seeds when the link is UP (R350). -/
def State.plSetMode (s : State) (j : Nat) : State :=
  let md := s.plMode j
  if md = 1 ∨ md = 2 then (if s.link = 2 ∧ s.plState j ≠ 2 then s.plSeed j else s)
  else (s.releaseFx fun h => decide (h.lease = s.plLease j)).setPlState j 0

/-- A held region whose MODE is set to OFF opens from its shadow (R344). -/
def State.rgnSetMode (s : State) (r : Nat) : State :=
  let s := if s.eff (MIR_RGN_MODE r) ≠ 2 ∧ s.bit (MIR_RGN_HELD r) then
      let s := (s.setF (MIR_RGN_HELD r) 0).updRgn r fun x => { x with hold := false }
      if s.rState r = 3 ∧ !(s.rgnAt r).halt then s.envOpen r else s
    else s
  s.mirShow

/-- The safe boundary of the pair's fields: the cut (R357). -/
def State.mirApply (s : State) : State :=
  let s := ((s.applyLive MIR_EPOCH_ACK_LIM_MS).applyLive MIR_EPOCH_LOG_MAX).applyLive MIR_EPOCH_EPOCH_US
  let s := (List.range 16).foldl (fun t j =>
    let old := t.plMode j
    let t := t.applyLive (MIR_PL_CFG_MODE j)
    if t.plMode j = old then t else t.plSetMode j) s
  (List.range 64).foldl (fun t r =>
    let t := ((t.applyLive (MIR_RGN_PL r)).applyLive (MIR_RGN_PEER r)).applyLive (MIR_RGN_MODE r)
    t.rgnSetMode r) s

/-- Cuts come: the link is up and a pair lease is a source. -/
def State.cutsRun (s : State) : Bool := decide (s.link = 2 ∨ s.link = 3) && !(s.pls 1 [1, 2]).isEmpty

/-- A write of a field whose boundary is the next cut: it waits for the cut while cuts come, and otherwise applies at once. -/
def State.mirLive (s : State) (l : List (Fld × Nat)) : State :=
  if s.cutsRun then l.foldl (fun t e => t.writeLive e.1 e.2) s else (s.setFs l).mirApply

/-- MIR_PLj_CFG.MODE: a first MODE applies as the others do; here the mode takes effect with what follows from it. -/
def State.plModeWrite (s : State) (j v : Nat) : State :=
  if s.cutsRun then s.writeLive (MIR_PL_CFG_MODE j) v
  else
    let old := s.plMode j
    let s := s.setF (MIR_PL_CFG_MODE j) v
    if v % 4 = old then s else s.plSetMode j

/-- MIR_RGNr: STANDBY only while the region is FREE, otherwise the write is ignored and logged (R344). -/
def State.mirRgnWrite (s : State) (m : Master) (r md pl peer : Nat) : State :=
  if md = 2 ∧ s.f (MIR_RGN_MODE r) ≠ 2 ∧ s.rState r ≠ 0 then s.logDrop m .badCode (MIR_RGN r)
  else
    let l := [(MIR_RGN_MODE r, md), (MIR_RGN_PL r, pl), (MIR_RGN_PEER r, peer)]
    if s.cutsRun then l.foldl (fun t e => t.writeLive e.1 e.2) s else (s.setFs l).rgnSetMode r

/-! ## Image streams (R345) -/

def imageLen : Nat := 64 + 65536 + 786432

/-- Bytes [off, off + n) of a region's image stream. -/
def State.imageSlice (s : State) (r off n : Nat) : List Byte :=
  let pd := s.pdig r
  let fl := s.f (CFG_BAL_PAUSED r) + 2 * s.f (CFG_BAL_CONSISTENT r) + 4 * s.f (CFG_BAL_INFLIGHT r)
    + 8 * s.f (CFG_BAL_FORCED r) + 16 * b2n (s.balMeta r).reloc
  (List.range n).map fun i =>
    let o := off + i
    if o < 48 then (pd[o]?).getD 0
    else if o < 64 then BitVec.ofNat 8 (if o = 48 then fl else if o = 49 then fl / 256 else 0)
    else SMap.get (fun _ => 0) s.cap.bal (imgBase r + (o - 64))

/-- The IMAGE frames of a region: 4,096 bytes each, the last one shorter. -/
def imageFrames (j r e : Nat) : List (Nat × Nat × Nat × Nat) := (List.range 209).map fun i => (j, r, e, 4096 * i)

/-! ## Sending (R340, R342, R343) -/

/-- The transmitter may send: the link is UP, or trains and its lanes have locked. -/
def State.mirMaySend (s : State) : Bool := decide (s.link = 2) || (decide (s.link = 1) && s.mir.trained)

/-- Pair leases whose range is still being read for seeding. -/
def State.seeding (s : State) : List Nat := (s.pls 1 [1]).filter fun j => decide (nget s.mir.seed j < s.plSize j)

/-- Each source's frame: 0 control, 1 EFFECT, 2 WLOG and SEED, 3 IMAGE (R343). -/
def State.mirHas (s : State) (i : Nat) : Bool :=
  match i with
  | 0 => !s.mir.ctl.isEmpty
  | 1 => decide (s.link = 2 ∧ s.mir.effSent < s.heldFx.length)
  | 2 => decide (s.link = 2) && (!s.mir.wl.isEmpty || !s.seeding.isEmpty)
  | _ => decide (s.link = 2) && !s.mir.img.isEmpty

/-- Sources with a frame raise their request at the transmit arbiter. -/
def State.mirRaise (s : State) : State :=
  if s.mirMaySend then
    match ((List.range 4).filter fun i => s.mirHas i && !s.arbStands .mirror i).map fun i => ArbAsk.mk i 0 0 0 with
    | [] => s
    | l => s.arbRequest .mirror l
  else s

/-- Drop the oldest frames of the transmit log until it fits in 1 GiB; the frame count bounds the recursion. -/
def fitLog : Nat → List (Nat × MFrame) → Nat → List (Nat × MFrame) × Nat
  | 0, l, b => (l, b)
  | n + 1, l, b =>
    if b ≤ 2 ^ 30 then (l, b)
    else match l with
      | [] => ([], 0)
      | x :: t => fitLog n t (b - (x.2.data.length + 48))

/-- The transmit log overflows: every pair lease reseeds (R350). -/
def State.mirOverrun (s : State) : State :=
  if s.mir.logBytes ≤ 2 ^ 30 then s
  else
    let r := fitLog s.mir.log.length s.mir.log s.mir.logBytes
    let s := s.updMir fun m => { m with log := r.1, logBytes := r.2 }
    (s.pls 1 [1, 2]).foldl (fun t j => (t.plSeed j).raise .MIR_OVERRUN true (t.plLease j) noInst) s

/-- The link leaves UP, RETRAIN or TRAIN for state v with a cause: MIR_LINK_DOWN once, the key is used up, frames waiting are
dropped (R339, R342). -/
def State.linkLeave (s : State) (v err : Nat) : State :=
  let was := s.link
  let s := s.setFs [(MIR_STATUS_LINK, v), (MIR_STATUS_WIDTH, 0), (MIR_STATUS_ERR, err)]
  let s := s.updMir fun m => { m with
    keySet := if was = 2 ∨ was = 3 then 0 else m.keySet
    ctl := [], wl := [], img := [], log := [], logBytes := 0, ended := none, unacked := false, endDue := false, cutting := false
    give := [], given := [], retrying := false, trained := false, own := none, expect := none
    rx := [], ends := [], downed := true }
  let s := s.setArb .mirror { s.arb .mirror with owner := none, spool := [], held := [], resume := [], beats := 0 }
  s.raise .MIR_LINK_DOWN false 0 noInst

/-- The takeover of pair lease j is called for (R354 step 1): frames of uncommitted epochs are discarded. -/
def State.takeover (s : State) (j : Nat) : State :=
  let c := s.f MIR_EPOCH_CMT_EPOCH
  s.updMir fun m => { m with
    takes := if m.takes.contains j then m.takes else m.takes ++ [j]
    rlog := m.rlog.filter fun x => decide (x.pl ≠ j) || (decide (x.epoch ≤ c) && m.applying.isSome)
    keep := m.keep.filter fun x => decide (x.pl ≠ j ∨ x.epoch ≤ c) }

/-- R352 with the link not UP: `failed` says that PAIR_FAIL_IN is high. A device that has declared itself failed sends nothing
for its sources (R334). A standby that is not ARMED cannot be taken over (R350). -/
def State.mirDecide (s : State) (failed : Bool) : State :=
  let s := s.updMir fun m => { m with win := false }
  let s := if s.bit MIR_STATUS_SELF_FAILED then s else (s.pls 1 [1, 2]).foldl State.plSolo s
  (s.pls 2 [1, 2]).foldl (fun t j =>
    if failed ∧ t.plState j = 2 then t.takeover j else if t.mir.takes.contains j then t else t.plStale j 0) s

/-- The link leaves UP or RETRAIN: the window of R352 runs, or the level of PAIR_FAIL_IN decides at once. -/
def State.linkDown (s : State) (v err : Nat) : State :=
  let was := s.link
  let s := (s.linkLeave v err).applyLive MIR_XP_LINK_TAKE_WIN_US
  if was = 2 ∨ was = 3 then
    if s.bit MIR_STATUS_FAIL_IN then s.mirDecide true else s.updMir fun m => { m with win := true }
  else s

/-- Put a frame on the link with the next SEQ, and keep it in the transmit log (R340, R342). -/
def State.mirSend (s : State) (x : MFrame) : State :=
  let q := s.seqTx
  let s := { s with out := s.out ++ [Out.mirror (s.mirBytes q x)] }
  let s := (s.setSeqTx (q + 1)).updMir fun m => { m with log := m.log ++ [(q, x)], logBytes := m.logBytes + x.data.length + 48 }
  let s := s.mirOverrun
  if q + 1 = 2 ^ 63 then s.raise .MIR_SEQ_WARN false 0 noInst
  else if q + 1 = 2 ^ 64 then s.linkDown 5 4 else s

/-- EPOCH_END follows the last IMAGE frame of its epoch (R343). -/
def State.mirEndSent (s : State) : State :=
  match s.mir.ended with
  | some e =>
    if s.mir.img.isEmpty then
      let x : MFrame := ⟨7, noPl, e.epoch, e.wl + e.img * 2 ^ 32, e.eff, leBytes 8 e.mask⟩
      s.updMir fun m => { m with ended := none, ctl := m.ctl ++ [x] }
    else s
  | none => s

/-- The next SEED frame of a pair lease: 512 bytes of its range read now (R350). -/
def State.seedNext (s : State) (j : Nat) : State :=
  let o := nget s.mir.seed j
  let r := s.mirRead (s.plLease j) (s.plBase j + o) 512
  let s := r.1.setF (MIR_PL_STATUS_SEED j) ((o + 512) / 2 ^ 26)
  let s := s.updMir fun m => { m with
    seed := nput m.seed j (o + 512)
    seedEpoch := if s.plSize j ≤ o + 512 then nput m.seedEpoch j (s.openEpoch + 1) else m.seedEpoch }
  s.mirSend ⟨4, j, s.openEpoch, o, 0, r.2.1⟩

/-- Send the next frame of source i. -/
def State.mirSendFrom (s : State) (i : Nat) : State :=
  match i with
  | 0 =>
    match s.mir.ctl with
    | [] => s
    | x :: t =>
      let s := s.updMir fun m => { m with ctl := t, retrying := if x.typ = 0x0A then false else m.retrying }
      (if x.typ = 0x0A then s.count MIR_COUNT_REPLAYS 1 else s).mirSend x
  | 1 =>
    match s.heldFx[s.mir.effSent]? with
    | none => s
    | some h =>
      let j := (s.fencePl h.lease).getD noPl
      (s.updMir fun m => { m with effSent := m.effSent + 1 }).mirSend ⟨6, j, h.epoch, 0, 0, h.toBytes⟩
  | 2 =>
    match s.mir.wl with
    | x :: t => (s.updMir fun m => { m with wl := t }).mirSend x
    | [] => match s.seeding with | j :: _ => s.seedNext j | [] => s
  | _ =>
    match s.mir.img with
    | [] => s
    | (j, r, e, o) :: t =>
      let s := s.updMir fun m => { m with img := t }
      (s.mirSend ⟨5, j, e, r, o, s.imageSlice r o (min 4096 (imageLen - o))⟩).mirEndSent

/-- A beat of the transmit arbiter completes: the owner's frame is sent (R343). -/
def State.mirBeat (s : State) : State :=
  let s := s.mirRaise
  match (s.arb .mirror).owner with
  | none => s
  | some o =>
    let s := s.mirSendFrom o.idx
    if s.mirMaySend then (s.arbBeat .mirror (s.mirHas o.idx)).mirRaise else s

/-! ## Epochs of the sender (R346) -/

/-- Source regions of every pair lease that is seeding or armed. -/
def State.mirRegions (s : State) : List Nat := (s.pls 1 [1, 2]).flatMap s.srcRegions

/-- A region that the pair keeps PAUSED: its lease is being given or is given, or the device has declared itself failed. -/
def State.mirPaused (s : State) (r : Nat) : Bool :=
  let j := s.eff (MIR_RGN_PL r)
  decide (s.eff (MIR_RGN_MODE r) = 1) &&
    (s.bit MIR_STATUS_SELF_FAILED || s.mir.given.contains j || decide (s.plMode j = 1 ∧ s.plState j = 5))

/-- The paused close of a region that then stays PAUSED (R334, R351). A close or capture under way carries it there. -/
def State.mirPause (s : State) (r : Nat) : State :=
  let s := s.updRgn r fun x => { x with halt := true }
  if s.rState r = 2 ∧ !s.underCapture r then (s.setRState r 3).envClose r 4 else s

/-- The open epoch ends with the images of regions l (R346 steps 3 and 4). -/
def State.mirCut (s : State) (l : List Nat) : State :=
  let s := s.updMir fun m => { m with cutting := false }
  if l.any fun r => s.bit (CFG_BAL_INFLIGHT r) || s.bit (CFG_BAL_FORCED r) || !s.bit (CFG_BAL_CONSISTENT r) then
    s.count MIR_COUNT_RETRIES 1
  else
    let e := s.openEpoch
    let mask := l.foldl (fun n r => n + 2 ^ r) 0
    let s := s.updMir fun m => { m with
      ended := some ⟨e, m.wlCnt, 209 * l.length, m.effCnt, mask⟩
      img := m.img ++ l.flatMap fun r => imageFrames (s.eff (MIR_RGN_PL r)) r e
      wlCnt := 0, effCnt := 0, unacked := true, given := m.given ++ m.give, give := [] }
    let s := s.setF MIR_EPOCH_TX_EPOCH (e + 1)
    let s := (s.mir.given.flatMap s.srcRegions).foldl State.mirPause s
    s.mirApply.mirEndSent

/-- The open epoch is to end (R346): it waits for ACK of the one before and for the capture arbiter's grant; then a joint paused
capture of every source region begins. -/
def State.mirEnd (s : State) : State :=
  if s.link ≠ 2 ∨ (s.pls 1 [1, 2]).isEmpty then s
  else if s.mir.unacked ∨ s.mir.cutting then s.updMir fun m => { m with endDue := true }
  else
    let l := s.mirRegions
    if l.isEmpty then (s.updMir fun m => { m with endDue := false }).mirCut []
    else
      let s := s.arbAsk .capture ⟨1, 0, 0, 0⟩
      if s.arbOwns .capture 1 ∧ s.cap.op = 0 then (s.updMir fun m => { m with endDue := false, cutting := true }).capBegin 2 l true true
      else s.updMir fun m => { m with endDue := true }

/-- The mirror controller gives back the capture engine when it has no use for the grant; firmware's OP that waits starts. -/
def State.capPass (s : State) : State :=
  let s := if s.arbOwns .capture 1 ∧ s.cap.op = 0 then s.arbBeat .capture false else s
  s.capServe

/-- What follows the capture's progress: the cut once every region has closed, another attempt later when the capture has
failed; an end that waited begins. -/
def State.mirPump (s : State) : State :=
  let s := if s.mir.cutting then
      if s.cap.op = 0 then (s.updMir fun m => { m with cutting := false }).count MIR_COUNT_RETRIES 1
      else if s.cap.mirror ∧ s.cap.phase = 3 then s.mirCut s.cap.regions else s
    else s
  let s := if s.mir.endDue ∧ !s.mir.unacked ∧ !s.mir.cutting then s.mirEnd else s
  s.capPass.mirRaise

/-! ## Receiving (R340, R347) -/

/-- A frame that is not accepted: it is discarded, and RETRY with the expected SEQ is sent once. -/
def State.mirBad (s : State) : State :=
  if s.mir.retrying then s
  else (s.pushCtl 0x0A s.seqRx 0).updMir fun m => { m with retrying := true }

def rxKey (e kind : Nat) : Nat := 4 * e + kind

/-- An epoch is committed when its EPOCH_END and every frame that it counts have come (R347). -/
def State.mirCommit (s : State) : State :=
  match s.mir.applying, s.mir.ends with
  | none, e :: t =>
    if nget s.mir.rx (rxKey e.epoch 0) = e.wl ∧ nget s.mir.rx (rxKey e.epoch 1) = e.img
        ∧ nget s.mir.rx (rxKey e.epoch 2) = e.eff then
      let s := (s.setF MIR_EPOCH_CMT_EPOCH e.epoch).updMir fun m => { m with applying := some e, ends := t }
      let s := (List.range 64).foldl (fun t r =>
        if t.eff (MIR_RGN_MODE r) = 2 ∧ e.mask / 2 ^ t.eff (MIR_RGN_PEER r) % 2 = 1 then t.setF (MIR_RGN_IMG r) 0 else t) s
      (s.pls 2 [1]).foldl (fun t j =>
        let se := nget t.mir.seedEpoch j
        if se ≠ 0 ∧ se ≤ e.epoch + 1 then t.setPlState j 2 else t) s
    else s
  | _, _ => s

/-- A frame arrives with a valid tag (R340): accepted with the SEQ expected, while the link is UP. -/
def State.mirRecv (s : State) (seq : Nat) (act : State → State) : State :=
  if s.link ≠ 2 then s
  else if seq ≠ s.seqRx then s.mirBad.mirRaise
  else (act (s.setSeqRx (seq + 1))).mirCommit.mirRaise

def State.rxCount (s : State) (e kind : Nat) : State :=
  s.updMir fun m => { m with rx := nput m.rx (rxKey e kind) (nget m.rx (rxKey e kind) + 1) }

/-- Data bytes at an offset of a standby range, with the checks of R350 and R357: outside the range the pair lease goes STALE
with RANGE; an uncorrectable word makes it STALE (R355). -/
def State.rangePut (s : State) (j off : Nat) (d : List Byte) (be : List Bool) : State :=
  if s.plSize j < off + d.length then s.plStale j 2
  else
    let r := s.mirWrite (s.plLease j) (s.plBase j + off) d be
    if r.2 then r.1 else r.1.plStale j 0

/-- Byte enables and data of a WLOG payload. -/
def wlogBe (b : List Byte) : List Bool := (b.take 64).flatMap fun x => (List.range 8).map fun i => decide (x.toNat / 2 ^ i % 2 = 1)
def wlogData (b : List Byte) : List Byte := b.drop 64

def State.wlogPut (s : State) (x : MFrame) : State :=
  let d := wlogData x.data
  s.rangePut x.pl x.arg0 d ((wlogBe x.data).take d.length)

/-- A WLOG frame (R347, R350): applied at once to a range that is being seeded, logged for an ARMED one. -/
def State.mirWlog (s : State) (x : MFrame) : State :=
  let s := s.rxCount x.epoch 0
  if s.plMode x.pl = 2 ∧ s.plState x.pl = 1 then s.wlogPut x
  else if s.plMode x.pl = 2 ∧ s.plState x.pl = 2 then s.updMir fun m => { m with rlog := m.rlog ++ [x] }
  else s

/-- A SEED frame (R350): a first one of a new seeding takes an ARMED pair lease back to SEEDING. -/
def State.mirSeed (s : State) (x : MFrame) : State :=
  if s.plMode x.pl ≠ 2 then s
  else
    let s := if x.arg0 = 0 ∧ s.plState x.pl = 2 then s.plSeed x.pl else s
    if s.plState x.pl ≠ 1 then s
    else
      let s := s.rangePut x.pl x.arg0 x.data []
      if s.plState x.pl ≠ 1 then s
      else
        let e := x.arg0 + x.data.length
        (s.setF (MIR_PL_STATUS_SEED x.pl) (e / 2 ^ 26)).updMir fun m => { m with
          seedEpoch := if e = s.plSize x.pl then nput m.seedEpoch x.pl (x.epoch + 1) else m.seedEpoch }

def stageKey (r o : Nat) : Nat := r * 2 ^ 20 + o

/-- An IMAGE frame (R345): to the staging of the standby region whose PEER is the source; a PDIGEST that differs makes the pair
lease STALE. -/
def State.mirImage (s : State) (x : MFrame) : State :=
  let s := s.rxCount x.epoch 1
  match (s.stbyRegions x.pl).find? fun r => decide (s.eff (MIR_RGN_PEER r) = x.arg0 % 64) with
  | none => s
  | some r =>
    if s.plState x.pl ≠ 1 ∧ s.plState x.pl ≠ 2 then s
    else if x.arg1 = 0 ∧ x.data.take 48 ≠ s.pdig r then s.plStale x.pl 3
    else s.updMir fun m => { m with stage := putBytes m.stage (stageKey r x.arg1) x.data }

/-- The staged image of region r moves into its ballast (R347). -/
def State.imageMove (s : State) (r : Nat) : State :=
  let a := stageKey r 0
  let b (o : Nat) : Byte := SMap.get (fun _ => 0) s.mir.stage (a + o)
  let fl := (b 48).toNat
  let s := s.updCap fun c => { c with
    bal := (s.mir.stage.filter fun e => decide (a + 64 ≤ e.1 ∧ e.1 < a + imageLen)).foldl
      (fun m e => SMap.put (fun _ => (0 : Byte)) m (imgBase r + (e.1 - a - 64)) e.2)
      (SMap.replaceRange c.bal [] (imgBase r) (ffSize + ramSize)) }
  let s := (s.eccWriteRange (balMacro r) 0 106496).setBalMeta r
    ⟨s.eff (MIR_RGN_PEER r), (List.range 48).map b, decide (fl / 16 % 2 = 1), s.aonTicks⟩
  let s := s.setFs [(CFG_BAL_VALID r, 1), (CFG_BAL_PAUSED r, fl % 2), (CFG_BAL_CONSISTENT r, fl / 2 % 2),
    (CFG_BAL_INFLIGHT r, fl / 4 % 2), (CFG_BAL_FORCED r, fl / 8 % 2), (CFG_BAL_SEQ r, (s.f (CFG_BAL_SEQ r) + 1) % 256),
    (MIR_RGN_IMG r, 1)]
  s.updMir fun m => { m with stage := SMap.replaceRange m.stage [] a (2 ^ 20) }

/-- The moves and the apply of the committed epoch end; ACK is sent (R347). -/
def State.mirApplied (s : State) : State :=
  match s.mir.applying with
  | none => s
  | some e =>
    let s := ((List.range 64).filter fun r => decide (s.eff (MIR_RGN_MODE r) = 2 ∧ e.mask / 2 ^ s.eff (MIR_RGN_PEER r) % 2 = 1)
      && [1, 2].contains (s.plState (s.eff (MIR_RGN_PL r)))).foldl State.imageMove s
    let due := s.mir.rlog.filter fun x => decide (x.epoch ≤ e.epoch)
    let s := due.foldl (fun t x => if t.plMode x.pl = 2 ∧ t.plState x.pl = 2 then t.wlogPut x else t) s
    let s := s.updMir fun m => { m with
      rlog := m.rlog.filter (fun x => decide (e.epoch < x.epoch)), applying := none
      rx := m.rx.filter fun k => decide (e.epoch < k.1 / 4) }
    let s := s.updMir fun m => { m with ctl := if s.link = 2 then m.ctl ++ [⟨8, noPl, e.epoch, 0, 0, []⟩] else m.ctl }
    s.mirCommit.mirRaise

/-- GIVE is sent for pair lease j at an epoch, and it is GIVEN (R351). -/
def State.giveSend (s : State) (j e : Nat) : State :=
  (s.updMir fun m => { m with ctl := m.ctl ++ [⟨0x0B, j, e, 0, 0, []⟩] }).setPlState j 5

/-- ACK of the epoch that waits for it (R347, R348, R350, R351). -/
def State.mirAck (s : State) (e : Nat) : State :=
  if !s.mir.unacked ∨ s.mir.ended.isSome ∨ e + 1 ≠ s.openEpoch then s
  else
    let s := s.setF MIR_EPOCH_ACK_EPOCH e
    let left := s.mir.log.filter fun x => decide (e < x.2.epoch)
    let s := s.updMir fun m => { m with
      unacked := false, log := left, logBytes := left.foldl (fun n x => n + x.2.data.length + 48) 0 }
    let s := s.releaseFx fun h => decide (h.epoch ≤ e)
    let s := s.updMir fun m => { m with ctl := m.ctl ++ [⟨9, noPl, e, 0, 0, []⟩] }
    let s := (s.pls 1 [1]).foldl (fun t j =>
      let se := nget t.mir.seedEpoch j
      if se ≠ 0 ∧ se ≤ e + 1 then t.setPlState j 2 else t) s
    let s := (s.mir.given.filter fun j => decide (s.plState j = 2)).foldl (fun t j => t.giveSend j e) s
    (s.updMir fun m => { m with given := [] }).mirPump

/-- RETRY (R340): frames from that SEQ are sent again, byte for byte; one no longer kept fails the link. -/
def State.mirRetry (s : State) (n : Nat) : State :=
  if n = s.seqTx then s
  else if s.mir.log.any (fun x => x.1 = n) then
    { s with out := s.out ++ (s.mir.log.filter fun x => decide (n ≤ x.1)).map fun x => Out.mirror (s.mirBytes x.1 x.2) }
  else s.linkDown 5 8

/-- GIVE arrives (R352, R356). -/
def State.mirGive (s : State) (j : Nat) : State :=
  if s.plMode j ≠ 2 then s
  else if s.plState j = 2 then s.takeover j
  else if s.plState j = 1 ∨ s.plState j = 3 then s.raise .MIR_STALE true (s.plLease j) noInst
  else s

/-- A wire test that the partner announced has ended without its rise being seen (R353). -/
def State.wireCheck (s : State) : State :=
  match s.mir.expect with
  | some (_, false) => ((s.updMir fun m => { m with expect := none }).count MIR_COUNT_WIRE 1).raise .MIR_WIRE_FAULT false 0 noInst
  | _ => s.updMir fun m => { m with expect := none }

/-! ## A region opens -/

/-- The last step of an open (02 R56): the region is ACTIVE. The first personality of a load completes here. -/
def State.envOpened (s : State) (r : Nat) : State :=
  let s := ((s.setEnvStep r 0).setEnvCause r 0).setFs [(FAB_RGN_ENV_STATUS_OPEN (r / 8) (r % 8), 1), (HUB_RGN_STATE_ENV r, 1)]
  ((s.setRState r 2).updRgn r fun x => { x with pers := true, zeroed := false, conn := true, hold := s.standby r && x.hold }).seams r

/-- The takeover of pair lease j completes (R354 steps 3 to 5). -/
def State.takeoverEnd (s : State) (j : Nat) : State :=
  if !s.mir.takes.contains j ∨ s.mir.applying.isSome then s
  else
    let l := (s.stbyRegions j).filter fun r => s.bit (MIR_RGN_HELD r)
    let s := l.foldl (fun t r =>
      let t := ((t.ramFromImage r).setF (MIR_RGN_HELD r) 0).updRgn r fun x => { x with hold := false }
      ((t.setEnvSrc r 1).envOpen r).envOpened r) s
    let fx := s.mir.keep.filter fun x => decide (x.pl = j)
    let s := fx.foldl (fun t x => t.fxRelease (fxOfBytes x.data)) s
    let s := s.updMir fun m => { m with
      keep := m.keep.filter (fun x => decide (x.pl ≠ j)), takes := m.takes.filter (· ≠ j)
      rlog := m.rlog.filter fun x => decide (x.pl ≠ j) }
    (s.setPlState j 6).raise .MIR_TAKEOVER true (s.plLease j) noInst

/-! ## The device declares itself failed (R334) -/

def State.selfFail (s : State) : State :=
  if s.bit MIR_STATUS_SELF_FAILED then s
  else
    let s := s.setFs [(MIR_STATUS_FAIL_OUT, 1), (MIR_STATUS_SELF_FAILED, 1)]
    let s := ((List.range 16).filter fun j => decide (s.plMode j = 1)).flatMap s.srcRegions |>.foldl State.mirPause s
    let s := s.dropFx fun _ => true
    let s := if s.link = 1 ∨ s.link = 2 ∨ s.link = 3 then s.linkDown 0 0 else s
    s.raise .MIR_SELF_FAIL false 0 noInst

/-! ## Loss of a die (R351, R355) -/

/-- A source region of an ARMED pair lease is lost: the rest of its regions close, its effects are discarded, GIVE names the
last epoch acknowledged. -/
def State.mirSourceLost (s : State) (j : Nat) : State :=
  let s := (s.srcRegions j).foldl State.mirPause s
  let s := (s.dropFx fun h => decide (h.lease = s.plLease j)).fxRefill
  ((s.giveSend j (s.f MIR_EPOCH_ACK_EPOCH)).raise .MIR_GIVEN true (s.plLease j) noInst).mirRaise

/-- Regions of a die have entered LOST. -/
def State.mirDieLost (s : State) (d : Nat) : State :=
  let here (md j : Nat) : Bool := (List.range 8).any fun i =>
    decide (s.eff (MIR_RGN_MODE (8 * d + i)) = md ∧ s.eff (MIR_RGN_PL (8 * d + i)) = j)
  let s := ((s.pls 1 [2]).filter (here 1)).foldl State.mirSourceLost s
  let s := ((s.pls 2 [1, 2]).filter (here 2)).foldl (fun t j => t.plStale j 0) s
  (List.range 8).foldl (fun t i => t.setF (MIR_RGN_HELD (8 * d + i)) 0) s

/-! ## Commands -/

/-- MIR_CTRL.CMD START (R339). -/
def State.mirStart (s : State) : State :=
  if ¬ (s.link = 0 ∨ s.link = 4 ∨ s.link = 5) ∨ s.bit MIR_STATUS_SELF_FAILED ∨ s.bit CFG_BOOT_STATUS_RIP then
    s.setF MIR_STATUS_ERR 6
  else if s.mir.keySet ≠ 255 then s.setF MIR_STATUS_ERR 1
  else
    let s := s.updMir fun m => { m with
      key := (List.range 8).flatMap fun i => Crypto.leBytesN 4 (nget m.words i)
      ctl := [], wl := [], img := [], log := [], logBytes := 0, wlCnt := 0, ended := none, unacked := false, endDue := false
      cutting := false, give := [], given := [], rx := [], ends := [], retrying := false, win := false, downed := false
      trained := false, badQuads := [], own := none, expect := none }
    let s := s.setArb .mirror Arb.empty
    (s.setSeqTx 0).setSeqRx 0 |>.setFs [(MIR_STATUS_ERR, 0), (MIR_STATUS_LINK, 1), (MIR_STATUS_WIDTH, 0)]

def execMirStart (m : Master) (s : State) : Host.Outcome State Fault Refusal := .next (s.viaWrite m MIR_CTRL State.mirStart)

/-- MIR_CTRL.CMD STOP (R356): no window. -/
def State.mirStop (s : State) : State :=
  if s.link = 1 ∨ s.link = 2 ∨ s.link = 3 then
    let s := s.linkLeave 0 0
    let s := (s.pls 1 [1, 2]).foldl State.plSolo s
    ((s.pls 2 [1, 2]).filter fun j => !s.mir.takes.contains j).foldl (fun t j => t.plStale j 0) s
  else s.setF MIR_STATUS_ERR 6

def execMirStop (m : Master) (s : State) : Host.Outcome State Fault Refusal := .next (s.viaWrite m MIR_CTRL State.mirStop)

/-- MIR_CTRL.CMD SELF_FAIL (R334). -/
def execMirCmdSelfFail (m : Master) (s : State) : Host.Outcome State Fault Refusal :=
  .next (s.viaWrite m MIR_CTRL State.selfFail)

/-- The lanes lock and deskew: HELLO is sent (R337, R339). -/
def execMirTrainEnd (s : State) : Host.Outcome State Fault Refusal :=
  .next (if s.link = 1 ∧ !s.mir.trained then
      let s := (s.updMir fun m => { m with trained := true }).setF MIR_STATUS_WIDTH 2
      (s.pushCtl 1 s.serial (s.f MIR_STATUS_ROLE + 0x100)).mirRaise
    else s)

/-- The lanes do not train within 150 µs (R339). -/
def execMirTrainTimeout (s : State) : Host.Outcome State Fault Refusal :=
  .next (if s.link = 1 ∧ !s.mir.trained then s.linkDown 5 5 else s)

/-- HELLO arrives (R339): its tag, the partner's ROLE. -/
def execMirHello (tagOk : Bool) (role : Nat) (s : State) : Host.Outcome State Fault Refusal :=
  .next (if s.link ≠ 1 ∨ !s.mir.trained then s
    else if !tagOk then s.linkDown 5 3
    else if role % 2 = s.f MIR_STATUS_ROLE then s.linkDown 5 2
    else
      let s := ((s.setSeqRx 1).setF MIR_STATUS_LINK 2).raise .MIR_LINK_UP false 0 noInst
      let s := s.mirApply
      ((List.range 16).filter fun j => decide (s.plMode j = 1 ∨ s.plMode j = 2) && [0, 1, 3, 4].contains (s.plState j)).foldl
        State.plSeed s |>.mirRaise)

/-- IDLE arrives (R338, R353): a level that disagrees with the one sampled here is a wire fault. -/
def execMirIdle (seq : Nat) (failOut failIn : Bool) (s : State) : Host.Outcome State Fault Refusal :=
  .next (s.mirRecv seq fun s =>
    if b2n failOut ≠ s.f MIR_STATUS_FAIL_IN ∨ b2n failIn ≠ s.f MIR_STATUS_FAIL_OUT then s.raise .MIR_WIRE_FAULT false 0 noInst
    else s)

/-- A 1 µs period without a frame: IDLE is sent (R340). -/
def execMirIdleTimer (s : State) : Host.Outcome State Fault Refusal :=
  .next (if s.link = 2 then
      (s.pushCtl 2 s.nocTime (s.f MIR_EPOCH_CMT_EPOCH + s.f MIR_STATUS_FAIL_OUT * 2 ^ 32 + s.f MIR_STATUS_FAIL_IN * 2 ^ 33)).mirRaise
    else s)

/-- A frame is discarded: its tag fails, or its SEQ is out of order (R340). -/
def execMirFrameBad (tagFails : Bool) (s : State) : Host.Outcome State Fault Refusal :=
  .next (if s.link = 2 then (if tagFails then s.count MIR_COUNT_TAGFAIL 1 else s).mirBad.mirRaise else s)

def execMirWlog (seq pl epoch off : Nat) (payload : List Byte) (s : State) : Host.Outcome State Fault Refusal :=
  .next (s.mirRecv seq fun s => s.mirWlog ⟨3, pl % 16, epoch, off, 0, payload⟩)

def execMirSeed (seq pl epoch off : Nat) (payload : List Byte) (s : State) : Host.Outcome State Fault Refusal :=
  .next (s.mirRecv seq fun s => s.mirSeed ⟨4, pl % 16, epoch, off, 0, payload⟩)

def execMirImage (seq pl epoch rgn off : Nat) (payload : List Byte) (s : State) : Host.Outcome State Fault Refusal :=
  .next (s.mirRecv seq fun s => s.mirImage ⟨5, pl % 16, epoch, rgn, off, payload⟩)

/-- An EFFECT frame is kept for its epoch (R349). -/
def execMirEffect (seq pl epoch : Nat) (payload : List Byte) (s : State) : Host.Outcome State Fault Refusal :=
  .next (s.mirRecv seq fun s => (s.rxCount epoch 2).updMir fun m => { m with keep := m.keep ++ [⟨6, pl % 16, epoch, 0, 0, payload⟩] })

/-- EPOCH_END arrives (R347). -/
def execMirEpochEnd (seq epoch wl img eff mask : Nat) (s : State) : Host.Outcome State Fault Refusal :=
  .next (s.mirRecv seq fun s => s.updMir fun m => { m with ends := m.ends ++ [⟨epoch, wl, img, eff, mask⟩] })

def execMirCommitApplyEnd (s : State) : Host.Outcome State Fault Refusal := .next s.mirApplied

def execMirAck (seq epoch : Nat) (s : State) : Host.Outcome State Fault Refusal :=
  .next (s.mirRecv seq fun s => s.mirAck epoch)

/-- REL arrives: the effects of that epoch are discarded (R349). -/
def execMirRel (seq epoch : Nat) (s : State) : Host.Outcome State Fault Refusal :=
  .next (s.mirRecv seq fun s => s.updMir fun m => { m with keep := m.keep.filter fun x => decide (epoch < x.epoch) })

def execMirRetry (seq first : Nat) (s : State) : Host.Outcome State Fault Refusal :=
  .next (s.mirRecv seq fun s => s.mirRetry first)

def execMirGive (seq pl : Nat) (s : State) : Host.Outcome State Fault Refusal :=
  .next (s.mirRecv seq fun s => s.mirGive (pl % 16))

/-- WIRE_TEST arrives (R353): a rise at the time it names is expected; an earlier test that saw none has failed. -/
def execMirWireTest (seq time : Nat) (s : State) : Host.Outcome State Fault Refusal :=
  .next (s.mirRecv seq fun s => s.wireCheck.updMir fun m => { m with expect := some (time, false) })

/-- Once in 1 ms: this side announces a test for the NOC_TIME given (R353). -/
def execMirWireTestTimer (time : Nat) (s : State) : Host.Outcome State Fault Refusal :=
  .next (if s.link = 2 then ((s.pushCtl 0x0C time 0).updMir fun m => { m with own := some time }).mirRaise else s)

/-- PAIR_FAIL_OUT is released for the test announced (R353). -/
def execWireTestRelease (s : State) : Host.Outcome State Fault Refusal :=
  .next (if s.mir.own.isSome then s.setF MIR_STATUS_FAIL_OUT 1 else s)

/-- 2 µs later it is driven low again, unless the device has declared itself failed (R353, R334). -/
def execWireTestReleaseEnd (s : State) : Host.Outcome State Fault Refusal :=
  .next (if s.mir.own.isSome then
      let s := s.updMir fun m => { m with own := none }
      if s.bit MIR_STATUS_SELF_FAILED ∨ s.bit CFG_BOOT_STATUS_RIP then s else s.setF MIR_STATUS_FAIL_OUT 0
    else s)

/-- No frame accepted for 10 µs while UP (R341). -/
def execMirLossTimer (s : State) : Host.Outcome State Fault Refusal :=
  .next (if s.link = 2 then s.linkDown 4 9 else s)

/-- Both quad pairs (Q8 and Q9, Q10 and Q11) have a lane that lost lock. -/
def Mir.noPair (m : Mir) : Bool := m.badQuads.any (· < 10) && m.badQuads.any (10 ≤ ·)

/-- A lane of the link: with 8 lanes, one of the quad pair that carries it (R341). -/
def State.mirUses (s : State) (lane : Nat) : Bool :=
  s.f MIR_STATUS_WIDTH ≠ 1 || !s.mir.badQuads.any fun q => decide (q < 10) == decide (lane < 40)

/-- A mirror lane loses lock: both sides retrain at 8 lanes (R341). -/
def execMirLaneLockLoss (lane : Nat) (s : State) : Host.Outcome State Fault Refusal :=
  .next (if (s.link = 2 ∨ s.link = 3) ∧ 32 ≤ lane ∧ lane < 48 ∧ s.mirUses lane then
      let s := s.updMir fun m => { m with badQuads := (lane / 4) :: m.badQuads }
      if s.mir.noPair then s.linkDown 4 9
      else if s.link = 2 then
        let s := (s.setF MIR_STATUS_LINK 3).applyLive MIR_XP_LINK_RETRAIN_US
        if s.bit MIR_STATUS_FAIL_IN then s.linkDown 4 9 else s
      else s
    else s)

/-- The retrain completes: 8 lanes, and frames from the first unacknowledged SEQ go again (R341). -/
def execMirRetrainEnd (s : State) : Host.Outcome State Fault Refusal :=
  .next (if s.link = 3 then
      let s := s.setFs [(MIR_STATUS_LINK, 2), (MIR_STATUS_WIDTH, 1)]
      ({ s with out := s.out ++ s.mir.log.map fun (x : Nat × MFrame) => Out.mirror (s.mirBytes x.1 x.2) }).mirRaise
    else s)

def execMirRetrainTimeout (s : State) : Host.Outcome State Fault Refusal :=
  .next (if s.link = 3 then s.linkDown 4 9 else s)

/-- The open epoch ends by time, log or fence fill (R346). -/
def execMirEpochTimer (s : State) : Host.Outcome State Fault Refusal := .next s.mirEnd.mirRaise

/-- ACK does not come within ACK_LIM (R346). -/
def execMirAckTimeout (s : State) : Host.Outcome State Fault Refusal :=
  .next (if s.link = 2 ∧ s.mir.unacked then s.linkDown 5 7 else s)

/-- PAIR_FAIL_IN rises (R352, R353, R356). -/
def execPairFailInRise (s : State) : Host.Outcome State Fault Refusal :=
  let s := s.setF MIR_STATUS_FAIL_IN 1
  .next (if s.link = 2 then
      match s.mir.expect with
      | some (t, false) => s.updMir fun m => { m with expect := some (t, true) }
      | _ => s.raise .MIR_FAIL_IN_SUSPECT false 0 noInst
    else if s.link = 3 then s.linkDown 4 9
    else if s.mir.win then s.mirDecide true else s)

/-- PAIR_FAIL_IN falls again (R333). -/
def execPairFailInFall (s : State) : Host.Outcome State Fault Refusal := .next (s.setF MIR_STATUS_FAIL_IN 0)

/-- The window of R352 ends. -/
def execTakeWinExpire (s : State) : Host.Outcome State Fault Refusal :=
  .next (if s.mir.win then s.mirDecide (s.bit MIR_STATUS_FAIL_IN) else s)

/-- The takeover of pair lease j has run its steps (R354). -/
def execTakeoverEnd (j : Nat) (s : State) : Host.Outcome State Fault Refusal := .next (s.takeoverEnd j)

/-- MIR_PLj_CFG.CMD GIVE (R351). -/
def State.plGive (s : State) (j : Nat) : State :=
  if s.plMode j = 1 ∧ s.plState j = 2 ∧ s.link = 2 then
    (s.updMir fun m => { m with give := if m.give.contains j then m.give else m.give ++ [j] }).mirEnd.mirRaise
  else s.setF (MIR_PL_STATUS_ERR j) 4

def execPlGive (m : Master) (j : Nat) (s : State) : Host.Outcome State Fault Refusal :=
  .next (s.viaWrite m (MIR_PL_CFG j) fun s => s.plGive j)

/-- MIR_PLj_CFG.CMD RESEED (R350). -/
def State.plReseed (s : State) (j : Nat) : State :=
  if s.link = 2 ∧ (s.plMode j = 1 ∨ s.plMode j = 2) then (s.plSeed j).mirRaise else s.setF (MIR_PL_STATUS_ERR j) 4

def execPlReseed (m : Master) (j : Nat) (s : State) : Host.Outcome State Fault Refusal :=
  .next (s.viaWrite m (MIR_PL_CFG j) fun s => s.plReseed j)

/-- A write of MIR_KEY_Wj (R339, R357): QUIET unless the link is DOWN, LOST or FAILED. -/
def State.mirKeyWrite (s : State) (j v : Nat) : State :=
  if s.link = 0 ∨ s.link = 4 ∨ s.link = 5 then
    s.updMir fun m => { m with words := nput m.words j v, keySet := setBitN m.keySet j true }
  else s.busy MIR_STATUS_FIELD_BUSY

end Sys2Proof.Machine
end

