-- ==== Sys2Proof/Machine/Fab.lean ====
section
/-! DEFINITION. The hard blocks of the fabric dies (02 R59 to R63): ring oscillators, small flash, serial ports; and the
reset of a die (R58, 15 R388). -/

namespace Sys2Proof.Machine
open Reg

def State.updFab (s : State) (g : Fab → Fab) : State := { s with fab := g s.fab }

/-! ## Ring oscillators (R60) -/

def State.rosc (s : State) (d n : Nat) : Rosc := SMap.get (fun _ => Rosc.empty) s.fab.rosc (2 * d + n)
def State.setRosc (s : State) (d n : Nat) (x : Rosc) : State :=
  s.updFab fun b => { b with rosc := SMap.put (fun _ => Rosc.empty) b.rosc (2 * d + n) x }

/-- EN is set: the output stays gated until it settles; the window that runs is not reported. -/
def State.roscEnable (s : State) (d n : Nat) : State :=
  if s.bit (FAB_ROSC_CTRL_EN d n) then s
  else (s.setF (FAB_ROSC_CTRL_EN d n) 1).setRosc d n { s.rosc d n with gated := true, skip := true }

/-- An expert TRIM returns to the code that the calibration loop holds, which the spec leaves open (R15, R60). -/
def State.roscBack (s : State) (d n : Nat) : State :=
  let s := (s.xbackNow (FAB_ROSC_TRIM_TRIM d n)).setF (FAB_ROSC_TRIM_TRIM d n) (s.free 8)
  s.freeNext.setRosc d n { s.rosc d n with expert := false }

/-- EN is cleared: the output stops low, VALID and COUNT are cleared. An expert TRIM whose return waited for this returns. -/
def State.roscDisable (s : State) (d n : Nat) : State :=
  let s := (s.setFs [(FAB_ROSC_CTRL_EN d n, 0), (FAB_ROSC_MEAS_VALID d n, 0), (FAB_ROSC_MEAS_COUNT d n, 0)]).setRosc d n
    { s.rosc d n with gated := false, skip := false }
  if s.xback.contains (FAB_ROSC_TRIM_TRIM d n).key then s.roscBack d n else s

/-- ROSC_ENABLE. -/
def execRoscEnable (m : Master) (d n : Nat) (s : State) : Host.Outcome State Fault Refusal :=
  .next (s.viaWrite m (FAB_ROSC_CTRL d n) fun s => s.roscEnable d n)

/-- ROSC_SETTLED: the output is released. -/
def execRoscSettled (d n : Nat) (s : State) : Host.Outcome State Fault Refusal :=
  .next (if s.bit (FAB_ROSC_CTRL_EN d n) then s.setRosc d n { s.rosc d n with gated := false } else s)

/-- ROSC_DISABLE. -/
def execRoscDisable (m : Master) (d n : Nat) (s : State) : Host.Outcome State Fault Refusal :=
  .next (s.viaWrite m (FAB_ROSC_CTRL d n) fun s => s.roscDisable d n)

/-- ROSC_WINDOW_END: a window of 256 AON ticks ends in which the oscillator made `cnt` cycles. COUNT and VALID follow a
complete window; the calibration loop then holds a code that the spec leaves open, unless an expert TRIM is held. -/
def execRoscWindowEnd (d n cnt : Nat) (s : State) : Host.Outcome State Fault Refusal :=
  let x := s.rosc d n
  .next (if !s.bit (FAB_ROSC_CTRL_EN d n) then s
    else
      let s := if x.skip ∨ x.gated then s.setRosc d n { x with skip := x.gated }
        else s.setFs [(FAB_ROSC_MEAS_COUNT d n, min cnt (2 ^ 20 - 1)), (FAB_ROSC_MEAS_VALID d n, 1)]
      if x.expert then s else (s.setF (FAB_ROSC_TRIM_TRIM d n) (s.free 8)).freeNext)

/-- FREQ_MHZ: stored between 50 and 400; taken while EN is 0. -/
def State.roscFreq (s : State) (d n v : Nat) : State :=
  if s.bit (FAB_ROSC_CTRL_EN d n) then s.busy (FAB_ROSC_MEAS_FIELD_BUSY d n)
  else s.setF (FAB_ROSC_CTRL_FREQ_MHZ d n) (min 400 (max 50 v))

/-- An expert TRIM is held as written (R15, R60); with EN set the write is not taken. -/
def State.roscTrim (s : State) (d n v : Nat) : State :=
  if s.bit (FAB_ROSC_CTRL_EN d n) then s.busy (FAB_ROSC_MEAS_FIELD_BUSY d n)
  else (s.setF (FAB_ROSC_TRIM_TRIM d n) v).setRosc d n { s.rosc d n with expert := true }

/-! ## Small flash (R61, R62) -/

def State.flPage (s : State) (d q : Nat) : FlPage := SMap.get (fun _ => FlPage.erased) s.fab.flash (128 * d + q)
def State.setFlPage (s : State) (d q : Nat) (x : FlPage) : State :=
  s.updFab fun b => { b with flash := SMap.put (fun _ => FlPage.erased) b.flash (128 * d + q) x }

/-- Sequence number b is higher than a, modulo 65,536. -/
def seqHigher (a b : Nat) : Bool :=
  let n := (b + 65536 - a) % 65536
  decide (1 ≤ n ∧ n ≤ 32767)

/-- The physical page that holds the valid copy of logical page p with the higher sequence number; of equal copies, 2p. -/
def State.flCopy (s : State) (d p : Nat) : Option Nat :=
  let a := s.flPage d (2 * p); let b := s.flPage d (2 * p + 1)
  if a.valid ∧ b.valid then some (if seqHigher a.seq b.seq then 2 * p + 1 else 2 * p)
  else if a.valid then some (2 * p) else if b.valid then some (2 * p + 1) else none

/-- The physical page that a WRITE of logical page p erases and programs: the one without the valid copy. -/
def State.flOther (s : State) (d p : Nat) : Nat :=
  match s.flCopy d p with
  | some q => if q = 2 * p then 2 * p + 1 else 2 * p
  | none => 2 * p

/-- Erase a physical page. -/
def State.flErase (s : State) (d q : Nat) : State := s.setFlPage d q { FlPage.erased with wear := (s.flPage d q).wear + 1 }

def State.flOp (s : State) (d : Nat) : Nat := nget s.fab.flOp d
def State.setFlOp (s : State) (d v : Nat) : State := s.updFab fun b => { b with flOp := nput b.flOp d v }

def State.flBuf (s : State) (d : Nat) : List Nat := (List.range 512).map fun j => s.f (FAB_FL_BUF_WORD d j)
def State.setFlBuf (s : State) (d : Nat) (l : List Nat) : State :=
  s.setFs ((List.range 512).map fun j => (FAB_FL_BUF_WORD d j, l.getD j 0xFFFFFFFF))

/-- A flash operation ends: BUSY clears, DONE and ERR are set, WEAR is that of the more-worn page. -/
def State.flEnd (s : State) (d err : Nat) : State :=
  let p := s.f (FAB_FL_CTRL_PAGE d)
  let w := max (s.flPage d (2 * p)).wear (s.flPage d (2 * p + 1)).wear
  (s.setFlOp d 0).setFs [(FAB_FL_STATUS_BUSY d, 0), (FAB_FL_STATUS_DONE d, 1), (FAB_FL_STATUS_ERR d, err),
    (FAB_FL_STATUS_WEAR d, min 255 (w / 64))]

/-- A page has gone past its rating (R62). -/
def State.flWorn (s : State) (d : Nat) (worn : Bool) : State :=
  if worn then (s.flEnd d 3).raise .FAB_FLASH_WORN false 0 d else s.flEnd d 0

/-- A write of FAB_FL_CTRL with PAGE and OP (1 READ, 2 WRITE, 3 ERASE). A WRITE begins by erasing the page without the valid
copy. One refused with NV_FLOOR has ended: DONE is set with ERR (DESIGN CHOICE, log entry 84). -/
def State.flStart (s : State) (d page op : Nat) : State :=
  if s.bit (FAB_FL_STATUS_BUSY d) then s.busy (FAB_FL_STATUS_FIELD_BUSY d)
  else
    let s := s.setF (FAB_FL_CTRL_PAGE d) page
    if op = 0 then s
    else if 2 ≤ op ∧ !s.bit HUB_SUPPLY_NV_OK then s.setFs [(FAB_FL_STATUS_ERR d, 1), (FAB_FL_STATUS_DONE d, 1)]
    else
      let s := (s.setFlOp d op).setF (FAB_FL_STATUS_BUSY d) 1
      if op = 2 then s.flErase d (s.flOther d (s.f (FAB_FL_CTRL_PAGE d))) else s

/-- FL_READ. -/
def execFlRead (m : Master) (d page : Nat) (s : State) : Host.Outcome State Fault Refusal :=
  .next (s.viaWrite m (FAB_FL_CTRL d) fun s => s.flStart d page 1)

/-- FL_WRITE. -/
def execFlWrite (m : Master) (d page : Nat) (s : State) : Host.Outcome State Fault Refusal :=
  .next (s.viaWrite m (FAB_FL_CTRL d) fun s => s.flStart d page 2)

/-- FL_ERASE. -/
def execFlErase (m : Master) (d page : Nat) (s : State) : Host.Outcome State Fault Refusal :=
  .next (s.viaWrite m (FAB_FL_CTRL d) fun s => s.flStart d page 3)

/-- The end of a READ: the valid copy goes to FAB_FL_BUF, or all ones with EMPTY. -/
def State.flReadEnd (s : State) (d : Nat) : State :=
  match s.flCopy d (s.f (FAB_FL_CTRL_PAGE d)) with
  | some q =>
    ((s.setFlBuf d (s.flPage d q).data).setFs [(FAB_FL_STATUS_SEQ d, (s.flPage d q).seq), (FAB_FL_STATUS_EMPTY d, 0)]).flEnd d 0
  | none => ((s.setFlBuf d []).setF (FAB_FL_STATUS_EMPTY d) 1).flEnd d 0

/-- The end of a WRITE: FAB_FL_BUF is programmed with the sequence number one higher than that of the valid copy; the valid
mark is written if the page verifies. With no valid copy the number is open. VERIFY_FAIL is reported before the page's rating is
looked at (DESIGN CHOICE, log entry 84). -/
def State.flWriteEnd (s : State) (d : Nat) (ok : Bool) : State :=
  let p := s.f (FAB_FL_CTRL_PAGE d)
  let q := s.flOther d p
  let w := (s.flPage d q).wear
  let s := match s.flCopy d p with
    | some c => s.setFlPage d q ⟨ok, ((s.flPage d c).seq + 1) % 65536, s.flBuf d, w⟩
    | none => (s.setFlPage d q ⟨ok, s.free 16, s.flBuf d, w⟩).freeNext
  if ok then (s.setF (FAB_FL_STATUS_SEQ d) (s.flPage d q).seq).flWorn d (decide (10000 < w)) else s.flEnd d 2

/-- The end of an ERASE: both pages are cleared. -/
def State.flEraseEnd (s : State) (d : Nat) : State :=
  let p := s.f (FAB_FL_CTRL_PAGE d)
  let s := (s.flErase d (2 * p)).flErase d (2 * p + 1)
  s.flWorn d (decide (10000 < (s.flPage d (2 * p)).wear ∨ 10000 < (s.flPage d (2 * p + 1)).wear))

/-- FL_OP_END: the running operation ends; `ok` says that a programmed page verified. -/
def execFlOpEnd (d : Nat) (ok : Bool) (s : State) : Host.Outcome State Fault Refusal :=
  .next (match s.flOp d with
    | 1 => s.flReadEnd d
    | 2 => s.flWriteEnd d ok
    | 3 => s.flEraseEnd d
    | _ => s)

/-- A supply has fallen below an NV-write floor: a WRITE or an ERASE is abandoned, the old copy stays (R62, 15 R383). -/
def State.flAbandon (s : State) (d : Nat) : State := if 2 ≤ s.flOp d then s.flEnd d 1 else s

/-! ## Serial ports (R63) -/

/-- MODE; codes 6 and 7 behave as 0. -/
def State.spMode (s : State) (d p : Nat) : Nat := let m := s.f (FAB_SP_CTRL_MODE d p); if 5 < m then 0 else m

/-- The port runs: EN and a MODE; one connected to a region while that region's outputs are connected (R50). -/
def State.spRuns (s : State) (d p : Nat) : Bool :=
  let c := s.f (FAB_SP_CTRL_CONN d p)
  s.bit (FAB_SP_CTRL_EN d p) && decide (s.spMode d p ≠ 0) && (decide (c < 8) || s.connected (8 * d + (c - 8)))

/-- MODE sends by itself: UART, SPI master or I²C master. -/
def State.spSends (s : State) (d p : Nat) : Bool := let m := s.spMode d p; decide (m = 1 ∨ m = 2 ∨ m = 4)

def State.spMaster (s : State) (d p : Nat) : Bool :=
  let m := s.spMode d p
  s.spRuns d p && decide (m = 2 ∨ m = 4)

/-- ACTIVE: a transfer is on the line, or the port has one to send. -/
def State.spShow (s : State) (d p : Nat) : State :=
  let x := s.serialAt d p
  s.setF (FAB_SP_STATUS_ACTIVE d p) (b2n (s.spRuns d p && (if s.spSends d p then x.active else x.busy)))

def State.spEnable (s : State) (d p : Nat) : State := (s.setF (FAB_SP_CTRL_EN d p) 1).spShow d p

/-- Clearing EN aborts the transfer at once. -/
def State.spDisable (s : State) (d p : Nat) : State :=
  ((s.setF (FAB_SP_CTRL_EN d p) 0).setSerial d p { s.serialAt d p with rd := 0, busy := false, bus := false }).spShow d p

/-- SP_ENABLE. -/
def execSpEnable (m : Master) (d p : Nat) (s : State) : Host.Outcome State Fault Refusal :=
  .next (s.viaWrite m (FAB_SP_CTRL d p) fun s => s.spEnable d p)

/-- SP_DISABLE. -/
def execSpDisable (m : Master) (d p : Nat) (s : State) : Host.Outcome State Fault Refusal :=
  .next (s.viaWrite m (FAB_SP_CTRL d p) fun s => s.spDisable d p)

/-- The port is driven by management, not by a region (CONN). -/
def State.spMgmt (s : State) (d p : Nat) : Bool := decide (s.f (FAB_SP_CTRL_CONN d p) = 0)

/-- A byte goes to the transmit FIFO; a full one loses it. -/
def State.spPut (s : State) (d p : Nat) (b : Byte) : State :=
  let x := s.serialAt d p
  if x.tx.length < 16 then (s.setSerial d p { x with tx := x.tx ++ [b] }).spShow d p
  else s.setF (FAB_SP_STATUS_OVERRUN d p) 1

/-- A byte is written to FAB_SPp_DATA. -/
def State.spPush (s : State) (d p v : Nat) : State := if s.spMgmt d p then s.spPut d p (BitVec.ofNat 8 v) else s

/-- SP_DATA_PUSH. -/
def execSpDataPush (m : Master) (d p v : Nat) (s : State) : Host.Outcome State Fault Refusal :=
  .next (s.viaWrite m (FAB_SP_DATA d p) fun s => s.spPush d p v)

/-- FAB_SPp_DATA is read: the byte answered, and the state after; a peek does not pop (R9). -/
def State.spPop (s : State) (d p : Nat) (peek : Bool) : State :=
  if dieIsolated s d then s.answer .err
  else if !s.spMgmt d p then s.answer (.ok 0)
  else
    let x := s.serialAt d p
    match x.rx with
    | [] => s.answer (.ok 0)
    | b :: t => (if peek then s else s.setSerial d p { x with rx := t }).answer (.ok b.toNat)

/-- SP_DATA_POP. -/
def execSpDataPop (d p : Nat) (peek : Bool) (s : State) : Host.Outcome State Fault Refusal := .next (s.spPop d p peek)

/-- A master begins a read of RDLEN + 1 bytes. -/
def State.spReadGo (s : State) (d p : Nat) : State :=
  if s.spMaster d p then (s.setSerial d p { s.serialAt d p with rd := s.f (FAB_SP_FMT_RDLEN d p) + 1 }).spShow d p else s

/-- A write of DATA with RD set. -/
def State.spRead (s : State) (d p : Nat) : State := if s.spMgmt d p then s.spReadGo d p else s

/-- What the fabric of the region that drives the port has done to its FIFOs and control signals (R63). -/
def State.spFabric (s : State) (d p : Nat) (x : SpFabric) : State :=
  if s.spMgmt d p then s
  else
    let s := x.push.foldl (fun t b => t.spPut d p b) s
    let s := s.setSerial d p { s.serialAt d p with rx := (s.serialAt d p).rx.drop x.pop }
    if x.rd then s.spReadGo d p else s

/-- SP_RD_START. -/
def execSpRdStart (m : Master) (d p : Nat) (s : State) : Host.Outcome State Fault Refusal :=
  .next (s.viaWrite m (FAB_SP_DATA d p) fun s => s.spRead d p)

/-- The line levels of a UART's frame (FAB_SPp_FMT). PRESUMED, log entry 83: a low start bit, the data bits lowest first, the
parity bit, and high stop bits. -/
def uartFrame (bits7 : Bool) (parity : Nat) (stop2 : Bool) (b : Byte) : List Bool :=
  let d := (List.range (if bits7 then 7 else 8)).map fun i => decide (b.toNat / 2 ^ i % 2 = 1)
  let odd := decide ((d.filter id).length % 2 = 1)
  let par := if parity = 1 then [odd] else if parity = 2 then [!odd] else []
  [false] ++ d ++ par ++ (if stop2 then [true, true] else [true])

/-- What goes on the line with byte `b`, the last of the transmit FIFO or not: a UART's frame; an I²C master's START with the first
byte and STOP with the last; the byte alone in the other modes. -/
def State.spLine (s : State) (d p : Nat) (b : Byte) (last : Bool) : List Out :=
  let n := 4 * d + p
  match s.spMode d p with
  | 1 => [.serialFrame n (uartFrame (s.bit (FAB_SP_FMT_BITS7 d p)) (s.f (FAB_SP_FMT_PARITY d p)) (s.bit (FAB_SP_FMT_STOP2 d p)) b)]
  | 4 => (if (s.serialAt d p).bus then [] else [.serialStart n (2 * s.f (FAB_SP_FMT_I2C_ADDR d p))])
      ++ [.serialByte n b] ++ (if last then [.serialStop n] else [])
  | _ => [.serialByte n b]

/-- The byte at the head of the transmit FIFO has been sent. -/
def State.spSent (s : State) (d p : Nat) : State :=
  let x := s.serialAt d p
  match x.tx with
  | b :: t => { s.setSerial d p { x with tx := t, bus := decide (s.spMode d p = 4) && !t.isEmpty } with
      out := s.out ++ s.spLine d p b t.isEmpty }
  | [] => s

/-- A byte has been received: it goes to the receive FIFO, or is lost when that is full. An I²C master's read begins with START and
ends with STOP. -/
def State.spGot (s : State) (d p : Nat) (b : Byte) : State :=
  let y := s.serialAt d p
  let n := 4 * d + p
  let reads := decide (s.spMode d p = 4 ∧ y.rd ≠ 0)
  let go := reads && !y.bus
  let s := { s with out := s.out ++ (if go then [Out.serialStart n (2 * s.f (FAB_SP_FMT_I2C_ADDR d p) + 1)] else [])
    ++ (if reads && decide (y.rd = 1) then [Out.serialStop n] else []) }
  let y := { y with rd := y.rd - 1, bus := reads && decide (1 < y.rd) }
  if y.rx.length < 16 then s.setSerial d p { y with rx := y.rx ++ [b] }
  else (s.setSerial d p y).setF (FAB_SP_STATUS_OVERRUN d p) 1

/-- SP_BYTE_END: a byte has been sent from the transmit FIFO, or received, or both (SPI); `nack` says that an I²C byte was not
acknowledged, `more` that the transfer goes on, `fab` what the fabric of a connected region has done meanwhile. -/
def execSpByteEnd (d p : Nat) (rx : Option Byte) (sent nack more : Bool) (fab : SpFabric) (s : State) :
    Host.Outcome State Fault Refusal :=
  .next (if !s.spRuns d p then s
    else
      let s := s.spFabric d p fab
      let s := if sent then s.spSent d p else s
      let s := match rx with | none => s | some b => s.spGot d p b
      let s := s.setSerial d p { s.serialAt d p with busy := more }
      (if nack then s.setF (FAB_SP_STATUS_NACK d p) 1 else s).spShow d p)

/-- FAB_SPp_RATE: stored within the mode's range; an I²C value as the nearest of three, one midway between two as the lower (DESIGN
CHOICE, log entry 69). -/
def spRate (mode v : Nat) : Nat :=
  match mode with
  | 1 => min v 6250
  | 2 => min v 50000
  | 4 => if v ≤ 250 then 100 else if v ≤ 700 then 400 else 1000
  | _ => v

/-! ## The reset of a die (R58, 15 R388) -/

/-- The registers of the die's FAB window take their reset values, but for FAB_DIE_CTRL; oscillators, ports and a running
flash operation stop; every envelope is closed. -/
def State.fabReset (s : State) (d : Nat) : State :=
  let out (k : Nat) : Bool := decide (k / 32 < FAB_DIE_CTRL d + 4 ∨ FAB_DIE_CTRL d + 0x1000000 ≤ k / 32)
  let s := { s with
    flds := SMap.filterKeys out s.flds, held := SMap.filterKeys out s.held, xover := s.xover.filter (fun a => out (32 * a)) }
  let s := s.updFab fun b => { b with
    rosc := SMap.filterKeys (fun k => decide (k / 2 ≠ d)) b.rosc
    flOp := nput b.flOp d 0
    serial := SMap.filterKeys (fun k => decide (k / 4 ≠ d)) b.serial }
  (List.range 8).foldl (fun t i => t.resetEnv (8 * d + i)) s

end Sys2Proof.Machine
end

