-- ==== Sys2Proof/Machine/Integ.lean ====
section
/-! DEFINITION. Watching the configuration (04 R100 to R112): the column checkers, findings and their repair, the golden
store's fills, the upset log, and the commands CHECKER_SLOT, SWEEP_LATE_TIMER, GOLD_EN_SET, GOLD_DIE_FILL_END,
GOLD_VALID_SET, UPSET_INFO_READ and CONFIGURATION_UPSET. -/

namespace Sys2Proof.Machine
open Reg

/-- Dies whose admission is complete. -/
def dieAdmitted (s : State) (d : Nat) : Bool := decide (s.f (CMX_DIE_STATUS_STATE d) = 2)

/-- The frame that checker c of die d reads in slot p of its sweep (R102). -/
def checkerFrame (d c p : Nat) : Nat :=
  if p < 4352 then rgnBase (8 * d + c / 8) + 8 * p + c % 8 else commonBase d + 256 * c + (p - 4352)

def sweepSlots : Nat := 4608

/-! ## Classes (R106, R110) -/

/-- Essential-map cache rows of a region's or a die's share (R108). -/
def mapShare (i : Nat) : Nat × Nat :=
  match frameRegion i with
  | some r => (3584 * r, 3584)
  | none => (229376 + 4096 * frameDie i, 4096)

/-- The map that covers a frame (R106, R108). -/
def State.mapOf (s : State) (i : Nat) : EssMap :=
  match frameRegion i with
  | some r => (s.rgnAt r).ess
  | none => SMap.get (fun _ => EssMap.absent) s.integ.ess (frameDie i)

/-- Scope of an event about a frame: its region's lease, and the region or die named (R110). -/
def State.frameLease (s : State) (i : Nat) : Nat := match frameRegion i with | some r => s.lease r | none => 0
def frameInst (i : Nat) : Nat := match frameRegion i with | some r => r | none => frameDie i

/-- The map of a frame is read; an uncorrectable word of the cache makes every bit it covers ESSENTIAL (11 R273). -/
def State.mapRead (s : State) (i : Nat) : State :=
  let sh := mapShare i
  let q := s.eccReadRange mapMacro sh.1 sh.2
  if q.2 then
    let s := match frameRegion i with
      | some r => q.1.updRgn r fun x => { x with ess := EssMap.absent }
      | none => q.1.updInteg fun x => { x with ess := SMap.erase x.ess (frameDie i) }
    s.raise .ESSMAP_TRUNC (frameRegion i).isSome (s.frameLease i) (frameInst i)
  else q.1

/-- Service-frame minors 0 to 63 of a region are CRITICAL whatever the map says (R106). -/
def criticalFrame (i : Nat) : Bool :=
  match frameRegion i with
  | some r => let f := indexFields (i - rgnBase r); decide (f.1 = 3 ∧ f.2.2.2 < 64)
  | none => false

/-- The class of bit b of frame i; code 3 behaves as CRITICAL (R106). -/
def State.bitClass (s : State) (i b : Nat) : Nat := if criticalFrame i then 2 else min 2 ((s.mapOf i).classOf i b)

/-- The highest class of any bit of frame i. -/
def State.frameClass (s : State) (i : Nat) : Nat :=
  if criticalFrame i then 2 else (((s.mapOf i).classes i).map (min 2)).foldl max 0

/-! ## The upset log (R112) -/

def State.upsetShow (s : State) : State :=
  match s.integ.log with
  | [] => s.setFs [(CFG_UPSET_ADDR_FAR, 0), (CFG_UPSET_INFO_VALID, 0), (CFG_UPSET_INFO_LOST, b2n s.integ.lost),
      (CFG_UPSET_INFO_CLASS, 0), (CFG_UPSET_INFO_KIND, 0), (CFG_UPSET_INFO_BIT, 0)]
  | e :: _ => s.setFs [(CFG_UPSET_ADDR_FAR, e.far), (CFG_UPSET_INFO_VALID, 1), (CFG_UPSET_INFO_LOST, b2n s.integ.lost),
      (CFG_UPSET_INFO_CLASS, e.cls), (CFG_UPSET_INFO_KIND, e.kind), (CFG_UPSET_INFO_BIT, e.bit)]

/-- Log a finding; a full log loses it, and the next read says so (R112). -/
def State.upsetLog (s : State) (i cls kind bit : Nat) : State :=
  (s.updInteg fun x =>
    if x.log.length < 16 then { x with log := x.log ++ [⟨indexFar i, cls, kind, bit⟩] }
    else { x with lost := true }).upsetShow

/-- A finding that was repaired: logged, counted and reported by class (R110). -/
def State.upsetFixed (s : State) (i cls kind bit : Nat) : State :=
  let s := (s.upsetLog i cls kind bit).count CFG_INTEG_STATUS_CORR 1
  let ev : Ev := match cls with | 0 => .CFG_UPSET_MASKED | 1 => .CFG_UPSET_FIXED | _ => .CFG_UPSET_CRIT
  s.raise ev true (s.frameLease i) (frameInst i)

/-- A finding that stays: logged and reported once until a load or a reload writes the frame (R109, R110). -/
def State.upsetStuck (s : State) (i cls : Nat) : State :=
  if s.integ.stuck.contains i then s
  else
    let s := (s.upsetLog i cls 3 0xFFF).count CFG_INTEG_STATUS_STUCK 1
    (s.updInteg fun x => { x with stuck := i :: x.stuck }).raise .CFG_UPSET_STUCK true (s.frameLease i) (frameInst i)

/-! ## Repair (R109) -/

/-- The golden copy of a frame, when it is valid for a finding. -/
def State.goldCopy (s : State) (i : Nat) : State × Option Nat :=
  let ok := match frameRegion i with
    | some r => s.goldValid r
    | none => decide (s.f CFG_INTEG_STATUS_GOLD_DIE / 2 ^ frameDie i % 2 = 1)
  if s.bit CFG_INTEG_CTRL_GOLD_EN && ok then
    let q := s.hubRead (s.goldAddr i) 400
    if q.2.1 = stOk then (q.1, some (leNat q.2.2)) else (q.1, none)
  else (s, none)

/-- A rewrite of frame i with configuration bits of `v`: contents of RAM rows keep their values. -/
def rewritten (i old v : Nat) : Nat :=
  let m := maskFrame i old
  (old % frameSpan - m) + maskFrame i v + fWord v 99 * frameSpan

/-- DIR changes that a new value of frame i makes at the crossing wires of a loaded region (05 R136): the die reports them. -/
def State.dirChanges (s : State) (i v : Nat) : List (Nat × Nat × Nat) :=
  match frameRegion i with
  | none => []
  | some r =>
    let m := i - rgnBase r - 33216
    if rgnBase r + 33216 ≤ i ∧ m < 16 ∧ (s.rState r = 2 ∨ s.rState r = 3) then
      (List.range 264).filterMap fun k =>
        let dir (x : Nat) : Nat := x / 2 ^ (12 * k) % 4
        if 264 * m + k < 4096 ∧ dir (s.frame i) ≠ dir v then some (r, 264 * m + k, dir v) else none
    else []

/-- A frame of the running configuration changes. -/
def State.reframe (s : State) (i v : Nat) : State :=
  let l := s.dirChanges i v
  { s.setFrame i v with cmx := { s.cmx with dirq := s.cmx.dirq ++ l } }

/-- After a write the checker reads the frame again: repaired, or STUCK (R109). -/
def State.recheck (s : State) (i cls kind bit : Nat) : State :=
  if frameOutcome i (s.frame i) = .clean then
    (if kind = 1 then s.updInteg fun x => { x with stuck := x.stuck.filter (· ≠ i) } else s).upsetFixed i cls kind bit
  else s.upsetStuck i cls

/-- A finding on frame i that no single bit explains: reloaded from the golden store, or STUCK. -/
def State.upsetReload (s : State) (i cls : Nat) : State :=
  if s.eff CFG_INTEG_CTRL_RELOAD = 1 then
    let q := s.goldCopy i
    match q.2 with
    | none => q.1.upsetStuck i cls
    | some v =>
      (q.1.reframe i (rewritten i (s.frame i) v)).recheck i cls 1 0xFFF
  else s.upsetStuck i cls

/-- What a checker does with frame i of a given outcome (R109, R110). -/
def State.onOutcome (s : State) (i : Nat) : FrameOut → State
  | .clean => s
  | .checkWord =>
    let v := s.frame i
    (s.reframe i (v % frameSpan + frameCheck (maskFrame i v) * frameSpan)).recheck i 0 2 0xFFF
  | .single b =>
    let v := s.frame i
    let s := s.mapRead i
    if s.eff CFG_INTEG_CTRL_CORRECT = 1 then (s.reframe i (v ^^^ 2 ^ b)).recheck i (s.bitClass i b) 0 b
    else s.upsetReload i (s.frameClass i)
  | .uncorrectable => let s := s.mapRead i; s.upsetReload i (s.frameClass i)

/-- A checker's read of frame i. -/
def State.checkFrame (s : State) (i : Nat) : State := s.onOutcome i (frameOutcome i (s.frame i))

/-- The slot passes without a read (R103). -/
def State.checkerSkips (s : State) (i : Nat) : Bool :=
  contentFrame i || decide (s.eff CFG_INTEG_CTRL_EN = 0) ||
    (match frameRegion i with
     | some r => decide (s.rState r = 1 ∨ s.rState r = 5)
     | none => false)

/-- The checker must wait: another requester owns the readback lines of its region (R104). -/
def State.linesHeld (s : State) (d c : Nat) : Bool :=
  match (s.arb (.readback (8 * d + c / 8))).owner with
  | some o => decide (o.idx ≠ c % 8)
  | none => false

def State.sweepSlot (s : State) (d c : Nat) : Nat := nget s.integ.slots (64 * d + c)

/-- The checker goes on to its next slot. -/
def State.slotPass (s : State) (d c p : Nat) : State :=
  s.updInteg fun x => { x with slots := nput x.slots (64 * d + c) ((p + 1) % sweepSlots) }

/-- CHECKER_SLOT: one 200 ns slot of checker c of die d. A read passes the readback arbiter; a checker without the lines waits. -/
def execCheckerSlot (d c : Nat) (s : State) : Host.Outcome State Fault Refusal :=
  .next (if !dieAdmitted s d ∨ !s.integ.common.contains d ∨ s.linesHeld d c then
      if dieAdmitted s d ∧ s.integ.common.contains d then s.arbAsk (.readback (8 * d + c / 8)) ⟨c % 8, 0, 0, 0⟩ else s
    else
      let p := s.sweepSlot d c
      let i := checkerFrame d c p
      if s.checkerSkips i then s.slotPass d c p
      else
        let a := ArbId.readback (8 * d + c / 8)
        let s := s.arbAsk a ⟨c % 8, 0, 0, 0⟩
        if s.arbOwns a (c % 8) then ((s.checkFrame i).slotPass d c p).arbBeat a false else s)

/-- SWEEP_LATE_TIMER: a checker of die d has spent 1 ms in one sweep (R104); 1 ms is 2,000,000 NoC cycles. -/
def execSweepLateTimer (d : Nat) (s : State) : Host.Outcome State Fault Refusal :=
  .next (if !dieAdmitted s d then s
    else
      let s' := s.setF CFG_INTEG_STATUS_SWEEP_LATE (setBitN (s.f CFG_INTEG_STATUS_SWEEP_LATE) d true)
      let t := nget s.integ.late d
      if t ≠ 0 ∧ s.nocTime + 1 ≤ t + 2000000 then s'
      else (s'.updInteg fun x => { x with late := nput x.late d (s.nocTime + 1) }).raise .CFG_SWEEP_LATE false 0 d)

/-! ## The golden store (R111) -/

/-- GOLD_EN is set: the store is fenced; a die that is isolated now, or has failed a fill, keeps its bit clear until the next boot. -/
def State.goldEnable (s : State) : State :=
  (s.setF CFG_INTEG_CTRL_GOLD_EN 1).updInteg fun x => { x with
    fillBad := (List.range 8).filter fun d => x.fillBad.contains d || !dieAdmitted s d, goldWrote := [] }

/-- GOLD_EN is cleared: every copy is invalid. -/
def State.goldDisable (s : State) : State :=
  (s.setFs [(CFG_INTEG_CTRL_GOLD_EN, 0), (CFG_GOLD_VALID_VALID 0, 0), (CFG_GOLD_VALID_VALID 1, 0),
    (CFG_INTEG_STATUS_GOLD_DIE, 0)]).updInteg fun x => { x with goldWrote := [] }

/-- A write of GOLD_EN, BOOT class (R12). -/
def State.goldEnWrite (s : State) (m : Master) (v : Nat) : State :=
  if s.committed then s.dropWrite m .bootLocked CFG_INTEG_CTRL
  else if v = s.f CFG_INTEG_CTRL_GOLD_EN then s
  else if v = 1 then s.goldEnable else s.goldDisable

/-- GOLD_EN_SET: a write that sets CFG_INTEG_CTRL.GOLD_EN. -/
def execGoldEnSet (m : Master) (s : State) : Host.Outcome State Fault Refusal :=
  .next (s.viaWrite m CFG_INTEG_CTRL fun s => s.goldEnWrite m 1)

/-- Stored frames that are not blank among `n` from linear index `a`. -/
def State.listedFrames (s : State) (a n : Nat) : List (Nat × Nat) :=
  s.integ.frames.filter fun e => decide (a ≤ e.1 ∧ e.1 < a + n)

/-- A die that is not available loses its chance of a golden copy when the fill has not ended (R111). -/
def State.goldLoseDie (s : State) (d : Nat) : State :=
  if s.bit CFG_INTEG_CTRL_GOLD_EN ∧ s.f CFG_INTEG_STATUS_GOLD_DIE / 2 ^ d % 2 = 0 then
    s.updInteg fun x => { x with fillBad := if x.fillBad.contains d then x.fillBad else x.fillBad ++ [d] }
  else s

/-- GOLD_DIE_FILL_END: every die-common frame of die d has been read back; the CLEAN ones are stored, and the bit is set when
all are. A blank frame is CLEAN and is stored as zeros. DESIGN CHOICE (log 89): a store that cannot be written leaves the die without
a copy until the next boot. -/
def execGoldDieFillEnd (d : Nat) (s : State) : Host.Outcome State Fault Refusal :=
  .next (if !s.bit CFG_INTEG_CTRL_GOLD_EN ∨ !dieAdmitted s d ∨ s.integ.fillBad.contains d
        ∨ s.f CFG_INTEG_STATUS_GOLD_DIE / 2 ^ d % 2 = 1 then s
    else
      let a := s.goldAddr (commonBase d)
      if s.hubStatus a 6553600 ≠ stOk then s.goldLoseDie d
      else
        let fs := s.listedFrames (commonBase d) 16384
        let good := fs.filter fun e => decide (frameOutcome e.1 e.2 = .clean)
        let s := (s.hubWake a 6553600).drainRange a 6553600
        let s := { s with mem := s.mem.filter fun e => decide (e.1 < a ∨ a + 6553600 ≤ e.1) }
        let s := good.foldl (fun t e => t.setBytes (t.goldAddr e.1) (frameBytes e.2)) s
        if good.length = fs.length then s.setF CFG_INTEG_STATUS_GOLD_DIE (setBitN (s.f CFG_INTEG_STATUS_GOLD_DIE) d true)
        else s.goldLoseDie d)

/-- GOLD_VALID_SET: the background copy of a loaded region's blank frames ends. -/
def execGoldValidSet (r : Nat) (s : State) : Host.Outcome State Fault Refusal :=
  .next (match SMap.get (fun _ => []) s.integ.goldWrote r with
    | [] => s
    | wrote =>
      let a := s.goldAddr (rgnBase r)
      if !s.bit CFG_INTEG_CTRL_GOLD_EN ∨ s.hubStatus a 13926400 ≠ stOk then s
      else
        let s := (s.hubWake a 13926400).drainRange a 13926400
        let keep := fun (e : Nat × Byte) => decide (e.1 < a ∨ a + 13926400 ≤ e.1) || wrote.contains (rgnBase r + (e.1 - a) / 400)
        let s := { s with mem := s.mem.filter keep }
        (s.updInteg fun x => { x with goldWrote := SMap.erase x.goldWrote r }).setGoldValid r true)

/-- UPSET_INFO_READ: a read of CFG_UPSET_INFO returns the oldest entry and removes it. -/
def State.upsetPop (s : State) : State :=
  match s.integ.log with
  | [] => (s.updInteg fun x => { x with lost := false }).upsetShow
  | _ :: t => (s.updInteg fun x => { x with log := t, lost := false }).upsetShow

/-- The value of CFG_UPSET_INFO. -/
def State.upsetInfo (s : State) : Nat :=
  s.f CFG_UPSET_INFO_VALID * 2 ^ 31 + s.f CFG_UPSET_INFO_LOST * 2 ^ 30 + s.f CFG_UPSET_INFO_CLASS * 2 ^ 28
    + s.f CFG_UPSET_INFO_KIND * 2 ^ 26 + s.f CFG_UPSET_INFO_BIT

def execUpsetInfoRead (s : State) : Host.Outcome State Fault Refusal := .next ((s.upsetPop).answer (.ok s.upsetInfo))

/-- CONFIGURATION_UPSET: bit `b` of the stored frame with address `far` flips (R101). -/
def execConfigurationUpset (far b : Nat) (s : State) : Host.Outcome State Fault Refusal :=
  .next (match farIndex far with
    | some i => if b < 3200 then s.reframe i (s.frame i ^^^ 2 ^ b) else s
    | none => s)

end Sys2Proof.Machine
end

