-- ==== Sys2Proof/Machine/Cmx.lean ====
section
/-! DEFINITION. Hub and tethers (05 R127 to R152): widths and wire roles, routes, heartbeats and wire repair, training and
pay-out, bundle commands, isolation and admission of a die (15 R388, R389). -/

namespace Sys2Proof.Machine
open Reg

def State.updCmx (s : State) (g : Cmx → Cmx) : State := { s with cmx := g s.cmx }
def State.bundleAt (s : State) (d b : Nat) : Bundle := SMap.get (fun _ => Bundle.empty) s.cmx.bundles (16 * d + b)
def State.updBundle (s : State) (d b : Nat) (g : Bundle → Bundle) : State :=
  s.updCmx fun c => { c with bundles := SMap.put (fun _ => Bundle.empty) c.bundles (16 * d + b) (g (s.bundleAt d b)) }

/-- CMX_Bb_STATUS.STATE (R142): 0 DOWN, 1 TRAIN, 2 REELED, 3 LIVE, 4 SUSPECT, 5 DISABLED. -/
def State.bState (s : State) (d b : Nat) : Nat := s.f (CMX_B_STATUS_STATE d b)
/-- CMX_DIE_STATUS.STATE (R152): 0 DOWN, 1 ADMITTING, 2 ADMITTED, 3 ISOLATED. -/
def State.dieState (s : State) (d : Nat) : Nat := s.f (CMX_DIE_STATUS_STATE d)

/-- The region whose traffic bundle d.b carries (01 R23, R128). -/
def bundleRegion (d b : Nat) : Nat := 8 * d + b / 2

/-- A list in rising order without repeats. -/
def sortIn (n : Nat) : List Nat → List Nat
  | [] => [n]
  | h :: t => if n < h then n :: h :: t else if n = h then h :: t else h :: sortIn n t
def sortUp (l : List Nat) : List Nat := l.foldr sortIn []

/-! ## The width record (R127 to R129, R140) -/

/-- Wires in use and crossing positions at width 0 full, 1 half, 2 quarter (R128). -/
def widthWires (w : Nat) : Nat := match w with | 0 => 2048 | 1 => 1024 | 2 => 512 | _ => 0
def widthCross (w : Nat) : Nat := match w with | 0 => 1792 | 1 => 896 | 2 => 448 | _ => 0

/-- The bad physical wires of the record, in rising order: 0 to 2,047 signal wires, 2,048 to 2,111 spares. -/
def State.badWires (s : State) (d b : Nat) : List Nat :=
  (List.range 66).flatMap fun j =>
    let v := s.f (CMX_B_BAD_BAD d b j)
    if v = 0 then [] else ((List.range 32).filter fun k => decide (v / 2 ^ k % 2 = 1)).map (32 * j + ·)

def State.wireBad (s : State) (d b w : Nat) : Bool := decide (s.f (CMX_B_BAD_BAD d b (w / 32)) / 2 ^ (w % 32) % 2 = 1)

/-- The place of width w with the fewest bad wires, the lowest of equals, and their number. -/
def bestPlace (w : Nat) (sig : List Nat) : Nat × Nat :=
  let n := widthWires w
  let cnt (k : Nat) : Nat := (sig.filter fun x => decide (x / n = k)).length
  (List.range (2048 / n)).foldl (fun a k => if cnt k < a.2 then (k, cnt k) else a) (0, cnt 0)

/-- Width, place and the bad wires of the span in rising order, for a set of bad wires (R140). Width 3: none fits. -/
def widthRecord (bad : List Nat) : Nat × Nat × List Nat :=
  let sig := bad.filter fun x => decide (x < 2048)
  let good := 64 - (bad.filter fun x => decide (2048 ≤ x)).length
  let fit (w : Nat) : Option (Nat × Nat × List Nat) :=
    let p := bestPlace w sig
    if p.2 ≤ good then some (w, p.1, sig.filter fun x => decide (x / widthWires w = p.1)) else none
  match fit 0 with
  | some r => r
  | none => match fit 1 with
    | some r => r
    | none => match fit 2 with
      | some r => r
      | none => (3, 0, [])

/-- Crossing positions within the bundle's width; none while it is DISABLED (R132, R133). -/
def State.positions (s : State) (d b : Nat) : Nat :=
  if s.bState d b = 5 then 0 else widthCross (s.f (CMX_B_STATUS_WIDTH d b))

/-- CMX_Bb_SPAREs: spare n carries wire `x`, or nothing. -/
def State.setSpare (s : State) (d b n : Nat) (x : Option Nat) : State :=
  s.setFs [(CMX_B_SPARE_USED d b n, b2n x.isSome), (CMX_B_SPARE_WIRE d b n, x.getD 0)]

/-- Add a wire to the bad set. -/
def State.addBad (s : State) (d b w : Nat) : State :=
  if s.wireBad d b w then s
  else
    let s := s.setF (CMX_B_BAD_BAD d b (w / 32)) (s.f (CMX_B_BAD_BAD d b (w / 32)) + 2 ^ (w % 32))
    let s := if 2048 ≤ w then s.setF (CMX_B_SPARE_BAD d b (w - 2048)) 1 else s
    s.count (CMX_B_STATUS_BAD d b) 1

/-- Adopt a record: bad set, width, place and spare map (R140, R147). -/
def State.adopt (s : State) (d b : Nat) (bad : List Nat) : State :=
  let r := widthRecord bad
  let s := bad.foldl (fun t w => t.addBad d b w) s
  let s := (List.range 64).foldl (fun t n => t.setSpare d b n none) s
  let good := (List.range 64).filter fun n => !bad.contains (2048 + n)
  let s := (good.zip r.2.2).foldl (fun t e => t.setSpare d b e.1 (some e.2)) s
  s.setFs [(CMX_B_STATUS_WIDTH d b, r.1), (CMX_B_STATUS_PLACE d b, if r.1 = 0 ∨ r.1 = 3 then 0 else r.2.1),
    (CMX_B_STATUS_SPARES_USED d b, min r.2.2.length 64)]

/-- An empty bad set and spare map (R145 MAINT_RETRAIN). -/
def State.clearRecord (s : State) (d b : Nat) : State :=
  let s := (List.range 66).foldl (fun t j => t.setF (CMX_B_BAD_BAD d b j) 0) s
  let s := (List.range 64).foldl (fun t n => (t.setSpare d b n none).setF (CMX_B_SPARE_BAD d b n) 0) s
  s.setFs [(CMX_B_STATUS_BAD d b, 0), (CMX_B_STATUS_SPARES_USED d b, 0)]

/-- The signal wire that physical wire w carries: itself, or as a spare the wire it replaces. -/
def State.carried (s : State) (d b w : Nat) : Option Nat :=
  if w < 2048 then (if s.wireBad d b w then none else some w)
  else if s.f (CMX_B_SPARE_USED d b (w - 2048)) = 1 then some (s.f (CMX_B_SPARE_WIRE d b (w - 2048))) else none

/-- The logical wire of a signal wire in the chosen span (R129): a crossing position, or from widthCross on the NAP group. -/
def State.logical (s : State) (d b x : Nat) : Option Nat :=
  let n := widthWires (s.f (CMX_B_STATUS_WIDTH d b))
  if n ≠ 0 ∧ x / n = s.f (CMX_B_STATUS_PLACE d b) then some (x % n) else none

/-- The wires of the NAP group of width w, and whether its wire n carries traffic from the die to the hub: its first half (R128). -/
def napWires (w : Nat) : Nat := widthWires w - widthCross w
def napUp (w n : Nat) : Bool := decide (2 * n < napWires w)

/-- The direction of logical wire p at width w (R128): none for a crossing position, which DIR decides. -/
def wireUp (w p : Nat) : Option Bool := if p < widthCross w then none else some (napUp w (p - widthCross w))

/-- Wire w is in use or a good free spare, so that its signature counts (R137, R138). -/
def State.checked (s : State) (d b w : Nat) : Bool :=
  match s.carried d b w with
  | some x => (s.logical d b x).isSome
  | none => decide (2048 ≤ w) && !s.wireBad d b w

/-! ## Routes (R131 to R136) -/

/-- Crossing wire of a region at position p of bundle d.b (R128). -/
def wireAt (b p : Nat) : Nat := 2048 * (b % 2) + p

/-- The source of a route entry in force: die, bundle, position. -/
def State.xrSrc (s : State) (x : Nat × Nat × Nat) : Nat × Nat × Nat :=
  (s.eff (CMX_XR_SRC_DIE x.1 x.2.1 x.2.2), s.eff (CMX_XR_SRC_BUNDLE x.1 x.2.1 x.2.2), s.eff (CMX_XR_SRC_POS x.1 x.2.1 x.2.2))

def State.xrValid (s : State) (x : Nat × Nat × Nat) : Bool := decide (s.eff (CMX_XR_VALID x.1 x.2.1 x.2.2) = 1)
def State.validRoutes (s : State) : List (Nat × Nat × Nat) := s.routes.filter s.xrValid

/-- DIR at position p of bundle d.b (R90). -/
def State.posDir (s : State) (d b p : Nat) : Nat := s.wireDir (bundleRegion d b) (wireAt b p)

/-- The region runs or is paused: it holds a completed personality (R132, R133). -/
def State.runs (s : State) (r : Nat) : Bool := decide (s.rState r = 2 ∨ s.rState r = 3)

/-- It runs, is paused, or is in the close that begins CLEARING with its parks not yet changed to 0: the entries keep their route
until then (R134; 02 R51 and the worked example of 02 R64). -/
def State.runsOut (s : State) (r : Nat) : Bool :=
  s.runs r || (decide (s.rState r = 5) && (s.rgnAt r).pers && !(s.rgnAt r).zeroed)

/-- Bundle d.b carries routes: LIVE, and past the heartbeat boundary that follows its pay-out (R132, R144). -/
def State.carries (s : State) (d b : Nat) : Bool := decide (s.bState d b = 3) && (s.bundleAt d b).routesUp

/-- The conditions of a live route (R132) for end regions of which `q` holds. -/
def State.routeUp (s : State) (q : Nat → Bool) (x : Nat × Nat × Nat) : Bool :=
  let y := s.xrSrc x
  let rd := bundleRegion x.1 x.2.1; let rs := bundleRegion y.1 y.2.1
  s.xrValid x && decide (s.lease rd ≠ 0 ∧ s.lease rd = s.lease rs) && q rd && q rs
    && decide (s.posDir y.1 y.2.1 y.2.2 = 1 ∧ s.posDir x.1 x.2.1 x.2.2 = 2)
    && decide (s.f (CMX_XR_FORCED_RX x.1 x.2.1 x.2.2) = 0)
    && s.carries x.1 x.2.1 && s.carries y.1 y.2.1
    && decide (x.2.2 < s.positions x.1 x.2.1 ∧ y.2.2 < s.positions y.1 y.2.1)

/-- A route is live (R132). -/
def State.routeLive (s : State) (x : Nat × Nat × Nat) : Bool := s.routeUp s.runs x

/-- What a destination position shows: its inward parks while nothing reaches it (R52, R132), the source's outward parks while that
one's outputs are not connected (R51). `none`: the signals of the source as the tenant's logic drives them. DEDUCED, log entry 88:
a region in the close that begins CLEARING still delivers, as the worked example of 02 R64 has it. -/
def State.crossShows (s : State) (x : Nat × Nat × Nat) : Option Nat :=
  let y := s.xrSrc x
  if !s.routeUp s.runsOut x then some (s.wireInPark (bundleRegion x.1 x.2.1) (wireAt x.2.1 x.2.2))
  else if !s.connected (bundleRegion y.1 y.2.1) then
    some (s.wireParked (bundleRegion y.1 y.2.1) (wireAt y.2.1 y.2.2))
  else none

/-- The entry names a position of bundle d.b. -/
def State.xrNames (s : State) (d b : Nat) (x : Nat × Nat × Nat) : Bool :=
  let y := s.xrSrc x
  decide (x.1 = d ∧ x.2.1 = b) || decide (y.1 = d ∧ y.2.1 = b)

/-- The entry names a position of bundle d.b at or above n. -/
def State.xrBeyond (s : State) (d b n : Nat) (x : Nat × Nat × Nat) : Bool :=
  let y := s.xrSrc x
  decide (x.1 = d ∧ x.2.1 = b ∧ n ≤ x.2.2) || decide (y.1 = d ∧ y.2.1 = b ∧ n ≤ y.2.2)

/-- The checks of R133 of a write that sets VALID, in the order of its list: 0, or the code of XR_ERR. -/
def State.xrCheck (s : State) (d b p sd sb sp : Nat) : Nat :=
  let rd := bundleRegion d b; let rs := bundleRegion sd sb
  if s.lease rd = 0 ∨ s.lease rd ≠ s.lease rs then 1
  else if 1792 ≤ sp ∨ s.positions d b ≤ p ∨ s.positions sd sb ≤ sp then 2
  else if dieIsolated s sd then 4
  else if s.runs rd ∧ s.runs rs ∧ ¬(s.posDir sd sb sp = 1 ∧ s.posDir d b p = 2) then 3
  else 0

/-- A route write (R133): refused, or taken to wait for the next heartbeat boundary of the destination bundle. -/
def State.xrWrite (s : State) (d b p valid sd sb sp : Nat) : State :=
  let e := if valid = 0 then 0 else s.xrCheck d b p sd sb sp
  if e ≠ 0 then s.setF (CMX_DIE_STATUS_XR_ERR d) e
  else (((s.writeLive (CMX_XR_VALID d b p) valid).writeLive (CMX_XR_SRC_DIE d b p) sd).writeLive
    (CMX_XR_SRC_BUNDLE d b p) sb).writeLive (CMX_XR_SRC_POS d b p) sp

/-- Register writes that the management path of die d's tether switch grants take effect, one at a time (R131, 07 R179). -/
def State.tetherServe (d : Nat) : Nat → State → State
  | 0, s => s
  | n + 1, s =>
    match s.arbOwns (.tether d) 0, s.cmx.xrq.find? fun x => decide (x.d = d) with
    | true, some x =>
      let s := s.updCmx fun c => { c with xrq := c.xrq.erase x }
      State.tetherServe d n ((s.xrWrite x.d x.b x.p x.valid x.sd x.sb x.sp).arbBeat (.tether d) false)
    | _, _ => s

def State.tetherGo (s : State) (d : Nat) : State := State.tetherServe d (s.cmx.xrq.length + 1) s

/-- A route write reaches the management path: it waits in the spool until it is granted, or is answered FENCED (R131, 07 R185,
R187). -/
def State.routeWrite (s : State) (x : XrWrite) : State :=
  if (s.arb (.tether x.d)).fenced.contains 0 then s.answer (.ok stFenced)
  else ((s.updCmx fun c => { c with xrq := c.xrq ++ [x] }).arbRequest (.tether x.d) [⟨0, 0, 0, 0⟩]).tetherGo x.d

/-- ROUTE_WRITE. -/
def execRouteWrite (m : Master) (d b p valid sd sb sp : Nat) (s : State) : Host.Outcome State Fault Refusal :=
  .next (s.viaWrite m (CMX_XR d b p) fun s => s.routeWrite ⟨d, b, p, valid, sd, sb, sp⟩)

/-- The direction cross-check of OPENING for region r (R135): every wire that the personality sets outward or inward has a
position within its bundle, and no valid entry joins it to a completed personality whose DIR does not complement it. -/
def State.dirCheck (s : State) (r : Nat) : Bool :=
  let d := r / 8
  let within := (List.range 4096).all fun w =>
    let v := s.wireDir r w
    !decide (v = 1 ∨ v = 2) || decide (w % 2048 < 1792 ∧ w % 2048 < s.positions d (2 * (r % 8) + w / 2048))
  within && s.validRoutes.all fun x =>
    let y := s.xrSrc x
    let rd := bundleRegion x.1 x.2.1; let rs := bundleRegion y.1 y.2.1
    let dd := s.posDir x.1 x.2.1 x.2.2; let ds := s.posDir y.1 y.2.1 y.2.2
    (!(decide (rd = r ∧ rs ≠ r) && s.runs rs && decide (dd = 1 ∨ dd = 2)) || decide (dd = 2 ∧ ds = 1))
      && (!(decide (rs = r ∧ rd ≠ r) && s.runs rd && decide (ds = 1 ∨ ds = 2)) || decide (dd = 2 ∧ ds = 1))

/-- Raise an event once for each lease of a list; lease 0 makes it a DEVICE event (00 R17). -/
def State.raiseLeases (s : State) (e : Ev) (inst : Nat) (l : List Nat) : State :=
  (sortUp l).foldl (fun t k => t.raise e true k inst) s

/-- A narrower bundle (R141): entries beyond its width lose VALID, waiting writes beyond it are dropped. -/
def State.cutRoutes (s : State) (d b : Nat) : State :=
  let n := s.positions d b
  let cut := s.validRoutes.filter (s.xrBeyond d b n)
  let leases := cut.map fun x => s.lease (bundleRegion x.1 x.2.1)
  let late := s.routes.filter fun x =>
    decide (x.1 = d ∧ x.2.1 = b ∧ n ≤ x.2.2)
      || decide (s.f (CMX_XR_SRC_DIE x.1 x.2.1 x.2.2) = d ∧ s.f (CMX_XR_SRC_BUNDLE x.1 x.2.1 x.2.2) = b
          ∧ n ≤ s.f (CMX_XR_SRC_POS x.1 x.2.1 x.2.2))
  ((cut ++ late).foldl State.xrClear s).raiseLeases .XWIRE_CUT d leases

/-! ## Bundle states (R142, R143) -/

/-- Leases with a live route or an ACTIVE or PAUSED region on the bundle. -/
def State.bundleLeases (s : State) (d b : Nat) : List Nat :=
  let r := bundleRegion d b
  (if s.runs r then [s.lease r] else [])
    ++ (s.validRoutes.filter fun x => s.xrNames d b x && s.routeLive x).map fun x => s.lease (bundleRegion x.1 x.2.1)

/-- The network's port of the NAP that bundle d.b carries (01 R23). -/
def bundlePort (b : Nat) : Nat := 4 + b % 2

/-- The NAP's port follows its bundle (06 R177): SIDE_DOWN unless the bundle is LIVE, with a packet in progress ended and no credit
owed (R143); LIVE with it. -/
def State.bundlePortState (s : State) (d b : Nat) (live : Bool) : State :=
  let k := routerOf (bundleRegion d b)
  let p := bundlePort b
  let st := s.f (NOC_PORT_STATUS_STATE k p)
  if live then (if st = 5 ∨ st = 6 then s.portState k p 1 else s)
  else
    let s := if st = 1 ∨ st = 6 then s.portState k p 5 else s
    (s.cutLink k p).updNoc fun n => clearOwed n (nodeAt k (b % 2))

/-- Set STATE of a bundle with the LIVE bit of its die; leaving LIVE raises TETHER_PARKED. -/
def State.setBundle (s : State) (d b v : Nat) : State :=
  let old := s.bState d b
  let leases := if old = 3 ∧ v ≠ 3 then s.bundleLeases d b else []
  let s := s.setFs [(CMX_B_STATUS_STATE d b, v),
    (CMX_DIE_STATUS_LIVE d, setBitN (s.f (CMX_DIE_STATUS_LIVE d)) b (decide (v = 3)))]
  let s := if (decide (old = 3)) != (decide (v = 3)) then s.bundlePortState d b (decide (v = 3)) else s
  s.raiseLeases .TETHER_PARKED d leases

/-- Wires declared bad whose steer has not switched stay in the record; what waited for a boundary is dropped (R141). -/
def State.dropSteers (s : State) (d b : Nat) : State :=
  ((s.bundleAt d b).steer.foldl (fun t e => t.addBad d b e.1) s).updBundle d b fun x =>
    { x with steer := [], narrow := false, back := false, retry := false, trained := false, agree := none, routesUp := false, misses := 0 }

/-- The bundle enters TRAIN (R146 step 1). -/
def State.trainStart (s : State) (d b : Nat) : State := (s.dropSteers d b).setBundle d b 1

/-- The bundle enters LIVE: what was held for its NAP goes on (R143). -/
def State.bundleLive (s : State) (d b : Nat) : State :=
  let s := (s.setBundle d b 3).updBundle d b fun x => { x with misses := 0, back := false }
  s.releaseNap (napNode (bundleRegion d b) (b % 2))

/-! ## Isolation (01 R20, R22, R149) -/

/-- Leases with a region, an engine or a route end on the die; 0 for regions that no lease holds (00 R17). -/
def State.dieLeases (s : State) (d : Nat) : List Nat :=
  ((List.range 8).map fun i => s.lease (8 * d + i))
    ++ (s.validRoutes.filter fun x => decide (x.1 = d ∨ (s.xrSrc x).1 = d)).map fun x => s.lease (bundleRegion x.1 x.2.1)

/-- The bridges of a region's NAPs and of its engines go down: requests are answered UNREACH (R149). -/
def State.napsDown (s : State) (r : Nat) : State :=
  (List.range 5).foldl (fun t j =>
    let st := t.f (NOC_PORT_STATUS_STATE (routerOf r) (4 + j))
    if st = 8 then t else t.bridgeDown (routerOf r) (4 + j) stUnreach) s

/-- Slots that load a region of the die report ABORT_LEVEL (R20). -/
def State.loadsAbandon (s : State) (d : Nat) : State :=
  (List.range 4).foldl (fun t n =>
    if t.ldTarget n / 8 = d ∧ !(t.slotAt n).boot then t.loadAbandon n else t) s

/-- Bundles that are not DISABLED go DOWN. -/
def State.bundlesDown (s : State) (d : Nat) : State :=
  (List.range 16).foldl (fun t b => if t.bState d b = 5 then t else (t.dropSteers d b).setBundle d b 0) s

/-- The engines of a lost region's trio stop; what its memories and registers hold is not known any more (08 R216). -/
def State.trioLost (s : State) (t : Nat) : State :=
  (List.range 3).foldl (fun u j =>
    let u := (u.updEng (3 * t + j) fun g => { g with stall := none, stepping := false, merge := none, unk := some u.freeCtr }).setEngState
      (3 * t + j) 0
    { u with freeCtr := u.freeCtr + 2 ^ 16 }) s

/-- The arbiters inside a die and their requesters go with it (07 R190). -/
def State.dieArbs (s : State) (d : Nat) : State :=
  let s := (List.range 8).foldl (fun t i => t.arbRemove (.readback (8 * d + i)) fun _ => true) s
  (List.range 72).foldl (fun t j =>
    if (t.arb (.eng (24 * d + j / 3) (j % 3))) = Arb.empty then t else t.arbRemove (.eng (24 * d + j / 3) (j % 3)) fun _ => true) s

/-- Every region of the die is lost. -/
def State.regionsLost (s : State) (d : Nat) : State :=
  let s := ((s.loadsAbandon d).capIsolate d).dieArbs d
  let s := (List.range 8).foldl (fun t i => (t.loseRegion (8 * d + i)).trioLost (8 * d + i)) s
  let s := s.updCmx fun c => { c with dirq := c.dirq.filter fun e => decide (e.1 / 8 ≠ d) }
  ((List.range 8).foldl (fun t i => t.napsDown (8 * d + i)) s).mirDieLost d

/-- The checkers of the die stop; a later sweep starts afresh (04 R103). -/
def State.checkersStop (s : State) (d : Nat) : State :=
  s.updInteg fun x => { x with slots := SMap.filterKeys (fun k => decide (k / 64 ≠ d)) x.slots, common := x.common.filter (· ≠ d) }

/-- The die is isolated with a cause: 1 HEARTBEAT, 2 FIRMWARE, 3 ALL_DISABLED (R149). -/
def State.dieIsolate (s : State) (d cause : Nat) : State :=
  if dieIsolated s d then s
  else
    let up := decide (s.dieState d = 2)
    let leases := if up then s.dieLeases d else []
    let old := s
    let s := (s.bundlesDown d).setFs [(CMX_DIE_STATUS_STATE d, 3), (CMX_DIE_STATUS_CAUSE d, cause)]
    let s := (((s.regionsLost d).sensorsValid d false).dieClocksStop d).checkersStop d
    let s := State.sleepPins old (s.goldLoseDie d) (old.diePins d)
    let s := s.padNote
    if up then (s.raise .DIE_LOST false 0 d).raiseLeases .REGION_LOST d leases else s

/-- A die whose every bundle is DISABLED is isolated (R150). -/
def State.allDisabled (s : State) (d : Nat) : Bool := (List.range 16).all fun b => decide (s.bState d b = 5)

/-- The bundle becomes DISABLED (R140, R146). -/
def State.bundleDisable (s : State) (d b : Nat) : State :=
  let s := ((s.dropSteers d b).setBundle d b 5).setFs [(CMX_B_STATUS_WIDTH d b, 3), (CMX_B_STATUS_PLACE d b, 0)]
  let s := s.raise .TETHER_DISABLED false 0 d
  if s.dieState d = 2 ∧ s.allDisabled d then s.dieIsolate d 3 else s

/-! ## Heartbeats (R137 to R139, R149, R151) -/

/-- A route write waits for the boundary of its destination bundle. -/
def State.xrWaits (s : State) (x : Nat × Nat × Nat) : Bool :=
  (SMap.get (fun _ => none) s.held (CMX_XR_VALID x.1 x.2.1 x.2.2).key).isSome

/-- A waiting route write takes effect; a force is lifted (R131, R136). -/
def State.xrTake (s : State) (x : Nat × Nat × Nat) : State :=
  if s.xrWaits x then (s.xrApply x).setF (CMX_XR_FORCED_RX x.1 x.2.1 x.2.2) 0 else s

/-- Both ends of a route are forced to receive (R136). -/
def State.xrForce (s : State) (x : Nat × Nat × Nat) : State :=
  if s.xrValid x ∧ s.f (CMX_XR_FORCED_RX x.1 x.2.1 x.2.2) = 0 then
    s.setFs [(CMX_XR_FORCED_RX x.1 x.2.1 x.2.2, 1), (CMX_DIE_STATUS_XWIRE_CONFLICT x.1, 1),
      (CMX_DIE_STATUS_XWIRE_CONFLICT (s.xrSrc x).1, 1)]
  else s

/-- A steer switches at both ends (R139): wire w is in the bad set, spare n carries what it carried. -/
def State.steerNow (s : State) (d b w n : Nat) : State :=
  let x := if w < 2048 then w else s.f (CMX_B_SPARE_WIRE d b (w - 2048))
  let s := s.addBad d b w
  let s := if 2048 ≤ w then s.setSpare d b (w - 2048) none else s.count (CMX_B_STATUS_SPARES_USED d b) 1
  (s.setSpare d b n (some x)).raise .TETHER_REPAIR false 0 d

/-- The boundary's effect on one bundle: steers come due, a narrowing starts once none is left, a SUSPECT bundle that has
delivered a valid heartbeat returns to LIVE, routes follow a pay-out. -/
def State.bundleTick (s : State) (d b : Nat) : State :=
  let x := s.bundleAt d b
  let due := x.steer.filter fun e => decide (e.2.2 ≤ 1)
  let s := s.updBundle d b fun x => { x with
    steer := (x.steer.filter fun e => decide (1 < e.2.2)).map fun e => (e.1, e.2.1, e.2.2 - 1) }
  let s := due.foldl (fun t e => t.steerNow d b e.1 e.2.1) s
  let y := s.bundleAt d b
  if y.narrow ∧ y.steer.isEmpty then s.trainStart d b
  else
    let s := if y.back ∧ s.bState d b = 4 then s.bundleLive d b else s
    if s.bState d b = 3 then s.updBundle d b fun x => { x with routesUp := true, back := false } else s

/-- CRC-32 of a width record (R137): width, place and bad-wire bitmap. DEDUCED, log entry 81: as bytes, the bitmap's 66 words lowest
byte first. -/
def State.recHash (s : State) (d b : Nat) : Nat :=
  Crypto.crc32 (s.f (CMX_B_STATUS_WIDTH d b) :: s.f (CMX_B_STATUS_PLACE d b) ::
    (List.range 66).flatMap fun j => (List.range 4).map fun i => s.f (CMX_B_BAD_BAD d b j) / 256 ^ i % 256)

/-- The bundle sends a heartbeat frame in each direction (R137): TRAIN, LIVE or SUSPECT. -/
def State.beats (s : State) (d b : Nat) : Bool := let v := s.bState d b; decide (v = 1 ∨ v = 3 ∨ v = 4)

/-- The hub's frame on bundle d.b in this period (R137). -/
def State.hubFrame (s : State) (d b : Nat) : Beat1 :=
  let x := s.bundleAt d b
  { seq := x.txSeq, state := s.bState d b, hash := s.recHash d b
    cmd := Config.hubCmd ((x.steer.filter fun e => decide (e.2.2 = 1)).map fun e => (e.1, e.2.1)) s.cmx.forces
    dirs := [], rxbad := x.rxbad, sig := Config.hubSig s.cmx.period (16 * d + b) }

/-- The changes of DIR that the die's next frame reports for bundle d.b's region (R136, R137): at most 16. -/
def State.dirsDue (s : State) (d b : Nat) : List (Nat × Nat × Nat) :=
  (s.cmx.dirq.filter fun e => decide (e.1 = bundleRegion d b)).take 16

/-- The die's frame with operand `f` as it goes on the line (R137). -/
def State.dieFrame (s : State) (d b : Nat) (f : HbFrame) : Beat1 :=
  { seq := f.seq, state := s.bState d b, hash := f.hash, cmd := 0, dirs := (s.dirsDue d b).map (·.2), rxbad := f.rxbad.take 16
    sig := f.sig }

/-- HEARTBEAT_PERIOD: a 1 µs boundary on every bundle. -/
def State.heartbeat (s : State) : State :=
  let s := s.updCmx fun c => { c with period := c.period + 1 }
  let s := s.cmx.bundles.foldl (fun t e => t.bundleTick (e.1 / 16) (e.1 % 16)) s
  let s := s.cmx.bundles.foldl (fun t e =>
    if t.beats (e.1 / 16) (e.1 % 16) then t.updBundle (e.1 / 16) (e.1 % 16) fun x => { x with txSeq := (x.txSeq + 1) % 65536 }
    else t) s
  let s := s.routes.foldl State.xrTake s
  let fs := s.cmx.forces
  let hit := fs.filter fun x => s.xrValid x && decide (s.f (CMX_XR_FORCED_RX x.1 x.2.1 x.2.2) = 0)
  let s := (fs.foldl State.xrForce s).updCmx fun c => { c with forces := [] }
  s.raiseLeases .XWIRE_CONFLICT (match hit with | x :: _ => x.1 | [] => noInst)
    (hit.map fun x => s.lease (bundleRegion x.1 x.2.1))

def execHeartbeatPeriod (s : State) : Host.Outcome State Fault Refusal := .next s.heartbeat

/-- The lowest good spare that carries nothing and is promised to no steer. -/
def State.freeSpare (s : State) (d b : Nat) : Option Nat :=
  (List.range 64).find? fun n =>
    decide (s.f (CMX_B_SPARE_USED d b n) = 0) && !s.wireBad d b (2048 + n)
      && !((s.bundleAt d b).steer.any fun e => decide (e.2.1 = n ∨ e.1 = 2048 + n))

/-- Wire w is bad (R139): a free spare is marked; a wire in use is steered, or with no free spare the bundle is to narrow. -/
def State.wireFails (s : State) (d b w : Nat) : State :=
  if (s.carried d b w).isNone then s.addBad d b w
  else match s.freeSpare d b with
    | some n => s.updBundle d b fun x => { x with steer := x.steer ++ [(w, n, 2)] }
    | none => (s.addBad d b w).updBundle d b fun x => { x with narrow := true }

/-- The route entries with an end at crossing position p of bundle d.b that are live. -/
def State.liveAt (s : State) (d b p : Nat) : List (Nat × Nat × Nat) :=
  s.validRoutes.filter fun x => (decide (x = (d, b, p)) || decide (s.xrSrc x = (d, b, p))) && s.routeLive x

/-- A signature mismatch of wire w (R139). -/
def State.mismatch (s : State) (d b w : Nat) : State :=
  if !s.checked d b w then s
  else
    let s := s.count (CMX_B_ERR_MISMATCH d b) 1
    let x := s.bundleAt d b
    if x.steer.any fun e => decide (e.1 = w) then s
    else
      let first := nget x.seen w
      let now := s.cmx.period + 1
      if first ≠ 0 ∧ now - first ≤ 1024 then
        (s.updBundle d b fun x => { x with seen := nput x.seen w 0 }).wireFails d b w
      else
        let s := s.updBundle d b fun x => { x with seen := nput x.seen w now }
        match (s.carried d b w).bind (s.logical d b) with
        | some p =>
          if p < s.positions d b then
            s.raiseLeases .XWIRE_ERR d ((s.liveAt d b p).map fun x => s.lease (bundleRegion x.1 x.2.1))
          else s
        | none => s

/-- DIR of an end of a route, with the changes that the frame reports for bundle d.b's region (wire, new DIR). -/
def State.dirNow (s : State) (r : Nat) (dirs : List (Nat × Nat)) (d b p : Nat) : Nat :=
  match dirs.find? fun e => decide (e.1 = wireAt b p) with
  | some e => if bundleRegion d b = r then e.2 else s.posDir d b p
  | none => s.posDir d b p

/-- Entries with an end at a changed wire that have two outward or two inward ends are to be forced (R136). -/
def State.conflicts (s : State) (d b : Nat) (dirs : List (Nat × Nat)) : List (Nat × Nat × Nat) :=
  let r := bundleRegion d b
  s.validRoutes.filter fun x =>
    let y := s.xrSrc x
    let touched (e b p : Nat) : Bool := decide (bundleRegion e b = r) && dirs.any fun c => decide (c.1 = wireAt b p)
    let a := s.dirNow r dirs x.1 x.2.1 x.2.2; let c := s.dirNow r dirs y.1 y.2.1 y.2.2
    (touched x.1 x.2.1 x.2.2 || touched y.1 y.2.1 y.2.2) && decide (a = c ∧ (a = 1 ∨ a = 2))

/-- A frame of the die is valid (R137): its CRC matches and SEQ follows, which frames of a bundle in TRAIN set. A die that has reset
sends none (R147); with its clock lost none has a matching CRC (R149). -/
def State.beatOk (s : State) (d b : Nat) (f : HbFrame) : Bool :=
  let st := s.bState d b
  lineOk (flipLine (s.dieFrame d b f).line f.flips) && decide (s.pllState (115 + d) ≠ 3) && !s.cmx.resets.contains d
    && decide (st ≠ 0 ∧ st ≠ 5) && (decide (st = 1) || decide (f.seq = (s.bundleAt d b).seq))

/-- Wires whose signatures differ (R138): at the hub, where the signature of the inverted bits is not 0, and those the die reports. -/
def HbFrame.mismatches (f : HbFrame) : List Nat :=
  (f.errs.filter fun e => decide (sig8 e.2 ≠ 0)).map (·.1)

/-- The two sides' records in a valid frame of a training bundle (R148): ten periods in a row with one REC_HASH agree. -/
def State.agreeStep (s : State) (d b : Nat) (same : Bool) : State :=
  match (s.bundleAt d b).agree with
  | none => s
  | some n =>
    let n := if same then n + 1 else 0
    s.updBundle d b fun x => { x with agree := some n, trained := x.trained || decide (10 ≤ n) }

/-- DIR changes that a valid frame has reported: routes left with two outward or two inward ends are to be forced (R136). -/
def State.dirsHeard (s : State) (d b : Nat) : State :=
  let due := s.dirsDue d b
  let add := s.conflicts d b (due.map (·.2))
  s.updCmx fun c => { c with dirq := c.dirq.filter (fun e => !due.contains e), forces := c.forces ++ add.filter fun x => !c.forces.contains x }

/-- A frame from the die arrives (R137 to R139, R148). -/
def State.heartFrame (s : State) (d b : Nat) (f : HbFrame) : State :=
  if !s.beatOk d b f then s
  else
    let st := s.bState d b
    let same := decide (f.hash = s.recHash d b)
    let s := (s.dirsHeard d b).updBundle d b fun x =>
      { x with seq := (f.seq + 1) % 65536, misses := 0, lastOk := s.cmx.period + 1, rxbad := f.mismatches.take 16 }
    if st = 3 ∨ st = 4 then
      let s := if st = 4 then s.updBundle d b fun x => { x with back := true } else s
      let s := (sortUp (f.mismatches ++ f.rxbad)).foldl (fun t w => if w < 2112 then t.mismatch d b w else t) s
      let y := s.bundleAt d b
      if y.narrow ∧ y.steer.isEmpty then s.trainStart d b else s
    else if st = 1 then s.agreeStep d b same else s

def execHeartbeatFrame (d b : Nat) (f : HbFrame) (s : State) : Host.Outcome State Fault Refusal := .next (s.heartFrame d b f)

/-- Another bundle of the die has delivered a valid heartbeat in the last 2 µs (R149). -/
def State.otherBeats (s : State) (d b : Nat) : Bool :=
  (List.range 16).any fun k =>
    let x := s.bundleAt d k
    decide (k ≠ b ∧ x.lastOk ≠ 0 ∧ s.cmx.period + 1 - x.lastOk ≤ 2)

/-- A missed heartbeat (R137, R142, R149): a LIVE bundle becomes SUSPECT; at the tenth the bundle is lost. One in TRAIN has to agree
for ten periods anew (R148). -/
def State.heartMiss (s : State) (d b : Nat) : State :=
  let st := s.bState d b
  if !s.beats d b then s
  else
    let s := s.count (CMX_B_ERR_HB_MISS d b) 1
    if st = 1 then s.agreeStep d b false
    else
      let s := s.updBundle d b fun x => { x with misses := x.misses + 1, seq := (x.seq + 1) % 65536, back := false }
      let s := if st = 3 then s.setBundle d b 4 else s
      if (s.bundleAt d b).misses < 10 then s
      else if s.otherBeats d b then s.trainStart d b
      else s.dieIsolate d 1

def execHeartbeatMiss (d b : Nat) (s : State) : Host.Outcome State Fault Refusal := .next (s.heartMiss d b)

/-- Eight consecutive replays of a NAP flit retrain its bundle (R139); REPLAY counts in CMX_Bb_ERR too. -/
def State.napReplay (s : State) (k p : Nat) (again : Bool) : State :=
  match unitAt k (p - 4) with
  | .fabricNap r j =>
    if p < 4 then s
    else
      let d := (napBundle r j).1; let b := (napBundle r j).2
      let n := if again then (s.bundleAt d b).replays + 1 else 1
      let s := (s.count (CMX_B_ERR_REPLAY d b) 1).updBundle d b fun x => { x with replays := n }
      if 8 ≤ n ∧ s.bState d b = 3 then (s.updBundle d b fun x => { x with replays := 0 }).trainStart d b else s
  | _ => s

/-- Flit `j` of a link's last packet arrives with the bits of `err` inverted (06 R156): one that fails its CRC is replayed from the
sender's buffer. REPLAY_LIM replays in a row put a mesh link in FAULT (06 R173); eight of a NAP's flit retrain its bundle (R139).
`again` says that this flit has just been replayed. -/
def execFlitReplay (k p : Nat) (inward : Bool) (j err : Nat) (again : Bool) (s : State) : Host.Outcome State Fault Refusal :=
  .next (if s.flitFails k p inward j err then (s.linkReplay k p again).napReplay k p again else s)

/-! ## Training and pay-out (R144, R146 to R148) -/

/-- A training attempt fails (R146, R148): the third disables the bundle, otherwise it is REELED for 10 µs. -/
def State.attemptFails (s : State) (d b : Nat) : State :=
  if s.bState d b ≠ 1 then s
  else
    let s := s.setF (CMX_B_STATUS_ATTEMPTS d b) (min 3 (s.f (CMX_B_STATUS_ATTEMPTS d b) + 1))
    if s.f (CMX_B_STATUS_ATTEMPTS d b) = 3 then s.bundleDisable d b
    else ((s.dropSteers d b).setBundle d b 2).updBundle d b fun x => { x with retry := true }

def execTrainStepOverrun (d b : Nat) (s : State) : Host.Outcome State Fault Refusal := .next (s.attemptFails d b)

/-- AGREE_TIMEOUT: AGREE_US after step 6 without ten agreeing periods (R148). -/
def execAgreeTimeout (d b : Nat) (s : State) : Host.Outcome State Fault Refusal :=
  .next (if (s.bundleAt d b).agree.isNone ∨ (s.bundleAt d b).trained then s else s.attemptFails d b)

/-- TRAIN_RETRY: 10 µs after a failed attempt. -/
def execTrainRetry (d b : Nat) (s : State) : Host.Outcome State Fault Refusal :=
  .next (if s.bState d b = 2 ∧ (s.bundleAt d b).retry then s.trainStart d b else s)

/-- TRAIN_END: steps 2 to 6 have passed; `found` are the wires that either side found bad; `hashes` the REC_HASH of each frame since
then, the last with SEQ `seq`. The record becomes the union of the record, wires marked bad and wires found (R146, R147); the
bundle has trained once ten frames in a row agree with it (R148), and frames that come later count on. -/
def State.trainEnd (s : State) (d b : Nat) (found : List Nat) (seq : Nat) (hashes : List Nat) : State :=
  let x := s.bundleAt d b
  if s.bState d b ≠ 1 ∨ x.agree.isSome then s
  else
    let bad := sortUp ((s.badWires d b ++ x.marked ++ x.faulty ++ found).filter fun w => decide (w < 2112))
    let old := s.f (CMX_B_STATUS_WIDTH d b)
    let s := (s.adopt d b bad).updBundle d b fun x => { x with
      marked := [], seen := [], known := true, seq := (seq + 1) % 65536, lastOk := s.cmx.period + 1 }
    let w := s.f (CMX_B_STATUS_WIDTH d b)
    let s := if x.known ∧ old < w ∧ w < 3 then (s.raise .TETHER_DEGRADED false 0 d).cutRoutes d b else s
    if w = 3 then s.bundleDisable d b
    else
      let h := s.recHash d b
      hashes.foldl (fun t x => t.agreeStep d b (decide (x = h))) (s.updBundle d b fun x => { x with agree := some 0 })

def execTrainEnd (d b : Nat) (found : List Nat) (seq : Nat) (hashes : List Nat) (s : State) : Host.Outcome State Fault Refusal :=
  .next (s.trainEnd d b found seq hashes)

/-- The slot-table epoch: trained bundles are paid out (R144). -/
def State.cmxEpoch (s : State) : State :=
  s.cmx.bundles.foldl (fun t e =>
    let d := e.1 / 16; let b := e.1 % 16
    if (t.bundleAt d b).trained ∧ t.bState d b = 1 then
      ((t.setF (CMX_B_STATUS_ATTEMPTS d b) 0).updBundle d b fun x => { x with trained := false, agree := none }).bundleLive d b
    else t) s

/-! ## Commands (R145, R151) -/

/-- The region is ACTIVE or PAUSED, or a valid entry names a position of the bundle. -/
def State.bundleUsed (s : State) (d b : Nat) : Bool :=
  s.runs (bundleRegion d b) || s.validRoutes.any (s.xrNames d b)

def State.cmdErr (s : State) (d b e : Nat) : State := s.setF (CMX_B_STATUS_CMD_ERR d b) e

def State.bundleCmd (s : State) (d b cmd : Nat) : State :=
  let st := s.bState d b
  let inUse := decide (s.f (CMX_B_CTRL_FORCE d b) = 0) && s.bundleUsed d b
  match cmd with
  | 1 => if st ≠ 3 then s.cmdErr d b 2 else if inUse then s.cmdErr d b 1 else (s.dropSteers d b).setBundle d b 2
  | 2 => if st ≠ 2 then s.cmdErr d b 2 else s.trainStart d b
  | 3 => if st ≠ 2 ∧ st ≠ 3 then s.cmdErr d b 2 else if inUse then s.cmdErr d b 1 else s.trainStart d b
  | 4 =>
    if st ≠ 2 ∧ st ≠ 5 then s.cmdErr d b 2
    else if s.rState (bundleRegion d b) ≠ 0 ∨ s.validRoutes.any (s.xrNames d b) then s.cmdErr d b 3
    else (((s.dropSteers d b).clearRecord d b).setF (CMX_B_STATUS_ATTEMPTS d b) 0).trainStart d b
  | 5 =>
    if st ≠ 0 ∧ st ≠ 2 then s.cmdErr d b 2
    else
      let w := s.f (CMX_B_CTRL_WIRE d b)
      if w < 2112 then s.updBundle d b fun x => { x with marked := sortUp (w :: x.marked) } else s
  | _ => s

/-- A write of CMX_Bb_CTRL with its fields: in TRAIN it is ignored and FIELD_BUSY set (R151). -/
def State.bundleCtrl (s : State) (d b wire force cmd : Nat) : State :=
  if s.bState d b = 1 then s.busy (CMX_B_STATUS_FIELD_BUSY d b)
  else (s.setFs [(CMX_B_CTRL_WIRE d b, wire), (CMX_B_CTRL_FORCE d b, force)]).bundleCmd d b cmd

def execBundleReelIn (m : Master) (d b wire force : Nat) (s : State) : Host.Outcome State Fault Refusal :=
  .next (s.viaWrite m (CMX_B_CTRL d b) fun s => s.bundleCtrl d b wire force 1)
def execBundlePayOut (m : Master) (d b wire force : Nat) (s : State) : Host.Outcome State Fault Refusal :=
  .next (s.viaWrite m (CMX_B_CTRL d b) fun s => s.bundleCtrl d b wire force 2)
def execBundleRetrain (m : Master) (d b wire force : Nat) (s : State) : Host.Outcome State Fault Refusal :=
  .next (s.viaWrite m (CMX_B_CTRL d b) fun s => s.bundleCtrl d b wire force 3)
def execBundleMaintRetrain (m : Master) (d b wire force : Nat) (s : State) : Host.Outcome State Fault Refusal :=
  .next (s.viaWrite m (CMX_B_CTRL d b) fun s => s.bundleCtrl d b wire force 4)
def execBundleMarkBad (m : Master) (d b wire force : Nat) (s : State) : Host.Outcome State Fault Refusal :=
  .next (s.viaWrite m (CMX_B_CTRL d b) fun s => s.bundleCtrl d b wire force 5)

/-- DIE_ISOLATE. -/
def execDieIsolate (m : Master) (d : Nat) (s : State) : Host.Outcome State Fault Refusal :=
  .next (s.viaWrite m (CMX_DIE_CTRL d) fun s => s.dieIsolate d 2)

/-! ## Admission (R150, 15 R388, R389) -/

/-- Bits [4d + 3:4d] of HUB_ADMIT. -/
def State.setAdmit (s : State) (d v : Nat) : State :=
  let w := s.f HUB_ADMIT_RESULT
  s.setF HUB_ADMIT_RESULT (w - w / 16 ^ d % 16 * 16 ^ d + v * 16 ^ d)

/-- The admission belongs to the boot: the cores have not entered the shell. -/
def State.atBoot (s : State) : Bool := decide (s.boot.phase ≠ 4 ∧ s.boot.phase ≠ 5)

/-- The die is not part of this boot (03 R70). -/
def State.dieSkip (s : State) (d : Nat) : State :=
  s.setF CFG_BOOT_STATUS_DIE_SKIP (setBitN (s.f CFG_BOOT_STATUS_DIE_SKIP) d true)

/-- Admission begins (R388 steps 1 and 2): the die's reset is released, its tether PLL starts, every bundle that is not
DISABLED trains; pins that slept with the die wake (16 R419). A die with every bundle DISABLED is isolated (R150), its regions LOST
(01 R22). -/
def State.admitStart (s : State) (d : Nat) : State :=
  if s.allDisabled d then
    let s := (s.setFs [(CMX_DIE_STATUS_STATE d, 3), (CMX_DIE_STATUS_CAUSE d, 3)]).regionsLost d
    if s.atBoot then s.dieSkip d else s
  else
    let s := (s.updCmx fun c => { c with resets := c.resets.filter (· ≠ d) }).fabReset d
    let s := State.wakeDiePins s ((s.setF (CMX_DIE_STATUS_STATE d) 1).dieClocksStart d) d
    (List.range 16).foldl (fun t b => if t.bState d b = 5 then t else t.trainStart d b) s

/-- ADMIT (R152): the block counts as idle while STATE is DOWN or ISOLATED. -/
def State.dieAdmit (s : State) (d : Nat) : State :=
  if s.dieState d = 0 ∨ s.dieState d = 3 then s.admitStart d else s.busy (CMX_DIE_STATUS_FIELD_BUSY d)

def execDieAdmit (m : Master) (d : Nat) (s : State) : Host.Outcome State Fault Refusal :=
  .next (s.viaWrite m (CMX_DIE_CTRL d) fun s => s.dieAdmit d)

/-- A failed admission (R389): the die stays ISOLATED; at boot it is skipped (03 R70). -/
def State.admitFail (s : State) (d code : Nat) : State :=
  let s := (s.bundlesDown d).setF (CMX_DIE_STATUS_STATE d) 3
  let s := ((s.sensorsValid d false).dieClocksStop d).setAdmit d code
  let s := if code = 1 then s.setF (CMX_DIE_STATUS_ADMIT_FAIL d) 1 else s
  let s := if s.atBoot then (s.dieSkip d).regionsLost d else s
  s.raise .DIE_ADMIT_FAIL false 0 d

/-- ADMIT_TIMEOUT: the die side has answered no bundle within 50 µs. -/
def execAdmitTimeout (d : Nat) (s : State) : Host.Outcome State Fault Refusal :=
  .next (if s.dieState d = 1 then s.admitFail d 1 else s)

/-- The die-common frames of die d in the golden store, from its bytes (04 R111). -/
def State.goldFrames (s : State) (d : Nat) : SMap Nat :=
  let a := s.goldAddr (commonBase d)
  s.mem.foldl (fun m e =>
    if a ≤ e.1 ∧ e.1 < a + 6553600 then
      let i := commonBase d + (e.1 - a) / 400
      nput m i (nget m i + e.2.toNat * 2 ^ (8 * ((e.1 - a) % 400)))
    else m) []

/-- The die-common frames of die d have been written: its checkers run, each from slot 0 (04 R103). -/
def State.commonWritten (s : State) (d : Nat) : State :=
  s.updInteg fun x => { x with
    slots := SMap.filterKeys (fun k => decide (k / 64 ≠ d)) x.slots, common := if x.common.contains d then x.common else d :: x.common }

/-- The last steps of an admission (R388 steps 4 to 6): trios are cleared, sensors become VALID, die-common frames are written
from the golden store except at boot, STATE is ADMITTED and LOST regions enter CLEARING. -/
def State.admitDone (s : State) (d : Nat) : State :=
  let s := ((List.range 8).foldl (fun t i => t.trioClear (8 * d + i)) s).sensorsValid d true
  if !s.atBoot ∧ s.f CFG_INTEG_STATUS_GOLD_DIE / 2 ^ d % 2 = 0 then s.admitFail d 3
  else
    let fs := if s.atBoot then [] else s.goldFrames d
    if !s.atBoot ∧ (s.hubStatus (s.goldAddr (commonBase d)) 6553600 ≠ stOk
        ∨ fs.any fun e => decide (frameOutcome e.1 e.2 ≠ .clean)) then s.admitFail d 4
    else
      let s := if s.atBoot then s
        else (fs.foldl (fun t e => t.setFrame e.1 e.2) (s.blankFrames (commonBase d) 16384)).commonWritten d
      let s := (s.setF (CMX_DIE_STATUS_STATE d) 2).setAdmit d 0
      (List.range 8).foldl (fun t i => if t.rState (8 * d + i) = 4 then t.beginClearing (8 * d + i) else t) s

/-- DIE_ADMIT_END: every bundle has been paid out or disabled; `idOk` says that the die's identity word matches. -/
def execDieAdmitEnd (d : Nat) (idOk : Bool) (s : State) : Host.Outcome State Fault Refusal :=
  .next (if s.dieState d ≠ 1 then s
    else if (List.range 16).any fun b => decide (s.bState d b ≠ 3 ∧ s.bState d b ≠ 5) then s
    else if s.allDisabled d then (s.setF (CMX_DIE_STATUS_CAUSE d) 3).admitFail d 0
    else if !idOk then s.admitFail d 2
    else s.admitDone d)

/-! ## What happens to a wire or a die -/

/-- WIRE_FAULT. -/
def execWireFault (d b w : Nat) (s : State) : Host.Outcome State Fault Refusal :=
  .next (s.updBundle d b fun x => { x with faulty := sortUp (w :: x.faulty) })

/-- DIE_RESET: the die's registers take their reset values and every envelope is closed (02 R58); it sends no valid frame until it
is admitted again (R147, R149). -/
def execDieReset (d : Nat) (s : State) : Host.Outcome State Fault Refusal :=
  .next ((s.fabReset d).updCmx fun c => { c with resets := if c.resets.contains d then c.resets else d :: c.resets })

end Sys2Proof.Machine
end

