-- ==== Sys2Proof/Machine/Life.lean ====
section
/-! DEFINITION. The lifecycle (15 R390 to R393), the debug level and its token (17 R425, R430), and the commands LC_ADVANCE,
LC_KEY_PROG, LC_REVOKE, LC_RETURN, LC_SCRAP, LC_CMD_END, FEAT_COMMIT, DBG_AUTH_GO, DBG_AUTH_END and DBG_TOKEN_DROP. -/

namespace Sys2Proof.Machine
open Reg

/-! ## Debug level (17 R425) -/

/-- HUB_LC_STATE.STATE: 0 BLANK, 1 FACTORY, 2 PROVISIONED, 3 DEPLOYED, 4 RETURN, 5 SCRAPPED. -/
def State.lcState (s : State) : Nat := s.f HUB_LC_STATE_STATE

/-- The ceiling of a lifecycle state: 0 NONE, 1 OBSERVE, 2 FULL. -/
def State.dbgCeiling (s : State) : Nat :=
  match s.lcState with
  | 0 | 1 | 4 => 2
  | 2 => if s.dbg.token then 2 else 1
  | 3 => 1
  | _ => 0

/-- The level: the lower of the ceiling and LIMIT. -/
def State.dbgLevel (s : State) : Nat := min s.dbgCeiling (s.f DBG_CTRL_LIMIT)

def State.updDbg (s : State) (g : Dbg → Dbg) : State := { s with dbg := g s.dbg }

/-- The level is judged again; a change takes effect at once, and at NONE the sink drops what it holds (R425, R443). -/
def State.dbgEval (s : State) : State :=
  let v := s.dbgLevel
  if v = s.f DBG_STATUS_LEVEL then s
  else
    let s := (s.setF DBG_STATUS_LEVEL v).raise .DBG_LEVEL false 0 noInst
    if v = 0 then s.updDbg fun x => { x with store := [], taken := [] } else s

/-- A token is granted or withdrawn (17 R430). -/
def State.setToken (s : State) (b : Bool) : State :=
  ((s.updDbg fun x => { x with token := b }).setF DBG_STATUS_TOKEN (b2n b)).dbgEval

/-! ## Tokens (15 R393, 17 R430) -/

/-- A new nonce (the spec states no value). -/
def State.drawNonce (s : State) (lo hi : Fld) : State :=
  let s := (s.setF lo (s.free 32)).freeNext
  (s.setF hi (s.free 32)).freeNext

/-- The bytes of `n` words from register `w j` on. -/
def State.wordBytes (s : State) (w : Nat → Fld) (n : Nat) : List Nat :=
  (List.range n).flatMap fun j => Crypto.leBytesN 4 (s.f (w j))

/-- Operator-key digest k is programmed and not revoked. -/
def State.keyGood (s : State) (k : Nat) : Bool :=
  decide (s.f HUB_LC_STATE_KEYS / 2 ^ k % 2 = 1 ∧ s.f HUB_LC_STATE_REVOKED / 2 ^ k % 2 = 0)

/-- The digest at index k; none when it is unprogrammed or revoked. -/
def State.opDigest (s : State) (k : Nat) : Option (List Nat) :=
  if k < 4 ∧ s.keyGood k then some (Crypto.nums (SMap.get (fun _ => []) s.fuses.digest k)) else none

/-- A token of 48 words passes: its public key has a good digest, its signature covers the tag, the device serial, the nonce
and the target byte. -/
def State.tokenOk (s : State) (buf : List Nat) (tag : List Nat) (nonce target : Nat) : Bool :=
  let pub := buf.take 96
  let d := Crypto.sha384 pub
  (List.range 4).any (fun k => decide (s.opDigest k = some d))
    && Crypto.ecdsaVerify pub
      (Crypto.sha384 (tag ++ Crypto.leBytesN 8 s.serial ++ Crypto.leBytesN 8 nonce ++ [target])) ((buf.drop 96).take 96)

/-! ## Lifecycle commands (15 R391, R392) -/

/-- "KXRT" and "KXDB". -/
def tagLife : List Nat := [0x4B, 0x58, 0x52, 0x54]
def tagDebug : List Nat := [0x4B, 0x58, 0x44, 0x42]

/-- The token in HUB_LC_BUF passes for a target state. -/
def State.lcToken (s : State) (target : Nat) : Bool :=
  s.tokenOk (s.wordBytes HUB_LC_BUF_WORD 48) tagLife
    (s.f HUB_LC_NONCE_LO_NONCE + s.f HUB_LC_NONCE_HI_NONCE * 2 ^ 32) target

/-- Another digest than k is programmed and not revoked. -/
def State.otherKey (s : State) (k : Nat) : Bool := (List.range 4).any fun j => decide (j ≠ k) && s.keyGood j

/-- The check of a command in the order of R392's columns, then of the floors: 0, or the code of ERR. -/
def State.lcCheck (s : State) (cmd idx : Nat) : Nat :=
  let st := s.lcState
  let e := match cmd with
    | 1 => if 3 ≤ st then 1 else if st = 1 ∧ s.f HUB_LC_STATE_KEYS = 0 then 4 else 0
    | 2 => if st ≠ 1 ∧ st ≠ 2 then 1 else if s.f HUB_LC_STATE_KEYS / 2 ^ idx % 2 = 1 then 7 else 0
    | 3 => if st ≠ 2 ∧ st ≠ 3 then 1
      else if s.f HUB_LC_STATE_KEYS / 2 ^ idx % 2 = 1 ∧ ¬(s.keyGood idx ∧ !s.otherKey idx) then 0 else 5
    | 4 => if st ≠ 2 ∧ st ≠ 3 then 1 else if s.lcToken 4 then 0 else 3
    | _ => if st = 5 then 1 else if st = 3 ∧ !s.lcToken 5 then 3 else 0
  if e ≠ 0 then e else if s.pins.below.isEmpty then 0 else 2

/-- A command ends: HUB_LC_BUF is cleared, a RETURN or SCRAP draws a new nonce. -/
def State.lcEnd (s : State) (cmd err : Nat) : State :=
  let s := s.setFs [(HUB_LC_STATUS_BUSY, 0), (HUB_LC_STATUS_DONE, 1), (HUB_LC_STATUS_ERR, err)]
  let s := (List.range 48).foldl (fun t j => t.setF (HUB_LC_BUF_WORD j) 0) s
  let s := { s with life := ⟨0, 0⟩ }
  if cmd = 4 ∨ cmd = 5 then s.drawNonce HUB_LC_NONCE_LO_NONCE HUB_LC_NONCE_HI_NONCE else s

/-- A write of HUB_LC_CMD: QUIET while a command runs; codes that name no command do nothing. -/
def State.lcCmd (s : State) (cmd idx : Nat) : State :=
  if s.bit HUB_LC_STATUS_BUSY then s.busy HUB_LC_STATUS_FIELD_BUSY
  else if cmd = 0 ∨ 6 ≤ cmd then s
  else
    let e := s.lcCheck cmd idx
    if e ≠ 0 then s.lcEnd cmd e
    else { s.setFs [(HUB_LC_STATUS_BUSY, 1), (HUB_LC_STATUS_ERR, 0)] with life := ⟨cmd, idx⟩ }

/-- A write of HUB_LC_CMD on a master's behalf: the debug port may write ADVANCE from BLANK at FULL (R392). -/
def State.lcWrite (s : State) (m : Master) (cmd idx : Nat) : State :=
  if m = .debug ∧ cmd = 1 ∧ s.lcState = 0 ∧ s.f DBG_STATUS_LEVEL = 2 then (s.answer (.ok 0)).lcCmd cmd idx
  else s.viaWrite m HUB_LC_CMD fun s => s.lcCmd cmd idx

def execLcAdvance (m : Master) (s : State) : Host.Outcome State Fault Refusal := .next (s.lcWrite m 1 0)
def execLcKeyProg (m : Master) (idx : Nat) (s : State) : Host.Outcome State Fault Refusal := .next (s.lcWrite m 2 idx)
def execLcRevoke (m : Master) (idx : Nat) (s : State) : Host.Outcome State Fault Refusal := .next (s.lcWrite m 3 idx)
def execLcReturn (m : Master) (s : State) : Host.Outcome State Fault Refusal := .next (s.lcWrite m 4 0)
def execLcScrap (m : Master) (s : State) : Host.Outcome State Fault Refusal := .next (s.lcWrite m 5 0)

/-- The state that a command moves to. -/
def State.lcTarget (s : State) (cmd : Nat) : Nat := match cmd with | 1 => s.lcState + 1 | 4 => 4 | _ => 5

/-- State bit b of the eFuses `f`: the majority of its three fuses (R391). -/
def fuseVote (f b : Nat) : Bool := decide (2 ≤ f / 2 ^ (3 * b) % 2 + f / 2 ^ (3 * b + 1) % 2 + f / 2 ^ (3 * b + 2) % 2)

/-- The lifecycle state that the fuses give: SCRAPPED with bit 4, otherwise the highest bit's (R391). -/
def lcOf (f : Nat) : Nat :=
  if fuseVote f 4 then 5 else match [3, 2, 1, 0].find? (fuseVote f) with | some b => b + 1 | none => 0

/-- The state fuses that a move to state v blows, in order: the target's bit, then the lower bits' (R391 steps 2 and 3). -/
def lcPulses (v : Nat) : List Nat := (List.range 3).map (3 * (v - 1) + ·) ++ List.range (3 * (v - 1))

/-- Blow state fuses. -/
def State.blow (s : State) (l : List Nat) : State :=
  { s with fuses := { s.fuses with life := l.foldl (fun f b => setBitN f b true) s.fuses.life } }

/-- A lifecycle state takes effect at once (R391, 17 R430). -/
def State.lcEnter (s : State) (v : Nat) : State :=
  ((s.setF HUB_LC_STATE_STATE v).raise .LC_CHANGED false 0 noInst).setToken false

/-- The fuses that a command blows before the target's bit (R391 step 1). -/
def State.lcFirst (s : State) (cmd idx : Nat) : State :=
  match cmd with
  | 2 =>
    let s := s.setF HUB_LC_STATE_KEYS (setBitN (s.f HUB_LC_STATE_KEYS) idx true)
    { s with fuses := { s.fuses with
      digest := SMap.put (fun _ => []) s.fuses.digest idx (Crypto.bytesOf (s.wordBytes HUB_LC_BUF_WORD 12)) } }
  | 3 => s.setF HUB_LC_STATE_REVOKED (setBitN (s.f HUB_LC_STATE_REVOKED) idx true)
  | 4 => s.setF HUB_LC_STATE_KEY0_DEAD 1
  | _ => s

/-- The command moves the state. -/
def lcMoves (cmd : Nat) : Bool := decide (cmd = 1 ∨ cmd = 4 ∨ cmd = 5)

/-- The state that the fuses now give takes effect, if it is another. -/
def State.lcJudge (s : State) : State := if lcOf s.fuses.life = s.lcState then s else s.lcEnter (lcOf s.fuses.life)

/-- The first `n` state fuses of a command's move are blown. -/
def State.lcBlow (s : State) (cmd n : Nat) : State :=
  if lcMoves cmd then (s.blow ((lcPulses (s.lcTarget cmd)).take n)).lcJudge else s

/-- LC_CMD_END: the fuse writes end. `failed` names the fuse that failed verification three times: 0 none, 1 one of the other
fuses, k + 2 the k-th state fuse of the move; those before it are blown (R391). -/
def execLcCmdEnd (failed : Nat) (s : State) : Host.Outcome State Fault Refusal :=
  .next (
    let cmd := s.life.cmd
    if cmd = 0 then s
    else
      let s := if failed = 1 then s else (s.lcFirst cmd s.life.idx).lcBlow cmd (if failed = 0 then 15 else failed - 2)
      s.lcEnd cmd (if failed = 0 then 0 else 6))

/-- A command is cut by a supply under its floor or by RESET_N (R391, R410, R383): after how many fuses is open, so a move leaves
the old state or the new one; a digest or a revocation whose pulses were cut is unblown. -/
def State.lcCut (s : State) : State :=
  let cmd := s.life.cmd
  if cmd = 0 then s
  else if lcMoves cmd then
    let x := s.free 5
    let s := s.freeNext
    (if x = 0 then s else (s.lcFirst cmd 0).lcBlow cmd (x - 1)).lcEnd cmd 2
  else s.lcEnd cmd 2

/-! ## Feature commit (15 R394) -/

def State.commitNow (s : State) : State := s.setF HUB_STATUS_COMMITTED 1

/-- FEAT_COMMIT: a write of the register, BOOT class; bit 0 commits. -/
def State.featCommit (s : State) (m : Master) (v : Nat) : State :=
  if s.committed then s.dropWrite m .bootLocked FEAT_COMMIT else if v % 2 = 1 then s.commitNow else s

def execFeatCommit (m : Master) (v : Nat) (s : State) : Host.Outcome State Fault Refusal :=
  .next (s.viaWrite m FEAT_COMMIT fun s => s.featCommit m v)

/-- A write of FEAT_ACCEPTk (R394): bits that CAP does not offer are stored as 0. -/
def State.featAccept (s : State) (m : Master) (k v : Nat) : State :=
  if s.committed then s.dropWrite m .bootLocked (FEAT_ACCEPT k) else s.setF (FEAT_ACCEPT_ACCEPT k) (v &&& s.featCap k)

/-! ## Debug authentication (17 R430) -/

/-- The check of the token in DBG_AUTH_BUF. -/
def State.dbgTokenOk (s : State) : Bool :=
  s.tokenOk (s.wordBytes DBG_AUTH_BUF_WORD 48) tagDebug
    (s.f DBG_AUTH_NONCE_LO_NONCE + s.f DBG_AUTH_NONCE_HI_NONCE * 2 ^ 32) 2

/-- A check ends: a failure is reported, the nonce is drawn anew, the buffer is cleared. -/
def State.authEnd (s : State) (err : Nat) : State :=
  let s := s.setFs [(DBG_AUTH_STATUS_ERR, err), (DBG_AUTH_STATUS_DONE, 1), (DBG_AUTH_STATUS_BUSY, 0)]
  let s := if err = 0 then s.setToken true else s.raise .DBG_AUTH_FAIL false 0 noInst
  let s := s.drawNonce DBG_AUTH_NONCE_LO_NONCE DBG_AUTH_NONCE_HI_NONCE
  (List.range 48).foldl (fun t j => t.setF (DBG_AUTH_BUF_WORD j) 0) s

/-- DBG_AUTH_CMD.GO: the check starts, or is refused outside PROVISIONED. -/
def State.authGo (s : State) : State :=
  if s.bit DBG_AUTH_STATUS_BUSY then s
  else if s.lcState ≠ 2 then s.authEnd 1
  else s.setFs [(DBG_AUTH_STATUS_BUSY, 1), (DBG_AUTH_STATUS_ERR, 0)]

def execDbgAuthGo (m : Master) (s : State) : Host.Outcome State Fault Refusal :=
  .next (s.viaWrite m DBG_AUTH_CMD fun s => s.authGo)

/-- DBG_AUTH_END (R430, R443): a lifecycle change while the check ran wins. -/
def execDbgAuthEnd (s : State) : Host.Outcome State Fault Refusal :=
  .next (if !s.bit DBG_AUTH_STATUS_BUSY then s
    else s.authEnd (if s.lcState ≠ 2 then 1 else if s.dbgTokenOk then 0 else 2))

/-- DBG_TOKEN_DROP: a write of DBG_CTRL.DROP. -/
def execDbgTokenDrop (m : Master) (s : State) : Host.Outcome State Fault Refusal :=
  .next (s.viaWrite m DBG_CTRL fun s => s.setToken false)

end Sys2Proof.Machine
end

