-- ==== Sys2Proof/Machine/Boot.lean ====
section
/-! DEFINITION. The boot (03 R64 to R73; 15 R382 to R386): the rip panel, attempts and their failure, the restart that a reset
makes, and the commands PLL_LOCK, BOOT_WDT_EXPIRE, SHELL_READY and THERM_CONVERSION. -/

namespace Sys2Proof.Machine
open Reg

def State.updBoot (s : State) (g : Boot → Boot) : State := { s with boot := g s.boot }
def State.updPins (s : State) (g : Pins → Pins) : State := { s with pins := g s.pins }

/-! ## Rip panel (03 R71) -/

/-- The rip panel engages: tenant transmitters idle, the mirror link goes down with PAIR_FAIL_OUT, endpoint A serves recovery.
Pin drivers and clock outputs follow the RIP bit (16 R420). -/
def State.ripOn (s : State) : State :=
  if s.bit CFG_BOOT_STATUS_RIP then s
  else
    ((s.setFs [(CFG_BOOT_STATUS_RIP, 1), (HUB_STATUS_RECOVERY, 1), (MBX_STATUS_RECOVERY 0, 1)]).ripLanes).padNote.selfFail

/-- The rip panel is released by CFG_DONE, PROG_N or a reset. -/
def State.ripOff (s : State) : State :=
  (s.setFs [(CFG_BOOT_STATUS_RIP, 0), (HUB_STATUS_RECOVERY, 0), (MBX_STATUS_RECOVERY 0, 0)]).ripLanes.padNote

/-! ## Attempts (03 R65 to R72) -/

def State.attempts (s : State) : Nat := s.f CFG_BOOT_STATUS_ATTEMPTS

/-- The slot that takes the boot stream: 2 or 3 in the slave modes, otherwise 4 (the boot master or JTAG). -/
def State.bootSlot (s : State) : Nat := if s.boot.mode = 2 then 2 else if s.boot.mode = 3 then 3 else 4

/-- The boot master reads the boot flash. -/
def State.masterMode (s : State) : Bool := decide (s.boot.mode = 0 ∨ s.boot.mode = 1 ∨ 5 ≤ s.boot.mode)

/-- Frames of a list become blank (R68). -/
def State.blankList (s : State) (l : List Nat) : State :=
  s.updInteg fun x => { x with
    frames := x.frames.filter fun e => !l.contains e.1
    stuck := x.stuck.filter fun i => !l.contains i }

/-- A failed attempt (R68, R97): its frames are blank, management SRAM is clear, CFG_ERR and the rip panel are asserted, its
error code stands, BOOT_FAIL is raised. -/
def State.attemptFail (s : State) (code : Nat) : State :=
  let n := s.bootSlot
  let s := s.blankList ((s.slotAt n).wrote ++ s.boot.wrote)
  let s := ((s.setSlot n Slot.empty).setLdState n 8).updBoot fun b => { b with sram := [], wrote := [] }
  let s := if n < 4 then s.setFs [(CFG_LD_STATUS_ERR n, code), (CFG_LD_STATUS_DONE n, 1)] else s
  let s := (s.updPins fun p => { p with cfgErr := true }).ripOn
  (s.setF (if s.attempts = 1 then CFG_BOOT_STATUS_ERR1 else CFG_BOOT_STATUS_ERR2) code).raise .BOOT_FAIL false 0 noInst

/-- The stream of an attempt begins: the boot master at the image's flash address, a slave slot armed, JTAG at its first
word. -/
def State.bootArm (s : State) : State :=
  let n := s.bootSlot
  let s := s.setSlot n { Slot.empty with boot := true }
  let s := if n < 4 then s.setF (CFG_LD_STATUS_FRAMES n) 0 else s
  if s.masterMode then
    (s.updBoot fun b => { b with off := if s.attempts = 1 then b.prim else b.fall }).setLdState n 2
  else s.setLdState n 1

/-- The attempts that are left (R68, R72); JTAG boots in FACTORY and RETURN only (R65). -/
def State.bootGo : Nat → State → State
  | 0, s => (s.setF CFG_BOOT_STATUS_STOPPED 1).updBoot fun b => { b with phase := 6 }
  | n + 1, s =>
    let s := (s.setF CFG_BOOT_STATUS_ATTEMPTS (2 - n)).updBoot fun b => { b with phase := 3 }
    if s.boot.mode = 4 ∧ ¬(s.lcState = 1 ∨ s.lcState = 4) then State.bootGo n (s.attemptFail 0x07) else s.bootArm

/-- The running attempt fails; the next begins, or the boot stops. -/
def State.bootFail (s : State) (code : Nat) : State := (s.attemptFail code).bootGo (2 - s.attempts)

/-- No directory copy has a good CRC: both attempts fail (R67). -/
def State.dirBad (s : State) : State :=
  let s := (s.setF CFG_BOOT_STATUS_ATTEMPTS 1).attemptFail 0x19
  ((s.setF CFG_BOOT_STATUS_ATTEMPTS 2).attemptFail 0x19).bootGo 0

/-- The boot master discovers its flash through the SFDP tables in 1S-1S-1S mode at 25 MHz (R66): strap 1 keeps it in 1S-1S-1S at
50 MHz (R65), and so does a flash that advertises no 8D-8D-8D. -/
def State.discover (s : State) : State :=
  s.updBoot fun b => { b with flash := if b.mode ≠ 1 ∧ Config.flashOctal = true then 2 else 1 }

/-- The boot ROM runs on G0 (15 R386 steps 3 to 6, R388): dies not admitted are admitted, the directory and the equalisation
table are read, the first attempt begins. -/
def State.bootRom (s : State) : State :=
  let s := (List.range 8).foldl (fun t d => if t.dieState d = 2 then t else t.admitStart d) s
  let s := s.eqReload
  if s.masterMode then
    let s := s.discover
    match s.directory with
    | none => s.dirBad
    | some d => (s.updBoot fun b => { b with prim := dirWord d 8, fall := dirWord d 0xC }).bootGo 2
  else s.bootGo 2

/-- PLL_LOCK (14 R364, R366); the hub PLL's first lock starts the boot ROM (15 R386 step 3). -/
def execPllLock (p : Nat) (s : State) : Host.Outcome State Fault Refusal :=
  let t := s.pllLocks p
  .next (if p = 0 ∧ t.boot.phase = 1 ∧ t.pllState 0 = 2 then t.bootRom else t)

/-- BOOT_WDT_EXPIRE (R69): the watchdog, frozen while G0 is halted (17 R442), expires before SHELL_READY. -/
def execBootWdtExpire (s : State) : Host.Outcome State Fault Refusal :=
  .next (if s.boot.phase = 4 ∧ !s.dbg.halted.contains 0 then s.bootFail 0x18 else s)

/-- SHELL_READY takes effect (R69, 15 R394): CFG_DONE, CFG_ERR, the rip panel, the commit. Ignored after CFG_DONE, and while
no image has passed. -/
def State.shellReady (s : State) : State :=
  if s.boot.phase = 4 then
    let s := (s.updPins fun p => { p with cfgDone := true, cfgErr := false }).ripOff
    (s.commitNow.setF HUB_STATUS_SHELL_UP 1).updBoot fun b => { b with phase := 5 }
  else s

def execShellReady (m : Master) (s : State) : Host.Outcome State Fault Refusal :=
  .next (s.viaWrite m CFG_BOOT_CTRL State.shellReady)

/-! ## Resets (15 R384, R385) -/

/-- Registers that a POR_N keeps: those that show fuses, the supplies and the banks. -/
def keepPor (a : Nat) : Bool := decide (a = HUB_LC_STATE ∨ a = HUB_SUPPLY ∨ (GPIO_BANK_STATUS 0 ≤ a ∧ a ≤ GPIO_BANK_STATUS 3))

/-- Registers that RESET_N and a trip keep: the AON domain's and the judge's, HUB_SUPPLY and the thermal sensors. -/
def keepReset (a : Nat) : Bool :=
  keepPor a || decide (a = CLK_JUDGE ∨ (CLK_JUDGE_CNT 0 ≤ a ∧ a ≤ CLK_JUDGE_CNT 1) ∨ a = PWR_THERM_STATUS
    ∨ (PWR_TEMP 0 ≤ a ∧ a ≤ PWR_TEMP 63))

/-- A boot-flash command is cut (15 R383): what it was programming or erasing is undefined. -/
def State.bspiCut (s : State) : State :=
  match s.bspi with
  | none => s
  | some (op, cnt) =>
    let a := s.f HUB_BSPI_ADDR_ADDR
    let l := if op = 3 then (a / 4096 * 4096, 4096) else (a, cnt + 1)
    let s := { s with bspi := none }
    if op = 1 then s
    else (List.range l.2).foldl (fun t i =>
      { t with bflash := SMap.put (fun _ => (0xFF : Byte)) t.bflash (l.1 + i) (BitVec.ofNat 8 (t.free 8)) }.freeNext) s

/-- Every field at its reset value but what no reset touches: fuses, flashes, straps and pins, what has left the device, and
the model's queue and counter of open values. -/
def State.wiped (s : State) : State :=
  { State.reset with
    pending := s.pending, out := s.out, resp := s.resp, freeCtr := s.freeCtr, fuses := s.fuses, bflash := s.bflash
    fab := { State.reset.fab with flash := s.fab.flash }
    gpio := { Gpio.empty with ext := s.gpio.ext }
    pins := { s.pins with cfgDone := false, cfgErr := false }
    boot := { Boot.empty with mode := s.boot.mode }
    flds := SMap.filterKeys (fun k => keepPor (k / 32)) s.flds }

/-- POR_N: every domain (R384). -/
def State.restartPor (s : State) : State :=
  let s := s.lcCut.bspiCut.wiped
  ((s.clearF HUB_SUPPLY_SEQ_ERR).clearF HUB_SUPPLY_DROOP).updPins fun p => { p with thermTripN := true }

/-- The fuses are sensed into their shadow registers (15 R386); the PAIR_ROLE strap and the debug level of the lifecycle state, and
the nonces that every reset draws (15 R393). -/
def State.senseFuses (s : State) : State :=
  let s := s.setF HUB_LC_STATE_STATE (lcOf s.fuses.life)
  let s := (s.setF MIR_STATUS_ROLE s.pins.role).setF DBG_STATUS_LEVEL s.dbgLevel
  (s.drawNonce HUB_LC_NONCE_LO_NONCE HUB_LC_NONCE_HI_NONCE).drawNonce DBG_AUTH_NONCE_LO_NONCE DBG_AUTH_NONCE_HI_NONCE

/-- Every controller is REELED with its contents kept (R385, 10 R261). -/
def State.hbmKept (s : State) : State :=
  ((List.range 128).foldl (fun t n => (t.updPc n fun c => { c with inited := true }).setPcState n 2) s).setF HUB_STATUS_HBM_KEPT 1

/-- The map register of an engine memory that has a bad unit: a bad unit is never used again until POR_N (17 R448). -/
def State.mapKept (s : State) (a : Nat) : Bool :=
  s.bist.bad.any fun p => decide (p / 2 ^ 16 = 1 ∧ p / 16 % 4 < 2 ∧ a = ENG_MEM_MAP (p / 256 % 256 / 3) (p / 256 % 256 % 3) (p / 16 % 4))

/-- What the self-test keeps: bad units, and the map of memories that have one. -/
def State.bistKept (s : State) : Bist :=
  { Bist.empty with
    bad := s.bist.bad
    map := SMap.filterKeys (fun u => s.bist.bad.any fun p => decide (p / 2 ^ 16 = 0 ∧ p / 256 = u / 256)) s.bist.map }

/-- RESET_N or a trip (R384, R385): everything but the AON domain, the judge, HUB_SUPPLY, the thermal sensors, DRAM
contents and NOC_TIME. The device is held (phase 7). -/
def State.restartHeld (s : State) : State :=
  let s := s.lcCut.bspiCut
  let c := s.clk
  let t := s.wiped
  let t := { t with
    mem := s.mem, ecc := { t.ecc with hbmBad := s.ecc.hbmBad }, aonTicks := s.aonTicks, nocTime := s.nocTime, smb := s.smb
    ev := { t.ev with board := s.ev.board, boardSeq := s.ev.boardSeq }
    pwr := { t.pwr with hot := s.pwr.hot }
    clk := { t.clk with mux := SMap.filterKeys (fun k => decide (k / 32 = 191)) c.mux, good0 := c.good0,
                         good1 := c.good1, lastAct := c.lastAct, unres := c.unres }
    bist := s.bistKept
    flds := SMap.filterKeys (fun k => keepReset (k / 32) || s.mapKept (k / 32)) s.flds }
  (((t.mapMoved (s.f DMC_GLB_CTRL_MAP) (t.f DMC_GLB_CTRL_MAP)).hbmKept).senseFuses).updBoot fun b => { b with phase := 7 }

/-- THERM_CONVERSION (14 R375 to R377): a conversion of all sensors; two at or above TRIP_C in a row trip the device. -/
def State.thermStep (s : State) (raw : List Nat) : State :=
  let s := s.thermConvert raw
  let trip := s.thermTrips
  let s := s.updPwr fun p => { p with hot := s.hotSensors }
  if trip ∧ s.pins.thermTripN then
    ((s.setF PWR_THERM_STATUS_TRIPPED 1).restartHeld).updPins fun p => { p with thermTripN := false }
  else s

def execThermConversion (raw : List Nat) (s : State) : Host.Outcome State Fault Refusal := .next (s.thermStep raw)

end Sys2Proof.Machine
end

