-- ==== Sys2Proof/Machine/Load.lean ====
section
/-! DEFINITION. Loading (03 R64 to R97; 04 R107, R108): streams into load slots over their paths, header, manifest and body
commands, the end of authentication, and the commands SSP_WRITE_STREAM to LOAD_STALL, CFG_VERIFY_DONE, BOOT_FLASH_DATA and
CFG_LOAD. Slot 4 stands for the boot master and JTAG. -/

namespace Sys2Proof.Machine
open Reg

/-! ## Taking stream bytes -/

def State.bootStream (s : State) (n : Nat) : Bool := (s.slotAt n).boot

/-- The load of a slot fails with an error code (R92, R97). -/
def State.slotFail (s : State) (n code : Nat) : State := if s.bootStream n then s.bootFail code else s.loadFail n code

/-- Staging space in bytes (R74). -/
def stageSize : Nat := 2 ^ 20
def State.stageFree (s : State) (n : Nat) : Nat := stageSize - ((s.slotAt n).all.length - (s.slotAt n).pos)

/-- Bytes that still belong to the stream, once the header is staged and says how long it is (R77, R95). -/
def State.streamLeft (s : State) (n : Nat) : Option Nat :=
  if 3 ≤ s.ldState n ∨ 384 ≤ (s.slotAt n).all.length then some ((s.slotAt n).total - (s.slotAt n).all.length) else none

/-- The slot takes stream bytes: armed or loading, its region awake (R75, R96). -/
def State.taking (s : State) (n : Nat) : Bool :=
  decide (1 ≤ s.ldState n ∧ s.ldState n ≤ 5) && !(s.slotAt n).waking && decide (s.streamLeft n ≠ some 0)

/-- First row and number of rows of the staging SRAM that bytes o to o + k - 1 of a slot's stream fill. -/
def stageRows (n o k : Nat) : Nat × Nat := (n % 4 * 131072 + o % stageSize / 8, (o % 8 + k + 7) / 8)

/-- Stream bytes arrive; an armed slot enters HEADER; data after the end of the stream is not taken (R92, R95). -/
def State.feed (s : State) (n : Nat) (d : List Byte) : State :=
  if !s.taking n ∨ d.isEmpty then s
  else
    let d := match s.streamLeft n with | some k => d.take k | none => d
    let s := if s.ldState n = 1 then s.setLdState n 2 else s
    let w := stageRows n (s.slotAt n).all.length d.length
    (s.eccWriteRange stageMacro w.1 w.2).updSlot n fun x => { x with all := x.all ++ d }

/-! ## Paths (R64, R74 to R78) -/

/-- SSP WRITE_STREAM: bytes sent while the slot takes none are discarded; bytes beyond SPACE fail the load (R75). -/
def State.sspWrite (s : State) (d : List Byte) : State :=
  if !s.taking 2 then s
  else
    let d := match s.streamLeft 2 with | some k => d.take k | none => d
    let room := s.stageFree 2 / 256 * 256
    if room < d.length then (s.feed 2 (d.take room)).slotFail 2 0x11 else s.feed 2 d

/-- The SSP status word (R74); a slot that waits for its region's wake shows neither ARMED's bit nor space (R96). DESIGN CHOICE
(log 89): [31] shows that the slot takes bytes, in ARMED to VERIFY; [30] that it is in FAIL or CLEARING, and falls with it. -/
def State.sspStatus (s : State) : Nat :=
  let st := s.ldState 2
  let w := (s.slotAt 2).waking
  b2n (s.taking 2) * 2 ^ 31 + b2n (decide (st = 8 ∨ st = 9)) * 2 ^ 30 + b2n (decide (st = 7)) * 2 ^ 29 + st * 2 ^ 24
    + s.f (CFG_LD_STATUS_ERR 2) * 2 ^ 16 + (if w then 0 else s.stageFree 2 / 256)

/-- An SSP transaction by its first byte (R74): WRITE_STREAM with its stream bytes, READ_STATUS with the status word, or an unknown
command, of which the port ignores the rest. -/
def State.sspBegin (s : State) (code : Nat) (d : List Byte) : State :=
  if code = 0x02 then s.sspWrite d
  else if code = 0x05 then s.answer (.ok s.sspStatus)
  else s

/-- SSP_UNKNOWN_COMMAND: a transaction whose first byte is `code` and that ends with it. -/
def execSspUnknownCommand (code : Nat) (s : State) : Host.Outcome State Fault Refusal := .next (s.sspBegin code [])

def execSspWriteStream (d : List Byte) (s : State) : Host.Outcome State Fault Refusal := .next (s.sspBegin 0x02 d)

def execSspReadStatus (s : State) : Host.Outcome State Fault Refusal := .next (s.sspBegin 0x05 [])

/-- PSP_READY (R77). -/
def State.pspReady (s : State) : Bool := s.taking 3 && decide (4 ≤ s.stageFree 3)

/-- A PSP word transfers while VALID and READY are high; D[7:0] is its first byte (R76). -/
def execPspWord (w : Nat) (s : State) : Host.Outcome State Fault Refusal :=
  .next (if s.pspReady then s.feed 3 (leBytes 4 w) else s)

/-- The next read of an internal-path slot: address and length, within LEN and a 512-byte block (R78). -/
def State.srcChunk (s : State) (n : Nat) : Nat × Nat :=
  let o := (s.slotAt n).all.length
  let a := s.f (CFG_LD_SRC_SRC n) * 256 + o
  (a, min (s.f (CFG_LD_LEN_LEN n) - o) (512 - a % 512))

/-- CFG_SOURCE_DATA: a read of slot 0 or 1 is answered; an error or poisoned data fails the load (R78). -/
def execCfgSourceData (n : Nat) (s : State) : Host.Outcome State Fault Refusal :=
  .next (
    let c := s.srcChunk n
    if 2 ≤ n ∨ !s.taking n ∨ c.2 = 0 ∨ s.stageFree n < c.2 then s
    else
      let q := s.hubRead c.1 c.2
      if q.2.1 = stOk then q.1.feed n q.2.2 else q.1.slotFail n 0x12)

/-- The boot flash's byte; the boot master sends 4-byte addresses (R66). -/
def State.flashByte (s : State) (a : Nat) : Byte := SMap.get (fun _ => (0xFF : Byte)) s.bflash (a % 2 ^ 32)

/-- BOOT_FLASH_DATA: `k` bytes that the boot master reads next, in the mode that it has chosen, enter the boot stream (R66). -/
def execBootFlashData (k : Nat) (s : State) : Host.Outcome State Fault Refusal :=
  .next (if s.boot.phase = 3 ∧ s.masterMode ∧ s.boot.flash ≠ 0 then
      let k := min k (s.stageFree 4)
      let d := (List.range k).map fun i => s.flashByte (s.boot.off + i)
      (s.feed 4 d).updBoot fun b => { b with off := b.off + k }
    else s)

/-- CFG_LOAD: one stream word from JTAG, at FULL (R65, 17 R427). Below FULL the instruction selects BYPASS. -/
def execCfgLoad (w : Nat) (s : State) : Host.Outcome State Fault Refusal :=
  .next (if s.f DBG_STATUS_LEVEL = 2 then
      let s := s.updDbg fun x => { x with ir := 0x12 }
      if s.boot.phase = 3 ∧ s.boot.mode = 4 then s.feed 4 (leBytes 4 w) else s
    else s.updDbg fun x => { x with ir := 0xFF })

/-! ## Units of the stream -/

/-- A unit of the stream: its bytes are staged, are still to come, or run past the end (R78, R95). -/
inductive UnitState where
  | ready
  | wait
  | short
  deriving DecidableEq, Repr

/-- Bytes o to o + k - 1 of the stream. -/
def State.unitAt (s : State) (n o k : Nat) : UnitState :=
  if n < 2 ∧ !s.bootStream n ∧ s.f (CFG_LD_LEN_LEN n) < o + k then .short
  else if (s.slotAt n).all.length < o + k then .wait else .ready

/-- Bytes of the body's commands. -/
def State.bodyUnit (s : State) (n o k : Nat) : UnitState :=
  if (s.slotAt n).bodyEnd < o + k then .short else s.unitAt n o k

/-- A unit is read from staging; an uncorrectable word ends the load with SOURCE (11 R273). -/
def State.staged (s : State) (n o k : Nat) (act : State → State) : State :=
  let w := stageRows n o k
  let q := s.eccReadRange stageMacro w.1 w.2
  if q.2 then q.1.slotFail n 0x12 else act q.1

/-- Act on a unit that is staged; a stream that ends before it is SHORT. -/
def State.onUnit (s : State) (n : Nat) (u : UnitState) (o k : Nat) (act : State → State) : State :=
  match u with
  | .ready => s.staged n o k act
  | .wait => s
  | .short => s.slotFail n 0x0D

/-- Plaintext bytes of the body (R83). -/
def State.slotText (s : State) (n o k : Nat) : List Nat :=
  let x := s.slotAt n
  match (if x.encrypted then s.bkey x.keyId else none) with
  | some key =>
    let b := (o - x.body0) / 16
    let lo := x.body0 + 16 * b
    ((Crypto.ctr key (Crypto.nums ((x.all.drop 0x30).take 12)) (2 + b) (Crypto.nums ((x.all.drop lo).take (o + k - lo)))).drop
      (o - lo)).take k
  | none => Crypto.nums ((x.all.drop o).take k)

def State.slotWord (s : State) (n o : Nat) : Nat := Crypto.leNum (s.slotText n o 4)

/-! ## Header (R79 to R83) -/

/-- A reserved byte of the header is not zero. -/
def Slot.reservedBad (x : Slot) : Bool :=
  decide (8 ≤ x.flags) || decide (x.num 0x2E 2 ≠ 0 ∨ x.num 0x3C 4 ≠ 0 ∨ x.num 0x48 88 ≠ 0 ∨ x.num 0x160 32 ≠ 0)

/-- The stream breaks the form of R79. -/
def Slot.formatBad (x : Slot) : Bool :=
  decide (x.num 4 2 ≠ 1 ∨ x.num 6 2 ≠ 0x180 ∨ x.bodyLen % 4 ≠ 0 ∨ x.manCount < 1 ∨ 4096 < x.manCount)
    || (x.encrypted && decide (x.bodyLen < 16)) || x.reservedBad

/-- The lifecycle refuses the stream (R81). -/
def State.lifeRefuses (s : State) (x : Slot) : Bool :=
  let st := s.lcState
  decide (st = 5) || (decide (2 ≤ st ∧ st ≤ 4) && !x.signed)

/-- A key that the stream names is missing or does not match (R82, R83). -/
def State.keyUnknown (s : State) (x : Slot) : Bool :=
  (x.signed && decide (s.opDigest (x.num 0x2C 1) ≠ some (Crypto.sha384 (Crypto.nums ((x.all.drop 0x100).take 96)))))
    || (x.encrypted && ((x.boot && decide (x.keyId ≠ 0)) || (s.bkey x.keyId).isNone))

/-- The match of R80 to R83 in its order: 0, or the error code. -/
def State.headerErr (s : State) (n : Nat) : Nat :=
  let x := s.slotAt n
  let rev := s.f CFG_DEVINFO_REV
  if x.num 0 4 ≠ 0x5342584B then 0x01
  else if x.formatBad then 0x02
  else if x.num 8 2 ≠ 0x4B58 ∨ x.num 0xA 2 ≠ 0x2400 then 0x03
  else if rev < x.num 0xC 1 ∨ x.num 0xD 1 < rev then 0x04
  else if s.serial < x.num 0x10 8 ∨ x.num 0x18 8 < s.serial then 0x05
  else if x.num 0xE 1 ≠ (if x.boot then 1 else 2) then 0x06
  else if s.lifeRefuses x then 0x07
  else if s.keyUnknown x then 0x08
  else 0

/-- CFG_HEADER: the header is matched; bytes beyond the stream's end are dropped. -/
def execCfgHeader (n : Nat) (s : State) : Host.Outcome State Fault Refusal :=
  .next (if s.ldState n ≠ 2 then s
    else s.onUnit n (s.unitAt n 0 384) 0 384 fun s =>
      let e := s.headerErr n
      if e ≠ 0 then s.slotFail n e
      else (s.updSlot n fun x => { x with pos := 384, all := x.all.take x.total }).setLdState n 3)

/-! ## Manifest (R84 to R86, R91) -/

/-- The frame that an address of the stream names, after the substitution of a RELOC image. -/
def State.streamFrame (s : State) (n a : Nat) : Option Nat :=
  let x := s.slotAt n
  if x.reloc then
    if x.boot ∨ a / 2 ^ 25 ≠ 0 then none
    else let r := s.ldTarget n; farIndex (a + r / 8 * 2 ^ 29 + r % 8 * 2 ^ 25)
  else farIndex a

/-- The run from frame i of c frames lies inside the load's fence (R85). -/
def State.inFence (s : State) (n i c : Nat) : Bool :=
  if s.bootStream n then decide (commonBase (frameDie i) ≤ i ∧ i + c ≤ (frameDie i + 1) * dieFrames)
  else let b := rgnBase (s.ldTarget n); decide (b ≤ i ∧ i + c ≤ b + rgnFrames)

/-- Manifest entry j: the run's first frame, if its address names one, and its count. -/
def State.manEntry (s : State) (n j : Nat) : Option Nat × Nat :=
  let x := s.slotAt n
  (s.streamFrame n (x.num (384 + 8 * j) 4), x.num (388 + 8 * j) 4)

/-- Every entry passes the fence. -/
def State.manifestOk (s : State) (n : Nat) : Bool :=
  (List.range (s.slotAt n).manCount).all fun j =>
    match s.manEntry n j with
    | (some i, c) => decide (c ≠ 0) && s.inFence n i c
    | (none, _) => false

/-- Frame i lies in the manifest. -/
def State.inManifest (s : State) (n i : Nat) : Bool :=
  (List.range (s.slotAt n).manCount).any fun j =>
    match s.manEntry n j with
    | (some b, c) => decide (b ≤ i ∧ i < b + c)
    | (none, _) => false

/-- CFG_MANIFEST: the manifest is checked against the fence. -/
def execCfgManifest (n : Nat) (s : State) : Host.Outcome State Fault Refusal :=
  .next (if s.ldState n ≠ 3 then s
    else
      let k := 8 * (s.slotAt n).manCount
      s.onUnit n (s.unitAt n 384 k) 384 k fun s =>
        if s.manifestOk n then (s.updSlot n fun x => { x with pos := x.body0 }).setLdState n 4 else s.slotFail n 0x09)

/-! ## Body commands (R86, R87) -/

def bodyOps : List Nat := [1, 2, 3, 4, 5, 6, 7, 15]

/-- The next command word, when it is `op`; a word that names no command ends the load with BAD_COMMAND. -/
def State.bodyOp (s : State) (n op : Nat) (act : Nat → State → State) : State :=
  let o := (s.slotAt n).pos
  if s.ldState n ≠ 4 ∨ (s.slotAt n).cmd.isSome then s
  else s.onUnit n (s.bodyUnit n o 4) o 4 fun s =>
    let w := s.slotWord n o
    if !bodyOps.contains (w / 2 ^ 24) then s.slotFail n 0x0B
    else if w / 2 ^ 24 ≠ op then s
    else act (w % 2 ^ 24) s

def State.advance (s : State) (n k : Nat) : State := s.updSlot n fun x => { x with pos := x.pos + k }

/-- FAR: sets the frame address; in a RELOC image a nonzero DIE, RGN or COMMON ends the load (R91). -/
def execFar (n : Nat) (s : State) : Host.Outcome State Fault Refusal :=
  .next (s.bodyOp n 1 fun cnt s =>
    let o := (s.slotAt n).pos
    if cnt ≠ 0 then s.slotFail n 0x0B
    else s.onUnit n (s.bodyUnit n o 8) o 8 fun s =>
      let a := s.slotWord n (o + 4)
      if (s.slotAt n).reloc ∧ a / 2 ^ 25 ≠ 0 then s.slotFail n 0x0B
      else (s.updSlot n fun x => { x with far := some (s.streamFrame n a) }).advance n 8)

/-- Write one frame at the frame address and advance it (R86, R88): outside the manifest FENCE_WRITE, a wrong check word
FRAME_CHECK. The boot image's frames of a die that was not admitted are discarded (R70). -/
def State.putFrame (s : State) (n v : Nat) : State :=
  match (s.slotAt n).far.join with
  | none => s.slotFail n 0x0A
  | some i =>
    if !s.inManifest n i then s.slotFail n 0x0A
    else if frameOutcome i v ≠ .clean then s.slotFail n 0x0C
    else
      let s := if s.bootStream n ∧ !dieAdmitted s (frameDie i) then s else s.writeFrame i v
      let s := s.updSlot n fun x => { x with wrote := i :: x.wrote, far := some (if i + 1 < devFrames then some (i + 1) else none) }
      if n < 4 then s.count (CFG_LD_STATUS_FRAMES n) 1 else s

/-- A boot stream's frames wait for the admission of the dies (R70). -/
def State.framesWait (s : State) (n : Nat) : Bool :=
  s.bootStream n && (List.range 8).any fun d => decide (s.f (CMX_DIE_STATUS_STATE d) = 1)

/-- A frame command with count c may start: c is not 0, a FAR has come before it (R87). -/
def State.frameCmd (s : State) (n c : Nat) (act : State → State) : State :=
  if c = 0 ∨ (s.slotAt n).far.isNone then s.slotFail n 0x0B
  else if s.framesWait n then s else act s

/-- The frames of a WRITE under way that are staged, `f` at most. -/
def State.writeGo : Nat → Nat → State → State
  | 0, _, s => s
  | f + 1, n, s =>
    match (s.slotAt n).cmd with
    | some (2, c, st) =>
      let o := (s.slotAt n).pos
      if s.ldState n ≠ 4 then s
      else if o = st + 4 + 400 * c then s.updSlot n fun x => { x with cmd := none }
      else
        match s.bodyUnit n o 400 with
        | .ready =>
          State.writeGo f n (s.staged n o 400 fun s =>
            let t := s.putFrame n (Crypto.leNum (s.slotText n o 400))
            if t.ldState n = 4 then t.advance n 400 else t)
        | .wait => s
        | .short => s.slotFail n 0x0D
    | _ => s

/-- Frames that staging can hold, and the end of a command. -/
def State.stagedFrames (s : State) (n : Nat) : Nat := ((s.slotAt n).all.length - (s.slotAt n).pos) / 400 + 2

/-- BODY_WRITE: WRITE takes every frame that is staged; the rest follows when it has arrived. -/
def execBodyWrite (n : Nat) (s : State) : Host.Outcome State Fault Refusal :=
  .next (
    let s := s.bodyOp n 2 fun c s => s.frameCmd n c fun s =>
      (s.updSlot n fun x => { x with cmd := some (2, c, x.pos) }).advance n 4
    if s.framesWait n then s else State.writeGo (s.stagedFrames n) n s)

/-- Write the same frame c times. -/
def State.multiGo : Nat → Nat → Nat → State → State
  | 0, _, _, s => s
  | c + 1, n, v, s =>
    let t := s.putFrame n v
    if t.ldState n = 4 ∧ (t.slotAt n).wrote.length = (s.slotAt n).wrote.length + 1 then State.multiGo c n v t else t

/-- BLANK: c blank frames. -/
def execBlank (n : Nat) (s : State) : Host.Outcome State Fault Refusal :=
  .next (s.bodyOp n 3 fun c s => s.frameCmd n c fun s =>
    let t := State.multiGo c n 0 s
    if t.ldState n = 4 then t.advance n 4 else t)

/-- MULTI: one frame to c consecutive addresses. -/
def execMulti (n : Nat) (s : State) : Host.Outcome State Fault Refusal :=
  .next (s.bodyOp n 4 fun c s => s.frameCmd n c fun s =>
    let o := (s.slotAt n).pos
    s.onUnit n (s.bodyUnit n o 404) o 404 fun s =>
      let t := State.multiGo c n (Crypto.leNum (s.slotText n (o + 4) 400)) s
      if t.ldState n = 4 then t.advance n 404 else t)

/-! ### ESSMAP (04 R107, R108) -/

/-- Words of the cache share: a region's, or a die's (R108). -/
def State.essShare (s : State) (n : Nat) : Nat := if s.bootStream n then 8192 else 7168

/-- Words used of the share of die d (0 for a region load). -/
def essUsed (w d : Nat) : Nat := w / 16384 ^ d % 16384

/-- Map processing stops early (R108). -/
def State.essStop (s : State) (n : Nat) : State :=
  let s := s.updSlot n fun x => { x with ess := { x.ess with trunc := true } }
  if s.bootStream n then s.raise .ESSMAP_TRUNC false 0 noInst
  else s.raise .ESSMAP_TRUNC true (s.lease (s.ldTarget n)) (s.ldTarget n)

/-- One record of `len` words at offset o: kept when its frames lie inside the fence and the share holds it. DESIGN CHOICE (log 89):
a record of a relocatable stream whose address has a nonzero DIE, RGN or COMMON names no frame of the load and is ignored as one
outside the fence is; a record that is ignored takes no room of the share. -/
def State.essRecord (s : State) (n o len : Nat) : State :=
  let h := s.slotWord n o
  let c := if len = 2 then h % 65536 + 1 else 1
  match s.streamFrame n (s.slotWord n (o + 4)) with
  | none => s.advance n (4 * len)
  | some i =>
    if !s.inFence n i c then s.advance n (4 * len)
    else
      let d := if s.bootStream n then frameDie i else 0
      if s.essShare n < essUsed (s.slotAt n).essWords d + len then s.essStop n
      else
        let m := if len = 2 then frameSpan - 1 else Crypto.leNum (s.slotText n (o + 8) 396)
        (s.updSlot n fun x => { x with
          ess := { x.ess with recs := x.ess.recs ++ [⟨i, c, h / 2 ^ 28 % 4, h / 2 ^ 26 % 4, m⟩] }
          essWords := x.essWords + len * 16384 ^ d }).advance n (4 * len)

/-- The records of an ESSMAP under way that are staged, `f` at most. After a stop the payload is passed over. -/
def State.essGo : Nat → Nat → State → State
  | 0, _, s => s
  | f + 1, n, s =>
    match (s.slotAt n).cmd with
    | some (5, c, st) =>
      let o := (s.slotAt n).pos
      let e := st + 4 + 4 * c
      if s.ldState n ≠ 4 then s
      else if o = e then s.updSlot n fun x => { x with cmd := none }
      else
        match s.bodyUnit n o 4 with
        | .short => s.slotFail n 0x0D
        | .wait => s
        | .ready =>
          if (s.slotAt n).ess.trunc then
            State.essGo f n (s.advance n (4 * min ((e - o) / 4) (((s.slotAt n).all.length - o) / 4)))
          else
            let kind := s.slotWord n o / 2 ^ 30
            let len := if kind = 0 then 2 else 101
            if 2 ≤ kind ∨ e < o + 4 * len then State.essGo f n (s.essStop n)
            else
              match s.bodyUnit n o (4 * len) with
              | .short => s.slotFail n 0x0D
              | .wait => s
              | .ready => State.essGo f n (s.staged n o (4 * len) fun s => s.essRecord n o len)
    | _ => s

/-- ESSMAP: every record that is staged. -/
def execEssmap (n : Nat) (s : State) : Host.Outcome State Fault Refusal :=
  .next (
    let s := s.bodyOp n 5 fun c s =>
      (s.updSlot n fun x => { x with cmd := some (5, c, x.pos), ess := { x.ess with given := true } }).advance n 4
    State.essGo (((s.slotAt n).all.length - (s.slotAt n).pos) / 4 + 3) n s)

/-! ### LOADMEM, NOP, END -/

/-- Bytes of management SRAM (01 R24). -/
def sramSize : Nat := 4194304

/-- Bytes into management SRAM; check bits of its words are fresh (R85). -/
def State.sramWrite (s : State) (a : Nat) (d : List Nat) : State :=
  let s := s.eccWriteRange mgmtMacro (a / 8) ((a % 8 + d.length + 7) / 8)
  s.updBoot fun b => { b with
    sram := ((List.range d.length).zip d).foldl (fun m e => SMap.put (fun _ => (0 : Byte)) m (a + e.1) (BitVec.ofNat 8 e.2)) b.sram }

/-- The staged words of a LOADMEM under way. -/
def State.memGo (s : State) (n : Nat) : State :=
  match (s.slotAt n).cmd with
  | some (6, c, st) =>
    let o := (s.slotAt n).pos
    let e := st + 8 + 4 * c
    if o = e then s.updSlot n fun x => { x with cmd := none }
    else s.onUnit n (s.bodyUnit n o 4) o 4 fun s =>
      let k := 4 * min ((e - o) / 4) ((min (s.slotAt n).all.length (s.slotAt n).bodyEnd - o) / 4)
      let a := s.slotWord n (st + 4) + (o - (st + 8))
      if sramSize < a + k then s.slotFail n 0x0A
      else s.staged n o k fun s =>
        ((s.sramWrite a (s.slotText n o k)).advance n k).updSlot n fun x => { x with cmd := if o + k = e then none else x.cmd }
  | _ => s

/-- LOADMEM: boot images only (R86). -/
def execLoadmem (n : Nat) (s : State) : Host.Outcome State Fault Refusal :=
  .next (
    let s := s.bodyOp n 6 fun c s =>
      let o := (s.slotAt n).pos
      if !s.bootStream n then s.slotFail n 0x0B
      else s.onUnit n (s.bodyUnit n o 8) o 8 fun s =>
        (s.updSlot n fun x => { x with cmd := some (6, c, x.pos) }).advance n 8
    s.memGo n)

def execCfgNop (n : Nat) (s : State) : Host.Outcome State Fault Refusal :=
  .next (s.bodyOp n 7 fun _ s => s.advance n 4)

/-- END: the last word before the tag, equal to FRAME_COUNT and to the frames written; otherwise SHORT (R87, R95). -/
def execEnd (n : Nat) (s : State) : Host.Outcome State Fault Refusal :=
  .next (s.bodyOp n 15 fun c s =>
    let o := (s.slotAt n).pos
    if c ≠ 0 then s.slotFail n 0x0B
    else s.onUnit n (s.bodyUnit n o 8) o 8 fun s =>
      let x := s.slotAt n
      let w := s.slotWord n (o + 4)
      if o + 8 = x.bodyEnd ∧ w = x.num 0x28 4 ∧ w = x.wrote.length then (s.advance n 8).setLdState n 5
      else s.slotFail n 0x0D)

/-! ## The end of authentication (R82, R83, R93) -/

/-- The signature over every byte of the stream except SIG. -/
def Slot.signatureOk (x : Slot) : Bool :=
  Crypto.ecdsaVerify (Crypto.nums ((x.all.drop 0x100).take 96))
    (Crypto.sha384 (Crypto.nums (x.all.take 0xA0 ++ x.all.drop 0x100))) (Crypto.nums ((x.all.drop 0xA0).take 96))

/-- The GCM tag over the body's ciphertext. -/
def State.tagOk (s : State) (x : Slot) : Bool :=
  match s.bkey x.keyId with
  | none => false
  | some k =>
    decide (Crypto.gcmTag k (Crypto.nums ((x.all.drop 0x30).take 12)) [] (Crypto.nums ((x.all.drop x.body0).take (x.bodyEnd - x.body0)))
      = Crypto.nums (x.all.drop x.bodyEnd))

/-- The boot image passes (R69, R97): its maps take effect, the checkers of admitted dies begin (04 R103), the cores enter the shell,
the watchdog starts. -/
def State.bootPass (s : State) (n : Nat) : State :=
  let x := s.slotAt n
  let s := s.updInteg fun g => { g with
    ess := (List.range 8).foldl (fun m d => SMap.put (fun _ => EssMap.absent) m d
      { x.ess with recs := x.ess.recs.filter fun e => decide (frameDie e.idx = d) }) g.ess }
  let s := s.eccWriteRange mapMacro 229376 32768
  let s := if s.attempts = 2 then (s.setF CFG_BOOT_STATUS_FALLBACK 1).raise .BOOT_FALLBACK false 0 noInst else s
  let s := (List.range 8).foldl (fun t d => if dieAdmitted t d ∧ !t.integ.common.contains d then t.commonWritten d else t) s
  let s := ((s.setSlot n Slot.empty).setLdState n 7).updBoot fun b => { b with phase := 4, wrote := x.wrote }
  if n < 4 then s.setF (CFG_LD_STATUS_DONE n) 1 else s

/-- CFG_VERIFY_DONE: the checks of the signature and the tag end; a region's directions are checked and its envelope opens with
SRC INIT. -/
def execCfgVerifyDone (n : Nat) (s : State) : Host.Outcome State Fault Refusal :=
  .next (if s.ldState n ≠ 5 then s
    else
      let x := s.slotAt n
      s.onUnit n (s.unitAt n x.bodyEnd (x.total - x.bodyEnd)) x.bodyEnd (x.total - x.bodyEnd) fun s =>
        if x.signed && !x.signatureOk then s.slotFail n 0x0F
        else if x.encrypted && !s.tagOk x then s.slotFail n 0x10
        else if x.boot then s.bootPass n
        else
          let r := s.ldTarget n
          if s.dirCheck r then ((s.setLdState n 6).setEnvSrc r 0).envOpen r else s.slotFail n 0x13)

/-- A region whose load has opened its envelope (R93, R111, R123): map, digest, golden list, slot DONE. -/
def State.loadOpened (s : State) (n : Nat) : State :=
  let x := s.slotAt n
  let r := s.ldTarget n
  let s := s.updRgn r fun g => { g with pers := true, zeroed := false, reloc := x.reloc, ess := x.ess }
  let s := (s.eccWriteRange mapMacro (3584 * r) 3584).setPdig r (Crypto.sha384 (Crypto.nums (x.all.take x.total)))
  let s := if s.bit CFG_INTEG_CTRL_GOLD_EN then
      s.updInteg fun g => { g with goldWrote := SMap.put (fun _ => []) g.goldWrote r (devFrames :: x.wrote) }
    else s
  ((s.setSlot n Slot.empty).setLdState n 7).setF (CFG_LD_STATUS_DONE n) 1

/-! ## GO, ABORT, STALL (R92, R94 to R96) -/

/-- A write of GO with TARGET r: the region must be FREE; an OFF region wakes first. -/
def State.loadGo (s : State) (n r : Nat) : State :=
  if !s.ldIdle n then s.busy (CFG_LD_STATUS_FIELD_BUSY n)
  else
    let s := s.setFs [(CFG_LD_CTRL_TARGET n, r), (CFG_LD_STATUS_ERR n, 0), (CFG_LD_STATUS_FRAMES n, 0)]
    let s := ((s.setSlot n Slot.empty).setLdState n 0).applyLive CFG_CTRL_STALL_LIM
    if s.rState r = 4 then s.loadFail n 0x15
    else if s.rState r ≠ 0 then s.loadFail n 0x14
    else
      let s := ((s.setRState r 1).setEnvCause r 2).setGoldValid r false
      let s := s.updInteg fun g => { g with goldWrote := SMap.erase g.goldWrote r }
      let s := s.setLdState n (if n < 2 then 2 else 1)
      if s.pwrState r = 2 then s else (s.updSlot n fun x => { x with waking := true }).pwrReq r 1

def execLoadGo (m : Master) (n r : Nat) (s : State) : Host.Outcome State Fault Refusal :=
  .next (s.viaWrite m (CFG_LD_CTRL n) fun s => s.loadGo n r)

/-- A write of ABORT: no frame is half-written between commands, so the load fails at once; no effect in OPENING. DESIGN CHOICE
(log 89): R96 speaks of region loads; on a slot that takes a boot image ABORT has no effect. -/
def State.loadAbort (s : State) (n : Nat) : State :=
  if 1 ≤ s.ldState n ∧ s.ldState n ≤ 5 ∧ !s.bootStream n then s.loadFail n 0x16 else s

def execLoadAbort (m : Master) (n : Nat) (s : State) : Host.Outcome State Fault Refusal :=
  .next (s.viaWrite m (CFG_LD_CTRL n) fun s => s.loadAbort n)

/-- LOAD_STALL: STALL_LIM AON ticks have passed without a stream byte. -/
def execLoadStall (n : Nat) (s : State) : Host.Outcome State Fault Refusal :=
  .next (if 2 ≤ s.ldState n ∧ s.ldState n ≤ 4 ∧ !(s.slotAt n).waking then s.slotFail n 0x0E else s)

end Sys2Proof.Machine
end

