-- ==== Sys2Proof/Machine/RgnCmd.lean ====
section
/-! DEFINITION. The commands that move regions (01 R21, R22; 02 R55 to R57): LEASE_WRITE, RELEASE, CLEARING_END, ENV_CLOSE_DONE
and ENV_OPEN_DONE, and the halts that reach a region from the bridle (17 R439, R440). -/

namespace Sys2Proof.Machine
open Reg

/-! ## Halts of a region (17 R439, R440; 04 R126) -/

/-- The region is inside a paused capture or an inject that has closed it. -/
def State.capHolds (s : State) (r : Nat) : Bool := s.underCapture r && decide (s.cap.op = 2 ∨ s.cap.op = 5) && decide (2 ≤ s.cap.phase)

/-- A halt reaches a region: an ACTIVE one closes with CAUSE HALT; one in a paused capture joins its close and stays
PAUSED. -/
def State.haltRegion (s : State) (r : Nat) : State :=
  if s.capHolds r then s.updRgn r fun x => { x with halt := true }
  else if s.rState r = 2 then ((s.updRgn r fun x => { x with halt := true }).setRState r 3).envClose r 5
  else s

/-- A closed region that nothing holds any longer opens (R57); one that a halt has kept back from the reopening of its capture
as well (04 R126). -/
def State.openIfFree (s : State) (r : Nat) : State :=
  let x := s.rgnAt r
  let captured := s.underCapture r && !decide (s.cap.phase = 3 ∧ !s.cap.left.contains r)
  if s.rState r = 3 ∧ s.envStep r = 5 ∧ !x.halt ∧ !x.hold ∧ !captured then s.envOpen r else s

/-- The last channel that halts the region is cleared; one that the pair keeps PAUSED stays so (13 R351). -/
def State.unhaltRegion (s : State) (r : Nat) : State :=
  if (s.rgnAt r).halt ∧ !s.mirPaused r then (s.updRgn r fun x => { x with halt := false }).openIfFree r else s

/-! ## Lease and release (R21) -/

/-- LEASE_WRITE: taken while the region is FREE. `win` is the lease's window in HBM (R28), which the hub checks. -/
def State.leaseWrite (s : State) (r l : Nat) (win : List (Nat × Nat)) : State :=
  if s.rState r ≠ 0 then s.busy HUB_STATUS_FIELD_BUSY
  else
    let s := s.setLease r l
    if l = 0 then s else { s with leaseWin := SMap.put (fun _ => []) s.leaseWin l win }

def execLeaseWrite (m : Master) (r l : Nat) (win : List (Nat × Nat)) (s : State) : Host.Outcome State Fault Refusal :=
  .next (s.viaWrite m (HUB_RGN_STATE r) fun s => s.leaseWrite r l win)

/-- RELEASE by the region's state. -/
def State.release (s : State) (m : Master) (r : Nat) : State :=
  match s.rState r with
  | 1 =>
    let s := s.setF (HUB_RGN_STATE_REL_PEND r) 1
    match s.loaderOf r with
    | some n => s.loadAbort n
    | none => s
  | 2 | 3 => (s.setF (HUB_RGN_STATE_REL_PEND r) 1).clearRegion r
  | 4 => s.setF (HUB_RGN_STATE_REL_PEND r) 1
  | _ => s.logDrop m .badCode (HUB_RGN_STATE r)

def execRelease (m : Master) (r : Nat) (s : State) : Host.Outcome State Fault Refusal :=
  .next (s.viaWrite m (HUB_RGN_STATE r) fun s => s.release m r)

/-! ## The end of CLEARING (R22) -/

/-- The slot whose failed load is being cleared goes to IDLE; its ERR stays (03 R92). -/
def State.slotCleared (s : State) (r : Nat) : State :=
  (List.range 4).foldl (fun t n => if t.ldState n = 9 ∧ t.ldTarget n = r then t.setLdState n 0 else t) s

/-- Frames blank, ballast clear, the map gone; a standing release ends the lease. -/
def State.clearingEnd (s : State) (r : Nat) : State :=
  let s := if (s.rgnAt r).zeroed then s else s.clearParks r
  let s := (s.blankFrames (rgnBase r) rgnFrames).clearBallast r
  let s := s.updRgn r fun x => { x with ess := EssMap.absent, reloc := false, forced := false, pers := false }
  let s := if s.bit (HUB_RGN_STATE_REL_PEND r) then (s.setLease r 0).setF (HUB_RGN_STATE_REL_PEND r) 0 else s
  ((s.slotCleared r).setRState r 0).seams r

/-- CLEARING_END: the region is blank and held in reset, and the clear of its trio has ended (08 R215). -/
def execClearingEnd (r : Nat) (s : State) : Host.Outcome State Fault Refusal :=
  .next (if s.rState r = 5 ∧ s.envStep r = 5 ∧ !s.bit (ENG_TRIO_PWR_CLEARING r) then s.clearingEnd r else s)

/-! ## Envelopes (R55 to R57) -/

/-- Registers of a region that a close of its own cause saves; the image in its ballast is no longer valid (04 R113). -/
def State.ownShadow (s : State) (r : Nat) : State := (s.toBallast r false).setF (CFG_BAL_VALID r) 0

/-- What follows STEP 5: a standby region is held (13 R344), a region to be cleared is, one that nothing holds opens again. -/
def State.afterClose (s : State) (r : Nat) : State :=
  let s := if s.standby r ∧ (s.rgnAt r).hold ∧ s.rState r = 3 then s.setF (MIR_RGN_HELD r) 1 else s
  if (s.rgnAt r).wantClear then s.clearRegion r else s.openIfFree r

/-- The close of a region for a capture or an inject has gated its taps: it goes on with the others of a joint operation once each
has (04 R120). -/
def State.capGated (s : State) (r : Nat) : State :=
  let l := s.cap.left
  let s := (s.updCap fun c => { c with gated := if c.gated.contains r then c.gated else c.gated ++ [r] }).capBarrier
  if s.cap.left.isEmpty then (l.foldl State.afterClose s.capReopen).capFinish.capServe else s

/-- The taps of a region are gated (R55 step 3); the close then goes through STEP 3, and STEP 4 for a paused cause, to STEP 5. -/
def State.closeDone (s : State) (r : Nat) (delta : List (Nat × Byte)) : State :=
  let held := s.capHolds r
  let s := ((s.fabDelta r delta).setEnvStep r 2).gateTaps r (held && !(s.rgnAt r).forced)
  (if held then s.capGated r else (s.envParked r fun u => u.ownShadow r).afterClose r).mirPump

/-- ENV_CLOSE_DONE: `delta` is what the tenant's logic had made of its registers and RAM rows when its clocks stopped. -/
def execEnvCloseDone (r : Nat) (delta : List (Nat × Byte)) (s : State) : Host.Outcome State Fault Refusal :=
  .next (if 1 ≤ s.envStep r ∧ s.envStep r ≤ 4 ∧ !s.cap.gated.contains r then s.closeDone r delta else s)

/-- The slot whose load opens the region. -/
def State.openingSlot (s : State) (r : Nat) : Option Nat :=
  (List.range 4).find? fun n => decide (s.ldState n = 6 ∧ s.ldTarget n = r)

/-- What follows an open: a load completes; a standby region is closed and held (13 R344); a release, a halt or the pair close
it again (R57). -/
def State.afterOpen (s : State) (r : Nat) (loaded : Bool) : State :=
  if s.bit (HUB_RGN_STATE_REL_PEND r) ∨ (s.rgnAt r).wantClear then s.clearRegion r
  else if loaded ∧ s.standby r then ((s.updRgn r fun x => { x with hold := true }).setRState r 3).envClose r 4
  else if (s.rgnAt r).halt then (s.setRState r 3).envClose r (if s.mirPaused r then 4 else 5)
  else s

/-- The envelope is open: the region is ACTIVE; `ns` is the longest pause of its clock groups (04 R119). -/
def State.openDone (s : State) (r ns : Nat) : State :=
  let slot := s.openingSlot r
  let s := s.envOpened r
  let s := match slot with | some n => s.loadOpened n | none => s
  let s := if s.underCapture r then s.capOpened r ns else s
  (((s.capFinish).afterOpen r slot.isSome).capServe).mirPump

/-- ENV_OPEN_DONE. -/
def execEnvOpenDone (r ns : Nat) (s : State) : Host.Outcome State Fault Refusal :=
  .next (if s.envStep r = 6 then s.openDone r ns else s)

end Sys2Proof.Machine
end

