-- ==== Sys2Proof/Machine/Hub.lean ====
section
/-! DEFINITION. The hub's host interface (15 R397 to R411): HUB_ATTN, the drop log and event queue as they are read, doorbells,
mailbox indices and MSI-X, the recovery opcodes, the host-DMA service, and the boot flash through the boot master. -/

namespace Sys2Proof.Machine
open Reg

/-! ## Shared registers (R397) -/

/-- The access check of a register that masters share: OWNER does not govern it. A debug-port write needs FULL (17 R429). -/
def State.sharedGate (s : State) (m : Master) : Gate :=
  match m with
  | .tenant l _ => .denied l
  | .debug => if s.f DBG_STATUS_LEVEL < 2 then .drop .mgmtDenied else .pass
  | _ => .pass

/-- A write to a shared register; one that waited for an earlier write of its cycle is logged with cause ORDER. -/
def State.sharedWrite (s : State) (m : Master) (a : Nat) (late : Bool) (act : State → State) : State :=
  match s.sharedGate m with
  | .pass => act ((if late then s.logDrop m .order a else s).answer (.ok 0))
  | g => s.refuse m a g

/-- A write to HUB_ATTN: queued, or dropped when 16 entries wait. -/
def State.attnPush (s : State) (m : Master) (v : Nat) : State :=
  if s.ev.attn.length < 16 then { s with ev := { s.ev with attn := s.ev.attn ++ [(m.num, v % 2 ^ 32)] } }
  else s.dropWrite m .full HUB_ATTN

def execHubAttn (m : Master) (v : Nat) (late : Bool) (s : State) : Host.Outcome State Fault Refusal :=
  .next (s.sharedWrite m HUB_ATTN late fun s => s.attnPush m v)

/-! ## Queues that a read pops (R398, R411) -/

/-- HUB_ATTN_SRC: VALID and MASTER of the head entry. -/
def State.attnSrc (s : State) : Nat := match s.ev.attn.head? with | some e => 2 ^ 31 + e.1 | none => 0
/-- HUB_ATTN_POP: the head entry's value. -/
def State.attnHead (s : State) : Nat := match s.ev.attn.head? with | some e => e.2 | none => 0
def State.attnPop (s : State) : State := { s with ev := { s.ev with attn := s.ev.attn.drop 1 } }

/-- HUB_DROPLOG_ADDR: bits [31:0] of the oldest entry's address. -/
def State.dropAddr (s : State) : Nat := match s.drop.entries.head? with | some e => e.addr % 2 ^ 32 | none => 0

/-- HUB_DROPLOG_INFO of the oldest entry. -/
def State.dropInfo (s : State) : Nat :=
  let l := b2n s.drop.lost * 2 ^ 30
  match s.drop.entries.head? with
  | some e => 2 ^ 31 + l + e.master * 2 ^ 27 + e.cause.code * 2 ^ 23 + e.addr / 2 ^ 32 % 256 * 256
  | none => l

/-- The read removes the entry and clears LOST. -/
def State.dropPop (s : State) : State := { s with drop := ⟨s.drop.entries.drop 1, false⟩ }

/-- HUB_EVQk: word k of the oldest record of the firmware queue. -/
def State.evqWord (s : State) (k : Nat) : Nat := match s.ev.fw.head? with | some r => r.word k | none => 0
def State.evqPop (s : State) : State := { s with ev := { s.ev with fw := s.ev.fw.drop 1 } }

def execHubAttnPop (peek : Bool) (s : State) : Host.Outcome State Fault Refusal :=
  .next ((if peek then s else s.attnPop).answer (.ok s.attnHead))

def execDroplogRead (peek : Bool) (s : State) : Host.Outcome State Fault Refusal :=
  .next ((if peek then s else s.dropPop).answer (.ok s.dropInfo))

def execEvqPop (peek : Bool) (s : State) : Host.Outcome State Fault Refusal :=
  .next ((if peek then s else s.evqPop).answer (.ok (s.evqWord 3)))

/-! ## Mailboxes (R399, R400, R403, R404) -/

/-- A doorbell: an index that moves backward or more than 64 ahead of MBX_H2F_CI is ignored and sets DB_ERR. -/
def State.doorbell (s : State) (fn v : Nat) : State :=
  let ci := s.f (MBX_H2F_CI_CI fn)
  let ahead := (v % 65536 + 65536 - ci) % 65536
  let old := (s.f (MBX_H2F_DB_PI fn) + 65536 - ci) % 65536
  if ahead < old ∨ 64 < ahead then s.setF (MBX_STATUS_DB_ERR fn) 1
  else
    let s := s.setF (MBX_H2F_DB_PI fn) v
    { s with out := s.out ++ [.coreIrq fn] }

def execMbxH2fDb (m : Master) (fn v : Nat) (late : Bool) (s : State) : Host.Outcome State Fault Refusal :=
  .next (s.sharedWrite m (MBX_H2F_DB fn) late fun s => s.doorbell fn v)

/-- MBX_F2H_PI advances; the host sees it once the fence lets it. Vector 0 when MBX_F2H_CI equals the old index. -/
def State.f2hWrite (s : State) (fn v : Nat) : State :=
  let old := nget s.ev.f2hPi fn
  let v := v % 65536
  let s := { s with ev := { s.ev with f2hPi := nput s.ev.f2hPi fn v } }
  let s := if s.funcFenced fn then
      s.holdFx ⟨3, s.funcEp fn, fn, s.funcLease fn, 0x0C, v, s.openEpoch, [], none⟩
    else s.setF (MBX_F2H_PI_PI fn) v
  if v ≠ old ∧ s.f (MBX_F2H_CI_CI fn) = old then s.msix fn 0 else s

def execMbxF2hPiWrite (m : Master) (fn v : Nat) (s : State) : Host.Outcome State Fault Refusal :=
  .next (s.viaWrite m (MBX_F2H_PI fn) fun s => s.f2hWrite fn v)

/-- HUB_MSIX_RAISE: vectors 2 to 63 of the physical function, 2 to 7 of a virtual function; others are not raised. -/
def State.msixRaise (s : State) (fn vec : Nat) : State :=
  if 2 ≤ vec ∧ ((fn = 0 ∧ vec < 64) ∨ (1 ≤ fn ∧ fn ≤ 64 ∧ vec < 8)) then s.msix fn vec else s

def execHubMsixRaise (m : Master) (fn vec : Nat) (s : State) : Host.Outcome State Fault Refusal :=
  .next (s.viaWrite m HUB_MSIX_RAISE fun s => s.msixRaise fn vec)

/-- The host clears a vector's mask bit: a pending message is sent. -/
def State.msixUnmask (s : State) (fn v : Nat) : State :=
  let F := MBX_MSIX_WORD fn (4 * v + 3)
  let s := if s.f F % 2 = 1 then s.setF F (s.f F - 1) else s
  if s.pba fn v ∧ !s.msixMasked fn v then (s.setPba fn v false).msix fn v else s

def execMsixUnmask (fn v : Nat) (s : State) : Host.Outcome State Fault Refusal := .next (s.msixUnmask fn v)

/-! ## Recovery opcodes (R400, R405) -/

/-- Set a byte of the boot flash. -/
def State.setFlash (s : State) (a : Nat) (b : Byte) : State :=
  { s with bflash := SMap.put (fun _ => (0xFF : Byte)) s.bflash a b }

/-- A range of flash bytes becomes blank. -/
def State.flashErase (s : State) (a n : Nat) : State :=
  { s with bflash := SMap.filterKeys (fun k => decide (k < a ∨ a + n ≤ k)) s.bflash }

/-- A byte is programmed: an erased one takes the value, and one that already holds it keeps it; the spec states no result for
another. -/
def State.flashProgByte (s : State) (a : Nat) (b : Byte) : State :=
  if s.flashByte a = 0xFF ∨ s.flashByte a = b then s.setFlash a b
  else (s.setFlash a (BitVec.ofNat 8 (s.free 8))).freeNext

def State.flashProg (s : State) (a : Nat) : List Byte → State
  | [] => s
  | b :: t => (s.flashProgByte a b).flashProg (a + 1) t

/-- Bytes of flash that a failed or cut operation leaves undefined. -/
def State.flashFree (s : State) (a n : Nat) : State :=
  (List.range n).foldl (fun t i => (t.setFlash (a + i) (BitVec.ofNat 8 (t.free 8))).freeNext) s

def State.flashBytes (s : State) (a n : Nat) : List Byte := (List.range n).map fun i => s.flashByte (a + i)

/-- Word j of the physical function's message at index `i` of the host-to-firmware ring. -/
def State.h2fWord (s : State) (i j : Nat) : Nat := s.f (MBX_H2F_RING_WORD 0 (16 * (i % 64) + j))

/-- A message of `len` payload bytes goes into the physical function's firmware-to-host ring. -/
def State.f2hPut (s : State) (opc flags tag : Nat) (payload : List Byte) : State :=
  let pi := nget s.ev.f2hPi 0
  let b := leBytes 2 opc ++ leBytes 1 flags ++ leBytes 1 payload.length ++ leBytes 4 tag ++ payload
    ++ List.replicate (56 - payload.length) 0
  let s := (List.range 16).foldl (fun t j =>
    t.setF (MBX_F2H_RING_WORD 0 (16 * (pi % 64) + j)) (leNat ((b.drop (4 * j)).take 4))) s
  s.f2hWrite 0 (pi + 1)

/-- Recovery mode has a message of the host to answer, and room for the response. -/
def State.recReady (s : State) : Bool :=
  s.bit CFG_BOOT_STATUS_RIP && decide (s.f (MBX_H2F_DB_PI 0) ≠ s.f (MBX_H2F_CI_CI 0))
    && decide ((nget s.ev.f2hPi 0 + 65536 - s.f (MBX_F2H_CI_CI 0)) % 65536 < 64)

def recOpcodes : List Nat := [0x8001, 0x8002, 0x8003, 0x8004, 0x8005, 0x8006]

/-- The boot ROM takes the oldest message: opcode `opc` is served, an opcode outside recovery's is answered with ERROR. -/
def State.recover (s : State) (opc : Nat) (serve : State → State × Option (List Byte)) : State :=
  if !s.recReady then s
  else
    let ci := s.f (MBX_H2F_CI_CI 0)
    let op := s.h2fWord ci 0 % 65536
    let tag := s.h2fWord ci 1
    if op = opc then
      let r := serve (s.setF (MBX_H2F_CI_CI 0) (ci + 1))
      match r.2 with
      | some d => r.1.f2hPut op 1 tag d
      | none => r.1.f2hPut op 1 tag []
    else if recOpcodes.contains op then s
    else (s.setF (MBX_H2F_CI_CI 0) (ci + 1)).f2hPut op 3 tag []

/-- Payload word j of the message at hand (bytes 8 + 4j on). -/
def State.recArg (s : State) (j : Nat) : Nat := s.h2fWord (s.f (MBX_H2F_CI_CI 0)) (2 + j)

/-- Registers as a recovery response shows them. -/
def State.lcStateWord (s : State) : Nat :=
  s.f HUB_LC_STATE_REVOKED * 256 + s.f HUB_LC_STATE_KEYS * 16 + s.f HUB_LC_STATE_KEY0_DEAD * 8 + s.f HUB_LC_STATE_STATE
def State.bootStatusWord (s : State) : Nat :=
  s.f CFG_BOOT_STATUS_DIE_SKIP * 2 ^ 24 + s.f CFG_BOOT_STATUS_ERR2 * 2 ^ 16 + s.f CFG_BOOT_STATUS_ERR1 * 2 ^ 8
    + s.f CFG_BOOT_STATUS_RIP * 16 + s.f CFG_BOOT_STATUS_STOPPED * 8 + s.f CFG_BOOT_STATUS_FALLBACK * 4
    + s.f CFG_BOOT_STATUS_ATTEMPTS
def State.supplyWord (s : State) : Nat :=
  s.f HUB_SUPPLY_SEQ_ERR * 2 ^ 31 + s.f HUB_SUPPLY_DROOP * 2 ^ 30 + s.f HUB_SUPPLY_NV_OK * 2 ^ 29 + s.f HUB_SUPPLY_IN_RANGE

def execPing (s : State) : Host.Outcome State Fault Refusal :=
  .next (s.recover 0x8001 fun t => (t, some (leBytes 4 (t.f HUB_ID_ID) ++ leBytes 4 t.lcStateWord)))

def execRecoveryStatus (s : State) : Host.Outcome State Fault Refusal :=
  .next (s.recover 0x8002 fun t =>
    (t, some (leBytes 4 t.bootStatusWord ++ leBytes 4 t.supplyWord ++ leBytes 4 (t.f HUB_ADMIT_RESULT))))

/-- Status of a recovery write to flash before it begins: 1 under a floor (R383), 2 outside the ranges, 0 otherwise. -/
def State.recCheck (s : State) (range : Bool) : Nat := if !s.bit HUB_SUPPLY_NV_OK then 1 else if range then 2 else 0

/-- FLASH_ERASE; `failed` says that the flash reports a failure. -/
def execFlashErase (failed : Bool) (s : State) : Host.Outcome State Fault Refusal :=
  let a := s.recArg 0
  let n := s.recArg 1
  .next (s.recover 0x8003 fun t =>
    let st := t.recCheck (decide (a % 65536 ≠ 0 ∨ n % 65536 ≠ 0 ∨ 2 ^ 32 < a + n))
    if st ≠ 0 then (t, some (leBytes 1 st))
    else if failed then (t.flashFree a n, some (leBytes 1 3))
    else (t.flashErase a n, some (leBytes 1 0)))

def execFlashProgram (failed : Bool) (s : State) : Host.Outcome State Fault Refusal :=
  let a := s.recArg 0
  let h := s.recArg 1 + s.recArg 2 * 2 ^ 32
  let n := s.recArg 3
  .next (s.recover 0x8004 fun t =>
    let st := t.recCheck (decide (2 ^ 32 < a + n ∨ hbmEnd < h + n))
    if st ≠ 0 then (t, some (leBytes 1 st))
    else if failed then (t.flashFree a n, some (leBytes 1 3))
    else
      let r := t.hubRead h n
      if r.2.1 = stOk then (r.1.flashProg a r.2.2, some (leBytes 1 0)) else (r.1, some (leBytes 1 3)))

def execFlashCrc (s : State) : Host.Outcome State Fault Refusal :=
  let a := s.recArg 0
  let n := s.recArg 1
  .next (s.recover 0x8005 fun t => (t, some (leBytes 4 (Crypto.crc32 (Crypto.nums (t.flashBytes a n))))))

/-! ## Host DMA (R406) -/

def State.hdmaAt (s : State) (c : Nat) : Hdma := SMap.get (fun _ => Hdma.empty) s.hdma c
def State.setHdma (s : State) (c : Nat) (x : Hdma) : State :=
  { s with hdma := SMap.put (fun _ => Hdma.empty) s.hdma c x }

/-- The hub's node, from which the host-DMA service sends. -/
def hubNode : Nat := nodeAt 27 7
def hdmaTag (c : Nat) : Nat := 0xF0 + c

def State.hdmaHbm (s : State) (c : Nat) : Nat := s.f (HDMA_HBM_LO_ADDR c) + s.f (HDMA_HBM_HI_ADDR c) * 2 ^ 32

/-- A request of a hub unit with a lease stamp and no key domain. -/
def State.sendStamped (s : State) (p : Packet) : State :=
  match s.hubStamp p with
  | .forward q =>
    let q := { q with lease := p.lease, rset := s.activeSet }
    (s.updNoc fun n => { n with outst := n.outst ++ [q] }).forward q
  | .answer st c log =>
    ((s.updNoc fun n => { n with outst := n.outst ++ [p] }).napRefused p 0 c log).respondHere p st

/-- A chunk's request to HBM or to the window: `opc` READ or WRITE, with the chunk's data. -/
def State.hdmaPacket (s : State) (c : Nat) (toHost : Bool) (opc n : Nat) (d : List Byte) : Packet :=
  let o := (s.hdmaAt c).off
  let w := s.f (HUB_HDMA_CTRL_WIN c)
  ⟨if toHost then pcieNode (s.eff (PCI_OWIN_CTRL_EP w)) else noNode, hubNode, opc, hdmaTag c, s.f (HUB_HDMA_CTRL_LEASE c),
    if toHost then w * 2 ^ 32 + (s.f (HDMA_OFF_OFF c) + o) % 2 ^ 32 else s.hdmaHbm c + o, n - 1, 0, 0, 0, false,
    0, false, 0, d, []⟩

/-- The next chunk's READ is sent, when nothing is outstanding and the copy is not over. -/
def State.hdmaNext (s : State) (c : Nat) : State :=
  let x := s.hdmaAt c
  let len := s.f (HDMA_LEN_LEN c)
  if !s.bit (HUB_HDMA_STATUS_BUSY c) ∨ x.step ≠ 0 ∨ x.stop ∨ len ≤ x.off then s
  else
    let n := min (len - x.off) (512 - (s.hdmaHbm c + x.off) % 512)
    let p := s.hdmaPacket c (decide (s.f (HUB_HDMA_CTRL_DIR c) = 1)) opcRead n []
    (s.setHdma c { x with n := n, step := 1 }).sendStamped p

/-- A response of channel c arrives; a READ that failed has no WRITE. -/
def State.hdmaRsp (s : State) (c : Nat) (r : Packet) : State :=
  let x := s.hdmaAt c
  let s := if r.status ≠ stOk ∧ s.f (HUB_HDMA_STATUS_ERR c) ≠ 2 then
      s.setFs [(HUB_HDMA_STATUS_ERR c, 2), (HUB_HDMA_STATUS_RSTATUS c, r.status)]
    else s
  if x.step = 1 ∧ r.status = stOk ∧ !x.stop then
    let p := s.hdmaPacket c (decide (s.f (HUB_HDMA_CTRL_DIR c) = 0)) opcWrite x.n r.data
    (s.setHdma c { x with step := 2 }).sendStamped p
  else (s.setHdma c { x with step := 0, off := x.off + x.n }).hdmaNext c

/-- HUB_HDMAc_CTRL with GO. -/
def State.hdmaGo (s : State) (c lease win dir : Nat) : State :=
  if s.bit (HUB_HDMA_STATUS_BUSY c) then s.busy (HUB_HDMA_STATUS_FIELD_BUSY c)
  else
    let s := s.setFs [(HUB_HDMA_CTRL_LEASE c, lease), (HUB_HDMA_CTRL_WIN c, win), (HUB_HDMA_CTRL_DIR c, dir),
      (HUB_HDMA_STATUS_RSTATUS c, 0)]
    let len := s.f (HDMA_LEN_LEN c)
    if len = 0 ∨ len % 4 ≠ 0 ∨ hbmEnd < s.hdmaHbm c + len then
      s.setFs [(HUB_HDMA_STATUS_ERR c, 1), (HUB_HDMA_STATUS_DONE c, 1)]
    else
      ((s.setFs [(HUB_HDMA_STATUS_ERR c, 0), (HUB_HDMA_STATUS_BUSY c, 1)]).setHdma c Hdma.empty).hdmaNext c

def execHdmaGo (m : Master) (c lease win dir : Nat) (s : State) : Host.Outcome State Fault Refusal :=
  .next (s.viaWrite m (HUB_HDMA_CTRL c) fun s => s.hdmaGo c lease win dir)

def State.hdmaAbort (s : State) (c : Nat) : State :=
  if s.bit (HUB_HDMA_STATUS_BUSY c) then s.setHdma c { s.hdmaAt c with stop := true } else s

def execHdmaAbort (m : Master) (c : Nat) (s : State) : Host.Outcome State Fault Refusal :=
  .next (s.viaWrite m (HUB_HDMA_CTRL c) fun s => s.hdmaAbort c)

/-- HDMA_END: every response has arrived and no request is left. -/
def State.hdmaEnd (s : State) (c : Nat) : State :=
  let x := s.hdmaAt c
  if s.bit (HUB_HDMA_STATUS_BUSY c) ∧ x.step = 0 ∧ (x.stop ∨ s.f (HDMA_LEN_LEN c) ≤ x.off) then
    let s := if x.stop then s.setF (HUB_HDMA_STATUS_ERR c) 3 else s
    (s.setFs [(HUB_HDMA_STATUS_BUSY c, 0), (HUB_HDMA_STATUS_DONE c, 1)]).setHdma c Hdma.empty
  else s

def execHdmaEnd (c : Nat) (s : State) : Host.Outcome State Fault Refusal := .next (s.hdmaEnd c)

/-! ## The boot flash (R409) -/

/-- The end of a boot-flash command with an error code. -/
def State.bspiDone (s : State) (err : Nat) : State :=
  { s with bspi := none }.setFs [(HUB_BSPI_STATUS_ERR, err), (HUB_BSPI_STATUS_BUSY, 0), (HUB_BSPI_STATUS_DONE, 1)]

/-- HUB_BSPI_CMD: OP 1 READ, 2 PROGRAM, 3 ERASE_4K. -/
def State.bspiGo (s : State) (op cnt : Nat) : State :=
  if s.bit HUB_BSPI_STATUS_BUSY then s.busy HUB_BSPI_STATUS_FIELD_BUSY
  else if !s.pins.cfgDone then s.bspiDone 2
  else if 2 ≤ op ∧ !s.bit HUB_SUPPLY_NV_OK then s.bspiDone 1
  else if op = 2 ∧ 256 < s.f HUB_BSPI_ADDR_ADDR % 256 + cnt + 1 then s.bspiDone 4
  else { s with bspi := some (op, cnt) }.setFs [(HUB_BSPI_STATUS_ERR, 0), (HUB_BSPI_STATUS_BUSY, 1)]

def execBspiRead (m : Master) (cnt : Nat) (s : State) : Host.Outcome State Fault Refusal :=
  .next (s.viaWrite m HUB_BSPI_CMD fun s => s.bspiGo 1 cnt)
def execBspiProgram (m : Master) (cnt : Nat) (s : State) : Host.Outcome State Fault Refusal :=
  .next (s.viaWrite m HUB_BSPI_CMD fun s => s.bspiGo 2 cnt)
def execBspiErase4k (m : Master) (s : State) : Host.Outcome State Fault Refusal :=
  .next (s.viaWrite m HUB_BSPI_CMD fun s => s.bspiGo 3 0)

/-- Bytes of HUB_BSPI_BUF. -/
def State.bspiBuf (s : State) : List Byte := (List.range 64).flatMap fun j => leBytes 4 (s.f (HUB_BSPI_BUF_WORD j))
def State.setBspiBuf (s : State) (d : List Byte) : State :=
  let b := d ++ s.bspiBuf.drop d.length
  (List.range 64).foldl (fun t j => t.setF (HUB_BSPI_BUF_WORD j) (leNat ((b.drop (4 * j)).take 4))) s

/-- BSPI_CMD_END: the command's effect on the flash or the buffer; with `failed` the flash reports a failure. -/
def State.bspiEnd (s : State) (failed : Bool) : State :=
  match s.bspi with
  | none => s
  | some (op, cnt) =>
    let a := s.f HUB_BSPI_ADDR_ADDR
    let n := cnt + 1
    let s := match op, failed with
      | 1, false => s.setBspiBuf (s.flashBytes a n)
      | 2, false => s.flashProg a (s.bspiBuf.take n)
      | 2, true => s.flashFree a n
      | 3, false => s.flashErase (a / 4096 * 4096) 4096
      | 3, true => s.flashFree (a / 4096 * 4096) 4096
      | _, _ => s
    s.bspiDone (if failed then 3 else 0)

def execBspiCmdEnd (failed : Bool) (s : State) : Host.Outcome State Fault Refusal := .next (s.bspiEnd failed)

end Sys2Proof.Machine
end

