-- ==== Sys2Proof/Machine/Debug.lean ====
section
/-! DEFINITION. Observation and debug (17 R425 to R444): the trace sink and its outputs, stimulus ports, performance counters, the
bridle, and the TAP's instructions. -/

namespace Sys2Proof.Machine
open Reg

/-! ## The trace sink (R431 to R433) -/

/-- The outputs run: with CH_EN, only while START_CH was raised more recently than STOP_CH. -/
def State.trcRun (s : State) : Bool :=
  decide (s.eff DBG_TRC_CTRL_OUT ≠ 0) && (decide (s.eff DBG_TRC_CTRL_CH_EN = 0) || s.dbg.started) && s.observes

/-- A record reaches the sink: dropped uncounted below OBSERVE, dropped and counted when the store is full. -/
def State.sinkTake (s : State) (r : TraceRec) : State :=
  if !s.observes then s
  else if s.dbg.store.length < 4096 then s.updDbg fun d => { d with store := d.store ++ [r] }
  else
    let first := !s.dbg.dropped
    let s := (s.count DBG_TRC_STATUS_DROP 1).updDbg fun d => { d with dropped := true, align := true }
    if first then s.raise .TRACE_DROP false 0 noInst else s

/-- The records of a packet's payload (06 R175). -/
def traceRecs (d : List Byte) : List TraceRec :=
  (List.range (d.length / 16)).map fun i => TraceRec.ofBytes ((d.drop (16 * i)).take 16)

/-- NOC_TRACE: the oldest TRACE packet of `src` on its way reaches the sink; one that ends with an EM tail is discarded and counted
(06 R160). A store of 8 that has filled in the meantime sends its next packet (09 R238). -/
def State.traceArrive (s : State) (src : Nat) (em : Bool) : State :=
  let q := fun (p : Packet) => decide (p.dst = sinkNode ∧ p.opc = opcTrace ∧ p.src = src)
  match s.noc.inbox.find? q with
  | none => s
  | some p =>
    let s := s.updNoc fun n => { n with inbox := dropFirst q n.inbox }
    let s := if em ∨ p.ended then s.updNoc fun n => countDiscard n sinkNode else (traceRecs p.data).foldl State.sinkTake s
    if traceSource p < 2 ^ 10 then s.traceSweep else s.stimGo (traceSource p) src

def execNocTrace (src : Nat) (em : Bool) (s : State) : Host.Outcome State Fault Refusal := .next (s.traceArrive src em)

/-- The record at the head leaves the store once every enabled output has taken it. -/
def State.sinkTrim (s : State) : State :=
  let out := s.eff DBG_TRC_CTRL_OUT
  if (List.range 2).all fun i => decide (out / 2 ^ i % 2 = 0) || s.dbg.taken.contains i then
    s.updDbg fun d => { d with store := d.store.drop 1, taken := [] }
  else s

/-- A record on the trace pins: an align record of 128 ones first when one is due (R432). -/
def State.pinsTake (s : State) (r : TraceRec) : State :=
  let al := if s.dbg.align then [Out.trace (List.replicate 16 0xFF)] else []
  let n := if s.dbg.align then 1 else s.dbg.sent + 1
  { s with out := s.out ++ al ++ [Out.trace r.toBytes] }.updDbg fun d => { d with sent := n % 4096, align := decide (n = 4096) }

/-- The trace pins with no record to send: the align record if one is due, else an idle record of zeros (R432). -/
def State.pinsIdle (s : State) : State :=
  if s.dbg.align then
    { s with out := s.out ++ [Out.trace (List.replicate 16 0xFF)] }.updDbg fun d => { d with sent := 0, align := false }
  else { s with out := s.out ++ [Out.trace (List.replicate 16 0)] }

/-- The HBM output takes a record; the 32nd ends a 512-byte WRITE at DBG_TRC_WPTR, which wraps at the end of the ring (R433). -/
def State.ringTake (s : State) (r : TraceRec) : State :=
  let l := s.dbg.ring ++ [r]
  if l.length < 32 then s.updDbg fun d => { d with ring := l }
  else
    let w := s.f DBG_TRC_WPTR_OFF
    (((s.hubWrite (s.ringBase + w) (l.flatMap TraceRec.toBytes) sinkNode).1).setF DBG_TRC_WPTR_OFF ((w + 512) % s.ringLen)).updDbg
      fun d => { d with ring := [] }

/-- TRACE_OUTPUT_RECORD: output 0 (pins) or 1 (ring) takes the oldest record; the pins without one send what R432 gives. -/
def State.outputRecord (s : State) (i : Nat) : State :=
  if !s.trcRun ∨ s.eff DBG_TRC_CTRL_OUT / 2 ^ i % 2 = 0 then s
  else
    match (if s.dbg.taken.contains i then none else s.dbg.store.head?) with
    | none => if i = 0 then s.pinsIdle else s
    | some r =>
      let s := if i = 0 then s.pinsTake r else s.ringTake r
      (s.updDbg fun d => { d with taken := i :: d.taken }).sinkTrim

def execTraceOutputRecord (i : Nat) (s : State) : Host.Outcome State Fault Refusal := .next (s.outputRecord i)

/-- DBG_TRC_CTRL.OUT takes effect: outputs newly enabled start with an align record, and the first drop is reported again. A
record that every output left has taken goes. -/
def State.outApplied (s : State) (old : Nat) : State :=
  let new := s.eff DBG_TRC_CTRL_OUT
  let s := if new ≠ 0 ∧ s.dbg.taken ≠ [] then s.sinkTrim else s
  if new &&& (new ^^^ old) ≠ 0 then
    s.updDbg fun d => { d with dropped := false, align := d.align || decide (old % 2 = 0 ∧ new % 2 = 1)
                               sent := if old % 2 = 0 ∧ new % 2 = 1 then 0 else d.sent }
  else s

/-! ## Stimulus ports (R434, R435) -/

/-- The NoC node of core g (06 R155). -/
def coreNode (g : Nat) : Nat := nodeAt (match g with | 0 => 27 | 1 => 28 | 2 => 35 | _ => 36) 5

def stimChan (g : Nat) : Fld :=
  match g with | 0 => DBG_STIM_CHAN_CHAN0 | 1 => DBG_STIM_CHAN_CHAN1 | 2 => DBG_STIM_CHAN_CHAN2 | _ => DBG_STIM_CHAN_CHAN3

/-- A record of a core or a fabric NAP (09 R238). -/
def State.stimRecord (s : State) (src node chan v : Nat) : State :=
  s.stimPush src node ⟨2, src, s.nocTime % 2 ^ 48, chan % 256 * 2 ^ 56 + v % 2 ^ 32⟩

/-- A write of DBG_STIMg: `core` is the core that writes, when it is a core's write. -/
def State.dbgStim (s : State) (m : Master) (core g v : Nat) : State :=
  match m with
  | .tenant l _ => s.refuse m (DBG_STIM g) (.denied l)
  | _ =>
    if m ≠ .firmware ∨ core ≠ g then s.dropWrite m .notOwner (DBG_STIM g)
    else if !s.observes then s.answer (.ok 0)
    else (s.stimRecord (2 * 2 ^ 10 + g) (coreNode g) (s.f (stimChan g)) v).answer (.ok 0)

def execDbgStim (m : Master) (core g v : Nat) (s : State) : Host.Outcome State Fault Refusal := .next (s.dbgStim m core g v)

/-- NAP_STIM_SAMPLE: NAP k of region r samples STIM_VALID high. -/
def State.napStim (s : State) (r k chan v : Nat) : State :=
  let node := napNode r k
  let src := 3 * 2 ^ 10 + node
  if !s.connected r ∨ s.f (DBG_STIM_RGN_BITS (r / 32)) / 2 ^ (r % 32) % 2 = 0 ∨ !s.observes then s
  else
    let was := (s.probe src).dropped
    let s := s.stimRecord src node chan v
    if was < (s.probe src).dropped then s.count DBG_TRC_STATUS_NAP_DROP 1 else s

def execNapStimSample (r k chan v : Nat) (s : State) : Host.Outcome State Fault Refusal := .next (s.napStim r k chan v)

/-! ## Performance counters (R436) -/

/-- A write of DBG_PMCk_SEL: its fields take effect at once, and CLR zeroes the counter. -/
def State.pmcWrite (s : State) (k v : Nat) : State :=
  let s := s.setFs [(DBG_PMC_SEL_EN k, v / 2 ^ 30), (DBG_PMC_SEL_GATE_EN k, v / 2 ^ 28), (DBG_PMC_SEL_GATE_CH k, v / 2 ^ 24),
    (DBG_PMC_SEL_EV k, v / 2 ^ 16), (DBG_PMC_SEL_ARG k, v)]
  if v / 2 ^ 31 % 2 = 1 then s.setFs [(DBG_PMC_LO_COUNT k, 0), (DBG_PMC_HI_COUNT k, 0)] else s

def execPmcSelWrite (m : Master) (k v : Nat) (s : State) : Host.Outcome State Fault Refusal :=
  .next (s.viaWrite m (DBG_PMC_SEL k) fun s => s.pmcWrite k v)

/-! ## The bridle (R437 to R442) -/

/-- Engines, cores and regions that a set of channels halts. -/
def State.brEngs (s : State) (mask : Nat) : List Nat := (List.range 192).filter fun e => decide ((s.eff (DBG_BR_ENG_HALT_ON e)) &&& mask ≠ 0)
def State.brCores (s : State) (mask : Nat) : List Nat := (List.range 4).filter fun g => decide ((s.eff (DBG_BR_CORE_HALT_ON g)) &&& mask ≠ 0)
def State.brRgns (s : State) (mask : Nat) : List Nat := (List.range 64).filter fun r => decide ((s.eff (DBG_BR_RGN_HALT_ON r)) &&& mask ≠ 0)

/-- A halt reaches an engine (R439). -/
def State.haltEng (s : State) (e : Nat) : State :=
  if s.engState e = 1 then s.engStopTo e 4
  else if s.engState e = 5 ∧ (s.engAt e).stopTo = 0 then s.updEng e fun g => { g with stopTo := 4 }
  else s

/-- A halt reaches a core: deferred inside a locked sequence (R441). -/
def State.haltCore (s : State) (g : Nat) : State :=
  if s.dbg.halted.contains g ∨ s.dbg.deferred.contains g then s
  else if nget s.dbg.locked g ≠ 0 then
    (s.updDbg fun d => { d with deferred := d.deferred ++ [g] }).setF DBG_STATUS_DEFERRED 1
  else s.updDbg fun d => { d with halted := d.halted ++ [g] }

/-- DBG_HALT for one raised channel (R439): for each lease that holds a region or engine it halts, and for the device when no lease
does or when a halted one has no lease; INST then names it (00 R17), a region before an engine. -/
def State.haltEvent (s : State) (ch : Nat) : State :=
  let rs := (s.brRgns (2 ^ ch)).filter fun r => decide (s.rState r = 3) && (s.rgnAt r).halt
  let es := (s.brEngs (2 ^ ch)).filter fun e => decide (s.engState e = 4 ∨ (s.engState e = 5 ∧ (s.engAt e).stopTo = 4))
  let ls := ((rs.map s.lease ++ es.map fun e => s.lease (e / 3)).filter (· ≠ 0)).eraseDups
  let free := rs.filter (fun r => decide (s.lease r = 0)) ++ es.filter fun e => decide (s.lease (e / 3) = 0)
  let s := ls.foldl (fun t l => t.raise .DBG_HALT true l noInst) s
  match free with
  | x :: _ => s.raise .DBG_HALT false 0 x
  | [] => if ls.isEmpty then s.raise .DBG_HALT false 0 noInst else s

/-- The halts of the raised channels reach their participants; `resv` are the cores that hold a reservation. -/
def State.brDeliver (s : State) (resv : List Nat) : State :=
  let mask := s.dbg.due
  if mask = 0 then s
  else
    let s := s.updDbg fun d => { d with due := 0 }
    let s := s.updDbg fun d => { d with
      locked := resv.foldl (fun m g => if nget m g = 0 then nput m g 1 else m) d.locked }
    let s := (s.brEngs mask).foldl State.haltEng s
    let s := (s.brCores mask).foldl State.haltCore s
    let s := (s.brRgns mask).foldl State.haltRegion s
    ((List.range 16).filter fun ch => decide (mask / 2 ^ ch % 2 = 1)).foldl State.haltEvent s

/-- The access check of a run-control register, whose writes of one cycle have an order (R429, R397). -/
def State.bridleWrite (s : State) (m : Master) (a : Nat) (late : Bool) (act : State → State) : State :=
  s.viaWrite m a fun s => act (if late then s.logDrop m .order a else s)

/-- DBG_BR_RAISE: every channel of the mask is raised. -/
def State.brRaiseMask (s : State) (mask : Nat) : State :=
  ((List.range 16).filter fun ch => decide (mask / 2 ^ ch % 2 = 1)).foldl State.brRaiseCh s

/-- BR_RAISE. -/
def execBrRaise (x : BrSrc) (resv : List Nat) (s : State) : Host.Outcome State Fault Refusal :=
  .next (match x with
    | .write m mask late => s.bridleWrite m DBG_BR_RAISE late fun s => (s.brRaiseMask mask).brDeliver resv
    | .core g => (s.brInput (DBG_BR_CORE_ON g) (DBG_BR_CORE_RAISE_EN g) (DBG_BR_CORE_RAISE_CH g) 0).brDeliver resv
    | .region r =>
      if !s.connected r then s.brDeliver resv
      else (s.brInput (DBG_BR_RGN_ON r) (DBG_BR_RGN_RAISE_EN r) (DBG_BR_RGN_RAISE_CH r) 0).brDeliver resv
    | .arrive => s.brDeliver resv)

/-- An engine in DEBUG that no channel halts any longer runs on, its watchdog from at least 4,096 ticks (R440, R442). -/
def State.freeEng (s : State) (e : Nat) : State :=
  if s.engState e = 4 ∧ !s.engHeld e then s.engResume e else s

def State.freeCore (s : State) (g : Nat) : State :=
  if s.chRaised (s.eff (DBG_BR_CORE_HALT_ON g)) then s
  else
    let s := s.updDbg fun d => { d with halted := d.halted.filter (· ≠ g), deferred := d.deferred.filter (· ≠ g)
                                        locked := if d.deferred.contains g ∧ nget d.locked g = 1 then nput d.locked g 0 else d.locked }
    s.setF DBG_STATUS_DEFERRED (b2n (!s.dbg.deferred.isEmpty))

def State.freeRgn (s : State) (r : Nat) : State :=
  if s.chRaised (s.eff (DBG_BR_RGN_HALT_ON r)) then s else s.unhaltRegion r

/-- DBG_BR_STATE: channels are cleared, and participants whose last channel it was are released (R440). -/
def State.brClear (s : State) (mask : Nat) : State :=
  let old := s.f DBG_BR_STATE_CH
  let gone := old &&& mask
  let s := (s.setF DBG_BR_STATE_CH (old - gone)).updDbg fun d => { d with due := d.due &&& (old - gone) }
  let s := (s.brEngs gone).foldl State.freeEng s
  let s := (s.brCores gone).foldl State.freeCore s
  (s.brRgns gone).foldl State.freeRgn s

def execBrClear (m : Master) (mask : Nat) (late : Bool) (s : State) : Host.Outcome State Fault Refusal :=
  .next (s.bridleWrite m DBG_BR_STATE late fun s => s.brClear mask)

/-- A HALT_ON mask takes effect while a channel of it is raised: the participant is halted; or none is any longer: it is
released. -/
def State.haltOnApplied (s : State) (a : Nat) : State :=
  if 0xF00C000800 ≤ a ∧ a < 0xF00C000B00 then
    let e := (a - 0xF00C000800) / 4
    if s.engHeld e then s.haltEng e else s.freeEng e
  else if 0xF00C000700 ≤ a ∧ a < 0xF00C000710 then
    let g := (a - 0xF00C000700) / 4
    if s.chRaised (s.eff (DBG_BR_CORE_HALT_ON g)) then s.haltCore g else s.freeCore g
  else if 0xF00C000C00 ≤ a ∧ a < 0xF00C000D00 then
    let r := (a - 0xF00C000C00) / 4
    if s.chRaised (s.eff (DBG_BR_RGN_HALT_ON r)) then s.haltRegion r else s.freeRgn r
  else s

/-- HALT_DEFER_EXPIRE: the deferral of core g ends. `ended` says that a reservation's store-conditional has issued; otherwise the
locked sequence is aborted (R441). -/
def State.deferEnd (s : State) (g : Nat) (ended : Bool) : State :=
  if !s.dbg.deferred.contains g then s
  else if nget s.dbg.locked g = 2 then (if ended then s else s.lockAbort)
  else
    let s := s.updDbg fun d => { d with
      deferred := d.deferred.filter (· ≠ g), halted := d.halted ++ [g], locked := nput d.locked g 0 }
    s.setF DBG_STATUS_DEFERRED (b2n (!s.dbg.deferred.isEmpty))

def execHaltDeferExpire (g : Nat) (ended : Bool) (s : State) : Host.Outcome State Fault Refusal := .next (s.deferEnd g ended)

/-! ## The TAP (R427) -/

/-- An instruction is selected; one whose level is not held selects BYPASS. -/
def State.tapSelect (s : State) (code level : Nat) : State :=
  s.updDbg fun d => { d with ir := if level ≤ s.f DBG_STATUS_LEVEL then code else 0xFF }

def execTapReset (s : State) : Host.Outcome State Fault Refusal := .next (s.updDbg fun d => { d with ir := 1 })

/-- EXTEST at FULL: the boundary-scan register is loaded with `d` and drives the pins. -/
def execExtest (d : List Bool) (s : State) : Host.Outcome State Fault Refusal :=
  let t := s.tapSelect 0 2
  .next (if t.dbg.ir = 0 then t.updDbg fun x => { x with bsr := d } else t)

/-- IDCODE: the identification register is shifted out. -/
def execIdcode (s : State) : Host.Outcome State Fault Refusal := .next ((s.tapSelect 1 0).answer (.ok 0x1B8E14B3))

/-- SAMPLE/PRELOAD: the boundary-scan register takes `d`, sampled from the pins or shifted in. -/
def execSamplePreload (d : List Bool) (s : State) : Host.Outcome State Fault Refusal :=
  .next ((s.tapSelect 2 0).updDbg fun x => { x with bsr := d })

def execBypass (s : State) : Host.Outcome State Fault Refusal := .next (s.tapSelect 0xFF 0)

end Sys2Proof.Machine
end

