-- ==== Sys2Proof/Machine/Bist.lean ====
section
/-! DEFINITION. Slice self-test (17 R445 to R451): the order of a die, its slices, the map of logical onto physical units, and the
direct test. -/

namespace Sys2Proof.Machine
open Reg

def State.updBist (s : State) (g : Bist → Bist) : State := { s with bist := g s.bist }

/-! ## Units (R445, 11 R275) -/

/-- The unit tested at place `p` of a die's order (R446): class (1 RAM block, 2 X or Y bank, 3 program bank) and logical
identifier. -/
def sliceUnit (d p : Nat) : Nat × Nat :=
  let r := 8 * d + p / 252
  let k := p % 252
  if k < 192 then (1, r * 256 + k)
  else
    let j := (k - 192) % 20
    let e := 3 * r + (k - 192) / 20
    (if j < 16 then 2 else 3, 2 ^ 16 + e * 256 + j / 8 * 16 + j % 8)

def sliceRegion (d p : Nat) : Nat := 8 * d + p / 252

/-- Engine, memory (0 X, 1 Y) and bank of a bank's identifier. -/
def bankOf (u : Nat) : Nat × Nat × Nat := (u / 256 % 256, u / 16 % 4, u % 16)

/-- The physical unit that holds a logical RAM block or bank. -/
def State.physOf (s : State) (u : Nat) : Nat :=
  if u / 2 ^ 16 = 0 then (if nget s.bist.map u = 0 then u else nget s.bist.map u - 1)
  else
    let b := bankOf u
    if b.2.1 < 2 ∧ b.2.2 < 8 then
      u / 16 * 16 + s.f (ENG_MEM_MAP_MAP (b.1 / 3) (b.1 % 3) b.2.1) / 16 ^ b.2.2 % 16
    else u

/-- Logical units and physical units of the memory that `u` belongs to. -/
def memLogical (u : Nat) : List Nat :=
  if u / 2 ^ 16 = 0 then (List.range 192).map (u / 256 * 256 + ·) else (List.range 8).map (u / 16 * 16 + ·)
def memPhysical (u : Nat) : List Nat :=
  if u / 2 ^ 16 = 0 then (List.range 193).map (u / 256 * 256 + ·) else (List.range 9).map (u / 16 * 16 + ·)

/-- The good spare of the memory, if it has one left. -/
def State.spareOf (s : State) (u : Nat) : Option Nat :=
  let used := (memLogical u).map s.physOf
  (memPhysical u).find? fun p => !used.contains p && !s.bist.bad.contains p

/-- Logical unit `u` moves to physical unit `p`. -/
def State.remap (s : State) (u p : Nat) : State :=
  if u / 2 ^ 16 = 0 then s.updBist fun b => { b with map := nput b.map u (if p = u then 0 else p + 1) }
  else
    let b := bankOf u
    let F := ENG_MEM_MAP_MAP (b.1 / 3) (b.1 % 3) b.2.1
    s.setF F (s.f F - s.f F / 16 ^ b.2.2 % 16 * 16 ^ b.2.2 + p % 16 * 16 ^ b.2.2)

/-- A unit is marked bad (R448). -/
def State.markBad (s : State) (p : Nat) : State :=
  ((s.updBist fun b => { b with bad := b.bad ++ [p] }).setF BST_STATUS_LAST p).raise .BIST_FAIL false 0 (macroInst p)

/-! ## Slices (R446, R447) -/

/-- The slice at place `p` is skipped. -/
def State.sliceSkipped (s : State) (d p : Nat) : Bool :=
  let r := sliceRegion d p
  let u := sliceUnit d p
  let on := decide (s.f (ENG_TRIO_PWR_STATE r) = 2)
  match u.1 with
  | 1 => decide (¬(s.rState r = 2 ∨ s.rState r = 0)) || decide (s.f (PWR_DOM_STATUS_STATE r) = 0) || (s.spareOf u.2).isNone
  | 2 => !on || s.bit (ENG_TRIO_PWR_CLEARING r) || (s.spareOf u.2).isNone
  | _ => s.engBusy (bankOf u.2).1 || decide (s.engState (bankOf u.2).1 = 4) || !on

/-- Rounds that every die has completed. -/
def State.allRounds (s : State) : Nat := (List.range 8).foldl (fun n d => min n (nget s.bist.rounds d)) (2 ^ 32)

/-- The order of die d moves past place `p`; a round ends with its last place. -/
def State.slicePast (s : State) (d p : Nat) : State :=
  if p + 1 < 2016 then s.updBist fun b => { b with pos := nput b.pos d (p + 1) }
  else
    let old := s.allRounds
    let s := s.updBist fun b => { b with pos := nput b.pos d 0, rounds := nput b.rounds d (nget b.rounds d + 1) }
    s.count BST_STATUS_ROUNDS (s.allRounds - old)

/-- Pass over places whose class is cleared. -/
def State.slicePick (s : State) (d : Nat) : Nat → State
  | 0 => s
  | n + 1 =>
    let p := nget s.bist.pos d
    if s.eff BST_CTRL_CLASSES / 2 ^ ((sliceUnit d p).1 - 1) % 2 = 1 then s else State.slicePick (s.slicePast d p) d n

/-- BIST_SLICE_START: the safe boundary of EN, CLASSES and PERIOD_US (R451). -/
def State.sliceStart (s : State) (d : Nat) : State :=
  let s := ((s.applyLive BST_CTRL_EN).applyLive BST_CTRL_CLASSES).applyLive BST_SCHED_PERIOD_US
  if nget s.bist.run d ≠ 0 ∨ s.eff BST_CTRL_EN = 0 ∨ s.eff BST_CTRL_CLASSES = 0 then s
  else
    let s := s.slicePick d 2016
    let p := nget s.bist.pos d
    if s.sliceSkipped d p then (s.count BST_STATUS_SKIPPED 1).slicePast d p
    else (s.updBist fun b => { b with run := nput b.run d (p + 1) }).slicePast d p

def execBistSliceStart (d : Nat) (s : State) : Host.Outcome State Fault Refusal := .next (s.sliceStart d)

/-- Errors of a unit's stored words, by row. -/
def State.unitErrs (s : State) (p : Nat) : List (Nat × List Nat) :=
  s.ecc.bad.filterMap fun e => if e.1 / 2 ^ 20 = p then some (e.1 % 2 ^ 20, e.2) else none

/-- Every word of unit `p` is written afresh. -/
def State.unitFresh (s : State) (p : Nat) : State :=
  { s with ecc := { s.ecc with bad := SMap.filterKeys (fun k => decide (k / 2 ^ 20 ≠ p)) s.ecc.bad } }

/-- A unit's words are copied to another: corrected words are stored right, uncorrectable ones stay so. -/
def State.unitCopy (s : State) (p q : Nat) : State :=
  let l := s.unitErrs p
  let s := (l.foldl (fun t x => t.eccRead p x.1) s).unitFresh q
  l.foldl (fun t x => if x.2.length < 2 then t else t.setBadBits q x.1 x.2) s

/-- START commands that waited for the slice of a program bank (R445). -/
def State.startsDue (s : State) (e : Nat) : State :=
  if s.bist.start.contains e then
    (s.updBist fun b => { b with start := b.start.filter (· ≠ e) }).engStart e
  else s

/-- The slice of a memory with a spare ends. -/
def State.sliceRotate (s : State) (u : Nat) (verified passed : Bool) : State :=
  match s.spareOf u with
  | none => s
  | some q =>
    let p := s.physOf u
    if !verified then s.markBad q
    else
      let s := ((s.unitCopy p q).remap u q).unitFresh p
      if passed then s else s.markBad p

/-- The slice of a program bank ends: the bank is saved, tested, restored. -/
def State.sliceProgram (s : State) (u : Nat) (passed : Bool) : State :=
  let l := s.unitErrs u
  let s := (l.foldl (fun t x => t.eccRead u x.1) s).unitFresh u
  let s := l.foldl (fun t x => if x.2.length < 2 then t else t.setBadBits u x.1 x.2) s
  if passed then s else s.markBad u

/-- BIST_SLICE_END: `verified` says that the copy equals its source, `passed` that the test found no error. -/
def State.sliceEnd (s : State) (d : Nat) (verified passed : Bool) : State :=
  let r := nget s.bist.run d
  if r = 0 then s
  else
    let u := sliceUnit d (r - 1)
    let s := s.updBist fun b => { b with run := nput b.run d 0 }
    if u.1 = 3 then (s.sliceProgram u.2 passed).startsDue (bankOf u.2).1 else s.sliceRotate u.2 verified passed

def execBistSliceEnd (d : Nat) (verified passed : Bool) (s : State) : Host.Outcome State Fault Refusal :=
  .next (s.sliceEnd d verified passed)

/-- BST_MAPQ as it reads: the unit that holds the logical unit written. -/
def State.mapqWord (s : State) : Nat :=
  let p := s.physOf (s.f BST_MAPQ_UNIT)
  b2n (s.bist.bad.contains p) * 2 ^ 31 + p % 2 ^ 20

def execBstMapqWrite (m : Master) (unit : Nat) (s : State) : Host.Outcome State Fault Refusal :=
  .next (s.viaWrite m BST_MAPQ fun s => s.setF BST_MAPQ_UNIT unit)

/-! ## The direct test (R449) -/

/-- The macro is idle, so that a direct test may destroy it. -/
def State.macroIdle (s : State) (u : Nat) : Bool :=
  match u / 2 ^ 16 with
  | 0 => decide (s.rState (u / 256 % 64) = 0)
  | 1 => decide (s.engState (bankOf u).1 = 0) && !s.dmaBusy (bankOf u).1 0 && !s.dmaBusy (bankOf u).1 1
  | 2 => decide (s.f (CFG_BAL_VALID (u % 64)) = 0) && decide (s.rState (u % 64) = 0)
  | _ => decide (u % 2 ^ 16 = 2) && (List.range 5).all s.ldIdle

/-- BST_XP_CMD.GO on the expert page. -/
def State.bstGo (s : State) (alg unit : Nat) : State :=
  if s.bit BST_XP_STATUS_BUSY then s.busy BST_XP_STATUS_FIELD_BUSY
  else
    let s := s.setFs [(BST_XP_CMD_ALG, alg), (BST_XP_CMD_MACRO, unit)]
    if s.macroIdle unit then s.setFs [(BST_XP_STATUS_BUSY, 1), (BST_XP_STATUS_ERR, 0)]
    else s.setFs [(BST_XP_STATUS_ERR, 1), (BST_XP_STATUS_DONE, 1)]

/-- A write to an expert page (00 R14). -/
def State.xpWrite (s : State) (m : Master) (a : Nat) (act : State → State) : State :=
  s.viaWrite m a fun s => if s.xpOn a then act s else s.dropWrite m .expert a

def execBstXpGo (m : Master) (alg unit : Nat) (s : State) : Host.Outcome State Fault Refusal :=
  .next (s.xpWrite m BST_XP_CMD fun s => s.bstGo alg unit)

/-- The words of a RAM block after a direct test: the spec states no contents. -/
def State.ramDestroyed (s : State) (u : Nat) : State :=
  match (List.range 192).find? fun k => decide (s.physOf (u / 256 * 256 + k) = u) with
  | none => s
  | some k => (s.updCap fun c => { c with
      fab := putBytes c.fab (imgBase (u / 256) + ffSize + 4096 * k) (leBytes 4096 (s.free (2 ^ 15))) }).freeNext

/-- The words of an engine's bank after a direct test: the spec states no contents. -/
def State.bankDestroyed (s : State) (u : Nat) : State :=
  let e := (bankOf u).1
  let mem := (bankOf u).2.1
  if mem < 2 then
    match (List.range 8).find? fun b => decide (s.physOf (u / 16 * 16 + b) = u) with
    | none => s
    | some b => (List.range 1024).foldl (fun t i =>
        let w := 2 * (8 * i + b)
        let t := (t.updEng e fun g => g.setWord mem w (t.free 32)).freeNext
        (t.updEng e fun g => g.setWord mem (w + 1) (t.free 32)).freeNext) s
  else
    (List.range 1024).foldl (fun t i =>
      (t.updEng e fun g => { g with prog := nput g.prog (4 * i + u % 16) (t.free 64) }).freeNext) s

/-- BST_XP_END: the test ends; `fail` is the first failing row. -/
def State.bstEnd (s : State) (fail : Option Nat) : State :=
  if !s.bit BST_XP_STATUS_BUSY then s
  else
    let u := s.f BST_XP_CMD_MACRO
    let s := s.unitFresh u
    let s := if u / 2 ^ 16 = 1 then s.bankDestroyed u else if u / 2 ^ 16 = 0 then s.ramDestroyed u else s
    let s := s.setFs [(BST_XP_STATUS_BUSY, 0), (BST_XP_STATUS_DONE, 1)]
    match fail with
    | none => s.setF BST_XP_STATUS_ERR 0
    | some row => s.setFs [(BST_XP_STATUS_ERR, 2), (BST_XP_STATUS_ROW, row)]

def execBstXpEnd (fail : Option Nat) (s : State) : Host.Outcome State Fault Refusal := .next (s.bstEnd fail)

end Sys2Proof.Machine
end

