-- ==== Sys2Proof/Machine/MgmtWrite.lean ====
section
/-! DEFINITION. A write of a management register (00 R4 to R15, R470): the general rule for a register's fields by type and
class, and what the registers with an effect of their own do. -/

namespace Sys2Proof.Machine
open Reg

/-- Bits [lo + w - 1:lo] of a written word. -/
def fv (v lo w : Nat) : Nat := v / 2 ^ lo % 2 ^ w

def isOne (v lo : Nat) : Bool := decide (fv v lo 1 = 1)

/-! ## What the fields of a register take (R10 to R13, R470) -/

/-- The value that a field stores for a written one: the nearer limit where the field's entry says so; none where the value is
ignored and logged with cause RANGE. -/
def fieldStore (id : RegId) (lo x : Nat) : Option Nat :=
  match id, lo with
  | .PWR_THERM_CFG, 8 => some (min 125 (max 100 x))
  | .PWR_XP_RAMP, 0 => some (min 200 (max 10 x))
  | .CFG_GOLD_BASE, 0 => if x ≤ 143 then some x else none
  | .MIR_AREA, 0 => if x ≤ 140 then some x else none
  | .PCI_PF_HBMWIN, 0 => if x ≤ 80 then some x else none
  | .PCI_OWIN_LO, 0 => some (x / 4096 * 4096)
  | .SEC_K_LBN_HI, 0 => some (x % 16)
  | .NOC_EPOCH, 0 => some (min 1024 x)
  | .NOC_ARB_DROGUE, 0 | .DMC_ARB_DROGUE, 0 | .ENG_ARB_DROGUE, 0 | .CFG_ARB_RB_DROGUE, 0 | .CFG_ARB_CAP_DROGUE, 0
  | .CMX_ARB_DROGUE, 0 | .MIR_ARB_DROGUE, 0 => some (max 256 x)
  | .ENG_WDT, 0 => some (max 4096 x)
  | .DMC_PAGE, 16 => some (min 3500 x)
  | .DMC_REF, 0 => some (min 8 x)
  | .LNE_RX_DST, 0 => some (min 8 x)
  | .DBG_TRC_BASE, 28 => some (min 14 x)
  | .BST_SCHED, 0 => some (max 100 x)
  | _, _ => some x

/-- The block of a QUIET register is busy (R11), by the entry of its fields. -/
def State.quietBusy (s : State) (id : RegId) (ix : List Nat) : Bool :=
  match id, ix with
  | .HDMA_HBM_LO, [c] | .HDMA_HBM_HI, [c] | .HDMA_OFF, [c] | .HDMA_LEN, [c] | .HUB_HDMA_CTRL, [c] =>
    s.bit (HUB_HDMA_STATUS_BUSY c)
  | .HUB_LC_BUF, _ => s.bit HUB_LC_STATUS_BUSY
  | .HUB_BSPI_ADDR, _ => s.bit HUB_BSPI_STATUS_BUSY
  | .PWR_XP_RAMP, _ => (List.range 176).any fun n => decide (s.pwrState n = 3)
  | .CFG_LD_SRC, [n] | .CFG_LD_LEN, [n] | .CFG_LD_CTRL, [n] => !s.ldIdle n
  | .CFG_CAP_CTRL, _ | .CFG_CAP_MASK, _ | .CFG_CAP_ADDR, _ => s.capBusy
  | .CMX_XP_TRAIN, [d] => (List.range 16).any fun b => decide (s.bState d b = 1)
  | .NOC_PORT_CTRL, [k, p] => s.portBusy k p
  | .ENG_MODE, [t, k] | .ENG_PC, [t, k] | .ENG_REGSEL, [t, k] => s.engBusy (3 * t + k)
  | .ENG_STRM_CFG, [t, k] => s.engBusy (3 * t + k) || decide (s.f (ENG_STRM_STATUS_LEVEL t k) ≠ 0)
  | .ENG_TRIO_XP, [t] => (List.range 6).any fun i => s.dmaBusy (3 * t + i / 2) (i % 2)
  | .DMC_XP_T0, [n] | .DMC_XP_T1, [n] | .DMC_XP_T2, [n] | .DMC_XP_T3, [n] => decide (s.pcState n ≠ 2)
  | .ECC_SCRUB_BASE, _ | .ECC_SCRUB_LEN, _ | .ECC_SCRUB_CTRL, _ => s.bit ECC_SCRUB_STATUS_BUSY
  | .SEC_K_CTRL, [k] | .SEC_K_RANGE, [k] | .SEC_K_LBN_LO, [k] | .SEC_K_LBN_HI, [k] => decide (s.ksState k ≠ 0)
  | .LNE_RX_BASE, [n] | .LNE_RX_DST, [n] => decide (s.laneMode n ≠ 0)
  | .MIR_PL_CFG, [j] | .MIR_PL_RANGE, [j] =>
    !(decide (s.f (MIR_PL_CFG_MODE j) % 3 = 0) && decide (s.eff (MIR_PL_CFG_MODE j) % 3 = 0))
  | .CLK_PLL_CFG, [p] => decide (s.pllState p ≠ 0)
  | .FAB_SP_CTRL, [d, p] | .FAB_SP_RATE, [d, p] | .FAB_SP_FMT, [d, p] | .FAB_SP_DIV, [d, p] => s.bit (FAB_SP_CTRL_EN d p)
  | .DBG_AUTH_BUF, _ => s.bit DBG_AUTH_STATUS_BUSY
  | .DBG_TRC_CTRL, _ => decide (s.eff DBG_TRC_CTRL_OUT ≠ 0)
  | .DBG_TRC_BASE, _ => decide (s.eff DBG_TRC_CTRL_OUT / 2 % 2 = 1)
  | .DBG_XP_TRC, _ => decide (s.eff DBG_TRC_CTRL_OUT % 2 = 1)
  | .BST_XP_CMD, _ => s.bit BST_XP_STATUS_BUSY
  | .FAB_ROSC_TRIM, [d, n] => s.bit (FAB_ROSC_CTRL_EN d n)
  | _, _ => false

/-- The FIELD_BUSY bit of a QUIET register's block. -/
def busyFld (id : RegId) (ix : List Nat) : Option Fld :=
  match id, ix with
  | .HDMA_HBM_LO, [c] | .HDMA_HBM_HI, [c] | .HDMA_OFF, [c] | .HDMA_LEN, [c] | .HUB_HDMA_CTRL, [c] =>
    some (HUB_HDMA_STATUS_FIELD_BUSY c)
  | .HUB_LC_BUF, _ => some HUB_LC_STATUS_FIELD_BUSY
  | .HUB_BSPI_ADDR, _ => some HUB_BSPI_STATUS_FIELD_BUSY
  | .PWR_XP_RAMP, _ => some PWR_CTRL_FIELD_BUSY
  | .CFG_LD_SRC, [n] | .CFG_LD_LEN, [n] | .CFG_LD_CTRL, [n] => some (CFG_LD_STATUS_FIELD_BUSY n)
  | .CFG_CAP_CTRL, _ | .CFG_CAP_MASK, _ | .CFG_CAP_ADDR, _ => some CFG_CAP_STATUS_FIELD_BUSY
  | .CMX_XP_TRAIN, [d] => some (CMX_DIE_STATUS_FIELD_BUSY d)
  | .NOC_PORT_CTRL, [k, p] => some (NOC_PORT_STATUS_FIELD_BUSY k p)
  | .ENG_MODE, [t, k] | .ENG_PC, [t, k] | .ENG_REGSEL, [t, k] | .ENG_STRM_CFG, [t, k] => some (ENG_DP_FLAGS_FIELD_BUSY t k)
  | .ENG_TRIO_XP, [t] => some (ENG_DP_FLAGS_FIELD_BUSY t 0)
  | .DMC_XP_T0, [n] | .DMC_XP_T1, [n] | .DMC_XP_T2, [n] | .DMC_XP_T3, [n] => some (DMC_STATUS_FIELD_BUSY n)
  | .ECC_SCRUB_BASE, _ | .ECC_SCRUB_LEN, _ | .ECC_SCRUB_CTRL, _ => some ECC_SCRUB_STATUS_FIELD_BUSY
  | .SEC_K_CTRL, [k] | .SEC_K_RANGE, [k] | .SEC_K_LBN_LO, [k] | .SEC_K_LBN_HI, [k] => some (SEC_K_STATUS_FIELD_BUSY k)
  | .LNE_RX_BASE, [n] | .LNE_RX_DST, [n] => some (LNE_STATUS_FIELD_BUSY n)
  | .MIR_PL_CFG, [j] | .MIR_PL_RANGE, [j] => some (MIR_PL_STATUS_FIELD_BUSY j)
  | .CLK_PLL_CFG, [p] => some (CLK_PLL_STATUS_FIELD_BUSY p)
  | .FAB_SP_CTRL, [d, p] | .FAB_SP_RATE, [d, p] | .FAB_SP_FMT, [d, p] | .FAB_SP_DIV, [d, p] =>
    some (FAB_SP_STATUS_FIELD_BUSY d p)
  | .DBG_AUTH_BUF, _ | .DBG_TRC_CTRL, _ | .DBG_TRC_BASE, _ | .DBG_XP_TRC, _ => some DBG_STATUS_FIELD_BUSY
  | .BST_XP_CMD, _ => some BST_XP_STATUS_FIELD_BUSY
  | .FAB_ROSC_TRIM, [d, n] => some (FAB_ROSC_MEAS_FIELD_BUSY d n)
  | _, _ => none

/-- Set the FIELD_BUSY bit of a register's block. -/
def State.quietRefused (s : State) (id : RegId) (ix : List Nat) : State :=
  match busyFld id ix with
  | some F => s.busy F
  | none => s

/-- One field of a written register is judged by its own type and class (R6, R13). `s0` is the state before the write: a
commit or a change of a field of the same write does not change how another is judged. DESIGN CHOICE (log 53): commands have an
order and no cycle; of a hardware event and a W1C write or RC read in one cycle the access comes first, so the event stays (R7). -/
def State.fieldPut (s0 : State) (m : Master) (id : RegId) (ix : List Nat) (a v : Nat) (s : State) (f : FieldSpec) : State :=
  let F : Fld := ⟨a, f.lo, f.w⟩
  let x := fv v f.lo f.w
  match f.ty with
  | .ro | .rc | .wo => s
  | .w1c => s.setF F (s.f F &&& (2 ^ f.w - 1 - x))
  | .rw | .rwl =>
    match f.cls with
    | .boot =>
      if s0.committed then s
      else match fieldStore id f.lo x with
        | some y => s.setF F y
        | none => s.logDrop m .range a
    | .quiet =>
      if s0.quietBusy id ix then s.quietRefused id ix
      else match fieldStore id f.lo x with
        | some y => s.setF F y
        | none => s.logDrop m .range a
    | _ =>
      match fieldStore id f.lo x with
      | none => s.logDrop m .range a
      | some y => if f.once then s.setF F y else s.writeLive F y

/-- The fields of the list are written. -/
def State.fieldsPut (s : State) (m : Master) (id : RegId) (ix : List Nat) (a v : Nat) (fs : List FieldSpec) : State :=
  fs.foldl (fun t f => State.fieldPut s m id ix a v t f) s

/-- The register holds a BOOT field, and the commit has been made: the write of that field is ignored and logged (R12). -/
def State.bootHit (s : State) (fs : List FieldSpec) : Bool :=
  s.committed && fs.any fun f => decide (f.cls = .boot ∧ f.ty = .rw)

/-- A register with no effect of its own is written. -/
def State.plainWrite (s : State) (m : Master) (k : RegKind) (ix : List Nat) (a v : Nat) : State :=
  (if s.bootHit k.fields then s.logDrop m .bootLocked a else s).fieldsPut m k.id ix a v k.fields

/-- The fields of a register but those at the places of `l`. -/
def RegKind.but (k : RegKind) (l : List Nat) : List FieldSpec := k.fields.filter fun f => !l.contains f.lo

/-! ## Expert fields return to derived values (R15) -/

/-- An expert register belongs to the block, die or trio whose XP_ENABLE is at `ctrl`. -/
def sameBlock (ctrl a : Nat) : Bool :=
  match blockOf ctrl with
  | some .FAB => decide (a / 0x1000000 = ctrl / 0x1000000)
  | some .CMX => decide (blockOf a = some .CMX) && decide ((a - 0xF004000000) / 0x100000 = (ctrl - 0xF004000000) / 0x100000)
  | some .ENG => decide (blockOf a = some .ENG) && decide ((a - 0xF00A000000) / 0x40000 = (ctrl - 0xF00A000000) / 0x40000)
  | b => decide (blockOf a = b)

/-- A field of an idle block returns to its derived value: an oscillator's code to that of its calibration loop, the codes of a
lane to those in force (they walk on once OVERRIDE has gone), a plan of a PLL by `pllXpClear`, any other to its constant. -/
def State.expertField (s : State) (id : RegId) (ix : List Nat) (F : Fld) : State :=
  match id, ix with
  | .FAB_ROSC_TRIM, [d, n] => if (s.rosc d n).expert then s.roscBack d n else s
  | .LNE_XP_EQ_W, _ => (s.setF F (s.eff F)).applyLive F
  | .CLK_PLL_XP, _ => s
  | _, _ => { s.clearF F with xover := s.xover.filter fun a => decide (a ≠ F.key / 32) }

/-- One expert field returns to its derived value: at its safe boundary when it is LIVE, when its block is idle when it is
QUIET. -/
def State.expertBack (ctrl : Nat) (s : State) (key : Nat) : State :=
  let a := key / 32
  if !sameBlock ctrl a then s
  else match decodeReg a with
    | none => s
    | some (k, ix) =>
      match k.expert, fieldAt k.fields (key % 32) with
      | true, some f =>
        let F : Fld := ⟨a, f.lo, f.w⟩
        if f.ty ≠ .rw ∧ f.ty ≠ .rwl then s
        else if f.cls = .quiet then
          if s.quietBusy k.id ix then { s with xback := key :: s.xback.filter fun j => decide (j ≠ key) }
          else s.expertField k.id ix F
        else if f.once ∨ s.xover.contains a ∨ k.id = .LNE_XP_EQ_W ∨ k.id = .CLK_PLL_XP ∨ k.id = .GPIO_XP_PAD then s.expertField k.id ix F
        else s.writeLive F (fieldReset key)
      | _, _ => s

/-- The keys of all fields of an expert register. -/
def xpKeys (a : Nat) : List Nat :=
  match decodeReg a with
  | some (k, _) => k.fields.map fun f => 32 * a + f.lo
  | none => []

/-- XP_ENABLE at `ctrl` has been cleared. -/
def State.expertOff (s : State) (ctrl : Nat) : State :=
  let trims := if blockOf ctrl = some .FAB then
      [0, 1].map fun n => (FAB_ROSC_TRIM_TRIM ((ctrl - 0xF010000000) / 0x1000000) n).key else []
  let keys := (s.flds.map (·.1) ++ s.xover.flatMap xpKeys ++ trims).eraseDups
  let s := keys.foldl (State.expertBack ctrl) s
  if blockOf ctrl = some .CLK then s.pllXpClear else s

/-- Fields whose return to the derived value has waited for an idle block return (R15). -/
def State.xsweep (s : State) : State :=
  s.xback.foldl (fun t key =>
    match decodeReg (key / 32) with
    | none => t
    | some (k, ix) =>
      match fieldAt k.fields (key % 32) with
      | none => t
      | some f =>
        if t.quietBusy k.id ix then t
        else State.expertField { t with xback := t.xback.filter fun j => decide (j ≠ key) } k.id ix ⟨key / 32, f.lo, f.w⟩) s

/-- A block's control register: OWNER, XP_ENABLE and the plain fields beside them. -/
def State.ctrlWrite (s : State) (m : Master) (k : RegKind) (ix : List Nat) (a v xp : Nat) (skip : List Nat) : State :=
  let t := s.plainWrite m { k with fields := k.but skip } ix a v
  if s.f ⟨a, xp, 1⟩ = 1 ∧ t.f ⟨a, xp, 1⟩ = 0 then t.expertOff a else t

/-! ## Registers with effects of their own, block by block: none where the general rule serves -/

/-- HUB (15). `aux` is not used. -/
def State.hubAct (s : State) (m : Master) (k : RegKind) (ix : List Nat) (a v : Nat) : Option State :=
  match k.id, ix with
  | .HUB_CTRL, _ => some (s.ctrlWrite m k ix a v 8 [])
  | .FEAT_ACCEPT, [i] => some (s.featAccept m i v)
  | .FEAT_COMMIT, _ => some (s.featCommit m v)
  | .HUB_MSIX_RAISE, _ => some (s.msixRaise (fv v 25 7) (fv v 0 6))
  | .HUB_HDMA_CTRL, [c] =>
    let t := if isOne v 30 then s.hdmaAbort c else s
    some (if isOne v 31 then t.hdmaGo c (fv v 16 8) (fv v 8 8) (fv v 0 1)
      else t.fieldsPut m k.id ix a v (k.but [30, 31]))
  | .HUB_RGN_STATE, [r] =>
    some (if isOne v 12 then s.release m r
      else s.leaseWrite r (fv v 16 8) (s.window (fv v 16 8)))
  | .HUB_BSPI_CMD, _ =>
    let op := fv v 0 4
    some (if s.bit HUB_BSPI_STATUS_BUSY then s.busy HUB_BSPI_STATUS_FIELD_BUSY
      else if 1 ≤ op ∧ op ≤ 3 then s.bspiGo op (fv v 8 8) else s)
  | .MBX_F2H_PI, [fn] => some (s.f2hWrite fn (fv v 0 16))
  | _, _ => none

/-- PWR and CLK (14). -/
def State.clkAct (s : State) (m : Master) (k : RegKind) (ix : List Nat) (a v : Nat) : Option State :=
  match k.id, ix with
  | .PWR_CTRL, _ => some (s.ctrlWrite m k ix a v 8 [])
  | .PWR_DOM_CTRL, [n] => some (s.pwrReqWrite m n (fv v 0 2))
  | .CLK_CTRL, _ => some (s.ctrlWrite m k ix a v 8 [])
  | .CLK_PLL_CFG, [p] =>
    let t := (s.setF (CLK_PLL_CFG_KEEP p) (fv v 31 1)).pllEval p
    let fixed := decide (p = 0 ∨ (77 ≤ p ∧ p ≤ 112) ∨ 115 ≤ p)
    let r := fv v 28 2
    let t := if fixed then t
      else if s.quietBusy k.id ix then t.quietRefused k.id ix
      else t.setF (CLK_PLL_CFG_REF p) r
    some (t.freqWrite p (fv v 0 12) (fv v 12 12))
  | .CLK_PLL_XP, [p] => some (s.pllXpWrite p (fv v 0 13) (fv v 18 7) (fv v 25 7))
  | .CLK_DOM_CTRL, [n] =>
    some (if n = 191 then s.aonSrcWrite m (fv v 0 3) else s)
  | _, _ => none

/-- CFG (03, 04). -/
def State.cfgAct (s : State) (m : Master) (k : RegKind) (ix : List Nat) (a v : Nat) : Option State :=
  match k.id, ix with
  | .CFG_CTRL, _ => some (s.ctrlWrite m k ix a v 0 [])
  | .CFG_BOOT_CTRL, _ =>
    let t := if isOne v 0 then s.shellReady else s
    some (if s.committed ∨ t.committed then t.logDrop m .bootLocked a
      else t.setF CFG_BOOT_CTRL_BOOT_WDT_MS (fv v 16 16))
  | .CFG_LD_CTRL, [n] =>
    let t := if isOne v 1 then s.loadAbort n else s
    some (if isOne v 0 then
        (if s.ldIdle n then t.loadGo n (fv v 16 6) else t.busy (CFG_LD_STATUS_FIELD_BUSY n))
      else if s.ldIdle n then t.setF (CFG_LD_CTRL_TARGET n) (fv v 16 6)
      else t.busy (CFG_LD_STATUS_FIELD_BUSY n))
  | .CFG_BKEY, [i, j] => some (s.bkeyWrite (i + 1) j (fv v 0 32))
  | .CFG_INTEG_CTRL, _ => some ((s.goldEnWrite m (fv v 7 1)).fieldsPut m k.id ix a v (k.but [7]))
  | .CFG_CAP_CTRL, _ =>
    let op := fv v 0 3
    let t := s.fieldsPut m k.id ix a v (k.but [0])
    some (t.capOp op)
  | .CFG_CAP_IVHI, _ => some (s.ivhiWrite (fv v 0 32))
  | _, _ => none

/-- CMX (05). -/
def State.cmxAct (s : State) (m : Master) (k : RegKind) (ix : List Nat) (a v : Nat) : Option State :=
  match k.id, ix with
  | .CMX_DIE_CTRL, [d] =>
    let t := s.ctrlWrite m k ix a v 8 [0, 1]
    let t := if isOne v 1 then t.dieIsolate d 2 else t
    some (if isOne v 0 then
        (if s.dieState d = 0 ∨ s.dieState d = 3 then t.dieAdmit d else t.busy (CMX_DIE_STATUS_FIELD_BUSY d)) else t)
  | .CMX_B_CTRL, [d, b] =>
    some (s.bundleCtrl d b (fv v 16 12) (fv v 4 1) (fv v 0 4))
  | .CMX_XR, [d, b, p] => some (s.xrWrite d b p (fv v 31 1) (fv v 28 3) (fv v 24 4) (fv v 0 11))
  | _, _ => none

/-- The arbiter of an ARB_CTRL register, if it is one. -/
def arbOf (id : RegId) (ix : List Nat) : Option ArbId :=
  match id, ix with
  | .NOC_ARB_CTRL, [k, o] => some (.noc k o)
  | .DMC_ARB_CTRL, [n] => some (.pc n)
  | .ENG_ARB_CTRL, [t, j, mm] => some (.eng (3 * t + j) mm)
  | .CFG_ARB_RB_CTRL, [r] => some (.readback r)
  | .CFG_ARB_CAP_CTRL, [] => some .capture
  | .CMX_ARB_CTRL, [d] => some (.tether d)
  | .MIR_ARB_CTRL, [] => some .mirror
  | _, _ => none

/-- ARB_CTRL (07 R188, R189): BURST_LIM is read-only at NoC outputs and at the capture engine. -/
def State.arbCtrl (s : State) (b : ArbId) (v : Nat) : State :=
  let fixed := match b with | .noc _ _ | .capture => true | _ => false
  let s := if fixed then s else s.writeLive b.burstF (fv v 16 16)
  let s := (s.writeLive b.preemptMaxF (fv v 8 4)).setF b.idxF (fv v 0 7)
  if isOne v 7 then s.unfence b (fv v 0 7) else s

/-- The set of a route or slot register takes writes: it is neither the active nor the draining set (06 R166). -/
def State.setWritable (s : State) (t : Nat) : Bool := decide (t ≠ s.activeSet) && !s.bit NOC_STATUS_DRAINING

/-- A write of VCMASK (06 R161): a mask without bit 0 or bit 1 is refused with VC_CONFIG, and the port keeps its old mask. -/
def State.vcmaskWrite (s : State) (k p v : Nat) : State :=
  if s.portBusy k p then s.busy (NOC_PORT_STATUS_FIELD_BUSY k p)
  else if v % 4 = 3 then s.setF (NOC_PORT_CTRL_VCMASK k p) v
  else s.setF (NOC_PORT_STATUS_ERR k p) 1

/-- NOC (06). -/
def State.nocAct (s : State) (m : Master) (k : RegKind) (ix : List Nat) (a v : Nat) : Option State :=
  match k.id, ix with
  | .NOC_CTRL, _ => some (s.ctrlWrite m k ix a v 8 [])
  | .NOC_EPOCH, _ =>
    let t := s.writeLive NOC_EPOCH_EPOCH_US (min 1024 (fv v 0 16))
    some (if isOne v 31 then t.nocSwap else t)
  | .NOC_ROUTER_CTRL, [r] =>
    some (match fv v 0 3 with | 1 => s.routerReelIn r | 2 => s.routerPayOut r | _ => s)
  | .NOC_PORT_CTRL, [r, p] =>
    let t := if isTenantPort r p then
        (s.writeLive (NOC_PORT_CTRL_CREDIT_LIM r p) (max 64 (fv v 16 16))).vcmaskWrite r p (fv v 8 4)
      else s
    some (match fv v 0 3 with
      | 1 => t.portReelIn r p | 2 => t.portPayOut r p | 3 => t.portUnfence r p | _ => t)
  | .NOC_ROUTE, [r, t, d] =>
    some (if s.setWritable t then s.setF (NOC_ROUTE_OUT r t d) (fv v 0 3) else s.setF NOC_STATUS_ERR 4)
  | .NOC_SLOT, [r, t, o, j] =>
    some (if s.setWritable t then s.setFs [(NOC_SLOT_VALID r t o j, fv v 31 1), (NOC_SLOT_IN_PORT r t o j, fv v 0 5)]
      else s.setF NOC_STATUS_ERR 4)
  | _, _ => none

/-- A DMA channel register (08 R211): `late` says that the engine's program writes it in the same cycle; the program's write lands
and this one is dropped and logged. -/
def State.dmaMgmtWrite (s : State) (m : Master) (e c i a v late : Nat) : State :=
  if late = 1 then s.dropWrite m .badCode a else s.dmaRegWrite e c i v

/-- ENG (08, 09). `aux` is the number of cycles of a STEP; for a DMA channel register 1 says that the engine's program writes the
register in the same cycle (R211). -/
def State.engAct (s : State) (m : Master) (k : RegKind) (ix : List Nat) (a v aux : Nat) : Option State :=
  match k.id, ix with
  | .ENG_TRIO_CTRL, _ => some (s.ctrlWrite m k ix a v 8 [])
  | .ENG_TRIO_PWR, [t] =>
    let q := fv v 0 2
    some (if q = 3 then s.logDrop m .badCode a else (s.trioReq t q).trioMirror t)
  | .ENG_CTRL, [t, j] =>
    let e := 3 * t + j
    some (match fv v 0 4 with
      | 0 => s
      | 1 => s.engStart e
      | 2 => s.engStopTo e 0
      | 4 => s.engStep e aux
      | 8 => s.engClrregCmd e
      | _ => s.logDrop m .range a)   -- R233; the cause: log 55
  | .ENG_WDT, [t, j] => some (s.wdtWrite (3 * t + j) (fv v 31 1) (fv v 0 24))
  | .ENG_REGDATA, [t, j] => some (s.setRegdata m (3 * t + j) (fv v 0 32))
  | .ENG_STRM_CTRL, [t, j] =>
    let u := if isOne v 0 then s.flushPort (3 * t + j) 0 else s
    some (if isOne v 1 then u.flushPort (3 * t + j) 1 else u)
  | .ENG_DMA_LADDR, [t, j, c] => some (s.dmaMgmtWrite m (3 * t + j) c 0 a v aux)
  | .ENG_DMA_RADDR_LO, [t, j, c] => some (s.dmaMgmtWrite m (3 * t + j) c 1 a v aux)
  | .ENG_DMA_RADDR_HI, [t, j, c] => some (s.dmaMgmtWrite m (3 * t + j) c 2 a v aux)
  | .ENG_DMA_LEN, [t, j, c] => some (s.dmaMgmtWrite m (3 * t + j) c 3 a v aux)
  | .ENG_DMA_CTRL, [t, j, c] => some (s.dmaMgmtWrite m (3 * t + j) c 4 a v aux)
  | .ENG_DMA_STATUS, [t, j, c] => some (s.dmaMgmtWrite m (3 * t + j) c 5 a v aux)
  | _, _ => none

/-- DMC, ECC and SEC (10, 11). -/
def State.memAct (s : State) (m : Master) (k : RegKind) (ix : List Nat) (a v : Nat) : Option State :=
  match k.id, ix with
  | .DMC_GLB_CTRL, _ =>
    let t := s.ctrlWrite m k ix a v 8 []
    some (t.mapMoved (s.f DMC_GLB_CTRL_MAP) (t.f DMC_GLB_CTRL_MAP))
  | .DMC_CTRL, [n] =>
    some (match fv v 0 4 with
      | 1 => s.pcCmdReelIn n | 2 => s.pcCmdPayOut n | 3 => s.pcCmdRetrain n | 4 => s.pcCmdRecal n
      | _ => if s.pcState n = 3 ∨ s.pcState n = 5 then s.busy (DMC_STATUS_FIELD_BUSY n) else s)
  | .DMC_WQ, _ =>
    some (if fv v 8 8 ≤ fv v 0 8 ∨ 64 < fv v 8 8 then s.logDrop m .range a else s.plainWrite m k ix a v)
  | .ECC_CTRL, _ => some (s.ctrlWrite m k ix a v 8 [])
  | .ECC_SEL, _ => some (s.setF ECC_SEL_MACRO (fv v 0 20)).eccShow
  | .ECC_MCLR, _ => some (if isOne v 0 then s.eccClear else s)
  | .ECC_XP_INJ, _ =>
    let t := s.fieldsPut m k.id ix a v (k.but [31])
    some (if isOne v 31 then t.eccArm else t)
  | .ECC_SCRUB_CTRL, _ =>
    let y := min 64 (fv v 0 8)
    let t := if s.bit ECC_SCRUB_STATUS_BUSY then s.busy ECC_SCRUB_STATUS_FIELD_BUSY
      else s.setF ECC_SCRUB_CTRL_RATE_GBS y
    let t := if isOne v 31 then t.scrubGo else t
    some (if isOne v 30 then t.scrubAbort else t)
  | .SEC_CTRL, _ => some (s.ctrlWrite m k ix a v 8 [])
  | .SEC_KEYLOAD, [j] => some (s.keyload j (fv v 0 32))
  | .SEC_K_CTRL, [i] =>
    let t := s.fieldsPut m k.id ix a v (k.but [0])
    some (match fv v 0 3 with | 1 => t.ksInstall i | 2 => t.ksRetire i | 3 => t.ksResume i | _ => t)
  | _, _ => none

/-- INJ_N as it is stored: the nearer limit of the mode's range (12 R320, LNE_INJ); the field holds 8 bits. -/
def injStore (mode n : Nat) : Nat := match mode with | 2 => max 1 n | 3 => min 40 (max 4 n) | _ => n

/-- LNE and PCI (12). -/
def State.lneAct (s : State) (m : Master) (k : RegKind) (ix : List Nat) (a v : Nat) : Option State :=
  match k.id, ix with
  | .LNE_GLB_CTRL, _ =>
    let t := s.ctrlWrite m k ix a v 8 [0]
    some (if !isOne v 0 then t
      else if s.bit LNE_GLB_EQ_STATUS_LOADING then t.busy LNE_GLB_EQ_STATUS_FIELD_BUSY else t.eqReload)
  | .LNE_Q_CFG, [q] => some (s.quadCfg m q v)
  | .LNE_CTRL, [n] => some (s.laneModeWrite n v)
  | .LNE_PRBS_CTRL, [n] =>
    let t := if s.prbsAllowed n then
        (s.writeLive (LNE_PRBS_CTRL_CHK_PAT n) (fv v 3 3)).writeLive (LNE_PRBS_CTRL_GEN_PAT n) (fv v 0 3)
      else s.logDrop m .badCode a
    some (if isOne v 8 then t.prbsClr m n else t)
  | .LNE_INJ, [n] =>
    let t := s.setFs [(LNE_INJ_INJ_MODE n, fv v 8 2), (LNE_INJ_INJ_N n, injStore (fv v 8 2) (fv v 0 8))]
    some (if isOne v 31 then t.injGo n else t)
  | .LNE_SLIP, [n] =>
    let t := if isOne v 0 then s.slip m n else s
    some (if isOne v 1 then t.snap n else t)
  | .PCI_EP_CTRL, [e] => some (if fv v 0 1 = s.f (PCI_EP_CTRL_LINK_DIS e) then s else s.linkDis e (fv v 0 1))
  | _, _ => none

/-- MIR (13). -/
def State.mirAct (s : State) (m : Master) (k : RegKind) (ix : List Nat) (a v : Nat) : Option State :=
  match k.id, ix with
  | .MIR_CTRL, _ =>
    let t := s.ctrlWrite m k ix a v 8 [0]
    some (match fv v 0 3 with | 1 => t.mirStart | 2 => t.mirStop | 3 => t.selfFail | _ => t)
  | .MIR_EPOCH, _ =>
    some (s.mirLive [(MIR_EPOCH_ACK_LIM_MS, fv v 24 8), (MIR_EPOCH_LOG_MAX, min 64 (max 1 (fv v 16 8))),
      (MIR_EPOCH_EPOCH_US, min 20000 (max 250 (fv v 0 16)))])
  | .MIR_KEY, [j] => some (s.mirKeyWrite j (fv v 0 32))
  | .MIR_PL_CFG, [j] =>
    let l := fv v 16 8
    let t := if s.quietBusy k.id ix then s.quietRefused k.id ix
      else s.setF (MIR_PL_CFG_LEASE j) l
    let t := if fv v 30 2 = s.f (MIR_PL_CFG_MODE j) then t else t.plModeWrite j (fv v 30 2)
    some (match fv v 0 4 with | 1 => t.plGive j | 2 => t.plReseed j | _ => t)
  | .MIR_RGN, [r] => some (s.mirRgnWrite m r (fv v 30 2) (fv v 24 4) (fv v 16 6))
  | _, _ => none

/-- The pad fields of a pin (16 R424): no write to a locked pin is taken. -/
def State.padWrite (s : State) (m : Master) (k : RegKind) (ix : List Nat) (n a v : Nat) : State :=
  if s.pinLocked n then s.dropWrite m .bootLocked a
  else (s.mapWrite n (fv v 15 1) n).fieldsPut m k.id ix a v (k.but [15])

/-- The management outputs (16 R414). -/
def State.outWrite (s : State) (m : Master) (k : RegKind) (ix : List Nat) (w a v : Nat) : State :=
  ((s.fieldsPut m k.id ix a v k.fields).shareAll ((List.range 32).map (32 * w + ·))).padNote

/-- GPIO (16). A write to the block that is not the next one of a lock sequence aborts the sequence (R422). `aux` is the core
that writes. -/
def State.gpioAct (s : State) (m : Master) (k : RegKind) (ix : List Nat) (a v aux : Nat) : Option State :=
  match k.id, ix with
  | .GPIO_LOCK, _ =>
    some (if fv v 16 16 = 0x4C4B then s.lockArm m (fv v 0 16) aux
      else if fv v 16 16 = 0xB4B4 then s.lockCommit (fv v 0 16)
      else s.lockAbort)
  | .GPIO_LOCK_MASK, _ => some (s.lockMask (fv v 0 32))
  | id, ix =>
    let s := s.lockAbort
    match id, ix with
    | .GPIO_CTRL, _ => some (s.ctrlWrite m k ix a v 8 [])
    | .GPIO_PIN_PAD, [n] => some (s.padWrite m k ix n a v)
    | .GPIO_XP_PAD, [n] =>
      some (if s.pinLocked n then s.dropWrite m .bootLocked a
        else { s with xover := if s.xover.contains a then s.xover else a :: s.xover }.fieldsPut m k.id ix a v k.fields)
    | .GPIO_PIN_STATUS, [n] => some ((s.plainWrite m k ix a v).shareCheck n)
    | .GPIO_OUT, [w] | .GPIO_OE, [w] => some (s.outWrite m k ix w a v)
    | _, _ =>
      match srcAt a with
      | some i => some (s.mapRegWrite m a i v)
      | none => some (s.plainWrite m k ix a v)

/-- DBG and BST (17). -/
def State.dbgAct (s : State) (m : Master) (k : RegKind) (ix : List Nat) (a v : Nat) : Option State :=
  match k.id, ix with
  | .DBG_CTRL, _ =>
    let t := (s.ctrlWrite m k ix a v 8 [2]).dbgEval
    some (if isOne v 2 then t.setToken false else t)
  | .DBG_AUTH_CMD, _ => some (if isOne v 0 then s.authGo else s)
  | .DBG_PMC_SEL, [i] => some (s.pmcWrite i v)
  | .DBG_BR_RAISE, _ => some ((s.brRaiseMask (fv v 0 16)).brDeliver [])
  | .DBG_BR_STATE, _ => some (s.brClear (fv v 0 16))
  | .BST_CTRL, _ => some (s.ctrlWrite m k ix a v 8 [])
  | .BST_XP_CMD, _ =>
    some (if isOne v 31 then s.bstGo (fv v 20 2) (fv v 0 20) else s.fieldsPut m k.id ix a v (k.but [31]))
  | _, _ => none

/-- FAB (02). -/
def State.fabAct (s : State) (m : Master) (k : RegKind) (ix : List Nat) (a v : Nat) : Option State :=
  match k.id, ix with
  | .FAB_DIE_CTRL, _ => some (s.ctrlWrite m k ix a v 8 [])
  | .FAB_ROSC_CTRL, [d, n] =>
    let t := s.roscFreq d n (fv v 16 9)
    some (if fv v 0 1 = s.f (FAB_ROSC_CTRL_EN d n) then t
      else if isOne v 0 then t.roscEnable d n else t.roscDisable d n)
  | .FAB_ROSC_TRIM, [d, n] => some (s.roscTrim d n (fv v 0 8))
  | .FAB_FL_CTRL, [d] =>
    some (s.flStart d (fv v 8 6) (fv v 0 2))
  | .FAB_FL_BUF, [d, j] => some (if s.bit (FAB_FL_STATUS_BUSY d) then s else s.setF (FAB_FL_BUF_WORD d j) (fv v 0 32))
  | .FAB_SP_CTRL, [d, p] =>
    let c := fv v 8 4
    let t := if s.quietBusy k.id ix then s.quietRefused k.id ix
      else State.fieldsPut (if 1 ≤ c ∧ c ≤ 7 then s.logDrop m .badCode a
        else s.fieldsPut m k.id ix a v (k.fields.filter fun f => f.lo = 8)) m k.id ix a v (k.fields.filter fun f => f.lo = 4)
    some (if fv v 0 1 = s.f (FAB_SP_CTRL_EN d p) then t
      else if isOne v 0 then t.spEnable d p else t.spDisable d p)
  | .FAB_SP_RATE, [d, p] =>
    let y := spRate (s.f (FAB_SP_CTRL_MODE d p)) (fv v 0 20)
    some (if s.quietBusy k.id ix then s.quietRefused k.id ix else s.setF (FAB_SP_RATE_RATE_KHZ d p) y)
  | .FAB_SP_DIV, [_, _] =>
    some (if s.quietBusy k.id ix then s.quietRefused k.id ix
      else { s with xover := if s.xover.contains a then s.xover else a :: s.xover }.fieldsPut m k.id ix a v k.fields)
  | .FAB_SP_DATA, [d, p] => some (if isOne v 8 then s.spRead d p else s.spPush d p (fv v 0 8))
  | .FAB_RGN_ENV_CTRL, [d, i] =>
    let r := 8 * d + i
    let t := (s.setF (FAB_RGN_ENV_CTRL_SEAM_BLOCK d i) (fv v 0 1)).seams r
    let F := FAB_RGN_ENV_CTRL_PARK_ZERO d i
    some (if fv v 1 1 = s.f F then t
      else if s.envStep r = 5 then t.setF F (fv v 1 1) else t.writeLive F (fv v 1 1))
  | .FAB_RGN_CLKT, [d, i, t] =>
    let n := 2 * (8 * d + i) + t
    let u := if fv v 0 3 = s.f (FAB_RGN_CLKT_SRC d i t) then s else s.treeSrcWrite m n (fv v 0 3)
    some (if fv v 7 1 = s.f (FAB_RGN_CLKT_EN d i t) then u else u.treeEnWrite n (fv v 7 1))
  | .FAB_RGN_TAP, [d, i, j] =>
    let n := 2 * (8 * d + i) + j / 8
    let t := s.fieldsPut m k.id ix a v (k.but [1])
    some (if fv v 1 1 = s.f (FAB_RGN_TAP_XSEL d i j) then t else t.xselWrite n (j % 8) (fv v 1 1))
  | _, _ => none

/-- The effect of a write that the access check lets through, by the register's block. -/
def State.regAct (s : State) (m : Master) (k : RegKind) (ix : List Nat) (a v aux : Nat) : State :=
  let x := match blockOf a with
    | some .HUB => s.hubAct m k ix a v
    | some .PWR | some .CLK => s.clkAct m k ix a v
    | some .CFG => s.cfgAct m k ix a v
    | some .CMX => s.cmxAct m k ix a v
    | some .NOC => s.nocAct m k ix a v
    | some .ENG => s.engAct m k ix a v aux
    | some .DMC | some .ECC | some .SEC => s.memAct m k ix a v
    | some .LNE | some .PCI => s.lneAct m k ix a v
    | some .MIR => s.mirAct m k ix a v
    | some .GPIO => s.gpioAct m k ix a v aux
    | some .DBG | some .BST => s.dbgAct m k ix a v
    | some .FAB => s.fabAct m k ix a v
    | none => none
  (match arbOf k.id ix, x with
    | some b, _ => s.arbCtrl b v
    | none, some t => t
    | none, none => s.plainWrite m k ix a v).xsweep

/-! ## A write at a management address -/

/-- A range of HBM that the hub's own accesses must not touch (04 R111; 13 R336; 17 R433). -/
def State.hbmFenced (s : State) (a n : Nat) : Bool := s.goldHit a n || s.mirHit a n || s.ringHit a n

/-- A write of HBM by a master, with LEASE 0x00 and KV 0: 4 bytes, aligned (R5). -/
def State.rawWrite (s : State) (m : Master) (a v : Nat) : State :=
  if m = .debug ∧ s.f DBG_STATUS_LEVEL < 2 then s.answer .err
  else if a % 4 ≠ 0 then (s.logDrop m .align a).answer .err
  else if s.hbmFenced a 4 then (s.logDrop m .range a).answer .err
  else
    let r := s.hubWrite a (leBytes 4 v)
    r.1.answer (if r.2 = stOk then .ok 0 else .err)

/-- A write of `n` bytes at address `a` by master `m` (R5, R25, R27, R28, R396). -/
def State.mgmtWrite (s : State) (m : Master) (a v n aux : Nat) : State :=
  match m with
  | .tenant l _ => s.refuse m a (.denied l)
  | _ =>
    if isHbm a then s.rawWrite m a v
    else match blockOf a with
    | none => s.answer .err
    | some b =>
      if b = .FAB ∧ dieIsolated s ((a - 0xF010000000) / 0x1000000) then s.answer .err
      else if n ≠ 4 ∨ a % 4 ≠ 0 then (s.logDrop m .align a).answer .err
      else match decodeReg a with
      | none => s.answer (.ok 0)
      | some (k, ix) =>
        match k.id, ix with
        | .HUB_ATTN, _ => s.sharedWrite m a false fun s => s.attnPush m v
        | .MBX_H2F_DB, [fn] => s.sharedWrite m a false fun s => s.doorbell fn v
        | .HUB_LC_CMD, _ => s.lcWrite m (fv v 0 4) (fv v 4 2)
        | .DBG_STIM, [g] => s.dbgStim m aux g v
        | _, _ =>
          match s.gate m a with
          | .pass =>
            let s := s.answer (.ok 0)
            if k.expert && !s.xpOn a then s.logDrop m .expert a
            else s.regAct m k ix a v aux
          | g => s.refuse m a g

/-- REGISTER_WRITE: a 4-byte write. `aux` is the core that writes, where a core's number matters, or the cycles of an engine's
STEP. -/
def execRegisterWrite (m : Master) (a v aux : Nat) (s : State) : Host.Outcome State Fault Refusal :=
  .next (s.mgmtWrite m a v 4 aux)

/-! ## LIVE fields at their safe boundaries (R10) -/

/-- Fields whose safe boundary is a command of its own: nothing else makes them take effect. -/
def ownBoundary (id : RegId) (lo : Nat) : Bool :=
  match id, lo with
  | .MIR_PL_CFG, _ | .MIR_RGN, _ | .MIR_EPOCH, _ | .NOC_EPOCH, _ | .CLK_PLL_CFG, _ | .CMX_XR, _ | .FAB_RGN_ENV_CTRL, _
  | .NOC_ROUTE, _ | .NOC_SLOT, _
  | .GPIO_RMAP, _ | .GPIO_SMAP, _ | .GPIO_TMAP, _ => true
  | .GPIO_CKMAP, 31 | .GPIO_CKMAP, 0 | .GPIO_PIN_PAD, 15 | .CFG_CTRL, 8 => true
  | _, _ => false

/-- The boundary of a tree's EN does not come while the tree's source does not run (02 R47). -/
def State.noEdge (s : State) (id : RegId) (ix : List Nat) (lo : Nat) : Bool :=
  match id, ix with
  | .FAB_RGN_CLKT, [d, i, t] => decide (lo = 7) && !s.treeEdge (2 * (8 * d + i) + t)
  | _, _ => false

/-- The safe boundary of the field at bit `lo` of the register at `a`. -/
def State.liveApply (s : State) (a lo : Nat) : State :=
  match decodeReg a with
  | none => s
  | some (k, ix) =>
    match fieldAt k.fields lo with
    | none => s
    | some f =>
      if f.cls = .live ∧ ownBoundary k.id lo ∨ f.cls = .quiet ∧ s.quietBusy k.id ix ∨ s.noEdge k.id ix lo then s
      else
        let old := s.eff DBG_TRC_CTRL_OUT
        let s := (if k.id = .GPIO_PIN_PAD then s.padNote else s).applyLive ⟨a, f.lo, f.w⟩
        match k.id, ix with
        | .DBG_BR_CORE, _ | .DBG_BR_ENG, _ | .DBG_BR_RGN, _ => if lo = 16 then s.haltOnApplied a else s
        | .DBG_TRC_CTRL, _ => if lo = 0 then s.outApplied old else s
        | .LNE_XP_EQ_CTRL, [n] | .LNE_XP_EQ_W, [n, _] => s.laneOverride n
        | _, _ => s

/-- LIVE_FIELD_APPLY. QUIET fields that wait for an idle block are looked at as well. -/
def execLiveFieldApply (a lo : Nat) (s : State) : Host.Outcome State Fault Refusal := .next (s.xsweep.liveApply a lo)

end Sys2Proof.Machine
end

