-- ==== Sys2Proof/Machine/MgmtRead.lean ====
section
/-! DEFINITION. A read of a management register (00 R5, R6, R9), and the accesses of the SMBus slave (15 R407, R408) and of the
debug port (17 R428). -/

namespace Sys2Proof.Machine
open Reg

/-! ## What a register shows -/

/-- The current value of the HI half that a read of a LO register latches, with the HI register's address. -/
def State.hiOf (s : State) (id : RegId) (ix : List Nat) : Option (Nat × Nat) :=
  match id, ix with
  | .NOC_TIME, [0] => some (NOC_TIME 1, s.nocTime / 2 ^ 32 % 2 ^ 32)
  | .DBG_PMC_LO, [k] => some (DBG_PMC_HI k, s.f (DBG_PMC_HI_COUNT k))
  | .LNE_PRBS_ERRS_LO, [n] => some (LNE_PRBS_ERRS_HI n, s.f (LNE_PRBS_ERRS_HI_COUNT n))
  | .LNE_PRBS_BITS_LO, [n] => some (LNE_PRBS_BITS_HI n, s.f (LNE_PRBS_BITS_HI_COUNT n))
  | .MIR_SEQ_TX_LO, _ => some (MIR_SEQ_TX_HI, s.f MIR_SEQ_TX_HI_SEQ)
  | .MIR_SEQ_RX_LO, _ => some (MIR_SEQ_RX_HI, s.f MIR_SEQ_RX_HI_SEQ)
  | _, _ => none

/-- Registers whose value the state holds elsewhere than in their fields. -/
def State.regSpecial (s : State) (id : RegId) (ix : List Nat) (a : Nat) : Option Nat :=
  match id, ix with
  | .FEAT_CAP, [k] => some (s.featCap k)
  | .HUB_DROPLOG_ADDR, _ => some s.dropAddr
  | .HUB_DROPLOG_INFO, _ => some s.dropInfo
  | .HUB_ATTN_POP, _ => some s.attnHead
  | .HUB_ATTN_SRC, _ => some s.attnSrc
  | .HUB_EVQ, [k] => some (s.evqWord k)
  | .NOC_TIME, [0] => some (s.nocTime % 2 ^ 32)
  | .NOC_TIME, _ => some (s.nocTime / 2 ^ 32 % 2 ^ 32)
  | .GPIO_PIN_STATUS, [n] => some (s.pinStatus n)
  | .GPIO_IN, [w] => some (s.pinsIn w)
  | .GPIO_XP_PAD, [n] =>
    if s.xover.contains a then none
    else some (Config.padCode 0 (s.eff (GPIO_PIN_PAD_DRIVE n)) % 64 * 64 + Config.padCode 1 (s.eff (GPIO_PIN_PAD_DRIVE n)) % 64)
  | .FAB_SP_DIV, [d, p] =>
    if s.xover.contains a then none
    else some (Config.spDiv (s.f (FAB_SP_CTRL_MODE d p)) (s.f (FAB_SP_RATE_RATE_KHZ d p)) % 2 ^ 16)
  | .FAB_SP_DATA, [d, p] =>
    some (if s.spMgmt d p then (match (s.serialAt d p).rx.head? with | some b => b.toNat | none => 0) else 0)
  | .BST_MAPQ, _ => some s.mapqWord
  | .CFG_UPSET_INFO, _ => some s.upsetInfo
  | .ECC_NOTIFY, _ => some s.notifyWord
  | .ENG_REGDATA, [t, j] => some (s.regdata (3 * t + j) (s.f (ENG_REGSEL_NUM t j)))
  | _, _ => none

/-- The value of the register: reserved bits read 0, and so do write-only fields (R4, R6). -/
def State.regShow (s : State) (k : RegKind) (ix : List Nat) (a : Nat) : Nat :=
  match s.regSpecial k.id ix a with
  | some v => v
  | none =>
    let w := s.regWord a (k.fields.filter fun f => f.ty ≠ .wo)
    if k.id = .DBG_TRC_STATUS then w - s.f DBG_TRC_STATUS_RUN + b2n s.trcRun else w

/-! ## What a read does (R6, R9) -/

/-- RC fields are cleared. -/
def State.rcClear (s : State) (a : Nat) (fs : List FieldSpec) : State :=
  fs.foldl (fun t f => if f.ty = .rc then t.setF ⟨a, f.lo, f.w⟩ 0 else t) s

/-- Queues that the read of their register pops. -/
def State.readPop (s : State) (id : RegId) (ix : List Nat) : State :=
  match id, ix with
  | .HUB_DROPLOG_INFO, _ => s.dropPop
  | .HUB_ATTN_POP, _ => s.attnPop
  | .HUB_EVQ, [3] => s.evqPop
  | .CFG_UPSET_INFO, _ => s.upsetPop
  | .ECC_NOTIFY, _ => s.notifyPop
  | .SEC_LOG_INFO, [e] => s.secPop e
  | .FAB_SP_DATA, [d, p] => if s.spMgmt d p then s.setSerial d p { s.serialAt d p with rx := (s.serialAt d p).rx.drop 1 } else s
  | .GPIO_IN, _ | .GPIO_PIN_STATUS, _ => s.freeNext
  | _, _ => s

/-- The read of a register: its value, and the state after. -/
def State.regRead (s : State) (k : RegKind) (ix : List Nat) (a : Nat) (peek : Bool) : State × Nat :=
  let l := nget s.latch a
  let v := if l = 0 then s.regShow k ix a else l - 1
  if peek then (s, v)
  else
    let s := if l = 0 then s else { s with latch := nput s.latch a 0 }
    let s := match s.hiOf k.id ix with
      | some (h, x) => { s with latch := nput s.latch h (x + 1) }
      | none => s
    ((s.rcClear a k.fields).readPop k.id ix, v)

/-- A read of HBM by a master, with LEASE 0x00 and KV 0. -/
def State.rawRead (s : State) (m : Master) (a : Nat) : State :=
  if m = .debug ∧ s.f DBG_STATUS_LEVEL < 2 then s.answer .err
  else if a % 4 ≠ 0 then (s.logDrop m .align a).answer .err
  else if s.hbmFenced a 4 then (s.logDrop m .range a).answer .err
  else
    let r := s.hubRead a 4
    r.1.answer (if r.2.1 = stOk then .ok (leNat r.2.2) else .err)

/-- A read of `n` bytes at address `a` by master `m` (R5, R25, R27, R28). A read of the debug port is a peek (R9). -/
def State.mgmtRead (s : State) (m : Master) (a n : Nat) (peek : Bool) : State :=
  let s := s.xsweep
  match m with
  | .tenant l _ => s.refuse m a (.denied l)
  | _ =>
    if isHbm a then s.rawRead m a
    else match blockOf a with
    | none => s.answer .err
    | some b =>
      if b = .FAB ∧ dieIsolated s ((a - 0xF010000000) / 0x1000000) then s.answer .err
      else if n ≠ 4 ∨ a % 4 ≠ 0 then (s.logDrop m .align a).answer .err
      else match decodeReg a with
      | none => s.answer (.ok 0)
      | some (k, ix) =>
        let r := s.regRead k ix a (peek || decide (m = .debug))
        r.1.answer (.ok r.2)

/-- RC_READ: a read of a register, at which its RC fields are returned and cleared. -/
def execRcRead (m : Master) (a : Nat) (s : State) : Host.Outcome State Fault Refusal := .next (s.mgmtRead m a 4 false)

/-! ## SMBus (15 R407, R408) -/

/-- The slave serves its full command set: no reset pin is low and no trip holds the device. -/
def State.smbFull (s : State) : Bool := s.pins.porN && s.pins.resetN && s.pins.thermTripN

/-- What 0x10 may read while the device is held. -/
def smbHeldReg (a : Nat) : Bool := decide (a = HUB_ID ∨ a = HUB_SUPPLY ∨ blockOf a = some .PWR)

/-- Data and status of an answer: 0 OK, 1 ERR. -/
def Resp.smbBytes : Resp → List Byte
  | .ok v => leBytes 4 v ++ [0]
  | _ => leBytes 4 0 ++ [1]

/-- 0x10. -/
def State.smbRead (s : State) (a : Nat) : State :=
  if !s.smbFull ∧ !smbHeldReg a then s.answer (.bytes (leBytes 4 0 ++ [2]))
  else
    let t := s.mgmtRead .board a 4 false
    t.answer (.bytes t.resp.smbBytes)

def execSmbProcessRead (a : Nat) (s : State) : Host.Outcome State Fault Refusal := .next (s.smbRead a)

/-- A write that the access check refused (R396), or that got an error response: status 1. -/
def smbStatus (g : Gate) (r : Resp) : Nat :=
  match g, r with
  | .pass, .err => 1
  | .pass, _ => 0
  | _, _ => 1

/-- 0x11. A write with a bad PEC is discarded when SMB_PEC is accepted. -/
def State.smbWrite (s : State) (a v : Nat) (pecOk : Bool) : State :=
  if s.feature 35 ∧ !pecOk then s
  else if !s.smbFull then { s with smb := 2 }
  else
    let shared := decide (a = HUB_ATTN) || (match decodeReg a with | some (k, _) => decide (k.id = .MBX_H2F_DB) | none => false)
    let g := if shared ∨ isHbm a ∨ (decodeReg a).isNone then Gate.pass else s.gate .board a
    let t := s.mgmtWrite .board a v 4 0
    { t with smb := smbStatus g t.resp }

def execSmbBlockWrite (a v : Nat) (pecOk : Bool) (s : State) : Host.Outcome State Fault Refusal := .next (s.smbWrite a v pecOk)

/-- 0x12. -/
def State.smbEvent (s : State) : State :=
  match s.ev.board with
  | [] => s.answer (.bytes [])
  | r :: t => { s with ev := { s.ev with board := t } }.answer (.bytes r.toBytes)

def execSmbEventRead (s : State) : Host.Outcome State Fault Refusal := .next s.smbEvent

/-- 0x13. -/
def State.smbStatusBytes (s : State) : List Byte :=
  leBytes 4 s.supplyWord ++ leBytes 1 s.lcState ++ leBytes 1 (s.bootStatusWord % 256) ++ leBytes 1 s.smb
    ++ leBytes 1 s.ev.board.length

def execSmbStatusRead (s : State) : Host.Outcome State Fault Refusal := .next (s.answer (.bytes s.smbStatusBytes))

/-- The Alert Response Address is answered while SMB_ALERT_N is low: while the board queue holds a record. -/
def execSmbAra (s : State) : Host.Outcome State Fault Refusal :=
  .next (if s.ev.board.isEmpty then s else { s with out := s.out ++ [.alertAddress (s.f HUB_XP_SMB_ADDR)] })

/-- SMB_TIMEOUT: the slave releases the bus and is reset (18 R462). It holds no state of its own between transfers. -/
def execSmbTimeout (s : State) : Host.Outcome State Fault Refusal := .next s

/-! ## The debug port (17 R428) -/

/-- STATUS of an access whose answer is `r`: 0 OK, 2 ERR. -/
def Resp.dbgStatus : Resp → Nat
  | .err => 2
  | _ => 0

def State.accEnd (s : State) (st v : Nat) : State := s.updDbg fun d => { d with accStatus := st, accData := v }

/-- An access that the level does not allow is not forwarded. -/
def State.dbgAccess (s : State) (op a v : Nat) : State :=
  let s := s.tapSelect 0x10 1
  if s.dbg.ir ≠ 0x10 ∨ op = 0 ∨ 3 ≤ op then s
  else if isHbm a ∧ s.f DBG_STATUS_LEVEL < 2 then s.accEnd 3 0
  else if op = 1 then
    let t := s.mgmtRead .debug a 4 true
    t.accEnd t.resp.dbgStatus (match t.resp with | .ok x => x | _ => 0)
  else
    let t := s.mgmtWrite .debug a v 4 0
    t.accEnd t.resp.dbgStatus 0

/-- DBG_ACCESS: Update-DR with OP 1 read, 2 write, 0 and 3 none. -/
def execDbgAccess (op a v : Nat) (s : State) : Host.Outcome State Fault Refusal := .next (s.dbgAccess op a v)

end Sys2Proof.Machine
end

