-- ==== Sys2Proof/Machine/Pcie.lean ====
section
/-! DEFINITION. Requests through the PCIe endpoints (12 R322 to R329; 15 R399, R404, R405): inbound memory requests and their
completions, outbound requests through the windows, configuration requests. -/

namespace Sys2Proof.Machine
open Reg

/-! ## Functions -/

/-- Endpoint e serves the function now: while the rip panel is engaged, endpoint A serves its physical function only (R405). -/
def State.pciServes (s : State) (e fn : Nat) : Bool :=
  s.funcEnabled e fn && (!s.bit CFG_BOOT_STATUS_RIP || decide (e = 0 ∧ fn = 0))

/-- The function of a key of endpoint e. -/
def keyFunc (k : Nat) : Nat := if k = 128 then 0 else k

/-! ## The mailbox window as the host sees it (R399) -/

def mbxAt (fn off : Nat) : Nat := 0xF000100000 + 0x10000 * fn + off

/-- MSI-X table words of a function: 64 entries for the physical function, 8 for a virtual one. -/
def msixWords (fn : Nat) : Nat := if fn = 0 then 256 else 32

/-- The host writes a word of an MSI-X table: a pending message of a vector that is no longer masked is sent. -/
def State.msixTableWrite (s : State) (fn j v : Nat) : State :=
  if msixWords fn ≤ j then s
  else
    let s := s.setF (MBX_MSIX_WORD fn j) v
    if s.pba fn (j / 4) ∧ !s.msixMasked fn (j / 4) then (s.setPba fn (j / 4) false).msix fn (j / 4) else s

/-- A 32-bit host write: registers that the host may not write ignore it. -/
def State.mbxHostWrite (s : State) (fn off v : Nat) : State :=
  match decodeReg (mbxAt fn off) with
  | some (k, ix) =>
    match k.id, ix with
    | .MBX_H2F_DB, _ => s.sharedWrite .host (MBX_H2F_DB fn) false fun s => s.doorbell fn (fv v 0 16)
    | .MBX_F2H_CI, _ => s.setF (MBX_F2H_CI_CI fn) (fv v 0 16)
    | .MBX_EVT_CI, _ => s.setF (MBX_EVT_CI_CI fn) (fv v 0 16)
    | .MBX_STATUS, _ => if isOne v 2 then s.setF (MBX_STATUS_DB_ERR fn) 0 else s
    | .MBX_H2F_RING, [_, j] => s.setF (MBX_H2F_RING_WORD fn j) v
    | .MBX_MSIX, [_, j] => s.msixTableWrite fn j v
    | _, _ => s
  | none => s

/-- What the host reads: MBX_H2F_DB is write-only to it, and a virtual function has no more than 8 MSI-X entries. -/
def State.mbxHostRead (s : State) (fn off : Nat) : Nat :=
  match decodeReg (mbxAt fn off) with
  | some (k, ix) =>
    match k.id, ix with
    | .MBX_H2F_DB, _ => 0
    | .MBX_MSIX, [_, j] => if msixWords fn ≤ j then 0 else s.f (MBX_MSIX_WORD fn j)
    | .MBX_PBA, [_, j] => if fn ≠ 0 ∧ j ≠ 0 then 0 else s.f (MBX_PBA_WORD fn j)
    | _, _ => s.regShow k ix (mbxAt fn off)
  | none => 0

/-! ## Inbound requests (R325, R326) -/

/-- Where an access to a BAR goes: kind and device address; none where the function has no such BAR or the access leaves it. -/
def State.barAt (s : State) (fn bar off n : Nat) : Option (Nat × Nat) :=
  match fn, bar with
  | 0, 0 => if off + n ≤ 2 ^ 29 then some (0, 0xF000000000 + off) else none
  | 0, 2 => if off + n ≤ 2 ^ 36 then
      some (2, (if s.bit CFG_BOOT_STATUS_RIP then 0 else s.eff PCI_PF_HBMWIN_BASE_GIB * 2 ^ 30) + off) else none
  | 0, 4 => if off + n ≤ 2 ^ 16 then some (1, off) else none
  | 0, _ => none
  | r + 1, 0 => if off + n ≤ 2 ^ 30 then some (2, s.eff (PCI_VF_WIN_BASE_64M r) * 2 ^ 26 + off) else none
  | _, 2 => if off + n ≤ 2 ^ 16 then some (1, off) else none
  | _, _ => none

def State.complete (s : State) (e fn tag : Nat) (st : Cpl) (d : List Byte) : State :=
  { s with out := s.out ++ [.completion e fn tag st d] }

/-- Completion status of a NoC status (R326). -/
def cplOf (st : Nat) : Cpl :=
  if st = stOk then .sc else if st = stPoison then .poisoned else if st = stDenied ∨ st = stUnreach then .ur else .ca

/-- Blocks in the order of their offsets. -/
def sortBlocks (n : Nat) (l : List (Nat × Nat × List Byte)) : List (Nat × Nat × List Byte) :=
  (List.range n).filterMap fun o => l.find? fun x => x.1 = o

/-- Bytes of an open value. -/
def State.freeBytes (s : State) (k : Nat) : List Byte := (List.range k).map fun i => BitVec.ofNat 8 (Config.freeValue (s.freeCtr + i))

/-- Completions of a read of `len` bytes at `a`, in address order; one that is not data ends the read. A block answered POISON has
no data on the NoC (06 R158): what its poisoned completion carries is open. -/
def State.completeAll (s : State) (e fn tag a len : Nat) : List (Nat × Nat × List Byte) → State
  | [] => s
  | (o, st, d) :: t =>
    match cplOf st with
    | .sc => (s.complete e fn tag .sc d).completeAll e fn tag a len t
    | .poisoned =>
      let k := min (len - o) (512 - (a + o) % 512)
      ({ s with freeCtr := s.freeCtr + k }.complete e fn tag .poisoned (s.freeBytes k)).completeAll e fn tag a len t
    | c => s.complete e fn tag c []

/-- Every block of the request has been answered: a failed write is counted, a read gets its completions. -/
def State.inDone (s : State) (e fn : Nat) (x : Inbound) : State :=
  if x.wr then
    if x.got.any fun g => g.2.1 ≠ stOk then s.count (PCI_EP_STATUS_WR_FAIL e) 1 else s
  else if x.lost then s else s.completeAll e fn x.tag x.addr x.len (sortBlocks x.len x.got)

/-- The status of a management access. -/
def Resp.nocStatus : Resp → Nat
  | .err => stErr
  | _ => stOk

/-- A register or mailbox access: 32 bits, aligned, every byte enabled (00 R5). -/
def State.inLocal (s : State) (fn : Nat) (x : Inbound) : State × Inbound :=
  let n := if x.be.all id then x.len else 0
  let y := { x with next := x.len }
  if x.kind = 0 then
    let t := if x.wr then s.mgmtWrite .host x.addr (leNat x.data) n 0 else s.mgmtRead .host x.addr n false
    (t, { y with got := [(0, t.resp.nocStatus, match t.resp with | .ok v => leBytes 4 v | _ => [])] })
  else if n ≠ 4 ∨ x.addr % 4 ≠ 0 then (s.logDrop .host .align (mbxAt fn x.addr), { y with got := [(0, stErr, [])] })
  else if x.wr then (s.mbxHostWrite fn x.addr (leNat x.data), { y with got := [(0, stOk, [])] })
  else (s, { y with got := [(0, stOk, leBytes 4 (s.mbxHostRead fn x.addr))] })

/-- The lowest tag that no request of the node uses. -/
def State.freeTag (s : State) (node : Nat) : Nat :=
  let l := s.dueOf node
  ((List.range 65).find? fun t => l.all fun p => p.tag ≠ t).getD 0

/-- Send the blocks of a request that its port has room for (R325; 06 R160, R163): none crosses a 512-byte boundary. A virtual
function whose region has no lease reaches nothing. -/
def State.inSend (s : State) (e fn : Nat) : Nat → Inbound → State × Inbound
  | 0, x => (s, x)
  | m + 1, x =>
    let node := pcieNode e
    if x.len ≤ x.next ∨ 64 ≤ (s.dueOf node).length ∨ s.f (NOC_PORT_STATUS_STATE (nodeRouter node) (nodePort node)) ≠ 1 then (s, x)
    else
      let a := x.addr + x.next
      let n := min (x.len - x.next) (512 - a % 512)
      let l := s.funcLease fn
      if fn ≠ 0 ∧ l = 0 then
        (s.count (NOC_PORT_STATUS_DENIED (nodeRouter node) (nodePort node)) 1).inSend e fn m
          { x with next := x.next + n, got := (x.next, stDenied, []) :: x.got }
      else
        let tag := s.freeTag node
        let p : Packet := ⟨noNode, node, if x.wr then opcWrite else opcRead, tag, l, a, n - 1, 0, 0, 0, false, 0, false, 0,
          (x.data.drop x.next).take n, (x.be.drop x.next).take n⟩
        (s.sendRequest p).inSend e fn m { x with next := x.next + n, due := (tag, x.next) :: x.due }

/-- Go on with a request whose turn it is; none when it is over. -/
def State.inStep (s : State) (e fn : Nat) (x : Inbound) : State × Option Inbound :=
  let r := if x.kind = 2 ∨ x.next ≠ 0 then s.inSend e fn 16 x else s.inLocal fn x
  if x.len ≤ r.2.next ∧ r.2.due.isEmpty then (r.1.inDone e fn r.2, none) else (r.1, some r.2)

/-- The requests of a function in their order: a read or a write without relaxed ordering waits while an earlier write has no
response; a write with relaxed ordering does not wait. -/
def State.inGo (s : State) (e fn : Nat) (blocked : Bool) : List Inbound → State × List Inbound
  | [] => (s, [])
  | x :: t =>
    let r := if x.next ≠ 0 ∨ (x.wr ∧ x.ro) ∨ !blocked then s.inStep e fn x else (s, some x)
    let u := r.1.inGo e fn (blocked || (x.wr && r.2.isSome)) t
    (u.1, match r.2 with | some y => y :: u.2 | none => u.2)

def State.inqAt (s : State) (k : Nat) : List Inbound := SMap.get (fun _ => []) s.pci.inq k
def State.setInq (s : State) (k : Nat) (l : List Inbound) : State :=
  s.updPci fun p => { p with inq := SMap.put (fun _ => []) p.inq k l }

def State.inPump (s : State) (e k : Nat) : State :=
  let r := s.inGo e (keyFunc k) false (s.inqAt k)
  r.1.setInq k r.2

/-- Every function of endpoint e goes on. -/
def State.pciPump (s : State) (e : Nat) : State :=
  ((s.pci.inq.map (·.1)).filter (s.keyOn e)).foldl (fun t k => t.inPump e k) s

/-- The request to which a response belongs takes it. -/
def Inbound.take (x : Inbound) (r : Packet) : Inbound :=
  match x.due.find? fun d => d.1 = r.tag with
  | some d => { x with due := x.due.filter (fun d => d.1 ≠ r.tag), got := (d.2, r.status, r.data) :: x.got }
  | none => x

/-- A response arrives at endpoint e. -/
def State.pciRsp (s : State) (e : Nat) (r : Packet) : State :=
  (s.updPci fun p => { p with
    inq := p.inq.foldl (fun m x => if s.keyOn e x.1 then SMap.put (fun _ => []) m x.1 (x.2.map fun y => y.take r) else m) p.inq }).pciPump e

/-- A memory request arrives (R325); one to a function in D3hot, absent or not enabled, or outside its BARs, is unsupported. -/
def State.pciInbound (s : State) (e fn tag : Nat) (wr ro : Bool) (bar off n : Nat) (d : List Byte) (be : List Bool) : State :=
  let s := match fn, bar with
    | 0, 2 => s.applyLive PCI_PF_HBMWIN_BASE_GIB
    | r + 1, 0 => s.applyLive (PCI_VF_WIN_BASE_64M r)
    | _, _ => s
  match s.barAt fn bar off n with
  | some (kind, a) =>
    if s.pciServes e fn ∧ !s.pci.d3.contains (funcKey e fn) then
      let k := funcKey e fn
      (s.setInq k (s.inqAt k ++ [⟨tag, wr, ro, kind, a, n, d, be, 0, [], [], false⟩])).inPump e k
    else if wr then s else s.complete e fn tag .ur []
  | none => if wr then s else s.complete e fn tag .ur []

/-- PCIE_INBOUND: function `fn` (0 physical, k VFk) of endpoint e; a link that is down brings nothing. AtomicOps are answered
Unsupported Request (R322). -/
def execPcieInbound (e fn tag : Nat) (k : Tlp) (ro : Bool) (bar off n : Nat) (d : List Byte) (be : List Bool) (s : State) :
    Host.Outcome State Fault Refusal :=
  .next (if s.pciUp e then
      (if k = .atomic then s.complete e fn tag .ur [] else s.pciInbound e fn tag (decide (k = .write)) ro bar off n d be)
    else s)

/-! ## Outbound requests (R327, R348, R349) -/

/-- Runs of enabled bytes: offset and bytes. -/
def enabledRuns (o : Nat) (cur : List Byte) : List Byte → List Bool → List (Nat × List Byte)
  | [], _ => if cur.isEmpty then [] else [(o - cur.length, cur)]
  | b :: t, e :: u =>
    if e then enabledRuns (o + 1) (cur ++ [b]) t u
    else (if cur.isEmpty then [] else [(o - cur.length, cur)]) ++ enabledRuns (o + 1) [] t u
  | b :: t, [] => enabledRuns (o + 1) (cur ++ [b]) t []

/-- The last WRITE of a lease that the fence holds. -/
def State.lastHeld (s : State) (l : Nat) : Option Packet :=
  (s.heldFx ++ s.mir.fxWait).foldl (fun r h => if h.kind = 1 ∧ h.lease = l then (match h.pkt with | some p => some p | none => r) else r) none

def State.owinBase (s : State) (k : Nat) : Nat := s.eff (PCI_OWIN_LO_HBASE k) + s.eff (PCI_OWIN_HI_HBASE k) * 2 ^ 32

/-- The window's fields take effect at the next outbound request. -/
def State.owinApply (s : State) (k : Nat) : State :=
  [PCI_OWIN_LO_HBASE k, PCI_OWIN_HI_HBASE k, PCI_OWIN_CTRL_VALID k, PCI_OWIN_CTRL_EP k, PCI_OWIN_CTRL_LEASE k,
    PCI_OWIN_CTRL_FUNC k].foldl State.applyLive s

def owinOf (p : Packet) : Nat := p.addr / 2 ^ 32 % 256

/-- The host address of an outbound request. -/
def State.outAddr (s : State) (p : Packet) : Nat := s.owinBase (owinOf p) + p.addr % 2 ^ 32

/-- Why a request through its window is refused. -/
def State.outRefusal (s : State) (e : Nat) (p : Packet) : Option Nat :=
  let k := owinOf p
  let fn := s.eff (PCI_OWIN_CTRL_FUNC k)
  if !s.pciUp e ∨ s.pci.off.contains (funcKey e fn) then some stSideDown
  else if s.eff (PCI_OWIN_CTRL_VALID k) ≠ 1 ∨ s.eff (PCI_OWIN_CTRL_EP k) ≠ e ∨ s.eff (PCI_OWIN_CTRL_LEASE k) ≠ p.lease
      ∨ !s.pciServes e fn ∨ !s.pci.bm.contains (funcKey e fn) then some stDenied
  else none

/-- Non-posted requests of endpoint e that the host has not completed. -/
def State.readsAt (s : State) (e : Nat) : Nat := (s.pci.reads.filter fun x => x.2.dst = pcieNode e).length

/-- A READ leaves for the host. -/
def State.outRead (s : State) (e : Nat) (p : Packet) : State :=
  let fn := s.eff (PCI_OWIN_CTRL_FUNC (owinOf p))
  { s with out := s.out ++ [Out.tlpRead e fn (s.outAddr p) (p.bcnt + 1)] }.updPci fun c =>
    { c with reads := c.reads ++ [(funcKey e fn, p)] }

/-- A WRITE leaves, or waits in the fence buffer until its epoch is acknowledged. -/
def State.owinWrite (s : State) (e : Nat) (p : Packet) : State :=
  let fn := s.eff (PCI_OWIN_CTRL_FUNC (owinOf p))
  let a := s.outAddr p
  let runs := enabledRuns 0 [] p.data p.be
  if (s.fencePl p.lease).isSome ∧ !runs.isEmpty then
    let last := runs.length - 1
    (runs.zipIdx 0).foldl (fun t (x : (Nat × List Byte) × Nat) =>
      t.holdFx ⟨1, e, fn, p.lease, a + x.1.1, 0, s.openEpoch, x.1.2, if x.2 = last then some p else none⟩) s
  else { s with out := s.out ++ runs.map (fun (x : Nat × List Byte) => Out.tlpWrite e fn (a + x.1) x.2) }.respond p stOk []

/-- The fence holds a READ back until the WRITEs held before it have been released. -/
def State.outWaits (s : State) (p : Packet) : Option Packet :=
  if p.opc = opcRead ∧ (s.fencePl p.lease).isSome then s.lastHeld p.lease else none

/-- A request has been taken from the inbox: `full` says that the endpoint or the fence buffer has no room, so it stays. -/
def State.outServe (s : State) (e : Nat) (p : Packet) : State :=
  let rest := s.updNoc fun n => { n with inbox := dropFirst (fun q => decide (q.dst = p.dst)) n.inbox }
  match s.outRefusal e p with
  | some st => rest.respond p st []
  | none =>
    if p.opc = opcRead then
      match s.outWaits p with
      | some w => rest.updPci fun c => { c with behind := c.behind ++ [(p, w)] }
      | none => if 768 ≤ s.readsAt e then s else rest.outRead e p
    else if (s.fencePl p.lease).isSome ∧ !s.fenceFits p.data.length then s
    else rest.owinWrite e p

/-- READs whose held WRITEs have been released are sent. -/
def State.outBehind (s : State) (e : Nat) : State :=
  (s.pci.behind.filter fun x => x.1.dst = pcieNode e).foldl (fun t x =>
    if (t.heldFx ++ t.mir.fxWait).any (fun h => h.pkt = some x.2) ∨ 768 ≤ t.readsAt e then t
    else (t.updPci fun c => { c with behind := c.behind.filter (fun y => y.1 ≠ x.1) }).outRead e x.1) s

/-- PCIE_OUTBOUND: the oldest request that waits at endpoint e's node. -/
def execPcieOutbound (e : Nat) (s : State) : Host.Outcome State Fault Refusal :=
  let s := s.outBehind e
  .next (match s.noc.inbox.find? fun p => p.dst = pcieNode e with
    | none => s
    | some p => (s.owinApply (owinOf p)).outServe e p)

/-- The i-th READ of endpoint e that waits for completions. -/
def State.readAt (s : State) (e i : Nat) : Option (Nat × Packet) := (s.pci.reads.filter fun x => x.2.dst = pcieNode e)[i]?

def State.readOver (s : State) (e : Nat) (x : Nat × Packet) (st : Nat) (d : List Byte) : State :=
  ((s.updPci fun c => { c with reads := c.reads.filter (fun y => y ≠ x) }).respond x.2 st d).outBehind e

/-- PCIE_CPL: completions of a READ have arrived: Successful, poisoned, Unsupported Request or Completer Abort. -/
def execPcieCpl (e i : Nat) (st : Cpl) (d : List Byte) (s : State) : Host.Outcome State Fault Refusal :=
  .next (match s.readAt e i with
    | none => s
    | some x =>
      match st with
      | .sc => if d.length = x.2.bcnt + 1 then s.readOver e x stOk d else s
      | .poisoned => if d.length = x.2.bcnt + 1 then s.readOver e x stPoison d else s
      | _ => s.readOver e x stErr [])

/-- PCIE_CPL_TIMEOUT: 10 ms without completions. -/
def execPcieCplTimeout (e i : Nat) (s : State) : Host.Outcome State Fault Refusal :=
  .next (match s.readAt e i with | none => s | some x => s.readOver e x stErr [])

/-! ## Configuration requests (R322, R323) -/

def setMember (l : List Nat) (k : Nat) (on : Bool) : List Nat := if on then k :: l.filter (· ≠ k) else l.filter (· ≠ k)

/-- TotalVFs of an endpoint (R323). -/
def State.totalVfs (s : State) (e : Nat) : Nat :=
  if s.f PCI_CTRL_VF_SPLIT = 0 then (if e = 0 then 64 else 0) else 32

/-- The function mask is cleared: pending vectors that are not masked are sent. -/
def State.msixFlush (s : State) (fn : Nat) : State :=
  (List.range (msixWords fn / 4)).foldl (fun t v =>
    if t.pba fn v ∧ !t.msixMasked fn v then (t.setPba fn v false).msix fn v else t) s

/-- A configuration access to a function. -/
def State.pciConfig (s : State) (e fn : Nat) (c : PciCfg) : State :=
  let k := funcKey e fn
  match c with
  | .readId => s.answer (.ok ((if fn = 0 then 0x2400 else 0x2401) * 65536 + Config.vendorId 0 % 65536))
  | .readClass => s.answer (.ok 0x120000)
  | .command bm => (s.updPci fun p => { p with
      bm := setMember p.bm k bm, off := if bm then setMember p.off k false else p.off }).answer (.ok 0)
  | .power d3 => (s.updPci fun p => { p with d3 := setMember p.d3 k d3 }).answer (.ok 0)
  | .sriov en num =>
    if fn ≠ 0 ∨ s.totalVfs e < num then s.answer (.ok 0)
    else
      let old := s
      let gone := fun k => decide (k ≠ 0 ∧ k ≠ 128) && old.funcOn e k
      let s := if en then s else (s.inboundForget gone).configReset gone
      (s.updPci fun p => { p with vfs := nput p.vfs e (if en then num else 0) }).answer (.ok 0)
  | .msixMask on =>
    let s := (s.updPci fun p => { p with mask := setMember p.mask k on }).answer (.ok 0)
    if on ∨ k = 128 then s else s.msixFlush fn

/-- PCIE_CONFIG_REQUEST: a function that is absent or not served answers Unsupported Request. -/
def execPcieConfigRequest (e fn : Nat) (c : PciCfg) (s : State) : Host.Outcome State Fault Refusal :=
  .next (if !s.pciUp e then s else if s.pciServes e fn then s.pciConfig e fn c else s.answer .err)

end Sys2Proof.Machine
end

