-- ==== Sys2Proof/Machine/NocLate.lean ====
section
/-! DEFINITION. Commands of the network and its arbiters that reach into the blocks behind their ports: NOC_READ, NOC_WRITE,
READ_RSP, WRITE_RSP (06 R158 to R160), EPOCH_BOUNDARY (06 R168), ARB_BEAT_END and DROGUE_BITE (07 R182, R187). -/

namespace Sys2Proof.Machine
open Reg

/-! ## Requests -/

/-- A register access that a hub unit sends as a packet: firmware's (00 R28). -/
def State.hubServe (s : State) (p : Packet) : State :=
  let n := p.bcnt + 1
  if isHbm p.addr then s.respond p stErr []
  else if p.opc = opcWrite then
    let t := s.mgmtWrite .firmware p.addr (leNat p.data) n 0
    t.respond p t.resp.nocStatus []
  else
    let t := s.mgmtRead .firmware p.addr n false
    t.respond p t.resp.nocStatus (match t.resp with | .ok v => leBytes n v | _ => [])

/-- The requests that have reached the register windows. -/
def State.hubServeAll (s : State) : State :=
  let l := s.noc.inbox.filter fun p => p.dst = hubNode
  l.foldl State.hubServe (s.updNoc fun n => { n with inbox := n.inbox.filter fun p => p.dst ≠ hubNode })

/-- A requester sends a READ (R159). -/
def execNocRead (p : Packet) (s : State) : Host.Outcome State Fault Refusal :=
  .next (s.requestFrom { p with opc := opcRead, data := [], be := [] }).hubServeAll

/-- A requester sends a WRITE (R159). -/
def execNocWrite (p : Packet) (s : State) : Host.Outcome State Fault Refusal :=
  .next (s.requestFrom { p with opc := opcWrite }).hubServeAll

/-! ## Responses -/

/-- What the unit behind `node` does with a response: a quad's lane, a PCIe endpoint or the host-DMA service goes on. -/
def State.rspUse (s : State) (node : Nat) (r : Packet) : State :=
  match unitOf node with
  | .quad q => s.laneRsp q r.tag r.status
  | .pcie e => s.pciRsp e r
  | .hubRegs => if 0xF0 ≤ r.tag ∧ r.tag < 0xF4 then s.hdmaRsp (r.tag - 0xF0) r else s
  | _ => s

/-- A response of opcode `opc` reaches its requester. -/
def State.rspEnd (s : State) (opc node tag : Nat) (em : Bool) : State :=
  match s.rspFor node tag with
  | none => s
  | some r =>
    if r.opc ≠ opc then s
    else
      match unitOf node with
      | .engine e => s.dmaResponse e tag em
      | _ =>
        let t := s.deliverRsp opc node tag em
        if s.rspFenced node then t
        else t.rspUse node (if em ∨ r.ended then { r with status := stErr, data := [] } else r)

def execReadRsp (node tag : Nat) (em : Bool) (s : State) : Host.Outcome State Fault Refusal :=
  .next (s.rspEnd opcReadRsp node tag em)

def execWriteRsp (node tag : Nat) (em : Bool) (s : State) : Host.Outcome State Fault Refusal :=
  .next (s.rspEnd opcWriteRsp node tag em)

/-! ## The epoch -/

/-- Units whose ports have become LIVE send what waits. -/
def State.portsGo (s : State) : State :=
  let s := (List.range 384).foldl (fun t i =>
    if t.dmaBusy (i / 2) (i % 2) then (State.dmaPump (i / 2) (i % 2) 16 t).dmaSettle (i / 2) (i % 2) else t) s
  let s := (s.lanes.lane.map (·.1)).foldl (fun t n => t.lanePump n 16) s
  (s.pciPump 0).pciPump 1

/-- EPOCH_BOUNDARY: a pending swap occurs; ports, routers, controllers and bundles that have finished become LIVE. -/
def execEpochBoundary (s : State) : Host.Outcome State Fault Refusal :=
  .next s.nocEpoch.pcEpoch.cmxEpoch.portsGo

/-! ## Arbiters -/

/-- A grant that has gone to a unit of the block lets it act: packets pass, route writes take effect, an operation that waits
begins. -/
def State.arbServe (s : State) (a : ArbId) : State :=
  match a with
  | .noc k o => (State.nocServe k o (s.noc.waits.length + 1) s).hubServeAll
  | .tether d => s.tetherGo d
  | .capture => s.capServe
  | _ => s

/-- ARB_REQUEST: requests of one cycle (07 R181). -/
def execArbRequest (a : ArbId) (l : List ArbAsk) (s : State) : Host.Outcome State Fault Refusal :=
  .next ((s.arbRequest a l).arbServe a)

/-- ARB_REQUEST_DROP: `beat` says that a beat of the owner is in progress (07 R180, R190). -/
def execArbRequestDrop (a : ArbId) (idx : Nat) (beat : Bool) (s : State) : Host.Outcome State Fault Refusal :=
  .next ((s.arbDrop a idx beat).arbServe a)

/-- The owner of a NoC output has no flit ready, and the link is lent for the cycle to requester `i` of another VC (07 R179): the tail of
its packet gets through and ends its request. -/
def State.nocLend (s : State) (k o i : Nat) (more : Bool) : State :=
  let b := s.arb (.noc k o)
  if !more && b.owner.any (fun q => decide (q.idx % 4 ≠ i % 4)) && b.spool.any (fun q => decide (q.idx = i)) then
    let s := s.setArb (.noc k o) (Arb.refill 1 { b with spool := b.spool.eraseP fun q => decide (q.idx = i) })
    match s.waitsAt k o i with
    | w :: _ => s.resumeWait w
    | [] => s
  else s

/-- A beat of the owner completes, or a cycle that its owner lent. At the mirror link the beat is the owner's frame; at the capture
engine an operation under way is the beat and ends it. -/
def execArbBeatEnd (a : ArbId) (more : Bool) (lent : Option Nat) (s : State) : Host.Outcome State Fault Refusal :=
  .next (match a, lent with
    | .mirror, _ => s.mirBeat
    | .noc k o, some i => (s.nocLend k o i more).hubServeAll
    | .capture, _ => if s.cap.op ≠ 0 then s else (s.arbBeat a more).arbServe a
    | _, _ => (s.arbBeat a more).arbServe a)

/-- A controller's port is fenced (10 R254): its queued READs are answered FENCED; its write beats still drain. -/
def State.pcFenced (s : State) (n port : Nat) : State :=
  let c := s.pcAt n
  let ids := (c.rq.filter fun b => b.port = port).map (·.rid)
  let gone := (c.reqs.filter fun q => ids.contains q.rid).map (·.p)
  let waits := (c.head.map (·.2)).filter fun p => p.opc = opcRead ∧ pcPort p = port
  (s.updPc n fun c => { c with
    rq := c.rq.filter fun b => !ids.contains b.rid
    issued := c.issued.filter fun b => !ids.contains b.rid
    reqs := c.reqs.filter fun q => !ids.contains q.rid
    head := c.head.filter fun p => !(decide (p.2.opc = opcRead) && decide (pcPort p.2 = port)) }).respondAll (gone ++ waits) stFenced

/-- What waits for the fenced requester inside the block is answered FENCED (07 R187): its packets at a NoC output, route writes,
firmware's operation. -/
def State.biteWaits (s : State) (a : ArbId) (idx : Nat) : State :=
  match a with
  | .noc k o => s.waitsFenced k o idx
  | .tether d =>
    if idx = 0 ∧ s.cmx.xrq.any (fun x => decide (x.d = d)) then
      (s.updCmx fun c => { c with xrq := c.xrq.filter fun x => decide (x.d ≠ d) }).answer (.ok stFenced)
    else s
  | .capture =>
    if idx = 0 ∧ s.cap.wait.isSome then
      ((s.updCap fun c => { c with wait := none }).setF CFG_CAP_STATUS_BUSY (b2n (s.cap.op ≠ 0 && !s.cap.mirror))).answer (.ok stFenced)
    else s
  | _ => s

/-- What becomes of a fenced owner's half-finished operation, beside the alarm: at a NoC port the packet in progress ends with an EM
tail and the fence is the port fence of 06 R163; 10 R254, 08 R217, 13 R343. DESIGN CHOICE (log 90): elsewhere the spec names no end of
the operation, and it goes on. -/
def State.biteEnd (s : State) (a : ArbId) (o : ArbReq) : State :=
  match a with
  | .noc k _ =>
    let p := o.idx / 4
    (s.cutLink k p).fencePort k p (if isTenantPort k p then s.portLease k p else o.lease)
  | .pc n => (s.raise .ARB_FENCED false 0 n).pcFenced n o.idx
  | .eng e _ =>
    let s := s.raise .ARB_FENCED (decide (o.lease ≠ 0)) o.lease e
    if o.idx = 0 then s.dmaFenced e else s
  | .mirror => (s.raise .ARB_FENCED false 0 a.inst).linkDown 5 10
  | _ => s.raise .ARB_FENCED (decide (o.lease ≠ 0)) o.lease a.inst

/-- The drogue bites on the owner (R187). -/
def State.drogueBite (s : State) (a : ArbId) : State :=
  match (s.arb a).owner with
  | none => s
  | some o =>
    let s := (s.count a.bitesF 1).setArb a ((s.arb a).fence o.idx)
    (((s.biteWaits a o.idx).biteEnd a o).arbGrant a).arbServe a

def execDrogueBite (a : ArbId) (s : State) : Host.Outcome State Fault Refusal := .next (s.drogueBite a)

end Sys2Proof.Machine
end

