-- ==== Sys2Proof/Machine/Reset.lean ====
section
/-! DEFINITION. Supplies, reset pins and the restart of configuration (15 R381 to R386, R405; 03 R65, R73; 16 R412):
SUPPLY_IN_RANGE, SUPPLY_OUT_OF_RANGE, BANK_SUPPLY_LOSS, BANK_SUPPLY_RETURN, POR_N_RISE, POR_N_FALL, RESET_N_ASSERT,
RESET_N_RELEASE, PROG_N_ASSERT, PROG_N_RELEASE and the recovery opcode RESTART. -/

namespace Sys2Proof.Machine
open Reg

/-! ## PAIR_FAIL_OUT (13 R333) -/

/-- The pin follows the device's health, but while a wire test of this side runs. -/
def State.failOutShow (s : State) : State :=
  if s.mir.own.isSome then s
  else
    let bad := s.bit MIR_STATUS_SELF_FAILED || s.bit CFG_BOOT_STATUS_RIP || !s.pins.porN || !s.pins.resetN || !s.pins.thermTripN
      || decide (s.f HUB_SUPPLY_IN_RANGE / 2 ^ 8 % 2 = 0)
    s.setF MIR_STATUS_FAIL_OUT (b2n bad)

/-! ## The power-on sequence (15 R382, R386) -/

def State.t0Passed (s : State) : Bool := decide (s.boot.phase ≠ 0)

/-- The hub PLL starts: at the next verdict after POR_N, at once when the judge has kept running; held while RESET_N or PROG_N
is low. -/
def State.letGo (s : State) (judged : Bool) : State :=
  if !s.pins.resetN ∨ !s.pins.progN then s.updBoot fun b => { b with phase := 7 }
  else
    let s := s.updBoot fun b => { b with phase := 1 }
    if judged then s.hubStart (s.f CLK_JUDGE_VERDICT) else s

/-- t0: the straps are sampled and the fuses sensed; straps 5 to 7 are logged (03 R65). -/
def State.powerOn (s : State) : State :=
  let s := s.updBoot fun b => { b with mode := s.pins.cfgMode }
  let s := if 5 ≤ s.boot.mode then s.logDrop .board .strap s.boot.mode else s
  s.senseFuses.failOutShow.letGo false

/-- t0 comes with POR_N high and every supply in range. -/
def State.tryPowerOn (s : State) : State :=
  if s.pins.porN ∧ s.f HUB_SUPPLY_IN_RANGE = 0x3FF ∧ !s.t0Passed then s.powerOn else s

/-- POR_N_RISE: with the levels of CFG_MODE and PAIR_ROLE. AON ticks and NOC_TIME count from here. -/
def execPorNRise (mode role : Nat) (s : State) : Host.Outcome State Fault Refusal :=
  .next (if s.pins.porN then s
    else ({ s with aonTicks := 0, nocTime := 0 }.updPins fun p =>
      { p with porN := true, cfgMode := mode % 8, role := role % 2 }).tryPowerOn)

/-- POR_N_FALL: every domain is reset; HBM is zeroed at its next power-up. -/
def execPorNFall (s : State) : Host.Outcome State Fault Refusal :=
  .next (if s.pins.porN then s.restartPor.updPins fun p => { p with porN := false } else s)

/-- RESET_N_ASSERT: a device-level action. -/
def execResetNAssert (s : State) : Host.Outcome State Fault Refusal :=
  .next (if !s.pins.resetN then s
    else
      let t := s.updPins fun p => { p with resetN := false }
      if s.t0Passed then t.restartHeld else t)

/-- RESET_N_RELEASE: the release sequence starts again; it ends a thermal trip (14 R377). -/
def execResetNRelease (s : State) : Host.Outcome State Fault Refusal :=
  .next (if s.pins.resetN then s
    else
      let t := s.updPins fun p => { p with resetN := true, thermTripN := p.thermTripN || s.t0Passed }
      if s.t0Passed then t.failOutShow.letGo true else t)

/-! ## PROG_N (03 R73, 15 R384) -/

/-- A field of class BOOT, by its key. -/
def bootKey (key : Nat) : Bool :=
  match decodeReg (key / 32) with
  | none => false
  | some (k, _) => match fieldAt k.fields (key % 32) with | some f => decide (f.cls = .boot) | none => false

/-- OWNER fields, BOOT fields and the commit return to their reset values. -/
def State.bootFieldsReset (s : State) : State :=
  let s := if s.bit CFG_INTEG_CTRL_GOLD_EN then s.goldDisable else s
  let t := ({ s with flds := SMap.filterKeys (fun k => !bootKey k) s.flds }).setFs [(HUB_STATUS_COMMITTED, 0), (HUB_STATUS_SHELL_UP, 0)]
  t.mapMoved (s.f DMC_GLB_CTRL_MAP) (t.f DMC_GLB_CTRL_MAP)

/-- Every die-common frame is blank. -/
def State.blankCommon (s : State) : State :=
  let common := fun i => decide (8 * rgnFrames ≤ i % dieFrames)
  s.updInteg fun x => { x with
    frames := SMap.filterKeys (fun i => !common i) x.frames
    stuck := x.stuck.filter fun i => !common i }

/-- The boot load of a slot, if one is under way, reports ABORT_LEVEL (R73, R96): in its slot's ERR and in the attempt's. -/
def State.bootAbandon (s : State) (n : Nat) : State :=
  let going := decide (s.boot.phase = 3 ∧ 1 ≤ s.ldState n ∧ s.ldState n ≤ 5)
  let s := s.setSlot n Slot.empty
  if going then
    let s := s.setF (if s.attempts = 1 then CFG_BOOT_STATUS_ERR1 else CFG_BOOT_STATUS_ERR2) 0x17
    let s := s.setLdState n 8
    if n < 4 then s.setFs [(CFG_LD_STATUS_ERR n, 0x17), (CFG_LD_STATUS_DONE n, 1)] else s
  else s.setLdState n 0

/-- What a device-level action abandons in the blocks that keep running (00 R20): loads, the capture engine, host-DMA copies
and die admissions. -/
def State.abandonAll (s : State) : State :=
  let s := (List.range 4).foldl (fun t n =>
    if (t.slotAt n).boot then t.bootAbandon n else t.loadAbandon n) s
  let s := s.bootAbandon 4
  let s := s.capAbandon
  let s := (List.range 4).foldl (fun t c => if t.bit (HUB_HDMA_STATUS_BUSY c) then
      (t.setHdma c Hdma.empty).setFs [(HUB_HDMA_STATUS_BUSY c, 0), (HUB_HDMA_STATUS_DONE c, 1), (HUB_HDMA_STATUS_ERR c, 3)]
    else t) s
  (List.range 8).foldl (fun t d =>
    if t.dieState d = 1 then ((t.bundlesDown d).setF (CMX_DIE_STATUS_STATE d) 0).dieClocksStop d else t) s

/-- Every region closes and passes through CLEARING (01 R22: one that is FREE or LOST stays). -/
def State.clearAll (s : State) : State :=
  (List.range 64).foldl (fun t r => if 1 ≤ t.rState r ∧ t.rState r ≤ 3 then t.clearRegion r else t) s

/-- Locks of pins end with PROG_N (16 R422). -/
def State.unlockPins (s : State) : State :=
  ((List.range 3).foldl (fun t w => t.setF (GPIO_LOCKED_BITS w) 0) (s.setF GPIO_LOCK_STATUS_STEP 0)).updGpio fun g =>
    { g with word := 0, mask := 0 }

/-- PROG_N low: the configuration restart, held. -/
def State.progHold (s : State) : State :=
  let s := s.abandonAll.clearAll.blankCommon
  let s := (s.bootFieldsReset.unlockPins.setToken false).updPins fun p => { p with cfgDone := false }
  let s := s.updBoot fun b => { b with phase := 7, sram := [], wrote := [], bkeyMask := [] }
  let s := (s.drawNonce HUB_LC_NONCE_LO_NONCE HUB_LC_NONCE_HI_NONCE).drawNonce DBG_AUTH_NONCE_LO_NONCE DBG_AUTH_NONCE_HI_NONCE
  s.ripOn

/-- The device runs: past t0 and held by no reset. -/
def State.running (s : State) : Bool := s.t0Passed && s.pins.porN && s.pins.resetN && s.pins.thermTripN

/-- PROG_N high: the boot restarts from attempt count zero on the path that CFG_MODE selected. DESIGN CHOICE (log 89): R73 names the
attempt count; the model clears what the attempts before reported with it (FALLBACK, STOPPED, ERR1, ERR2, DIE_SKIP). CFG_ERR
returns low (18 R459). A golden copy refused until the next boot (04 R111) may be taken again. -/
def State.progBoot (s : State) : State :=
  let s := (s.ripOff.setFs [(CFG_BOOT_STATUS_ATTEMPTS, 0), (CFG_BOOT_STATUS_FALLBACK, 0), (CFG_BOOT_STATUS_STOPPED, 0),
    (CFG_BOOT_STATUS_ERR1, 0), (CFG_BOOT_STATUS_ERR2, 0), (CFG_BOOT_STATUS_DIE_SKIP, 0)]).updPins fun p => { p with cfgErr := false }
  let s := (s.updInteg fun x => { x with fillBad := [] }).failOutShow
  if s.pllState 0 = 2 then s.bootRom else s.letGo true

/-- PROG_N_ASSERT: low for at least 4 AON ticks. -/
def execProgNAssert (s : State) : Host.Outcome State Fault Refusal :=
  .next (if !s.pins.progN then s
    else
      let t := s.updPins fun p => { p with progN := false }
      if s.running then t.progHold else t)

def execProgNRelease (s : State) : Host.Outcome State Fault Refusal :=
  .next (if s.pins.progN then s
    else
      let t := s.updPins fun p => { p with progN := true }
      if s.running ∧ s.boot.phase = 7 then t.progBoot else t)

/-- RESTART: answered without a payload, then a PROG_N pulse (R405). -/
def execRestart (s : State) : Host.Outcome State Fault Refusal :=
  let served := s.recReady && decide (s.h2fWord (s.f (MBX_H2F_CI_CI 0)) 0 % 65536 = 0x8006)
  let t := s.recover 0x8006 fun t => (t, none)
  .next (if served ∧ s.pins.progN ∧ s.running then t.progHold.progBoot else t)

/-! ## Supplies (R381 to R383; 16 R412) -/

/-- NV_OK shows whether every supply of the floors' table is at or above its floor. -/
def State.nvShow (s : State) : State := s.setF HUB_SUPPLY_NV_OK (b2n s.pins.below.isEmpty)

/-- An order violation with VCC_AON up: SEQ_ERR, and SUPPLY_SEQ once VCC_HUB is in range. -/
def State.seqCheck (s : State) (early : Bool) : State :=
  let s := if early ∧ s.f HUB_SUPPLY_IN_RANGE % 2 = 1 then
      (s.setF HUB_SUPPLY_SEQ_ERR 1).updPins fun p => { p with seqDue := true } else s
  if s.pins.seqDue ∧ s.f HUB_SUPPLY_IN_RANGE / 2 % 2 = 1 then
    (s.updPins fun p => { p with seqDue := false }).raise .SUPPLY_SEQ false 0 noInst
  else s

/-- NV writes that a supply under its floor abandons (R383). -/
def State.nvAbandon (s : State) : State :=
  let s := (List.range 8).foldl State.flAbandon s
  let s := match s.bspi with
    | some (op, _) => if 2 ≤ op then s.bspiCut.bspiDone 1 else s
    | none => s
  s.lcCut

/-- SUPPLY_IN_RANGE: supply k (0 to 8 by HUB_SUPPLY.IN_RANGE); `early`: before the group before it reached 90 %. -/
def execSupplyInRange (k : Nat) (early : Bool) (s : State) : Host.Outcome State Fault Refusal :=
  .next (if 9 ≤ k then s
    else
      let s := (s.setF HUB_SUPPLY_IN_RANGE (setBitN (s.f HUB_SUPPLY_IN_RANGE) k true)).updPins fun p =>
        { p with below := p.below.filter (· ≠ k) }
      (s.nvShow.seqCheck early).tryPowerOn.failOutShow)

/-- SUPPLY_OUT_OF_RANGE: `floor`: it also falls under its NV-write floor; `early`: before the group after it fell below 10 %. Without
VCCIO_CFG the device is not healthy, and acts as 13 R334 says. -/
def execSupplyOutOfRange (k : Nat) (floor early : Bool) (s : State) : Host.Outcome State Fault Refusal :=
  .next (if 9 ≤ k then s
    else
      let s := s.seqCheck early
      let s := s.setF HUB_SUPPLY_IN_RANGE (setBitN (s.f HUB_SUPPLY_IN_RANGE) k false)
      let s := if s.t0Passed then s.setF HUB_SUPPLY_DROOP 1 else s
      let s := if floor ∧ (k = 0 ∨ k = 1 ∨ k = 8) then
          ((s.updPins fun p => { p with below := if p.below.contains k then p.below else k :: p.below }).nvShow).nvAbandon
        else s
      if k = 8 ∧ s.t0Passed ∧ s.pins.resetN ∧ s.pins.thermTripN then s.selfFail.failOutShow else s.failOutShow)

/-- IN_RANGE[9]: all four VCCIO_G banks. -/
def State.banksShow (s : State) : State :=
  s.setF HUB_SUPPLY_IN_RANGE (setBitN (s.f HUB_SUPPLY_IN_RANGE) 9 ((List.range 4).all s.bankUp))

/-- A pin of the bank has a driver. -/
def State.bankMapped (s : State) (b : Nat) : Bool := (List.range 24).any fun k => !(s.drivers (24 * b + k)).isEmpty

/-- BANK_SUPPLY_LOSS: the bank's pins are undriven and read 0. -/
def execBankSupplyLoss (b : Nat) (s : State) : Host.Outcome State Fault Refusal :=
  .next (if !s.bankUp b then s
    else
      let s := ((s.setF (GPIO_BANK_STATUS_LEVEL b) 0).banksShow).padNote
      let s := if s.t0Passed then s.setF HUB_SUPPLY_DROOP 1 else s
      if s.t0Passed ∧ s.bankMapped b then s.raise .GPIO_BANK_OFF false 0 noInst else s)

/-- BANK_SUPPLY_RETURN: at the level detected, 1 for 1.8 V and 2 for 3.3 V. -/
def execBankSupplyReturn (b level : Nat) (s : State) : Host.Outcome State Fault Refusal :=
  .next (if 4 ≤ b ∨ s.bankUp b ∨ (level ≠ 1 ∧ level ≠ 2) then s
    else ((s.setF (GPIO_BANK_STATUS_LEVEL b) level).banksShow).padNote.tryPowerOn)

end Sys2Proof.Machine
end

