-- ==== Sys2Proof/Machine/Dispatch.lean ====
section
/-! DEFINITION. One arm per command. -/

namespace Sys2Proof.Machine

def exec (i : Instr) (s : State) : Host.Outcome State Fault Refusal :=
  match i with
  | .registerWrite m a v aux => Sys2Proof.Machine.execRegisterWrite m a v aux s
  | .rcRead m a => Sys2Proof.Machine.execRcRead m a s
  | .liveFieldApply a lo => Sys2Proof.Machine.execLiveFieldApply a lo s
  | .leaseWrite m r l win => Sys2Proof.Machine.execLeaseWrite m r l win s
  | .release m r => Sys2Proof.Machine.execRelease m r s
  | .clearingEnd r => Sys2Proof.Machine.execClearingEnd r s
  | .napDrainTimeout node => Sys2Proof.Machine.execNapDrainTimeout node s
  | .envGateForce r => Sys2Proof.Machine.execEnvGateForce r s
  | .envCloseDone r delta => Sys2Proof.Machine.execEnvCloseDone r delta s
  | .envOpenDone r ns => Sys2Proof.Machine.execEnvOpenDone r ns s
  | .napHoldTimeout node => Sys2Proof.Machine.execNapHoldTimeout node s
  | .roscEnable m d n => Sys2Proof.Machine.execRoscEnable m d n s
  | .roscSettled d n => Sys2Proof.Machine.execRoscSettled d n s
  | .roscDisable m d n => Sys2Proof.Machine.execRoscDisable m d n s
  | .roscWindowEnd d n cnt => Sys2Proof.Machine.execRoscWindowEnd d n cnt s
  | .flRead m d page => Sys2Proof.Machine.execFlRead m d page s
  | .flWrite m d page => Sys2Proof.Machine.execFlWrite m d page s
  | .flErase m d page => Sys2Proof.Machine.execFlErase m d page s
  | .flOpEnd d ok => Sys2Proof.Machine.execFlOpEnd d ok s
  | .spEnable m d p => Sys2Proof.Machine.execSpEnable m d p s
  | .spDisable m d p => Sys2Proof.Machine.execSpDisable m d p s
  | .spDataPush m d p v => Sys2Proof.Machine.execSpDataPush m d p v s
  | .spDataPop d p peek => Sys2Proof.Machine.execSpDataPop d p peek s
  | .spRdStart m d p => Sys2Proof.Machine.execSpRdStart m d p s
  | .spByteEnd d p rx sent nack more fab => Sys2Proof.Machine.execSpByteEnd d p rx sent nack more fab s
  | .porNRise mode role => Sys2Proof.Machine.execPorNRise mode role s
  | .porNFall => Sys2Proof.Machine.execPorNFall s
  | .resetNAssert => Sys2Proof.Machine.execResetNAssert s
  | .resetNRelease => Sys2Proof.Machine.execResetNRelease s
  | .progNAssert => Sys2Proof.Machine.execProgNAssert s
  | .progNRelease => Sys2Proof.Machine.execProgNRelease s
  | .bootWdtExpire => Sys2Proof.Machine.execBootWdtExpire s
  | .shellReady m => Sys2Proof.Machine.execShellReady m s
  | .sspWriteStream d => Sys2Proof.Machine.execSspWriteStream d s
  | .sspReadStatus => Sys2Proof.Machine.execSspReadStatus s
  | .sspUnknownCommand code => Sys2Proof.Machine.execSspUnknownCommand code s
  | .pspWord w => Sys2Proof.Machine.execPspWord w s
  | .cfgSourceData n => Sys2Proof.Machine.execCfgSourceData n s
  | .cfgHeader n => Sys2Proof.Machine.execCfgHeader n s
  | .cfgManifest n => Sys2Proof.Machine.execCfgManifest n s
  | .far n => Sys2Proof.Machine.execFar n s
  | .bodyWrite n => Sys2Proof.Machine.execBodyWrite n s
  | .blank n => Sys2Proof.Machine.execBlank n s
  | .multi n => Sys2Proof.Machine.execMulti n s
  | .essmap n => Sys2Proof.Machine.execEssmap n s
  | .loadmem n => Sys2Proof.Machine.execLoadmem n s
  | .cfgNop n => Sys2Proof.Machine.execCfgNop n s
  | .endCmd n => Sys2Proof.Machine.execEnd n s
  | .loadGo m n r => Sys2Proof.Machine.execLoadGo m n r s
  | .loadAbort m n => Sys2Proof.Machine.execLoadAbort m n s
  | .loadStall n => Sys2Proof.Machine.execLoadStall n s
  | .cfgVerifyDone n => Sys2Proof.Machine.execCfgVerifyDone n s
  | .bkeyWrite m k j v => Sys2Proof.Machine.execBkeyWrite m k j v s
  | .checkerSlot d c => Sys2Proof.Machine.execCheckerSlot d c s
  | .sweepLateTimer d => Sys2Proof.Machine.execSweepLateTimer d s
  | .goldEnSet m => Sys2Proof.Machine.execGoldEnSet m s
  | .goldDieFillEnd d => Sys2Proof.Machine.execGoldDieFillEnd d s
  | .goldValidSet r => Sys2Proof.Machine.execGoldValidSet r s
  | .upsetInfoRead => Sys2Proof.Machine.execUpsetInfoRead s
  | .capLive m => Sys2Proof.Machine.execCapLive m s
  | .capLiveEnd delta => Sys2Proof.Machine.execCapLiveEnd delta s
  | .capPaused m => Sys2Proof.Machine.execCapPaused m s
  | .capExport m => Sys2Proof.Machine.execCapExport m s
  | .capExportEnd => Sys2Proof.Machine.execCapExportEnd s
  | .capImport m => Sys2Proof.Machine.execCapImport m s
  | .capImportEnd => Sys2Proof.Machine.execCapImportEnd s
  | .capInject m => Sys2Proof.Machine.execCapInject m s
  | .capQuiesceEnd => Sys2Proof.Machine.execCapQuiesceEnd s
  | .capQlimExpire => Sys2Proof.Machine.execCapQlimExpire s
  | .capIvhiWrite m v => Sys2Proof.Machine.execCapIvhiWrite m v s
  | .heartbeatPeriod => Sys2Proof.Machine.execHeartbeatPeriod s
  | .heartbeatFrame d b f => Sys2Proof.Machine.execHeartbeatFrame d b f s
  | .heartbeatMiss d b => Sys2Proof.Machine.execHeartbeatMiss d b s
  | .bundleReelIn m d b wire force => Sys2Proof.Machine.execBundleReelIn m d b wire force s
  | .bundlePayOut m d b wire force => Sys2Proof.Machine.execBundlePayOut m d b wire force s
  | .bundleRetrain m d b wire force => Sys2Proof.Machine.execBundleRetrain m d b wire force s
  | .bundleMaintRetrain m d b wire force => Sys2Proof.Machine.execBundleMaintRetrain m d b wire force s
  | .bundleMarkBad m d b wire force => Sys2Proof.Machine.execBundleMarkBad m d b wire force s
  | .trainStepOverrun d b => Sys2Proof.Machine.execTrainStepOverrun d b s
  | .trainRetry d b => Sys2Proof.Machine.execTrainRetry d b s
  | .agreeTimeout d b => Sys2Proof.Machine.execAgreeTimeout d b s
  | .trainEnd d b found seq hashes => Sys2Proof.Machine.execTrainEnd d b found seq hashes s
  | .dieIsolate m d => Sys2Proof.Machine.execDieIsolate m d s
  | .dieAdmit m d => Sys2Proof.Machine.execDieAdmit m d s
  | .admitTimeout d => Sys2Proof.Machine.execAdmitTimeout d s
  | .dieAdmitEnd d idOk => Sys2Proof.Machine.execDieAdmitEnd d idOk s
  | .routeWrite m d b p valid sd sb sp => Sys2Proof.Machine.execRouteWrite m d b p valid sd sb sp s
  | .flitReplay k p inward j err again => Sys2Proof.Machine.execFlitReplay k p inward j err again s
  | .nocRead p => Sys2Proof.Machine.execNocRead p s
  | .nocWrite p => Sys2Proof.Machine.execNocWrite p s
  | .nocTrace src em => Sys2Proof.Machine.execNocTrace src em s
  | .nocMirror p => Sys2Proof.Machine.execNocMirror p s
  | .readRsp node tag em => Sys2Proof.Machine.execReadRsp node tag em s
  | .writeRsp node tag em => Sys2Proof.Machine.execWriteRsp node tag em s
  | .reservedOpcode p request => Sys2Proof.Machine.execReservedOpcode p request s
  | .creditReturn node vc stall => Sys2Proof.Machine.execCreditReturn node vc stall s
  | .creditLimExpire node => Sys2Proof.Machine.execCreditLimExpire node s
  | .portReelIn m k p twin => Sys2Proof.Machine.execPortReelIn m k p twin s
  | .portPayOut m k p twin => Sys2Proof.Machine.execPortPayOut m k p twin s
  | .portUnfence m k p => Sys2Proof.Machine.execPortUnfence m k p s
  | .routerReelIn m k => Sys2Proof.Machine.execRouterReelIn m k s
  | .routerPayOut m k => Sys2Proof.Machine.execRouterPayOut m k s
  | .selftestEnd k p pass => Sys2Proof.Machine.execSelftestEnd k p pass s
  | .nocSwap m => Sys2Proof.Machine.execNocSwap m s
  | .swapCheckEnd => Sys2Proof.Machine.execSwapCheckEnd s
  | .epochBoundary => Sys2Proof.Machine.execEpochBoundary s
  | .setDrainEnd => Sys2Proof.Machine.execSetDrainEnd s
  | .bridgeSideDown k p far => Sys2Proof.Machine.execBridgeSideDown k p far s
  | .resyncReq k p far => Sys2Proof.Machine.execResyncReq k p far s
  | .resyncAck k p => Sys2Proof.Machine.execResyncAck k p s
  | .traceFlushTimer src node => Sys2Proof.Machine.execTraceFlushTimer src node s
  | .traceSyncTimer k => Sys2Proof.Machine.execTraceSyncTimer k s
  | .arbRequest a l => Sys2Proof.Machine.execArbRequest a l s
  | .arbBeatEnd a more lent => Sys2Proof.Machine.execArbBeatEnd a more lent s
  | .arbRequestDrop a idx beat => Sys2Proof.Machine.execArbRequestDrop a idx beat s
  | .drogueBite a => Sys2Proof.Machine.execDrogueBite a s
  | .arbUnfence m a idx => Sys2Proof.Machine.execArbUnfence m a idx s
  | .streamBeat e port d => Sys2Proof.Machine.execStreamBeat e port d s
  | .streamFlush m e p => Sys2Proof.Machine.execStreamFlush m e p s
  | .engNapRequest e => Sys2Proof.Machine.execEngNapRequest e s
  | .dmaGo m e c => Sys2Proof.Machine.execDmaGo m e c s
  | .dmaAbort m e c => Sys2Proof.Machine.execDmaAbort m e c s
  | .dmaResponse e tag em => Sys2Proof.Machine.execDmaResponse e tag em s
  | .trioPwrReq m t v => Sys2Proof.Machine.execTrioPwrReq m t v s
  | .trioPwrEnd t us => Sys2Proof.Machine.execTrioPwrEnd t us s
  | .trioClearEnd t => Sys2Proof.Machine.execTrioClearEnd t s
  | .engNop e is => Sys2Proof.Machine.execEngNop e is s
  | .mac e is f => Sys2Proof.Machine.execMac e is f s
  | .cmac e is f => Sys2Proof.Machine.execCmac e is f s
  | .qmac e is f => Sys2Proof.Machine.execQmac e is f s
  | .dmac e is f => Sys2Proof.Machine.execDmac e is f s
  | .pmov e is f => Sys2Proof.Machine.execPmov e is f s
  | .clr e is f => Sys2Proof.Machine.execClr e is f s
  | .adda e is f => Sys2Proof.Machine.execAdda e is f s
  | .suba e is f => Sys2Proof.Machine.execSuba e is f s
  | .mova e is f => Sys2Proof.Machine.execMova e is f s
  | .nega e is f => Sys2Proof.Machine.execNega e is f s
  | .absa e is f => Sys2Proof.Machine.execAbsa e is f s
  | .ash e is f => Sys2Proof.Machine.execAsh e is f s
  | .cmpa e is f => Sys2Proof.Machine.execCmpa e is f s
  | .tsta e is f => Sys2Proof.Machine.execTsta e is f s
  | .ldi e is reg imm => Sys2Proof.Machine.execLdi e is reg imm s
  | .ld e is reg a => Sys2Proof.Machine.execLd e is reg a s
  | .st e is reg a => Sys2Proof.Machine.execSt e is reg a s
  | .movr e is rd rs => Sys2Proof.Machine.execMovr e is rd rs s
  | .lda e is ad a form => Sys2Proof.Machine.execLda e is ad a form s
  | .ldai e is ad imm => Sys2Proof.Machine.execLdai e is ad imm s
  | .jmp e is target => Sys2Proof.Machine.execJmp e is target s
  | .call e is target => Sys2Proof.Machine.execCall e is target s
  | .ret e is => Sys2Proof.Machine.execRet e is s
  | .loop e is count last => Sys2Proof.Machine.execLoop e is count last s
  | .loopr e is reg last => Sys2Proof.Machine.execLoopr e is reg last s
  | .brk e is => Sys2Proof.Machine.execBreak e is s
  | .halt e is code => Sys2Proof.Machine.execHalt e is code s
  | .kick e is => Sys2Proof.Machine.execKick e is s
  | .stim e is reg imd chan imm => Sys2Proof.Machine.execStim e is reg imd chan imm s
  | .waitd e is mask => Sys2Proof.Machine.execWaitd e is mask s
  | .sig e is code => Sys2Proof.Machine.execSig e is code s
  | .engStallRelease e cyc => Sys2Proof.Machine.execEngStallRelease e cyc s
  | .engStart m e => Sys2Proof.Machine.execEngStart m e s
  | .engStop m e => Sys2Proof.Machine.execEngStop m e s
  | .engStep m e cyc => Sys2Proof.Machine.execEngStep m e cyc s
  | .engClrreg m e => Sys2Proof.Machine.execEngClrreg m e s
  | .engStopEnd e => Sys2Proof.Machine.execEngStopEnd e s
  | .engStallAbandon e => Sys2Proof.Machine.execEngStallAbandon e s
  | .engWdtExpire e => Sys2Proof.Machine.execEngWdtExpire e s
  | .engRegdataWrite m e v => Sys2Proof.Machine.execEngRegdataWrite m e v s
  | .dmcRequest n => Sys2Proof.Machine.execDmcRequest n s
  | .dmcQueueEntryFree n => Sys2Proof.Machine.execDmcQueueEntryFree n s
  | .dmcMerge n => Sys2Proof.Machine.execDmcMerge n s
  | .dmcCommandSlot n busy => Sys2Proof.Machine.execDmcCommandSlot n busy s
  | .dmcReadChecked n => Sys2Proof.Machine.execDmcReadChecked n s
  | .dmcPageTimer n bank longest => Sys2Proof.Machine.execDmcPageTimer n bank longest s
  | .refreshDebtTick n => Sys2Proof.Machine.execRefreshDebtTick n s
  | .dmcTempRead n t => Sys2Proof.Machine.execDmcTempRead n t s
  | .selfRefreshEntry n => Sys2Proof.Machine.execSelfRefreshEntry n s
  | .selfRefreshExit n => Sys2Proof.Machine.execSelfRefreshExit n s
  | .recalTimer n => Sys2Proof.Machine.execRecalTimer n s
  | .dmcCmdRecal m n => Sys2Proof.Machine.execDmcCmdRecal m n s
  | .recalEnd n => Sys2Proof.Machine.execRecalEnd n s
  | .dmcParityError n kind failed => Sys2Proof.Machine.execDmcParityError n kind failed s
  | .dmcCmdReelIn m n => Sys2Proof.Machine.execDmcCmdReelIn m n s
  | .dmcCmdPayOut m n => Sys2Proof.Machine.execDmcCmdPayOut m n s
  | .dmcCmdRetrain m n => Sys2Proof.Machine.execDmcCmdRetrain m n s
  | .retrainStepOverrun n result => Sys2Proof.Machine.execRetrainStepOverrun n result s
  | .retrainEnd n repairs us => Sys2Proof.Machine.execRetrainEnd n repairs us s
  | .dmcInitEnd n => Sys2Proof.Machine.execDmcInitEnd n s
  | .eccNotifyRead => Sys2Proof.Machine.execEccNotifyRead s
  | .eccMclr m => Sys2Proof.Machine.execEccMclr m s
  | .eccInjArm m => Sys2Proof.Machine.execEccInjArm m s
  | .scrubGo m => Sys2Proof.Machine.execScrubGo m s
  | .scrubAbort m => Sys2Proof.Machine.execScrubAbort m s
  | .scrubWord => Sys2Proof.Machine.execScrubWord s
  | .scrubPassEnd => Sys2Proof.Machine.execScrubPassEnd s
  | .ksInstall m k => Sys2Proof.Machine.execKsInstall m k s
  | .ksInitEnd k => Sys2Proof.Machine.execKsInitEnd k s
  | .ksRetire m k => Sys2Proof.Machine.execKsRetire m k s
  | .ksFlushEnd k => Sys2Proof.Machine.execKsFlushEnd k s
  | .ksResume m k => Sys2Proof.Machine.execKsResume m k s
  | .encRead e => Sys2Proof.Machine.execEncRead e s
  | .encVerifyEnd e t => Sys2Proof.Machine.execEncVerifyEnd e t s
  | .encWrite e t inner => Sys2Proof.Machine.execEncWrite e t inner s
  | .quadCfgWrite m q v => Sys2Proof.Machine.execQuadCfgWrite m q v s
  | .quadPllRelock q => Sys2Proof.Machine.execQuadPllRelock q s
  | .laneRxRecord n fec rec => Sys2Proof.Machine.execLaneRxRecord n fec rec s
  | .laneTxWrite q => Sys2Proof.Machine.execLaneTxWrite q s
  | .laneTxSent n => Sys2Proof.Machine.execLaneTxSent n s
  | .laneCdrLoss n => Sys2Proof.Machine.execLaneCdrLoss n s
  | .eqReload m => Sys2Proof.Machine.execEqReload m s
  | .binEval => Sys2Proof.Machine.execBinEval s
  | .walkStep n => Sys2Proof.Machine.execWalkStep n s
  | .prbsClr m n => Sys2Proof.Machine.execPrbsClr m n s
  | .injGo m n => Sys2Proof.Machine.execInjGo m n s
  | .slip m n => Sys2Proof.Machine.execSlip m n s
  | .slipEnd n => Sys2Proof.Machine.execSlipEnd n s
  | .snap m n => Sys2Proof.Machine.execSnap m n s
  | .snapCapture n w => Sys2Proof.Machine.execSnapCapture n w s
  | .pcieInbound e fn tag k ro bar off n d be => Sys2Proof.Machine.execPcieInbound e fn tag k ro bar off n d be s
  | .pcieOutbound e => Sys2Proof.Machine.execPcieOutbound e s
  | .pcieCpl e idx st d => Sys2Proof.Machine.execPcieCpl e idx st d s
  | .pcieCplTimeout e idx => Sys2Proof.Machine.execPcieCplTimeout e idx s
  | .pcieLinkLoss e ltssm => Sys2Proof.Machine.execPcieLinkLoss e ltssm s
  | .pcieLinkRestore e rate width flit tx => Sys2Proof.Machine.execPcieLinkRestore e rate width flit tx s
  | .flrVf fn => Sys2Proof.Machine.execFlrVf fn s
  | .flrPf e => Sys2Proof.Machine.execFlrPf e s
  | .mirStart m => Sys2Proof.Machine.execMirStart m s
  | .mirStop m => Sys2Proof.Machine.execMirStop m s
  | .mirCmdSelfFail m => Sys2Proof.Machine.execMirCmdSelfFail m s
  | .mirTrainEnd => Sys2Proof.Machine.execMirTrainEnd s
  | .mirHello tagOk role => Sys2Proof.Machine.execMirHello tagOk role s
  | .mirIdle seq failOut failIn => Sys2Proof.Machine.execMirIdle seq failOut failIn s
  | .mirIdleTimer => Sys2Proof.Machine.execMirIdleTimer s
  | .mirFrameBad tagFails => Sys2Proof.Machine.execMirFrameBad tagFails s
  | .mirWlog seq pl epoch off payload => Sys2Proof.Machine.execMirWlog seq pl epoch off payload s
  | .mirSeed seq pl epoch off payload => Sys2Proof.Machine.execMirSeed seq pl epoch off payload s
  | .mirImage seq pl epoch rgn off payload => Sys2Proof.Machine.execMirImage seq pl epoch rgn off payload s
  | .mirEffect seq pl epoch payload => Sys2Proof.Machine.execMirEffect seq pl epoch payload s
  | .mirEpochEnd seq epoch wl img eff mask => Sys2Proof.Machine.execMirEpochEnd seq epoch wl img eff mask s
  | .mirCommitApplyEnd => Sys2Proof.Machine.execMirCommitApplyEnd s
  | .mirAck seq epoch => Sys2Proof.Machine.execMirAck seq epoch s
  | .mirRel seq epoch => Sys2Proof.Machine.execMirRel seq epoch s
  | .mirRetry seq first => Sys2Proof.Machine.execMirRetry seq first s
  | .mirGive seq pl => Sys2Proof.Machine.execMirGive seq pl s
  | .mirWireTest seq time => Sys2Proof.Machine.execMirWireTest seq time s
  | .mirWireTestTimer time => Sys2Proof.Machine.execMirWireTestTimer time s
  | .mirLossTimer => Sys2Proof.Machine.execMirLossTimer s
  | .mirLaneLockLoss lane => Sys2Proof.Machine.execMirLaneLockLoss lane s
  | .mirRetrainEnd => Sys2Proof.Machine.execMirRetrainEnd s
  | .mirRetrainTimeout => Sys2Proof.Machine.execMirRetrainTimeout s
  | .mirEpochTimer => Sys2Proof.Machine.execMirEpochTimer s
  | .mirAckTimeout => Sys2Proof.Machine.execMirAckTimeout s
  | .pairFailInRise => Sys2Proof.Machine.execPairFailInRise s
  | .takeWinExpire => Sys2Proof.Machine.execTakeWinExpire s
  | .takeoverEnd j => Sys2Proof.Machine.execTakeoverEnd j s
  | .plGive m j => Sys2Proof.Machine.execPlGive m j s
  | .plReseed m j => Sys2Proof.Machine.execPlReseed m j s
  | .judgeWindowEnd c0 c1 => Sys2Proof.Machine.execJudgeWindowEnd c0 c1 s
  | .judgeQuarterEnd c0 c1 => Sys2Proof.Machine.execJudgeQuarterEnd c0 c1 s
  | .clkFreqWrite m p f0 f1 => Sys2Proof.Machine.execClkFreqWrite m p f0 f1 s
  | .pllLock p => Sys2Proof.Machine.execPllLock p s
  | .pllLockLoss p => Sys2Proof.Machine.execPllLockLoss p s
  | .pllIdleTimer p => Sys2Proof.Machine.execPllIdleTimer p s
  | .clockSwitchEnd n w => Sys2Proof.Machine.execClockSwitchEnd n w s
  | .clockSwitchForce n w => Sys2Proof.Machine.execClockSwitchForce n w s
  | .clockSwStallTimer n w => Sys2Proof.Machine.execClockSwStallTimer n w s
  | .pwrDomReq m n v => Sys2Proof.Machine.execPwrDomReq m n v s
  | .pwrDomEnd n us => Sys2Proof.Machine.execPwrDomEnd n us s
  | .thermConversion raw => Sys2Proof.Machine.execThermConversion raw s
  | .supplyOutOfRange k floor early => Sys2Proof.Machine.execSupplyOutOfRange k floor early s
  | .lcAdvance m => Sys2Proof.Machine.execLcAdvance m s
  | .lcKeyProg m idx => Sys2Proof.Machine.execLcKeyProg m idx s
  | .lcRevoke m idx => Sys2Proof.Machine.execLcRevoke m idx s
  | .lcReturn m => Sys2Proof.Machine.execLcReturn m s
  | .lcScrap m => Sys2Proof.Machine.execLcScrap m s
  | .lcCmdEnd failed => Sys2Proof.Machine.execLcCmdEnd failed s
  | .featCommit m v => Sys2Proof.Machine.execFeatCommit m v s
  | .hubAttn m v late => Sys2Proof.Machine.execHubAttn m v late s
  | .hubAttnPop peek => Sys2Proof.Machine.execHubAttnPop peek s
  | .droplogRead peek => Sys2Proof.Machine.execDroplogRead peek s
  | .evqPop peek => Sys2Proof.Machine.execEvqPop peek s
  | .mbxH2fDb m fn v late => Sys2Proof.Machine.execMbxH2fDb m fn v late s
  | .mbxF2hPiWrite m fn v => Sys2Proof.Machine.execMbxF2hPiWrite m fn v s
  | .hubMsixRaise m fn vec => Sys2Proof.Machine.execHubMsixRaise m fn vec s
  | .msixUnmask fn v => Sys2Proof.Machine.execMsixUnmask fn v s
  | .ping => Sys2Proof.Machine.execPing s
  | .recoveryStatus => Sys2Proof.Machine.execRecoveryStatus s
  | .flashErase failed => Sys2Proof.Machine.execFlashErase failed s
  | .flashProgram failed => Sys2Proof.Machine.execFlashProgram failed s
  | .flashCrc => Sys2Proof.Machine.execFlashCrc s
  | .restart => Sys2Proof.Machine.execRestart s
  | .hdmaGo m c lease win dir => Sys2Proof.Machine.execHdmaGo m c lease win dir s
  | .hdmaAbort m c => Sys2Proof.Machine.execHdmaAbort m c s
  | .hdmaEnd c => Sys2Proof.Machine.execHdmaEnd c s
  | .smbProcessRead a => Sys2Proof.Machine.execSmbProcessRead a s
  | .smbBlockWrite a v pecOk => Sys2Proof.Machine.execSmbBlockWrite a v pecOk s
  | .smbEventRead => Sys2Proof.Machine.execSmbEventRead s
  | .smbStatusRead => Sys2Proof.Machine.execSmbStatusRead s
  | .smbAra => Sys2Proof.Machine.execSmbAra s
  | .smbTimeout => Sys2Proof.Machine.execSmbTimeout s
  | .bspiRead m cnt => Sys2Proof.Machine.execBspiRead m cnt s
  | .bspiProgram m cnt => Sys2Proof.Machine.execBspiProgram m cnt s
  | .bspiErase4k m => Sys2Proof.Machine.execBspiErase4k m s
  | .bspiCmdEnd failed => Sys2Proof.Machine.execBspiCmdEnd failed s
  | .gpioSwitchPark n => Sys2Proof.Machine.execGpioSwitchPark n s
  | .gpioSwitchConnect n lev ext => Sys2Proof.Machine.execGpioSwitchConnect n lev ext s
  | .gpioLockArm m w core => Sys2Proof.Machine.execGpioLockArm m w core s
  | .gpioLockMaskWrite m mask => Sys2Proof.Machine.execGpioLockMaskWrite m mask s
  | .gpioLockCommit m w => Sys2Proof.Machine.execGpioLockCommit m w s
  | .gpioLockTimeout => Sys2Proof.Machine.execGpioLockTimeout s
  | .bankSupplyLoss b => Sys2Proof.Machine.execBankSupplyLoss b s
  | .tapReset => Sys2Proof.Machine.execTapReset s
  | .extest d => Sys2Proof.Machine.execExtest d s
  | .idcode => Sys2Proof.Machine.execIdcode s
  | .samplePreload d => Sys2Proof.Machine.execSamplePreload d s
  | .bypass => Sys2Proof.Machine.execBypass s
  | .dbgAccess op a v => Sys2Proof.Machine.execDbgAccess op a v s
  | .cfgLoad w => Sys2Proof.Machine.execCfgLoad w s
  | .dbgAuthGo m => Sys2Proof.Machine.execDbgAuthGo m s
  | .dbgAuthEnd => Sys2Proof.Machine.execDbgAuthEnd s
  | .dbgTokenDrop m => Sys2Proof.Machine.execDbgTokenDrop m s
  | .dbgStim m core g v => Sys2Proof.Machine.execDbgStim m core g v s
  | .napStimSample r k chan v => Sys2Proof.Machine.execNapStimSample r k chan v s
  | .pmcSelWrite m k v => Sys2Proof.Machine.execPmcSelWrite m k v s
  | .brRaise x resv => Sys2Proof.Machine.execBrRaise x resv s
  | .brClear m mask late => Sys2Proof.Machine.execBrClear m mask late s
  | .haltDeferExpire g ended => Sys2Proof.Machine.execHaltDeferExpire g ended s
  | .bistSliceStart d => Sys2Proof.Machine.execBistSliceStart d s
  | .bistSliceEnd d verified passed => Sys2Proof.Machine.execBistSliceEnd d verified passed s
  | .bstMapqWrite m unit => Sys2Proof.Machine.execBstMapqWrite m unit s
  | .bstXpGo m alg unit => Sys2Proof.Machine.execBstXpGo m alg unit s
  | .bstXpEnd fail => Sys2Proof.Machine.execBstXpEnd fail s
  | .supplyInRange k early => Sys2Proof.Machine.execSupplyInRange k early s
  | .bankSupplyReturn b level => Sys2Proof.Machine.execBankSupplyReturn b level s
  | .pairFailInFall => Sys2Proof.Machine.execPairFailInFall s
  | .wireTestRelease => Sys2Proof.Machine.execWireTestRelease s
  | .wireTestReleaseEnd => Sys2Proof.Machine.execWireTestReleaseEnd s
  | .mirTrainTimeout => Sys2Proof.Machine.execMirTrainTimeout s
  | .configurationUpset far b => Sys2Proof.Machine.execConfigurationUpset far b s
  | .memoryBitError mid row bit => Sys2Proof.Machine.execMemoryBitError mid row bit s
  | .wireFault d b w => Sys2Proof.Machine.execWireFault d b w s
  | .dieReset d => Sys2Proof.Machine.execDieReset d s
  | .laneCdrLock n => Sys2Proof.Machine.execLaneCdrLock n s
  | .pcsBlockLock n => Sys2Proof.Machine.execPcsBlockLock n s
  | .prbsLock n w => Sys2Proof.Machine.execPrbsLock n w s
  | .prbsLockLoss n w => Sys2Proof.Machine.execPrbsLockLoss n w s
  | .traceOutputRecord idx => Sys2Proof.Machine.execTraceOutputRecord idx s
  | .bootFlashData k => Sys2Proof.Machine.execBootFlashData k s
  | .pcieConfigRequest e fn c => Sys2Proof.Machine.execPcieConfigRequest e fn c s
  | .pcieLinkReturnToL0 ep tx => Sys2Proof.Machine.execPcieLinkReturnToL0 ep tx s

end Sys2Proof.Machine
end

