-- ==== Sys2Proof/Machine/Tick.lean ====
section
/-! DEFINITION. What time alone does in one AON tick (250 ns), while no command waits (log entry 1). -/

namespace Sys2Proof.Machine

/-- Time runs from the rise of POR_N (00 R8, 06 R178): one AON tick and 500 NoC cycles; the counters that count them count,
the slots that pass unused among them (06 R167); the engines' watchdogs count down (09 R236). -/
def State.timeTick (s : State) : State :=
  if s.pins.porN then
    let s := s.slotsPass 500
    ((({ s with aonTicks := s.aonTicks + 1, nocTime := (s.nocTime + 500) % 2 ^ 64 }).pmcBump 1 0 500).pmcBump 2 0 1).wdtTick
  else s

/-- The tick: time, then what waits for nothing but time: parks of regions in CLEARING (02 R51), the pair mirror's next step (13
R346), halts that reach their participants (17 R439), inbound PCIe requests that wait for room at the port (12 R325), expert fields
that return when their block is idle (R15), trace packets whose gap has passed (06 R175). -/
def State.idleTick (s : State) : State :=
  (((((s.timeTick.clearTick).mirPump).brDeliver []).pciPump 0).pciPump 1).xsweep.traceSweep

end Sys2Proof.Machine
end

