-- ==== Sys2Proof/Safety.lean ====
section
/-! DEFINITION. The terms of the claims: the block's invariant, and a run without a fault or a refusal. -/

namespace Sys2Proof.Machine

/-- HBM is in its canonical form; the drop log holds at most 32 entries (15 R398), the firmware event queue at most 256 and the
board event queue at most 64 (15 R401). -/
abbrev Caps (m : List Host.Cell) (d : DropLog) (e : Events) : Prop :=
  Memory.wf m ∧ d.entries.length ≤ 32 ∧ e.fw.length ≤ 256 ∧ e.board.length ≤ 64

/-- The block's invariant. -/
abbrev State.Inv (s : State) : Prop := Caps s.mem s.drop s.ev

/-- All but registers, event queues, held effects, the mirror's counts and messages stays: what events may change. -/
def State.EvFrame (s t : State) : Prop :=
  t = { s with flds := t.flds, ev := t.ev, heldFx := t.heldFx, mir := t.mir, out := t.out }

/-- The next k steps all answer a next state. -/
def runsOn : Nat → State → Prop
  | 0, _ => True
  | k + 1, s => ∃ t, step s = .next t ∧ runsOn k t

end Sys2Proof.Machine
end

