-- ==== Sys2Proof/Certificates/Slice0/Obligations.lean ====
section
/-! DEFINITION. The statements about the block. An equation `exec c s = .next t` says the whole next state: what t does not name
is as in s. -/

namespace Sys2Proof.Certificates.Slice0

open Sys2Proof.Machine Sys2Proof.Machine.Reg

/-- The master and the register of a command that is a write of a register with one effect: the access check of R27, R28, R396
and R429 stands before the effect of each. -/
def commandRegister : Instr → Option (Master × Nat)
  | .leaseWrite m r _ _ => some (m, HUB_RGN_STATE r)
  | .release m r => some (m, HUB_RGN_STATE r)
  | .roscEnable m d n => some (m, FAB_ROSC_CTRL d n)
  | .roscDisable m d n => some (m, FAB_ROSC_CTRL d n)
  | .flRead m d _ => some (m, FAB_FL_CTRL d)
  | .flWrite m d _ => some (m, FAB_FL_CTRL d)
  | .flErase m d _ => some (m, FAB_FL_CTRL d)
  | .spEnable m d p => some (m, FAB_SP_CTRL d p)
  | .spDisable m d p => some (m, FAB_SP_CTRL d p)
  | .spDataPush m d p _ => some (m, FAB_SP_DATA d p)
  | .spRdStart m d p => some (m, FAB_SP_DATA d p)
  | .shellReady m => some (m, CFG_BOOT_CTRL)
  | .loadGo m n _ => some (m, CFG_LD_CTRL n)
  | .loadAbort m n => some (m, CFG_LD_CTRL n)
  | .bkeyWrite m k j _ => some (m, CFG_BKEY (k - 1) j)
  | .goldEnSet m => some (m, CFG_INTEG_CTRL)
  | .capLive m => some (m, CFG_CAP_CTRL)
  | .capPaused m => some (m, CFG_CAP_CTRL)
  | .capExport m => some (m, CFG_CAP_CTRL)
  | .capImport m => some (m, CFG_CAP_CTRL)
  | .capInject m => some (m, CFG_CAP_CTRL)
  | .capIvhiWrite m _ => some (m, CFG_CAP_IVHI)
  | .bundleReelIn m d b _ _ => some (m, CMX_B_CTRL d b)
  | .bundlePayOut m d b _ _ => some (m, CMX_B_CTRL d b)
  | .bundleRetrain m d b _ _ => some (m, CMX_B_CTRL d b)
  | .bundleMaintRetrain m d b _ _ => some (m, CMX_B_CTRL d b)
  | .bundleMarkBad m d b _ _ => some (m, CMX_B_CTRL d b)
  | .dieIsolate m d => some (m, CMX_DIE_CTRL d)
  | .dieAdmit m d => some (m, CMX_DIE_CTRL d)
  | .routeWrite m d b p _ _ _ _ => some (m, CMX_XR d b p)
  | .portReelIn m k p _ => some (m, NOC_PORT_CTRL k p)
  | .portPayOut m k p _ => some (m, NOC_PORT_CTRL k p)
  | .portUnfence m k p => some (m, NOC_PORT_CTRL k p)
  | .routerReelIn m k => some (m, NOC_ROUTER_CTRL k)
  | .routerPayOut m k => some (m, NOC_ROUTER_CTRL k)
  | .nocSwap m => some (m, NOC_EPOCH)
  | .arbUnfence m a _ => some (m, a.base)
  | .streamFlush m e _ => some (m, ENG_STRM_CTRL (e / 3) (e % 3))
  | .dmaGo m e c => some (m, ENG_DMA_CTRL (e / 3) (e % 3) c)
  | .dmaAbort m e c => some (m, ENG_DMA_CTRL (e / 3) (e % 3) c)
  | .trioPwrReq m t _ => some (m, ENG_TRIO_PWR t)
  | .engStart m e => some (m, ENG_CTRL (e / 3) (e % 3))
  | .engStop m e => some (m, ENG_CTRL (e / 3) (e % 3))
  | .engStep m e _ => some (m, ENG_CTRL (e / 3) (e % 3))
  | .engClrreg m e => some (m, ENG_CTRL (e / 3) (e % 3))
  | .engRegdataWrite m e _ => some (m, ENG_REGDATA (e / 3) (e % 3))
  | .dmcCmdRecal m n => some (m, DMC_CTRL n)
  | .dmcCmdReelIn m n => some (m, DMC_CTRL n)
  | .dmcCmdPayOut m n => some (m, DMC_CTRL n)
  | .dmcCmdRetrain m n => some (m, DMC_CTRL n)
  | .eccMclr m => some (m, ECC_MCLR)
  | .eccInjArm m => some (m, ECC_XP_INJ)
  | .scrubGo m => some (m, ECC_SCRUB_CTRL)
  | .scrubAbort m => some (m, ECC_SCRUB_CTRL)
  | .ksInstall m k => some (m, SEC_K_CTRL k)
  | .ksRetire m k => some (m, SEC_K_CTRL k)
  | .ksResume m k => some (m, SEC_K_CTRL k)
  | .quadCfgWrite m q _ => some (m, LNE_Q_CFG q)
  | .eqReload m => some (m, LNE_GLB_CTRL)
  | .prbsClr m n => some (m, LNE_PRBS_CTRL n)
  | .injGo m n => some (m, LNE_INJ n)
  | .slip m n => some (m, LNE_SLIP n)
  | .snap m n => some (m, LNE_SLIP n)
  | .mirStart m => some (m, MIR_CTRL)
  | .mirStop m => some (m, MIR_CTRL)
  | .mirCmdSelfFail m => some (m, MIR_CTRL)
  | .plGive m j => some (m, MIR_PL_CFG j)
  | .plReseed m j => some (m, MIR_PL_CFG j)
  | .clkFreqWrite m p _ _ => some (m, CLK_PLL_CFG p)
  | .pwrDomReq m n _ => some (m, PWR_DOM_CTRL n)
  | .featCommit m _ => some (m, FEAT_COMMIT)
  | .mbxF2hPiWrite m fn _ => some (m, MBX_F2H_PI fn)
  | .hubMsixRaise m _ _ => some (m, HUB_MSIX_RAISE)
  | .hdmaGo m c _ _ _ => some (m, HUB_HDMA_CTRL c)
  | .hdmaAbort m c => some (m, HUB_HDMA_CTRL c)
  | .bspiRead m _ => some (m, HUB_BSPI_CMD)
  | .bspiProgram m _ => some (m, HUB_BSPI_CMD)
  | .bspiErase4k m => some (m, HUB_BSPI_CMD)
  | .gpioLockArm m _ _ => some (m, GPIO_LOCK)
  | .gpioLockMaskWrite m _ => some (m, GPIO_LOCK_MASK)
  | .gpioLockCommit m _ => some (m, GPIO_LOCK)
  | .dbgAuthGo m => some (m, DBG_AUTH_CMD)
  | .dbgTokenDrop m => some (m, DBG_CTRL)
  | .pmcSelWrite m k _ => some (m, DBG_PMC_SEL k)
  | .bstMapqWrite m _ => some (m, BST_MAPQ)
  | _ => none

/-- The next unit of slot n's stream, k bytes from offset o, is staged whole and no staging row of it holds an error. -/
def stagedUnit (s : State) (n o k : Nat) : Bool :=
  decide (s.bodyUnit n o k = .ready) && (s.badRows stageMacro (stageRows n o k).1 (stageRows n o k).2).isEmpty

/-- Slot n is in FRAMES between commands, and the next command word is `op` with count `c`. -/
def commandAt (s : State) (n op c : Nat) : Bool :=
  decide (s.ldState n = 4) && (s.slotAt n).cmd.isNone && stagedUnit s n (s.slotAt n).pos 4
    && decide (s.slotWord n (s.slotAt n).pos = op * 2 ^ 24 + c ∧ c < 2 ^ 24 ∧ op ∈ bodyOps)


/-- The engine with the cycles of an issue counted (R240). -/
def engCounted (s : State) (e : Nat) (is : Issue) : State := s.count (ENG_CYCLES_COUNT (e / 3) (e % 3)) is.cyc

/-- The state that the effect of an instruction acts on: cycles counted, the program row read and checked. -/
def engFetched (s : State) (e : Nat) (is : Issue) : State := (engCounted s e is).rowSee e (0x4000 + s.engPc e)

/-- An engine issues: it is RUNNING, not stalled and clocked, and the row it fetches has no uncorrectable error. -/
def engIssues (s : State) (e : Nat) (is : Issue) : Prop :=
  s.engState e = 1 ∧ (s.engAt e).stall = none ∧ s.eff (ENG_TRIO_CLK_EN (e / 3)) / 2 ^ (e % 3) % 2 = 1 ∧
  (engCounted s e is).rowErr e (0x4000 + s.engPc e) ≠ 2

/-- The condition of an instruction holds (R229). -/
def engCond (s : State) (e : Nat) (is : Issue) : Prop := is.cond ≠ 15 ∧ (engFetched s e is).condHolds e is.cond = true

/-- The instruction at ENG_PC is the END instruction of an active loop (R231). -/
def engAtEnd (s : State) (e : Nat) (is : Issue) : Bool :=
  (List.range ((engCounted s e is).ldepth e)).any fun i => decide (((engCounted s e is).engAt e).loopEnd i = s.engPc e)

/-- The instruction whose effect led from s to u completes and the next address follows by the loops (R231, R234). -/
def engGoesOn (s u : State) (e : Nat) (ue : Bool) : State :=
  let r := loopNext (s.engPc e) (u.engAt e) (u.ldepth e)
  ((u.setEng e r.2.2).setLdepth e r.2.1).engDone e (s.engPc e) r.1 ue true

/-- How an instruction that stores ends: it goes on, or its stream word waits at a full port with all else done (R197, R234). -/
def engEnds (s : State) (e : Nat) (is : Issue) (op : EngOp) : OpRes → State
  | .next u ue => engGoesOn s u e ue
  | .jump u npc => u.engDone e (s.engPc e) npc false true
  | .wait => (engFetched s e is).updEng e fun g => { g with stall := some (.retry is op) }
  | .word u i w =>
    let r := loopNext (s.engPc e) (u.engAt e) (u.ldepth e)
    (((u.setEng e r.2.2).setLdepth e r.2.1).setEngPc e r.1).updEng e fun g => { g with stall := some (.word i w) }
  | .exc u c d => u.engFault e c d
  | .halt u code => u.engHalt e code

/-- The reads a command slot may issue: their bank takes a command and no older write of their address is queued (R252, R253). -/
def slotReads (s : State) (n : Nat) (busy : List Nat) : List Beat :=
  (s.pcAt n).rq.filter fun b => !busy.contains (s.rowBankOf b.addr).2 && !(s.pcAt n).readWaits b

/-- The writes a command slot may issue (R252, R253). -/
def slotWrites (s : State) (n : Nat) (busy : List Nat) : List Beat :=
  (s.pcAt n).wq.filter fun b => !busy.contains (s.rowBankOf b.addr).2 && !(s.pcAt n).writeWaits b

/-- The controller with the turn of this slot (R253). -/
def slotTurned (s : State) (n : Nat) (busy : List Nat) : State :=
  s.setPc n { s.pcAt n with turn := s.writeTurn n (s.pcAt n) (!(slotReads s n busy).isEmpty) }

/-- The beat at hazard priority: the older of the first ready hazard write and the first ready read that a younger write of its
address waits for (R252). -/
def slotHazard (s : State) (n : Nat) (busy : List Nat) : Option (Bool × Beat) :=
  let w := (slotWrites s n busy).find? (·.hz)
  let r := (slotReads s n busy).find? fun r => (s.pcAt n).wq.any fun w => w.addr = r.addr && decide (r.age < w.age)
  match w, r with
  | some w, some r => if w.age < r.age then some (true, w) else some (false, r)
  | some w, none => some (true, w)
  | none, some r => some (false, r)
  | none, none => none

/-- No forced refresh and no refresh management at twice the threshold is due (R244, R258). -/
def slotOpen (s : State) (n : Nat) (busy : List Nat) : Prop :=
  s.pcState n = 1 ∧ s.f (DMC_REF_STATUS_DEBT n) < 48 * max 1 (s.eff (DMC_REF_POSTPONE_LIM n)) ∧ s.rfmDue (s.pcAt n) busy true = none

/-- The controller's arbiter once the ready reads have raised their ports' requests (R254). -/
def slotAsked (s : State) (n : Nat) (busy : List Nat) : State :=
  (((slotTurned s n busy).pcPorts n (slotReads s n busy)).reclass n).arbGrant (.pc n)

/-- A reading in quarters of a degree Celsius: the 12 bits of PWR_TEMPn.TEMP are two's complement (R375). -/
def quarters (v : Nat) : Int := if v % 4096 < 2048 then (v % 4096 : Nat) else ((v % 4096 : Nat) : Int) - 4096

/-- The device once a conversion's 64 readings are stored and MAX and HOTTEST show them (R375). -/
def converted (s : State) (raw : List Nat) : State :=
  ((List.range 64).foldl (fun t n => t.setF (PWR_TEMP_TEMP n) (raw.getD n 0)) (s.applyLive PWR_THERM_CFG_WARN_C)).thermShow

/-- Sensor n, valid, reads at least WARN_C less `d` quarters of a degree. -/
def warm (t : State) (d : Int) (n : Nat) : Prop :=
  n < 64 ∧ t.bit (PWR_TEMP_VALID n) = true ∧ 4 * (t.f PWR_THERM_CFG_WARN_C : Int) - d ≤ quarters (t.f (PWR_TEMP_TEMP n))
end Sys2Proof.Certificates.Slice0

open Sys2Proof Sys2Proof.Machine Sys2Proof.Machine.Reg Sys2Proof.Certificates.Slice0

/-- A step takes the front command; with none it is a tick (log entry 1, the model's choice). -/
def Obligations.StepRunsTheFrontCommand : Prop :=
  (∀ (c : Instr) (rest : List Instr) (s : State), step { s with pending := c :: rest } = exec c { s with pending := rest }) ∧
  (∀ s : State, s.pending = [] → step s = .next s.idleTick)

/-- No command stops the block. -/
def Obligations.EveryStepAnswersANextState : Prop :=
  (∀ (c : Instr) (s : State), ∃ t, exec c s = .next t) ∧ (∀ s : State, ∃ t, step s = .next t)

/-- First in, first out: each step takes the front command and leaves the rest as it was. -/
def Obligations.StepsConsumeTheQueueInOrder : Prop :=
  (∀ (c : Instr) (s t : State), exec c s = .next t → t.pending = s.pending) ∧
  (∀ s t : State, step s = .next t → t.pending = s.pending.tail)

/-- The invariant of every step: HBM canonical, HUB_DROPLOG within 32 entries (R398), the event queues within 256 and 64 records (R401). -/
def Obligations.EveryStepKeepsTheInvariant : Prop :=
  ∀ s t : State, s.Inv → step s = .next t → t.Inv

/-- What reset leaves: the invariant, OWNER 2 everywhere (R396), regions FREE and unleased (R21), nothing committed (R394), empty logs (R398, R401). -/
def Obligations.ResetMeetsTheInvariant : Prop :=
  State.reset.Inv ∧ State.reset.pending = [] ∧
  (∀ F ∈ [HUB_CTRL_OWNER, PWR_CTRL_OWNER, CLK_CTRL_OWNER, CFG_CTRL_OWNER, NOC_CTRL_OWNER, DMC_GLB_CTRL_OWNER, SEC_CTRL_OWNER,
    LNE_GLB_CTRL_OWNER, PCI_CTRL_OWNER, GPIO_CTRL_OWNER, DBG_CTRL_OWNER, BST_CTRL_OWNER, MIR_CTRL_OWNER, ECC_CTRL_OWNER],
    State.reset.f F = 2) ∧
  (∀ d < 8, State.reset.f (CMX_DIE_CTRL_OWNER d) = 2 ∧ State.reset.f (FAB_DIE_CTRL_OWNER d) = 2) ∧
  (∀ r < 64, State.reset.f (HUB_RGN_STATE_STATE r) = 0 ∧ State.reset.f (HUB_RGN_STATE_LEASE r) = 0 ∧
    State.reset.f (ENG_TRIO_CTRL_OWNER r) = 2) ∧
  (∀ e < 192, State.reset.f (ENG_STATUS_STATE (e / 3) (e % 3)) = 0) ∧
  State.reset.committed = false ∧ (∀ k < 4, State.reset.f (FEAT_ACCEPT_ACCEPT k) = 0) ∧
  State.reset.drop = ⟨[], false⟩ ∧ State.reset.ev.fw = [] ∧ State.reset.ev.board = []

/-- A refused register command does only what the check says (R27, R28, R396, R429). -/
def Obligations.RefusedCommandsDoOnlyTheCheck : Prop :=
  ∀ (c : Instr) (s : State) (m : Master) (a : Nat), commandRegister c = some (m, a) → s.gate m a ≠ .pass →
    exec c s = .next (s.refuse m a (s.gate m a))

/-- Who may write (R27, R28, R396) and what a refusal does (R28, R396, R398). -/
def Obligations.TheAccessCheckFollowsTheOwner : Prop :=
  (∀ (s : State) (m : Master) (a : Nat) (F : Fld), (m = .board ∨ m = .host ∨ m = .firmware) → ownerFld a = some F →
    (0xF010000000 ≤ a → dieIsolated s ((a - 0xF010000000) / 0x1000000) = false) →
    s.gate m a = if s.f F = m.num then .pass else .drop .notOwner) ∧
  (∀ (s : State) (m : Master) (a : Nat) (F : Fld), (m = .board ∨ m = .host ∨ m = .firmware) → ownerFld a = some F →
    0xF010000000 ≤ a → dieIsolated s ((a - 0xF010000000) / 0x1000000) = true → s.gate m a = .error) ∧
  (∀ (s : State) (l i a : Nat), s.gate (.tenant l i) a = .denied l) ∧
  (∀ (s : State) (m : Master) (a : Nat) (c : DropCause), s.drop.entries.length < 32 →
    s.refuse m a (.drop c) = { s with drop := { s.drop with entries := s.drop.entries ++ [⟨m.num, c, a⟩] }, resp := .dropped }) ∧
  (∀ (s : State) (l i a : Nat),
    s.refuse (.tenant l i) a (.denied l) = ((s.logDrop (.tenant l i) .mgmtDenied a).raise .MGMT_DENIED true l i).answer .err) ∧
  (∀ (s : State) (m : Master) (a : Nat), s.refuse m a .error = { s with resp := .err })

/-- What raising an event does (R17, R401, R402). -/
def Obligations.RaisedEventsReachTheQueues : Prop :=
  ∀ (s : State) (e : Ev) (tenant : Bool) (lease inst : Nat),
    let ten := tenant && decide (lease ≠ 0)
    let r : EvRec := ⟨e, ten, if ten then lease else 0, inst, s.nocTime % 2 ^ 48, s.ev.fwSeq % 2 ^ 32⟩
    let b : EvRec := { r with seqn := s.ev.boardSeq % 2 ^ 32 }
    let t := s.raise e tenant lease inst
    t.ev.fw = (if s.ev.fw.length < 256 then s.ev.fw ++ [r] else s.ev.fw) ∧ t.ev.fwSeq = s.ev.fwSeq + 1 ∧
    (if ten = false ∧ 1 ≤ e.sev then
      t.ev.board = (if s.ev.board.length < 64 then s.ev.board ++ [b] else s.ev.board) ∧ t.ev.boardSeq = s.ev.boardSeq + 1
     else t.ev.board = s.ev.board ∧ t.ev.boardSeq = s.ev.boardSeq) ∧
    s.EvFrame t

/-- R5, over the accesses by which every register is read and written. -/
def Obligations.AccessesOutsideRegistersAreRefused : Prop :=
  (∀ (s : State) (m : Master) (a v n aux : Nat) (b : Block), (∀ l i, m ≠ .tenant l i) → isHbm a = false → blockOf a = some b →
    (b = .FAB → dieIsolated s ((a - 0xF010000000) / 0x1000000) = false) →
    (n ≠ 4 ∨ a % 4 ≠ 0 → s.mgmtWrite m a v n aux = (s.logDrop m .align a).answer .err) ∧
    (n = 4 → a % 4 = 0 → decodeReg a = none → s.mgmtWrite m a v n aux = s.answer (.ok 0))) ∧
  (∀ (s t : State) (m : Master) (a n : Nat) (peek : Bool) (b : Block), t = s.xsweep → (∀ l i, m ≠ .tenant l i) → isHbm a = false →
    blockOf a = some b → (b = .FAB → dieIsolated t ((a - 0xF010000000) / 0x1000000) = false) →
    (n ≠ 4 ∨ a % 4 ≠ 0 → s.mgmtRead m a n peek = (t.logDrop m .align a).answer .err) ∧
    (n = 4 → a % 4 = 0 → decodeReg a = none → s.mgmtRead m a n peek = t.answer (.ok 0))) ∧
  (∀ (s : State) (m : Master) (a v n aux : Nat) (peek : Bool), (∀ l i, m ≠ .tenant l i) → isHbm a = false → blockOf a = none →
    s.mgmtWrite m a v n aux = s.answer .err ∧ s.mgmtRead m a n peek = s.xsweep.answer .err) ∧
  (∀ s : State, s.xback = [] → s.xsweep = s) ∧
  (∀ (s : State) (m : Master) (a v aux : Nat), exec (.registerWrite m a v aux) s = .next (s.mgmtWrite m a v 4 aux) ∧
    exec (.rcRead m a) s = .next (s.mgmtRead m a 4 false))

/-- R27: the window of an isolated die, and the CMX block beside it. -/
def Obligations.IsolatedDieWindowsAnswerErrors : Prop :=
  (∀ (s : State) (m : Master) (d a v aux : Nat), (∀ l i, m ≠ .tenant l i) → d < 8 → dieIsolated s d = true →
    0xF010000000 + d * 0x1000000 ≤ a → a < 0xF010000000 + (d + 1) * 0x1000000 →
    exec (.registerWrite m a v aux) s = .next (s.answer .err) ∧
    (dieIsolated s.xsweep d = true → exec (.rcRead m a) s = .next (s.xsweep.answer .err)) ∧ s.gate m a = .error) ∧
  (∀ (s : State) (m : Master) (a : Nat), (m = .board ∨ m = .host ∨ m = .firmware) → blockOf a = some .CMX →
    s.gate m a = (if s.f (CMX_DIE_CTRL_OWNER ((a - 0xF004000000) / 0x100000)) = m.num then .pass else .drop .notOwner) ∧
    ∀ k ix, a % 4 = 0 → decodeReg a = some (k, ix) →
      exec (.rcRead m a) s = .next ((s.xsweep.regRead k ix a false).1.answer (.ok (s.xsweep.regRead k ix a false).2)))

/-- R6 and R10 to R13 for one field of a written register. -/
def Obligations.FieldsFollowTheirTypeAndClass : Prop :=
  ∀ (s u : State) (m : Master) (id : RegId) (ix : List Nat) (a v : Nat) (f : FieldSpec),
    let F : Fld := ⟨a, f.lo, f.w⟩
    let x := fv v f.lo f.w
    let t := State.fieldPut s m id ix a v u f
    (f.ty = .ro ∨ f.ty = .rc ∨ f.ty = .wo → t = u) ∧
    (f.ty = .w1c → (∀ k < f.w, (t.f F).testBit k = ((u.f F).testBit k && !x.testBit k)) ∧
      ∀ G : Fld, G.key ≠ F.key → t.f G = u.f G) ∧
    (f.ty = .rw ∨ f.ty = .rwl →
      (f.cls = .boot → s.committed = true → t = u) ∧
      (∀ y, f.cls = .boot → s.committed = false → fieldStore id f.lo x = some y → t = u.setF F y) ∧
      (∀ y, f.cls = .quiet → fieldStore id f.lo x = some y → s.quietBusy id ix = true →
        t = u.quietRefused id ix) ∧
      (∀ y, f.cls = .quiet → fieldStore id f.lo x = some y → s.quietBusy id ix = false → t = u.setF F y) ∧
      (∀ y, f.cls = .live → f.once = false → fieldStore id f.lo x = some y →
        t.f F = y % 2 ^ f.w ∧ t.eff F = u.eff F ∧ (t.applyLive F).eff F = y % 2 ^ f.w ∧
          ∀ G : Fld, G.key ≠ F.key → t.f G = u.f G ∧ t.eff G = u.eff G))

/-- REGISTER_WRITE on a register of mixed classes and on a QUIET one, LIVE_FIELD_APPLY on a LIVE field (R10 to R13). -/
def Obligations.RegisterWritesJudgeEachField : Prop :=
  (∀ (s : State) (m : Master) (v aux : Nat), s.gate m PWR_THERM_CFG = .pass → s.committed = false →
    exec (.registerWrite m PWR_THERM_CFG v aux) s =
      .next (((s.answer (.ok 0)).setF PWR_THERM_CFG_TRIP_C (min 125 (max 100 (v / 2 ^ 8 % 2 ^ 8)))).writeLive
        PWR_THERM_CFG_WARN_C (v % 2 ^ 8)).xsweep) ∧
  (∀ (s : State) (m : Master) (v aux : Nat), s.gate m PWR_THERM_CFG = .pass → s.committed = true →
    exec (.registerWrite m PWR_THERM_CFG v aux) s =
      .next (((s.answer (.ok 0)).logDrop m .bootLocked PWR_THERM_CFG).writeLive PWR_THERM_CFG_WARN_C (v % 2 ^ 8)).xsweep) ∧
  (∀ (s : State) (m : Master) (v aux : Nat), s.gate m (HDMA_LEN 2) = .pass → s.bit (HUB_HDMA_STATUS_BUSY 2) = false →
    exec (.registerWrite m (HDMA_LEN 2) v aux) s = .next ((s.answer (.ok 0)).setF (HDMA_LEN_LEN 2) v).xsweep) ∧
  (∀ (s : State) (m : Master) (v aux : Nat), s.gate m (HDMA_LEN 2) = .pass → s.bit (HUB_HDMA_STATUS_BUSY 2) = true →
    exec (.registerWrite m (HDMA_LEN 2) v aux) s = .next ((s.answer (.ok 0)).setF (HUB_HDMA_STATUS_FIELD_BUSY 2) 1).xsweep) ∧
  (∀ (s t : State) (a lo : Nat), t = s.xsweep →
    (decodeReg a = none → exec (.liveFieldApply a lo) s = .next t) ∧
    (∀ k ix, decodeReg a = some (k, ix) →
      (fieldAt k.fields lo = none → exec (.liveFieldApply a lo) s = .next t) ∧
      ∀ f, fieldAt k.fields lo = some f →
        let waits := f.cls = .live ∧ ownBoundary k.id lo ∨ f.cls = .quiet ∧ t.quietBusy k.id ix ∨ t.noEdge k.id ix lo
        let u := (if k.id = .GPIO_PIN_PAD then t.padNote else t).applyLive ⟨a, f.lo, f.w⟩
        (waits → exec (.liveFieldApply a lo) s = .next t) ∧
        (¬ waits → k.id ∉ [.DBG_BR_CORE, .DBG_BR_ENG, .DBG_BR_RGN, .DBG_TRC_CTRL, .LNE_XP_EQ_CTRL, .LNE_XP_EQ_W] →
          exec (.liveFieldApply a lo) s = .next u ∧
          u.eff ⟨a, f.lo, f.w⟩ = (if k.id = .GPIO_PIN_PAD then t.padNote else t).f ⟨a, f.lo, f.w⟩) ∧
        (¬ waits → k.id ∈ [.DBG_BR_CORE, .DBG_BR_ENG, .DBG_BR_RGN] →
          exec (.liveFieldApply a lo) s = .next (if lo = 16 then u.haltOnApplied a else u)) ∧
        (¬ waits → k.id = .DBG_TRC_CTRL →
          exec (.liveFieldApply a lo) s = .next (if lo = 0 then u.outApplied (t.eff DBG_TRC_CTRL_OUT) else u)) ∧
        (¬ waits → k.id = .LNE_XP_EQ_CTRL → ∀ n, ix = [n] → exec (.liveFieldApply a lo) s = .next (u.laneOverride n)) ∧
        (¬ waits → k.id = .LNE_XP_EQ_W → ∀ n j, ix = [n, j] → exec (.liveFieldApply a lo) s = .next (u.laneOverride n))))

/-- R6 and R9 on a register with RC fields. -/
def Obligations.RegisterReadsReturnAndClear : Prop :=
  (∀ (s t : State) (m : Master), t = s.xsweep → (m = .board ∨ m = .host ∨ m = .firmware) → nget t.latch CFG_INTEG_STATUS = 0 →
    exec (.rcRead m CFG_INTEG_STATUS) s =
      .next (((t.setF CFG_INTEG_STATUS_CORR 0).setF CFG_INTEG_STATUS_STUCK 0).answer
        (.ok (t.f CFG_INTEG_STATUS_GOLD_DIE * 2 ^ 24 + t.f CFG_INTEG_STATUS_SWEEP_LATE * 2 ^ 16 +
          t.f CFG_INTEG_STATUS_CORR * 2 ^ 8 + t.f CFG_INTEG_STATUS_STUCK)))) ∧
  (∀ s t : State, t = s.xsweep → nget t.latch CFG_INTEG_STATUS = 0 →
    exec (.rcRead .debug CFG_INTEG_STATUS) s =
      .next (t.answer (.ok (t.f CFG_INTEG_STATUS_GOLD_DIE * 2 ^ 24 + t.f CFG_INTEG_STATUS_SWEEP_LATE * 2 ^ 16 +
          t.f CFG_INTEG_STATUS_CORR * 2 ^ 8 + t.f CFG_INTEG_STATUS_STUCK))))

/-- Reads after writes of HBM, with byte enables (R157); an unwritten byte reads 0 (R261). -/
def Obligations.HbmReadsAsItWasWritten : Prop :=
  (∀ (s : State) (a c : Nat) (l : List Byte),
    (s.setBytes a l).byte c = if h : a ≤ c ∧ c - a < l.length then l[c - a]'h.2 else s.byte c) ∧
  (∀ (s : State) (a c : Nat) (l : List Byte) (en : List Bool), en.length = l.length →
    (s.setBytesEn a l en).byte c = if a ≤ c ∧ en[c - a]? = some true then l.getD (c - a) 0 else s.byte c) ∧
  (∀ (s : State) (a : Nat) (l : List Byte) (en : List Bool), Memory.wf s.mem →
    Memory.wf (s.setBytes a l).mem ∧ Memory.wf (s.setBytesEn a l en).mem) ∧
  (∀ c, State.reset.byte c = 0)

/-- LEASE_WRITE and RELEASE by the state of the region (R21, R22). -/
def Obligations.RegionLeaseAndReleaseCommands : Prop :=
  (∀ (s : State) (m : Master) (r l : Nat) (win : List (Nat × Nat)), s.gate m (HUB_RGN_STATE r) = .pass →
    s.rState r = 0 → l ≠ s.lease r → l ≠ 0 → exec (.leaseWrite m r l win) s = .next (
      { (((((s.answer (.ok 0)).setF (HUB_RGN_STATE_LEASE r) l).trioClear r).ksOrphans).quadOrphans).seams r with
      leaseWin := SMap.put (fun _ => []) ((((((s.answer (.ok 0)).setF (HUB_RGN_STATE_LEASE r) l).trioClear r).ksOrphans).quadOrphans).seams r).leaseWin l win })) ∧
  (∀ (s : State) (m : Master) (r : Nat) (win : List (Nat × Nat)), s.gate m (HUB_RGN_STATE r) = .pass →
    s.rState r = 0 → s.lease r ≠ 0 →
    exec (.leaseWrite m r 0 win) s = .next ((((((s.answer (.ok 0)).setF (HUB_RGN_STATE_LEASE r) 0).trioClear r).ksOrphans).quadOrphans).seams r)) ∧
  (∀ (s : State) (m : Master) (r l : Nat) (win : List (Nat × Nat)), s.gate m (HUB_RGN_STATE r) = .pass →
    s.rState r ≠ 0 → exec (.leaseWrite m r l win) s = .next ((s.answer (.ok 0)).setF HUB_STATUS_FIELD_BUSY 1)) ∧
  (∀ (s : State) (m : Master) (r : Nat), s.gate m (HUB_RGN_STATE r) = .pass → s.rState r = 2 ∨ s.rState r = 3 →
    exec (.release m r) s = .next (((s.answer (.ok 0)).setF (HUB_RGN_STATE_REL_PEND r) 1).clearRegion r)) ∧
  (∀ (s : State) (m : Master) (r : Nat), s.gate m (HUB_RGN_STATE r) = .pass → s.rState r = 4 →
    exec (.release m r) s = .next ((s.answer (.ok 0)).setF (HUB_RGN_STATE_REL_PEND r) 1)) ∧
  (∀ (s : State) (m : Master) (r : Nat), s.gate m (HUB_RGN_STATE r) = .pass → s.rState r = 0 ∨ s.rState r = 5 →
    exec (.release m r) s = .next ((s.answer (.ok 0)).logDrop m .badCode (HUB_RGN_STATE r))) ∧
  (∀ (s : State) (r : Nat), s.envMoves r = false → s.underCapture r = false → s.clearRegion r = s.beginClearing r) ∧
  (∀ (s : State) (r : Nat), s.envMoves r = true ∨ s.underCapture r = true →
    s.clearRegion r = s.updRgn r fun x => { x with wantClear := true })

/-- The envelope's sequences and the end of CLEARING (R22, R50 to R57). -/
def Obligations.EnvelopeAndClearingCommands : Prop :=
  (∀ (s : State) (r : Nat) (delta : List (Nat × Byte)), 1 ≤ s.envStep r → s.envStep r ≤ 4 →
    s.cap.gated.contains r = false → s.capHolds r = false → exec (.envCloseDone r delta) s = .next (
      let u := ((s.fabDelta r delta).setEnvStep r 2).gateTaps r false
      ((u.envParked r fun v => v.ownShadow r).afterClose r).mirPump)) ∧
  (∀ (s : State) (r : Nat) (delta : List (Nat × Byte)), 1 ≤ s.envStep r → s.envStep r ≤ 4 →
    s.cap.gated.contains r = false → s.capHolds r = true →
    exec (.envCloseDone r delta) s = .next (((((s.fabDelta r delta).setEnvStep r 2).gateTaps r (!(s.rgnAt r).forced)).capGated r).mirPump)) ∧
  (∀ (s : State) (r : Nat) (copy : State → State),
    s.envParked r copy = (if (s.envPark r).envSrc r = 1 then copy ((s.envPark r).setEnvStep r 4) else s.envPark r).setEnvStep r 5) ∧
  (∀ (s : State) (r ns : Nat), s.envStep r = 6 → s.openingSlot r = none → (s.envOpened r).underCapture r = false →
    exec (.envOpenDone r ns) s = .next (((((s.envOpened r).capFinish).afterOpen r false).capServe).mirPump)) ∧
  (∀ (s : State) (r ns n : Nat), s.envStep r = 6 → s.openingSlot r = some n →
    ((s.envOpened r).loadOpened n).underCapture r = false →
    exec (.envOpenDone r ns) s = .next ((((((s.envOpened r).loadOpened n).capFinish).afterOpen r true).capServe).mirPump)) ∧
  (∀ (s : State) (node r k : Nat), unitOf node = .fabricNap r k → s.envStep r = 1 ∨ s.envStep r = 2 →
    exec (.napDrainTimeout node) s = .next ((s.cutPacket node).setEnvStep r 2)) ∧
  (∀ (s : State) (r : Nat), s.envStep r = 1 ∨ s.envStep r = 2 → exec (.envGateForce r) s = .next (
      (((s.setEnvStep r 2).setF (FAB_RGN_ENV_STATUS_FORCED (r / 8) (r % 8)) 1).updRgn r fun x => { x with forced := true }).raise
      .ENV_GATE_FORCED true (s.lease r) r)) ∧
  (∀ (s : State) (r : Nat), s.rState r = 5 → s.envStep r = 5 → s.bit (ENG_TRIO_PWR_CLEARING r) = false →
    (s.rgnAt r).zeroed = true → exec (.clearingEnd r) s = .next (
      let u := ((s.blankFrames (rgnBase r) rgnFrames).clearBallast r).updRgn r fun x =>
        { x with ess := EssMap.absent, reloc := false, forced := false, pers := false }
      (((if u.bit (HUB_RGN_STATE_REL_PEND r) then (u.setLease r 0).setF (HUB_RGN_STATE_REL_PEND r) 0 else u).slotCleared r).setRState r 0).seams r)) ∧
  (∀ (s : State) (node : Nat) (p : Packet), s.noc.heldReq.find? (fun q => q.dst = node) = some p →
    exec (.napHoldTimeout node) s = .next ((s.updNoc fun n => { n with heldReq := dropFirst (fun q => q.dst = node) n.heldReq }).respond p stErr []))

/-- The ring oscillators (R60). -/
def Obligations.OscillatorCommands : Prop :=
  (∀ (s : State) (m : Master) (d n : Nat), s.gate m (FAB_ROSC_CTRL d n) = .pass →
    s.bit (FAB_ROSC_CTRL_EN d n) = false →
    exec (.roscEnable m d n) s = .next (((s.answer (.ok 0)).setF (FAB_ROSC_CTRL_EN d n) 1).setRosc d n { s.rosc d n with gated := true, skip := true })) ∧
  (∀ (s : State) (m : Master) (d n : Nat), s.gate m (FAB_ROSC_CTRL d n) = .pass →
    s.bit (FAB_ROSC_CTRL_EN d n) = true → exec (.roscEnable m d n) s = .next ((s.answer (.ok 0)))) ∧
  (∀ (s : State) (d n : Nat), s.bit (FAB_ROSC_CTRL_EN d n) = true →
    exec (.roscSettled d n) s = .next (s.setRosc d n { s.rosc d n with gated := false })) ∧
  (∀ (s : State) (m : Master) (d n : Nat), s.gate m (FAB_ROSC_CTRL d n) = .pass →
    s.xback.contains (FAB_ROSC_TRIM_TRIM d n).key = false → exec (.roscDisable m d n) s = .next (
      ((s.answer (.ok 0)).setFs [(FAB_ROSC_CTRL_EN d n, 0), (FAB_ROSC_MEAS_VALID d n, 0), (FAB_ROSC_MEAS_COUNT d n, 0)]).setRosc d n
      { s.rosc d n with gated := false, skip := false })) ∧
  (∀ (s : State) (m : Master) (d n : Nat), s.gate m (FAB_ROSC_CTRL d n) = .pass →
    s.xback.contains (FAB_ROSC_TRIM_TRIM d n).key = true → exec (.roscDisable m d n) s = .next (
      (((s.answer (.ok 0)).setFs [(FAB_ROSC_CTRL_EN d n, 0), (FAB_ROSC_MEAS_VALID d n, 0), (FAB_ROSC_MEAS_COUNT d n, 0)]).setRosc d n
      { s.rosc d n with gated := false, skip := false }).roscBack d n)) ∧
  (∀ (s : State) (d n cnt : Nat), s.bit (FAB_ROSC_CTRL_EN d n) = true → (s.rosc d n).skip = false →
    (s.rosc d n).gated = false → (s.rosc d n).expert = true →
    exec (.roscWindowEnd d n cnt) s = .next (s.setFs [(FAB_ROSC_MEAS_COUNT d n, min cnt (2 ^ 20 - 1)), (FAB_ROSC_MEAS_VALID d n, 1)])) ∧
  (∀ (s : State) (d n cnt : Nat), s.bit (FAB_ROSC_CTRL_EN d n) = true → (s.rosc d n).skip = false →
    (s.rosc d n).gated = false → (s.rosc d n).expert = false →
    exec (.roscWindowEnd d n cnt) s = .next (((s.setFs [(FAB_ROSC_MEAS_COUNT d n, min cnt (2 ^ 20 - 1)), (FAB_ROSC_MEAS_VALID d n, 1)]).setF (FAB_ROSC_TRIM_TRIM d n) (s.free 8)).freeNext)) ∧
  (∀ (s : State) (d n cnt : Nat), s.bit (FAB_ROSC_CTRL_EN d n) = true →
    (s.rosc d n).skip = true ∨ (s.rosc d n).gated = true → (s.rosc d n).expert = true →
    exec (.roscWindowEnd d n cnt) s = .next (s.setRosc d n { s.rosc d n with skip := (s.rosc d n).gated }))

/-- The small flash of a die (R61, R62). -/
def Obligations.SmallFlashCommands : Prop :=
  (∀ (s : State) (m : Master) (d page : Nat), s.gate m (FAB_FL_CTRL d) = .pass →
    s.bit (FAB_FL_STATUS_BUSY d) = false →
    exec (.flRead m d page) s = .next (((((s.answer (.ok 0)).setF (FAB_FL_CTRL_PAGE d) page).setFlOp d 1).setF (FAB_FL_STATUS_BUSY d) 1))) ∧
  (∀ (s : State) (m : Master) (d page : Nat), s.gate m (FAB_FL_CTRL d) = .pass → s.bit (FAB_FL_STATUS_BUSY d) = true →
    exec (.flRead m d page) s = .next ((s.answer (.ok 0)).setF (FAB_FL_STATUS_FIELD_BUSY d) 1)) ∧
  (∀ (s : State) (m : Master) (d page : Nat), s.gate m (FAB_FL_CTRL d) = .pass →
    s.bit (FAB_FL_STATUS_BUSY d) = false →
    ((s.answer (.ok 0)).setF (FAB_FL_CTRL_PAGE d) page).bit HUB_SUPPLY_NV_OK = true →
    exec (.flWrite m d page) s = .next (
      let t := ((((s.answer (.ok 0)).setF (FAB_FL_CTRL_PAGE d) page).setFlOp d 2).setF (FAB_FL_STATUS_BUSY d) 1)
      t.flErase d (t.flOther d (t.f (FAB_FL_CTRL_PAGE d))))) ∧
  (∀ (s : State) (m : Master) (d page : Nat), s.gate m (FAB_FL_CTRL d) = .pass →
    s.bit (FAB_FL_STATUS_BUSY d) = false →
    ((s.answer (.ok 0)).setF (FAB_FL_CTRL_PAGE d) page).bit HUB_SUPPLY_NV_OK = false →
    exec (.flWrite m d page) s = .next (((s.answer (.ok 0)).setF (FAB_FL_CTRL_PAGE d) page).setFs [(FAB_FL_STATUS_ERR d, 1), (FAB_FL_STATUS_DONE d, 1)])) ∧
  (∀ (s : State) (m : Master) (d page : Nat), s.gate m (FAB_FL_CTRL d) = .pass → s.bit (FAB_FL_STATUS_BUSY d) = true →
    exec (.flWrite m d page) s = .next ((s.answer (.ok 0)).setF (FAB_FL_STATUS_FIELD_BUSY d) 1)) ∧
  (∀ (s : State) (m : Master) (d page : Nat), s.gate m (FAB_FL_CTRL d) = .pass →
    s.bit (FAB_FL_STATUS_BUSY d) = false →
    ((s.answer (.ok 0)).setF (FAB_FL_CTRL_PAGE d) page).bit HUB_SUPPLY_NV_OK = true →
    exec (.flErase m d page) s = .next (((((s.answer (.ok 0)).setF (FAB_FL_CTRL_PAGE d) page).setFlOp d 3).setF (FAB_FL_STATUS_BUSY d) 1))) ∧
  (∀ (s : State) (m : Master) (d page : Nat), s.gate m (FAB_FL_CTRL d) = .pass →
    s.bit (FAB_FL_STATUS_BUSY d) = false →
    ((s.answer (.ok 0)).setF (FAB_FL_CTRL_PAGE d) page).bit HUB_SUPPLY_NV_OK = false →
    exec (.flErase m d page) s = .next (((s.answer (.ok 0)).setF (FAB_FL_CTRL_PAGE d) page).setFs [(FAB_FL_STATUS_ERR d, 1), (FAB_FL_STATUS_DONE d, 1)])) ∧
  (∀ (s : State) (m : Master) (d page : Nat), s.gate m (FAB_FL_CTRL d) = .pass → s.bit (FAB_FL_STATUS_BUSY d) = true →
    exec (.flErase m d page) s = .next ((s.answer (.ok 0)).setF (FAB_FL_STATUS_FIELD_BUSY d) 1)) ∧
  (∀ (s : State) (d q : Nat) (ok : Bool), s.flOp d = 1 → s.flCopy d (s.f (FAB_FL_CTRL_PAGE d)) = some q →
    exec (.flOpEnd d ok) s = .next (((s.setFlBuf d (s.flPage d q).data).setFs [(FAB_FL_STATUS_SEQ d, (s.flPage d q).seq), (FAB_FL_STATUS_EMPTY d, 0)]).flEnd d 0)) ∧
  (∀ (s : State) (d : Nat) (ok : Bool), s.flOp d = 1 → s.flCopy d (s.f (FAB_FL_CTRL_PAGE d)) = none →
    exec (.flOpEnd d ok) s = .next (((s.setFlBuf d []).setF (FAB_FL_STATUS_EMPTY d) 1).flEnd d 0)) ∧
  (∀ (s : State) (d c : Nat) (ok : Bool), s.flOp d = 2 → s.flCopy d (s.f (FAB_FL_CTRL_PAGE d)) = some c →
    exec (.flOpEnd d ok) s = .next (
      let q := s.flOther d (s.f (FAB_FL_CTRL_PAGE d))
      let t := s.setFlPage d q ⟨ok, ((s.flPage d c).seq + 1) % 65536, s.flBuf d, (s.flPage d q).wear⟩
      if ok then (t.setF (FAB_FL_STATUS_SEQ d) (t.flPage d q).seq).flWorn d (decide (10000 < (s.flPage d q).wear)) else t.flEnd d 2)) ∧
  (∀ (s : State) (d : Nat) (ok : Bool), s.flOp d = 3 → exec (.flOpEnd d ok) s = .next (
      let p := s.f (FAB_FL_CTRL_PAGE d)
      let t := (s.flErase d (2 * p)).flErase d (2 * p + 1)
      t.flWorn d (decide (10000 < (t.flPage d (2 * p)).wear ∨ 10000 < (t.flPage d (2 * p + 1)).wear))))

/-- The serial ports (R63). -/
def Obligations.SerialPortCommands : Prop :=
  (∀ (s : State) (m : Master) (d p : Nat), s.gate m (FAB_SP_CTRL d p) = .pass →
    exec (.spEnable m d p) s = .next (((s.answer (.ok 0)).setF (FAB_SP_CTRL_EN d p) 1).spShow d p)) ∧
  (∀ (s : State) (m : Master) (d p : Nat), s.gate m (FAB_SP_CTRL d p) = .pass →
    exec (.spDisable m d p) s = .next ((((s.answer (.ok 0)).setF (FAB_SP_CTRL_EN d p) 0).setSerial d p { s.serialAt d p with rd := 0, busy := false, bus := false }).spShow d p)) ∧
  (∀ (s : State) (m : Master) (d p v : Nat), s.gate m (FAB_SP_DATA d p) = .pass → s.spMgmt d p = true →
    (s.serialAt d p).tx.length < 16 →
    exec (.spDataPush m d p v) s = .next (((s.answer (.ok 0)).setSerial d p { s.serialAt d p with tx := (s.serialAt d p).tx ++ [BitVec.ofNat 8 v] }).spShow d p)) ∧
  (∀ (s : State) (m : Master) (d p v : Nat), s.gate m (FAB_SP_DATA d p) = .pass → s.spMgmt d p = true →
    ¬ (s.serialAt d p).tx.length < 16 →
    exec (.spDataPush m d p v) s = .next ((s.answer (.ok 0)).setF (FAB_SP_STATUS_OVERRUN d p) 1)) ∧
  (∀ (s : State) (m : Master) (d p v : Nat), s.gate m (FAB_SP_DATA d p) = .pass → s.spMgmt d p = false →
    exec (.spDataPush m d p v) s = .next ((s.answer (.ok 0)))) ∧
  (∀ (s : State) (d p : Nat) (peek : Bool), dieIsolated s d = true →
    exec (.spDataPop d p peek) s = .next (s.answer .err)) ∧
  (∀ (s : State) (d p : Nat) (peek : Bool), dieIsolated s d = false →
    s.spMgmt d p = false ∨ (s.serialAt d p).rx = [] → exec (.spDataPop d p peek) s = .next (s.answer (.ok 0))) ∧
  (∀ (s : State) (d p : Nat) (b : Byte) (t : List Byte), dieIsolated s d = false → s.spMgmt d p = true →
    (s.serialAt d p).rx = b :: t →
    exec (.spDataPop d p false) s = .next ((s.setSerial d p { s.serialAt d p with rx := t }).answer (.ok b.toNat))) ∧
  (∀ (s : State) (d p : Nat) (b : Byte) (t : List Byte), dieIsolated s d = false → s.spMgmt d p = true →
    (s.serialAt d p).rx = b :: t → exec (.spDataPop d p true) s = .next (s.answer (.ok b.toNat))) ∧
  (∀ (s : State) (m : Master) (d p : Nat), s.gate m (FAB_SP_DATA d p) = .pass → s.spMgmt d p = true →
    s.spMaster d p = true →
    exec (.spRdStart m d p) s = .next (((s.answer (.ok 0)).setSerial d p { s.serialAt d p with rd := s.f (FAB_SP_FMT_RDLEN d p) + 1 }).spShow d p)) ∧
  (∀ (s : State) (d p : Nat) (rx : Option Byte) (sent nack more : Bool) (fab : SpFabric), s.spRuns d p = false →
    exec (.spByteEnd d p rx sent nack more fab) s = .next (s)) ∧
  (∀ (s : State) (d p : Nat) (rx : Option Byte) (sent nack more : Bool) (fab : SpFabric), s.spRuns d p = true →
    exec (.spByteEnd d p rx sent nack more fab) s = .next (
      let u := s.spFabric d p fab
      let u := if sent then u.spSent d p else u
      let u := match rx with | none => u | some b => u.spGot d p b
      let u := u.setSerial d p { u.serialAt d p with busy := more }
      (if nack then u.setF (FAB_SP_STATUS_NACK d p) 1 else u).spShow d p)) ∧
  (∀ (s : State) (d p : Nat) (fab : SpFabric), s.spMgmt d p = true → s.spFabric d p fab = s) ∧
  (∀ (s : State) (d p : Nat) (b : Byte) (t : List Byte), (s.serialAt d p).tx = b :: t →
    s.spSent d p = { s.setSerial d p { s.serialAt d p with
        tx := t, bus := decide (s.spMode d p = 4) && !t.isEmpty } with out := s.out ++ s.spLine d p b t.isEmpty }) ∧
  (∀ (s : State) (d p : Nat) (b : Byte), s.spMode d p ≠ 4 → (s.serialAt d p).rx.length < 16 →
    s.spGot d p b = s.setSerial d p { s.serialAt d p with
        rx := (s.serialAt d p).rx ++ [b], rd := (s.serialAt d p).rd - 1, bus := false }) ∧
  (∀ (s : State) (d p : Nat) (b : Byte), s.spMode d p ≠ 4 → ¬ (s.serialAt d p).rx.length < 16 →
    s.spGot d p b = (s.setSerial d p { s.serialAt d p with rd := (s.serialAt d p).rd - 1, bus := false }).setF
        (FAB_SP_STATUS_OVERRUN d p) 1) ∧
  (∀ (s : State) (d p : Nat) (b : Byte), s.spMode d p = 4 → (s.serialAt d p).rd ≠ 0 →
    (s.serialAt d p).rx.length < 16 → s.spGot d p b = { s with out := s.out
          ++ (if (s.serialAt d p).bus then [] else [Out.serialStart (4 * d + p) (2 * s.f (FAB_SP_FMT_I2C_ADDR d p) + 1)])
          ++ (if (s.serialAt d p).rd = 1 then [Out.serialStop (4 * d + p)] else []) }.setSerial d p { s.serialAt d p with
        rx := (s.serialAt d p).rx ++ [b], rd := (s.serialAt d p).rd - 1, bus := decide (1 < (s.serialAt d p).rd) })

/-- POR_N, RESET_N and PROG_N (R73, R382 to R386). -/
def Obligations.ResetPinCommands : Prop :=
  (∀ (s : State) (mode role : Nat), s.pins.porN = false →
    exec (.porNRise mode role) s = .next (({ s with aonTicks := 0, nocTime := 0 }.updPins fun p => { p with porN := true, cfgMode := mode % 8, role := role % 2 }).tryPowerOn)) ∧
  (∀ (s : State), s.pins.porN = true → s.f HUB_SUPPLY_IN_RANGE = 0x3FF → s.boot.phase = 0 → s.tryPowerOn =
    let t := s.updBoot fun b => { b with mode := s.pins.cfgMode }
    ((if 5 ≤ t.boot.mode then t.logDrop .board .strap t.boot.mode else t).senseFuses.failOutShow).letGo false) ∧
  (∀ (s : State), s.pins.porN = true →
    exec (.porNFall) s = .next (s.restartPor.updPins fun p => { p with porN := false })) ∧
  (∀ (s : State), s.pins.resetN = true → s.boot.phase ≠ 0 →
    exec (.resetNAssert) s = .next ((s.updPins fun p => { p with resetN := false }).restartHeld)) ∧
  (∀ (s : State), s.pins.resetN = true → s.boot.phase = 0 →
    exec (.resetNAssert) s = .next (s.updPins fun p => { p with resetN := false })) ∧
  (∀ (s : State), s.pins.resetN = false → s.boot.phase ≠ 0 →
    exec (.resetNRelease) s = .next (((s.updPins fun p => { p with resetN := true, thermTripN := p.thermTripN || s.t0Passed }).failOutShow).letGo true)) ∧
  (∀ (s : State), s.pins.progN = true → s.running = true →
    exec (.progNAssert) s = .next ((s.updPins fun p => { p with progN := false }).progHold)) ∧
  (∀ (s : State), s.pins.progN = false → s.running = true → s.boot.phase = 7 →
    exec (.progNRelease) s = .next ((s.updPins fun p => { p with progN := true }).progBoot)) ∧
  (∀ (s : State), s.recReady = true → s.h2fWord (s.f (MBX_H2F_CI_CI 0)) 0 % 65536 = 0x8006 → s.pins.progN = true →
    s.running = true → exec (.restart) s = .next (((s.recover 0x8006 fun t => (t, none)).progHold).progBoot))

/-- The supplies and the pin banks (R381 to R383, R412). -/
def Obligations.SupplyCommands : Prop :=
  (∀ (s : State) (k : Nat) (early : Bool), k < 9 → exec (.supplyInRange k early) s = .next (
      let t := s.setF HUB_SUPPLY_IN_RANGE (setBitN (s.f HUB_SUPPLY_IN_RANGE) k true)
      (((t.updPins fun p => { p with below := p.below.filter (· ≠ k) }).nvShow.seqCheck early).tryPowerOn).failOutShow)) ∧
  (∀ (s : State) (k : Nat) (floor early : Bool) (t u : State), k < 9 → t =
      (let a := s.seqCheck early
       let a := a.setF HUB_SUPPLY_IN_RANGE (setBitN (a.f HUB_SUPPLY_IN_RANGE) k false)
       if a.t0Passed then a.setF HUB_SUPPLY_DROOP 1 else a) → u = (if floor ∧ (k = 0 ∨ k = 1 ∨ k = 8) then
        ((t.updPins fun p => { p with below := if p.below.contains k then p.below else k :: p.below }).nvShow).nvAbandon
      else t) → ¬ (k = 8 ∧ u.t0Passed ∧ u.pins.resetN ∧ u.pins.thermTripN) →
    exec (.supplyOutOfRange k floor early) s = .next (u.failOutShow)) ∧
  (∀ (s : State) (k : Nat) (floor early : Bool) (t u : State), k < 9 → t =
      (let a := s.seqCheck early
       let a := a.setF HUB_SUPPLY_IN_RANGE (setBitN (a.f HUB_SUPPLY_IN_RANGE) k false)
       if a.t0Passed then a.setF HUB_SUPPLY_DROOP 1 else a) → u = (if floor ∧ (k = 0 ∨ k = 1 ∨ k = 8) then
        ((t.updPins fun p => { p with below := if p.below.contains k then p.below else k :: p.below }).nvShow).nvAbandon
      else t) → k = 8 ∧ u.t0Passed ∧ u.pins.resetN ∧ u.pins.thermTripN →
    exec (.supplyOutOfRange k floor early) s = .next (u.selfFail.failOutShow)) ∧
  (∀ (s : State) (b : Nat) (t : State), s.bankUp b = true →
    t = ((s.setF (GPIO_BANK_STATUS_LEVEL b) 0).banksShow).padNote → t.t0Passed = true →
    exec (.bankSupplyLoss b) s = .next (
      let u := t.setF HUB_SUPPLY_DROOP 1
      if u.bankMapped b then u.raise .GPIO_BANK_OFF false 0 noInst else u)) ∧
  (∀ (s : State) (b : Nat) (t : State), s.bankUp b = true →
    t = ((s.setF (GPIO_BANK_STATUS_LEVEL b) 0).banksShow).padNote → t.t0Passed = false →
    exec (.bankSupplyLoss b) s = .next (t)) ∧
  (∀ (s : State) (b level : Nat), b < 4 → s.bankUp b = false → level = 1 ∨ level = 2 →
    exec (.bankSupplyReturn b level) s = .next (((s.setF (GPIO_BANK_STATUS_LEVEL b) level).banksShow).padNote.tryPowerOn)) ∧
  (∀ (s : State) (b : Nat), s.bankUp b = false → exec (.bankSupplyLoss b) s = .next (s))

/-- The boot and the stream ports (R64 to R77, R97). -/
def Obligations.BootCommands : Prop :=
  (∀ (s : State) (m : Master), s.gate m CFG_BOOT_CTRL = .pass → s.boot.phase = 4 → exec (.shellReady m) s = .next (
      let t := ((s.answer (.ok 0)).updPins fun p => { p with cfgDone := true, cfgErr := false }).ripOff
      (t.commitNow.setF HUB_STATUS_SHELL_UP 1).updBoot fun b => { b with phase := 5 })) ∧
  (∀ (s : State) (m : Master), s.gate m CFG_BOOT_CTRL = .pass → s.boot.phase ≠ 4 →
    exec (.shellReady m) s = .next ((s.answer (.ok 0)))) ∧
  (∀ (s : State), s.boot.phase = 4 → s.dbg.halted.contains 0 = false →
    exec (.bootWdtExpire) s = .next ((s.attemptFail 0x18).bootGo (2 - s.attempts))) ∧
  (∀ (s : State) (k : Nat), s.boot.phase = 3 → s.masterMode = true → s.boot.flash ≠ 0 →
    exec (.bootFlashData k) s = .next (
      let k := min k (s.stageFree 4)
      let t := s.feed 4 ((List.range k).map fun i => s.flashByte (s.boot.off + i))
      t.updBoot fun b => { b with off := b.off + k })) ∧
  (∀ (s : State) (k : Nat), s.boot.phase ≠ 3 ∨ s.masterMode = false ∨ s.boot.flash = 0 →
    exec (.bootFlashData k) s = .next (s)) ∧
  (∀ (s : State), s.boot.phase = 1 → (s.pllLocks 0).boot.phase = 1 → (s.pllLocks 0).pllState 0 = 2 →
    exec (.pllLock 0) s = .next ((s.pllLocks 0).bootRom)) ∧
  (∀ (s : State) (p : Nat), p ≠ 0 → exec (.pllLock p) s = .next (s.pllLocks p)) ∧
  (∀ (s : State) (d : List Byte), s.taking 2 = true → s.streamLeft 2 = none → d.length ≤ s.stageFree 2 / 256 * 256 →
    exec (.sspWriteStream d) s = .next (s.feed 2 d)) ∧
  (∀ (s : State) (d : List Byte), s.taking 2 = true → s.streamLeft 2 = none → s.stageFree 2 / 256 * 256 < d.length →
    exec (.sspWriteStream d) s = .next ((s.feed 2 (d.take (s.stageFree 2 / 256 * 256))).slotFail 2 0x11)) ∧
  (∀ (s : State), exec (.sspReadStatus) s = .next (s.answer (.ok s.sspStatus))) ∧
  (∀ (s : State) (code : Nat), code ≠ 2 → code ≠ 5 → exec (.sspUnknownCommand code) s = .next (s)) ∧
  (∀ (s : State) (w : Nat), s.taking 3 = true → 4 ≤ s.stageFree 3 →
    exec (.pspWord w) s = .next (s.feed 3 (leBytes 4 w))) ∧
  (∀ (s : State) (w : Nat), s.f DBG_STATUS_LEVEL = 2 → s.boot.phase = 3 → s.boot.mode = 4 →
    exec (.cfgLoad w) s = .next ((s.updDbg fun x => { x with ir := 0x12 }).feed 4 (leBytes 4 w))) ∧
  (∀ (s : State) (w : Nat), s.f DBG_STATUS_LEVEL ≠ 2 →
    exec (.cfgLoad w) s = .next (s.updDbg fun x => { x with ir := 0xFF }))

/-- The control of load slots (R78 to R85, R92 to R96). -/
def Obligations.LoadControlCommands : Prop :=
  (∀ (s : State) (m : Master) (n r : Nat), s.gate m (CFG_LD_CTRL n) = .pass → s.ldIdle n = true →
    State.rState (((((s.answer (.ok 0)).setFs [(CFG_LD_CTRL_TARGET n, r), (CFG_LD_STATUS_ERR n, 0), (CFG_LD_STATUS_FRAMES n, 0)]).setSlot n Slot.empty).setLdState n 0).applyLive CFG_CTRL_STALL_LIM) r = 0 →
    exec (.loadGo m n r) s = .next (
      let t := ((((s.answer (.ok 0)).setFs [(CFG_LD_CTRL_TARGET n, r), (CFG_LD_STATUS_ERR n, 0), (CFG_LD_STATUS_FRAMES n, 0)]).setSlot n Slot.empty).setLdState n 0).applyLive CFG_CTRL_STALL_LIM
      let t := ((t.setRState r 1).setEnvCause r 2).setGoldValid r false
      let t := (t.updInteg fun g => { g with goldWrote := SMap.erase g.goldWrote r }).setLdState n (if n < 2 then 2 else 1)
      if t.pwrState r = 2 then t else (t.updSlot n fun x => { x with waking := true }).pwrReq r 1)) ∧
  (∀ (s : State) (m : Master) (n r : Nat), s.gate m (CFG_LD_CTRL n) = .pass → s.ldIdle n = false →
    exec (.loadGo m n r) s = .next ((s.answer (.ok 0)).setF (CFG_LD_STATUS_FIELD_BUSY n) 1)) ∧
  (∀ (s : State) (m : Master) (n : Nat), s.gate m (CFG_LD_CTRL n) = .pass → 1 ≤ s.ldState n → s.ldState n ≤ 5 →
    (s.slotAt n).boot = false → exec (.loadAbort m n) s = .next ((s.answer (.ok 0)).loadFail n 0x16)) ∧
  (∀ (s : State) (n : Nat), 2 ≤ s.ldState n → s.ldState n ≤ 4 → (s.slotAt n).waking = false →
    exec (.loadStall n) s = .next (s.slotFail n 0x0E)) ∧
  (∀ (s : State) (n : Nat), n < 2 → s.taking n = true → 0 < (s.srcChunk n).2 → (s.srcChunk n).2 ≤ s.stageFree n →
    (s.hubRead (s.srcChunk n).1 (s.srcChunk n).2).2.1 = stOk → exec (.cfgSourceData n) s = .next (
      let q := s.hubRead (s.srcChunk n).1 (s.srcChunk n).2
      q.1.feed n q.2.2)) ∧
  (∀ (s : State) (n : Nat), n < 2 → s.taking n = true → 0 < (s.srcChunk n).2 → (s.srcChunk n).2 ≤ s.stageFree n →
    (s.hubRead (s.srcChunk n).1 (s.srcChunk n).2).2.1 ≠ stOk →
    exec (.cfgSourceData n) s = .next ((s.hubRead (s.srcChunk n).1 (s.srcChunk n).2).1.slotFail n 0x12)) ∧
  (∀ (s : State) (n : Nat), s.ldState n = 2 → s.unitAt n 0 384 = .ready →
    s.badRows stageMacro (stageRows n 0 384).1 (stageRows n 0 384).2 = [] → s.headerErr n = 0 →
    exec (.cfgHeader n) s = .next ((s.updSlot n fun x => { x with pos := 384, all := x.all.take x.total }).setLdState n 3)) ∧
  (∀ (s : State) (n : Nat), s.ldState n = 2 → s.unitAt n 0 384 = .ready →
    s.badRows stageMacro (stageRows n 0 384).1 (stageRows n 0 384).2 = [] → s.headerErr n ≠ 0 →
    exec (.cfgHeader n) s = .next (s.slotFail n (s.headerErr n))) ∧
  (∀ (s : State) (n : Nat), s.ldState n = 3 → s.unitAt n 384 (8 * (s.slotAt n).manCount) = .ready →
    s.badRows stageMacro (stageRows n 384 (8 * (s.slotAt n).manCount)).1 (stageRows n 384 (8 * (s.slotAt n).manCount)).2 = [] →
    exec (.cfgManifest n) s = .next (if s.manifestOk n then (s.updSlot n fun x => { x with pos := x.body0 }).setLdState n 4 else s.slotFail n 0x09)) ∧
  (∀ (s : State) (n : Nat), s.ldState n = 5 →
    s.unitAt n (s.slotAt n).bodyEnd ((s.slotAt n).total - (s.slotAt n).bodyEnd) = .ready →
    s.badRows stageMacro (stageRows n (s.slotAt n).bodyEnd ((s.slotAt n).total - (s.slotAt n).bodyEnd)).1
    (stageRows n (s.slotAt n).bodyEnd ((s.slotAt n).total - (s.slotAt n).bodyEnd)).2 = [] →
    (s.slotAt n).signed = false → (s.slotAt n).encrypted = false → (s.slotAt n).boot = false →
    s.dirCheck (s.ldTarget n) = true →
    exec (.cfgVerifyDone n) s = .next (((s.setLdState n 6).setEnvSrc (s.ldTarget n) 0).envOpen (s.ldTarget n))) ∧
  (∀ (s : State) (n : Nat), s.ldState n = 5 →
    s.unitAt n (s.slotAt n).bodyEnd ((s.slotAt n).total - (s.slotAt n).bodyEnd) = .ready →
    s.badRows stageMacro (stageRows n (s.slotAt n).bodyEnd ((s.slotAt n).total - (s.slotAt n).bodyEnd)).1
    (stageRows n (s.slotAt n).bodyEnd ((s.slotAt n).total - (s.slotAt n).bodyEnd)).2 = [] →
    (s.slotAt n).signed = false → (s.slotAt n).encrypted = false → (s.slotAt n).boot = false →
    s.dirCheck (s.ldTarget n) = false → exec (.cfgVerifyDone n) s = .next (s.slotFail n 0x13)) ∧
  (∀ (s : State) (n : Nat), s.ldState n = 5 →
    s.unitAt n (s.slotAt n).bodyEnd ((s.slotAt n).total - (s.slotAt n).bodyEnd) = .ready →
    s.badRows stageMacro (stageRows n (s.slotAt n).bodyEnd ((s.slotAt n).total - (s.slotAt n).bodyEnd)).1
    (stageRows n (s.slotAt n).bodyEnd ((s.slotAt n).total - (s.slotAt n).bodyEnd)).2 = [] →
    (s.slotAt n).signed = false → (s.slotAt n).encrypted = false → (s.slotAt n).boot = true →
    exec (.cfgVerifyDone n) s = .next (s.bootPass n)) ∧
  (∀ (s : State) (m : Master) (k j v : Nat), s.gate m (CFG_BKEY (k - 1) j) = .pass →
    ((List.range 4).filter fun n => s.decrypts n k) = [] → s.capUsesKey k = false →
    exec (.bkeyWrite m k j v) s = .next (
      let x := nget s.boot.bkeyMask k
      let x := if x = 255 then 0 else x
      { (s.answer (.ok 0)).setF (CFG_BKEY_KEY (k - 1) j) v with
        boot := { s.boot with bkeyMask := nput s.boot.bkeyMask k (if x / 2 ^ j % 2 = 1 then x else x + 2 ^ j) } }))

/-- The commands of a stream's body (R86 to R91, R107). -/
def Obligations.LoadBodyCommands : Prop :=
  (∀ (s : State) (n : Nat), commandAt s n 1 0 = true → stagedUnit s n (s.slotAt n).pos 8 = true →
    ¬ ((s.slotAt n).reloc = true ∧ s.slotWord n ((s.slotAt n).pos + 4) / 2 ^ 25 ≠ 0) →
    exec (.far n) s = .next ((s.updSlot n fun x => { x with far := some (s.streamFrame n (s.slotWord n ((s.slotAt n).pos + 4))) }).advance n 8)) ∧
  (∀ (s : State) (n c : Nat), commandAt s n 2 c = true → c ≠ 0 → (s.slotAt n).far ≠ none → s.framesWait n = false →
    (State.framesWait ((s.updSlot n fun x => { x with cmd := some (2, c, x.pos) }).advance n 4) n) = false →
    exec (.bodyWrite n) s = .next (
      let t := (s.updSlot n fun x => { x with cmd := some (2, c, x.pos) }).advance n 4
      State.writeGo (t.stagedFrames n) n t)) ∧
  (∀ (s : State) (f n c st : Nat), (s.slotAt n).cmd = some (2, c, st) → s.ldState n = 4 →
    (s.slotAt n).pos ≠ st + 4 + 400 * c → stagedUnit s n (s.slotAt n).pos 400 = true → State.writeGo (f + 1) n s =
      let t := s.putFrame n (Crypto.leNum (s.slotText n (s.slotAt n).pos 400))
      State.writeGo f n (if t.ldState n = 4 then t.advance n 400 else t)) ∧
  (∀ (s : State) (n v i : Nat), (s.slotAt n).far = some (some i) → s.inManifest n i = true →
    frameOutcome i v = .clean → s.bootStream n = false → s.putFrame n v =
      let t := (s.writeFrame i v).updSlot n fun x =>
        { x with wrote := i :: x.wrote, far := some (if i + 1 < devFrames then some (i + 1) else none) }
      if n < 4 then t.count (CFG_LD_STATUS_FRAMES n) 1 else t) ∧
  (∀ (s : State) (n v i : Nat), (s.slotAt n).far = some (some i) →
    s.inManifest n i = false ∨ frameOutcome i v ≠ .clean →
    s.putFrame n v = s.slotFail n (if s.inManifest n i then 0x0C else 0x0A)) ∧
  (∀ (s : State) (n c : Nat), commandAt s n 3 c = true → c ≠ 0 → (s.slotAt n).far ≠ none → s.framesWait n = false →
    exec (.blank n) s = .next (
      let t := State.multiGo c n 0 s
      if t.ldState n = 4 then t.advance n 4 else t)) ∧
  (∀ (s : State) (n c : Nat), commandAt s n 4 c = true → c ≠ 0 → (s.slotAt n).far ≠ none → s.framesWait n = false →
    stagedUnit s n (s.slotAt n).pos 404 = true → exec (.multi n) s = .next (
      let t := State.multiGo c n (Crypto.leNum (s.slotText n ((s.slotAt n).pos + 4) 400)) s
      if t.ldState n = 4 then t.advance n 404 else t)) ∧
  (∀ (s : State) (n c : Nat), commandAt s n 5 c = true → exec (.essmap n) s = .next (
      let t := (s.updSlot n fun x => { x with cmd := some (5, c, x.pos), ess := { x.ess with given := true } }).advance n 4
      State.essGo (((t.slotAt n).all.length - (t.slotAt n).pos) / 4 + 3) n t)) ∧
  (∀ (s : State) (n c : Nat), commandAt s n 6 c = true → (s.slotAt n).boot = true →
    stagedUnit s n (s.slotAt n).pos 8 = true →
    exec (.loadmem n) s = .next (((s.updSlot n fun x => { x with cmd := some (6, c, x.pos) }).advance n 8).memGo n)) ∧
  (∀ (s : State) (n c : Nat), commandAt s n 6 c = true → (s.slotAt n).boot = false →
    exec (.loadmem n) s = .next ((s.slotFail n 0x0B).memGo n)) ∧
  (∀ (s : State) (n c : Nat), commandAt s n 7 c = true → exec (.cfgNop n) s = .next (s.advance n 4)) ∧
  (∀ (s : State) (n : Nat), commandAt s n 15 0 = true → stagedUnit s n (s.slotAt n).pos 8 = true →
    exec (.endCmd n) s = .next (
      if (s.slotAt n).pos + 8 = (s.slotAt n).bodyEnd ∧ s.slotWord n ((s.slotAt n).pos + 4) = (s.slotAt n).num 0x28 4 ∧
          s.slotWord n ((s.slotAt n).pos + 4) = (s.slotAt n).wrote.length
      then (s.advance n 8).setLdState n 5 else s.slotFail n 0x0D))

/-- The column checkers and their findings (R101 to R110). -/
def Obligations.ConfigurationCheckingCommands : Prop :=
  (∀ (s : State) (d c : Nat), dieAdmitted s d = true → s.integ.common.contains d = true → s.linesHeld d c = false →
    s.checkerSkips (checkerFrame d c (s.sweepSlot d c)) = true →
    exec (.checkerSlot d c) s = .next (s.updInteg fun x => { x with slots := nput x.slots (64 * d + c) ((s.sweepSlot d c + 1) % sweepSlots) })) ∧
  (∀ (s : State) (d c : Nat) (t : State), dieAdmitted s d = true → s.integ.common.contains d = true →
    s.linesHeld d c = false → s.checkerSkips (checkerFrame d c (s.sweepSlot d c)) = false →
    t = s.arbAsk (.readback (8 * d + c / 8)) ⟨c % 8, 0, 0, 0⟩ →
    t.arbOwns (.readback (8 * d + c / 8)) (c % 8) = true → exec (.checkerSlot d c) s = .next (
      let i := checkerFrame d c (s.sweepSlot d c)
      ((t.onOutcome i (frameOutcome i (t.frame i))).slotPass d c (s.sweepSlot d c)).arbBeat (.readback (8 * d + c / 8)) false)) ∧
  (∀ (s : State) (d c : Nat) (t : State), dieAdmitted s d = true → s.integ.common.contains d = true →
    s.linesHeld d c = false → s.checkerSkips (checkerFrame d c (s.sweepSlot d c)) = false →
    t = s.arbAsk (.readback (8 * d + c / 8)) ⟨c % 8, 0, 0, 0⟩ →
    t.arbOwns (.readback (8 * d + c / 8)) (c % 8) = false → exec (.checkerSlot d c) s = .next (t)) ∧
  (∀ (s : State) (d c : Nat), dieAdmitted s d = false ∨ s.integ.common.contains d = false →
    exec (.checkerSlot d c) s = .next (s)) ∧
  (∀ (s : State) (d c : Nat), dieAdmitted s d = true → s.integ.common.contains d = true → s.linesHeld d c = true →
    exec (.checkerSlot d c) s = .next (s.arbAsk (.readback (8 * d + c / 8)) ⟨c % 8, 0, 0, 0⟩)) ∧
  (∀ (s : State) (i : Nat), s.onOutcome i .clean = s) ∧
  (∀ (s : State) (i : Nat) (t : State),
    t = s.reframe i (s.frame i % frameSpan + frameCheck (maskFrame i (s.frame i)) * frameSpan) →
    s.onOutcome i .checkWord = t.recheck i 0 2 0xFFF) ∧
  (∀ (s : State) (i b : Nat), (s.mapRead i).eff CFG_INTEG_CTRL_CORRECT = 1 → s.onOutcome i (.single b) =
      ((s.mapRead i).reframe i (s.frame i ^^^ 2 ^ b)).recheck i ((s.mapRead i).bitClass i b) 0 b) ∧
  (∀ (s : State) (i v : Nat),
    s.reframe i v = { s.setFrame i v with cmx := { s.cmx with dirq := s.cmx.dirq ++ s.dirChanges i v } }) ∧
  (∀ (s : State) (i cls kind bit : Nat), frameOutcome i (s.frame i) = .clean → kind ≠ 1 →
    s.recheck i cls kind bit = s.upsetFixed i cls kind bit) ∧
  (∀ (s : State) (i cls bit : Nat), frameOutcome i (s.frame i) = .clean → s.recheck i cls 1 bit =
      (s.updInteg fun x => { x with stuck := x.stuck.filter (· ≠ i) }).upsetFixed i cls 1 bit) ∧
  (∀ (s : State) (i cls kind bit : Nat), frameOutcome i (s.frame i) ≠ .clean →
    s.recheck i cls kind bit = s.upsetStuck i cls) ∧
  (∀ (s : State) (i b : Nat), (s.mapRead i).eff CFG_INTEG_CTRL_CORRECT ≠ 1 →
    s.onOutcome i (.single b) = (s.mapRead i).upsetReload i ((s.mapRead i).frameClass i)) ∧
  (∀ (s : State) (i : Nat), s.onOutcome i .uncorrectable = (s.mapRead i).upsetReload i ((s.mapRead i).frameClass i)) ∧
  (∀ (s : State) (i cls : Nat), s.eff CFG_INTEG_CTRL_RELOAD ≠ 1 → s.integ.stuck.contains i = false →
    s.upsetReload i cls =
      (((s.upsetLog i cls 3 0xFFF).count CFG_INTEG_STATUS_STUCK 1).updInteg fun x => { x with stuck := i :: x.stuck }).raise .CFG_UPSET_STUCK true
        (((s.upsetLog i cls 3 0xFFF).count CFG_INTEG_STATUS_STUCK 1).frameLease i) (frameInst i)) ∧
  (∀ (s : State) (i cls : Nat), s.integ.stuck.contains i = true → s.upsetStuck i cls = s) ∧
  (∀ (s : State) (far b i : Nat), farIndex far = some i → b < 3200 →
    exec (.configurationUpset far b) s = .next (s.reframe i (s.frame i ^^^ 2 ^ b)))

/-- The golden store, the late sweep and the upset log (R104, R111, R112). -/
def Obligations.GoldenStoreAndUpsetLogCommands : Prop :=
  (∀ (s : State) (m : Master), s.gate m CFG_INTEG_CTRL = .pass → s.f CFG_INTEG_CTRL_GOLD_EN = 0 →
    s.committed = false → exec (.goldEnSet m) s = .next ((s.answer (.ok 0)).goldEnable)) ∧
  (∀ (s : State) (m : Master), s.gate m CFG_INTEG_CTRL = .pass → s.committed = true →
    exec (.goldEnSet m) s = .next ((s.answer (.ok 0)).dropWrite m .bootLocked CFG_INTEG_CTRL)) ∧
  (∀ (s : State) (m : Master), s.gate m CFG_INTEG_CTRL = .pass → s.f CFG_INTEG_CTRL_GOLD_EN = 1 →
    s.committed = false → exec (.goldEnSet m) s = .next ((s.answer (.ok 0)))) ∧
  (∀ (s : State) (d : Nat), s.bit CFG_INTEG_CTRL_GOLD_EN = true → dieAdmitted s d = true →
    s.integ.fillBad.contains d = false → s.f CFG_INTEG_STATUS_GOLD_DIE / 2 ^ d % 2 = 0 →
    s.hubStatus (s.goldAddr (commonBase d)) 6553600 = stOk →
    (s.listedFrames (commonBase d) 16384).all (fun e => decide (frameOutcome e.1 e.2 = .clean)) = true →
    exec (.goldDieFillEnd d) s = .next (
      let a := s.goldAddr (commonBase d)
      let t := (s.hubWake a 6553600).drainRange a 6553600
      let t := { t with mem := t.mem.filter fun e => decide (e.1 < a ∨ a + 6553600 ≤ e.1) }
      let t := (s.listedFrames (commonBase d) 16384).foldl (fun t e => t.setBytes (t.goldAddr e.1) (frameBytes e.2)) t
      t.setF CFG_INTEG_STATUS_GOLD_DIE (setBitN (t.f CFG_INTEG_STATUS_GOLD_DIE) d true))) ∧
  (∀ (s : State) (r w : Nat) (l : List Nat), SMap.get (fun _ => []) s.integ.goldWrote r = w :: l →
    s.bit CFG_INTEG_CTRL_GOLD_EN = true → s.hubStatus (s.goldAddr (rgnBase r)) 13926400 = stOk →
    exec (.goldValidSet r) s = .next (
      let a := s.goldAddr (rgnBase r)
      let t := (s.hubWake a 13926400).drainRange a 13926400
      let t := { t with mem := t.mem.filter fun e => decide (e.1 < a ∨ a + 13926400 ≤ e.1) || (w :: l).contains (rgnBase r + (e.1 - a) / 400) }
      (t.updInteg fun x => { x with goldWrote := SMap.erase x.goldWrote r }).setGoldValid r true)) ∧
  (∀ (s : State) (d : Nat), dieAdmitted s d = true →
    nget s.integ.late d = 0 ∨ nget s.integ.late d + 2000000 < s.nocTime + 1 → exec (.sweepLateTimer d) s = .next (
      ((s.setF CFG_INTEG_STATUS_SWEEP_LATE (setBitN (s.f CFG_INTEG_STATUS_SWEEP_LATE) d true)).updInteg fun x =>
        { x with late := nput x.late d (s.nocTime + 1) }).raise .CFG_SWEEP_LATE false 0 d)) ∧
  (∀ (s : State) (d : Nat), dieAdmitted s d = true → nget s.integ.late d ≠ 0 →
    s.nocTime + 1 ≤ nget s.integ.late d + 2000000 →
    exec (.sweepLateTimer d) s = .next (s.setF CFG_INTEG_STATUS_SWEEP_LATE (setBitN (s.f CFG_INTEG_STATUS_SWEEP_LATE) d true))) ∧
  (∀ (s : State) (e : UpsetEnt) (l : List UpsetEnt), s.integ.log = e :: l → exec (.upsetInfoRead) s = .next (
      ((s.updInteg fun x => { x with log := l, lost := false }).upsetShow).answer (.ok (s.f CFG_UPSET_INFO_VALID * 2 ^ 31 + s.f CFG_UPSET_INFO_LOST * 2 ^ 30
        + s.f CFG_UPSET_INFO_CLASS * 2 ^ 28 + s.f CFG_UPSET_INFO_KIND * 2 ^ 26 + s.f CFG_UPSET_INFO_BIT)))) ∧
  (∀ (s : State), s.integ.log = [] →
    exec (.upsetInfoRead) s = .next (((s.updInteg fun x => { x with lost := false }).upsetShow).answer (.ok s.upsetInfo)))

/-- The capture engine (R113 to R126). -/
def Obligations.CaptureCommands : Prop :=
  (∀ (s : State) (m : Master), s.gate m CFG_CAP_CTRL = .pass → s.capBusy = false →
    (s.arb .capture).fenced.contains 0 = false →
    exec (.capLive m) s = .next (((((s.answer (.ok 0)).updCap fun c => { c with wait := some 1 }).setF CFG_CAP_STATUS_BUSY 1).arbAsk .capture ⟨0, 0, 0, 0⟩).capServe)) ∧
  (∀ (s : State) (m : Master), s.gate m CFG_CAP_CTRL = .pass → s.capBusy = false →
    (s.arb .capture).fenced.contains 0 = true → exec (.capLive m) s = .next (s.answer (.ok stFenced))) ∧
  (∀ (s : State) (m : Master), s.gate m CFG_CAP_CTRL = .pass → s.capBusy = true →
    exec (.capLive m) s = .next ((s.answer (.ok 0)).setF CFG_CAP_STATUS_FIELD_BUSY 1)) ∧
  (∀ (s : State) (m : Master), s.gate m CFG_CAP_CTRL = .pass → s.capBusy = false →
    (s.arb .capture).fenced.contains 0 = false →
    exec (.capPaused m) s = .next (((((s.answer (.ok 0)).updCap fun c => { c with wait := some 2 }).setF CFG_CAP_STATUS_BUSY 1).arbAsk .capture ⟨0, 0, 0, 0⟩).capServe)) ∧
  (∀ (s : State) (m : Master), s.gate m CFG_CAP_CTRL = .pass → s.capBusy = false →
    (s.arb .capture).fenced.contains 0 = true → exec (.capPaused m) s = .next (s.answer (.ok stFenced))) ∧
  (∀ (s : State) (m : Master), s.gate m CFG_CAP_CTRL = .pass → s.capBusy = true →
    exec (.capPaused m) s = .next ((s.answer (.ok 0)).setF CFG_CAP_STATUS_FIELD_BUSY 1)) ∧
  (∀ (s : State) (m : Master), s.gate m CFG_CAP_CTRL = .pass → s.capBusy = false →
    (s.arb .capture).fenced.contains 0 = false →
    exec (.capExport m) s = .next (((((s.answer (.ok 0)).updCap fun c => { c with wait := some 3 }).setF CFG_CAP_STATUS_BUSY 1).arbAsk .capture ⟨0, 0, 0, 0⟩).capServe)) ∧
  (∀ (s : State) (m : Master), s.gate m CFG_CAP_CTRL = .pass → s.capBusy = false →
    (s.arb .capture).fenced.contains 0 = true → exec (.capExport m) s = .next (s.answer (.ok stFenced))) ∧
  (∀ (s : State) (m : Master), s.gate m CFG_CAP_CTRL = .pass → s.capBusy = true →
    exec (.capExport m) s = .next ((s.answer (.ok 0)).setF CFG_CAP_STATUS_FIELD_BUSY 1)) ∧
  (∀ (s : State) (m : Master), s.gate m CFG_CAP_CTRL = .pass → s.capBusy = false →
    (s.arb .capture).fenced.contains 0 = false →
    exec (.capImport m) s = .next (((((s.answer (.ok 0)).updCap fun c => { c with wait := some 4 }).setF CFG_CAP_STATUS_BUSY 1).arbAsk .capture ⟨0, 0, 0, 0⟩).capServe)) ∧
  (∀ (s : State) (m : Master), s.gate m CFG_CAP_CTRL = .pass → s.capBusy = false →
    (s.arb .capture).fenced.contains 0 = true → exec (.capImport m) s = .next (s.answer (.ok stFenced))) ∧
  (∀ (s : State) (m : Master), s.gate m CFG_CAP_CTRL = .pass → s.capBusy = true →
    exec (.capImport m) s = .next ((s.answer (.ok 0)).setF CFG_CAP_STATUS_FIELD_BUSY 1)) ∧
  (∀ (s : State) (m : Master), s.gate m CFG_CAP_CTRL = .pass → s.capBusy = false →
    (s.arb .capture).fenced.contains 0 = false →
    exec (.capInject m) s = .next (((((s.answer (.ok 0)).updCap fun c => { c with wait := some 5 }).setF CFG_CAP_STATUS_BUSY 1).arbAsk .capture ⟨0, 0, 0, 0⟩).capServe)) ∧
  (∀ (s : State) (m : Master), s.gate m CFG_CAP_CTRL = .pass → s.capBusy = false →
    (s.arb .capture).fenced.contains 0 = true → exec (.capInject m) s = .next (s.answer (.ok stFenced))) ∧
  (∀ (s : State) (m : Master), s.gate m CFG_CAP_CTRL = .pass → s.capBusy = true →
    exec (.capInject m) s = .next ((s.answer (.ok 0)).setF CFG_CAP_STATUS_FIELD_BUSY 1)) ∧
  (∀ (s : State) (op : Nat), s.cap.wait = some op → s.cap.op = 0 → s.arbOwns .capture 0 = true →
    s.capServe = (s.updCap fun c => { c with wait := none }).capStart op) ∧
  (∀ (s : State), s.cap.wait = none ∨ s.cap.op ≠ 0 ∨ s.arbOwns .capture 0 = false → s.capServe = s) ∧
  (∀ (s t : State) (op : Nat), op = 1 ∨ op = 2 → t = s.setFs [(CFG_CAP_STATUS_ERR, 0), (CFG_CAP_STATUS_BUSY, 1)] →
    t.capMask ≠ [] → (t.capMask.any fun r => t.pairRegion r || decide (t.rState r ≠ 2)) = false →
    s.capStart op = t.capBegin op t.capMask (t.bit CFG_CAP_CTRL_QUIESCE) false) ∧
  (∀ (s : State) (delta : List (Nat × Nat × Byte)) (l : List Nat), s.cap.op = 1 → s.cap.phase = 2 →
    l = s.cap.regions.filter (fun r => decide (s.rState r = 2)) → exec (.capLiveEnd delta) s = .next (
      let one := decide ((s.cap.regions.flatMap s.clockGroups).length = 1)
      let t := s.cap.regions.foldl (fun t r => t.fabDelta r ((delta.filter fun e => decide (e.1 = r)).map (·.2))) s
      let t := l.foldl (fun t r =>
        (((t.latchSample r).latchToShadow r).eccWriteRange (balMacro r) 0 8192).newImage r false one) t
      (t.capEnd (if l.length = t.cap.regions.length then (if t.cap.inconsistent then 0x0C else 0) else 0x0C)).capServe)) ∧
  (∀ (s : State) (delta : List (Nat × Nat × Byte)), s.cap.op ≠ 1 ∨ s.cap.phase ≠ 2 →
    exec (.capLiveEnd delta) s = .next (s)) ∧
  (∀ (s : State), s.cap.op = 3 →
    exec (.capExportEnd) s = .next (((s.hubWrite s.capAddr s.cap.buf).1.capEnd (if (s.hubWrite s.capAddr s.cap.buf).2 = stOk then 0 else 0x0A)).capServe)) ∧
  (∀ (s : State) (r : Nat) (k : List Nat), s.cap.op = 4 → s.cap.regions = [r] →
    s.bkey (s.f CFG_CAP_CTRL_KEY) = some k → capFormatOk s.cap.buf = false →
    exec (.capImportEnd) s = .next (s.capEnd 0x07)) ∧
  (∀ (s : State) (r : Nat) (k : List Nat), s.cap.op = 4 → s.cap.regions = [r] →
    s.bkey (s.f CFG_CAP_CTRL_KEY) = some k → capFormatOk s.cap.buf = true →
    ¬ (Crypto.gcmTag k (capIv (s.cap.buf.take 128)) (Crypto.nums (s.cap.buf.take 128))
      (Crypto.nums ((s.cap.buf.drop 128).take (leNat (((s.cap.buf.take 128).drop 0x14).take 4)))) =
      Crypto.nums ((s.cap.buf.drop (128 + leNat (((s.cap.buf.take 128).drop 0x14).take 4))).take 16)) →
    exec (.capImportEnd) s = .next (s.capEnd 0x08)) ∧
  (∀ (s : State) (r : Nat) (k : List Nat), s.cap.op = 4 → s.cap.regions = [r] →
    s.bkey (s.f CFG_CAP_CTRL_KEY) = some k → capFormatOk s.cap.buf = true →
    Crypto.gcmTag k (capIv (s.cap.buf.take 128)) (Crypto.nums (s.cap.buf.take 128))
      (Crypto.nums ((s.cap.buf.drop 128).take (leNat (((s.cap.buf.take 128).drop 0x14).take 4)))) =
      Crypto.nums ((s.cap.buf.drop (128 + leNat (((s.cap.buf.take 128).drop 0x14).take 4))).take 16) →
    exec (.capImportEnd) s = .next (
      (s.setImage r (s.cap.buf.take 128) (Crypto.bytesOf (Crypto.ctr k (capIv (s.cap.buf.take 128)) 2
        (Crypto.nums ((s.cap.buf.drop 128).take (leNat (((s.cap.buf.take 128).drop 0x14).take 4))))))).capEnd 0)) ∧
  (∀ (s : State), s.cap.phase = 1 → s.cap.op = 1 ∨ s.cap.op = 2 ∨ s.cap.op = 5 → s.cap.regions.any s.napDue = false →
    exec (.capQuiesceEnd) s = .next (s.capProceed.capServe)) ∧
  (∀ (s : State), s.cap.phase = 1 → s.cap.op = 1 ∨ s.cap.op = 2 →
    exec (.capQlimExpire) s = .next ((s.updCap fun c => { c with inflight := true }).capProceed.capServe)) ∧
  (∀ (s : State), s.cap.phase = 1 → s.cap.op = 5 → exec (.capQlimExpire) s = .next ((s.capEnd 0x05).capServe)) ∧
  (∀ (s : State) (m : Master) (v : Nat), s.gate m CFG_CAP_IVHI = .pass → s.capBusy = false →
    exec (.capIvhiWrite m v) s = .next (((s.answer (.ok 0)).setF CFG_CAP_IVHI_IVHI v).updCap fun c => { c with count := 0 }))

/-- The commands of CMX_Bb_CTRL (R142 to R151). -/
def Obligations.BundleCommands : Prop :=
  (∀ (s : State) (m : Master) (d b wire force : Nat), s.gate m (CMX_B_CTRL d b) = .pass → s.bState d b ≠ 1 →
    ((s.answer (.ok 0)).setFs [(CMX_B_CTRL_WIRE d b, wire), (CMX_B_CTRL_FORCE d b, force)]).bState d b = 3 →
    (decide (((s.answer (.ok 0)).setFs [(CMX_B_CTRL_WIRE d b, wire), (CMX_B_CTRL_FORCE d b, force)]).f (CMX_B_CTRL_FORCE d b) = 0) && ((s.answer (.ok 0)).setFs [(CMX_B_CTRL_WIRE d b, wire), (CMX_B_CTRL_FORCE d b, force)]).bundleUsed d b) = false →
    exec (.bundleReelIn m d b wire force) s = .next ((((s.answer (.ok 0)).setFs [(CMX_B_CTRL_WIRE d b, wire), (CMX_B_CTRL_FORCE d b, force)]).dropSteers d b).setBundle d b 2)) ∧
  (∀ (s : State) (m : Master) (d b wire force : Nat), s.gate m (CMX_B_CTRL d b) = .pass → s.bState d b ≠ 1 →
    ((s.answer (.ok 0)).setFs [(CMX_B_CTRL_WIRE d b, wire), (CMX_B_CTRL_FORCE d b, force)]).bState d b = 2 →
    exec (.bundlePayOut m d b wire force) s = .next (((s.answer (.ok 0)).setFs [(CMX_B_CTRL_WIRE d b, wire), (CMX_B_CTRL_FORCE d b, force)]).trainStart d b)) ∧
  (∀ (s : State) (m : Master) (d b wire force : Nat), s.gate m (CMX_B_CTRL d b) = .pass → s.bState d b ≠ 1 →
    ((s.answer (.ok 0)).setFs [(CMX_B_CTRL_WIRE d b, wire), (CMX_B_CTRL_FORCE d b, force)]).bState d b = 3 →
    (decide (((s.answer (.ok 0)).setFs [(CMX_B_CTRL_WIRE d b, wire), (CMX_B_CTRL_FORCE d b, force)]).f (CMX_B_CTRL_FORCE d b) = 0) && ((s.answer (.ok 0)).setFs [(CMX_B_CTRL_WIRE d b, wire), (CMX_B_CTRL_FORCE d b, force)]).bundleUsed d b) = false →
    exec (.bundleRetrain m d b wire force) s = .next (((s.answer (.ok 0)).setFs [(CMX_B_CTRL_WIRE d b, wire), (CMX_B_CTRL_FORCE d b, force)]).trainStart d b)) ∧
  (∀ (s : State) (m : Master) (d b wire force : Nat), s.gate m (CMX_B_CTRL d b) = .pass → s.bState d b ≠ 1 →
    ((s.answer (.ok 0)).setFs [(CMX_B_CTRL_WIRE d b, wire), (CMX_B_CTRL_FORCE d b, force)]).bState d b = 2 →
    (decide (((s.answer (.ok 0)).setFs [(CMX_B_CTRL_WIRE d b, wire), (CMX_B_CTRL_FORCE d b, force)]).f (CMX_B_CTRL_FORCE d b) = 0) && ((s.answer (.ok 0)).setFs [(CMX_B_CTRL_WIRE d b, wire), (CMX_B_CTRL_FORCE d b, force)]).bundleUsed d b) = false →
    exec (.bundleRetrain m d b wire force) s = .next (((s.answer (.ok 0)).setFs [(CMX_B_CTRL_WIRE d b, wire), (CMX_B_CTRL_FORCE d b, force)]).trainStart d b)) ∧
  (∀ (s : State) (m : Master) (d b wire force : Nat), s.gate m (CMX_B_CTRL d b) = .pass → s.bState d b ≠ 1 →
    ((s.answer (.ok 0)).setFs [(CMX_B_CTRL_WIRE d b, wire), (CMX_B_CTRL_FORCE d b, force)]).bState d b ≠ 3 →
    exec (.bundleReelIn m d b wire force) s = .next (((s.answer (.ok 0)).setFs [(CMX_B_CTRL_WIRE d b, wire), (CMX_B_CTRL_FORCE d b, force)]).setF (CMX_B_STATUS_CMD_ERR d b) 2)) ∧
  (∀ (s : State) (m : Master) (d b wire force : Nat), s.gate m (CMX_B_CTRL d b) = .pass → s.bState d b ≠ 1 →
    ((s.answer (.ok 0)).setFs [(CMX_B_CTRL_WIRE d b, wire), (CMX_B_CTRL_FORCE d b, force)]).bState d b ≠ 2 →
    exec (.bundlePayOut m d b wire force) s = .next (((s.answer (.ok 0)).setFs [(CMX_B_CTRL_WIRE d b, wire), (CMX_B_CTRL_FORCE d b, force)]).setF (CMX_B_STATUS_CMD_ERR d b) 2)) ∧
  (∀ (s : State) (m : Master) (d b wire force : Nat), s.gate m (CMX_B_CTRL d b) = .pass → s.bState d b ≠ 1 →
    ((s.answer (.ok 0)).setFs [(CMX_B_CTRL_WIRE d b, wire), (CMX_B_CTRL_FORCE d b, force)]).bState d b ≠ 2 ∧ ((s.answer (.ok 0)).setFs [(CMX_B_CTRL_WIRE d b, wire), (CMX_B_CTRL_FORCE d b, force)]).bState d b ≠ 3 →
    exec (.bundleRetrain m d b wire force) s = .next (((s.answer (.ok 0)).setFs [(CMX_B_CTRL_WIRE d b, wire), (CMX_B_CTRL_FORCE d b, force)]).setF (CMX_B_STATUS_CMD_ERR d b) 2)) ∧
  (∀ (s : State) (m : Master) (d b wire force : Nat), s.gate m (CMX_B_CTRL d b) = .pass → s.bState d b ≠ 1 →
    ((s.answer (.ok 0)).setFs [(CMX_B_CTRL_WIRE d b, wire), (CMX_B_CTRL_FORCE d b, force)]).bState d b ≠ 2 ∧ ((s.answer (.ok 0)).setFs [(CMX_B_CTRL_WIRE d b, wire), (CMX_B_CTRL_FORCE d b, force)]).bState d b ≠ 5 →
    exec (.bundleMaintRetrain m d b wire force) s = .next (((s.answer (.ok 0)).setFs [(CMX_B_CTRL_WIRE d b, wire), (CMX_B_CTRL_FORCE d b, force)]).setF (CMX_B_STATUS_CMD_ERR d b) 2)) ∧
  (∀ (s : State) (m : Master) (d b wire force : Nat), s.gate m (CMX_B_CTRL d b) = .pass → s.bState d b ≠ 1 →
    ((s.answer (.ok 0)).setFs [(CMX_B_CTRL_WIRE d b, wire), (CMX_B_CTRL_FORCE d b, force)]).bState d b ≠ 0 ∧ ((s.answer (.ok 0)).setFs [(CMX_B_CTRL_WIRE d b, wire), (CMX_B_CTRL_FORCE d b, force)]).bState d b ≠ 2 →
    exec (.bundleMarkBad m d b wire force) s = .next (((s.answer (.ok 0)).setFs [(CMX_B_CTRL_WIRE d b, wire), (CMX_B_CTRL_FORCE d b, force)]).setF (CMX_B_STATUS_CMD_ERR d b) 2)) ∧
  (∀ (s : State) (m : Master) (d b wire force : Nat), s.gate m (CMX_B_CTRL d b) = .pass → s.bState d b ≠ 1 →
    ((s.answer (.ok 0)).setFs [(CMX_B_CTRL_WIRE d b, wire), (CMX_B_CTRL_FORCE d b, force)]).bState d b = 3 →
    (decide (((s.answer (.ok 0)).setFs [(CMX_B_CTRL_WIRE d b, wire), (CMX_B_CTRL_FORCE d b, force)]).f (CMX_B_CTRL_FORCE d b) = 0) && ((s.answer (.ok 0)).setFs [(CMX_B_CTRL_WIRE d b, wire), (CMX_B_CTRL_FORCE d b, force)]).bundleUsed d b) = true →
    exec (.bundleReelIn m d b wire force) s = .next (((s.answer (.ok 0)).setFs [(CMX_B_CTRL_WIRE d b, wire), (CMX_B_CTRL_FORCE d b, force)]).setF (CMX_B_STATUS_CMD_ERR d b) 1)) ∧
  (∀ (s : State) (m : Master) (d b wire force : Nat), s.gate m (CMX_B_CTRL d b) = .pass → s.bState d b ≠ 1 →
    ((s.answer (.ok 0)).setFs [(CMX_B_CTRL_WIRE d b, wire), (CMX_B_CTRL_FORCE d b, force)]).bState d b = 2 ∨ ((s.answer (.ok 0)).setFs [(CMX_B_CTRL_WIRE d b, wire), (CMX_B_CTRL_FORCE d b, force)]).bState d b = 5 →
    ((s.answer (.ok 0)).setFs [(CMX_B_CTRL_WIRE d b, wire), (CMX_B_CTRL_FORCE d b, force)]).rState (bundleRegion d b) = 0 →
    ((s.answer (.ok 0)).setFs [(CMX_B_CTRL_WIRE d b, wire), (CMX_B_CTRL_FORCE d b, force)]).validRoutes.any (((s.answer (.ok 0)).setFs [(CMX_B_CTRL_WIRE d b, wire), (CMX_B_CTRL_FORCE d b, force)]).xrNames d b) = false →
    exec (.bundleMaintRetrain m d b wire force) s = .next ((((((s.answer (.ok 0)).setFs [(CMX_B_CTRL_WIRE d b, wire), (CMX_B_CTRL_FORCE d b, force)]).dropSteers d b).clearRecord d b).setF (CMX_B_STATUS_ATTEMPTS d b) 0).trainStart d b)) ∧
  (∀ (s : State) (m : Master) (d b wire force : Nat), s.gate m (CMX_B_CTRL d b) = .pass → s.bState d b ≠ 1 →
    ((s.answer (.ok 0)).setFs [(CMX_B_CTRL_WIRE d b, wire), (CMX_B_CTRL_FORCE d b, force)]).bState d b = 2 ∨ ((s.answer (.ok 0)).setFs [(CMX_B_CTRL_WIRE d b, wire), (CMX_B_CTRL_FORCE d b, force)]).bState d b = 5 →
    ((s.answer (.ok 0)).setFs [(CMX_B_CTRL_WIRE d b, wire), (CMX_B_CTRL_FORCE d b, force)]).rState (bundleRegion d b) ≠ 0 ∨ ((s.answer (.ok 0)).setFs [(CMX_B_CTRL_WIRE d b, wire), (CMX_B_CTRL_FORCE d b, force)]).validRoutes.any (((s.answer (.ok 0)).setFs [(CMX_B_CTRL_WIRE d b, wire), (CMX_B_CTRL_FORCE d b, force)]).xrNames d b) = true →
    exec (.bundleMaintRetrain m d b wire force) s = .next (((s.answer (.ok 0)).setFs [(CMX_B_CTRL_WIRE d b, wire), (CMX_B_CTRL_FORCE d b, force)]).setF (CMX_B_STATUS_CMD_ERR d b) 3)) ∧
  (∀ (s : State) (m : Master) (d b wire force : Nat), s.gate m (CMX_B_CTRL d b) = .pass → s.bState d b ≠ 1 →
    ((s.answer (.ok 0)).setFs [(CMX_B_CTRL_WIRE d b, wire), (CMX_B_CTRL_FORCE d b, force)]).bState d b = 0 ∨ ((s.answer (.ok 0)).setFs [(CMX_B_CTRL_WIRE d b, wire), (CMX_B_CTRL_FORCE d b, force)]).bState d b = 2 →
    ((s.answer (.ok 0)).setFs [(CMX_B_CTRL_WIRE d b, wire), (CMX_B_CTRL_FORCE d b, force)]).f (CMX_B_CTRL_WIRE d b) < 2112 →
    exec (.bundleMarkBad m d b wire force) s = .next (((s.answer (.ok 0)).setFs [(CMX_B_CTRL_WIRE d b, wire), (CMX_B_CTRL_FORCE d b, force)]).updBundle d b fun x => { x with marked := sortUp (((s.answer (.ok 0)).setFs [(CMX_B_CTRL_WIRE d b, wire), (CMX_B_CTRL_FORCE d b, force)]).f (CMX_B_CTRL_WIRE d b) :: x.marked) })) ∧
  (∀ (s : State) (m : Master) (d b wire force : Nat), s.gate m (CMX_B_CTRL d b) = .pass → s.bState d b = 1 →
    exec (.bundleReelIn m d b wire force) s = .next ((s.answer (.ok 0)).setF (CMX_B_STATUS_FIELD_BUSY d b) 1)) ∧
  (∀ (s : State) (m : Master) (d b wire force : Nat), s.gate m (CMX_B_CTRL d b) = .pass → s.bState d b = 1 →
    exec (.bundlePayOut m d b wire force) s = .next ((s.answer (.ok 0)).setF (CMX_B_STATUS_FIELD_BUSY d b) 1)) ∧
  (∀ (s : State) (m : Master) (d b wire force : Nat), s.gate m (CMX_B_CTRL d b) = .pass → s.bState d b = 1 →
    exec (.bundleRetrain m d b wire force) s = .next ((s.answer (.ok 0)).setF (CMX_B_STATUS_FIELD_BUSY d b) 1)) ∧
  (∀ (s : State) (m : Master) (d b wire force : Nat), s.gate m (CMX_B_CTRL d b) = .pass → s.bState d b = 1 →
    exec (.bundleMaintRetrain m d b wire force) s = .next ((s.answer (.ok 0)).setF (CMX_B_STATUS_FIELD_BUSY d b) 1)) ∧
  (∀ (s : State) (m : Master) (d b wire force : Nat), s.gate m (CMX_B_CTRL d b) = .pass → s.bState d b = 1 →
    exec (.bundleMarkBad m d b wire force) s = .next ((s.answer (.ok 0)).setF (CMX_B_STATUS_FIELD_BUSY d b) 1))

/-- Heartbeats and the training of bundles (R131 to R149). -/
def Obligations.HeartbeatAndTrainingCommands : Prop :=
  (∀ (s : State), exec (.heartbeatPeriod) s = .next (
      let t := s.updCmx fun c => { c with period := c.period + 1 }
      let t := t.cmx.bundles.foldl (fun t e => t.bundleTick (e.1 / 16) (e.1 % 16)) t
      let t := t.cmx.bundles.foldl (fun t e =>
        if t.beats (e.1 / 16) (e.1 % 16) then t.updBundle (e.1 / 16) (e.1 % 16) fun x => { x with txSeq := (x.txSeq + 1) % 65536 } else t) t
      let t := t.routes.foldl State.xrTake t
      let hit := t.cmx.forces.filter fun x => t.xrValid x && decide (t.f (CMX_XR_FORCED_RX x.1 x.2.1 x.2.2) = 0)
      let t := (t.cmx.forces.foldl State.xrForce t).updCmx fun c => { c with forces := [] }
      t.raiseLeases .XWIRE_CONFLICT (match hit with | x :: _ => x.1 | [] => noInst)
        (hit.map fun x => t.lease (bundleRegion x.1 x.2.1)))) ∧
  (∀ (s : State) (d b : Nat) (f : HbFrame), s.beatOk d b f = true → s.bState d b = 3 ∨ s.bState d b = 4 →
    exec (.heartbeatFrame d b f) s = .next (
      let t := (s.dirsHeard d b).updBundle d b fun x =>
        { x with seq := (f.seq + 1) % 65536, misses := 0, lastOk := (s.dirsHeard d b).cmx.period + 1, rxbad := f.mismatches.take 16 }
      let t := if s.bState d b = 4 then t.updBundle d b fun x => { x with back := true } else t
      let t := (sortUp (f.mismatches ++ f.rxbad)).foldl (fun t w => if w < 2112 then t.mismatch d b w else t) t
      if (t.bundleAt d b).narrow ∧ (t.bundleAt d b).steer.isEmpty then t.trainStart d b else t)) ∧
  (∀ (s : State) (d b : Nat) (f : HbFrame), s.beatOk d b f = true → s.bState d b = 1 →
    exec (.heartbeatFrame d b f) s = .next (
      let t := (s.dirsHeard d b).updBundle d b fun x =>
        { x with seq := (f.seq + 1) % 65536, misses := 0, lastOk := (s.dirsHeard d b).cmx.period + 1, rxbad := f.mismatches.take 16 }
      t.agreeStep d b (decide (f.hash = s.recHash d b)))) ∧
  (∀ (s : State) (d b : Nat) (f : HbFrame), s.beatOk d b f = false → exec (.heartbeatFrame d b f) s = .next (s)) ∧
  (∀ (s : State) (d b : Nat) (f : HbFrame),
    s.bState d b = 0 ∨ s.bState d b = 5 ∨ s.cmx.resets.contains d = true ∨ s.pllState (115 + d) = 3 ∨ (s.bState d b ≠ 1 ∧ f.seq ≠ (s.bundleAt d b).seq) →
    s.beatOk d b f = false) ∧
  (∀ (s : State) (d b : Nat), s.beats d b = true → s.bState d b = 3 ∨ s.bState d b = 4 →
    exec (.heartbeatMiss d b) s = .next (
      let t := (s.count (CMX_B_ERR_HB_MISS d b) 1).updBundle d b fun x =>
        { x with misses := x.misses + 1, seq := (x.seq + 1) % 65536, back := false }
      let t := if s.bState d b = 3 then t.setBundle d b 4 else t
      if (t.bundleAt d b).misses < 10 then t else if t.otherBeats d b then t.trainStart d b else t.dieIsolate d 1)) ∧
  (∀ (s : State) (d b : Nat), s.beats d b = true → s.bState d b = 1 →
    exec (.heartbeatMiss d b) s = .next ((s.count (CMX_B_ERR_HB_MISS d b) 1).agreeStep d b false)) ∧
  (∀ (s : State) (d b : Nat), s.bState d b = 1 →
    (s.setF (CMX_B_STATUS_ATTEMPTS d b) (min 3 (s.f (CMX_B_STATUS_ATTEMPTS d b) + 1))).f (CMX_B_STATUS_ATTEMPTS d b) ≠ 3 →
    exec (.trainStepOverrun d b) s = .next ((((s.setF (CMX_B_STATUS_ATTEMPTS d b) (min 3 (s.f (CMX_B_STATUS_ATTEMPTS d b) + 1))).dropSteers d b).setBundle d b 2).updBundle d b fun x => { x with retry := true })) ∧
  (∀ (s : State) (d b : Nat), s.bState d b = 1 →
    (s.setF (CMX_B_STATUS_ATTEMPTS d b) (min 3 (s.f (CMX_B_STATUS_ATTEMPTS d b) + 1))).f (CMX_B_STATUS_ATTEMPTS d b) = 3 →
    exec (.trainStepOverrun d b) s = .next ((s.setF (CMX_B_STATUS_ATTEMPTS d b) (min 3 (s.f (CMX_B_STATUS_ATTEMPTS d b) + 1))).bundleDisable d b)) ∧
  (∀ (s : State) (d b : Nat), (s.bundleAt d b).agree.isNone = false ∧ (s.bundleAt d b).trained = false →
    s.bState d b = 1 →
    (s.setF (CMX_B_STATUS_ATTEMPTS d b) (min 3 (s.f (CMX_B_STATUS_ATTEMPTS d b) + 1))).f (CMX_B_STATUS_ATTEMPTS d b) ≠ 3 →
    exec (.agreeTimeout d b) s = .next ((((s.setF (CMX_B_STATUS_ATTEMPTS d b) (min 3 (s.f (CMX_B_STATUS_ATTEMPTS d b) + 1))).dropSteers d b).setBundle d b 2).updBundle d b fun x => { x with retry := true })) ∧
  (∀ (s : State) (d b : Nat), (s.bundleAt d b).agree.isNone = false ∧ (s.bundleAt d b).trained = false →
    s.bState d b = 1 →
    (s.setF (CMX_B_STATUS_ATTEMPTS d b) (min 3 (s.f (CMX_B_STATUS_ATTEMPTS d b) + 1))).f (CMX_B_STATUS_ATTEMPTS d b) = 3 →
    exec (.agreeTimeout d b) s = .next ((s.setF (CMX_B_STATUS_ATTEMPTS d b) (min 3 (s.f (CMX_B_STATUS_ATTEMPTS d b) + 1))).bundleDisable d b)) ∧
  (∀ (s : State) (d b : Nat), s.bState d b = 2 → (s.bundleAt d b).retry = true →
    exec (.trainRetry d b) s = .next (s.trainStart d b)) ∧
  (∀ (s : State) (d b : Nat) (found : List Nat) (seq : Nat) (hashes : List Nat), s.bState d b = 1 →
    (s.bundleAt d b).agree = none → exec (.trainEnd d b found seq hashes) s = .next (
      let x := s.bundleAt d b
      let t := (s.adopt d b (sortUp ((s.badWires d b ++ x.marked ++ x.faulty ++ found).filter fun w => decide (w < 2112)))).updBundle d b
        fun x => { x with marked := [], seen := [], known := true, seq := (seq + 1) % 65536, lastOk := s.cmx.period + 1 }
      let w := t.f (CMX_B_STATUS_WIDTH d b)
      let t := if x.known ∧ s.f (CMX_B_STATUS_WIDTH d b) < w ∧ w < 3 then (t.raise .TETHER_DEGRADED false 0 d).cutRoutes d b else t
      if w = 3 then t.bundleDisable d b
      else hashes.foldl (fun u x => u.agreeStep d b (decide (x = t.recHash d b))) (t.updBundle d b fun x => { x with agree := some 0 }))) ∧
  (∀ (s : State) (d b : Nat) (same : Bool) (n : Nat), (s.bundleAt d b).agree = some n →
    s.agreeStep d b same = s.updBundle d b fun x => { x with
        agree := some (if same then n + 1 else 0), trained := x.trained || decide (10 ≤ if same then n + 1 else 0) }) ∧
  (∀ (s : State) (d b w : Nat),
    exec (.wireFault d b w) s = .next (s.updBundle d b fun x => { x with faulty := sortUp (w :: x.faulty) })) ∧
  (∀ (s : State) (k p : Nat) (inward : Bool) (j err : Nat) (again : Bool), s.flitFails k p inward j err = true →
    exec (.flitReplay k p inward j err again) s = .next ((s.linkReplay k p again).napReplay k p again)) ∧
  (∀ (s : State) (k p : Nat) (inward : Bool) (j err : Nat) (again : Bool), s.flitFails k p inward j err = false →
    exec (.flitReplay k p inward j err again) s = .next (s))

/-- Routes, isolation and admission (R131 to R152, R388, R389). -/
def Obligations.DieAndRouteCommands : Prop :=
  (∀ (s : State) (m : Master) (d b p valid sd sb sp : Nat), s.gate m (CMX_XR d b p) = .pass →
    (s.arb (.tether d)).fenced.contains 0 = false →
    exec (.routeWrite m d b p valid sd sb sp) s = .next ((((s.answer (.ok 0)).updCmx fun c => { c with xrq := c.xrq ++ [⟨d, b, p, valid, sd, sb, sp⟩] }).arbRequest (.tether d) [⟨0, 0, 0, 0⟩]).tetherGo d)) ∧
  (∀ (s : State) (m : Master) (d b p valid sd sb sp : Nat), s.gate m (CMX_XR d b p) = .pass →
    (s.arb (.tether d)).fenced.contains 0 = true →
    exec (.routeWrite m d b p valid sd sb sp) s = .next ((s.answer (.ok 0)).answer (.ok stFenced))) ∧
  (∀ (s : State) (d n : Nat) (x : XrWrite), s.arbOwns (.tether d) 0 = true →
    s.cmx.xrq.find? (fun x => decide (x.d = d)) = some x → State.tetherServe d (n + 1) s = State.tetherServe d n
      (((s.updCmx fun c => { c with xrq := c.xrq.erase x }).xrWrite x.d x.b x.p x.valid x.sd x.sb x.sp).arbBeat (.tether d) false)) ∧
  (∀ (s : State) (d b p valid sd sb sp : Nat), valid = 0 ∨ s.xrCheck d b p sd sb sp = 0 →
    s.xrWrite d b p valid sd sb sp = (((s.writeLive (CMX_XR_VALID d b p) valid).writeLive (CMX_XR_SRC_DIE d b p) sd).writeLive
      (CMX_XR_SRC_BUNDLE d b p) sb).writeLive (CMX_XR_SRC_POS d b p) sp) ∧
  (∀ (s : State) (d b p valid sd sb sp : Nat), valid ≠ 0 → s.xrCheck d b p sd sb sp ≠ 0 →
    s.xrWrite d b p valid sd sb sp = s.setF (CMX_DIE_STATUS_XR_ERR d) (s.xrCheck d b p sd sb sp)) ∧
  (∀ (s : State) (d b p sd sb sp : Nat), s.xrCheck d b p sd sb sp =
    if s.lease (bundleRegion d b) = 0 ∨ s.lease (bundleRegion d b) ≠ s.lease (bundleRegion sd sb) then 1
    else if 1792 ≤ sp ∨ s.positions d b ≤ p ∨ s.positions sd sb ≤ sp then 2
    else if dieIsolated s sd then 4
    else if s.runs (bundleRegion d b) ∧ s.runs (bundleRegion sd sb) ∧ ¬(s.posDir sd sb sp = 1 ∧ s.posDir d b p = 2) then 3
    else 0) ∧
  (∀ (s : State) (m : Master) (d : Nat), s.gate m (CMX_DIE_CTRL d) = .pass → s.dieState d = 2 →
    exec (.dieIsolate m d) s = .next (
      let u := (s.answer (.ok 0))
      let t := (u.bundlesDown d).setFs [(CMX_DIE_STATUS_STATE d, 3), (CMX_DIE_STATUS_CAUSE d, 2)]
      let t := (((t.regionsLost d).sensorsValid d false).dieClocksStop d).checkersStop d
      let t := (State.sleepPins u (t.goldLoseDie d) (u.diePins d)).padNote
      (t.raise .DIE_LOST false 0 d).raiseLeases .REGION_LOST d (u.dieLeases d))) ∧
  (∀ (s : State) (m : Master) (d : Nat), s.gate m (CMX_DIE_CTRL d) = .pass → s.dieState d = 0 ∨ s.dieState d = 1 →
    exec (.dieIsolate m d) s = .next (
      let u := (s.answer (.ok 0))
      let t := (u.bundlesDown d).setFs [(CMX_DIE_STATUS_STATE d, 3), (CMX_DIE_STATUS_CAUSE d, 2)]
      let t := (((t.regionsLost d).sensorsValid d false).dieClocksStop d).checkersStop d
      let t := (State.sleepPins u (t.goldLoseDie d) (u.diePins d)).padNote
      t)) ∧
  (∀ (s : State) (m : Master) (d : Nat), s.gate m (CMX_DIE_CTRL d) = .pass → dieIsolated s d = true →
    exec (.dieIsolate m d) s = .next ((s.answer (.ok 0)))) ∧
  (∀ (s : State) (m : Master) (d : Nat), s.gate m (CMX_DIE_CTRL d) = .pass → s.dieState d = 0 ∨ s.dieState d = 3 →
    exec (.dieAdmit m d) s = .next ((s.answer (.ok 0)).admitStart d)) ∧
  (∀ (s : State) (m : Master) (d : Nat), s.gate m (CMX_DIE_CTRL d) = .pass → ¬ (s.dieState d = 0 ∨ s.dieState d = 3) →
    exec (.dieAdmit m d) s = .next ((s.answer (.ok 0)).setF (CMX_DIE_STATUS_FIELD_BUSY d) 1)) ∧
  (∀ (s : State) (d : Nat), s.dieState d = 1 → exec (.admitTimeout d) s = .next (s.admitFail d 1)) ∧
  (∀ (s : State) (d : Nat), s.dieState d = 1 →
    ((List.range 16).any fun b => decide (s.bState d b ≠ 3 ∧ s.bState d b ≠ 5)) = false → s.allDisabled d = false →
    exec (.dieAdmitEnd d true) s = .next (s.admitDone d)) ∧
  (∀ (s : State) (d : Nat), s.dieState d = 1 →
    ((List.range 16).any fun b => decide (s.bState d b ≠ 3 ∧ s.bState d b ≠ 5)) = false → s.allDisabled d = false →
    exec (.dieAdmitEnd d false) s = .next (s.admitFail d 2)) ∧
  (∀ (s : State) (d : Nat) (idOk : Bool), s.dieState d = 1 →
    ((List.range 16).any fun b => decide (s.bState d b ≠ 3 ∧ s.bState d b ≠ 5)) = false → s.allDisabled d = true →
    exec (.dieAdmitEnd d idOk) s = .next ((s.setF (CMX_DIE_STATUS_CAUSE d) 3).admitFail d 0)) ∧
  (∀ (s : State) (d : Nat),
    exec (.dieReset d) s = .next ((s.fabReset d).updCmx fun c => { c with resets := if c.resets.contains d then c.resets else d :: c.resets }))

/-- Packets and their answers (R157 to R175). -/
def Obligations.NocPacketCommands : Prop :=
  (∀ (s : State) (p : Packet) (q r : Packet), r = { p with opc := opcRead, data := [], be := [] } →
    s.napMaySend p.src = true → s.f (NOC_PORT_STATUS_STATE (nodeRouter p.src) (nodePort p.src)) = 1 →
    (s.dueOf p.src).length < 64 →
    (if isTenantSrc { r with vc := s.vcOf r } then s.napCheck { r with vc := s.vcOf r } (s.srcLease r) else s.hubStamp { r with vc := s.vcOf r }) =
      .forward q →
    exec (.nocRead p) s = .next (((s.updNoc fun n => { n with outst := n.outst ++ [{ q with rset := s.activeSet }] }).forward q).hubServeAll)) ∧
  (∀ (s : State) (p : Packet) (r : Packet) (st : Nat) (c : Bool) (log : Option DropCause),
    r = { p with opc := opcRead, data := [], be := [] } → s.napMaySend p.src = true →
    s.f (NOC_PORT_STATUS_STATE (nodeRouter p.src) (nodePort p.src)) = 1 → (s.dueOf p.src).length < 64 →
    (if isTenantSrc { r with vc := s.vcOf r } then s.napCheck { r with vc := s.vcOf r } (s.srcLease r) else s.hubStamp { r with vc := s.vcOf r }) =
      .answer st c log → exec (.nocRead p) s = .next (
      (((s.updNoc fun n => { n with outst := n.outst ++ [{ r with vc := s.vcOf r }] }).napRefused
      { r with vc := s.vcOf r } (s.srcLease r) c log).respondHere { r with vc := s.vcOf r } st).hubServeAll)) ∧
  (∀ (s : State) (p : Packet),
    s.napMaySend p.src = false ∨ s.f (NOC_PORT_STATUS_STATE (nodeRouter p.src) (nodePort p.src)) ≠ 1 ∨ 64 ≤ (s.dueOf p.src).length →
    exec (.nocRead p) s = .next (s.hubServeAll)) ∧
  (∀ (s : State) (p : Packet) (q r : Packet), r = { p with opc := opcWrite } → s.napMaySend p.src = true →
    s.f (NOC_PORT_STATUS_STATE (nodeRouter p.src) (nodePort p.src)) = 1 → (s.dueOf p.src).length < 64 →
    (if isTenantSrc { r with vc := s.vcOf r } then s.napCheck { r with vc := s.vcOf r } (s.srcLease r) else s.hubStamp { r with vc := s.vcOf r }) =
      .forward q →
    exec (.nocWrite p) s = .next (((s.updNoc fun n => { n with outst := n.outst ++ [{ q with rset := s.activeSet }] }).forward q).hubServeAll)) ∧
  (∀ (s : State) (p : Packet) (r : Packet) (st : Nat) (c : Bool) (log : Option DropCause),
    r = { p with opc := opcWrite } → s.napMaySend p.src = true →
    s.f (NOC_PORT_STATUS_STATE (nodeRouter p.src) (nodePort p.src)) = 1 → (s.dueOf p.src).length < 64 →
    (if isTenantSrc { r with vc := s.vcOf r } then s.napCheck { r with vc := s.vcOf r } (s.srcLease r) else s.hubStamp { r with vc := s.vcOf r }) =
      .answer st c log → exec (.nocWrite p) s = .next (
      (((s.updNoc fun n => { n with outst := n.outst ++ [{ r with vc := s.vcOf r }] }).napRefused
      { r with vc := s.vcOf r } (s.srcLease r) c log).respondHere { r with vc := s.vcOf r } st).hubServeAll)) ∧
  (∀ (s : State) (p : Packet),
    s.napMaySend p.src = false ∨ s.f (NOC_PORT_STATUS_STATE (nodeRouter p.src) (nodePort p.src)) ≠ 1 ∨ 64 ≤ (s.dueOf p.src).length →
    exec (.nocWrite p) s = .next (s.hubServeAll)) ∧
  (∀ (s : State) (node tag e : Nat) (em : Bool) (r : Packet), s.rspFor node tag = some r → r.opc = opcReadRsp →
    unitOf node = .engine e → exec (.readRsp node tag em) s = .next (s.dmaResponse e tag em)) ∧
  (∀ (s : State) (node tag : Nat) (em : Bool) (r : Packet), s.rspFor node tag = some r → r.opc = opcReadRsp →
    (∀ e, unitOf node ≠ .engine e) → s.rspFenced node = true →
    exec (.readRsp node tag em) s = .next (s.dropRsp node tag)) ∧
  (∀ (s : State) (node tag : Nat) (em : Bool) (r : Packet), s.rspFor node tag = some r → r.opc = opcReadRsp →
    (∀ e, unitOf node ≠ .engine e) → s.rspFenced node = false → exec (.readRsp node tag em) s = .next (
      (s.deliverRsp opcReadRsp node tag em).rspUse node
      (if em ∨ r.ended then { r with status := stErr, data := [] } else r))) ∧
  (∀ (s : State) (node tag : Nat) (em : Bool) (r : Packet), s.rspFor node tag = some r → r.opc = opcReadRsp →
    unitOf node = .cfgCtl → s.rspFenced node = false →
    (s.takeRsp node tag).f (NOC_PORT_STATUS_STATE (nodeRouter node) (nodePort node)) = 1 →
    exec (.readRsp node tag em) s = .next (
      (s.takeRsp node tag).updNoc fun n =>
      oweCredits { n with delivered := (if em ∨ r.ended then { r with status := stErr, data := [], em := true } else r) :: n.delivered } (if em ∨ r.ended then { r with status := stErr, data := [], em := true } else r))) ∧
  (∀ (s : State) (node tag : Nat) (em : Bool), (∀ r, s.rspFor node tag = some r → r.opc ≠ opcReadRsp) →
    exec (.readRsp node tag em) s = .next (s)) ∧
  (∀ (s : State) (node tag e : Nat) (em : Bool) (r : Packet), s.rspFor node tag = some r → r.opc = opcWriteRsp →
    unitOf node = .engine e → exec (.writeRsp node tag em) s = .next (s.dmaResponse e tag em)) ∧
  (∀ (s : State) (node tag : Nat) (em : Bool) (r : Packet), s.rspFor node tag = some r → r.opc = opcWriteRsp →
    (∀ e, unitOf node ≠ .engine e) → s.rspFenced node = true →
    exec (.writeRsp node tag em) s = .next (s.dropRsp node tag)) ∧
  (∀ (s : State) (node tag : Nat) (em : Bool) (r : Packet), s.rspFor node tag = some r → r.opc = opcWriteRsp →
    (∀ e, unitOf node ≠ .engine e) → s.rspFenced node = false → exec (.writeRsp node tag em) s = .next (
      (s.deliverRsp opcWriteRsp node tag em).rspUse node
      (if em ∨ r.ended then { r with status := stErr, data := [] } else r))) ∧
  (∀ (s : State) (node tag : Nat) (em : Bool) (r : Packet), s.rspFor node tag = some r → r.opc = opcWriteRsp →
    unitOf node = .cfgCtl → s.rspFenced node = false →
    (s.takeRsp node tag).f (NOC_PORT_STATUS_STATE (nodeRouter node) (nodePort node)) = 1 →
    exec (.writeRsp node tag em) s = .next (
      (s.takeRsp node tag).updNoc fun n =>
      oweCredits { n with delivered := (if em ∨ r.ended then { r with status := stErr, data := [], em := true } else r) :: n.delivered } (if em ∨ r.ended then { r with status := stErr, data := [], em := true } else r))) ∧
  (∀ (s : State) (node tag : Nat) (em : Bool), (∀ r, s.rspFor node tag = some r → r.opc ≠ opcWriteRsp) →
    exec (.writeRsp node tag em) s = .next (s)) ∧
  (∀ (s : State) (p : Packet) (q : Packet),
    q = { p with opc := opcMirror, vc := 3, dst := nodeAt 57 5, rset := s.activeSet } →
    (s.travel q (nodeRouter p.src) (nodePort p.src)).2 = .through → q.ended = false →
    (s.travel q (nodeRouter p.src) (nodePort p.src)).1.portRefusal q.dst = none →
    exec (.nocMirror p) s = .next (((s.travel q (nodeRouter p.src) (nodePort p.src)).1.reached q).traceSweep)) ∧
  (∀ (s : State) (p : Packet) (q : Packet),
    q = { p with opc := opcMirror, vc := 3, dst := nodeAt 57 5, rset := s.activeSet } →
    (s.travel q (nodeRouter p.src) (nodePort p.src)).2 = .through →
    q.ended = true ∨ (s.travel q (nodeRouter p.src) (nodePort p.src)).1.portRefusal q.dst ≠ none →
    exec (.nocMirror p) s = .next (((s.travel q (nodeRouter p.src) (nodePort p.src)).1.updNoc fun n => countDiscard n q.dst).traceSweep)) ∧
  (∀ (s : State) (p : Packet) (q : Packet),
    q = { p with opc := opcMirror, vc := 3, dst := nodeAt 57 5, rset := s.activeSet } →
    (s.travel q (nodeRouter p.src) (nodePort p.src)).2 = .waits →
    exec (.nocMirror p) s = .next ((s.travel q (nodeRouter p.src) (nodePort p.src)).1.traceSweep)) ∧
  (∀ (s : State) (p : Packet) (q : Packet) (st k i : Nat),
    q = { p with opc := opcMirror, vc := 3, dst := nodeAt 57 5, rset := s.activeSet } →
    (s.travel q (nodeRouter p.src) (nodePort p.src)).2 = .lost st k i →
    exec (.nocMirror p) s = .next (((s.travel q (nodeRouter p.src) (nodePort p.src)).1.updNoc fun n => countDiscard n q.dst).traceSweep)) ∧
  (∀ (s : State) (src : Nat) (em : Bool) (p : Packet),
    s.noc.inbox.find? (fun p => decide (p.dst = sinkNode ∧ p.opc = opcTrace ∧ p.src = src)) = some p →
    exec (.nocTrace src em) s = .next (
      let t := s.updNoc fun n => { n with inbox := dropFirst (fun p => decide (p.dst = sinkNode ∧ p.opc = opcTrace ∧ p.src = src)) n.inbox }
      let t := if em ∨ p.ended then t.updNoc fun n => countDiscard n sinkNode else (traceRecs p.data).foldl State.sinkTake t
      if traceSource p < 2 ^ 10 then t.traceSweep else t.stimGo (traceSource p) src)) ∧
  (∀ (s : State) (src : Nat) (em : Bool),
    s.noc.inbox.find? (fun p => decide (p.dst = sinkNode ∧ p.opc = opcTrace ∧ p.src = src)) = none →
    exec (.nocTrace src em) s = .next (s)) ∧
  (∀ (s : State) (p : Packet),
    exec (.reservedOpcode p true) s = .next ((s.updNoc fun n => { n with outst := n.outst ++ [p] }).respond p stErr [])) ∧
  (∀ (s : State) (p : Packet), exec (.reservedOpcode p false) s = .next (s.updNoc fun n => countDiscard n p.dst)) ∧
  (∀ (s : State) (node vc stall : Nat), exec (.creditReturn node vc stall) s = .next (
      (s.updNoc fun n =>
      { n with owed := nput n.owed (4 * node + vc % 4) (nget n.owed (4 * node + vc % 4) - 1) }).probeEvent (nodeRouter node) (nodePort node) 1 3 stall)) ∧
  (∀ (s : State) (node : Nat), isTenantPort (nodeRouter node) (nodePort node) = true →
    s.f (NOC_PORT_STATUS_STATE (nodeRouter node) (nodePort node)) = 1 → s.creditDue node = true →
    exec (.creditLimExpire node) s = .next (
      let k := nodeRouter node
      let p := nodePort node
      ((((s.probeEvent k p 1 3 (s.eff (NOC_PORT_CTRL_CREDIT_LIM k p))).fencePort k p (s.portLease k p)).cutLink k p).updNoc
        fun n => clearOwed n node).flushNode node stFenced)) ∧
  (∀ (s : State) (node : Nat),
    isTenantPort (nodeRouter node) (nodePort node) = false ∨ s.f (NOC_PORT_STATUS_STATE (nodeRouter node) (nodePort node)) ≠ 1 ∨ s.creditDue node = false →
    exec (.creditLimExpire node) s = .next (s))

/-- Ports, routers and bridges (R162 to R178). -/
def Obligations.NocPortAndRouterCommands : Prop :=
  (∀ (s : State) (m : Master) (k p : Nat), s.gate m (NOC_PORT_CTRL k p) = .pass → s.portBusy k p = true →
    exec (.portReelIn m k p none) s = .next ((s.answer (.ok 0)).busy (NOC_PORT_STATUS_FIELD_BUSY k p))) ∧
  (∀ (s : State) (m : Master) (k p : Nat), s.gate m (NOC_PORT_CTRL k p) = .pass → s.portBusy k p = false →
    s.f (NOC_PORT_STATUS_STATE k p) ≠ 1 →
    exec (.portReelIn m k p none) s = .next ((s.answer (.ok 0)).setF (NOC_PORT_STATUS_ERR k p) 3)) ∧
  (∀ (s : State) (m : Master) (k p : Nat), s.gate m (NOC_PORT_CTRL k p) = .pass → s.portBusy k p = false →
    s.f (NOC_PORT_STATUS_STATE k p) = 1 →
    (if p < 4 then s.linkUsed k p || s.linkUsed (neighbour k p) (facing p) else s.napInUse k p) = true →
    exec (.portReelIn m k p none) s = .next ((s.answer (.ok 0)).setF (NOC_PORT_STATUS_ERR k p) 2)) ∧
  (∀ (s : State) (m : Master) (k p : Nat), s.gate m (NOC_PORT_CTRL k p) = .pass → s.portBusy k p = false →
    s.f (NOC_PORT_STATUS_STATE k p) = 1 →
    (if p < 4 then s.linkUsed k p || s.linkUsed (neighbour k p) (facing p) else s.napInUse k p) = false → p < 4 →
    exec (.portReelIn m k p none) s = .next ((s.answer (.ok 0)).setPort k p 2)) ∧
  (∀ (s : State) (m : Master) (k p : Nat), s.gate m (NOC_PORT_CTRL k p) = .pass → s.portBusy k p = false →
    s.f (NOC_PORT_STATUS_STATE k p) = 1 →
    (if p < 4 then s.linkUsed k p || s.linkUsed (neighbour k p) (facing p) else s.napInUse k p) = false → 4 ≤ p →
    exec (.portReelIn m k p none) s = .next (((s.answer (.ok 0)).setPort k p 2).flushNode (nodeAt k (p - 4)) stUnreach)) ∧
  (∀ (s : State) (m : Master) (k p c : Nat), s.gate m (NOC_PORT_CTRL k p) = .pass → p < 4 → meshPresent k p = true →
    p < facing p →
    exec (.portReelIn m k p (some c)) s = .next (((s.answer (.ok 0)).portCmd k p 1).busy (NOC_PORT_STATUS_FIELD_BUSY (neighbour k p) (facing p)))) ∧
  (∀ (s : State) (m : Master) (k p c : Nat), s.gate m (NOC_PORT_CTRL k p) = .pass → p < 4 → meshPresent k p = true →
    ¬ p < facing p →
    exec (.portReelIn m k p (some c)) s = .next (((s.answer (.ok 0)).portCmd (neighbour k p) (facing p) c).busy (NOC_PORT_STATUS_FIELD_BUSY k p))) ∧
  (∀ (s : State) (m : Master) (k p c : Nat), ¬ (p < 4 ∧ meshPresent k p = true) →
    exec (.portReelIn m k p (some c)) s = exec (.portReelIn m k p none) s) ∧
  (∀ (s : State) (m : Master) (k p : Nat), s.gate m (NOC_PORT_CTRL k p) = .pass → s.portBusy k p = true →
    exec (.portPayOut m k p none) s = .next ((s.answer (.ok 0)).busy (NOC_PORT_STATUS_FIELD_BUSY k p))) ∧
  (∀ (s : State) (m : Master) (k p : Nat), s.gate m (NOC_PORT_CTRL k p) = .pass → s.portBusy k p = false →
    s.f (NOC_PORT_STATUS_STATE k p) = 2 ∨ s.f (NOC_PORT_STATUS_STATE k p) = 7 →
    exec (.portPayOut m k p none) s = .next ((s.answer (.ok 0)).setPort k p 3)) ∧
  (∀ (s : State) (m : Master) (k p : Nat), s.gate m (NOC_PORT_CTRL k p) = .pass → s.portBusy k p = false →
    s.f (NOC_PORT_STATUS_STATE k p) ≠ 2 → s.f (NOC_PORT_STATUS_STATE k p) ≠ 7 →
    exec (.portPayOut m k p none) s = .next ((s.answer (.ok 0)).setF (NOC_PORT_STATUS_ERR k p) 3)) ∧
  (∀ (s : State) (m : Master) (k p c : Nat), s.gate m (NOC_PORT_CTRL k p) = .pass → p < 4 → meshPresent k p = true →
    p < facing p →
    exec (.portPayOut m k p (some c)) s = .next (((s.answer (.ok 0)).portCmd k p 2).busy (NOC_PORT_STATUS_FIELD_BUSY (neighbour k p) (facing p)))) ∧
  (∀ (s : State) (m : Master) (k p c : Nat), s.gate m (NOC_PORT_CTRL k p) = .pass → p < 4 → meshPresent k p = true →
    ¬ p < facing p →
    exec (.portPayOut m k p (some c)) s = .next (((s.answer (.ok 0)).portCmd (neighbour k p) (facing p) c).busy (NOC_PORT_STATUS_FIELD_BUSY k p))) ∧
  (∀ (s : State) (m : Master) (k p c : Nat), ¬ (p < 4 ∧ meshPresent k p = true) →
    exec (.portPayOut m k p (some c)) s = exec (.portPayOut m k p none) s) ∧
  (∀ (s : State) (m : Master) (k p : Nat), s.gate m (NOC_PORT_CTRL k p) = .pass →
    s.f (NOC_PORT_STATUS_STATE k p) = 4 → exec (.portUnfence m k p) s = .next (
      let due := if p < 4 then [] else
        s.noc.outst.filter fun q => q.src = nodeAt k (p - 4) && !(s.noc.rsps.any fun r => r.dst = nodeAt k (p - 4) ∧ r.tag = q.tag)
      let t := (due.foldl (fun t q => t.respondHere q stFenced) (s.answer (.ok 0))).unfenceInputs k p
      if t.sidesUp k p then (t.portState k p 6).updNoc fun n => setResync n (32 * k + p) 1 else t.portState k p 5)) ∧
  (∀ (s : State) (m : Master) (k p : Nat), s.gate m (NOC_PORT_CTRL k p) = .pass →
    s.f (NOC_PORT_STATUS_STATE k p) ≠ 4 → exec (.portUnfence m k p) s = .next ((s.answer (.ok 0)))) ∧
  (∀ (s : State) (m : Master) (k : Nat), s.gate m (NOC_ROUTER_CTRL k) = .pass → s.f (NOC_ROUTER_STATUS_STATE k) = 3 →
    exec (.routerReelIn m k) s = .next ((s.answer (.ok 0)).busy (NOC_ROUTER_STATUS_FIELD_BUSY k))) ∧
  (∀ (s : State) (m : Master) (k : Nat), s.gate m (NOC_ROUTER_CTRL k) = .pass → s.f (NOC_ROUTER_STATUS_STATE k) ≠ 3 →
    s.f (NOC_ROUTER_STATUS_STATE k) ≠ 1 →
    exec (.routerReelIn m k) s = .next ((s.answer (.ok 0)).setF (NOC_ROUTER_STATUS_ERR k) 3)) ∧
  (∀ (s : State) (m : Master) (k : Nat), s.gate m (NOC_ROUTER_CTRL k) = .pass → s.f (NOC_ROUTER_STATUS_STATE k) = 1 →
    exec (.routerReelIn m k) s = .next (if s.routerUsed k then (s.answer (.ok 0)).setF (NOC_ROUTER_STATUS_ERR k) 2 else (s.answer (.ok 0)).routerState k 2)) ∧
  (∀ (s : State) (m : Master) (k : Nat), s.gate m (NOC_ROUTER_CTRL k) = .pass → s.f (NOC_ROUTER_STATUS_STATE k) = 3 →
    exec (.routerPayOut m k) s = .next ((s.answer (.ok 0)).busy (NOC_ROUTER_STATUS_FIELD_BUSY k))) ∧
  (∀ (s : State) (m : Master) (k : Nat), s.gate m (NOC_ROUTER_CTRL k) = .pass →
    s.f (NOC_ROUTER_STATUS_STATE k) = 2 ∨ s.f (NOC_ROUTER_STATUS_STATE k) = 7 →
    exec (.routerPayOut m k) s = .next ((s.answer (.ok 0)).setF (NOC_ROUTER_STATUS_STATE k) 3)) ∧
  (∀ (s : State) (m : Master) (k : Nat), s.gate m (NOC_ROUTER_CTRL k) = .pass → s.f (NOC_ROUTER_STATUS_STATE k) ≠ 3 →
    s.f (NOC_ROUTER_STATUS_STATE k) ≠ 2 → s.f (NOC_ROUTER_STATUS_STATE k) ≠ 7 →
    exec (.routerPayOut m k) s = .next ((s.answer (.ok 0)).setF (NOC_ROUTER_STATUS_ERR k) 3)) ∧
  (∀ (s : State) (k : Nat), s.f (NOC_ROUTER_STATUS_STATE k) = 3 →
    exec (.selftestEnd k 31 true) s = .next (s.updNoc fun n => setReady n (32 * k + 31) true)) ∧
  (∀ (s : State) (k : Nat), s.f (NOC_ROUTER_STATUS_STATE k) = 3 →
    exec (.selftestEnd k 31 false) s = .next ((s.routerState k 7).setF (NOC_ROUTER_STATUS_ERR k) 4)) ∧
  (∀ (s : State) (k p : Nat), p ≠ 31 → s.f (NOC_PORT_STATUS_STATE k p) = 3 →
    exec (.selftestEnd k p true) s = .next (s.updNoc fun n => setReady n (32 * k + p) true)) ∧
  (∀ (s : State) (k p : Nat), p ≠ 31 → s.f (NOC_PORT_STATUS_STATE k p) = 3 →
    exec (.selftestEnd k p false) s = .next ((s.setPort k p 7).setF (NOC_PORT_STATUS_ERR k p) 4)) ∧
  (∀ (s : State) (k p : Nat) (pass : Bool),
    (p = 31 ∧ s.f (NOC_ROUTER_STATUS_STATE k) ≠ 3) ∨ (p ≠ 31 ∧ s.f (NOC_PORT_STATUS_STATE k p) ≠ 3) →
    exec (.selftestEnd k p pass) s = .next (s)) ∧
  (∀ (s : State) (k p : Nat), s.f (NOC_PORT_STATUS_STATE k p) ≠ 8 →
    exec (.bridgeSideDown k p true) s = .next ((s.updNoc fun n => { n with down := sideKey k p true :: n.down.filter (· ≠ sideKey k p true) }).bridgeDown k p stSideDown)) ∧
  (∀ (s : State) (k p : Nat), s.f (NOC_PORT_STATUS_STATE k p) ≠ 8 → p < 4 →
    exec (.bridgeSideDown k p false) s = .next ((s.updNoc fun n => { n with down := sideKey k p false :: n.down.filter (· ≠ sideKey k p false) }).bridgeDown (neighbour k p) (facing p) stSideDown)) ∧
  (∀ (s : State) (k p : Nat), s.f (NOC_PORT_STATUS_STATE k p) ≠ 8 → 4 ≤ p →
    exec (.bridgeSideDown k p false) s = .next (
      let t := (s.updNoc fun n => { n with down := sideKey k p false :: n.down.filter (· ≠ sideKey k p false) })
      let due := t.noc.outst.filter fun q => decide (q.src = nodeAt k (p - 4)) && !t.noc.answered q
      due.foldl (fun t q => t.respondHere q stSideDown) ((t.portDown k p).resyncDrop k p))) ∧
  (∀ (s : State) (k p : Nat) (far : Bool), s.f (NOC_PORT_STATUS_STATE k p) = 8 →
    exec (.bridgeSideDown k p far) s = .next (s)) ∧
  (∀ (s : State) (k p : Nat), s.portDown k p =
      if s.f (NOC_PORT_STATUS_STATE k p) ∈ [2, 4, 7, 8] then s else s.setPort k p 5) ∧
  (∀ (s : State) (k p : Nat) (far : Bool) (t : State),
    t = (s.updNoc fun n => { n with down := n.down.filter (· ≠ sideKey k p far) }) →
    t.f (NOC_PORT_STATUS_STATE k p) = 5 ∨ t.f (NOC_PORT_STATUS_STATE k p) = 6 → t.sidesUp k p = true →
    t.unitUp k p = true →
    exec (.resyncReq k p far) s = .next (((t.resyncDrop k p).setPort k p 6).updNoc fun n => setResync n (32 * k + p) 1)) ∧
  (∀ (s : State) (k p : Nat) (far : Bool) (t : State),
    t = (s.updNoc fun n => { n with down := n.down.filter (· ≠ sideKey k p far) }) →
    (t.f (NOC_PORT_STATUS_STATE k p) ≠ 5 ∧ t.f (NOC_PORT_STATUS_STATE k p) ≠ 6) ∨ t.sidesUp k p = false ∨ t.unitUp k p = false →
    exec (.resyncReq k p far) s = .next (t)) ∧
  (∀ (s : State) (k p : Nat), s.f (NOC_PORT_STATUS_STATE k p) = 6 → nget s.noc.resync (32 * k + p) = 1 →
    exec (.resyncAck k p) s = .next (s.updNoc fun n => setReady (setResync n (32 * k + p) 2) (32 * k + p) true)) ∧
  (∀ (s : State) (k p : Nat), s.f (NOC_PORT_STATUS_STATE k p) ≠ 6 ∨ nget s.noc.resync (32 * k + p) ≠ 1 →
    exec (.resyncAck k p) s = .next (s))

/-- Slot tables, routing tables and trace (R160 to R178). -/
def Obligations.NocTableAndTraceCommands : Prop :=
  (∀ (s : State) (m : Master), s.gate m NOC_EPOCH = .pass →
    (s.bit NOC_STATUS_CHECKING ∨ s.bit NOC_STATUS_SWAP_PENDING ∨ s.bit NOC_STATUS_DRAINING) →
    exec (.nocSwap m) s = .next ((s.answer (.ok 0)).busy NOC_STATUS_FIELD_BUSY)) ∧
  (∀ (s : State) (m : Master), s.gate m NOC_EPOCH = .pass →
    ¬ (s.bit NOC_STATUS_CHECKING ∨ s.bit NOC_STATUS_SWAP_PENDING ∨ s.bit NOC_STATUS_DRAINING) →
    exec (.nocSwap m) s = .next (((s.answer (.ok 0)).setF NOC_STATUS_CHECKING 1).updNoc fun n => { n with left := [] })) ∧
  (∀ (s : State), s.bit NOC_STATUS_CHECKING = true → exec (.swapCheckEnd) s = .next (
      let t := s.setF NOC_STATUS_CHECKING 0
      let e := s.setCheck (1 - s.activeSet)
      if e = 0 then (t.setF NOC_STATUS_ERR 0).setF NOC_STATUS_SWAP_PENDING 1 else t.setF NOC_STATUS_ERR e)) ∧
  (∀ (s : State), s.bit NOC_STATUS_CHECKING = false → exec (.swapCheckEnd) s = .next (s)) ∧
  (∀ (s : State) (t : Nat),
    s.setCheck t = if s.setLoops t then 2 else if s.setDead t then 3 else if s.setCycles t then 1 else 0) ∧
  (∀ (s : State), exec (.epochBoundary) s = .next (
      let t := if s.bit NOC_STATUS_SWAP_PENDING then
          ((s.setF NOC_STATUS_SWAP_PENDING 0).setF NOC_STATUS_ACTIVE (1 - s.activeSet)).setF NOC_STATUS_DRAINING 1
        else s
      let t := t.noc.ready.foldl (fun t e =>
        if e.1 % 32 = 31 then t.routerState (e.1 / 32) 1 else t.setPort (e.1 / 32) (e.1 % 32) 1) t
      ((t.updNoc fun n => { n with ready := [], resync := n.resync.filter (fun e => e.2 ≠ 2) }).applyLive
        NOC_EPOCH_EPOCH_US).pcEpoch.cmxEpoch.portsGo)) ∧
  (∀ (s : State), s.setFlies (1 - s.activeSet) = false → exec (.setDrainEnd) s = .next (s.setF NOC_STATUS_DRAINING 0)) ∧
  (∀ (s : State), s.setFlies (1 - s.activeSet) = true → exec (.setDrainEnd) s = .next (s)) ∧
  (∀ (s : State) (src node : Nat), src < 2 ^ 10 ∧ s.gapOver (s.probe src) = false →
    exec (.traceFlushTimer src node) s = .next (s.setProbe src { s.probe src with due := true })) ∧
  (∀ (s : State) (src node : Nat), ¬ (src < 2 ^ 10 ∧ s.gapOver (s.probe src) = false) → (s.probe src).recs = [] →
    exec (.traceFlushTimer src node) s = .next (s)) ∧
  (∀ (s : State) (src node : Nat) (d : List Byte) (pk q : Packet) (t : State),
    ¬ (src < 2 ^ 10 ∧ s.gapOver (s.probe src) = false) → (s.probe src).recs ≠ [] →
    d = ((s.probe src).recs.take 32).flatMap TraceRec.toBytes → pk =
      ⟨sinkNode, node, opcTrace, 0, 0, 0, d.length - 1, 0, 0, 0, false, 3, false, s.activeSet, d, []⟩ →
    q = (if src < 2 ^ 10 then pk else { pk with vc := s.vcOf pk }) → t = s.setProbe src { s.probe src with
      recs := (s.probe src).recs.drop 32, last := some s.nocTime, due := decide (32 ≤ ((s.probe src).recs.drop 32).length) } →
    exec (.traceFlushTimer src node) s = .next (State.settle (t.travel q (nodeRouter node) (nodePort node)) q fun u => u.reached q)) ∧
  (∀ (r : State × Fate) (p : Packet) (f : State → State), State.settle r p f = (match r.2 with
      | .through => f r.1
      | .waits => r.1
      | .lost .. => r.1.updNoc fun n => countDiscard n p.dst)) ∧
  (∀ (s : State) (k : Nat), s.eff (NOC_PRB_CTRL_TRACE_EN k) = 1 → 1 ≤ s.f DBG_STATUS_LEVEL →
    exec (.traceSyncTimer k) s = .next ((s.record k 64 ⟨4, k, s.nocTime % 2 ^ 48, s.nocTime % 2 ^ 64⟩).traceSweep)) ∧
  (∀ (s : State) (k : Nat), s.eff (NOC_PRB_CTRL_TRACE_EN k) ≠ 1 ∨ s.f DBG_STATUS_LEVEL = 0 →
    exec (.traceSyncTimer k) s = .next (s))

/-- Arbiters (R179 to R190). -/
def Obligations.ArbiterCommands : Prop :=
  (∀ (s : State) (a : ArbId) (l : List ArbAsk),
    exec (.arbRequest a l) s = .next ((((l.foldr askInsert []).foldl (fun t x => t.arbEnter a x) s).arbGrant a).arbServe a)) ∧
  (∀ (x : ArbAsk) (l : List ArbAsk) (i : ArbAsk), i ∈ askInsert x l ↔ i = x ∨ i ∈ l) ∧
  (∀ (s : State) (a : ArbId) (x : ArbAsk), (s.arb a).fenced.contains x.idx = true →
    s.arbEnter a x = s.answer (.ok stFenced)) ∧
  (∀ (s : State) (a : ArbId) (x : ArbAsk), (s.arb a).fenced.contains x.idx = false → (let b := s.arb a
      let q : ArbReq := ⟨x.idx, x.urg, b.age, 0, x.lease, x.rset, b.immune⟩
      s.arbEnter a x = s.setArb a (if b.spool.length < 16 ∧ b.held.isEmpty then { b with spool := b.spool ++ [q], age := b.age + 1 }
        else { b with held := b.held ++ [q] }))) ∧
  (∀ (s : State) (a : ArbId) (more : Bool) (lent : Option Nat), a ≠ .mirror → (a = .capture → s.cap.op = 0) →
    ((∃ k p, a = .noc k p) → lent = none) → exec (.arbBeatEnd a more lent) s = .next ((s.arbBeat a more).arbServe a)) ∧
  (∀ (s : State) (a : ArbId) (o : ArbReq) (more stays : Bool) (t : State), (s.arb a).owner = some o →
    stays = (more && !(s.arb a).dropped) →
    stays = false ∨ (a.perPacket = false ∧ (s.arb a).burst ≤ (s.arb a).beats + 1) →
    t = s.setArb a ({ s.arb a with owner := none, immune := false, beats := 0, dropped := false }.setStreak o.idx 0) →
    s.arbBeat a more = (if stays then t.arbEnter a ⟨o.idx, o.urg, o.lease, o.rset⟩ else t).arbGrant a) ∧
  (∀ (s : State) (a : ArbId) (o : ArbReq), (s.arb a).owner = some o → (s.arb a).dropped = false →
    a.perPacket = true ∨ (s.arb a).beats + 1 < (s.arb a).burst →
    (s.arb a).immune = true ∨ ((s.arb a).spool.any fun q => decide (s.arbClass a q > s.arbClass a o)) = false →
    s.arbBeat a true = s.setArb a { s.arb a with beats := (s.arb a).beats + 1 }) ∧
  (∀ (s : State) (a : ArbId) (o : ArbReq) (t : State) (q : ArbReq) (imm : Bool), (s.arb a).owner = some o →
    (s.arb a).dropped = false → a.perPacket = true ∨ (s.arb a).beats + 1 < (s.arb a).burst →
    (s.arb a).immune = false → ((s.arb a).spool.any fun q => decide (s.arbClass a q > s.arbClass a o)) = true →
    t = (s.setArb a ({ s.arb a with owner := none, resume := (o, (s.arb a).beats + 1) :: (s.arb a).resume, beats := 0 }.setStreak o.idx
      ((s.arb a).streakOf o.idx + 1))).arbPreempted a → t.arbPick a = some (q, imm) →
    s.arbBeat a true = t.arbTake a q imm) ∧
  (∀ (s : State) (a : ArbId) (more : Bool), (s.arb a).owner = none → s.arbBeat a more = s.arbGrant a) ∧
  (∀ (s : State) (k o i : Nat) (more : Bool),
    exec (.arbBeatEnd (.noc k o) more (some i)) s = .next ((s.nocLend k o i more).hubServeAll)) ∧
  (∀ (s : State) (more : Bool) (lent : Option Nat), exec (.arbBeatEnd .mirror more lent) s = .next (s.mirBeat)) ∧
  (∀ (s : State) (more : Bool) (lent : Option Nat), s.cap.op ≠ 0 → exec (.arbBeatEnd .capture more lent) s = .next (s)) ∧
  (∀ (s : State) (a : ArbId) (o : ArbReq), (s.arb a).owner = some o →
    exec (.drogueBite a) s = .next (((((((s.count a.bitesF 1).setArb a ((s.arb a).fence o.idx)).biteWaits a o.idx).biteEnd a o).arbGrant a).arbServe a))) ∧
  (∀ (s : State) (a : ArbId), (s.arb a).owner = none → exec (.drogueBite a) s = .next (s)) ∧
  (∀ (s : State) (a : ArbId) (idx : Nat), s.arbOwns a idx = true →
    exec (.arbRequestDrop a idx true) s = .next ((s.setArb a { s.arb a with dropped := true }).arbServe a)) ∧
  (∀ (s : State) (a : ArbId) (idx : Nat) (beat : Bool), beat = false ∨ s.arbOwns a idx = false →
    exec (.arbRequestDrop a idx beat) s = .next (((s.setArb a (Arb.refill 16 ((s.arb a).remove fun i => i = idx))).arbGrant a).arbServe a)) ∧
  (∀ (s : State) (m : Master) (a : ArbId) (idx : Nat), s.gate m a.base = .pass → (∀ k p, a ≠ .noc k p) →
    exec (.arbUnfence m a idx) s = .next (
      let t := (s.answer (.ok 0)).setF a.idxF idx
      t.setArb a { t.arb a with fenced := (t.arb a).fenced.filter (· ≠ idx % 128) })) ∧
  (∀ (s : State) (m : Master) (k p idx : Nat), s.gate m (ArbId.noc k p).base = .pass →
    exec (.arbUnfence m (.noc k p) idx) s = .next ((s.answer (.ok 0)).setF (ArbId.noc k p).idxF idx))

/-- The issue of engine instructions (R196, R214, R220, R229, R231, R235). -/
def Obligations.EngineInstructionsIssue : Prop :=
  (∀ (s : State) (e : Nat) (is : Issue) (op : EngOp),
    s.engState e ≠ 1 ∨ (s.engAt e).stall.isSome ∨ s.eff (ENG_TRIO_CLK_EN (e / 3)) / 2 ^ (e % 3) % 2 = 0 →
    s.engIssue e is op = s) ∧
  (∀ (s : State) (e : Nat) (is : Issue) (op : EngOp), s.engState e = 1 → (s.engAt e).stall = none →
    s.eff (ENG_TRIO_CLK_EN (e / 3)) / 2 ^ (e % 3) % 2 = 1 → (engCounted s e is).rowErr e (0x4000 + s.engPc e) = 2 →
    s.engIssue e is op = (engFetched s e is).engFault e 4 0) ∧
  (∀ (s : State) (e : Nat) (is : Issue) (op : EngOp) (d : Nat), engIssues s e is → op.illegal = some d →
    s.engIssue e is op = (engFetched s e is).engFault e 1 d) ∧
  (∀ (s : State) (e : Nat) (is : Issue) (op : EngOp), engIssues s e is → op.illegal = none → op ≠ .nop →
    is.cond = 15 → s.engIssue e is op = (engFetched s e is).engFault e 1 1) ∧
  (∀ (s : State) (e : Nat) (is : Issue) (op : EngOp), engIssues s e is → op.illegal = none →
    op = .nop ∨ is.cond ≠ 15 → engAtEnd s e is = true → op.noEnd = true →
    s.engIssue e is op = (engFetched s e is).engFault e 1 3) ∧
  (∀ (s : State) (e : Nat) (is : Issue) (op : EngOp), engIssues s e is → op.illegal = none → op ≠ .nop →
    is.cond ≠ 15 → engAtEnd s e is = false ∨ op.noEnd = false → (engFetched s e is).condHolds e is.cond = false →
    s.engIssue e is op =
      let r := loopNext (s.engPc e) ((engFetched s e is).engAt e) ((engFetched s e is).ldepth e)
      (((engFetched s e is).setEng e r.2.2).setLdepth e r.2.1).engDone e (s.engPc e) r.1 false false) ∧
  (∀ (s : State) (e : Nat) (is : Issue), engIssues s e is →
    exec (.engNop e is) s = .next (engGoesOn s (engFetched s e is) e false)) ∧
  (∀ (s : State) (e : Nat) (st : StoreFld) (w : Nat) (sat : Bool), st.sd = 0 → s.opStore e st w sat = .next s false) ∧
  (∀ (s : State) (e : Nat) (st : StoreFld) (w : Nat) (sat : Bool), st.sd = 1 ∨ st.sd = 2 → s.opStore e st w sat =
      let t := if sat then s.setF (ENG_DP_FLAGS_MS (e / 3) (e % 3)) 1 else s
      let a := (t.engAt e).adr (st.sd - 1) st.sr
      let r := t.engStore e (st.sd - 1) a (storeMerge st ((t.engAt e).word (st.sd - 1) a) w)
      .next (r.1.updEng e fun g => g.postIf st.sp (st.sd - 1) st.sr st.sn) r.2) ∧
  (∀ (s : State) (e : Nat) (st : StoreFld) (w : Nat) (sat : Bool) (t : State) (g : Eng), 3 ≤ st.sd →
    t = (if sat then s.setF (ENG_DP_FLAGS_MS (e / 3) (e % 3)) 1 else s) →
    (t.engAt e).streamWrite (st.sd - 1) (t.pack e (st.sd - 1)) (storeStream st w) = some g →
    s.opStore e st w sat = .next (t.setEng e g) false) ∧
  (∀ (s : State) (e : Nat) (st : StoreFld) (w : Nat) (sat : Bool) (t : State), 3 ≤ st.sd →
    t = (if sat then s.setF (ENG_DP_FLAGS_MS (e / 3) (e % 3)) 1 else s) →
    (t.engAt e).streamWrite (st.sd - 1) (t.pack e (st.sd - 1)) (storeStream st w) = none →
    s.opStore e st w sat = .word t (st.sd - 1) (storeStream st w))

/-- M-class instructions (R196, R198 to R201, R223 to R225). -/
def Obligations.EngineMultiplies : Prop :=
  (∀ (s : State) (e : Nat) (is : Issue) (f : MulFld) (x y : Nat) (g1 g2 : Eng) (t : State), engIssues s e is →
    engCond s e is → f.illegal 3 false = false →
    (engFetched s e is).readOperand e ((engFetched s e is).engAt e) f.xAddr = some (x, g1) →
    (engFetched s e is).operandErr e ((engFetched s e is).engAt e) f.xAddr ≠ 2 →
    (engFetched s e is).operandErr e ((engFetched s e is).engAt e) f.yAddr ≠ 2 →
    t = ((engFetched s e is).operandSee e ((engFetched s e is).engAt e) f.xAddr).operandSee e ((engFetched s e is).engAt e) f.yAddr →
    t.readOperand e g1 f.yAddr = some (y, g2) → exec (.mac e is f) s = .next (
      let m := (engFetched s e is).engMode e
      let w := moveWord m ((engFetched s e is).engAt e) f.st
      engEnds s e is (.mac f) (((t.setEng e g2).accumulate e f.aop [(f.tgt, m.prod x 0 y 0)]).opStore e f.st w.1 w.2))) ∧
  (∀ (s : State) (e : Nat) (is : Issue) (f : MulFld), engIssues s e is → engCond s e is → f.illegal 3 false = false →
    (engFetched s e is).readOperand e ((engFetched s e is).engAt e) f.xAddr = none →
    exec (.mac e is f) s = .next ((engFetched s e is).updEng e fun g => { g with stall := some (.retry is (.mac f)) })) ∧
  (∀ (s : State) (e : Nat) (is : Issue) (f : MulFld) (x : Nat) (g1 : Eng), engIssues s e is → engCond s e is →
    f.illegal 3 false = false →
    (engFetched s e is).readOperand e ((engFetched s e is).engAt e) f.xAddr = some (x, g1) →
    (engFetched s e is).operandErr e ((engFetched s e is).engAt e) f.xAddr = 2 ∨ (engFetched s e is).operandErr e ((engFetched s e is).engAt e) f.yAddr = 2 →
    exec (.mac e is f) s = .next ((((engFetched s e is).operandSee e ((engFetched s e is).engAt e) f.xAddr).operandSee e ((engFetched s e is).engAt e) f.yAddr).engFault e 2 0)) ∧
  (∀ (s : State) (e : Nat) (is : Issue) (f : MulFld) (x y : Nat) (g1 g2 : Eng) (t : State), engIssues s e is →
    engCond s e is → f.illegal 1 false = false →
    (engFetched s e is).readOperand e ((engFetched s e is).engAt e) f.xAddr = some (x, g1) →
    (engFetched s e is).operandErr e ((engFetched s e is).engAt e) f.xAddr ≠ 2 →
    (engFetched s e is).operandErr e ((engFetched s e is).engAt e) f.yAddr ≠ 2 →
    t = ((engFetched s e is).operandSee e ((engFetched s e is).engAt e) f.xAddr).operandSee e ((engFetched s e is).engAt e) f.yAddr →
    t.readOperand e g1 f.yAddr = some (y, g2) → exec (.cmac e is f) s = .next (
      let m := (engFetched s e is).engMode e
      let w := moveWord m ((engFetched s e is).engAt e) f.st
      engEnds s e is (.cmac f) (((t.setEng e g2).accumulate e f.aop (if m.conj then
        [(2 * f.tgt, m.prod x 0 y 0 + m.prod x 1 y 1), (2 * f.tgt + 1, m.prod x 1 y 0 - m.prod x 0 y 1)]
      else [(2 * f.tgt, m.prod x 0 y 0 - m.prod x 1 y 1), (2 * f.tgt + 1, m.prod x 0 y 1 + m.prod x 1 y 0)])).opStore e f.st w.1 w.2))) ∧
  (∀ (s : State) (e : Nat) (is : Issue) (f : MulFld), engIssues s e is → engCond s e is → f.illegal 1 false = false →
    (engFetched s e is).readOperand e ((engFetched s e is).engAt e) f.xAddr = none →
    exec (.cmac e is f) s = .next ((engFetched s e is).updEng e fun g => { g with stall := some (.retry is (.cmac f)) })) ∧
  (∀ (s : State) (e : Nat) (is : Issue) (f : MulFld) (x : Nat) (g1 : Eng), engIssues s e is → engCond s e is →
    f.illegal 1 false = false →
    (engFetched s e is).readOperand e ((engFetched s e is).engAt e) f.xAddr = some (x, g1) →
    (engFetched s e is).operandErr e ((engFetched s e is).engAt e) f.xAddr = 2 ∨ (engFetched s e is).operandErr e ((engFetched s e is).engAt e) f.yAddr = 2 →
    exec (.cmac e is f) s = .next ((((engFetched s e is).operandSee e ((engFetched s e is).engAt e) f.xAddr).operandSee e ((engFetched s e is).engAt e) f.yAddr).engFault e 2 0)) ∧
  (∀ (s : State) (e : Nat) (is : Issue) (f : MulFld) (x y : Nat) (g1 g2 : Eng) (t : State), engIssues s e is →
    engCond s e is → f.illegal 0 false = false →
    (engFetched s e is).readOperand e ((engFetched s e is).engAt e) f.xAddr = some (x, g1) →
    (engFetched s e is).operandErr e ((engFetched s e is).engAt e) f.xAddr ≠ 2 →
    (engFetched s e is).operandErr e ((engFetched s e is).engAt e) f.yAddr ≠ 2 →
    t = ((engFetched s e is).operandSee e ((engFetched s e is).engAt e) f.xAddr).operandSee e ((engFetched s e is).engAt e) f.yAddr →
    t.readOperand e g1 f.yAddr = some (y, g2) → exec (.qmac e is f) s = .next (
      let m := (engFetched s e is).engMode e
      let w := moveWord m ((engFetched s e is).engAt e) f.st
      engEnds s e is (.qmac f) (((t.setEng e g2).accumulate e f.aop [(0, m.prod x 0 y 0), (1, m.prod x 1 y 1), (2, m.prod x 0 y 1), (3, m.prod x 1 y 0)]).opStore e f.st w.1 w.2))) ∧
  (∀ (s : State) (e : Nat) (is : Issue) (f : MulFld), engIssues s e is → engCond s e is → f.illegal 0 false = false →
    (engFetched s e is).readOperand e ((engFetched s e is).engAt e) f.xAddr = none →
    exec (.qmac e is f) s = .next ((engFetched s e is).updEng e fun g => { g with stall := some (.retry is (.qmac f)) })) ∧
  (∀ (s : State) (e : Nat) (is : Issue) (f : MulFld) (x : Nat) (g1 : Eng), engIssues s e is → engCond s e is →
    f.illegal 0 false = false →
    (engFetched s e is).readOperand e ((engFetched s e is).engAt e) f.xAddr = some (x, g1) →
    (engFetched s e is).operandErr e ((engFetched s e is).engAt e) f.xAddr = 2 ∨ (engFetched s e is).operandErr e ((engFetched s e is).engAt e) f.yAddr = 2 →
    exec (.qmac e is f) s = .next ((((engFetched s e is).operandSee e ((engFetched s e is).engAt e) f.xAddr).operandSee e ((engFetched s e is).engAt e) f.yAddr).engFault e 2 0)) ∧
  (∀ (s : State) (e : Nat) (is : Issue) (f : MulFld) (x y : Nat) (g1 g2 : Eng) (t : State), engIssues s e is →
    engCond s e is → f.illegal 1 false = false →
    (engFetched s e is).readOperand e ((engFetched s e is).engAt e) f.xAddr = some (x, g1) →
    (engFetched s e is).operandErr e ((engFetched s e is).engAt e) f.xAddr ≠ 2 →
    (engFetched s e is).operandErr e ((engFetched s e is).engAt e) f.yAddr ≠ 2 →
    t = ((engFetched s e is).operandSee e ((engFetched s e is).engAt e) f.xAddr).operandSee e ((engFetched s e is).engAt e) f.yAddr →
    t.readOperand e g1 f.yAddr = some (y, g2) → exec (.dmac e is f) s = .next (
      let m := (engFetched s e is).engMode e
      let w := moveWord m ((engFetched s e is).engAt e) f.st
      engEnds s e is (.dmac f) (((t.setEng e g2).accumulate e f.aop [(2 * f.tgt, m.dprod x y 0), (2 * f.tgt + 1, m.dprod x y 1)]).opStore e f.st w.1 w.2))) ∧
  (∀ (s : State) (e : Nat) (is : Issue) (f : MulFld), engIssues s e is → engCond s e is → f.illegal 1 false = false →
    (engFetched s e is).readOperand e ((engFetched s e is).engAt e) f.xAddr = none →
    exec (.dmac e is f) s = .next ((engFetched s e is).updEng e fun g => { g with stall := some (.retry is (.dmac f)) })) ∧
  (∀ (s : State) (e : Nat) (is : Issue) (f : MulFld) (x : Nat) (g1 : Eng), engIssues s e is → engCond s e is →
    f.illegal 1 false = false →
    (engFetched s e is).readOperand e ((engFetched s e is).engAt e) f.xAddr = some (x, g1) →
    (engFetched s e is).operandErr e ((engFetched s e is).engAt e) f.xAddr = 2 ∨ (engFetched s e is).operandErr e ((engFetched s e is).engAt e) f.yAddr = 2 →
    exec (.dmac e is f) s = .next ((((engFetched s e is).operandSee e ((engFetched s e is).engAt e) f.xAddr).operandSee e ((engFetched s e is).engAt e) f.yAddr).engFault e 2 0)) ∧
  (∀ (s : State) (e : Nat) (is : Issue) (f : MulFld), engIssues s e is → engCond s e is → f.illegal 0 true = false →
    exec (.pmov e is f) s = .next (
      let w := moveWord ((engFetched s e is).engMode e) ((engFetched s e is).engAt e) f.st
      let g := ((engFetched s e is).engAt e).postIf (f.xp && decide (f.xsrc = 0)) 0 f.xr f.xn
      engEnds s e is (.pmov f) (((engFetched s e is).setEng e (g.postIf f.yp 1 f.yr f.yn)).opStore e f.st w.1 w.2)))

/-- A-class instructions (R226). -/
def Obligations.EngineAccumulatorInstructions : Prop :=
  (∀ (s : State) (e : Nat) (is : Issue) (f : AccFld), engIssues s e is → engCond s e is → f.illegal false = false →
    exec (.clr e is f) s = .next (
      engEnds s e is (.clr f) ((engFetched s e is).opAcc e f true
        0))) ∧
  (∀ (s : State) (e : Nat) (is : Issue) (f : AccFld), engIssues s e is → engCond s e is → f.illegal false = false →
    exec (.adda e is f) s = .next (
      engEnds s e is (.adda f) ((engFetched s e is).opAcc e f true
        (((engFetched s e is).engAt e).accInt f.ad + ((engFetched s e is).engAt e).accInt f.as)))) ∧
  (∀ (s : State) (e : Nat) (is : Issue) (f : AccFld), engIssues s e is → engCond s e is → f.illegal false = false →
    exec (.suba e is f) s = .next (
      engEnds s e is (.suba f) ((engFetched s e is).opAcc e f true
        (((engFetched s e is).engAt e).accInt f.ad - ((engFetched s e is).engAt e).accInt f.as)))) ∧
  (∀ (s : State) (e : Nat) (is : Issue) (f : AccFld), engIssues s e is → engCond s e is → f.illegal false = false →
    exec (.mova e is f) s = .next (
      engEnds s e is (.mova f) ((engFetched s e is).opAcc e f true
        (((engFetched s e is).engAt e).accInt f.as)))) ∧
  (∀ (s : State) (e : Nat) (is : Issue) (f : AccFld), engIssues s e is → engCond s e is → f.illegal false = false →
    exec (.nega e is f) s = .next (
      engEnds s e is (.nega f) ((engFetched s e is).opAcc e f true
        (-((engFetched s e is).engAt e).accInt f.as)))) ∧
  (∀ (s : State) (e : Nat) (is : Issue) (f : AccFld), engIssues s e is → engCond s e is → f.illegal false = false →
    exec (.absa e is f) s = .next (
      engEnds s e is (.absa f) ((engFetched s e is).opAcc e f true
        (if ((engFetched s e is).engAt e).accInt f.as < 0 then -((engFetched s e is).engAt e).accInt f.as else ((engFetched s e is).engAt e).accInt f.as)))) ∧
  (∀ (s : State) (e : Nat) (is : Issue) (f : AccFld), engIssues s e is → engCond s e is → f.illegal true = false →
    exec (.ash e is f) s = .next (
      engEnds s e is (.ash f) ((engFetched s e is).opAcc e f true
        (if f.shamt % 64 < 32 then ((engFetched s e is).engAt e).accInt f.as * 2 ^ (f.shamt % 64) else ((engFetched s e is).engAt e).accInt f.as / 2 ^ (64 - f.shamt % 64))))) ∧
  (∀ (s : State) (e : Nat) (is : Issue) (f : AccFld), engIssues s e is → engCond s e is → f.illegal false = false →
    exec (.cmpa e is f) s = .next (
      engEnds s e is (.cmpa f) ((engFetched s e is).opAcc e f false
        (((engFetched s e is).engAt e).accInt f.ad - ((engFetched s e is).engAt e).accInt f.as)))) ∧
  (∀ (s : State) (e : Nat) (is : Issue) (f : AccFld), engIssues s e is → engCond s e is → f.illegal false = false →
    exec (.tsta e is f) s = .next (
      engEnds s e is (.tsta f) ((engFetched s e is).opAcc e f false
        (((engFetched s e is).engAt e).accInt f.as)))) ∧
  (∀ (s : State) (e : Nat) (f : AccFld) (v : Int), s.opAcc e f true v =
      let w := moveWord (s.engMode e) (s.engAt e) f.st
      let r := (accStore (s.engMode e).sat40 v).1
      let fl := 8 * b2n (decide (sext 40 r < 0)) + 4 * b2n (decide (sext 40 r = 0)) + 2 * b2n (accE r) +
        b2n (decide (v < -(2 ^ 39) ∨ 2 ^ 39 - 1 < v))
      ((s.accWrite e f.ad v).updEng e fun g => { g with flags := fl }).opStore e f.st w.1 w.2) ∧
  (∀ (s : State) (e : Nat) (f : AccFld) (v : Int), s.opAcc e f false v =
      let w := moveWord (s.engMode e) (s.engAt e) f.st
      let fl := 8 * b2n (decide (v < 0)) + 4 * b2n (decide (v = 0)) +
        2 * b2n (decide (v < -(2 ^ 31) ∨ 2 ^ 31 - 1 < v)) + b2n (decide (v < -(2 ^ 39) ∨ 2 ^ 39 - 1 < v))
      (s.updEng e fun g => { g with flags := fl }).opStore e f.st w.1 w.2)

/-- L-class and C-class instructions (R227, R228, R230, R231, R236 to R239). -/
def Obligations.EngineRegisterAndControlInstructions : Prop :=
  (∀ (s : State) (e : Nat) (is : Issue) (reg imm : Nat), engIssues s e is → engCond s e is → badReg reg true = false →
    exec (.ldi e is reg imm) s = .next (engGoesOn s ((engFetched s e is).setEngReg e reg imm) e false)) ∧
  (∀ (s : State) (e : Nat) (is : Issue) (rd rs : Nat), engIssues s e is → engCond s e is → badReg rd true = false →
    badReg rs false = false →
    exec (.movr e is rd rs) s = .next (engGoesOn s ((engFetched s e is).setEngReg e rd ((engFetched s e is).engReg e rs)) e false)) ∧
  (∀ (s : State) (e : Nat) (is : Issue) (ad imm : Nat), engIssues s e is → engCond s e is →
    exec (.ldai e is ad imm) s = .next (engGoesOn s ((engFetched s e is).updEng e fun g => g.setAcc ad (toBits 40 (sext 32 imm))) e false)) ∧
  (∀ (s : State) (e : Nat) (is : Issue) (reg : Nat) (a : AddrFld) (w : Nat) (g : Eng), engIssues s e is →
    engCond s e is → badReg reg true = false →
    (engFetched s e is).readOperand e ((engFetched s e is).engAt e) a = some (w, g) →
    (engFetched s e is).operandErr e ((engFetched s e is).engAt e) a ≠ 2 →
    exec (.ld e is reg a) s = .next (engGoesOn s ((((engFetched s e is).operandSee e ((engFetched s e is).engAt e) a).setEng e g).setEngReg e reg w) e false)) ∧
  (∀ (s : State) (e : Nat) (is : Issue) (reg : Nat) (a : AddrFld), engIssues s e is → engCond s e is →
    badReg reg true = false → (engFetched s e is).readOperand e ((engFetched s e is).engAt e) a = none →
    exec (.ld e is reg a) s = .next ((engFetched s e is).updEng e fun g => { g with stall := some (.retry is (.ld reg a)) })) ∧
  (∀ (s : State) (e : Nat) (is : Issue) (ad : Nat) (a : AddrFld) (form : Nat) (w : Nat) (g : Eng), engIssues s e is →
    engCond s e is → form ≠ 3 → (engFetched s e is).readOperand e ((engFetched s e is).engAt e) a = some (w, g) →
    (engFetched s e is).operandErr e ((engFetched s e is).engAt e) a ≠ 2 →
    exec (.lda e is ad a form) s = .next (engGoesOn s (((engFetched s e is).operandSee e ((engFetched s e is).engAt e) a).setEng e (g.setAcc ad (toBits 40 (if form = 0 then sext 32 w else if form = 1 then sext 16 w * 2 ^ 16 else sext 16 (w / 2 ^ 16) * 2 ^ 16)))) e false)) ∧
  (∀ (s : State) (e : Nat) (is : Issue) (ad : Nat) (a : AddrFld) (form : Nat), engIssues s e is → engCond s e is →
    form ≠ 3 → (engFetched s e is).readOperand e ((engFetched s e is).engAt e) a = none →
    exec (.lda e is ad a form) s = .next ((engFetched s e is).updEng e fun g => { g with stall := some (.retry is (.lda ad a form)) })) ∧
  (∀ (s : State) (e : Nat) (is : Issue) (reg : Nat) (a : AddrFld), engIssues s e is → engCond s e is →
    badReg reg false = false → a.ms < 2 → exec (.st e is reg a) s = .next (
      let r := (engFetched s e is).engStore e a.ms (((engFetched s e is).engAt e).adr a.ms a.ar) ((engFetched s e is).engReg e reg)
      engGoesOn s (r.1.updEng e fun g => g.postIf a.p a.ms a.ar a.n) e r.2)) ∧
  (∀ (s : State) (e : Nat) (is : Issue) (reg : Nat) (a : AddrFld) (g : Eng), engIssues s e is → engCond s e is →
    badReg reg false = false → 2 ≤ a.ms →
    ((engFetched s e is).engAt e).streamWrite a.ms ((engFetched s e is).pack e a.ms) ((engFetched s e is).engReg e reg) = some g →
    exec (.st e is reg a) s = .next (engGoesOn s ((engFetched s e is).setEng e g) e false)) ∧
  (∀ (s : State) (e : Nat) (is : Issue) (reg : Nat) (a : AddrFld), engIssues s e is → engCond s e is →
    badReg reg false = false → 2 ≤ a.ms →
    ((engFetched s e is).engAt e).streamWrite a.ms ((engFetched s e is).pack e a.ms) ((engFetched s e is).engReg e reg) = none →
    exec (.st e is reg a) s = .next (engEnds s e is (.st reg a) (.word (engFetched s e is) a.ms ((engFetched s e is).engReg e reg)))) ∧
  (∀ (s : State) (e : Nat) (is : Issue) (target : Nat), engIssues s e is → engCond s e is → engAtEnd s e is = false →
    exec (.jmp e is target) s = .next (((engFetched s e is).setLdepth e (((engFetched s e is).engAt e).popTo target ((engFetched s e is).ldepth e))).engDone e (s.engPc e) target false true)) ∧
  (∀ (s : State) (e : Nat) (is : Issue) (target : Nat), engIssues s e is → engCond s e is → engAtEnd s e is = false →
    (engFetched s e is).cdepth e < 8 → exec (.call e is target) s = .next (
      (((engFetched s e is).updEng e fun g => { g with cs := nput g.cs ((engFetched s e is).cdepth e) (((engFetched s e is).engPc e + 1) % 4096) }).setCdepth e ((engFetched s e is).cdepth e + 1)).engDone e
        (s.engPc e) target false true)) ∧
  (∀ (s : State) (e : Nat) (is : Issue) (target : Nat), engIssues s e is → engCond s e is → engAtEnd s e is = false →
    8 ≤ (engFetched s e is).cdepth e → exec (.call e is target) s = .next ((engFetched s e is).engFault e 6 0)) ∧
  (∀ (s : State) (e : Nat) (is : Issue), engIssues s e is → engCond s e is → engAtEnd s e is = false →
    (engFetched s e is).cdepth e ≠ 0 →
    exec (.ret e is) s = .next (((engFetched s e is).setCdepth e ((engFetched s e is).cdepth e - 1)).engDone e (s.engPc e) (nget ((engFetched s e is).engAt e).cs ((engFetched s e is).cdepth e - 1)) false true)) ∧
  (∀ (s : State) (e : Nat) (is : Issue), engIssues s e is → engCond s e is → engAtEnd s e is = false →
    (engFetched s e is).cdepth e = 0 → exec (.ret e is) s = .next ((engFetched s e is).engFault e 6 0)) ∧
  (∀ (s : State) (e : Nat) (is : Issue) (count last : Nat), engIssues s e is → engCond s e is →
    engAtEnd s e is = false → (engFetched s e is).engPc e + 1 ≤ last → count ≠ 0 →
    (engFetched s e is).ldepth e < 4 → exec (.loop e is count last) s = .next (
      (((engFetched s e is).updEng e fun g => { g with
        lsRange := nput g.lsRange ((engFetched s e is).ldepth e) (((engFetched s e is).engPc e + 1) * 2 ^ 16 + last),
        lsCount := nput g.lsCount ((engFetched s e is).ldepth e) count }).setLdepth e ((engFetched s e is).ldepth e + 1)).engDone e (s.engPc e) ((s.engPc e + 1) % 4096) false true)) ∧
  (∀ (s : State) (e : Nat) (is : Issue) (count last : Nat), engIssues s e is → engCond s e is →
    engAtEnd s e is = false → (engFetched s e is).engPc e + 1 ≤ last → count = 0 →
    exec (.loop e is count last) s = .next ((engFetched s e is).engDone e (s.engPc e) ((last + 1) % 4096) false true)) ∧
  (∀ (s : State) (e : Nat) (is : Issue) (count last : Nat), engIssues s e is → engCond s e is →
    engAtEnd s e is = false → (engFetched s e is).engPc e + 1 ≤ last → count ≠ 0 →
    4 ≤ (engFetched s e is).ldepth e → exec (.loop e is count last) s = .next ((engFetched s e is).engFault e 5 0)) ∧
  (∀ (s : State) (e : Nat) (is : Issue) (count last : Nat), engIssues s e is → engCond s e is →
    engAtEnd s e is = false → last < (engFetched s e is).engPc e + 1 →
    exec (.loop e is count last) s = .next ((engFetched s e is).engFault e 1 4)) ∧
  (∀ (s : State) (e : Nat) (is : Issue) (reg last : Nat), engIssues s e is → engCond s e is →
    badReg reg false = false → engAtEnd s e is = false → (engFetched s e is).engPc e + 1 ≤ last →
    ((engFetched s e is).engReg e reg % 2 ^ 16) ≠ 0 → (engFetched s e is).ldepth e < 4 →
    exec (.loopr e is reg last) s = .next (
      (((engFetched s e is).updEng e fun g => { g with
        lsRange := nput g.lsRange ((engFetched s e is).ldepth e) (((engFetched s e is).engPc e + 1) * 2 ^ 16 + last),
        lsCount := nput g.lsCount ((engFetched s e is).ldepth e) ((engFetched s e is).engReg e reg % 2 ^ 16) }).setLdepth e ((engFetched s e is).ldepth e + 1)).engDone e (s.engPc e) ((s.engPc e + 1) % 4096) false true)) ∧
  (∀ (s : State) (e : Nat) (is : Issue) (reg last : Nat), engIssues s e is → engCond s e is →
    badReg reg false = false → engAtEnd s e is = false → (engFetched s e is).engPc e + 1 ≤ last →
    ((engFetched s e is).engReg e reg % 2 ^ 16) = 0 →
    exec (.loopr e is reg last) s = .next ((engFetched s e is).engDone e (s.engPc e) ((last + 1) % 4096) false true)) ∧
  (∀ (s : State) (e : Nat) (is : Issue) (reg last : Nat), engIssues s e is → engCond s e is →
    badReg reg false = false → engAtEnd s e is = false → (engFetched s e is).engPc e + 1 ≤ last →
    ((engFetched s e is).engReg e reg % 2 ^ 16) ≠ 0 → 4 ≤ (engFetched s e is).ldepth e →
    exec (.loopr e is reg last) s = .next ((engFetched s e is).engFault e 5 0)) ∧
  (∀ (s : State) (e : Nat) (is : Issue) (reg last : Nat), engIssues s e is → engCond s e is →
    badReg reg false = false → engAtEnd s e is = false → last < (engFetched s e is).engPc e + 1 →
    exec (.loopr e is reg last) s = .next ((engFetched s e is).engFault e 1 4)) ∧
  (∀ (s : State) (e : Nat) (is : Issue), engIssues s e is → engCond s e is → engAtEnd s e is = false →
    (engFetched s e is).ldepth e ≠ 0 →
    exec (.brk e is) s = .next (((engFetched s e is).setLdepth e ((engFetched s e is).ldepth e - 1)).engDone e (s.engPc e) ((((engFetched s e is).engAt e).loopEnd ((engFetched s e is).ldepth e - 1) + 1) % 4096) false true)) ∧
  (∀ (s : State) (e : Nat) (is : Issue), engIssues s e is → engCond s e is → engAtEnd s e is = false →
    (engFetched s e is).ldepth e = 0 → exec (.brk e is) s = .next ((engFetched s e is).engFault e 1 5)) ∧
  (∀ (s : State) (e : Nat) (is : Issue) (code : Nat), engIssues s e is → engCond s e is → engAtEnd s e is = false →
    exec (.halt e is code) s = .next ((engFetched s e is).engHalt e code)) ∧
  (∀ (s : State) (e : Nat) (is : Issue), engIssues s e is → engCond s e is →
    (engFetched s e is).bit (ENG_WDT_EN (e / 3) (e % 3)) = true →
    exec (.kick e is) s = .next (engGoesOn s (((engFetched s e is).applyLive (ENG_WDT_LOAD (e / 3) (e % 3))).setF (ENG_WDT_COUNT_COUNT (e / 3) (e % 3)) ((engFetched s e is).f (ENG_WDT_LOAD (e / 3) (e % 3)))) e false)) ∧
  (∀ (s : State) (e : Nat) (is : Issue), engIssues s e is → engCond s e is →
    (engFetched s e is).bit (ENG_WDT_EN (e / 3) (e % 3)) = false →
    exec (.kick e is) s = .next (engGoesOn s ((engFetched s e is)) e false)) ∧
  (∀ (s : State) (e : Nat) (is : Issue) (reg : Nat) (i : Bool) (chan imm : Nat) (t : State), engIssues s e is →
    engCond s e is → (!i && badReg reg false) = false →
    (engFetched s e is).bit (ENG_STIM_CTRL_EN (e / 3) (e % 3)) = true → (engFetched s e is).observes = true →
    t = (engFetched s e is).stimPush (engSource e) (engineNode e) ⟨2, engSource e, (engFetched s e is).nocTime % 2 ^ 48, chan % 256 * 2 ^ 56 + (engFetched s e is).engPc e * 2 ^ 44 + (if i then imm else (engFetched s e is).engReg e reg) % 2 ^ 32⟩ →
    exec (.stim e is reg i chan imm) s = .next (engGoesOn s ((if ((engFetched s e is).probe (engSource e)).dropped < (t.probe (engSource e)).dropped then t.count (ENG_STIM_STATUS_DROPPED (e / 3) (e % 3)) 1 else t)) e false)) ∧
  (∀ (s : State) (e : Nat) (is : Issue) (reg : Nat) (i : Bool) (chan imm : Nat), engIssues s e is → engCond s e is →
    (!i && badReg reg false) = false →
    (engFetched s e is).bit (ENG_STIM_CTRL_EN (e / 3) (e % 3)) = false ∨ (engFetched s e is).observes = false →
    exec (.stim e is reg i chan imm) s = .next (engGoesOn s ((engFetched s e is)) e false)) ∧
  (∀ (s : State) (e : Nat) (is : Issue) (mask : Nat), engIssues s e is → engCond s e is →
    ¬ ((mask % 2 = 1 ∧ (engFetched s e is).dmaBusy e 0) ∨ (mask / 2 % 2 = 1 ∧ (engFetched s e is).dmaBusy e 1)) →
    exec (.waitd e is mask) s = .next (engGoesOn s ((engFetched s e is)) e false)) ∧
  (∀ (s : State) (e : Nat) (is : Issue) (mask : Nat), engIssues s e is → engCond s e is →
    ((mask % 2 = 1 ∧ (engFetched s e is).dmaBusy e 0) ∨ (mask / 2 % 2 = 1 ∧ (engFetched s e is).dmaBusy e 1)) →
    exec (.waitd e is mask) s = .next ((engFetched s e is).updEng e fun g => { g with stall := some (.retry is (.waitd mask)) })) ∧
  (∀ (s : State) (e : Nat) (is : Issue) (code : Nat), engIssues s e is → engCond s e is →
    exec (.sig e is code) s = .next (
      engGoesOn s ((((engFetched s e is).setFs [(ENG_STATUS_SIG_CODE (e / 3) (e % 3), code), (ENG_STATUS_SIG (e / 3) (e % 3), 1)]).raise .ENG_SIGNAL true
        ((engFetched s e is).engLease e) e).brEng e 2) e false))

/-- Streams and DMA (R208 to R212, R217). -/
def Obligations.EngineStreamAndDmaCommands : Prop :=
  (∀ (s : State) (e port d : Nat), s.trioUp (e / 3) = true → s.connected (e / 3) = true → port < 2 →
    ((s.engAt e).fifoOf port).length < 16 →
    exec (.streamBeat e port d) s = .next (s.setEng e ((s.engAt e).setFifo port ((s.engAt e).fifoOf port ++ [d % 2 ^ 64])))) ∧
  (∀ (s : State) (e port d : Nat), s.trioUp (e / 3) = true → s.connected (e / 3) = true → port < 2 →
    16 ≤ ((s.engAt e).fifoOf port).length → exec (.streamBeat e port d) s = .next (s)) ∧
  (∀ (s : State) (e port d : Nat) (b : Nat) (t : List Nat), s.trioUp (e / 3) = true → s.connected (e / 3) = true →
    2 ≤ port → (s.engAt e).fifoOf port = b :: t →
    exec (.streamBeat e port d) s = .next ((s.setEng e ((s.engAt e).setFifo port t)).answer (.ok b))) ∧
  (∀ (s : State) (e port d : Nat),
    s.trioUp (e / 3) = false ∨ s.connected (e / 3) = false ∨ (2 ≤ port ∧ (s.engAt e).fifoOf port = []) →
    exec (.streamBeat e port d) s = .next (s)) ∧
  (∀ (s : State) (m : Master) (e p : Nat) (lo : Nat), s.gate m (ENG_STRM_CTRL (e / 3) (e % 3)) = .pass →
    (s.engAt e).pendOf (2 + p) = some lo → ((s.engAt e).fifoOf (2 + p)).length < 16 →
    exec (.streamFlush m e p) s = .next ((s.answer (.ok 0)).setEng e (((s.engAt e).setFifo (2 + p) ((s.engAt e).fifoOf (2 + p) ++ [lo])).setPend (2 + p) none))) ∧
  (∀ (s : State) (m : Master) (e p : Nat), s.gate m (ENG_STRM_CTRL (e / 3) (e % 3)) = .pass →
    (s.engAt e).pendOf (2 + p) = none ∨ 16 ≤ ((s.engAt e).fifoOf (2 + p)).length →
    exec (.streamFlush m e p) s = .next ((s.answer (.ok 0)))) ∧
  (∀ (s : State) (e : Nat) (p : Packet), s.noc.inbox.find? (fun p => decide (p.dst = engineNode e)) = some p →
    s.memHeld e p.addr = false →
    exec (.engNapRequest e) s = .next ((s.updNoc fun n => { n with inbox := dropFirst (fun q => q.dst = engineNode e) n.inbox }).serveEng e p)) ∧
  (∀ (s : State) (e : Nat) (p : Packet), s.noc.inbox.find? (fun p => decide (p.dst = engineNode e)) = some p →
    s.memHeld e p.addr = true → exec (.engNapRequest e) s = .next (s)) ∧
  (∀ (s : State) (e : Nat), s.noc.inbox.find? (fun p => decide (p.dst = engineNode e)) = none →
    exec (.engNapRequest e) s = .next (s)) ∧
  (∀ (s : State) (e : Nat) (p : Packet), s.f (ENG_TRIO_PWR_CLEARING (e / 3)) ≠ 1 → s.memFenced e p.addr = false →
    localRange p.addr (p.bcnt + 1) = true → p.addr % 4 = 0 → p.opc = opcWrite →
    localMem p.addr ≠ 2 ∨ s.engBusy e = false → s.serveEng e p =
      let r := s.localWrite e p.addr (p.data.take (p.bcnt + 1)) p.be
      r.1.respond p (if r.2 then stErr else stOk) []) ∧
  (∀ (s : State) (e : Nat) (p : Packet), s.f (ENG_TRIO_PWR_CLEARING (e / 3)) ≠ 1 → s.memFenced e p.addr = false →
    localRange p.addr (p.bcnt + 1) = true → p.addr % 4 = 0 → p.opc ≠ opcWrite → s.serveEng e p =
      let r := s.localRead e p.addr (p.bcnt + 1)
      if r.2.2 then r.1.respond p stErr [] else r.1.respond p stOk r.2.1) ∧
  (∀ (s : State) (e : Nat) (p : Packet), s.f (ENG_TRIO_PWR_CLEARING (e / 3)) ≠ 1 → s.memFenced e p.addr = true →
    s.serveEng e p = s.respond p stFenced []) ∧
  (∀ (s : State) (e : Nat) (p : Packet), s.f (ENG_TRIO_PWR_CLEARING (e / 3)) = 1 ∨ s.memFenced e p.addr = false →
    s.f (ENG_TRIO_PWR_CLEARING (e / 3)) = 1 ∨ localRange p.addr (p.bcnt + 1) = false ∨ p.addr % 4 ≠ 0 ∨ (p.opc = opcWrite ∧ localMem p.addr = 2 ∧ s.engBusy e = true) →
    s.serveEng e p = s.respond p stErr []) ∧
  (∀ (s : State) (m : Master) (e c : Nat), s.gate m (ENG_DMA_CTRL (e / 3) (e % 3) c) = .pass → s.dmaBusy e c = true →
    exec (.dmaGo m e c) s = .next ((s.answer (.ok 0)).busy (ENG_DMA_STATUS_FIELD_BUSY (e / 3) (e % 3) c))) ∧
  (∀ (s : State) (m : Master) (e c : Nat), s.gate m (ENG_DMA_CTRL (e / 3) (e % 3) c) = .pass → s.dmaBusy e c = false →
    s.dmaCheck e c ≠ 0 →
    exec (.dmaGo m e c) s = .next ((s.answer (.ok 0)).setF (ENG_DMA_STATUS_ERR (e / 3) (e % 3) c) (s.dmaCheck e c))) ∧
  (∀ (s : State) (m : Master) (e c : Nat), s.gate m (ENG_DMA_CTRL (e / 3) (e % 3) c) = .pass → s.dmaBusy e c = false →
    s.dmaCheck e c = 0 → exec (.dmaGo m e c) s = .next (
      let t := (s.answer (.ok 0)).setFs [(ENG_DMA_STATUS_BUSY (e / 3) (e % 3) c, 1), (ENG_DMA_STATUS_ERR (e / 3) (e % 3) c, 0), (ENG_DMA_STATUS_RSTATUS (e / 3) (e % 3) c, 0),
        (ENG_DMA_STATUS_BYTES (e / 3) (e % 3) c, 0)]
      let t := if (List.range 6).any fun i => t.dmaBusy (3 * (e / 3) + i / 2) (i % 2) && decide (6 * (e / 3) + i ≠ 2 * e + c) then t
        else t.xbackNow (ENG_TRIO_XP_OUTS (e / 3))
      (State.dmaPump e c 16 (t.updEng e fun g => g.setDma c { g.dmaOf c with off := 0, out := [], err := 0, rst := 0 })).dmaSettle e c)) ∧
  (∀ (s : State) (e c : Nat), s.dmaCheck e c =
      let la := s.dmaLocal e c
      let n := s.dmaLen e c
      if localRange la (max 1 n) = false then 1
      else if la % 4 ≠ 0 ∨ s.dmaRemote e c % 4 ≠ 0 ∨ n % 4 ≠ 0 ∨ n = 0 then 2
      else if s.f (ENG_DMA_CTRL_DIR (e / 3) (e % 3) c) = 0 ∧ localMem la = 2 ∧ s.engBusy e then 3
      else 0) ∧
  (∀ (s : State) (m : Master) (e c : Nat), s.gate m (ENG_DMA_CTRL (e / 3) (e % 3) c) = .pass → s.dmaBusy e c = true →
    exec (.dmaAbort m e c) s = .next (((s.answer (.ok 0)).updEng e fun g => g.setDma c { g.dmaOf c with err := if (g.dmaOf c).err = 0 then 5 else (g.dmaOf c).err }).dmaSettle e c)) ∧
  (∀ (s : State) (m : Master) (e c : Nat), s.gate m (ENG_DMA_CTRL (e / 3) (e % 3) c) = .pass → s.dmaBusy e c = false →
    exec (.dmaAbort m e c) s = .next ((s.answer (.ok 0)))) ∧
  (∀ (s : State) (e tag : Nat) (em : Bool) (r : Packet) (q : DmaReq), s.rspFor (engineNode e) tag = some r →
    s.rspFenced (engineNode e) = false →
    (((s.takeRsp (engineNode e) tag).engAt e).dmaOf (tag / 128)).out.find? (fun x => decide (x.tag = tag)) = some q →
    ((s.engAt e).dmaOf (tag / 128)).out.any (fun q => decide (q.tag = tag) && s.memHeld e q.addr) = false →
    em = false ∧ r.ended = false ∧ r.status = stOk → exec (.dmaResponse e tag em) s = .next (
      let t := ((s.takeRsp (engineNode e) tag).setEng e (((s.takeRsp (engineNode e) tag).engAt e).setDma (tag / 128) ({ ((s.takeRsp (engineNode e) tag).engAt e).dmaOf (tag / 128) with out := (((s.takeRsp (engineNode e) tag).engAt e).dmaOf (tag / 128)).out.filter fun x => decide (x.tag ≠ tag) } : Dma))).dmaOk e (tag / 128) q r
      (State.dmaPump e (tag / 128) 16 t).dmaSettle e (tag / 128))) ∧
  (∀ (s : State) (e tag : Nat) (em : Bool) (r : Packet) (q : DmaReq), s.rspFor (engineNode e) tag = some r →
    s.rspFenced (engineNode e) = false →
    (((s.takeRsp (engineNode e) tag).engAt e).dmaOf (tag / 128)).out.find? (fun x => decide (x.tag = tag)) = some q →
    ((s.engAt e).dmaOf (tag / 128)).out.any (fun q => decide (q.tag = tag) && s.memHeld e q.addr) = false →
    em = true ∨ r.ended = true ∨ r.status ≠ stOk → exec (.dmaResponse e tag em) s = .next (
      let d := ({ ((s.takeRsp (engineNode e) tag).engAt e).dmaOf (tag / 128) with out := (((s.takeRsp (engineNode e) tag).engAt e).dmaOf (tag / 128)).out.filter fun x => decide (x.tag ≠ tag) } : Dma)
      let d := if d.err = 0 then { d with err := 4, rst := if em ∨ r.ended then stErr else r.status } else d
      (State.dmaPump e (tag / 128) 16 ((s.takeRsp (engineNode e) tag).setEng e (((s.takeRsp (engineNode e) tag).engAt e).setDma (tag / 128) d))).dmaSettle e (tag / 128))) ∧
  (∀ (s : State) (e tag : Nat) (em : Bool) (r : Packet), s.rspFor (engineNode e) tag = some r →
    s.rspFenced (engineNode e) = false →
    ((s.engAt e).dmaOf (tag / 128)).out.any (fun q => decide (q.tag = tag) && s.memHeld e q.addr) = true →
    exec (.dmaResponse e tag em) s = .next (s)) ∧
  (∀ (s : State) (e tag : Nat) (em : Bool), s.rspFor (engineNode e) tag = none →
    exec (.dmaResponse e tag em) s = .next (s))

/-- Power of a trio (R213, R215). -/
def Obligations.TrioPowerCommands : Prop :=
  (∀ (s : State) (m : Master) (t v : Nat), s.gate m (ENG_TRIO_PWR t) = .pass → v % 4 = 3 →
    exec (.trioPwrReq m t v) s = .next ((s.answer (.ok 0)).logDrop m .badCode (ENG_TRIO_PWR t))) ∧
  (∀ (s : State) (m : Master) (t v : Nat), s.gate m (ENG_TRIO_PWR t) = .pass → v % 4 ≠ 3 →
    (((s.answer (.ok 0)).setF (ENG_TRIO_PWR_REQ t) (v % 4)).f (ENG_TRIO_PWR_STATE t) = 3 ∨ ((s.answer (.ok 0)).setF (ENG_TRIO_PWR_REQ t) (v % 4)).f (ENG_TRIO_PWR_CLEARING t) = 1) →
    exec (.trioPwrReq m t v) s = .next ((((s.answer (.ok 0)).setF (ENG_TRIO_PWR_REQ t) (v % 4)).setTrio t { ((s.answer (.ok 0)).setF (ENG_TRIO_PWR_REQ t) (v % 4)).trioAt t with kept := some (v % 4) }).trioMirror t)) ∧
  (∀ (s : State) (m : Master) (t v : Nat), s.gate m (ENG_TRIO_PWR t) = .pass → v % 4 ≠ 3 →
    ¬ (((s.answer (.ok 0)).setF (ENG_TRIO_PWR_REQ t) (v % 4)).f (ENG_TRIO_PWR_STATE t) = 3 ∨ ((s.answer (.ok 0)).setF (ENG_TRIO_PWR_REQ t) (v % 4)).f (ENG_TRIO_PWR_CLEARING t) = 1) →
    v % 4 = ((s.answer (.ok 0)).setF (ENG_TRIO_PWR_REQ t) (v % 4)).f (ENG_TRIO_PWR_STATE t) →
    exec (.trioPwrReq m t v) s = .next ((((s.answer (.ok 0)).setF (ENG_TRIO_PWR_REQ t) (v % 4)).setF (ENG_TRIO_PWR_ERR t) 0).trioMirror t)) ∧
  (∀ (s : State) (m : Master) (t v : Nat), s.gate m (ENG_TRIO_PWR t) = .pass → v % 4 ≠ 3 →
    ¬ (((s.answer (.ok 0)).setF (ENG_TRIO_PWR_REQ t) (v % 4)).f (ENG_TRIO_PWR_STATE t) = 3 ∨ ((s.answer (.ok 0)).setF (ENG_TRIO_PWR_REQ t) (v % 4)).f (ENG_TRIO_PWR_CLEARING t) = 1) →
    v % 4 ≠ ((s.answer (.ok 0)).setF (ENG_TRIO_PWR_REQ t) (v % 4)).f (ENG_TRIO_PWR_STATE t) →
    v % 4 < 2 ∧ ((s.answer (.ok 0)).setF (ENG_TRIO_PWR_REQ t) (v % 4)).trioInUse t = true →
    exec (.trioPwrReq m t v) s = .next ((((s.answer (.ok 0)).setF (ENG_TRIO_PWR_REQ t) (v % 4)).setFs [(ENG_TRIO_PWR_REQ t, ((s.answer (.ok 0)).setF (ENG_TRIO_PWR_REQ t) (v % 4)).f (ENG_TRIO_PWR_STATE t)), (ENG_TRIO_PWR_ERR t, 1)]).trioMirror t)) ∧
  (∀ (s : State) (m : Master) (t v : Nat), s.gate m (ENG_TRIO_PWR t) = .pass → v % 4 ≠ 3 →
    ¬ (((s.answer (.ok 0)).setF (ENG_TRIO_PWR_REQ t) (v % 4)).f (ENG_TRIO_PWR_STATE t) = 3 ∨ ((s.answer (.ok 0)).setF (ENG_TRIO_PWR_REQ t) (v % 4)).f (ENG_TRIO_PWR_CLEARING t) = 1) →
    v % 4 ≠ ((s.answer (.ok 0)).setF (ENG_TRIO_PWR_REQ t) (v % 4)).f (ENG_TRIO_PWR_STATE t) →
    2 ≤ v % 4 ∨ ((s.answer (.ok 0)).setF (ENG_TRIO_PWR_REQ t) (v % 4)).trioInUse t = false →
    exec (.trioPwrReq m t v) s = .next ((((s.answer (.ok 0)).setF (ENG_TRIO_PWR_REQ t) (v % 4)).trioStart t (v % 4)).trioMirror t)) ∧
  (∀ (s : State) (t us : Nat), s.f (ENG_TRIO_PWR_STATE t) = 3 → exec (.trioPwrEnd t us) s = .next (
      let x := s.trioAt t
      let u := s.setF (ENG_TRIO_PWR_STATE t) x.goal
      let u := if x.goal = 2 then (u.setF (PWR_DOM_STATUS_WAKE_US (64 + t)) (min us 65535)).trioWoken t else u
      let u := if x.goal = 2 ∧ x.clearDue then (u.setTrio t { u.trioAt t with clearDue := false }).trioClear t
        else if x.goal = 1 ∧ x.lost then (u.setTrio t { x with clearDue := false }).trioWoken t
        else u
      (u.trioKept t).trioMirror t)) ∧
  (∀ (s : State) (t us : Nat), s.f (ENG_TRIO_PWR_STATE t) ≠ 3 → exec (.trioPwrEnd t us) s = .next (s)) ∧
  (∀ (s : State) (t : Nat), s.bit (ENG_TRIO_PWR_CLEARING t) = true →
    exec (.trioClearEnd t) s = .next (((s.setF (ENG_TRIO_PWR_CLEARING t) 0).trioKept t).trioMirror t)) ∧
  (∀ (s : State) (t : Nat), s.bit (ENG_TRIO_PWR_CLEARING t) = false → exec (.trioClearEnd t) s = .next (s))

/-- Run control (R233 to R241). -/
def Obligations.EngineRunControlCommands : Prop :=
  (∀ (s : State) (m : Master) (e : Nat), s.gate m (ENG_CTRL (e / 3) (e % 3)) = .pass → s.engBusy e = true →
    exec (.engStart m e) s = .next ((s.answer (.ok 0)).busy (ENG_DP_FLAGS_FIELD_BUSY (e / 3) (e % 3)))) ∧
  (∀ (s : State) (m : Master) (e : Nat) (cyc : Nat), s.gate m (ENG_CTRL (e / 3) (e % 3)) = .pass →
    s.engBusy e = true →
    exec (.engStep m e cyc) s = .next ((s.answer (.ok 0)).busy (ENG_DP_FLAGS_FIELD_BUSY (e / 3) (e % 3)))) ∧
  (∀ (s : State) (m : Master) (e : Nat), s.gate m (ENG_CTRL (e / 3) (e % 3)) = .pass → s.engBusy e = true →
    exec (.engClrreg m e) s = .next ((s.answer (.ok 0)).busy (ENG_DP_FLAGS_FIELD_BUSY (e / 3) (e % 3)))) ∧
  (∀ (s : State) (m : Master) (e : Nat), s.gate m (ENG_CTRL (e / 3) (e % 3)) = .pass → s.engBusy e = false →
    s.trioUp (e / 3) = true → s.progSlice e = false → exec (.engStart m e) s = .next (
      ((((s.answer (.ok 0)).excClear e).updEng e fun g => { g with stall := none, stepping := false, merge := none }).wdtReload e).setEngState e
        (if s.engHeld e then 4 else 1))) ∧
  (∀ (s : State) (m : Master) (e : Nat), s.gate m (ENG_CTRL (e / 3) (e % 3)) = .pass → s.engBusy e = false →
    s.trioUp (e / 3) = true → s.progSlice e = true →
    exec (.engStart m e) s = .next ((s.answer (.ok 0)).updBist fun b => { b with start := b.start ++ [e] })) ∧
  (∀ (s : State) (m : Master) (e : Nat), s.gate m (ENG_CTRL (e / 3) (e % 3)) = .pass → s.engBusy e = false →
    s.trioUp (e / 3) = false → exec (.engStart m e) s = .next ((s.answer (.ok 0)))) ∧
  (∀ (s : State) (m : Master) (e : Nat) (cyc : Nat), s.gate m (ENG_CTRL (e / 3) (e % 3)) = .pass →
    s.engBusy e = false → s.trioUp (e / 3) = true →
    ((((s.answer (.ok 0)).updEng e fun g => { g with stall := none, stepping := true, merge := none }).wdtReload e).setEngState e 1).engClocked e = true →
    exec (.engStep m e cyc) s = .next (
      let w := (s.engAt e).progWord (s.engPc e)
      let t := (((s.answer (.ok 0)).updEng e fun g => { g with stall := none, stepping := true, merge := none }).wdtReload e).setEngState e 1
      t.engRun e ⟨bitsOf w 57 54, cyc⟩ (decodeEng w))) ∧
  (∀ (s : State) (m : Master) (e : Nat) (cyc : Nat), s.gate m (ENG_CTRL (e / 3) (e % 3)) = .pass →
    s.engBusy e = false → s.trioUp (e / 3) = true →
    ((((s.answer (.ok 0)).updEng e fun g => { g with stall := none, stepping := true, merge := none }).wdtReload e).setEngState e 1).engClocked e = false →
    exec (.engStep m e cyc) s = .next (
      let w := (s.engAt e).progWord (s.engPc e)
      let t := (((s.answer (.ok 0)).updEng e fun g => { g with stall := none, stepping := true, merge := none }).wdtReload e).setEngState e 1
      t.updEng e fun g => { g with stall := some (.gated ⟨bitsOf w 57 54, 0⟩ (decodeEng w)) })) ∧
  (∀ (s : State) (m : Master) (e : Nat), s.gate m (ENG_CTRL (e / 3) (e % 3)) = .pass → s.engBusy e = false →
    exec (.engClrreg m e) s = .next ((s.answer (.ok 0)).engClrReg e)) ∧
  (∀ (s : State) (m : Master) (e : Nat), s.gate m (ENG_CTRL (e / 3) (e % 3)) = .pass → s.engState e = 1 →
    exec (.engStop m e) s = .next (((s.answer (.ok 0)).updEng e fun g => { g with stopTo := 0 }).setEngState e 5)) ∧
  (∀ (s : State) (m : Master) (e : Nat), s.gate m (ENG_CTRL (e / 3) (e % 3)) = .pass → s.engState e ≠ 1 →
    exec (.engStop m e) s = .next ((s.answer (.ok 0)))) ∧
  (∀ (s : State) (e : Nat) (a : Nat), s.engState e = 5 → (s.engAt e).stall = none → (s.engAt e).merge = some a →
    exec (.engStopEnd e) s = .next (s.engExc e 3 0 a)) ∧
  (∀ (s : State) (e : Nat), s.engState e = 5 → (s.engAt e).stall = none → (s.engAt e).merge = none →
    (s.engAt e).stopTo = 3 → exec (.engStopEnd e) s = .next (s.engExc e 7 0 (s.engPc e))) ∧
  (∀ (s : State) (e : Nat), s.engState e = 5 → (s.engAt e).stall = none → (s.engAt e).merge = none →
    (s.engAt e).stopTo ≠ 3 → exec (.engStopEnd e) s = .next (
      if (s.engAt e).stopTo = 4 ∧ s.engHeld e = false then (s.setEng e { s.engAt e with stepping := false }).engResume e
      else (s.setEng e { s.engAt e with stepping := false }).setEngState e (s.engAt e).stopTo)) ∧
  (∀ (s : State) (e : Nat),
    s.engResume e = (s.setF (ENG_WDT_COUNT_COUNT (e / 3) (e % 3)) (max (s.f (ENG_WDT_COUNT_COUNT (e / 3) (e % 3))) 4096)).setEngState e 1) ∧
  (∀ (s : State) (e : Nat), s.engState e ≠ 5 ∨ (s.engAt e).stall.isSome → exec (.engStopEnd e) s = .next (s)) ∧
  (∀ (s : State) (e cyc : Nat) (is : Issue) (op : EngOp), (s.engAt e).stall = some (.retry is op) →
    s.engClocked e = true → exec (.engStallRelease e cyc) s = .next (
      let t := (if Stall.onStream (.retry is op) then s.count (ENG_STRM_STALL_CYCLES (e / 3) (e % 3)) cyc else s).count (ENG_CYCLES_COUNT (e / 3) (e % 3)) cyc
      (t.setEng e { s.engAt e with stall := none }).engRun e { is with cyc := 0 } op)) ∧
  (∀ (s : State) (e cyc : Nat) (is : Issue) (op : EngOp), (s.engAt e).stall = some (.gated is op) →
    s.engClocked e = true → exec (.engStallRelease e cyc) s = .next (
      let t := (if Stall.onStream (.gated is op) then s.count (ENG_STRM_STALL_CYCLES (e / 3) (e % 3)) cyc else s).count (ENG_CYCLES_COUNT (e / 3) (e % 3)) cyc
      (t.setEng e { s.engAt e with stall := none }).engRun e { is with cyc := 0 } op)) ∧
  (∀ (s : State) (e cyc : Nat), s.engClocked e = false → exec (.engStallRelease e cyc) s = .next (s)) ∧
  (∀ (s : State) (e cyc : Nat) (i w : Nat) (g : Eng), (s.engAt e).stall = some (.word i w) → s.engClocked e = true →
    (s.engAt e).streamWrite i (((s.count (ENG_STRM_STALL_CYCLES (e / 3) (e % 3)) cyc).count (ENG_CYCLES_COUNT (e / 3) (e % 3)) cyc).pack e i) w = some g →
    exec (.engStallRelease e cyc) s = .next ((((s.count (ENG_STRM_STALL_CYCLES (e / 3) (e % 3)) cyc).count (ENG_CYCLES_COUNT (e / 3) (e % 3)) cyc).setEng e { g with stall := none }).engDone e (((s.count (ENG_STRM_STALL_CYCLES (e / 3) (e % 3)) cyc).count (ENG_CYCLES_COUNT (e / 3) (e % 3)) cyc).engPc e) (((s.count (ENG_STRM_STALL_CYCLES (e / 3) (e % 3)) cyc).count (ENG_CYCLES_COUNT (e / 3) (e % 3)) cyc).engPc e) false true)) ∧
  (∀ (s : State) (e cyc : Nat), (s.engAt e).stall = none → exec (.engStallRelease e cyc) s = .next (s)) ∧
  (∀ (s : State) (e : Nat) (is : Issue) (op : EngOp), s.engState e = 5 → (s.engAt e).stall = some (.retry is op) →
    exec (.engStallAbandon e) s = .next (s.setEng e { s.engAt e with stall := none })) ∧
  (∀ (s : State) (e : Nat) (i w : Nat), s.engState e = 5 → (s.engAt e).stall = some (.word i w) →
    exec (.engStallAbandon e) s = .next (((s.setEng e { s.engAt e with stall := none }).setF (ENG_STATUS_LOST_WORD (e / 3) (e % 3)) 1).engRetire e)) ∧
  (∀ (s : State) (e : Nat), s.engState e ≠ 5 ∨ (s.engAt e).stall = none → exec (.engStallAbandon e) s = .next (s)) ∧
  (∀ (s : State) (e : Nat), s.engState e = 1 → s.f (ENG_WDT_EN (e / 3) (e % 3)) = 1 →
    s.f (ENG_WDT_COUNT_COUNT (e / 3) (e % 3)) = 0 → exec (.engWdtExpire e) s = .next (s.engStopTo e 3)) ∧
  (∀ (s : State) (e : Nat),
    s.engState e ≠ 1 ∨ s.f (ENG_WDT_EN (e / 3) (e % 3)) ≠ 1 ∨ s.f (ENG_WDT_COUNT_COUNT (e / 3) (e % 3)) ≠ 0 →
    exec (.engWdtExpire e) s = .next (s)) ∧
  (∀ (s : State) (m : Master) (e v : Nat), s.gate m (ENG_REGDATA (e / 3) (e % 3)) = .pass → s.engBusy e = true →
    exec (.engRegdataWrite m e v) s = .next ((s.answer (.ok 0)).busy (ENG_DP_FLAGS_FIELD_BUSY (e / 3) (e % 3)))) ∧
  (∀ (s : State) (m : Master) (e v : Nat) (n : Nat), s.gate m (ENG_REGDATA (e / 3) (e % 3)) = .pass →
    s.engBusy e = false → n = (s.f (ENG_REGSEL_NUM (e / 3) (e % 3))) → exec (.engRegdataWrite m e v) s = .next (
      if n < 46 then (s.answer (.ok 0)).setEngReg e n v
      else if 64 ≤ n ∧ n < 68 then (s.answer (.ok 0)).updEng e fun g => { g with lsRange := nput g.lsRange (n - 64) (bitsOf v 27 16 * 2 ^ 16 + bitsOf v 11 0) }
      else if 68 ≤ n ∧ n < 72 then (s.answer (.ok 0)).updEng e fun g => { g with lsCount := nput g.lsCount (n - 68) (v % 2 ^ 16) }
      else if n = 72 then (s.answer (.ok 0)).setLdepth e (min 4 (v % 8))
      else if 80 ≤ n ∧ n < 88 then (s.answer (.ok 0)).updEng e fun g => { g with cs := nput g.cs (n - 80) (v % 2 ^ 12) }
      else if n = 88 then (s.answer (.ok 0)).setCdepth e (min 8 (v % 16))
      else (s.answer (.ok 0)).logDrop m .badCode (ENG_REGDATA (e / 3) (e % 3)))) ∧
  (∀ (s : State) (e pc npc : Nat) (cnt : Bool) (u : State),
    u = (if cnt then (s.setEngPc e npc).engRetire e else s.setEngPc e npc) → (u.engAt e).merge = none →
    (u.engAt e).stepping = false → s.engDone e pc npc false cnt = u) ∧
  (∀ (s : State) (e pc npc : Nat) (cnt : Bool) (u : State),
    u = (if cnt then (s.setEngPc e npc).engRetire e else s.setEngPc e npc) → (u.engAt e).merge = none →
    (u.engAt e).stepping = false → s.engDone e pc npc true cnt = u.setEng e { u.engAt e with merge := some pc }) ∧
  (∀ (s : State) (e pc npc : Nat) (cnt : Bool) (ue : Bool) (u : State) (a : Nat),
    u = (if cnt then (s.setEngPc e npc).engRetire e else s.setEngPc e npc) → (u.engAt e).merge = some a →
    s.engDone e pc npc ue cnt = u.engExc e 3 0 a) ∧
  (∀ (s : State) (e cause detail pc : Nat), s.engExc e cause detail pc =
      let u := s.updEng e fun g => { g with stepping := false, stall := none, merge := none }
      let v := u.setFs [(ENG_STATUS_STATE (e / 3) (e % 3), 3), (ENG_EXC_CAUSE (e / 3) (e % 3), cause), (ENG_EXC_DETAIL (e / 3) (e % 3), detail),
        (ENG_EXC_PC (e / 3) (e % 3), pc)]
      (v.raise .ENG_EXCEPTION true (u.engLease e) e).brEng e 0) ∧
  (∀ (s u : State) (e code : Nat), u = (s.setEngPc e ((s.engPc e + 1) % 4096)).engRetire e →
    (u.engAt e).merge = none → s.engHalt e code =
      let v := (u.updEng e fun g => { g with stepping := false }).setFs [(ENG_STATUS_STATE (e / 3) (e % 3), 2), (ENG_STATUS_HALT_CODE (e / 3) (e % 3), code)]
      (v.raise .ENG_HALT true (u.engLease e) e).brEng e 1)

/-- The controllers' queues and scheduling (R247 to R258, R277 to R279). -/
def Obligations.ControllerQueueCommands : Prop :=
  (∀ (s : State) (n : Nat) (p : Packet), s.noc.inbox.find? (fun p => decide (p.dst = pcNode n)) = some p →
    s.pcState n ≠ 4 ∨ isRequest p = false ∨ (s.pcAt n).reel = true →
    exec (.dmcRequest n) s = .next ((s.updNoc fun x => { x with inbox := dropFirst (fun q => q.dst = pcNode n) x.inbox }).pcAccept n p)) ∧
  (∀ (s : State) (n : Nat), s.noc.inbox.find? (fun p => decide (p.dst = pcNode n)) = none →
    exec (.dmcRequest n) s = .next (s)) ∧
  (∀ (s : State) (n : Nat) (p : Packet), isRequest p = true → s.pcRefusal n = none → isHbm p.addr = true →
    s.pcOf p.addr = n → p.addr % 512 + (p.bcnt + 1) ≤ 512 →
    p.opc ≠ opcRead ∨ (s.arb (.pc n)).fenced.contains (pcPort p) = false →
    s.pcAccept n p = (s.updPc n fun c => { c with head := c.head ++ [(s.nocTime, p)] }).pcAdmit n ((s.pcAt n).head.length + 1)) ∧
  (∀ (s : State) (n : Nat) (p : Packet) (st : Nat), isRequest p = true → s.pcRefusal n = some st →
    s.pcAccept n p = s.respond p st []) ∧
  (∀ (s : State) (n : Nat), s.pcRefusal n =
      if s.pcState n = 0 ∨ s.pcState n = 3 then some stSideDown
      else if s.pcState n = 2 ∨ s.pcState n = 7 ∨ (s.pcAt n).reel then some stUnreach
      else none) ∧
  (∀ (s : State) (n : Nat), exec (.dmcQueueEntryFree n) s = .next (s.pcAdmit n (s.pcAt n).head.length)) ∧
  (∀ (s : State) (n : Nat) (busy : List Nat), s.pcState n ≠ 1 → exec (.dmcCommandSlot n busy) s = .next (s)) ∧
  (∀ (s : State) (n : Nat) (busy : List Nat), s.pcState n = 1 →
    48 * max 1 (s.eff (DMC_REF_POSTPONE_LIM n)) ≤ s.f (DMC_REF_STATUS_DEBT n) →
    exec (.dmcCommandSlot n busy) s = .next (
      ((s.setPc n { s.pcAt n with pages := [], hits := [], round := [] }).setF (DMC_REF_STATUS_DEBT n) (s.f (DMC_REF_STATUS_DEBT n) - 48)).count
        (DMC_REF_STATUS_FALLBACK n) 1)) ∧
  (∀ (s : State) (n : Nat) (busy : List Nat) (b : Beat), slotOpen s n busy → slotHazard s n busy = some (true, b) →
    exec (.dmcCommandSlot n busy) s = .next ((((slotTurned s n busy).issueWrite n b).pcAdmit n 8).pcReeled n)) ∧
  (∀ (s : State) (n : Nat) (busy : List Nat) (b : Beat), slotOpen s n busy → slotHazard s n busy = some (false, b) →
    exec (.dmcCommandSlot n busy) s = .next (((slotTurned s n busy).issueRead n b).pcAdmit n 8)) ∧
  (∀ (s : State) (n : Nat) (busy : List Nat) (b : Beat), slotOpen s n busy → slotHazard s n busy = none →
    s.writeTurn n (s.pcAt n) (!(slotReads s n busy).isEmpty) ≠ 0 →
    (slotTurned s n busy).pick n ({ s.pcAt n with turn := s.writeTurn n (s.pcAt n) (!(slotReads s n busy).isEmpty) }) (slotWrites s n busy) = some b →
    exec (.dmcCommandSlot n busy) s = .next ((((slotTurned s n busy).issueWrite n b).pcAdmit n 8).pcReeled n)) ∧
  (∀ (s : State) (n : Nat) (busy : List Nat) (q : ArbReq) (b : Beat), slotOpen s n busy → slotHazard s n busy = none →
    (s.writeTurn n (s.pcAt n) (!(slotReads s n busy).isEmpty) = 0 ∨ (slotTurned s n busy).pick n ({ s.pcAt n with turn := s.writeTurn n (s.pcAt n) (!(slotReads s n busy).isEmpty) }) (slotWrites s n busy) = none) →
    ((slotAsked s n busy).arb (.pc n)).owner = some q →
    (slotAsked s n busy).pick n ({ s.pcAt n with turn := s.writeTurn n (s.pcAt n) (!(slotReads s n busy).isEmpty) }) ((slotReads s n busy).filter fun b => decide (b.port = q.idx)) = some b →
    exec (.dmcCommandSlot n busy) s = .next (
      let t := (slotAsked s n busy).issueRead n b
      (t.arbBeat (.pc n) ((slotReads s n busy).any fun x => decide (x.port = b.port ∧ x.age ≠ b.age))).pcAdmit n 8)) ∧
  (∀ (s : State) (n : Nat) (busy : List Nat), slotOpen s n busy → slotHazard s n busy = none →
    (s.writeTurn n (s.pcAt n) (!(slotReads s n busy).isEmpty) = 0 ∨ (slotTurned s n busy).pick n ({ s.pcAt n with turn := s.writeTurn n (s.pcAt n) (!(slotReads s n busy).isEmpty) }) (slotWrites s n busy) = none) →
    (((slotAsked s n busy).arb (.pc n)).owner = none) →
    exec (.dmcCommandSlot n busy) s = .next ((slotAsked s n busy).refreshSlot n busy)) ∧
  (∀ (s : State) (n : Nat) (busy : List Nat) (k : Nat), s.pcState n = 1 →
    s.f (DMC_REF_STATUS_DEBT n) < 48 * max 1 (s.eff (DMC_REF_POSTPONE_LIM n)) →
    s.rfmDue (s.pcAt n) busy true = some k → exec (.dmcCommandSlot n busy) s = .next (s.setPc n ((s.pcAt n).rfm k))) ∧
  (∀ (c : Pc) (k : Nat),
    c.rfm k = { c with pages := SMap.put (fun _ => none) c.pages k none, hits := nput c.hits k 0, acts := nput c.acts k 0 }) ∧
  (∀ (s : State) (n : Nat) (busy : List Nat) (k : Nat), s.rfmDue (s.pcAt n) busy false = some k →
    s.refreshSlot n busy = s.setPc n ((s.pcAt n).rfm k)) ∧
  (∀ (s : State) (n : Nat) (busy : List Nat), s.rfmDue (s.pcAt n) busy false = none →
    s.f (DMC_REF_STATUS_DEBT n) = 0 → s.refreshSlot n busy = s) ∧
  (∀ (s : State) (n : Nat) (busy : List Nat) (k : Nat), s.rfmDue (s.pcAt n) busy false = none →
    s.f (DMC_REF_STATUS_DEBT n) ≠ 0 →
    (List.range 48).find? (fun k => !busy.contains k && !(s.pcAt n).round.contains k && !((s.pcAt n).rq ++ (s.pcAt n).wq).any (fun b => decide ((s.rowBankOf b.addr).2 = k))) = some k →
    s.refreshSlot n busy =
      let rd := (s.pcAt n).round ++ [k]
      (s.setPc n { s.pcAt n with round := if 48 ≤ rd.length then [] else rd, pages := SMap.put (fun _ => none) (s.pcAt n).pages k none }).setF
        (DMC_REF_STATUS_DEBT n) (s.f (DMC_REF_STATUS_DEBT n) - 1)) ∧
  (∀ (s : State) (n : Nat) (b : Beat) (rest : List Beat), (s.pcAt n).issued = b :: rest →
    (s.pcAt n).reqs.find? (fun q => decide (q.rid = b.rid)) = none → exec (.dmcReadChecked n) s = .next (
      let t := (s.pcSeeErr n b.addr b.err0).pcSeeErr n (b.addr + 32) b.err1
      let h0 := decide (b.err0.length = 1 ∧ t.wordBad b.addr = b.err0)
      let h1 := decide (b.err1.length = 1 ∧ t.wordBad (b.addr + 32) = b.err1)
      (t.setPc n { s.pcAt n with issued := rest, wq := if h0 || h1 then insertAge (writeBack b h0 h1) (s.pcAt n).wq else (s.pcAt n).wq }).pcReeled n)) ∧
  (∀ (s : State) (n : Nat), (s.pcAt n).issued = [] → exec (.dmcReadChecked n) s = .next (s)) ∧
  (∀ (s : State) (n : Nat) (b : Beat), (s.pcAt n).wq.find? (·.mrg) = some b →
    ((s.pcAt n).wq.any fun x => x.addr = b.addr && decide (x.age < b.age)) = true →
    exec (.dmcMerge n) s = .next (s.setPc n { s.pcAt n with wq := (s.pcAt n).wq.map fun x => if x.addr = b.addr ∧ x.age < b.age then { x with hz := true } else x })) ∧
  (∀ (s : State) (n : Nat) (b : Beat), (s.pcAt n).wq.find? (·.mrg) = some b →
    ((s.pcAt n).wq.any fun x => x.addr = b.addr && decide (x.age < b.age)) = false →
    (s.pcAt n).reqs.find? (fun q => decide (q.rid = b.rid)) = none → exec (.dmcMerge n) s = .next (
      let r := s.mergeBeat b
      let t := s.pcSeeErr n b.addr (if b.wordPart 0 then s.wordBad b.addr else [])
      let t := t.pcSeeErr n (b.addr + 32) (if b.wordPart 1 then t.wordBad (b.addr + 32) else [])
      let t := t.count (if r.2 then DMC_MRG_STATUS_MERGE_UE n else DMC_MRG_STATUS_MERGES n) 1
      (if r.2 then t.hbmUe n b.lease else t).setPc n { s.pcAt n with wq := (s.pcAt n).wq.map fun x => if x.age = b.age then r.1 else x })) ∧
  (∀ (s : State) (n : Nat), (s.pcAt n).wq.find? (·.mrg) = none → exec (.dmcMerge n) s = .next (s)) ∧
  (∀ (s : State) (n bank : Nat) (longest : Bool) (pg : Nat × Nat),
    SMap.get (fun _ => none) (s.pcAt n).pages bank = some pg →
    longest = true ∨ ((pg.2 = 0 ∨ pg.2 = 3) ∧ ((s.pcAt n).rq ++ (s.pcAt n).wq).any (fun b => decide (s.rowBankOf b.addr = (pg.1, bank))) = false) →
    exec (.dmcPageTimer n bank longest) s = .next (s.setPc n { s.pcAt n with pages := SMap.put (fun _ => none) (s.pcAt n).pages bank none, hits := nput (s.pcAt n).hits bank 0 })) ∧
  (∀ (s : State) (n bank : Nat) (longest : Bool) (pg : Nat × Nat),
    SMap.get (fun _ => none) (s.pcAt n).pages bank = some pg →
    longest = false ∧ ((pg.2 ≠ 0 ∧ pg.2 ≠ 3) ∨ ((s.pcAt n).rq ++ (s.pcAt n).wq).any (fun b => decide (s.rowBankOf b.addr = (pg.1, bank))) = true) →
    exec (.dmcPageTimer n bank longest) s = .next (s)) ∧
  (∀ (s : State) (n bank : Nat) (longest : Bool), SMap.get (fun _ => none) (s.pcAt n).pages bank = none →
    exec (.dmcPageTimer n bank longest) s = .next (s))

/-- The states of a controller (R257 to R268). -/
def Obligations.ControllerStateCommands : Prop :=
  (∀ (s : State) (n : Nat), (s.pcState n = 1 ∨ s.pcState n = 3 ∨ s.pcState n = 5) →
    exec (.refreshDebtTick n) s = .next (s.setF (DMC_REF_STATUS_DEBT n) (min 384 (s.f (DMC_REF_STATUS_DEBT n) + 1)))) ∧
  (∀ (s : State) (n : Nat), ¬ (s.pcState n = 1 ∨ s.pcState n = 3 ∨ s.pcState n = 5) →
    exec (.refreshDebtTick n) s = .next (s)) ∧
  (∀ (s : State) (n t : Nat), exec (.dmcTempRead n t) s = .next (
      let rate := if t ≤ 85 then 0 else if t ≤ 95 then 1 else 2
      let u := s.setFs [(DMC_REF_STATUS_TEMP n, min t 255), (DMC_REF_STATUS_RATE n, rate)]
      if rate = 2 ∧ s.f (DMC_REF_STATUS_RATE n) ≠ 2 then u.raise .DMC_HOT false 0 n else u)) ∧
  (∀ (s : State) (n : Nat),
    (s.pcState n = 1 ∧ s.eff (DMC_SR_EN n) = 1 ∧ (s.pcAt n).rq.isEmpty ∧ (s.pcAt n).wq.isEmpty ∧ (s.pcAt n).issued.isEmpty ∧ s.pcInputEmpty n) →
    exec (.selfRefreshEntry n) s = .next ((s.setPc n { s.pcAt n with pages := [], hits := [], turn := 0 }).setPcState n 4)) ∧
  (∀ (s : State) (n : Nat),
    ¬ (s.pcState n = 1 ∧ s.eff (DMC_SR_EN n) = 1 ∧ (s.pcAt n).rq.isEmpty ∧ (s.pcAt n).wq.isEmpty ∧ (s.pcAt n).issued.isEmpty ∧ s.pcInputEmpty n) →
    exec (.selfRefreshEntry n) s = .next (s)) ∧
  (∀ (s : State) (n : Nat), s.pcState n = 4 → s.pcInputEmpty n = false → exec (.selfRefreshExit n) s = .next (
      let c := s.pcAt n
      let t := s.f (DMC_REF_STATUS_TEMP n)
      ((s.setPc n { c with round := [] }).setF (DMC_REF_STATUS_DEBT n) 0).setPcState n (if 10 < t - c.calTemp ∨ 10 < c.calTemp - t then 5 else 1))) ∧
  (∀ (s : State) (n : Nat), s.pcState n ≠ 4 ∨ s.pcInputEmpty n = true → exec (.selfRefreshExit n) s = .next (s)) ∧
  (∀ (s : State) (n : Nat), s.pcState n = 1 → s.eff (DMC_RECAL_RECAL_MS n) ≠ 0 →
    exec (.recalTimer n) s = .next ((s.pcPorts n []).setPcState n 5)) ∧
  (∀ (s : State) (n : Nat), s.pcState n ≠ 1 ∨ s.eff (DMC_RECAL_RECAL_MS n) = 0 → exec (.recalTimer n) s = .next (s)) ∧
  (∀ (s : State) (n : Nat), s.pcState n = 5 →
    exec (.recalEnd n) s = .next ((s.updPc n fun c => { c with calTemp := s.f (DMC_REF_STATUS_TEMP n) }).setPcState n 1)) ∧
  (∀ (s : State) (n : Nat), s.pcState n ≠ 5 → exec (.recalEnd n) s = .next (s)) ∧
  (∀ (s : State) (m : Master) (n : Nat), s.gate m (DMC_CTRL n) = .pass → s.pcState n = 3 ∨ s.pcState n = 5 →
    exec (.dmcCmdRecal m n) s = .next ((s.answer (.ok 0)).busy (DMC_STATUS_FIELD_BUSY n))) ∧
  (∀ (s : State) (m : Master) (n : Nat), s.gate m (DMC_CTRL n) = .pass → (s.pcState n = 1) → (s.pcAt n).reel = false →
    exec (.dmcCmdRecal m n) s = .next ((((s.answer (.ok 0)).setF (DMC_STATUS_ERR n) 0).pcPorts n []).setPcState n 5)) ∧
  (∀ (s : State) (m : Master) (n : Nat), s.gate m (DMC_CTRL n) = .pass → s.pcState n ≠ 3 → s.pcState n ≠ 5 →
    (s.pcState n ≠ 1) ∨ (s.pcAt n).reel = true →
    exec (.dmcCmdRecal m n) s = .next ((s.answer (.ok 0)).setF (DMC_STATUS_ERR n) 3)) ∧
  (∀ (s : State) (m : Master) (n : Nat), s.gate m (DMC_CTRL n) = .pass → s.pcState n = 3 ∨ s.pcState n = 5 →
    exec (.dmcCmdReelIn m n) s = .next ((s.answer (.ok 0)).busy (DMC_STATUS_FIELD_BUSY n))) ∧
  (∀ (s : State) (m : Master) (n : Nat), s.gate m (DMC_CTRL n) = .pass → (s.pcState n = 1 ∨ s.pcState n = 4) →
    (s.pcAt n).reel = false →
    exec (.dmcCmdReelIn m n) s = .next ((((s.answer (.ok 0)).setF (DMC_STATUS_ERR n) 0).updPc n fun c => { c with reel := true }).pcReeled n)) ∧
  (∀ (s : State) (m : Master) (n : Nat), s.gate m (DMC_CTRL n) = .pass → s.pcState n ≠ 3 → s.pcState n ≠ 5 →
    (s.pcState n ≠ 1 ∧ s.pcState n ≠ 4) ∨ (s.pcAt n).reel = true →
    exec (.dmcCmdReelIn m n) s = .next ((s.answer (.ok 0)).setF (DMC_STATUS_ERR n) 3)) ∧
  (∀ (s : State) (m : Master) (n : Nat), s.gate m (DMC_CTRL n) = .pass → s.pcState n = 3 ∨ s.pcState n = 5 →
    exec (.dmcCmdPayOut m n) s = .next ((s.answer (.ok 0)).busy (DMC_STATUS_FIELD_BUSY n))) ∧
  (∀ (s : State) (m : Master) (n : Nat), s.gate m (DMC_CTRL n) = .pass → (s.pcState n = 2 ∨ s.pcState n = 7) →
    (s.pcAt n).reel = false →
    exec (.dmcCmdPayOut m n) s = .next (((s.answer (.ok 0)).setF (DMC_STATUS_ERR n) 0).pcRetrain n)) ∧
  (∀ (s : State) (m : Master) (n : Nat), s.gate m (DMC_CTRL n) = .pass → s.pcState n ≠ 3 → s.pcState n ≠ 5 →
    (s.pcState n ≠ 2 ∧ s.pcState n ≠ 7) ∨ (s.pcAt n).reel = true →
    exec (.dmcCmdPayOut m n) s = .next ((s.answer (.ok 0)).setF (DMC_STATUS_ERR n) 3)) ∧
  (∀ (s : State) (m : Master) (n : Nat), s.gate m (DMC_CTRL n) = .pass → s.pcState n = 3 ∨ s.pcState n = 5 →
    exec (.dmcCmdRetrain m n) s = .next ((s.answer (.ok 0)).busy (DMC_STATUS_FIELD_BUSY n))) ∧
  (∀ (s : State) (m : Master) (n : Nat), s.gate m (DMC_CTRL n) = .pass → (s.pcState n = 1 ∨ s.pcState n = 4) →
    (s.pcAt n).reel = false →
    exec (.dmcCmdRetrain m n) s = .next ((if ((s.answer (.ok 0)).setF (DMC_STATUS_ERR n) 0).pcState n = 4 then ((s.answer (.ok 0)).setF (DMC_STATUS_ERR n) 0).pcWake n else ((s.answer (.ok 0)).setF (DMC_STATUS_ERR n) 0)).pcRetrain n)) ∧
  (∀ (s : State) (m : Master) (n : Nat), s.gate m (DMC_CTRL n) = .pass → s.pcState n ≠ 3 → s.pcState n ≠ 5 →
    (s.pcState n ≠ 1 ∧ s.pcState n ≠ 4) ∨ (s.pcAt n).reel = true →
    exec (.dmcCmdRetrain m n) s = .next ((s.answer (.ok 0)).setF (DMC_STATUS_ERR n) 3)) ∧
  (∀ (s : State) (n : Nat), s.pcRetrain n =
      ((((s.updPc n fun c => { c with pages := [], hits := [], errTimes := [], ready := false, turn := 0 }).pcPorts n []).setPcState n 3).count
        (DMC_TRAIN_COUNT n) 1).raise .DMC_RETRAIN false 0 n) ∧
  (∀ (s : State) (n kind : Nat) (failed : Bool), s.pcState n = 1 ∨ s.pcState n = 5 →
    exec (.dmcParityError n kind failed) s = .next (
      let t := s.count (if kind = 0 then DMC_LINK_ERR_CA_PAR n else if kind = 1 then DMC_LINK_ERR_RD_PAR n else DMC_LINK_ERR_WR_PAR n) 1
      let t := if failed then t.count (DMC_LINK_ERR_RETRY_FAIL n) 1 else t
      let now := if failed then [s.nocTime, s.nocTime] else [s.nocTime]
      let l := ((t.pcAt n).errTimes ++ now).filter fun x => decide (s.nocTime < x + 2000000)
      let t := t.setPc n { t.pcAt n with errTimes := l }
      if (failed ∧ kind = 2) ∨ max 1 (t.eff (DMC_LINK_CFG_ERR_LIM n)) ≤ l.length then t.pcRetrain n else t)) ∧
  (∀ (s : State) (n kind : Nat) (failed : Bool), s.pcState n ≠ 1 → s.pcState n ≠ 5 →
    exec (.dmcParityError n kind failed) s = .next (s)) ∧
  (∀ (s : State) (n result : Nat), s.pcState n = 3 →
    exec (.retrainStepOverrun n result) s = .next (s.pcFault n (if 2 ≤ result ∧ result ≤ 6 then result else 6))) ∧
  (∀ (s : State) (n result : Nat), s.pcState n ≠ 3 → exec (.retrainStepOverrun n result) s = .next (s)) ∧
  (∀ (s : State) (n repairs us : Nat), s.pcState n = 3 → exec (.retrainEnd n repairs us) s = .next (
      (s.updPc n fun c => { c with ready := true, calTemp := s.f (DMC_REF_STATUS_TEMP n) }).setFs
        [(DMC_TRAIN_RESULT n, 1), (DMC_TRAIN_REPAIRS n, min repairs 2), (DMC_TRAIN_LAST_US n, min us 65535)])) ∧
  (∀ (s : State) (n repairs us : Nat), s.pcState n ≠ 3 → exec (.retrainEnd n repairs us) s = .next (s)) ∧
  (∀ (s : State) (n : Nat), s.pcState n = 0 → (s.pcAt n).inited = false →
    exec (.dmcInitEnd n) s = .next ((s.updPc n fun c => { c with inited := true, calTemp := s.f (DMC_REF_STATUS_TEMP n) }).setPcState n 1)) ∧
  (∀ (s : State) (n : Nat), s.pcState n ≠ 0 ∨ (s.pcAt n).inited = true → exec (.dmcInitEnd n) s = .next (s))

/-- Error correction and the scrubber (R270 to R283). -/
def Obligations.ErrorCorrectionAndScrubCommands : Prop :=
  (∀ (s : State),
    exec (.eccNotifyRead) s = .next (s.notifyPop.answer (.ok (b2n (!s.ecc.notify.isEmpty) * 2 ^ 31 + b2n s.ecc.ovf * 2 ^ 30 + s.ecc.notify.headD 0)))) ∧
  (∀ (s : State) (m : Master), s.gate m ECC_MCLR = .pass →
    exec (.eccMclr m) s = .next (((s.answer (.ok 0)).setMacro (s.f ECC_SEL_MACRO) Macro.empty).eccShow)) ∧
  (∀ (s : State) (m : Master), s.gate m ECC_XP_INJ = .pass → s.xpOn ECC_XP_INJ = true →
    exec (.eccInjArm m) s = .next ({ (s.answer (.ok 0)) with ecc := { s.ecc with inj := some (s.f ECC_SEL_MACRO) } })) ∧
  (∀ (s : State) (m : Master), s.gate m ECC_XP_INJ = .pass → s.xpOn ECC_XP_INJ = false →
    exec (.eccInjArm m) s = .next ((s.answer (.ok 0)).dropWrite m .expert ECC_XP_INJ)) ∧
  (∀ (s : State) (m : Master), s.gate m ECC_SCRUB_CTRL = .pass → s.bit ECC_SCRUB_STATUS_BUSY = true →
    exec (.scrubGo m) s = .next ((s.answer (.ok 0)).busy ECC_SCRUB_STATUS_FIELD_BUSY)) ∧
  (∀ (s : State) (m : Master), s.gate m ECC_SCRUB_CTRL = .pass → s.bit ECC_SCRUB_STATUS_BUSY = false →
    s.f ECC_SCRUB_LEN_UNITS * 4096 = 0 ∨ 0x2400000000 < s.f ECC_SCRUB_BASE_UNITS * 4096 + s.f ECC_SCRUB_LEN_UNITS * 4096 →
    exec (.scrubGo m) s = .next ((s.answer (.ok 0)).setF ECC_SCRUB_STATUS_ERR 1)) ∧
  (∀ (s : State) (m : Master), s.gate m ECC_SCRUB_CTRL = .pass → s.bit ECC_SCRUB_STATUS_BUSY = false →
    ¬ (s.f ECC_SCRUB_LEN_UNITS * 4096 = 0 ∨ 0x2400000000 < s.f ECC_SCRUB_BASE_UNITS * 4096 + s.f ECC_SCRUB_LEN_UNITS * 4096) →
    exec (.scrubGo m) s = .next (
      let t := (s.answer (.ok 0)).setFs [(ECC_SCRUB_COUNT_CE, 0), (ECC_SCRUB_COUNT_UE, 0), (ECC_SCRUB_FIRST_LO_ADDR, 0),
        (ECC_SCRUB_FIRST_HI_ADDR, 0), (ECC_SCRUB_LAST_LO_ADDR, 0), (ECC_SCRUB_LAST_HI_ADDR, 0),
        (ECC_SCRUB_STATUS_SKIPPED, 0), (ECC_SCRUB_STATUS_ERR, 0), (ECC_SCRUB_STATUS_BUSY, 1)]
      { t with ecc := { t.ecc with scrubPos := s.f ECC_SCRUB_BASE_UNITS * 4096, scrubEnd := s.f ECC_SCRUB_BASE_UNITS * 4096 + s.f ECC_SCRUB_LEN_UNITS * 4096 } })) ∧
  (∀ (s : State) (m : Master), s.gate m ECC_SCRUB_CTRL = .pass → s.bit ECC_SCRUB_STATUS_BUSY = true →
    exec (.scrubAbort m) s = .next (((s.answer (.ok 0)).setFs [(ECC_SCRUB_STATUS_BUSY, 0), (ECC_SCRUB_STATUS_DONE, 1), (ECC_SCRUB_STATUS_ERR, 2)]).raise .SCRUB_DONE false 0 noInst)) ∧
  (∀ (s : State) (m : Master), s.gate m ECC_SCRUB_CTRL = .pass → s.bit ECC_SCRUB_STATUS_BUSY = false →
    exec (.scrubAbort m) s = .next ((s.answer (.ok 0)))) ∧
  (∀ (s : State), s.bit ECC_SCRUB_STATUS_BUSY = true → s.ecc.scrubEnd ≤ s.ecc.scrubPos →
    exec (.scrubPassEnd) s = .next ((s.setFs [(ECC_SCRUB_STATUS_BUSY, 0), (ECC_SCRUB_STATUS_DONE, 1), (ECC_SCRUB_STATUS_ERR, 0)]).raise .SCRUB_DONE false 0 noInst)) ∧
  (∀ (s : State), s.bit ECC_SCRUB_STATUS_BUSY = false ∨ s.ecc.scrubPos < s.ecc.scrubEnd →
    exec (.scrubPassEnd) s = .next (s)) ∧
  (∀ (s : State), s.bit ECC_SCRUB_STATUS_BUSY = true → s.ecc.scrubPos < s.ecc.scrubEnd →
    s.pcState (s.pcOf s.ecc.scrubPos) = 2 ∨ s.pcState (s.pcOf s.ecc.scrubPos) = 7 →
    exec (.scrubWord) s = .next ({ s.count ECC_SCRUB_STATUS_SKIPPED 1 with ecc := { s.ecc with scrubPos := (s.ecc.scrubPos / 4096 + 1) * 4096 } })) ∧
  (∀ (s : State), s.bit ECC_SCRUB_STATUS_BUSY = true → s.ecc.scrubPos < s.ecc.scrubEnd →
    s.pcState (s.pcOf s.ecc.scrubPos) = 4 → exec (.scrubWord) s = .next (s.pcWake (s.pcOf s.ecc.scrubPos))) ∧
  (∀ (s : State), s.bit ECC_SCRUB_STATUS_BUSY = true → s.ecc.scrubPos < s.ecc.scrubEnd →
    s.pcState (s.pcOf s.ecc.scrubPos) = 1 → exec (.scrubWord) s = .next (
      let t := s.unitRead ⟨noNode, nodeAt 27 5, opcRead, 0, 0, s.ecc.scrubPos, 31, 0, 0, 0, false, 0, false, 0, [], []⟩ s.ecc.scrubPos 32
      let l := t.wordBad s.ecc.scrubPos
      let t := t.checkWord s.ecc.scrubPos
      let t := if l.isEmpty then t else t.scrubSee s.ecc.scrubPos (decide (2 ≤ l.length))
      { t with ecc := { t.ecc with scrubPos := s.ecc.scrubPos + 32 } })) ∧
  (∀ (s : State), s.bit ECC_SCRUB_STATUS_BUSY = false ∨ s.ecc.scrubEnd ≤ s.ecc.scrubPos →
    exec (.scrubWord) s = .next (s)) ∧
  (∀ (s : State) (mid row bit : Nat), exec (.memoryBitError mid row bit) s = .next (s.upset mid row bit))

/-- Key slots and the encryption engines (R284 to R300). -/
def Obligations.KeySlotAndEncryptionCommands : Prop :=
  (∀ (s : State) (m : Master) (k : Nat), s.gate m (SEC_K_CTRL k) = .pass → s.ksIniting ≠ [] →
    exec (.ksInstall m k) s = .next (s.ksIniting.foldl (fun t j => t.busy (SEC_K_STATUS_FIELD_BUSY j)) (s.answer (.ok 0)))) ∧
  (∀ (s : State) (m : Master) (k : Nat), s.gate m (SEC_K_CTRL k) = .pass → s.ksIniting = [] → s.installErr k ≠ 0 →
    exec (.ksInstall m k) s = .next ((s.answer (.ok 0)).setF (SEC_K_STATUS_ERR k) (s.installErr k))) ∧
  (∀ (s : State) (m : Master) (k : Nat), s.gate m (SEC_K_CTRL k) = .pass → s.ksIniting = [] → s.installErr k = 0 →
    exec (.ksInstall m k) s = .next (
      let t := (s.answer (.ok 0)).setF (SEC_K_STATUS_ERR k) 0
      let ws := t.keyWords
      let t := t.updSec fun c => { c with loaded := [], keys := SMap.put (fun _ => []) c.keys k ws }
      let t := (List.range 24).foldl (fun t j => t.setF (SEC_KEYLOAD_KEY j) 0) t
      (t.setF (SEC_K_STATUS_CTR_WARN k) 0).setKs k 1)) ∧
  (∀ (s : State) (m : Master) (k : Nat), s.gate m (SEC_K_CTRL k) = .pass →
    s.ksState k = 2 ∨ s.ksState k = 3 ∨ s.ksState k = 4 →
    exec (.ksRetire m k) s = .next (((s.answer (.ok 0)).setF (SEC_K_STATUS_ERR k) 0).setKs k 5)) ∧
  (∀ (s : State) (m : Master) (k : Nat), s.gate m (SEC_K_CTRL k) = .pass →
    ¬ (s.ksState k = 2 ∨ s.ksState k = 3 ∨ s.ksState k = 4) →
    exec (.ksRetire m k) s = .next ((s.answer (.ok 0)).setF (SEC_K_STATUS_ERR k) 1)) ∧
  (∀ (s : State) (m : Master) (k : Nat), s.gate m (SEC_K_CTRL k) = .pass → s.ksState k = 3 →
    exec (.ksResume m k) s = .next (((s.answer (.ok 0)).setF (SEC_K_STATUS_ERR k) 0).setKs k 2)) ∧
  (∀ (s : State) (m : Master) (k : Nat), s.gate m (SEC_K_CTRL k) = .pass → ¬ (s.ksState k = 3) →
    exec (.ksResume m k) s = .next ((s.answer (.ok 0)).setF (SEC_K_STATUS_ERR k) 1)) ∧
  (∀ (s : State) (k : Nat), s.ksState k = 1 → exec (.ksInitEnd k) s = .next (
      let t := s.updSec fun c => { c with ctr := dropSlot k c.ctr, mac := dropSlot k c.mac, below := SMap.put (fun _ => []) c.below k [] }
      t.setKs k (if (t.leaseRegion (t.f (SEC_K_CTRL_LEASE k))).isSome then 2 else 5))) ∧
  (∀ (s : State) (k : Nat), s.ksState k ≠ 1 → exec (.ksInitEnd k) s = .next (s)) ∧
  (∀ (s : State) (k : Nat), s.ksState k = 5 → (s.sec.pend.any fun q => decide (q.k = k)) = false →
    exec (.ksFlushEnd k) s = .next ((s.updSec fun c => { c with keys := SMap.put (fun _ => []) c.keys k [] }).setKs k 0)) ∧
  (∀ (s : State) (k : Nat), s.ksState k ≠ 5 ∨ (s.sec.pend.any fun q => decide (q.k = k)) = true →
    exec (.ksFlushEnd k) s = .next (s)) ∧
  (∀ (s : State) (e : Nat) (p : Packet), s.encPick e opcRead [] s.noc.inbox = some p →
    (s.encTake p).encClosed p.key true = none → (s.encTake p).encPcRefusal e p true = none →
    exec (.encRead e) s = .next (
      let t := s.encTake p
      t.encReadGo e p)) ∧
  (∀ (s : State) (e : Nat) (p : Packet) (st : Nat), s.encPick e opcRead [] s.noc.inbox = some p →
    (s.encTake p).encClosed p.key true = some st → exec (.encRead e) s = .next ((s.encTake p).respond p st [])) ∧
  (∀ (s : State) (e : Nat), s.encPick e opcRead [] s.noc.inbox = none → exec (.encRead e) s = .next (s)) ∧
  (∀ (s : State) (e : Nat) (t0 : TreeRes) (inner : Nat) (p : Packet), s.encPick e opcWrite [] s.noc.inbox = some p →
    (s.encTake p).encClosed p.key false = none → (s.encTake p).encPcRefusal e p false = none →
    exec (.encWrite e t0 inner) s = .next (
      let t := s.encTake p
      t.encWriteGo e p t0 inner)) ∧
  (∀ (s : State) (e : Nat) (t0 : TreeRes) (inner : Nat) (p : Packet) (st : Nat),
    s.encPick e opcWrite [] s.noc.inbox = some p → (s.encTake p).encClosed p.key false = some st →
    exec (.encWrite e t0 inner) s = .next ((s.encTake p).respond p st [])) ∧
  (∀ (s : State) (e : Nat) (t0 : TreeRes) (inner : Nat), s.encPick e opcWrite [] s.noc.inbox = none →
    exec (.encWrite e t0 inner) s = .next (s)) ∧
  (∀ (s : State) (e : Nat) (t : TreeRes) (q : EncPend) (x : EncGran),
    s.sec.pend.find? (fun q => decide (q.eng = e)) = some q → q.grans = [x] → exec (.encVerifyEnd e t) s = .next (
      let r := s.verify e q.p x t
      let u := r.1.updSec fun c => { c with pend := replPend e none c.pend }
      let failed := q.failed || !r.2
      if q.waits then u.respond q.p (if failed then stPoison else stOk) (if failed then [] else q.data) else u)) ∧
  (∀ (s : State) (e : Nat) (t : TreeRes) (q : EncPend) (x : EncGran) (y : EncGran) (rest : List EncGran),
    s.sec.pend.find? (fun q => decide (q.eng = e)) = some q → q.grans = x :: y :: rest →
    exec (.encVerifyEnd e t) s = .next (
      let r := s.verify e q.p x t
      r.1.updSec fun c => { c with pend := replPend e (some { q with grans := y :: rest, failed := q.failed || !r.2 }) c.pend })) ∧
  (∀ (s : State) (e : Nat) (t : TreeRes), s.sec.pend.find? (fun q => decide (q.eng = e)) = none →
    exec (.encVerifyEnd e t) s = .next (s))

/-- Quads and lane records (R303 to R309). -/
def Obligations.QuadAndRecordCommands : Prop :=
  (∀ (s : State) (m : Master) (q v : Nat), s.gate m (LNE_Q_CFG q) = .pass → tenantQuad q = true →
    ((quadLanes q).all fun n => decide (s.laneMode n = 0)) = false →
    exec (.quadCfgWrite m q v) s = .next ((s.answer (.ok 0)).busy (LNE_Q_STATUS_FIELD_BUSY q))) ∧
  (∀ (s : State) (m : Master) (q v : Nat), s.gate m (LNE_Q_CFG q) = .pass → tenantQuad q = true →
    ((quadLanes q).all fun n => decide (s.laneMode n = 0)) = true →
    exec (.quadCfgWrite m q v) s = .next (if (decide (v % 8 ≠ s.quadRate q) || (rawRate (v % 8) && decide (v / 16 % 2 ^ 17 ≠ s.f (LNE_Q_CFG_RAW_MBD q)))) then ((s.answer (.ok 0)).setFs [(LNE_Q_CFG_LEASE q, v / 2 ^ 24 % 256), (LNE_Q_CFG_RAW_MBD q, v / 16 % 2 ^ 17), (LNE_Q_CFG_RATE q, v % 8)]).quadRestart q else (s.answer (.ok 0)).setFs [(LNE_Q_CFG_LEASE q, v / 2 ^ 24 % 256), (LNE_Q_CFG_RAW_MBD q, v / 16 % 2 ^ 17), (LNE_Q_CFG_RATE q, v % 8)])) ∧
  (∀ (s : State) (m : Master) (q v : Nat), s.gate m (LNE_Q_CFG q) = .pass → tenantQuad q = false →
    ((quadLanes q).all fun n => decide (s.laneMode n = 0)) = false →
    exec (.quadCfgWrite m q v) s = .next (((s.answer (.ok 0)).logDrop m .badCode (LNE_Q_CFG q)).busy (LNE_Q_STATUS_FIELD_BUSY q))) ∧
  (∀ (s : State) (m : Master) (q v : Nat), s.gate m (LNE_Q_CFG q) = .pass → tenantQuad q = false →
    ((quadLanes q).all fun n => decide (s.laneMode n = 0)) = true →
    exec (.quadCfgWrite m q v) s = .next (if (rawRate (s.quadRate q) && decide (v / 16 % 2 ^ 17 ≠ s.f (LNE_Q_CFG_RAW_MBD q))) then (((s.answer (.ok 0)).logDrop m .badCode (LNE_Q_CFG q)).setFs [(LNE_Q_CFG_LEASE q, v / 2 ^ 24 % 256), (LNE_Q_CFG_RAW_MBD q, v / 16 % 2 ^ 17), (LNE_Q_CFG_RATE q, s.quadRate q)]).quadRestart q else ((s.answer (.ok 0)).logDrop m .badCode (LNE_Q_CFG q)).setFs [(LNE_Q_CFG_LEASE q, v / 2 ^ 24 % 256), (LNE_Q_CFG_RAW_MBD q, v / 16 % 2 ^ 17), (LNE_Q_CFG_RATE q, s.quadRate q)])) ∧
  (∀ (s : State) (q : Nat), exec (.quadPllRelock q) s = .next (s.pllLocks (77 + q))) ∧
  (∀ (s : State) (n : Nat), s.laneMode n ≠ 0 ∧ s.bit (LNE_Q_STATUS_PLL_LOCK (quadOf n)) = true →
    exec (.laneCdrLock n) s = .next (s.setF (LNE_STATUS_CDR_LOCK n) 1)) ∧
  (∀ (s : State) (n : Nat), ¬ (s.laneMode n ≠ 0 ∧ s.bit (LNE_Q_STATUS_PLL_LOCK (quadOf n)) = true) →
    exec (.laneCdrLock n) s = .next (s)) ∧
  (∀ (s : State) (n : Nat), s.bit (LNE_STATUS_CDR_LOCK n) = true ∧ pcsRate (s.quadRate (quadOf n)) = true →
    exec (.pcsBlockLock n) s = .next (s.setF (LNE_STATUS_PCS_LOCK n) 1)) ∧
  (∀ (s : State) (n : Nat), ¬ (s.bit (LNE_STATUS_CDR_LOCK n) = true ∧ pcsRate (s.quadRate (quadOf n)) = true) →
    exec (.pcsBlockLock n) s = .next (s)) ∧
  (∀ (s : State) (n : Nat), s.bit (LNE_STATUS_CDR_LOCK n) = true →
    exec (.laneCdrLoss n) s = .next (if (s.setFs [(LNE_STATUS_CDR_LOCK n, 0), (LNE_STATUS_PCS_LOCK n, 0)]).laneMode n = 1 then (s.setFs [(LNE_STATUS_CDR_LOCK n, 0), (LNE_STATUS_PCS_LOCK n, 0)]).raise .LANE_RX_LOST true ((s.setFs [(LNE_STATUS_CDR_LOCK n, 0), (LNE_STATUS_PCS_LOCK n, 0)]).f (LNE_Q_CFG_LEASE (quadOf n))) n else (s.setFs [(LNE_STATUS_CDR_LOCK n, 0), (LNE_STATUS_PCS_LOCK n, 0)]))) ∧
  (∀ (s : State) (n : Nat), s.bit (LNE_STATUS_CDR_LOCK n) = false → exec (.laneCdrLoss n) s = .next (s)) ∧
  (∀ (s : State) (n fec : Nat) (rec : List Byte),
    (s.laneMode n ≠ 1 ∨ tenantQuad (quadOf n) = false ∨ (s.quadRate (quadOf n)) = 0 ∨ s.bit (LNE_STATUS_CDR_LOCK n) = false ∨ (pcsRate (s.quadRate (quadOf n)) = true ∧ s.bit (LNE_STATUS_PCS_LOCK n) = false)) →
    exec (.laneRxRecord n fec rec) s = .next (s)) ∧
  (∀ (s : State) (n fec : Nat) (rec : List Byte) (t : State),
    ¬ (s.laneMode n ≠ 1 ∨ tenantQuad (quadOf n) = false ∨ (s.quadRate (quadOf n)) = 0 ∨ s.bit (LNE_STATUS_CDR_LOCK n) = false ∨ (pcsRate (s.quadRate (quadOf n)) = true ∧ s.bit (LNE_STATUS_PCS_LOCK n) = false)) →
    t = (if 3 ≤ (s.quadRate (quadOf n)) ∧ (s.quadRate (quadOf n)) ≤ 5 then (if fec = 1 then s.count (LNE_FEC_CNT_CORR n) 1 else if fec = 2 then s.count (LNE_FEC_CNT_UNCORR n) 1 else s) else s) →
    (rawRate (s.quadRate (quadOf n)) = true ∧ t.bit (LNE_SLIP_SLIP_DONE n) = false) ∨ 16384 < (t.laneAt n).rx.length + s.recSize n →
    exec (.laneRxRecord n fec rec) s = .next (t.count (LNE_DROP_RX_DROP n) 1)) ∧
  (∀ (s : State) (n fec : Nat) (rec : List Byte) (t : State),
    ¬ (s.laneMode n ≠ 1 ∨ tenantQuad (quadOf n) = false ∨ (s.quadRate (quadOf n)) = 0 ∨ s.bit (LNE_STATUS_CDR_LOCK n) = false ∨ (pcsRate (s.quadRate (quadOf n)) = true ∧ s.bit (LNE_STATUS_PCS_LOCK n) = false)) →
    t = (if 3 ≤ (s.quadRate (quadOf n)) ∧ (s.quadRate (quadOf n)) ≤ 5 then (if fec = 1 then s.count (LNE_FEC_CNT_CORR n) 1 else if fec = 2 then s.count (LNE_FEC_CNT_UNCORR n) 1 else s) else s) →
    ¬ (rawRate (s.quadRate (quadOf n)) = true ∧ t.bit (LNE_SLIP_SLIP_DONE n) = false) →
    (t.laneAt n).rx.length + s.recSize n ≤ 16384 →
    exec (.laneRxRecord n fec rec) s = .next ((t.updLane n fun x => { x with rx := x.rx ++ (rec.take (s.recSize n) ++ List.replicate (s.recSize n - rec.length) 0) }).lanePump n 16)) ∧
  (∀ (s : State) (q : Nat) (p : Packet), s.noc.inbox.find? (fun p => decide (p.dst = quadNode q)) = some p →
    p.opc = opcRead →
    exec (.laneTxWrite q) s = .next ((s.updNoc fun x => { x with inbox := dropFirst (fun p => p.dst = quadNode q) x.inbox }).respond p stErr [])) ∧
  (∀ (s : State) (q : Nat) (p : Packet), s.noc.inbox.find? (fun p => decide (p.dst = quadNode q)) = some p →
    p.opc = opcWrite →
    ¬ ((s.updNoc fun x => { x with inbox := dropFirst (fun p => p.dst = quadNode q) x.inbox }).laneMode (4 * q + p.addr / 4096 % 4) ≠ 1 ∨ (s.updNoc fun x => { x with inbox := dropFirst (fun p => p.dst = quadNode q) x.inbox }).bit CFG_BOOT_STATUS_RIP = true ∨ (s.updNoc fun x => { x with inbox := dropFirst (fun p => p.dst = quadNode q) x.inbox }).quadRate q = 0 ∨ p.data.length % (s.updNoc fun x => { x with inbox := dropFirst (fun p => p.dst = quadNode q) x.inbox }).recSize (4 * q + p.addr / 4096 % 4) ≠ 0 ∨ 16384 < (((s.updNoc fun x => { x with inbox := dropFirst (fun p => p.dst = quadNode q) x.inbox }).laneAt (4 * q + p.addr / 4096 % 4)).tx.map fun p => p.data.length).foldl (· + ·) 0 + p.data.length) →
    exec (.laneTxWrite q) s = .next ((s.updNoc fun x => { x with inbox := dropFirst (fun p => p.dst = quadNode q) x.inbox }).setLane (4 * q + p.addr / 4096 % 4) { (s.updNoc fun x => { x with inbox := dropFirst (fun p => p.dst = quadNode q) x.inbox }).laneAt (4 * q + p.addr / 4096 % 4) with tx := ((s.updNoc fun x => { x with inbox := dropFirst (fun p => p.dst = quadNode q) x.inbox }).laneAt (4 * q + p.addr / 4096 % 4)).tx ++ [p] })) ∧
  (∀ (s : State) (q : Nat) (p : Packet), s.noc.inbox.find? (fun p => decide (p.dst = quadNode q)) = some p →
    p.opc = opcWrite →
    ((s.updNoc fun x => { x with inbox := dropFirst (fun p => p.dst = quadNode q) x.inbox }).laneMode (4 * q + p.addr / 4096 % 4) ≠ 1 ∨ (s.updNoc fun x => { x with inbox := dropFirst (fun p => p.dst = quadNode q) x.inbox }).bit CFG_BOOT_STATUS_RIP = true ∨ (s.updNoc fun x => { x with inbox := dropFirst (fun p => p.dst = quadNode q) x.inbox }).quadRate q = 0 ∨ p.data.length % (s.updNoc fun x => { x with inbox := dropFirst (fun p => p.dst = quadNode q) x.inbox }).recSize (4 * q + p.addr / 4096 % 4) ≠ 0 ∨ 16384 < (((s.updNoc fun x => { x with inbox := dropFirst (fun p => p.dst = quadNode q) x.inbox }).laneAt (4 * q + p.addr / 4096 % 4)).tx.map fun p => p.data.length).foldl (· + ·) 0 + p.data.length) →
    exec (.laneTxWrite q) s = .next (((s.updNoc fun x => { x with inbox := dropFirst (fun p => p.dst = quadNode q) x.inbox }).count (LNE_DROP_TX_REFUSED (4 * q + p.addr / 4096 % 4)) 1).respond p stErr [])) ∧
  (∀ (s : State) (q : Nat), s.noc.inbox.find? (fun p => decide (p.dst = quadNode q)) = none →
    exec (.laneTxWrite q) s = .next (s)) ∧
  (∀ (s : State) (n : Nat) (p : Packet) (t : List Packet), (s.laneAt n).tx = p :: t → s.laneMode n = 1 →
    s.bit (LNE_STATUS_TX_IDLE n) = false → exec (.laneTxSent n) s = .next (
      let u := (s.updLane n fun x => { x with tx := t }).respond p stOk []
      ({ u with out := u.out ++ [.lane n p.data] } : State).laneRunsDry n)) ∧
  (∀ (s : State) (n : Nat), (s.laneAt n).tx = [] → exec (.laneTxSent n) s = .next (s))

/-- Equalisation, PRBS, injection and bit slip (R310 to R321). -/
def Obligations.EqualisationPrbsAndSlipCommands : Prop :=
  (∀ (s : State) (m : Master), s.gate m LNE_GLB_CTRL = .pass →
    exec (.eqReload m) s = .next ((List.range 144).foldl State.laneRetarget (s.answer (.ok 0)).eqLoad)) ∧
  (∀ (s : State), exec (.binEval) s = .next (
      (List.range 36).foldl (fun u q =>
        match s.tileTemp (quadTile q) with
        | none => u
        | some t =>
          if nextBin s.lanes.lims (s.f (LNE_Q_STATUS_BIN q)) t 3 = s.f (LNE_Q_STATUS_BIN q) then u
          else (quadLanes q).foldl State.laneRetarget (u.setF (LNE_Q_STATUS_BIN q) (nextBin s.lanes.lims (s.f (LNE_Q_STATUS_BIN q)) t 3))) s)) ∧
  (∀ (s : State) (n : Nat), s.laneMode n ≠ 0 → s.eff (LNE_XP_EQ_CTRL_OVERRIDE n) ≠ 1 → s.laneRetarget n =
      let t := s.laneNoteDefault n
      (t.updLane n fun x => { x with target := t.laneTarget n }).setF (LNE_STATUS_WALK n) (b2n (decide (t.laneCodes n ≠ t.laneTarget n)))) ∧
  (∀ (s : State) (n : Nat), s.laneMode n = 0 ∨ s.eff (LNE_XP_EQ_CTRL_OVERRIDE n) = 1 → s.laneRetarget n = s) ∧
  (∀ (s : State) (n : Nat), s.bit (LNE_STATUS_WALK n) = true → s.walkWaits n = false → exec (.walkStep n) s = .next (
      let t := (s.laneAt n).target
      let c := (List.range 36).map fun i => if i = 6 then t.getD i 0 else codeStep ((s.laneCodes n).getD i 0) (t.getD i 0)
      (s.setLaneCodes n c).setF (LNE_STATUS_WALK n) (b2n (decide (c ≠ t))))) ∧
  (∀ (s : State) (n : Nat), s.bit (LNE_STATUS_WALK n) = false ∨ s.walkWaits n = true → exec (.walkStep n) s = .next (s)) ∧
  (∀ (s : State) (ep : Nat) (tx : List (Nat × List Nat)),
    s.f (PCI_EP_STATUS_LTSSM ep) = 4 ∨ s.f (PCI_EP_STATUS_LTSSM ep) = 5 →
    exec (.pcieLinkReturnToL0 ep tx) s = .next (
      tx.foldl (fun t x => ((t.setLaneCodes x.1 (x.2.take 5 ++ (t.laneCodes x.1).drop 5)).updLane x.1 fun y =>
        { y with partner := true, target := x.2.take 5 ++ y.target.drop 5 })) (s.setF (PCI_EP_STATUS_LTSSM ep) 3))) ∧
  (∀ (s : State) (ep : Nat) (tx : List (Nat × List Nat)),
    ¬ (s.f (PCI_EP_STATUS_LTSSM ep) = 4 ∨ s.f (PCI_EP_STATUS_LTSSM ep) = 5) →
    exec (.pcieLinkReturnToL0 ep tx) s = .next (s)) ∧
  (∀ (s : State) (m : Master) (n : Nat), s.gate m (LNE_PRBS_CTRL n) = .pass → s.prbsAllowed n = true →
    exec (.prbsClr m n) s = .next (
      (s.answer (.ok 0)).setFs [(LNE_PRBS_ERRS_LO_COUNT n, 0), (LNE_PRBS_ERRS_HI_COUNT n, 0), (LNE_PRBS_BITS_LO_COUNT n, 0),
        (LNE_PRBS_BITS_HI_COUNT n, 0)])) ∧
  (∀ (s : State) (m : Master) (n : Nat), s.gate m (LNE_PRBS_CTRL n) = .pass → s.prbsAllowed n = false →
    exec (.prbsClr m n) s = .next ((s.answer (.ok 0)).dropWrite m .badCode (LNE_PRBS_CTRL n))) ∧
  (∀ (s : State) (n : Nat) (w : List Bool), s.laneMode n = 2 → exec (.prbsLock n w) s = .next (
      let r := prbsWindow (prbsTaps (s.eff (LNE_PRBS_CTRL_CHK_PAT n))) (prbsTaps (s.f (LNE_PRBS_CTRL_CHK_PAT n)))
        ⟨(s.laneAt n).chk, s.bit (LNE_PRBS_STATUS_LOCK n), false, false, 0, 0⟩ w
      let t := (((s.updLane n fun x => { x with chk := r.chk }).count48 (LNE_PRBS_BITS_LO_COUNT n) (LNE_PRBS_BITS_HI_COUNT n)
        r.bits).count48 (LNE_PRBS_ERRS_LO_COUNT n) (LNE_PRBS_ERRS_HI_COUNT n) r.errs).setF (LNE_PRBS_STATUS_LOCK n) (b2n r.lock)
      let t := if r.lost then t.setF (LNE_PRBS_STATUS_LOST n) 1 else t
      if r.reseed then t.applyLive (LNE_PRBS_CTRL_CHK_PAT n) else t)) ∧
  (∀ (s : State) (n : Nat) (w : List Bool), s.laneMode n ≠ 2 → exec (.prbsLock n w) s = .next (s)) ∧
  (∀ (s : State) (n : Nat) (w : List Bool), s.laneMode n = 2 → exec (.prbsLockLoss n w) s = .next (
      let r := prbsWindow (prbsTaps (s.eff (LNE_PRBS_CTRL_CHK_PAT n))) (prbsTaps (s.f (LNE_PRBS_CTRL_CHK_PAT n)))
        ⟨(s.laneAt n).chk, s.bit (LNE_PRBS_STATUS_LOCK n), false, false, 0, 0⟩ w
      let t := (((s.updLane n fun x => { x with chk := r.chk }).count48 (LNE_PRBS_BITS_LO_COUNT n) (LNE_PRBS_BITS_HI_COUNT n)
        r.bits).count48 (LNE_PRBS_ERRS_LO_COUNT n) (LNE_PRBS_ERRS_HI_COUNT n) r.errs).setF (LNE_PRBS_STATUS_LOCK n) (b2n r.lock)
      let t := if r.lost then t.setF (LNE_PRBS_STATUS_LOST n) 1 else t
      if r.reseed then t.applyLive (LNE_PRBS_CTRL_CHK_PAT n) else t)) ∧
  (∀ (s : State) (n : Nat) (w : List Bool), s.laneMode n ≠ 2 → exec (.prbsLockLoss n w) s = .next (s)) ∧
  (∀ (taps : List Nat) (x : PrbsRun) (b : Bool), x.lock = false → taps.headD 0 ≤ x.chk.hist.length →
    b = prbsNext taps x.chk.hist → x.chk.hist.any id = true → ((x.bit taps b).chk.run = x.chk.run + 1 ∧
      ((x.bit taps b).lock = true ↔ 128 ≤ x.chk.run + 1) ∧ (x.bit taps b).bits = x.bits)) ∧
  (∀ (taps : List Nat) (x : PrbsRun) (b : Bool), x.lock = true →
    ((x.bit taps b).bits = x.bits + 1 ∧ (x.bit taps b).errs = x.errs + b2n (b != prbsNext taps x.chk.hist) ∧
      ((x.bit taps b).lock = false ↔ 64 ≤ (((b != prbsNext taps x.chk.hist) :: x.chk.wrong).take 128).count true))) ∧
  (∀ (s : State) (m : Master) (n : Nat), s.gate m (LNE_INJ n) = .pass → s.laneMode n = 0 →
    exec (.injGo m n) s = .next ((s.answer (.ok 0)))) ∧
  (∀ (s : State) (m : Master) (n : Nat), s.gate m (LNE_INJ n) = .pass → s.laneMode n = 1 →
    tenantQuad (quadOf n) = false → exec (.injGo m n) s = .next ((s.answer (.ok 0)).busy (LNE_STATUS_FIELD_BUSY n))) ∧
  (∀ (s : State) (m : Master) (n : Nat), s.gate m (LNE_INJ n) = .pass → s.laneMode n ≠ 0 →
    ¬ (s.laneMode n = 1 ∧ tenantQuad (quadOf n) = false) → s.f (LNE_INJ_INJ_MODE n) = 0 →
    exec (.injGo m n) s = .next ((s.answer (.ok 0)).updLane n fun x => { x with inj := none })) ∧
  (∀ (s : State) (m : Master) (n : Nat), s.gate m (LNE_INJ n) = .pass → s.laneMode n ≠ 0 →
    ¬ (s.laneMode n = 1 ∧ tenantQuad (quadOf n) = false) → s.f (LNE_INJ_INJ_MODE n) = 1 →
    exec (.injGo m n) s = .next ({ (s.answer (.ok 0)) with out := s.out ++ [.laneFlip n 1] })) ∧
  (∀ (s : State) (m : Master) (n : Nat), s.gate m (LNE_INJ n) = .pass → s.laneMode n ≠ 0 →
    ¬ (s.laneMode n = 1 ∧ tenantQuad (quadOf n) = false) → s.f (LNE_INJ_INJ_MODE n) = 2 →
    exec (.injGo m n) s = .next ({ (s.answer (.ok 0)) with out := s.out ++ [.laneFlip n (s.f (LNE_INJ_INJ_N n))] })) ∧
  (∀ (s : State) (m : Master) (n : Nat), s.gate m (LNE_INJ n) = .pass → s.laneMode n ≠ 0 →
    ¬ (s.laneMode n = 1 ∧ tenantQuad (quadOf n) = false) → s.f (LNE_INJ_INJ_MODE n) = 3 →
    exec (.injGo m n) s = .next ((s.answer (.ok 0)).updLane n fun x => { x with inj := some (s.f (LNE_INJ_INJ_N n)) })) ∧
  (∀ (s : State) (m : Master) (n : Nat), s.gate m (LNE_SLIP n) = .pass →
    ¬ (tenantQuad (quadOf n) = true ∧ rawRate (s.quadRate (quadOf n)) = true) →
    exec (.slip m n) s = .next ((s.answer (.ok 0)).dropWrite m .badCode (LNE_SLIP n))) ∧
  (∀ (s : State) (m : Master) (n : Nat), s.gate m (LNE_SLIP n) = .pass →
    tenantQuad (quadOf n) = true ∧ rawRate (s.quadRate (quadOf n)) = true → s.bit (LNE_SLIP_SLIP_DONE n) = true →
    exec (.slip m n) s = .next ((s.answer (.ok 0)).setF (LNE_SLIP_SLIP_DONE n) 0)) ∧
  (∀ (s : State) (m : Master) (n : Nat), s.gate m (LNE_SLIP n) = .pass →
    tenantQuad (quadOf n) = true ∧ rawRate (s.quadRate (quadOf n)) = true → s.bit (LNE_SLIP_SLIP_DONE n) = false →
    exec (.slip m n) s = .next ((s.answer (.ok 0)).busy (LNE_STATUS_FIELD_BUSY n))) ∧
  (∀ (s : State) (n : Nat), s.bit (LNE_SLIP_SLIP_DONE n) = false →
    exec (.slipEnd n) s = .next (s.setFs [(LNE_SLIP_POS n, (s.f (LNE_SLIP_POS n) + 1) % (if s.quadRate (quadOf n) = 7 then 32 else 64)), (LNE_SLIP_SLIP_DONE n, 1)])) ∧
  (∀ (s : State) (n : Nat), s.bit (LNE_SLIP_SLIP_DONE n) = true → exec (.slipEnd n) s = .next (s)) ∧
  (∀ (s : State) (m : Master) (n : Nat), s.gate m (LNE_SLIP n) = .pass →
    exec (.snap m n) s = .next (((s.answer (.ok 0)).setF (LNE_SLIP_SNAP_VALID n) 0).updLane n fun x => { x with snap := true })) ∧
  (∀ (s : State) (n w : Nat),
    (s.laneAt n).snap = true ∧ s.bit (LNE_SLIP_SLIP_DONE n) = true ∧ s.laneMode n = 1 ∧ rawRate (s.quadRate (quadOf n)) = true →
    exec (.snapCapture n w) s = .next (
      ((s.updLane n fun x => { x with snap := false }).setFs [(LNE_RX_SNAP_LO_WORD n, w),
        (LNE_RX_SNAP_HI_WORD n, w / 2 ^ 32), (LNE_SLIP_SNAP_VALID n, 1)]).laneRx n 0 (leBytes 8 w))) ∧
  (∀ (s : State) (n w : Nat),
    ¬ ((s.laneAt n).snap = true ∧ s.bit (LNE_SLIP_SLIP_DONE n) = true ∧ s.laneMode n = 1 ∧ rawRate (s.quadRate (quadOf n)) = true) →
    exec (.snapCapture n w) s = .next (s))

/-- PCIe (R322 to R328). -/
def Obligations.PcieCommands : Prop :=
  (∀ (s : State) (e fn tag : Nat) (k : Tlp) (ro : Bool) (bar off n : Nat) (d : List Byte) (be : List Bool),
    s.pciUp e = false → exec (.pcieInbound e fn tag k ro bar off n d be) s = .next (s)) ∧
  (∀ (s : State) (e fn tag : Nat) (k : Tlp) (ro : Bool) (bar off n : Nat) (d : List Byte) (be : List Bool) (t : State) (kind a : Nat),
    k ≠ .atomic → s.pciUp e = true →
    t = (match fn, bar with | 0, 2 => s.applyLive PCI_PF_HBMWIN_BASE_GIB | r + 1, 0 => s.applyLive (PCI_VF_WIN_BASE_64M r) | _, _ => s) →
    t.barAt fn bar off n = some (kind, a) → t.pciServes e fn = true ∧ (!t.pci.d3.contains (funcKey e fn)) = true →
    exec (.pcieInbound e fn tag k ro bar off n d be) s = .next ((t.setInq (funcKey e fn) (t.inqAt (funcKey e fn) ++ [⟨tag, decide (k = .write), ro, kind, a, n, d, be, 0, [], [], false⟩])).inPump e (funcKey e fn))) ∧
  (∀ (s : State) (e fn tag : Nat) (k : Tlp) (ro : Bool) (bar off n : Nat) (d : List Byte) (be : List Bool) (t : State),
    k ≠ .atomic → s.pciUp e = true →
    t = (match fn, bar with | 0, 2 => s.applyLive PCI_PF_HBMWIN_BASE_GIB | r + 1, 0 => s.applyLive (PCI_VF_WIN_BASE_64M r) | _, _ => s) →
    t.barAt fn bar off n = none →
    exec (.pcieInbound e fn tag k ro bar off n d be) s = .next (if k = .write then t else t.complete e fn tag .ur [])) ∧
  (∀ (s : State) (e fn tag : Nat) (k : Tlp) (ro : Bool) (bar off n : Nat) (d : List Byte) (be : List Bool) (t : State) (kind a : Nat),
    k ≠ .atomic → s.pciUp e = true →
    t = (match fn, bar with | 0, 2 => s.applyLive PCI_PF_HBMWIN_BASE_GIB | r + 1, 0 => s.applyLive (PCI_VF_WIN_BASE_64M r) | _, _ => s) →
    t.barAt fn bar off n = some (kind, a) →
    ¬ (t.pciServes e fn = true ∧ (!t.pci.d3.contains (funcKey e fn)) = true) →
    exec (.pcieInbound e fn tag k ro bar off n d be) s = .next (if k = .write then t else t.complete e fn tag .ur [])) ∧
  (∀ (s : State) (e fn tag : Nat) (ro : Bool) (bar off n : Nat) (d : List Byte) (be : List Bool), s.pciUp e = true →
    exec (.pcieInbound e fn tag .atomic ro bar off n d be) s = .next (s.complete e fn tag .ur [])) ∧
  (∀ (s : State) (e : Nat), (s.outBehind e).noc.inbox.find? (fun p => decide (p.dst = pcieNode e)) = none →
    exec (.pcieOutbound e) s = .next ((s.outBehind e))) ∧
  (∀ (s : State) (e : Nat) (p : Packet),
    (s.outBehind e).noc.inbox.find? (fun p => decide (p.dst = pcieNode e)) = some p →
    exec (.pcieOutbound e) s = .next (((s.outBehind e).owinApply (owinOf p)).outServe e p)) ∧
  (∀ (s : State) (e : Nat) (p : Packet) (st : Nat), s.outRefusal e p = some st →
    s.outServe e p = (s.updNoc fun n => { n with inbox := dropFirst (fun q => decide (q.dst = p.dst)) n.inbox }).respond p st []) ∧
  (∀ (s : State) (e : Nat) (p : Packet) (x : Packet), s.outRefusal e p = none → p.opc = opcRead →
    s.outWaits p = some x →
    s.outServe e p = (s.updNoc fun n => { n with inbox := dropFirst (fun q => decide (q.dst = p.dst)) n.inbox }).updPci fun c => { c with behind := c.behind ++ [(p, x)] }) ∧
  (∀ (s : State) (e : Nat) (p : Packet), s.outRefusal e p = none → p.opc = opcRead → s.outWaits p = none →
    s.outServe e p = if 768 ≤ s.readsAt e then s else (s.updNoc fun n => { n with inbox := dropFirst (fun q => decide (q.dst = p.dst)) n.inbox }).outRead e p) ∧
  (∀ (s : State) (e : Nat) (p : Packet), s.outRefusal e p = none → p.opc ≠ opcRead →
    s.outServe e p = if (s.fencePl p.lease).isSome ∧ s.fenceFits p.data.length = false then s else (s.updNoc fun n => { n with inbox := dropFirst (fun q => decide (q.dst = p.dst)) n.inbox }).owinWrite e p) ∧
  (∀ (s : State) (e i : Nat) (x : Nat × Packet) (d : List Byte), s.readAt e i = some x → d.length = x.2.bcnt + 1 →
    exec (.pcieCpl e i .sc d) s = .next (((s.updPci fun c => { c with reads := c.reads.filter (fun y => y ≠ x) }).respond x.2 stOk d).outBehind e)) ∧
  (∀ (s : State) (e i : Nat) (x : Nat × Packet) (d : List Byte), s.readAt e i = some x → d.length = x.2.bcnt + 1 →
    exec (.pcieCpl e i .poisoned d) s = .next (((s.updPci fun c => { c with reads := c.reads.filter (fun y => y ≠ x) }).respond x.2 stPoison d).outBehind e)) ∧
  (∀ (s : State) (e i : Nat) (x : Nat × Packet) (d : List Byte), s.readAt e i = some x →
    exec (.pcieCpl e i .ur d) s = .next (((s.updPci fun c => { c with reads := c.reads.filter (fun y => y ≠ x) }).respond x.2 stErr []).outBehind e)) ∧
  (∀ (s : State) (e i : Nat) (x : Nat × Packet) (d : List Byte), s.readAt e i = some x →
    exec (.pcieCpl e i .ca d) s = .next (((s.updPci fun c => { c with reads := c.reads.filter (fun y => y ≠ x) }).respond x.2 stErr []).outBehind e)) ∧
  (∀ (s : State) (e i : Nat) (x : Nat × Packet), s.readAt e i = some x →
    exec (.pcieCplTimeout e i) s = .next (((s.updPci fun c => { c with reads := c.reads.filter (fun y => y ≠ x) }).respond x.2 stErr []).outBehind e)) ∧
  (∀ (s : State) (e i : Nat) (st : Cpl) (d : List Byte), s.readAt e i = none →
    exec (.pcieCpl e i st d) s = .next s ∧ exec (.pcieCplTimeout e i) s = .next s) ∧
  (∀ (s : State) (e fn : Nat), s.pciUp e = true → s.pciServes e fn = true →
    exec (.pcieConfigRequest e fn (.readId)) s = .next (s.answer (.ok ((if fn = 0 then 0x2400 else 0x2401) * 65536 + Config.vendorId 0 % 65536)))) ∧
  (∀ (s : State) (e fn : Nat), s.pciUp e = true → s.pciServes e fn = true →
    exec (.pcieConfigRequest e fn (.readClass)) s = .next (s.answer (.ok 0x120000))) ∧
  (∀ (s : State) (e fn : Nat) (bm : Bool), s.pciUp e = true → s.pciServes e fn = true →
    exec (.pcieConfigRequest e fn (.command bm)) s = .next ((s.updPci fun p => { p with bm := setMember p.bm (funcKey e fn) bm, off := if bm then setMember p.off (funcKey e fn) false else p.off }).answer (.ok 0))) ∧
  (∀ (s : State) (e fn : Nat) (d3 : Bool), s.pciUp e = true → s.pciServes e fn = true →
    exec (.pcieConfigRequest e fn (.power d3)) s = .next ((s.updPci fun p => { p with d3 := setMember p.d3 (funcKey e fn) d3 }).answer (.ok 0))) ∧
  (∀ (s : State) (e fn : Nat) (en : Bool) (num : Nat), s.pciUp e = true → s.pciServes e fn = true →
    fn ≠ 0 ∨ s.totalVfs e < num → exec (.pcieConfigRequest e fn (.sriov en num)) s = .next (s.answer (.ok 0))) ∧
  (∀ (s : State) (e fn : Nat) (num : Nat), s.pciUp e = true → s.pciServes e fn = true → fn = 0 → num ≤ s.totalVfs e →
    exec (.pcieConfigRequest e fn (.sriov true num)) s = .next ((s.updPci fun p => { p with vfs := nput p.vfs e num }).answer (.ok 0))) ∧
  (∀ (s : State) (e fn : Nat) (num : Nat), s.pciUp e = true → s.pciServes e fn = true → fn = 0 → num ≤ s.totalVfs e →
    exec (.pcieConfigRequest e fn (.sriov false num)) s = .next (
      let gone := fun k => decide (k ≠ 0 ∧ k ≠ 128) && s.funcOn e k
      (((s.inboundForget gone).configReset gone).updPci fun p => { p with vfs := nput p.vfs e 0 }).answer (.ok 0))) ∧
  (∀ (s : State) (e fn : Nat) (on : Bool), s.pciUp e = true → s.pciServes e fn = true →
    exec (.pcieConfigRequest e fn (.msixMask on)) s = .next (
      let t := (s.updPci fun p => { p with mask := setMember p.mask (funcKey e fn) on }).answer (.ok 0)
      if on ∨ funcKey e fn = 128 then t else t.msixFlush fn)) ∧
  (∀ (s : State) (e fn : Nat) (c : PciCfg), s.pciUp e = true → s.pciServes e fn = false →
    exec (.pcieConfigRequest e fn c) s = .next (s.answer .err)) ∧
  (∀ (s : State) (e fn : Nat) (c : PciCfg), s.pciUp e = false → exec (.pcieConfigRequest e fn c) s = .next (s)) ∧
  (∀ (s : State) (e ltssm : Nat), s.pciUp e = false → exec (.pcieLinkLoss e ltssm) s = .next (s)) ∧
  (∀ (s : State) (e ltssm : Nat), s.pciUp e = true → ltssm = 4 ∨ ltssm = 5 →
    exec (.pcieLinkLoss e ltssm) s = .next (s.setF (PCI_EP_STATUS_LTSSM e) ltssm)) ∧
  (∀ (s : State) (e ltssm : Nat), s.pciUp e = true → ltssm ≠ 4 → ltssm ≠ 5 → exec (.pcieLinkLoss e ltssm) s = .next (
      let t := (((s.linkShow e (if ltssm = 3 then 0 else ltssm)).pciForget e).flushNode (pcieNode e) stSideDown).respondAll (s.outDue e) stSideDown
      (t.partnersGone e).raise .PCIE_LINK_DOWN false 0 e)) ∧
  (∀ (s : State) (e : Nat), s.pciUp e = true → exec (.flrPf e) s = .next (
      let t := (((s.linkShow e 0).pciForget e).flushNode (pcieNode e) stSideDown).respondAll (s.outDue e) stSideDown
      (t.partnersGone e).raise .PCIE_LINK_DOWN false 0 e)) ∧
  (∀ (s : State) (e : Nat), s.pciUp e = false → exec (.flrPf e) s = .next (s)) ∧
  (∀ (s : State) (e rate width flit : Nat) (tx : List (Nat × List Nat)), s.pciUp e = false →
    s.f (PCI_EP_CTRL_LINK_DIS e) ≠ 1 → s.f (PWR_DOM_STATUS_STATE (172 + e)) = 2 →
    exec (.pcieLinkRestore e rate width flit tx) s = .next (
      let t := s.setFs [(PCI_EP_STATUS_LTSSM e, 3), (PCI_EP_STATUS_RATE e, rate), (PCI_EP_STATUS_WIDTH e, width), (PCI_EP_STATUS_FLIT e, flit)]
      let t := { t with out := t.out ++ (List.range width).map fun i => Out.preset (16 * e + i) (t.lanePreset (16 * e + i)) }
      (t.partnerTx tx).raise .PCIE_LINK_UP false 0 e)) ∧
  (∀ (s : State) (e rate width flit : Nat) (tx : List (Nat × List Nat)),
    s.pciUp e = true ∨ s.f (PCI_EP_CTRL_LINK_DIS e) = 1 ∨ s.f (PWR_DOM_STATUS_STATE (172 + e)) ≠ 2 →
    exec (.pcieLinkRestore e rate width flit tx) s = .next (s)) ∧
  (∀ (s : State) (fn : Nat), 1 ≤ fn ∧ fn ≤ 64 ∧ s.funcEnabled (s.funcEp fn) fn = true → exec (.flrVf fn) s = .next (
      let reads := s.pci.reads.filterMap fun x => if x.1 = fn then some x.2 else none
      let t := ((s.inboundForget fun k => decide (k = fn)).configReset fun k => decide (k = fn)).mailboxReset fn
      let t := t.updPci fun p => { p with off := fn :: p.off, reads := p.reads.filter fun x => x.1 ≠ fn }
      (t.respondAll reads stSideDown).raise .VF_FLR true (t.f (HUB_RGN_STATE_LEASE (fn - 1))) (fn - 1))) ∧
  (∀ (s : State) (fn : Nat), ¬ (1 ≤ fn ∧ fn ≤ 64 ∧ s.funcEnabled (s.funcEp fn) fn = true) →
    exec (.flrVf fn) s = .next (s))

/-- The mirror link and its failure wires (R333 to R342, R352, R353). -/
def Obligations.MirrorLinkCommands : Prop :=
  (∀ (s : State) (m : Master), s.gate m MIR_CTRL = .pass →
    ¬ (s.link = 0 ∨ s.link = 4 ∨ s.link = 5) ∨ s.bit MIR_STATUS_SELF_FAILED = true ∨ s.bit CFG_BOOT_STATUS_RIP = true →
    exec (.mirStart m) s = .next ((s.answer (.ok 0)).setF MIR_STATUS_ERR 6)) ∧
  (∀ (s : State) (m : Master), s.gate m MIR_CTRL = .pass →
    ¬ (¬ (s.link = 0 ∨ s.link = 4 ∨ s.link = 5) ∨ s.bit MIR_STATUS_SELF_FAILED = true ∨ s.bit CFG_BOOT_STATUS_RIP = true) →
    s.mir.keySet ≠ 255 → exec (.mirStart m) s = .next ((s.answer (.ok 0)).setF MIR_STATUS_ERR 1)) ∧
  (∀ (s : State) (m : Master), s.gate m MIR_CTRL = .pass →
    ¬ (¬ (s.link = 0 ∨ s.link = 4 ∨ s.link = 5) ∨ s.bit MIR_STATUS_SELF_FAILED = true ∨ s.bit CFG_BOOT_STATUS_RIP = true) →
    s.mir.keySet = 255 → exec (.mirStart m) s = .next (
      let t := (s.answer (.ok 0)).updMir fun m => { m with
        key := (List.range 8).flatMap fun i => Crypto.leBytesN 4 (nget m.words i)
        ctl := [], wl := [], img := [], log := [], logBytes := 0, wlCnt := 0, ended := none, unacked := false, endDue := false
        cutting := false, give := [], given := [], rx := [], ends := [], retrying := false, win := false, downed := false
        trained := false, badQuads := [], own := none, expect := none }
      (((t.setArb .mirror Arb.empty).setSeqTx 0).setSeqRx 0).setFs [(MIR_STATUS_ERR, 0), (MIR_STATUS_LINK, 1), (MIR_STATUS_WIDTH, 0)])) ∧
  (∀ (s : State) (m : Master), s.gate m MIR_CTRL = .pass → ¬ (s.link = 1 ∨ s.link = 2 ∨ s.link = 3) →
    exec (.mirStop m) s = .next ((s.answer (.ok 0)).setF MIR_STATUS_ERR 6)) ∧
  (∀ (s : State) (m : Master), s.gate m MIR_CTRL = .pass → (s.link = 1 ∨ s.link = 2 ∨ s.link = 3) →
    exec (.mirStop m) s = .next (
      let t := (s.answer (.ok 0)).linkLeave 0 0
      let u := (t.pls 1 [1, 2]).foldl State.plSolo t
      ((u.pls 2 [1, 2]).filter fun j => !u.mir.takes.contains j).foldl (fun v j => v.plStale j 0) u)) ∧
  (∀ (s : State) (m : Master), s.gate m MIR_CTRL = .pass → s.bit MIR_STATUS_SELF_FAILED = true →
    exec (.mirCmdSelfFail m) s = .next ((s.answer (.ok 0)))) ∧
  (∀ (s : State) (m : Master), s.gate m MIR_CTRL = .pass → s.bit MIR_STATUS_SELF_FAILED = false →
    exec (.mirCmdSelfFail m) s = .next (
      let t := (s.answer (.ok 0)).setFs [(MIR_STATUS_FAIL_OUT, 1), (MIR_STATUS_SELF_FAILED, 1)]
      let u := ((((List.range 16).filter fun j => decide (t.plMode j = 1)).flatMap t.srcRegions).foldl State.mirPause t).dropFx fun _ => true
      (if u.link = 1 ∨ u.link = 2 ∨ u.link = 3 then u.linkDown 0 0 else u).raise .MIR_SELF_FAIL false 0 noInst)) ∧
  (∀ (s : State), s.link = 1 ∧ s.mir.trained = false → exec (.mirTrainEnd) s = .next (
      let t := (s.updMir fun m => { m with trained := true }).setF MIR_STATUS_WIDTH 2
      (t.pushCtl 1 t.serial (t.f MIR_STATUS_ROLE + 0x100)).mirRaise)) ∧
  (∀ (s : State), s.link = 1 ∧ s.mir.trained = false → exec (.mirTrainTimeout) s = .next (s.linkDown 5 5)) ∧
  (∀ (s : State), ¬ (s.link = 1 ∧ s.mir.trained = false) →
    exec .mirTrainEnd s = .next s ∧ exec .mirTrainTimeout s = .next s) ∧
  (∀ (s : State) (tagOk : Bool) (role : Nat), s.link ≠ 1 ∨ s.mir.trained = false →
    exec (.mirHello tagOk role) s = .next (s)) ∧
  (∀ (s : State) (role : Nat), s.link = 1 → s.mir.trained = true →
    exec (.mirHello false role) s = .next (s.linkDown 5 3)) ∧
  (∀ (s : State) (role : Nat), s.link = 1 → s.mir.trained = true → role % 2 = s.f MIR_STATUS_ROLE →
    exec (.mirHello true role) s = .next (s.linkDown 5 2)) ∧
  (∀ (s : State) (role : Nat), s.link = 1 → s.mir.trained = true → role % 2 ≠ s.f MIR_STATUS_ROLE →
    exec (.mirHello true role) s = .next (
      let t := (((s.setSeqRx 1).setF MIR_STATUS_LINK 2).raise .MIR_LINK_UP false 0 noInst).mirApply
      (((List.range 16).filter fun j => decide (t.plMode j = 1 ∨ t.plMode j = 2) && [0, 1, 3, 4].contains (t.plState j)).foldl State.plSeed t).mirRaise)) ∧
  (∀ (s : State), exec (.mirLossTimer) s = .next (if s.link = 2 then s.linkDown 4 9 else s)) ∧
  (∀ (s : State) (time : Nat), exec (.mirIdleTimer) s = .next (if s.link = 2 then
        (s.pushCtl 2 s.nocTime (s.f MIR_EPOCH_CMT_EPOCH + s.f MIR_STATUS_FAIL_OUT * 2 ^ 32 + s.f MIR_STATUS_FAIL_IN * 2 ^ 33)).mirRaise else s) ∧
      exec (.mirWireTestTimer time) s = .next (if s.link = 2 then ((s.pushCtl 0x0C time 0).updMir fun m => { m with own := some time }).mirRaise else s) ∧
      exec .wireTestRelease s = .next (if s.mir.own.isSome then s.setF MIR_STATUS_FAIL_OUT 1 else s) ∧
      exec .pairFailInFall s = .next (s.setF MIR_STATUS_FAIL_IN 0)) ∧
  (∀ (s : State) (lane : Nat), ¬ ((s.link = 2 ∨ s.link = 3) ∧ 32 ≤ lane ∧ lane < 48 ∧ s.mirUses lane = true) →
    exec (.mirLaneLockLoss lane) s = .next (s)) ∧
  (∀ (s : State) (lane : Nat), (s.link = 2 ∨ s.link = 3) ∧ 32 ≤ lane ∧ lane < 48 ∧ s.mirUses lane = true →
    (s.updMir fun x => { x with badQuads := (lane / 4) :: x.badQuads }).mir.noPair = true →
    exec (.mirLaneLockLoss lane) s = .next ((s.updMir fun x => { x with badQuads := (lane / 4) :: x.badQuads }).linkDown 4 9)) ∧
  (∀ (s : State) (lane : Nat), s.link = 3 → 32 ≤ lane → lane < 48 → s.mirUses lane = true →
    (s.updMir fun x => { x with badQuads := (lane / 4) :: x.badQuads }).mir.noPair = false →
    exec (.mirLaneLockLoss lane) s = .next ((s.updMir fun x => { x with badQuads := (lane / 4) :: x.badQuads }))) ∧
  (∀ (s : State) (lane : Nat), s.link = 2 → 32 ≤ lane → lane < 48 → s.mirUses lane = true →
    (s.updMir fun x => { x with badQuads := (lane / 4) :: x.badQuads }).mir.noPair = false →
    exec (.mirLaneLockLoss lane) s = .next (
      let t := ((s.updMir fun x => { x with badQuads := (lane / 4) :: x.badQuads }).setF MIR_STATUS_LINK 3).applyLive MIR_XP_LINK_RETRAIN_US
      if t.bit MIR_STATUS_FAIL_IN then t.linkDown 4 9 else t)) ∧
  (∀ (s : State), exec (.mirRetrainTimeout) s = .next (if s.link = 3 then s.linkDown 4 9 else s)) ∧
  (∀ (s : State), s.link = 3 → exec (.mirRetrainEnd) s = .next (
      let t := s.setFs [(MIR_STATUS_LINK, 2), (MIR_STATUS_WIDTH, 1)]
      ({ t with out := t.out ++ t.mir.log.map fun (x : Nat × MFrame) => Out.mirror (t.mirBytes x.1 x.2) }).mirRaise)) ∧
  (∀ (s : State), s.link ≠ 3 → exec (.mirRetrainEnd) s = .next (s)) ∧
  (∀ (s : State) (t : Nat), (s.setF MIR_STATUS_FAIL_IN 1).link = 2 →
    (s.setF MIR_STATUS_FAIL_IN 1).mir.expect = some (t, false) →
    exec (.pairFailInRise) s = .next ((s.setF MIR_STATUS_FAIL_IN 1).updMir fun m => { m with expect := some (t, true) })) ∧
  (∀ (s : State), (s.setF MIR_STATUS_FAIL_IN 1).link = 2 →
    (∀ t, (s.setF MIR_STATUS_FAIL_IN 1).mir.expect ≠ some (t, false)) →
    exec (.pairFailInRise) s = .next ((s.setF MIR_STATUS_FAIL_IN 1).raise .MIR_FAIL_IN_SUSPECT false 0 noInst)) ∧
  (∀ (s : State), (s.setF MIR_STATUS_FAIL_IN 1).link = 3 →
    exec (.pairFailInRise) s = .next ((s.setF MIR_STATUS_FAIL_IN 1).linkDown 4 9)) ∧
  (∀ (s : State), (s.setF MIR_STATUS_FAIL_IN 1).link ≠ 2 → (s.setF MIR_STATUS_FAIL_IN 1).link ≠ 3 →
    exec (.pairFailInRise) s = .next (if (s.setF MIR_STATUS_FAIL_IN 1).mir.win then (s.setF MIR_STATUS_FAIL_IN 1).mirDecide true else (s.setF MIR_STATUS_FAIL_IN 1))) ∧
  (∀ (s : State), exec (.takeWinExpire) s = .next (if s.mir.win then s.mirDecide (s.bit MIR_STATUS_FAIL_IN) else s)) ∧
  (∀ (s : State) (failed : Bool), s.bit MIR_STATUS_SELF_FAILED = false → s.mirDecide failed =
      let t := s.updMir fun m => { m with win := false }
      let u := (t.pls 1 [1, 2]).foldl State.plSolo t
      (u.pls 2 [1, 2]).foldl (fun v j =>
        if failed ∧ v.plState j = 2 then v.takeover j else if v.mir.takes.contains j then v else v.plStale j 0) u) ∧
  (∀ (s : State), s.mir.own.isSome = true → exec (.wireTestReleaseEnd) s = .next (
      if (s.updMir fun m => { m with own := none }).bit MIR_STATUS_SELF_FAILED = true ∨ (s.updMir fun m => { m with own := none }).bit CFG_BOOT_STATUS_RIP = true then (s.updMir fun m => { m with own := none })
      else (s.updMir fun m => { m with own := none }).setF MIR_STATUS_FAIL_OUT 0)) ∧
  (∀ (s : State), s.mir.own.isSome = false → exec (.wireTestReleaseEnd) s = .next (s))

/-- Mirror frames, epochs, seeding and failover (R338 to R354). -/
def Obligations.MirrorEpochCommands : Prop :=
  (∀ (s : State) (seq : Nat) (failOut failIn : Bool), s.link = 2 → s.seqRx = seq →
    exec (.mirIdle seq failOut failIn) s = .next (
      let t := s.setSeqRx (seq + 1)
      let u := if b2n failOut ≠ t.f MIR_STATUS_FAIL_IN ∨ b2n failIn ≠ t.f MIR_STATUS_FAIL_OUT then t.raise .MIR_WIRE_FAULT false 0 noInst else t
      u.mirCommit.mirRaise)) ∧
  (∀ (s : State) (seq : Nat) (pl epoch off : Nat) (payload : List Byte), s.link = 2 → s.seqRx = seq →
    exec (.mirWlog seq pl epoch off payload) s = .next (
      let t := s.setSeqRx (seq + 1)
      let u := t.mirWlog ⟨3, pl % 16, epoch, off, 0, payload⟩
      u.mirCommit.mirRaise)) ∧
  (∀ (s : State) (seq : Nat) (pl epoch off : Nat) (payload : List Byte), s.link = 2 → s.seqRx = seq →
    exec (.mirSeed seq pl epoch off payload) s = .next (
      let t := s.setSeqRx (seq + 1)
      let u := t.mirSeed ⟨4, pl % 16, epoch, off, 0, payload⟩
      u.mirCommit.mirRaise)) ∧
  (∀ (s : State) (seq : Nat) (pl epoch rgn off : Nat) (payload : List Byte), s.link = 2 → s.seqRx = seq →
    exec (.mirImage seq pl epoch rgn off payload) s = .next (
      let t := s.setSeqRx (seq + 1)
      let u := t.mirImage ⟨5, pl % 16, epoch, rgn, off, payload⟩
      u.mirCommit.mirRaise)) ∧
  (∀ (s : State) (seq : Nat) (pl epoch : Nat) (payload : List Byte), s.link = 2 → s.seqRx = seq →
    exec (.mirEffect seq pl epoch payload) s = .next (
      let t := s.setSeqRx (seq + 1)
      let u := (t.rxCount epoch 2).updMir fun m => { m with keep := m.keep ++ [⟨6, pl % 16, epoch, 0, 0, payload⟩] }
      u.mirCommit.mirRaise)) ∧
  (∀ (s : State) (seq : Nat) (epoch wl img eff mask : Nat), s.link = 2 → s.seqRx = seq →
    exec (.mirEpochEnd seq epoch wl img eff mask) s = .next (
      let t := s.setSeqRx (seq + 1)
      let u := t.updMir fun m => { m with ends := m.ends ++ [⟨epoch, wl, img, eff, mask⟩] }
      u.mirCommit.mirRaise)) ∧
  (∀ (s : State) (seq : Nat) (epoch : Nat), s.link = 2 → s.seqRx = seq → exec (.mirAck seq epoch) s = .next (
      let t := s.setSeqRx (seq + 1)
      let u := t.mirAck epoch
      u.mirCommit.mirRaise)) ∧
  (∀ (s : State) (seq : Nat) (epoch : Nat), s.link = 2 → s.seqRx = seq → exec (.mirRel seq epoch) s = .next (
      let t := s.setSeqRx (seq + 1)
      let u := t.updMir fun m => { m with keep := m.keep.filter fun x => decide (epoch < x.epoch) }
      u.mirCommit.mirRaise)) ∧
  (∀ (s : State) (seq : Nat) (first : Nat), s.link = 2 → s.seqRx = seq → exec (.mirRetry seq first) s = .next (
      let t := s.setSeqRx (seq + 1)
      let u := if first = t.seqTx then t
        else if t.mir.log.any (fun x => x.1 = first) then
          { t with out := t.out ++ (t.mir.log.filter fun x => decide (first ≤ x.1)).map fun x => Out.mirror (t.mirBytes x.1 x.2) }
        else t.linkDown 5 8
      u.mirCommit.mirRaise)) ∧
  (∀ (s : State) (seq : Nat) (pl : Nat), s.link = 2 → s.seqRx = seq → exec (.mirGive seq pl) s = .next (
      let t := s.setSeqRx (seq + 1)
      let u := if t.plMode (pl % 16) ≠ 2 then t
        else if t.plState (pl % 16) = 2 then t.takeover (pl % 16)
        else if t.plState (pl % 16) = 1 ∨ t.plState (pl % 16) = 3 then t.raise .MIR_STALE true (t.plLease (pl % 16)) noInst else t
      u.mirCommit.mirRaise)) ∧
  (∀ (s : State) (seq : Nat) (time : Nat), s.link = 2 → s.seqRx = seq → exec (.mirWireTest seq time) s = .next (
      let t := s.setSeqRx (seq + 1)
      let u := t.wireCheck.updMir fun m => { m with expect := some (time, false) }
      u.mirCommit.mirRaise)) ∧
  (∀ (s : State) (seq pl epoch off rgn wl img eff mask first time : Nat) (payload : List Byte) (failOut failIn : Bool),
    s.link ≠ 2 → exec (.mirIdle seq failOut failIn) s = .next s ∧
      exec (.mirWlog seq pl epoch off payload) s = .next s ∧
      exec (.mirSeed seq pl epoch off payload) s = .next s ∧
      exec (.mirImage seq pl epoch rgn off payload) s = .next s ∧
      exec (.mirEffect seq pl epoch payload) s = .next s ∧
      exec (.mirEpochEnd seq epoch wl img eff mask) s = .next s ∧
      exec (.mirAck seq epoch) s = .next s ∧
      exec (.mirRel seq epoch) s = .next s ∧
      exec (.mirRetry seq first) s = .next s ∧
      exec (.mirGive seq pl) s = .next s ∧
      exec (.mirWireTest seq time) s = .next s) ∧
  (∀ (s : State) (seq pl epoch off rgn wl img eff mask first time : Nat) (payload : List Byte) (failOut failIn : Bool) (t : State),
    s.link = 2 → s.seqRx ≠ seq →
    t = (if s.mir.retrying then s else (s.pushCtl 0x0A s.seqRx 0).updMir fun m => { m with retrying := true }) →
    exec (.mirIdle seq failOut failIn) s = .next t.mirRaise ∧
      exec (.mirWlog seq pl epoch off payload) s = .next t.mirRaise ∧
      exec (.mirSeed seq pl epoch off payload) s = .next t.mirRaise ∧
      exec (.mirImage seq pl epoch rgn off payload) s = .next t.mirRaise ∧
      exec (.mirEffect seq pl epoch payload) s = .next t.mirRaise ∧
      exec (.mirEpochEnd seq epoch wl img eff mask) s = .next t.mirRaise ∧
      exec (.mirAck seq epoch) s = .next t.mirRaise ∧
      exec (.mirRel seq epoch) s = .next t.mirRaise ∧
      exec (.mirRetry seq first) s = .next t.mirRaise ∧
      exec (.mirGive seq pl) s = .next t.mirRaise ∧
      exec (.mirWireTest seq time) s = .next t.mirRaise) ∧
  (∀ (s : State) (tagFails : Bool), s.link = 2 → exec (.mirFrameBad tagFails) s = .next (
      let t := if tagFails then s.count MIR_COUNT_TAGFAIL 1 else s
      let u := if t.mir.retrying then t else (t.pushCtl 0x0A t.seqRx 0).updMir fun m => { m with retrying := true }
      u.mirRaise)) ∧
  (∀ (s : State) (tagFails : Bool), s.link ≠ 2 → exec (.mirFrameBad tagFails) s = .next (s)) ∧
  (∀ (s : State), s.mir.applying = none → exec (.mirCommitApplyEnd) s = .next (s)) ∧
  (∀ (s : State) (e : EpochEnd), s.mir.applying = some e → exec (.mirCommitApplyEnd) s = .next (
      let t := ((List.range 64).filter fun r => decide (s.eff (MIR_RGN_MODE r) = 2 ∧ e.mask / 2 ^ s.eff (MIR_RGN_PEER r) % 2 = 1)
        && [1, 2].contains (s.plState (s.eff (MIR_RGN_PL r)))).foldl State.imageMove s
      let due := t.mir.rlog.filter fun x => decide (x.epoch ≤ e.epoch)
      let u := due.foldl (fun v x => if v.plMode x.pl = 2 ∧ v.plState x.pl = 2 then v.wlogPut x else v) t
      let v := u.updMir fun m => { m with
        rlog := m.rlog.filter (fun x => decide (e.epoch < x.epoch)), applying := none
        rx := m.rx.filter fun k => decide (e.epoch < k.1 / 4) }
      let w := v.updMir fun m => { m with ctl := if v.link = 2 then m.ctl ++ [⟨8, noPl, e.epoch, 0, 0, []⟩] else m.ctl }
      w.mirCommit.mirRaise)) ∧
  (∀ (s : State), s.link ≠ 2 ∨ (s.pls 1 [1, 2]).isEmpty = true → exec (.mirEpochTimer) s = .next (s.mirRaise)) ∧
  (∀ (s : State), ¬ (s.link ≠ 2 ∨ (s.pls 1 [1, 2]).isEmpty = true) → s.mir.unacked = true ∨ s.mir.cutting = true →
    exec (.mirEpochTimer) s = .next ((s.updMir fun m => { m with endDue := true }).mirRaise)) ∧
  (∀ (s : State), ¬ (s.link ≠ 2 ∨ (s.pls 1 [1, 2]).isEmpty = true) → ¬ (s.mir.unacked = true ∨ s.mir.cutting = true) →
    s.mirRegions = [] →
    exec (.mirEpochTimer) s = .next (((s.updMir fun m => { m with endDue := false }).mirCut []).mirRaise)) ∧
  (∀ (s : State), ¬ (s.link ≠ 2 ∨ (s.pls 1 [1, 2]).isEmpty = true) → ¬ (s.mir.unacked = true ∨ s.mir.cutting = true) →
    s.mirRegions ≠ [] → exec (.mirEpochTimer) s = .next (
      let t := (s.arbAsk .capture ⟨1, 0, 0, 0⟩)
      let u := if t.arbOwns .capture 1 = true ∧ t.cap.op = 0 then (t.updMir fun m => { m with endDue := false, cutting := true }).capBegin 2 s.mirRegions true true
        else t.updMir fun m => { m with endDue := true }
      u.mirRaise)) ∧
  (∀ (s : State), exec (.mirAckTimeout) s = .next (if s.link = 2 ∧ s.mir.unacked = true then s.linkDown 5 7 else s)) ∧
  (∀ (s : State) (j : Nat), s.mir.takes.contains j = false ∨ s.mir.applying.isSome = true →
    exec (.takeoverEnd j) s = .next (s)) ∧
  (∀ (s : State) (j : Nat), s.mir.takes.contains j = true → s.mir.applying.isSome = false →
    exec (.takeoverEnd j) s = .next (
      let l := (s.stbyRegions j).filter fun r => s.bit (MIR_RGN_HELD r)
      let t := l.foldl (fun t r =>
        let u := ((t.ramFromImage r).setF (MIR_RGN_HELD r) 0).updRgn r fun x => { x with hold := false }
        ((u.setEnvSrc r 1).envOpen r).envOpened r) s
      let u := (t.mir.keep.filter fun x => decide (x.pl = j)).foldl (fun v x => v.fxRelease (fxOfBytes x.data)) t
      let v := u.updMir fun m => { m with
        keep := m.keep.filter (fun x => decide (x.pl ≠ j)), takes := m.takes.filter (· ≠ j)
        rlog := m.rlog.filter fun x => decide (x.pl ≠ j) }
      let w := v.setPlState j 6
      w.raise .MIR_TAKEOVER true (v.plLease j) noInst)) ∧
  (∀ (s : State) (m : Master) (j : Nat), s.gate m (MIR_PL_CFG j) = .pass →
    s.plMode j = 1 ∧ s.plState j = 2 ∧ s.link = 2 → exec (.plGive m j) s = .next (
      let t := (s.answer (.ok 0)).updMir fun m => { m with give := if m.give.contains j then m.give else m.give ++ [j] }
      t.mirEnd.mirRaise)) ∧
  (∀ (s : State) (m : Master) (j : Nat), s.gate m (MIR_PL_CFG j) = .pass →
    ¬ (s.plMode j = 1 ∧ s.plState j = 2 ∧ s.link = 2) →
    exec (.plGive m j) s = .next ((s.answer (.ok 0)).setF (MIR_PL_STATUS_ERR j) 4)) ∧
  (∀ (s : State) (m : Master) (j : Nat), s.gate m (MIR_PL_CFG j) = .pass →
    s.link = 2 ∧ (s.plMode j = 1 ∨ s.plMode j = 2) → exec (.plReseed m j) s = .next (
      let t := ((s.answer (.ok 0)).setFs [(MIR_PL_STATUS_ERR j, 0), (MIR_PL_STATUS_SEED j, 0)]).setPlState j 1
      let u := t.updMir fun m => { m with
        seed := nput m.seed j 0
        seedEpoch := nput m.seedEpoch j (if t.plSize j = 0 then t.openEpoch + 1 else 0) }
      u.mirRaise)) ∧
  (∀ (s : State) (m : Master) (j : Nat), s.gate m (MIR_PL_CFG j) = .pass →
    ¬ (s.link = 2 ∧ (s.plMode j = 1 ∨ s.plMode j = 2)) →
    exec (.plReseed m j) s = .next ((s.answer (.ok 0)).setF (MIR_PL_STATUS_ERR j) 4))

/-- Clocks (R359 to R370). -/
def Obligations.ClockCommands : Prop :=
  (∀ (s : State) (c0 c1 : Nat), exec (.judgeWindowEnd c0 c1) s = .next (
      let t := (s.applyLive CLK_CTRL_AON_AUTO).applyLive CLK_CTRL_REF_AUTO
      let ref := decide (t.f CLK_JUDGE_AON_SRC ≠ 0)
      let v := verdict ref 1 c0 c1
      let ok0 := (ref || cmpRef 1 c0) && (cmpBoth 1 c0 c1 || ref1Absent 1 c1)
      let ok1 := (ref || cmpRef 1 c1) && cmpBoth 1 c0 c1
      let u := t.setFs [(CLK_JUDGE_CNT_COUNT 0, c0), (CLK_JUDGE_CNT_COUNT 1, c1), (CLK_JUDGE_VERDICT, v)]
      let u := if v = 0 ∨ v = 5 then u else u.count CLK_JUDGE_BAD_WINDOWS 1
      let u := ((u.judgeGood 0 ok0).judgeGood 1 ok1).hubStart v
      let u := if u.pllState 0 = 0 then u else u.judgeAct v
      u.windowHops ok0 ok1)) ∧
  (∀ (c0 c1 : Nat),
    (cmpRef 1 c0 = true ↔ 101376 ≤ c0 ∧ c0 ≤ 103424) ∧ (cmpBoth 1 c0 c1 = true ↔ c0 ≤ c1 + 1024 ∧ c1 ≤ c0 + 1024) ∧
      (ref1Absent 1 c1 = true ↔ c1 < 1024)) ∧
  (∀ (s : State) (c0 c1 : Nat) (v : Nat), verdict (decide (s.f CLK_JUDGE_AON_SRC ≠ 0)) 4 c0 c1 = v →
    exec (.judgeQuarterEnd c0 c1) s = .next (if v = 0 ∨ v = 5 ∨ s.pllState 0 = 0 then s else s.judgeAct v)) ∧
  (∀ (s : State) (m : Master) (p f0 f1 : Nat), s.gate m (CLK_PLL_CFG p) = .pass →
    planned p = false ∨ (freqClamp p f0 = s.f (CLK_PLL_CFG_FREQ0_MHZ p) ∧ (64 < p ∨ freqClamp p f1 = s.f (CLK_PLL_CFG_FREQ1_MHZ p))) →
    exec (.clkFreqWrite m p f0 f1) s = .next ((s.answer (.ok 0)))) ∧
  (∀ (s : State) (m : Master) (p f0 f1 : Nat), s.gate m (CLK_PLL_CFG p) = .pass → planned p = true →
    ¬ (freqClamp p f0 = s.f (CLK_PLL_CFG_FREQ0_MHZ p) ∧ (64 < p ∨ freqClamp p f1 = s.f (CLK_PLL_CFG_FREQ1_MHZ p))) →
    ¬ (s.pllState p = 2 ∨ s.pllState p = 3 ∨ s.pllState p = 4) → exec (.clkFreqWrite m p f0 f1) s = .next (
      let t := (s.answer (.ok 0)).setF (CLK_PLL_CFG_FREQ0_MHZ p) (freqClamp p f0)
      let t := if p ≤ 64 then t.setF (CLK_PLL_CFG_FREQ1_MHZ p) (freqClamp p f1) else t
      t.pllShow p)) ∧
  (∀ (s : State) (m : Master) (p f0 f1 : Nat), s.gate m (CLK_PLL_CFG p) = .pass → planned p = true →
    ¬ (freqClamp p f0 = s.f (CLK_PLL_CFG_FREQ0_MHZ p) ∧ (64 < p ∨ freqClamp p f1 = s.f (CLK_PLL_CFG_FREQ1_MHZ p))) →
    (s.pllState p = 2 ∨ s.pllState p = 3 ∨ s.pllState p = 4) → exec (.clkFreqWrite m p f0 f1) s = .next (
      let t := (s.answer (.ok 0)).writeLive (CLK_PLL_CFG_FREQ0_MHZ p) (freqClamp p f0)
      let t := if p ≤ 64 then t.writeLive (CLK_PLL_CFG_FREQ1_MHZ p) (freqClamp p f1) else t
      (t.pllShow p).hop p)) ∧
  (∀ (s : State) (p : Nat),
    exec (.pllLockLoss p) s = .next (if 77 ≤ p ∧ p < 113 ∧ (s.pllLoss p).pllState p ≠ s.pllState p then (s.pllLoss p).quadUnlock (p - 77) else (s.pllLoss p))) ∧
  (∀ (s : State) (p : Nat), s.pllState p = 2 → s.pllLoss p = (s.setPll p 3).coast p) ∧
  (∀ (s : State) (p : Nat), s.pllState p = 4 → (s.pllAt p).phase ≠ 2 → s.pllLoss p =
      let t := (s.coast p).updPll p fun x => { x with phase := 1 }
      (t.muxUpds (t.pllDoms p)).hopAway p) ∧
  (∀ (s : State) (p : Nat), s.pllNeeded p = false → s.pllState p ≠ 0 → exec (.pllIdleTimer p) s = .next (
      let t := (s.setPll p 0).updPll p fun x => { x with phase := 0, again := false, fresh := false }
      t.muxUpds (t.pllDoms p))) ∧
  (∀ (s : State) (p : Nat), s.pllNeeded p = true ∨ s.pllState p = 0 → exec (.pllIdleTimer p) s = .next (s)) ∧
  (∀ (s : State) (n w : Nat),
    (s.muxAt n w).sw ≠ 0 ∧ s.clkRuns (s.muxAt n w).tgt = true ∧ ((s.muxAt n w).sw = 2 ∨ s.clkRuns (s.muxAt n w).cur = true) →
    exec (.clockSwitchEnd n w) s = .next (
      let m := s.muxAt n w
      let t := (s.setMux n w ⟨m.tgt, .osc, 0, false, false⟩).setFs [(CLK_DOM_STATUS_SW n, 0), (CLK_DOM_STATUS_WHERE n, w),
        (CLK_DOM_STATUS_LOST_OLD n, if m.forced then 0xF else 3)]
      let t := t.showSrc n w m.tgt
      let t := match s.muxWant n w with | .pll p _ => t.hopCheck p | _ => t
      t.muxUpd n w)) ∧
  (∀ (s : State) (n w : Nat),
    ¬ ((s.muxAt n w).sw ≠ 0 ∧ s.clkRuns (s.muxAt n w).tgt = true ∧ ((s.muxAt n w).sw = 2 ∨ s.clkRuns (s.muxAt n w).cur = true)) →
    exec (.clockSwitchEnd n w) s = .next (s)) ∧
  (∀ (s : State) (n w : Nat), (s.muxAt n w).sw = 1 → exec (.clockSwitchForce n w) s = .next (
      let t := (s.setMux n w { s.muxAt n w with sw := 2, forced := true }).setFs [(CLK_DOM_STATUS_SW n, 2), (CLK_DOM_STATUS_WHERE n, w),
        (CLK_DOM_STATUS_LOST_OLD n, 0xF), (CLK_DOM_STATUS_FORCED n, 1)]
      t.domEvent .CLK_FORCED n)) ∧
  (∀ (s : State) (n w : Nat), (s.muxAt n w).sw ≠ 1 → exec (.clockSwitchForce n w) s = .next (s)) ∧
  (∀ (s : State) (n w : Nat),
    (s.muxAt n w).sw = 0 ∨ (s.muxAt n w).stalled = true ∨ s.clkRuns (s.muxAt n w).tgt = true ∨ ((s.muxAt n w).sw = 1 ∧ s.clkRuns (s.muxAt n w).cur = false) →
    exec (.clockSwStallTimer n w) s = .next (s)) ∧
  (∀ (s : State) (n w : Nat),
    ¬ ((s.muxAt n w).sw = 0 ∨ (s.muxAt n w).stalled = true ∨ s.clkRuns (s.muxAt n w).tgt = true ∨ ((s.muxAt n w).sw = 1 ∧ s.clkRuns (s.muxAt n w).cur = false)) →
    exec (.clockSwStallTimer n w) s = .next (
      let t := (s.setMux n w { s.muxAt n w with sw := 2, stalled := true }).setFs [(CLK_DOM_STATUS_SW n, 2), (CLK_DOM_STATUS_WHERE n, w)]
      t.domEvent .CLK_SW_STALL n))

/-- Power, temperature and lifecycle (R372 to R377, R390 to R393). -/
def Obligations.PowerThermalAndLifecycleCommands : Prop :=
  (∀ (s : State) (m : Master) (n v : Nat), s.gate m (PWR_DOM_CTRL n) = .pass → 2 ≤ v ∨ (64 ≤ n ∧ n < 128) →
    exec (.pwrDomReq m n v) s = .next ((s.answer (.ok 0)).logDrop m .badCode (PWR_DOM_CTRL n))) ∧
  (∀ (s : State) (m : Master) (n v : Nat), s.gate m (PWR_DOM_CTRL n) = .pass → ¬ (2 ≤ v ∨ (64 ≤ n ∧ n < 128)) →
    ((s.answer (.ok 0)).setF (PWR_DOM_CTRL_REQ n) v).pwrState n = 3 →
    exec (.pwrDomReq m n v) s = .next (((s.answer (.ok 0)).setF (PWR_DOM_CTRL_REQ n) v))) ∧
  (∀ (s : State) (m : Master) (n v : Nat), s.gate m (PWR_DOM_CTRL n) = .pass → ¬ (2 ≤ v ∨ (64 ≤ n ∧ n < 128)) →
    ((s.answer (.ok 0)).setF (PWR_DOM_CTRL_REQ n) v).f (PWR_DOM_CTRL_REQ n) = 1 →
    ((s.answer (.ok 0)).setF (PWR_DOM_CTRL_REQ n) v).pwrState n = 0 →
    exec (.pwrDomReq m n v) s = .next (((s.answer (.ok 0)).setF (PWR_DOM_CTRL_REQ n) v).pwrStart n true)) ∧
  (∀ (s : State) (m : Master) (n v : Nat), s.gate m (PWR_DOM_CTRL n) = .pass → ¬ (2 ≤ v ∨ (64 ≤ n ∧ n < 128)) →
    ((s.answer (.ok 0)).setF (PWR_DOM_CTRL_REQ n) v).f (PWR_DOM_CTRL_REQ n) = 0 →
    ((s.answer (.ok 0)).setF (PWR_DOM_CTRL_REQ n) v).pwrState n = 2 → exec (.pwrDomReq m n v) s = .next (
      if ((s.answer (.ok 0)).setF (PWR_DOM_CTRL_REQ n) v).offRefused n = true then ((s.answer (.ok 0)).setF (PWR_DOM_CTRL_REQ n) v).setFs [(PWR_DOM_STATUS_ERR n, 1), (PWR_DOM_CTRL_REQ n, 1)]
      else ((s.answer (.ok 0)).setF (PWR_DOM_CTRL_REQ n) v).pwrStart n false)) ∧
  (∀ (s : State) (n us : Nat), s.pwrState n ≠ 3 ∨ (64 ≤ n ∧ n < 128) → exec (.pwrDomEnd n us) s = .next (s)) ∧
  (∀ (s : State) (n us : Nat), ¬ (s.pwrState n ≠ 3 ∨ (64 ≤ n ∧ n < 128)) → s.pwr.up.contains n = false →
    exec (.pwrDomEnd n us) s = .next ((s.pwrOff n).pwrTry n)) ∧
  (∀ (s : State) (n us : Nat), ¬ (s.pwrState n ≠ 3 ∨ (64 ≤ n ∧ n < 128)) → s.pwr.up.contains n = true →
    s.wakeWaits n = false → exec (.pwrDomEnd n us) s = .next ((s.pwrWoken n us).pwrTry n)) ∧
  (∀ (s : State) (n us : Nat), ¬ (s.pwrState n ≠ 3 ∨ (64 ≤ n ∧ n < 128)) → s.pwr.up.contains n = true →
    s.wakeWaits n = true → exec (.pwrDomEnd n us) s = .next (
      if s.pwr.stalled.contains n then s
      else (s.updPwr fun p => { p with stalled := n :: p.stalled }).domEvent .CLK_SW_STALL ((pwrDoms n).headD 0))) ∧
  (∀ (s : State) (raw : List Nat), exec (.thermConversion raw) s = .next (
      let t := s.thermConvert raw
      let u := t.updPwr fun p => { p with hot := t.hotSensors }
      if t.thermTrips = true ∧ u.pins.thermTripN = true then
        ((u.setF PWR_THERM_STATUS_TRIPPED 1).restartHeld).updPins fun p => { p with thermTripN := false }
      else u)) ∧
  (∀ (s : State) (raw : List Nat) (t : State),
    t = ((List.range 64).foldl (fun t n => t.setF (PWR_TEMP_TEMP n) (raw.getD n 0)) (s.applyLive PWR_THERM_CFG_WARN_C)).thermShow →
    s.thermConvert raw =
      if t.bit PWR_THERM_STATUS_WARN = true then
        (if (t.validSensors.all fun n => decide (tempKey (t.f (PWR_TEMP_TEMP n)) + 20 < 4 * t.f PWR_THERM_CFG_WARN_C + 2048)) = true
          then t.setF PWR_THERM_STATUS_WARN 0 else t)
      else if (t.validSensors.any fun n => decide (4 * t.f PWR_THERM_CFG_WARN_C + 2048 ≤ tempKey (t.f (PWR_TEMP_TEMP n)))) = true then
        (t.setF PWR_THERM_STATUS_WARN 1).raise .THERM_WARN false 0 noInst
      else t) ∧
  (∀ (s : State) (m : Master) (idx : Nat), s.gate m HUB_LC_CMD = .pass → s.bit HUB_LC_STATUS_BUSY = true →
    exec (.lcAdvance m) s = .next ((s.answer (.ok 0)).busy HUB_LC_STATUS_FIELD_BUSY) ∧
      exec (.lcKeyProg m idx) s = .next ((s.answer (.ok 0)).busy HUB_LC_STATUS_FIELD_BUSY) ∧
      exec (.lcRevoke m idx) s = .next ((s.answer (.ok 0)).busy HUB_LC_STATUS_FIELD_BUSY) ∧
      exec (.lcReturn m) s = .next ((s.answer (.ok 0)).busy HUB_LC_STATUS_FIELD_BUSY) ∧
      exec (.lcScrap m) s = .next ((s.answer (.ok 0)).busy HUB_LC_STATUS_FIELD_BUSY)) ∧
  (∀ (s : State) (m : Master), s.gate m HUB_LC_CMD = .pass → s.bit HUB_LC_STATUS_BUSY = false →
    (s.answer (.ok 0)).lcCheck 1 0 ≠ 0 →
    exec (.lcAdvance m) s = .next ((s.answer (.ok 0)).lcEnd 1 ((s.answer (.ok 0)).lcCheck 1 0))) ∧
  (∀ (s : State) (m : Master), s.gate m HUB_LC_CMD = .pass → s.bit HUB_LC_STATUS_BUSY = false →
    (s.answer (.ok 0)).lcCheck 1 0 = 0 →
    exec (.lcAdvance m) s = .next ({ (s.answer (.ok 0)).setFs [(HUB_LC_STATUS_BUSY, 1), (HUB_LC_STATUS_ERR, 0)] with life := ⟨1, 0⟩ })) ∧
  (∀ (s : State) (m : Master) (idx : Nat), s.gate m HUB_LC_CMD = .pass → s.bit HUB_LC_STATUS_BUSY = false →
    (s.answer (.ok 0)).lcCheck 2 idx ≠ 0 →
    exec (.lcKeyProg m idx) s = .next ((s.answer (.ok 0)).lcEnd 2 ((s.answer (.ok 0)).lcCheck 2 idx))) ∧
  (∀ (s : State) (m : Master) (idx : Nat), s.gate m HUB_LC_CMD = .pass → s.bit HUB_LC_STATUS_BUSY = false →
    (s.answer (.ok 0)).lcCheck 2 idx = 0 →
    exec (.lcKeyProg m idx) s = .next ({ (s.answer (.ok 0)).setFs [(HUB_LC_STATUS_BUSY, 1), (HUB_LC_STATUS_ERR, 0)] with life := ⟨2, idx⟩ })) ∧
  (∀ (s : State) (m : Master) (idx : Nat), s.gate m HUB_LC_CMD = .pass → s.bit HUB_LC_STATUS_BUSY = false →
    (s.answer (.ok 0)).lcCheck 3 idx ≠ 0 →
    exec (.lcRevoke m idx) s = .next ((s.answer (.ok 0)).lcEnd 3 ((s.answer (.ok 0)).lcCheck 3 idx))) ∧
  (∀ (s : State) (m : Master) (idx : Nat), s.gate m HUB_LC_CMD = .pass → s.bit HUB_LC_STATUS_BUSY = false →
    (s.answer (.ok 0)).lcCheck 3 idx = 0 →
    exec (.lcRevoke m idx) s = .next ({ (s.answer (.ok 0)).setFs [(HUB_LC_STATUS_BUSY, 1), (HUB_LC_STATUS_ERR, 0)] with life := ⟨3, idx⟩ })) ∧
  (∀ (s : State) (m : Master), s.gate m HUB_LC_CMD = .pass → s.bit HUB_LC_STATUS_BUSY = false →
    exec (.lcReturn m) s = .next (
      if (s.answer (.ok 0)).lcCheck 4 0 ≠ 0 then (s.answer (.ok 0)).lcEnd 4 ((s.answer (.ok 0)).lcCheck 4 0)
      else { (s.answer (.ok 0)).setFs [(HUB_LC_STATUS_BUSY, 1), (HUB_LC_STATUS_ERR, 0)] with life := ⟨4, 0⟩ })) ∧
  (∀ (s : State) (m : Master), s.gate m HUB_LC_CMD = .pass → s.bit HUB_LC_STATUS_BUSY = false →
    (s.answer (.ok 0)).lcCheck 5 0 ≠ 0 →
    exec (.lcScrap m) s = .next ((s.answer (.ok 0)).lcEnd 5 ((s.answer (.ok 0)).lcCheck 5 0))) ∧
  (∀ (s : State) (m : Master), s.gate m HUB_LC_CMD = .pass → s.bit HUB_LC_STATUS_BUSY = false →
    (s.answer (.ok 0)).lcCheck 5 0 = 0 →
    exec (.lcScrap m) s = .next ({ (s.answer (.ok 0)).setFs [(HUB_LC_STATUS_BUSY, 1), (HUB_LC_STATUS_ERR, 0)] with life := ⟨5, 0⟩ })) ∧
  (∀ (s : State) (failed : Nat), s.life.cmd = 0 → exec (.lcCmdEnd failed) s = .next (s)) ∧
  (∀ (s : State) (failed : Nat), s.life.cmd ≠ 0 → exec (.lcCmdEnd failed) s = .next (
      let t := if failed = 1 then s
        else (s.lcFirst s.life.cmd s.life.idx).lcBlow s.life.cmd (if failed = 0 then 15 else failed - 2)
      t.lcEnd s.life.cmd (if failed = 0 then 0 else 6))) ∧
  (∀ (s : State) (cmd err : Nat), s.lcEnd cmd err =
      let t := s.setFs [(HUB_LC_STATUS_BUSY, 0), (HUB_LC_STATUS_DONE, 1), (HUB_LC_STATUS_ERR, err)]
      let u := { (List.range 48).foldl (fun t j => t.setF (HUB_LC_BUF_WORD j) 0) t with life := ⟨0, 0⟩ }
      if cmd = 4 ∨ cmd = 5 then u.drawNonce HUB_LC_NONCE_LO_NONCE HUB_LC_NONCE_HI_NONCE else u)

/-- The hub and the host interface (R394 to R405). -/
def Obligations.HubCommands : Prop :=
  (∀ (s : State) (m : Master) (v : Nat), s.gate m FEAT_COMMIT = .pass → s.committed = true →
    exec (.featCommit m v) s = .next ((s.answer (.ok 0)).dropWrite m .bootLocked FEAT_COMMIT)) ∧
  (∀ (s : State) (m : Master) (v : Nat), s.gate m FEAT_COMMIT = .pass → s.committed = false →
    exec (.featCommit m v) s = .next (if v % 2 = 1 then (s.answer (.ok 0)).setF HUB_STATUS_COMMITTED 1 else (s.answer (.ok 0)))) ∧
  (∀ (s : State) (m : Master) (v : Nat) (late : Bool), s.sharedGate m = .pass →
    ((if late then s.logDrop m .order HUB_ATTN else s).answer (.ok 0)).ev.attn.length < 16 →
    exec (.hubAttn m v late) s = .next ({ ((if late then s.logDrop m .order HUB_ATTN else s).answer (.ok 0)) with ev := { ((if late then s.logDrop m .order HUB_ATTN else s).answer (.ok 0)).ev with attn := ((if late then s.logDrop m .order HUB_ATTN else s).answer (.ok 0)).ev.attn ++ [(m.num, v % 2 ^ 32)] } })) ∧
  (∀ (s : State) (m : Master) (v : Nat) (late : Bool), s.sharedGate m = .pass →
    ¬ ((if late then s.logDrop m .order HUB_ATTN else s).answer (.ok 0)).ev.attn.length < 16 →
    exec (.hubAttn m v late) s = .next (((if late then s.logDrop m .order HUB_ATTN else s).answer (.ok 0)).dropWrite m .full HUB_ATTN)) ∧
  (∀ (s : State) (m : Master), s.sharedGate m ≠ .pass →
    (∀ v late, exec (.hubAttn m v late) s = .next (s.refuse m HUB_ATTN (s.sharedGate m))) ∧
      ∀ fn v late, exec (.mbxH2fDb m fn v late) s = .next (s.refuse m (MBX_H2F_DB fn) (s.sharedGate m))) ∧
  (∀ (s : State) (peek : Bool),
    exec (.hubAttnPop peek) s = .next ((if peek then s else { s with ev := { s.ev with attn := s.ev.attn.drop 1 } }).answer
        (.ok (match s.ev.attn.head? with | some e => e.2 | none => 0))) ∧
      exec (.droplogRead peek) s = .next ((if peek then s else { s with drop := ⟨s.drop.entries.drop 1, false⟩ }).answer
        (.ok (match s.drop.entries.head? with
          | some e => 2 ^ 31 + b2n s.drop.lost * 2 ^ 30 + e.master * 2 ^ 27 + e.cause.code * 2 ^ 23 + e.addr / 2 ^ 32 % 256 * 256
          | none => b2n s.drop.lost * 2 ^ 30))) ∧
      exec (.evqPop peek) s = .next ((if peek then s else { s with ev := { s.ev with fw := s.ev.fw.drop 1 } }).answer
        (.ok (match s.ev.fw.head? with | some r => r.word 3 | none => 0)))) ∧
  (∀ (s : State) (m : Master) (fn v : Nat) (late : Bool) (t : State), s.sharedGate m = .pass →
    t = ((if late then s.logDrop m .order (MBX_H2F_DB fn) else s).answer (.ok 0)) →
    (v % 65536 + 65536 - t.f (MBX_H2F_CI_CI fn)) % 65536 < (t.f (MBX_H2F_DB_PI fn) + 65536 - t.f (MBX_H2F_CI_CI fn)) % 65536 ∨
        64 < (v % 65536 + 65536 - t.f (MBX_H2F_CI_CI fn)) % 65536 →
    exec (.mbxH2fDb m fn v late) s = .next (t.setF (MBX_STATUS_DB_ERR fn) 1)) ∧
  (∀ (s : State) (m : Master) (fn v : Nat) (late : Bool) (t : State), s.sharedGate m = .pass →
    t = ((if late then s.logDrop m .order (MBX_H2F_DB fn) else s).answer (.ok 0)) →
    ¬ ((v % 65536 + 65536 - t.f (MBX_H2F_CI_CI fn)) % 65536 < (t.f (MBX_H2F_DB_PI fn) + 65536 - t.f (MBX_H2F_CI_CI fn)) % 65536 ∨
        64 < (v % 65536 + 65536 - t.f (MBX_H2F_CI_CI fn)) % 65536) →
    exec (.mbxH2fDb m fn v late) s = .next ({ t.setF (MBX_H2F_DB_PI fn) v with out := (t.setF (MBX_H2F_DB_PI fn) v).out ++ [.coreIrq fn] })) ∧
  (∀ (s : State) (m : Master) (fn v : Nat), s.gate m (MBX_F2H_PI fn) = .pass → exec (.mbxF2hPiWrite m fn v) s = .next (
      let old := nget s.ev.f2hPi fn
      let t := { (s.answer (.ok 0)) with ev := { s.ev with f2hPi := nput s.ev.f2hPi fn (v % 65536) } }
      let t := if t.funcFenced fn then t.holdFx ⟨3, t.funcEp fn, fn, t.funcLease fn, 0x0C, v % 65536, t.openEpoch, [], none⟩
        else t.setF (MBX_F2H_PI_PI fn) (v % 65536)
      if v % 65536 ≠ old ∧ t.f (MBX_F2H_CI_CI fn) = old then t.msix fn 0 else t)) ∧
  (∀ (s : State) (m : Master) (fn vec : Nat), s.gate m HUB_MSIX_RAISE = .pass →
    exec (.hubMsixRaise m fn vec) s = .next (if 2 ≤ vec ∧ ((fn = 0 ∧ vec < 64) ∨ (1 ≤ fn ∧ fn ≤ 64 ∧ vec < 8)) then (s.answer (.ok 0)).msix fn vec else (s.answer (.ok 0)))) ∧
  (∀ (s : State) (fn v : Nat), s.funcFenced fn = true →
    s.msix fn v = s.holdFx ⟨2, s.funcEp fn, fn, s.funcLease fn, s.f (MBX_MSIX_WORD fn (4 * v)) + s.f (MBX_MSIX_WORD fn (4 * v + 1)) * 2 ^ 32,
      s.f (MBX_MSIX_WORD fn (4 * v + 2)), s.openEpoch, [], none⟩) ∧
  (∀ (s : State) (fn v : Nat), s.funcFenced fn = false → s.msixMasked fn v = true → s.msix fn v = s.setPba fn v true) ∧
  (∀ (s : State) (fn v : Nat), s.funcFenced fn = false → s.msixMasked fn v = false →
    s.msix fn v = { s with out := s.out ++ [.msix fn v] }) ∧
  (∀ (s : State) (fn v : Nat), exec (.msixUnmask fn v) s = .next (
      let t := if s.f (MBX_MSIX_WORD fn (4 * v + 3)) % 2 = 1 then
          s.setF (MBX_MSIX_WORD fn (4 * v + 3)) (s.f (MBX_MSIX_WORD fn (4 * v + 3)) - 1) else s
      if (t.pba fn v && !t.msixMasked fn v) = true then (t.setPba fn v false).msix fn v else t)) ∧
  (∀ (s : State) (t : State), s.recReady = true → s.h2fWord (s.f (MBX_H2F_CI_CI 0)) 0 % 65536 = 0x8001 →
    t = (s.setF (MBX_H2F_CI_CI 0) ((s.f (MBX_H2F_CI_CI 0)) + 1)) →
    exec (.ping) s = .next ((t).f2hPut 0x8001 1 (s.h2fWord (s.f (MBX_H2F_CI_CI 0)) 1) (leBytes 4 (t.f HUB_ID_ID) ++ leBytes 4 t.lcStateWord))) ∧
  (∀ (s : State) (t : State), s.recReady = true → s.h2fWord (s.f (MBX_H2F_CI_CI 0)) 0 % 65536 = 0x8002 →
    t = (s.setF (MBX_H2F_CI_CI 0) ((s.f (MBX_H2F_CI_CI 0)) + 1)) →
    exec (.recoveryStatus) s = .next ((t).f2hPut 0x8002 1 (s.h2fWord (s.f (MBX_H2F_CI_CI 0)) 1) (leBytes 4 t.bootStatusWord ++ leBytes 4 t.supplyWord ++ leBytes 4 (t.f HUB_ADMIT_RESULT)))) ∧
  (∀ (s : State) (failed : Bool) (t : State), s.recReady = true →
    s.h2fWord (s.f (MBX_H2F_CI_CI 0)) 0 % 65536 = 0x8003 →
    t = (s.setF (MBX_H2F_CI_CI 0) ((s.f (MBX_H2F_CI_CI 0)) + 1)) →
    t.recCheck (decide ((s.recArg 0) % 65536 ≠ 0 ∨ (s.recArg 1) % 65536 ≠ 0 ∨ 2 ^ 32 < (s.recArg 0) + (s.recArg 1))) ≠ 0 →
    exec (.flashErase failed) s = .next ((t).f2hPut 0x8003 1 (s.h2fWord (s.f (MBX_H2F_CI_CI 0)) 1) (leBytes 1 (t.recCheck (decide ((s.recArg 0) % 65536 ≠ 0 ∨ (s.recArg 1) % 65536 ≠ 0 ∨ 2 ^ 32 < (s.recArg 0) + (s.recArg 1))))))) ∧
  (∀ (s : State) (t : State), s.recReady = true → s.h2fWord (s.f (MBX_H2F_CI_CI 0)) 0 % 65536 = 0x8003 →
    t = (s.setF (MBX_H2F_CI_CI 0) ((s.f (MBX_H2F_CI_CI 0)) + 1)) →
    t.recCheck (decide ((s.recArg 0) % 65536 ≠ 0 ∨ (s.recArg 1) % 65536 ≠ 0 ∨ 2 ^ 32 < (s.recArg 0) + (s.recArg 1))) = 0 →
    exec (.flashErase true) s = .next ((t.flashFree (s.recArg 0) (s.recArg 1)).f2hPut 0x8003 1 (s.h2fWord (s.f (MBX_H2F_CI_CI 0)) 1) (leBytes 1 3))) ∧
  (∀ (s : State) (t : State), s.recReady = true → s.h2fWord (s.f (MBX_H2F_CI_CI 0)) 0 % 65536 = 0x8003 →
    t = (s.setF (MBX_H2F_CI_CI 0) ((s.f (MBX_H2F_CI_CI 0)) + 1)) →
    t.recCheck (decide ((s.recArg 0) % 65536 ≠ 0 ∨ (s.recArg 1) % 65536 ≠ 0 ∨ 2 ^ 32 < (s.recArg 0) + (s.recArg 1))) = 0 →
    exec (.flashErase false) s = .next ((t.flashErase (s.recArg 0) (s.recArg 1)).f2hPut 0x8003 1 (s.h2fWord (s.f (MBX_H2F_CI_CI 0)) 1) (leBytes 1 0))) ∧
  (∀ (s : State) (failed : Bool) (t : State), s.recReady = true →
    s.h2fWord (s.f (MBX_H2F_CI_CI 0)) 0 % 65536 = 0x8004 →
    t = (s.setF (MBX_H2F_CI_CI 0) ((s.f (MBX_H2F_CI_CI 0)) + 1)) →
    t.recCheck (decide (2 ^ 32 < (s.recArg 0) + (s.recArg 3) ∨ hbmEnd < (s.recArg 1 + s.recArg 2 * 2 ^ 32) + (s.recArg 3))) ≠ 0 →
    exec (.flashProgram failed) s = .next ((t).f2hPut 0x8004 1 (s.h2fWord (s.f (MBX_H2F_CI_CI 0)) 1) (leBytes 1 (t.recCheck (decide (2 ^ 32 < (s.recArg 0) + (s.recArg 3) ∨ hbmEnd < (s.recArg 1 + s.recArg 2 * 2 ^ 32) + (s.recArg 3))))))) ∧
  (∀ (s : State) (t : State), s.recReady = true → s.h2fWord (s.f (MBX_H2F_CI_CI 0)) 0 % 65536 = 0x8004 →
    t = (s.setF (MBX_H2F_CI_CI 0) ((s.f (MBX_H2F_CI_CI 0)) + 1)) →
    t.recCheck (decide (2 ^ 32 < (s.recArg 0) + (s.recArg 3) ∨ hbmEnd < (s.recArg 1 + s.recArg 2 * 2 ^ 32) + (s.recArg 3))) = 0 →
    exec (.flashProgram true) s = .next ((t.flashFree (s.recArg 0) (s.recArg 3)).f2hPut 0x8004 1 (s.h2fWord (s.f (MBX_H2F_CI_CI 0)) 1) (leBytes 1 3))) ∧
  (∀ (s : State) (t u : State) (st : Nat) (d : List Byte), s.recReady = true →
    s.h2fWord (s.f (MBX_H2F_CI_CI 0)) 0 % 65536 = 0x8004 →
    t = (s.setF (MBX_H2F_CI_CI 0) ((s.f (MBX_H2F_CI_CI 0)) + 1)) →
    t.recCheck (decide (2 ^ 32 < (s.recArg 0) + (s.recArg 3) ∨ hbmEnd < (s.recArg 1 + s.recArg 2 * 2 ^ 32) + (s.recArg 3))) = 0 →
    t.hubRead (s.recArg 1 + s.recArg 2 * 2 ^ 32) (s.recArg 3) = (u, st, d) →
    exec (.flashProgram false) s = .next (if st = stOk then (u.flashProg (s.recArg 0) d).f2hPut 0x8004 1 (s.h2fWord (s.f (MBX_H2F_CI_CI 0)) 1) (leBytes 1 0) else u.f2hPut 0x8004 1 (s.h2fWord (s.f (MBX_H2F_CI_CI 0)) 1) (leBytes 1 3))) ∧
  (∀ (s : State) (t : State), s.recReady = true → s.h2fWord (s.f (MBX_H2F_CI_CI 0)) 0 % 65536 = 0x8005 →
    t = (s.setF (MBX_H2F_CI_CI 0) ((s.f (MBX_H2F_CI_CI 0)) + 1)) →
    exec (.flashCrc) s = .next ((t).f2hPut 0x8005 1 (s.h2fWord (s.f (MBX_H2F_CI_CI 0)) 1) (leBytes 4 (Crypto.crc32 (Crypto.nums (t.flashBytes (s.recArg 0) (s.recArg 1))))))) ∧
  (∀ (s : State) (failed : Bool), s.recReady = false →
    exec .ping s = .next s ∧ exec .recoveryStatus s = .next s ∧ exec (.flashErase failed) s = .next s ∧
      exec (.flashProgram failed) s = .next s ∧ exec .flashCrc s = .next s)

/-- Host DMA, SMBus and the boot flash (R406 to R409). -/
def Obligations.HostDmaSmbusAndFlashCommands : Prop :=
  (∀ (s : State) (m : Master) (c lease win dir : Nat), s.gate m (HUB_HDMA_CTRL c) = .pass →
    s.bit (HUB_HDMA_STATUS_BUSY c) = true →
    exec (.hdmaGo m c lease win dir) s = .next ((s.answer (.ok 0)).busy (HUB_HDMA_STATUS_FIELD_BUSY c))) ∧
  (∀ (s : State) (m : Master) (c lease win dir : Nat) (t : State), s.gate m (HUB_HDMA_CTRL c) = .pass →
    s.bit (HUB_HDMA_STATUS_BUSY c) = false →
    t = ((s.answer (.ok 0)).setFs [(HUB_HDMA_CTRL_LEASE c, lease), (HUB_HDMA_CTRL_WIN c, win), (HUB_HDMA_CTRL_DIR c, dir),
        (HUB_HDMA_STATUS_RSTATUS c, 0)]) →
    t.f (HDMA_LEN_LEN c) = 0 ∨ t.f (HDMA_LEN_LEN c) % 4 ≠ 0 ∨ hbmEnd < t.hdmaHbm c + t.f (HDMA_LEN_LEN c) →
    exec (.hdmaGo m c lease win dir) s = .next (t.setFs [(HUB_HDMA_STATUS_ERR c, 1), (HUB_HDMA_STATUS_DONE c, 1)])) ∧
  (∀ (s : State) (m : Master) (c lease win dir : Nat) (t : State), s.gate m (HUB_HDMA_CTRL c) = .pass →
    s.bit (HUB_HDMA_STATUS_BUSY c) = false →
    t = ((s.answer (.ok 0)).setFs [(HUB_HDMA_CTRL_LEASE c, lease), (HUB_HDMA_CTRL_WIN c, win), (HUB_HDMA_CTRL_DIR c, dir),
        (HUB_HDMA_STATUS_RSTATUS c, 0)]) →
    ¬ (t.f (HDMA_LEN_LEN c) = 0 ∨ t.f (HDMA_LEN_LEN c) % 4 ≠ 0 ∨ hbmEnd < t.hdmaHbm c + t.f (HDMA_LEN_LEN c)) →
    exec (.hdmaGo m c lease win dir) s = .next (((t.setFs [(HUB_HDMA_STATUS_ERR c, 0), (HUB_HDMA_STATUS_BUSY c, 1)]).setHdma c Hdma.empty).hdmaNext c)) ∧
  (∀ (s : State) (m : Master) (c : Nat), s.gate m (HUB_HDMA_CTRL c) = .pass → s.bit (HUB_HDMA_STATUS_BUSY c) = true →
    exec (.hdmaAbort m c) s = .next ((s.answer (.ok 0)).setHdma c { s.hdmaAt c with stop := true })) ∧
  (∀ (s : State) (m : Master) (c : Nat), s.gate m (HUB_HDMA_CTRL c) = .pass → s.bit (HUB_HDMA_STATUS_BUSY c) = false →
    exec (.hdmaAbort m c) s = .next ((s.answer (.ok 0)))) ∧
  (∀ (s : State) (c : Nat),
    s.bit (HUB_HDMA_STATUS_BUSY c) = true ∧ (s.hdmaAt c).step = 0 ∧ ((s.hdmaAt c).stop = true ∨ s.f (HDMA_LEN_LEN c) ≤ (s.hdmaAt c).off) →
    exec (.hdmaEnd c) s = .next (
      let t := if (s.hdmaAt c).stop then s.setF (HUB_HDMA_STATUS_ERR c) 3 else s
      (t.setFs [(HUB_HDMA_STATUS_BUSY c, 0), (HUB_HDMA_STATUS_DONE c, 1)]).setHdma c Hdma.empty)) ∧
  (∀ (s : State) (c : Nat),
    ¬ (s.bit (HUB_HDMA_STATUS_BUSY c) = true ∧ (s.hdmaAt c).step = 0 ∧ ((s.hdmaAt c).stop = true ∨ s.f (HDMA_LEN_LEN c) ≤ (s.hdmaAt c).off)) →
    exec (.hdmaEnd c) s = .next (s)) ∧
  (∀ (s : State) (a : Nat), s.smbFull = false → smbHeldReg a = false →
    exec (.smbProcessRead a) s = .next (s.answer (.bytes (leBytes 4 0 ++ [2])))) ∧
  (∀ (s : State) (a : Nat), s.smbFull = true ∨ smbHeldReg a = true → exec (.smbProcessRead a) s = .next (
      let t := s.mgmtRead .board a 4 false
      t.answer (.bytes (match t.resp with | .ok v => leBytes 4 v ++ [0] | _ => leBytes 4 0 ++ [1])))) ∧
  (∀ (s : State) (a v : Nat) (pecOk : Bool), s.feature 35 = true → pecOk = false →
    exec (.smbBlockWrite a v pecOk) s = .next (s)) ∧
  (∀ (s : State) (a v : Nat) (pecOk : Bool), ¬ (s.feature 35 = true ∧ pecOk = false) → s.smbFull = false →
    exec (.smbBlockWrite a v pecOk) s = .next ({ s with smb := 2 })) ∧
  (∀ (s : State) (a v : Nat) (pecOk : Bool), ¬ (s.feature 35 = true ∧ pecOk = false) → s.smbFull = true →
    exec (.smbBlockWrite a v pecOk) s = .next (
      let shared := decide (a = HUB_ATTN) || (match decodeReg a with | some (k, _) => decide (k.id = .MBX_H2F_DB) | none => false)
      let g := if shared ∨ isHbm a ∨ (decodeReg a).isNone then Gate.pass else s.gate .board a
      let t := s.mgmtWrite .board a v 4 0
      { t with smb := smbStatus g t.resp })) ∧
  (∀ (s : State), s.ev.board = [] → exec (.smbEventRead) s = .next (s.answer (.bytes []))) ∧
  (∀ (s : State) (r : EvRec) (t : List EvRec), s.ev.board = r :: t →
    exec (.smbEventRead) s = .next ({ s with ev := { s.ev with board := t } }.answer (.bytes r.toBytes))) ∧
  (∀ (s : State), exec .smbStatusRead s = .next (s.answer (.bytes s.smbStatusBytes)) ∧ exec .smbTimeout s = .next s ∧
      exec .smbAra s = .next (if s.ev.board.isEmpty then s else { s with out := s.out ++ [.alertAddress (s.f HUB_XP_SMB_ADDR)] })) ∧
  (∀ (s : State) (m : Master) (cnt : Nat), s.gate m HUB_BSPI_CMD = .pass → s.bit HUB_BSPI_STATUS_BUSY = true →
    exec (.bspiRead m cnt) s = .next ((s.answer (.ok 0)).busy HUB_BSPI_STATUS_FIELD_BUSY) ∧
      exec (.bspiProgram m cnt) s = .next ((s.answer (.ok 0)).busy HUB_BSPI_STATUS_FIELD_BUSY) ∧
      exec (.bspiErase4k m) s = .next ((s.answer (.ok 0)).busy HUB_BSPI_STATUS_FIELD_BUSY)) ∧
  (∀ (s : State) (m : Master) (cnt : Nat), s.gate m HUB_BSPI_CMD = .pass → s.bit HUB_BSPI_STATUS_BUSY = false →
    s.pins.cfgDone = false → exec (.bspiRead m cnt) s = .next ((s.answer (.ok 0)).bspiDone 2) ∧
      exec (.bspiProgram m cnt) s = .next ((s.answer (.ok 0)).bspiDone 2) ∧
      exec (.bspiErase4k m) s = .next ((s.answer (.ok 0)).bspiDone 2)) ∧
  (∀ (s : State) (m : Master) (cnt : Nat), s.gate m HUB_BSPI_CMD = .pass → s.bit HUB_BSPI_STATUS_BUSY = false →
    s.pins.cfgDone = true →
    exec (.bspiRead m cnt) s = .next ({ (s.answer (.ok 0)) with bspi := some (1, cnt) }.setFs [(HUB_BSPI_STATUS_ERR, 0), (HUB_BSPI_STATUS_BUSY, 1)])) ∧
  (∀ (s : State) (m : Master) (cnt : Nat), s.gate m HUB_BSPI_CMD = .pass → s.bit HUB_BSPI_STATUS_BUSY = false →
    s.pins.cfgDone = true → s.bit HUB_SUPPLY_NV_OK = false →
    exec (.bspiProgram m cnt) s = .next ((s.answer (.ok 0)).bspiDone 1) ∧
      exec (.bspiErase4k m) s = .next ((s.answer (.ok 0)).bspiDone 1)) ∧
  (∀ (s : State) (m : Master) (cnt : Nat), s.gate m HUB_BSPI_CMD = .pass → s.bit HUB_BSPI_STATUS_BUSY = false →
    s.pins.cfgDone = true → s.bit HUB_SUPPLY_NV_OK = true → exec (.bspiProgram m cnt) s = .next (
      if 256 < s.f HUB_BSPI_ADDR_ADDR % 256 + cnt + 1 then (s.answer (.ok 0)).bspiDone 4
      else { (s.answer (.ok 0)) with bspi := some (2, cnt) }.setFs [(HUB_BSPI_STATUS_ERR, 0), (HUB_BSPI_STATUS_BUSY, 1)])) ∧
  (∀ (s : State) (m : Master), s.gate m HUB_BSPI_CMD = .pass → s.bit HUB_BSPI_STATUS_BUSY = false →
    s.pins.cfgDone = true → s.bit HUB_SUPPLY_NV_OK = true →
    exec (.bspiErase4k m) s = .next ({ (s.answer (.ok 0)) with bspi := some (3, 0) }.setFs [(HUB_BSPI_STATUS_ERR, 0), (HUB_BSPI_STATUS_BUSY, 1)])) ∧
  (∀ (s : State) (failed : Bool), s.bspi = none → exec (.bspiCmdEnd failed) s = .next (s)) ∧
  (∀ (s : State) (cnt : Nat), s.bspi = some (1, cnt) → exec (.bspiCmdEnd false) s = .next (
      let t := s.setBspiBuf (s.flashBytes (s.f HUB_BSPI_ADDR_ADDR) (cnt + 1))
      { t with bspi := none }.setFs [(HUB_BSPI_STATUS_ERR, 0), (HUB_BSPI_STATUS_BUSY, 0), (HUB_BSPI_STATUS_DONE, 1)])) ∧
  (∀ (s : State) (cnt : Nat), s.bspi = some (1, cnt) → exec (.bspiCmdEnd true) s = .next (
      let t := s
      { t with bspi := none }.setFs [(HUB_BSPI_STATUS_ERR, 3), (HUB_BSPI_STATUS_BUSY, 0), (HUB_BSPI_STATUS_DONE, 1)])) ∧
  (∀ (s : State) (cnt : Nat), s.bspi = some (2, cnt) → exec (.bspiCmdEnd false) s = .next (
      let t := s.flashProg (s.f HUB_BSPI_ADDR_ADDR) (s.bspiBuf.take (cnt + 1))
      { t with bspi := none }.setFs [(HUB_BSPI_STATUS_ERR, 0), (HUB_BSPI_STATUS_BUSY, 0), (HUB_BSPI_STATUS_DONE, 1)])) ∧
  (∀ (s : State) (cnt : Nat), s.bspi = some (2, cnt) → exec (.bspiCmdEnd true) s = .next (
      let t := s.flashFree (s.f HUB_BSPI_ADDR_ADDR) (cnt + 1)
      { t with bspi := none }.setFs [(HUB_BSPI_STATUS_ERR, 3), (HUB_BSPI_STATUS_BUSY, 0), (HUB_BSPI_STATUS_DONE, 1)])) ∧
  (∀ (s : State) (cnt : Nat), s.bspi = some (3, cnt) → exec (.bspiCmdEnd false) s = .next (
      let t := s.flashErase ((s.f HUB_BSPI_ADDR_ADDR) / 4096 * 4096) 4096
      { t with bspi := none }.setFs [(HUB_BSPI_STATUS_ERR, 0), (HUB_BSPI_STATUS_BUSY, 0), (HUB_BSPI_STATUS_DONE, 1)])) ∧
  (∀ (s : State) (cnt : Nat), s.bspi = some (3, cnt) → exec (.bspiCmdEnd true) s = .next (
      let t := s.flashFree ((s.f HUB_BSPI_ADDR_ADDR) / 4096 * 4096) 4096
      { t with bspi := none }.setFs [(HUB_BSPI_STATUS_ERR, 3), (HUB_BSPI_STATUS_BUSY, 0), (HUB_BSPI_STATUS_DONE, 1)]))

/-- Pins and the lock sequence (R417, R418, R421, R422). -/
def Obligations.PinSwitchAndLockCommands : Prop :=
  (∀ (s : State) (n : Nat), nget s.gpio.phase n = 1 ∨ nget s.gpio.phase n = 3 →
    exec (.gpioSwitchPark n) s = .next ((s.updGpio fun g => { g with phase := nput g.phase n 2 }).padNote)) ∧
  (∀ (s : State) (n : Nat), ¬ (nget s.gpio.phase n = 1 ∨ nget s.gpio.phase n = 3) →
    exec (.gpioSwitchPark n) s = .next (s)) ∧
  (∀ (s : State) (n : Nat) (lev ext : List (Nat × Nat)) (t : State),
    t = (let u := s.updGpio fun g => { g with lev := lev.foldl (fun m x => nput m x.1 x.2) g.lev, ext := ext.foldl (fun m x => nput m x.1 x.2) g.ext }
      u.shareAll ((lev.map Prod.fst).filterMap u.srcNow)) → nget t.gpio.phase n = 2 →
    exec (.gpioSwitchConnect n lev ext) s = .next (((State.sleepPins t ((t.mapApply n).updGpio fun g => { g with phase := nput g.phase n 0 }) [n]).shareCheck n).padNote)) ∧
  (∀ (s : State) (n : Nat) (lev ext : List (Nat × Nat)) (t : State),
    t = (let u := s.updGpio fun g => { g with lev := lev.foldl (fun m x => nput m x.1 x.2) g.lev, ext := ext.foldl (fun m x => nput m x.1 x.2) g.ext }
      u.shareAll ((lev.map Prod.fst).filterMap u.srcNow)) → nget t.gpio.phase n = 3 →
    exec (.gpioSwitchConnect n lev ext) s = .next ((t.updGpio fun g => { g with phase := nput g.phase n 2 }).padNote)) ∧
  (∀ (s : State) (n : Nat) (lev ext : List (Nat × Nat)) (t : State),
    t = (let u := s.updGpio fun g => { g with lev := lev.foldl (fun m x => nput m x.1 x.2) g.lev, ext := ext.foldl (fun m x => nput m x.1 x.2) g.ext }
      u.shareAll ((lev.map Prod.fst).filterMap u.srcNow)) → nget t.gpio.phase n ≠ 2 → nget t.gpio.phase n ≠ 3 →
    exec (.gpioSwitchConnect n lev ext) s = .next (t.padNote)) ∧
  (∀ (s : State) (m : Master) (w core : Nat), s.gate m GPIO_LOCK = .pass → s.f GPIO_LOCK_STATUS_STEP ≠ 0 →
    exec (.gpioLockArm m w core) s = .next ((((s.answer (.ok 0)).setFs [(GPIO_LOCK_STATUS_STEP, 0), (GPIO_LOCK_STATUS_ABORTED, 1)]).raise .GPIO_LOCK_ABORT false 0 noInst).lockLeave)) ∧
  (∀ (s : State) (m : Master) (w core : Nat), s.gate m GPIO_LOCK = .pass → s.f GPIO_LOCK_STATUS_STEP = 0 → w < 3 →
    exec (.gpioLockArm m w core) s = .next (
      let t := ((s.answer (.ok 0)).setF GPIO_LOCK_STATUS_STEP 1).updGpio fun g => { g with word := w, mask := 0 }
      if m = .firmware then { t with dbg := { t.dbg with locked := nput t.dbg.locked core 2 } } else t)) ∧
  (∀ (s : State) (m : Master) (w core : Nat), s.gate m GPIO_LOCK = .pass → s.f GPIO_LOCK_STATUS_STEP = 0 → 3 ≤ w →
    exec (.gpioLockArm m w core) s = .next ((s.answer (.ok 0)))) ∧
  (∀ (s : State) (m : Master) (mask : Nat), s.gate m GPIO_LOCK_MASK = .pass → s.f GPIO_LOCK_STATUS_STEP = 1 →
    exec (.gpioLockMaskWrite m mask) s = .next (((s.answer (.ok 0)).setF GPIO_LOCK_STATUS_STEP 2).updGpio fun g => { g with mask := mask % 2 ^ 32 })) ∧
  (∀ (s : State) (m : Master) (mask : Nat), s.gate m GPIO_LOCK_MASK = .pass → s.f GPIO_LOCK_STATUS_STEP = 2 →
    exec (.gpioLockMaskWrite m mask) s = .next ((((s.answer (.ok 0)).setFs [(GPIO_LOCK_STATUS_STEP, 0), (GPIO_LOCK_STATUS_ABORTED, 1)]).raise .GPIO_LOCK_ABORT false 0 noInst).lockLeave)) ∧
  (∀ (s : State) (m : Master) (mask : Nat), s.gate m GPIO_LOCK_MASK = .pass → s.f GPIO_LOCK_STATUS_STEP = 0 →
    exec (.gpioLockMaskWrite m mask) s = .next ((s.answer (.ok 0)))) ∧
  (∀ (s : State) (m : Master) (w : Nat), s.gate m GPIO_LOCK = .pass → s.f GPIO_LOCK_STATUS_STEP = 2 →
    s.gpio.word = w →
    exec (.gpioLockCommit m w) s = .next ((((s.answer (.ok 0)).setF GPIO_LOCK_STATUS_STEP 0).setF (GPIO_LOCKED_BITS w) (s.f (GPIO_LOCKED_BITS w) ||| s.gpio.mask)).lockLeave)) ∧
  (∀ (s : State) (m : Master) (w : Nat), s.gate m GPIO_LOCK = .pass →
    ¬ (s.f GPIO_LOCK_STATUS_STEP = 2 ∧ s.gpio.word = w) → s.f GPIO_LOCK_STATUS_STEP ≠ 0 →
    exec (.gpioLockCommit m w) s = .next ((((s.answer (.ok 0)).setFs [(GPIO_LOCK_STATUS_STEP, 0), (GPIO_LOCK_STATUS_ABORTED, 1)]).raise .GPIO_LOCK_ABORT false 0 noInst).lockLeave)) ∧
  (∀ (s : State) (m : Master) (w : Nat), s.gate m GPIO_LOCK = .pass → s.f GPIO_LOCK_STATUS_STEP = 0 →
    exec (.gpioLockCommit m w) s = .next ((s.answer (.ok 0)))) ∧
  (∀ (s : State), s.f GPIO_LOCK_STATUS_STEP ≠ 0 →
    exec (.gpioLockTimeout) s = .next (((s.setFs [(GPIO_LOCK_STATUS_STEP, 0), (GPIO_LOCK_STATUS_ABORTED, 1)]).raise .GPIO_LOCK_ABORT false 0 noInst).lockLeave)) ∧
  (∀ (s : State), s.f GPIO_LOCK_STATUS_STEP = 0 → exec (.gpioLockTimeout) s = .next (s))

/-- The debug port and trace (R426 to R436). -/
def Obligations.DebugPortAndTraceCommands : Prop :=
  (∀ (s : State) (d : List Bool), exec .tapReset s = .next (s.updDbg fun x => { x with ir := 1 }) ∧
      exec .idcode s = .next ((s.updDbg fun x => { x with ir := 1 }).answer (.ok 0x1B8E14B3)) ∧
      exec (.samplePreload d) s = .next ((s.updDbg fun x => { x with ir := 2 }).updDbg fun x => { x with bsr := d }) ∧
      exec .bypass s = .next (s.updDbg fun x => { x with ir := 0xFF })) ∧
  (∀ (s : State) (d : List Bool), 2 ≤ s.f DBG_STATUS_LEVEL →
    exec (.extest d) s = .next ((s.updDbg fun x => { x with ir := 0 }).updDbg fun x => { x with bsr := d })) ∧
  (∀ (s : State) (d : List Bool), s.f DBG_STATUS_LEVEL < 2 →
    exec (.extest d) s = .next (s.updDbg fun x => { x with ir := 0xFF })) ∧
  (∀ (s : State) (op a v : Nat), s.f DBG_STATUS_LEVEL = 0 →
    exec (.dbgAccess op a v) s = .next (s.updDbg fun x => { x with ir := 0xFF })) ∧
  (∀ (s : State) (op a v : Nat) (t : State), 1 ≤ s.f DBG_STATUS_LEVEL →
    t = (s.updDbg fun x => { x with ir := 0x10 }) → op = 0 ∨ 3 ≤ op → exec (.dbgAccess op a v) s = .next (t)) ∧
  (∀ (s : State) (a v : Nat) (t : State), 1 ≤ s.f DBG_STATUS_LEVEL → t = (s.updDbg fun x => { x with ir := 0x10 }) →
    isHbm a = true ∧ s.f DBG_STATUS_LEVEL < 2 → exec (.dbgAccess 1 a v) s = .next (t.accEnd 3 0)) ∧
  (∀ (s : State) (a v : Nat) (t : State), 1 ≤ s.f DBG_STATUS_LEVEL → t = (s.updDbg fun x => { x with ir := 0x10 }) →
    ¬ (isHbm a = true ∧ s.f DBG_STATUS_LEVEL < 2) → exec (.dbgAccess 1 a v) s = .next (
      (t.mgmtRead .debug a 4 true).accEnd (t.mgmtRead .debug a 4 true).resp.dbgStatus
      (match (t.mgmtRead .debug a 4 true).resp with | .ok x => x | _ => 0))) ∧
  (∀ (s : State) (a v : Nat) (t : State), 1 ≤ s.f DBG_STATUS_LEVEL → t = (s.updDbg fun x => { x with ir := 0x10 }) →
    ¬ (isHbm a = true ∧ s.f DBG_STATUS_LEVEL < 2) →
    exec (.dbgAccess 2 a v) s = .next ((t.mgmtWrite .debug a v 4 0).accEnd (t.mgmtWrite .debug a v 4 0).resp.dbgStatus 0)) ∧
  (∀ (s : State) (m : Master), s.gate m DBG_AUTH_CMD = .pass → s.bit DBG_AUTH_STATUS_BUSY = true →
    exec (.dbgAuthGo m) s = .next ((s.answer (.ok 0)))) ∧
  (∀ (s : State) (m : Master), s.gate m DBG_AUTH_CMD = .pass → s.bit DBG_AUTH_STATUS_BUSY = false → s.lcState ≠ 2 →
    exec (.dbgAuthGo m) s = .next ((s.answer (.ok 0)).authEnd 1)) ∧
  (∀ (s : State) (m : Master), s.gate m DBG_AUTH_CMD = .pass → s.bit DBG_AUTH_STATUS_BUSY = false → s.lcState = 2 →
    exec (.dbgAuthGo m) s = .next ((s.answer (.ok 0)).setFs [(DBG_AUTH_STATUS_BUSY, 1), (DBG_AUTH_STATUS_ERR, 0)])) ∧
  (∀ (s : State), s.bit DBG_AUTH_STATUS_BUSY = false → exec (.dbgAuthEnd) s = .next (s)) ∧
  (∀ (s : State), s.bit DBG_AUTH_STATUS_BUSY = true → s.lcState ≠ 2 → exec (.dbgAuthEnd) s = .next (s.authEnd 1)) ∧
  (∀ (s : State) (err : Nat), s.authEnd err =
      let t := s.setFs [(DBG_AUTH_STATUS_ERR, err), (DBG_AUTH_STATUS_DONE, 1), (DBG_AUTH_STATUS_BUSY, 0)]
      let u := if err = 0 then t.setToken true else t.raise .DBG_AUTH_FAIL false 0 noInst
      (List.range 48).foldl (fun t j => t.setF (DBG_AUTH_BUF_WORD j) 0) (u.drawNonce DBG_AUTH_NONCE_LO_NONCE DBG_AUTH_NONCE_HI_NONCE)) ∧
  (∀ (s : State) (ok : Bool), s.bit DBG_AUTH_STATUS_BUSY = true → s.lcState = 2 → s.dbgTokenOk = ok →
    exec (.dbgAuthEnd) s = .next (s.authEnd (if ok then 0 else 2))) ∧
  (∀ (s : State) (m : Master), s.gate m DBG_CTRL = .pass →
    exec (.dbgTokenDrop m) s = .next ((s.answer (.ok 0)).setToken false)) ∧
  (∀ (s : State) (b : Bool),
    s.setToken b = ((s.updDbg fun x => { x with token := b }).setF DBG_STATUS_TOKEN (b2n b)).dbgEval) ∧
  (∀ (s : State) (core g v : Nat), core = g → s.f DBG_STATUS_LEVEL = 0 →
    exec (.dbgStim .firmware core g v) s = .next ((s.answer (.ok 0)))) ∧
  (∀ (s : State) (core g v : Nat), core = g → 1 ≤ s.f DBG_STATUS_LEVEL →
    exec (.dbgStim .firmware core g v) s = .next ((s.stimRecord (2 * 2 ^ 10 + g) (coreNode g) (s.f (stimChan g)) v).answer (.ok 0))) ∧
  (∀ (s : State) (m : Master) (core g v : Nat), (∀ l i, m ≠ .tenant l i) → m ≠ .firmware ∨ core ≠ g →
    exec (.dbgStim m core g v) s = .next (s.dropWrite m .notOwner (DBG_STIM g))) ∧
  (∀ (s : State) (src node chan v : Nat), s.stimRecord src node chan v =
      let t := s.record src 8 ⟨2, src, s.nocTime % 2 ^ 48, chan % 256 * 2 ^ 56 + v % 2 ^ 32⟩
      if 8 ≤ (t.probe src).recs.length ∧ (!t.flying src) = true then t.sendTrace src node else t) ∧
  (∀ (s : State) (r k chan v : Nat),
    s.connected r = false ∨ s.f (DBG_STIM_RGN_BITS (r / 32)) / 2 ^ (r % 32) % 2 = 0 ∨ s.f DBG_STATUS_LEVEL = 0 →
    exec (.napStimSample r k chan v) s = .next (s)) ∧
  (∀ (s : State) (r k chan v : Nat) (t : State),
    ¬ (s.connected r = false ∨ s.f (DBG_STIM_RGN_BITS (r / 32)) / 2 ^ (r % 32) % 2 = 0 ∨ s.f DBG_STATUS_LEVEL = 0) →
    t = s.stimRecord (3 * 2 ^ 10 + napNode r k) (napNode r k) chan v →
    exec (.napStimSample r k chan v) s = .next (if (s.probe (3 * 2 ^ 10 + napNode r k)).dropped < (t.probe (3 * 2 ^ 10 + napNode r k)).dropped then t.count DBG_TRC_STATUS_NAP_DROP 1 else t)) ∧
  (∀ (s : State) (m : Master) (k v : Nat), s.gate m (DBG_PMC_SEL k) = .pass → exec (.pmcSelWrite m k v) s = .next (
      let t := (s.answer (.ok 0)).setFs [(DBG_PMC_SEL_EN k, v / 2 ^ 30), (DBG_PMC_SEL_GATE_EN k, v / 2 ^ 28), (DBG_PMC_SEL_GATE_CH k, v / 2 ^ 24),
        (DBG_PMC_SEL_EV k, v / 2 ^ 16), (DBG_PMC_SEL_ARG k, v)]
      if v / 2 ^ 31 % 2 = 1 then t.setFs [(DBG_PMC_LO_COUNT k, 0), (DBG_PMC_HI_COUNT k, 0)] else t)) ∧
  (∀ (s : State) (i : Nat), s.trcRun = false ∨ s.eff DBG_TRC_CTRL_OUT / 2 ^ i % 2 = 0 →
    exec (.traceOutputRecord i) s = .next (s)) ∧
  (∀ (s : State), s.trcRun = true → s.eff DBG_TRC_CTRL_OUT / 2 ^ 0 % 2 ≠ 0 →
    s.dbg.taken.contains 0 = true ∨ s.dbg.store = [] → exec (.traceOutputRecord 0) s = .next (s.pinsIdle)) ∧
  (∀ (s : State) (i : Nat), i ≠ 0 → s.trcRun = true → s.eff DBG_TRC_CTRL_OUT / 2 ^ i % 2 ≠ 0 →
    s.dbg.taken.contains i = true ∨ s.dbg.store = [] → exec (.traceOutputRecord i) s = .next (s)) ∧
  (∀ (s : State),
    s.pinsIdle = ({ s with out := s.out ++ [Out.trace (List.replicate 16 (if s.dbg.align then 0xFF else 0))] }.updDbg fun d =>
      { d with sent := if s.dbg.align then 0 else d.sent, align := false })) ∧
  (∀ (s : State) (i : Nat) (r : TraceRec) (l : List TraceRec), s.trcRun = true →
    s.eff DBG_TRC_CTRL_OUT / 2 ^ i % 2 ≠ 0 → s.dbg.taken.contains i = false → s.dbg.store = r :: l →
    exec (.traceOutputRecord i) s = .next (
      let t := if i = 0 then s.pinsTake r else s.ringTake r
      (t.updDbg fun d => { d with taken := i :: d.taken }).sinkTrim)) ∧
  (∀ (s : State) (r : TraceRec) (l : List TraceRec), l = s.dbg.ring ++ [r] → l.length = 32 → s.ringTake r =
      (((s.hubWrite (s.ringBase + s.f DBG_TRC_WPTR_OFF) (l.flatMap TraceRec.toBytes) sinkNode).1).setF DBG_TRC_WPTR_OFF
        ((s.f DBG_TRC_WPTR_OFF + 512) % s.ringLen)).updDbg fun d => { d with ring := [] }) ∧
  (∀ (s : State) (r : TraceRec), s.dbg.ring.length < 31 →
    s.ringTake r = s.updDbg fun d => { d with ring := s.dbg.ring ++ [r] })

/-- The bridle and self-test (R437 to R442, R445 to R449). -/
def Obligations.BridleAndSelfTestCommands : Prop :=
  (∀ (s : State) (m : Master) (mask : Nat) (late : Bool) (resv : List Nat), s.gate m DBG_BR_RAISE = .pass →
    exec (.brRaise (.write m mask late) resv) s = .next (
      let t := if late then (s.answer (.ok 0)).logDrop m .order DBG_BR_RAISE else (s.answer (.ok 0))
      let u := ((List.range 16).filter fun ch => decide (mask / 2 ^ ch % 2 = 1)).foldl State.brRaiseCh t
      u.brDeliver resv)) ∧
  (∀ (s : State) (g : Nat) (resv : List Nat), exec (.brRaise (.core g) resv) s = .next (
      let t := if s.eff (DBG_BR_CORE_RAISE_EN g) = 1 ∧ s.eff (DBG_BR_CORE_ON g) / 2 ^ 0 % 2 = 1 then s.brRaiseCh (s.eff (DBG_BR_CORE_RAISE_CH g)) else s
      t.brDeliver resv)) ∧
  (∀ (s : State) (r : Nat) (resv : List Nat), exec (.brRaise (.region r) resv) s = .next (
      let t := if s.connected r = false then s
        else if s.eff (DBG_BR_RGN_RAISE_EN r) = 1 ∧ s.eff (DBG_BR_RGN_ON r) / 2 ^ 0 % 2 = 1 then s.brRaiseCh (s.eff (DBG_BR_RGN_RAISE_CH r)) else s
      t.brDeliver resv)) ∧
  (∀ (s : State) (ch : Nat), s.chRaised (2 ^ ch) = false → s.brRaiseCh ch =
      let t := (s.setF DBG_BR_STATE_CH (s.f DBG_BR_STATE_CH + 2 ^ ch)).pmcBump 7 ch 1
      { t with dbg := { t.dbg with
        due := t.dbg.due ||| 2 ^ ch
        started := if t.eff DBG_TRC_CTRL_STOP_CH = ch then false
          else if t.eff DBG_TRC_CTRL_START_CH = ch then true else t.dbg.started } }) ∧
  (∀ (s : State) (resv : List Nat), s.dbg.due ≠ 0 → exec (.brRaise .arrive resv) s = .next (
      let mask := s.dbg.due
      let t := (s.updDbg fun d => { d with due := 0 }).updDbg fun d => { d with
        locked := resv.foldl (fun m g => if nget m g = 0 then nput m g 1 else m) d.locked }
      let t := (t.brEngs mask).foldl State.haltEng t
      let t := (t.brCores mask).foldl State.haltCore t
      let t := (t.brRgns mask).foldl State.haltRegion t
      ((List.range 16).filter fun ch => decide (mask / 2 ^ ch % 2 = 1)).foldl State.haltEvent t)) ∧
  (∀ (s : State) (resv : List Nat), s.dbg.due = 0 → exec (.brRaise .arrive resv) s = .next (s)) ∧
  (∀ (s : State) (m : Master) (mask : Nat) (late : Bool), s.gate m DBG_BR_STATE = .pass →
    exec (.brClear m mask late) s = .next (
      let t := if late then (s.answer (.ok 0)).logDrop m .order DBG_BR_STATE else (s.answer (.ok 0))
      let old := t.f DBG_BR_STATE_CH
      let gone := old &&& mask
      let u := (t.setF DBG_BR_STATE_CH (old - gone)).updDbg fun d => { d with due := d.due &&& (old - gone) }
      let u := (u.brEngs gone).foldl State.freeEng u
      let u := (u.brCores gone).foldl State.freeCore u
      (u.brRgns gone).foldl State.freeRgn u)) ∧
  (∀ (s : State) (g : Nat) (ended : Bool), s.dbg.deferred.contains g = false →
    exec (.haltDeferExpire g ended) s = .next (s)) ∧
  (∀ (s : State) (g : Nat) (ended : Bool), s.dbg.deferred.contains g = true → nget s.dbg.locked g = 2 →
    ended = false → exec (.haltDeferExpire g ended) s = .next (s.lockAbort)) ∧
  (∀ (s : State) (g : Nat) (ended : Bool), s.dbg.deferred.contains g = true → nget s.dbg.locked g = 2 → ended = true →
    exec (.haltDeferExpire g ended) s = .next (s)) ∧
  (∀ (s : State) (g : Nat) (ended : Bool), s.dbg.deferred.contains g = true → nget s.dbg.locked g ≠ 2 →
    exec (.haltDeferExpire g ended) s = .next (
      let t := s.updDbg fun d => { d with
        deferred := d.deferred.filter (· ≠ g), halted := d.halted ++ [g], locked := nput d.locked g 0 }
      t.setF DBG_STATUS_DEFERRED (b2n (!t.dbg.deferred.isEmpty)))) ∧
  (∀ (s : State) (d : Nat) (t : State),
    t = ((s.applyLive BST_CTRL_EN).applyLive BST_CTRL_CLASSES).applyLive BST_SCHED_PERIOD_US →
    nget t.bist.run d ≠ 0 ∨ t.eff BST_CTRL_EN = 0 ∨ t.eff BST_CTRL_CLASSES = 0 →
    exec (.bistSliceStart d) s = .next (t)) ∧
  (∀ (s : State) (d : Nat) (t : State),
    t = ((s.applyLive BST_CTRL_EN).applyLive BST_CTRL_CLASSES).applyLive BST_SCHED_PERIOD_US →
    ¬ (nget t.bist.run d ≠ 0 ∨ t.eff BST_CTRL_EN = 0 ∨ t.eff BST_CTRL_CLASSES = 0) →
    exec (.bistSliceStart d) s = .next (
      let u := t.slicePick d 2016
      let p := nget u.bist.pos d
      if u.sliceSkipped d p then (u.count BST_STATUS_SKIPPED 1).slicePast d p
      else (u.updBist fun b => { b with run := nput b.run d (p + 1) }).slicePast d p)) ∧
  (∀ (s : State) (d : Nat) (verified passed : Bool), nget s.bist.run d = 0 →
    exec (.bistSliceEnd d verified passed) s = .next (s)) ∧
  (∀ (s : State) (d : Nat) (verified passed : Bool), nget s.bist.run d ≠ 0 →
    exec (.bistSliceEnd d verified passed) s = .next (
      let u := sliceUnit d (nget s.bist.run d - 1)
      let t := s.updBist fun b => { b with run := nput b.run d 0 }
      if u.1 = 3 then (t.sliceProgram u.2 passed).startsDue (bankOf u.2).1
      else match t.spareOf u.2 with
        | none => t
        | some q =>
          if !verified then t.markBad q
          else
            let v := ((t.unitCopy (t.physOf u.2) q).remap u.2 q).unitFresh (t.physOf u.2)
            if passed then v else v.markBad (t.physOf u.2))) ∧
  (∀ (s : State) (m : Master) (unit : Nat), s.gate m BST_MAPQ = .pass →
    exec (.bstMapqWrite m unit) s = .next ((s.answer (.ok 0)).setF BST_MAPQ_UNIT unit)) ∧
  (∀ (s : State) (m : Master) (alg unit : Nat), s.gate m BST_XP_CMD = .pass → s.xpOn BST_XP_CMD = false →
    exec (.bstXpGo m alg unit) s = .next ((s.answer (.ok 0)).dropWrite m .expert BST_XP_CMD)) ∧
  (∀ (s : State) (m : Master) (alg unit : Nat), s.gate m BST_XP_CMD = .pass → s.xpOn BST_XP_CMD = true →
    s.bit BST_XP_STATUS_BUSY = true →
    exec (.bstXpGo m alg unit) s = .next ((s.answer (.ok 0)).busy BST_XP_STATUS_FIELD_BUSY)) ∧
  (∀ (s : State) (m : Master) (alg unit : Nat), s.gate m BST_XP_CMD = .pass → s.xpOn BST_XP_CMD = true →
    s.bit BST_XP_STATUS_BUSY = false →
    ((s.answer (.ok 0)).setFs [(BST_XP_CMD_ALG, alg), (BST_XP_CMD_MACRO, unit)]).macroIdle unit = true →
    exec (.bstXpGo m alg unit) s = .next (((s.answer (.ok 0)).setFs [(BST_XP_CMD_ALG, alg), (BST_XP_CMD_MACRO, unit)]).setFs [(BST_XP_STATUS_BUSY, 1), (BST_XP_STATUS_ERR, 0)])) ∧
  (∀ (s : State) (m : Master) (alg unit : Nat), s.gate m BST_XP_CMD = .pass → s.xpOn BST_XP_CMD = true →
    s.bit BST_XP_STATUS_BUSY = false →
    ((s.answer (.ok 0)).setFs [(BST_XP_CMD_ALG, alg), (BST_XP_CMD_MACRO, unit)]).macroIdle unit = false →
    exec (.bstXpGo m alg unit) s = .next (((s.answer (.ok 0)).setFs [(BST_XP_CMD_ALG, alg), (BST_XP_CMD_MACRO, unit)]).setFs [(BST_XP_STATUS_ERR, 1), (BST_XP_STATUS_DONE, 1)])) ∧
  (∀ (s : State) (fail : Option Nat), s.bit BST_XP_STATUS_BUSY = false → exec (.bstXpEnd fail) s = .next (s)) ∧
  (∀ (s : State) (fail : Option Nat), s.bit BST_XP_STATUS_BUSY = true → exec (.bstXpEnd fail) s = .next (
      let u := s.f BST_XP_CMD_MACRO
      let t := s.unitFresh u
      let t := if u / 2 ^ 16 = 1 then t.bankDestroyed u else if u / 2 ^ 16 = 0 then t.ramDestroyed u else t
      let t := t.setFs [(BST_XP_STATUS_BUSY, 0), (BST_XP_STATUS_DONE, 1)]
      match fail with
      | none => t.setF BST_XP_STATUS_ERR 0
      | some row => t.setFs [(BST_XP_STATUS_ERR, 2), (BST_XP_STATUS_ROW, row)]))

/-- R376, over the conversion of R375; TEMP is two's complement in quarters of a degree. -/
def Obligations.ThermalWarningRaisesAndRearms : Prop :=
  (∀ (s : State) (raw : List Nat) (t : State), t = converted s raw → t.bit PWR_THERM_STATUS_WARN = false →
    (∃ n, warm t 0 n) → s.thermConvert raw = (t.setF PWR_THERM_STATUS_WARN 1).raise .THERM_WARN false 0 noInst) ∧
  (∀ (s : State) (raw : List Nat) (t : State), t = converted s raw → t.bit PWR_THERM_STATUS_WARN = false →
    (∀ n, ¬ warm t 0 n) → s.thermConvert raw = t) ∧
  (∀ (s : State) (raw : List Nat) (t : State), t = converted s raw → t.bit PWR_THERM_STATUS_WARN = true →
    (∀ n, ¬ warm t 20 n) → s.thermConvert raw = t.setF PWR_THERM_STATUS_WARN 0) ∧
  (∀ (s : State) (raw : List Nat) (t : State), t = converted s raw → t.bit PWR_THERM_STATUS_WARN = true →
    (∃ n, warm t 20 n) → s.thermConvert raw = t) ∧
  (∀ (s : State) (raw : List Nat) (t u : State), t = s.thermConvert raw →
    u = (t.updPwr fun p => { p with hot := t.hotSensors }) → exec (.thermConversion raw) s = .next (
      if t.thermTrips = true ∧ u.pins.thermTripN = true then
        ((u.setF PWR_THERM_STATUS_TRIPPED 1).restartHeld).updPins fun p => { p with thermTripN := false }
      else u) ∧ Ev.THERM_WARN.sev = 1)

/-- R408: the SMBus slave while the device is held. -/
def Obligations.SmbusWhileTheDeviceIsHeld : Prop :=
  (∀ (s : State) (l : List EvRec), s.pins.porN = false ∨ s.pins.resetN = false ∨ s.pins.thermTripN = false →
    s.ev.board = l → exec (.smbEventRead) s = .next (
      match l with
        | [] => s.answer (.bytes [])
        | r :: t => { s with ev := { s.ev with board := t } }.answer (.bytes r.toBytes))) ∧
  (∀ (s : State), s.pins.porN = false ∨ s.pins.resetN = false ∨ s.pins.thermTripN = false →
    exec (.smbStatusRead) s = .next (
      s.answer (.bytes (leBytes 4 s.supplyWord ++ leBytes 1 s.lcState ++ leBytes 1 (s.bootStatusWord % 256) ++ leBytes 1 s.smb
        ++ leBytes 1 s.ev.board.length)))) ∧
  (∀ (s : State) (a : Nat) (k : RegKind) (ix : List Nat),
    s.pins.porN = false ∨ s.pins.resetN = false ∨ s.pins.thermTripN = false →
    a = HUB_ID ∨ a = HUB_SUPPLY ∨ blockOf a = some .PWR → a % 4 = 0 → decodeReg a = some (k, ix) →
    exec (.smbProcessRead a) s = .next (
      let r := s.xsweep.regRead k ix a false
      (r.1.answer (.ok r.2)).answer (.bytes (leBytes 4 r.2 ++ [0])))) ∧
  (∀ (s : State) (a : Nat), s.pins.porN = false ∨ s.pins.resetN = false ∨ s.pins.thermTripN = false →
    ¬ (a = HUB_ID ∨ a = HUB_SUPPLY ∨ blockOf a = some .PWR) →
    exec (.smbProcessRead a) s = .next (s.answer (.bytes (leBytes 4 0 ++ [2])))) ∧
  (∀ (s : State) (a v : Nat) (pecOk : Bool), s.pins.porN = false ∨ s.pins.resetN = false ∨ s.pins.thermTripN = false →
    s.feature 35 = false ∨ pecOk = true → exec (.smbBlockWrite a v pecOk) s = .next ({ s with smb := 2 }))
end

