-- ==== Sys2Proof/Laws/State.lean ====
section
/-! SUPPORT. The fields of State after the elementary operations: one lemma for each field and operation, true by rfl. -/

namespace Sys2Proof.Machine

variable (s : State)

@[simp] theorem State.setF_held (F : Fld) (v : Nat) : (s.setF F v).held = s.held := rfl
@[simp] theorem State.setF_mem (F : Fld) (v : Nat) : (s.setF F v).mem = s.mem := rfl
@[simp] theorem State.setF_aonTicks (F : Fld) (v : Nat) : (s.setF F v).aonTicks = s.aonTicks := rfl
@[simp] theorem State.setF_nocTime (F : Fld) (v : Nat) : (s.setF F v).nocTime = s.nocTime := rfl
@[simp] theorem State.setF_freeCtr (F : Fld) (v : Nat) : (s.setF F v).freeCtr = s.freeCtr := rfl
@[simp] theorem State.setF_resp (F : Fld) (v : Nat) : (s.setF F v).resp = s.resp := rfl
@[simp] theorem State.setF_drop (F : Fld) (v : Nat) : (s.setF F v).drop = s.drop := rfl
@[simp] theorem State.setF_ev (F : Fld) (v : Nat) : (s.setF F v).ev = s.ev := rfl
@[simp] theorem State.setF_heldFx (F : Fld) (v : Nat) : (s.setF F v).heldFx = s.heldFx := rfl
@[simp] theorem State.setF_out (F : Fld) (v : Nat) : (s.setF F v).out = s.out := rfl
@[simp] theorem State.setF_arbs (F : Fld) (v : Nat) : (s.setF F v).arbs = s.arbs := rfl
@[simp] theorem State.setF_noc (F : Fld) (v : Nat) : (s.setF F v).noc = s.noc := rfl
@[simp] theorem State.setF_leaseWin (F : Fld) (v : Nat) : (s.setF F v).leaseWin = s.leaseWin := rfl
@[simp] theorem State.setF_eng (F : Fld) (v : Nat) : (s.setF F v).eng = s.eng := rfl
@[simp] theorem State.setF_trio (F : Fld) (v : Nat) : (s.setF F v).trio = s.trio := rfl
@[simp] theorem State.setF_ecc (F : Fld) (v : Nat) : (s.setF F v).ecc = s.ecc := rfl
@[simp] theorem State.setF_pcs (F : Fld) (v : Nat) : (s.setF F v).pcs = s.pcs := rfl
@[simp] theorem State.setF_sec (F : Fld) (v : Nat) : (s.setF F v).sec = s.sec := rfl
@[simp] theorem State.setF_lanes (F : Fld) (v : Nat) : (s.setF F v).lanes = s.lanes := rfl
@[simp] theorem State.setF_bflash (F : Fld) (v : Nat) : (s.setF F v).bflash = s.bflash := rfl
@[simp] theorem State.setF_rgn (F : Fld) (v : Nat) : (s.setF F v).rgn = s.rgn := rfl
@[simp] theorem State.setF_slots (F : Fld) (v : Nat) : (s.setF F v).slots = s.slots := rfl
@[simp] theorem State.setF_integ (F : Fld) (v : Nat) : (s.setF F v).integ = s.integ := rfl
@[simp] theorem State.setF_cap (F : Fld) (v : Nat) : (s.setF F v).cap = s.cap := rfl
@[simp] theorem State.setF_fuses (F : Fld) (v : Nat) : (s.setF F v).fuses = s.fuses := rfl
@[simp] theorem State.setF_pins (F : Fld) (v : Nat) : (s.setF F v).pins = s.pins := rfl
@[simp] theorem State.setF_boot (F : Fld) (v : Nat) : (s.setF F v).boot = s.boot := rfl
@[simp] theorem State.setF_life (F : Fld) (v : Nat) : (s.setF F v).life = s.life := rfl
@[simp] theorem State.setF_cmx (F : Fld) (v : Nat) : (s.setF F v).cmx = s.cmx := rfl
@[simp] theorem State.setF_fab (F : Fld) (v : Nat) : (s.setF F v).fab = s.fab := rfl
@[simp] theorem State.setF_clk (F : Fld) (v : Nat) : (s.setF F v).clk = s.clk := rfl
@[simp] theorem State.setF_pwr (F : Fld) (v : Nat) : (s.setF F v).pwr = s.pwr := rfl
@[simp] theorem State.setF_mir (F : Fld) (v : Nat) : (s.setF F v).mir = s.mir := rfl
@[simp] theorem State.setF_latch (F : Fld) (v : Nat) : (s.setF F v).latch = s.latch := rfl
@[simp] theorem State.setF_xover (F : Fld) (v : Nat) : (s.setF F v).xover = s.xover := rfl
@[simp] theorem State.setF_xback (F : Fld) (v : Nat) : (s.setF F v).xback = s.xback := rfl
@[simp] theorem State.setF_hdma (F : Fld) (v : Nat) : (s.setF F v).hdma = s.hdma := rfl
@[simp] theorem State.setF_pci (F : Fld) (v : Nat) : (s.setF F v).pci = s.pci := rfl
@[simp] theorem State.setF_gpio (F : Fld) (v : Nat) : (s.setF F v).gpio = s.gpio := rfl
@[simp] theorem State.setF_dbg (F : Fld) (v : Nat) : (s.setF F v).dbg = s.dbg := rfl
@[simp] theorem State.setF_bist (F : Fld) (v : Nat) : (s.setF F v).bist = s.bist := rfl
@[simp] theorem State.setF_smb (F : Fld) (v : Nat) : (s.setF F v).smb = s.smb := rfl
@[simp] theorem State.setF_bspi (F : Fld) (v : Nat) : (s.setF F v).bspi = s.bspi := rfl
@[simp] theorem State.setF_pending (F : Fld) (v : Nat) : (s.setF F v).pending = s.pending := rfl

@[simp] theorem State.clearF_held (F : Fld) : (s.clearF F).held = s.held := rfl
@[simp] theorem State.clearF_mem (F : Fld) : (s.clearF F).mem = s.mem := rfl
@[simp] theorem State.clearF_aonTicks (F : Fld) : (s.clearF F).aonTicks = s.aonTicks := rfl
@[simp] theorem State.clearF_nocTime (F : Fld) : (s.clearF F).nocTime = s.nocTime := rfl
@[simp] theorem State.clearF_freeCtr (F : Fld) : (s.clearF F).freeCtr = s.freeCtr := rfl
@[simp] theorem State.clearF_resp (F : Fld) : (s.clearF F).resp = s.resp := rfl
@[simp] theorem State.clearF_drop (F : Fld) : (s.clearF F).drop = s.drop := rfl
@[simp] theorem State.clearF_ev (F : Fld) : (s.clearF F).ev = s.ev := rfl
@[simp] theorem State.clearF_heldFx (F : Fld) : (s.clearF F).heldFx = s.heldFx := rfl
@[simp] theorem State.clearF_out (F : Fld) : (s.clearF F).out = s.out := rfl
@[simp] theorem State.clearF_arbs (F : Fld) : (s.clearF F).arbs = s.arbs := rfl
@[simp] theorem State.clearF_noc (F : Fld) : (s.clearF F).noc = s.noc := rfl
@[simp] theorem State.clearF_leaseWin (F : Fld) : (s.clearF F).leaseWin = s.leaseWin := rfl
@[simp] theorem State.clearF_eng (F : Fld) : (s.clearF F).eng = s.eng := rfl
@[simp] theorem State.clearF_trio (F : Fld) : (s.clearF F).trio = s.trio := rfl
@[simp] theorem State.clearF_ecc (F : Fld) : (s.clearF F).ecc = s.ecc := rfl
@[simp] theorem State.clearF_pcs (F : Fld) : (s.clearF F).pcs = s.pcs := rfl
@[simp] theorem State.clearF_sec (F : Fld) : (s.clearF F).sec = s.sec := rfl
@[simp] theorem State.clearF_lanes (F : Fld) : (s.clearF F).lanes = s.lanes := rfl
@[simp] theorem State.clearF_bflash (F : Fld) : (s.clearF F).bflash = s.bflash := rfl
@[simp] theorem State.clearF_rgn (F : Fld) : (s.clearF F).rgn = s.rgn := rfl
@[simp] theorem State.clearF_slots (F : Fld) : (s.clearF F).slots = s.slots := rfl
@[simp] theorem State.clearF_integ (F : Fld) : (s.clearF F).integ = s.integ := rfl
@[simp] theorem State.clearF_cap (F : Fld) : (s.clearF F).cap = s.cap := rfl
@[simp] theorem State.clearF_fuses (F : Fld) : (s.clearF F).fuses = s.fuses := rfl
@[simp] theorem State.clearF_pins (F : Fld) : (s.clearF F).pins = s.pins := rfl
@[simp] theorem State.clearF_boot (F : Fld) : (s.clearF F).boot = s.boot := rfl
@[simp] theorem State.clearF_life (F : Fld) : (s.clearF F).life = s.life := rfl
@[simp] theorem State.clearF_cmx (F : Fld) : (s.clearF F).cmx = s.cmx := rfl
@[simp] theorem State.clearF_fab (F : Fld) : (s.clearF F).fab = s.fab := rfl
@[simp] theorem State.clearF_clk (F : Fld) : (s.clearF F).clk = s.clk := rfl
@[simp] theorem State.clearF_pwr (F : Fld) : (s.clearF F).pwr = s.pwr := rfl
@[simp] theorem State.clearF_mir (F : Fld) : (s.clearF F).mir = s.mir := rfl
@[simp] theorem State.clearF_latch (F : Fld) : (s.clearF F).latch = s.latch := rfl
@[simp] theorem State.clearF_xover (F : Fld) : (s.clearF F).xover = s.xover := rfl
@[simp] theorem State.clearF_xback (F : Fld) : (s.clearF F).xback = s.xback := rfl
@[simp] theorem State.clearF_hdma (F : Fld) : (s.clearF F).hdma = s.hdma := rfl
@[simp] theorem State.clearF_pci (F : Fld) : (s.clearF F).pci = s.pci := rfl
@[simp] theorem State.clearF_gpio (F : Fld) : (s.clearF F).gpio = s.gpio := rfl
@[simp] theorem State.clearF_dbg (F : Fld) : (s.clearF F).dbg = s.dbg := rfl
@[simp] theorem State.clearF_bist (F : Fld) : (s.clearF F).bist = s.bist := rfl
@[simp] theorem State.clearF_smb (F : Fld) : (s.clearF F).smb = s.smb := rfl
@[simp] theorem State.clearF_bspi (F : Fld) : (s.clearF F).bspi = s.bspi := rfl
@[simp] theorem State.clearF_pending (F : Fld) : (s.clearF F).pending = s.pending := rfl

@[simp] theorem State.count_held (F : Fld) (n : Nat) : (s.count F n).held = s.held := rfl
@[simp] theorem State.count_mem (F : Fld) (n : Nat) : (s.count F n).mem = s.mem := rfl
@[simp] theorem State.count_aonTicks (F : Fld) (n : Nat) : (s.count F n).aonTicks = s.aonTicks := rfl
@[simp] theorem State.count_nocTime (F : Fld) (n : Nat) : (s.count F n).nocTime = s.nocTime := rfl
@[simp] theorem State.count_freeCtr (F : Fld) (n : Nat) : (s.count F n).freeCtr = s.freeCtr := rfl
@[simp] theorem State.count_resp (F : Fld) (n : Nat) : (s.count F n).resp = s.resp := rfl
@[simp] theorem State.count_drop (F : Fld) (n : Nat) : (s.count F n).drop = s.drop := rfl
@[simp] theorem State.count_ev (F : Fld) (n : Nat) : (s.count F n).ev = s.ev := rfl
@[simp] theorem State.count_heldFx (F : Fld) (n : Nat) : (s.count F n).heldFx = s.heldFx := rfl
@[simp] theorem State.count_out (F : Fld) (n : Nat) : (s.count F n).out = s.out := rfl
@[simp] theorem State.count_arbs (F : Fld) (n : Nat) : (s.count F n).arbs = s.arbs := rfl
@[simp] theorem State.count_noc (F : Fld) (n : Nat) : (s.count F n).noc = s.noc := rfl
@[simp] theorem State.count_leaseWin (F : Fld) (n : Nat) : (s.count F n).leaseWin = s.leaseWin := rfl
@[simp] theorem State.count_eng (F : Fld) (n : Nat) : (s.count F n).eng = s.eng := rfl
@[simp] theorem State.count_trio (F : Fld) (n : Nat) : (s.count F n).trio = s.trio := rfl
@[simp] theorem State.count_ecc (F : Fld) (n : Nat) : (s.count F n).ecc = s.ecc := rfl
@[simp] theorem State.count_pcs (F : Fld) (n : Nat) : (s.count F n).pcs = s.pcs := rfl
@[simp] theorem State.count_sec (F : Fld) (n : Nat) : (s.count F n).sec = s.sec := rfl
@[simp] theorem State.count_lanes (F : Fld) (n : Nat) : (s.count F n).lanes = s.lanes := rfl
@[simp] theorem State.count_bflash (F : Fld) (n : Nat) : (s.count F n).bflash = s.bflash := rfl
@[simp] theorem State.count_rgn (F : Fld) (n : Nat) : (s.count F n).rgn = s.rgn := rfl
@[simp] theorem State.count_slots (F : Fld) (n : Nat) : (s.count F n).slots = s.slots := rfl
@[simp] theorem State.count_integ (F : Fld) (n : Nat) : (s.count F n).integ = s.integ := rfl
@[simp] theorem State.count_cap (F : Fld) (n : Nat) : (s.count F n).cap = s.cap := rfl
@[simp] theorem State.count_fuses (F : Fld) (n : Nat) : (s.count F n).fuses = s.fuses := rfl
@[simp] theorem State.count_pins (F : Fld) (n : Nat) : (s.count F n).pins = s.pins := rfl
@[simp] theorem State.count_boot (F : Fld) (n : Nat) : (s.count F n).boot = s.boot := rfl
@[simp] theorem State.count_life (F : Fld) (n : Nat) : (s.count F n).life = s.life := rfl
@[simp] theorem State.count_cmx (F : Fld) (n : Nat) : (s.count F n).cmx = s.cmx := rfl
@[simp] theorem State.count_fab (F : Fld) (n : Nat) : (s.count F n).fab = s.fab := rfl
@[simp] theorem State.count_clk (F : Fld) (n : Nat) : (s.count F n).clk = s.clk := rfl
@[simp] theorem State.count_pwr (F : Fld) (n : Nat) : (s.count F n).pwr = s.pwr := rfl
@[simp] theorem State.count_mir (F : Fld) (n : Nat) : (s.count F n).mir = s.mir := rfl
@[simp] theorem State.count_latch (F : Fld) (n : Nat) : (s.count F n).latch = s.latch := rfl
@[simp] theorem State.count_xover (F : Fld) (n : Nat) : (s.count F n).xover = s.xover := rfl
@[simp] theorem State.count_xback (F : Fld) (n : Nat) : (s.count F n).xback = s.xback := rfl
@[simp] theorem State.count_hdma (F : Fld) (n : Nat) : (s.count F n).hdma = s.hdma := rfl
@[simp] theorem State.count_pci (F : Fld) (n : Nat) : (s.count F n).pci = s.pci := rfl
@[simp] theorem State.count_gpio (F : Fld) (n : Nat) : (s.count F n).gpio = s.gpio := rfl
@[simp] theorem State.count_dbg (F : Fld) (n : Nat) : (s.count F n).dbg = s.dbg := rfl
@[simp] theorem State.count_bist (F : Fld) (n : Nat) : (s.count F n).bist = s.bist := rfl
@[simp] theorem State.count_smb (F : Fld) (n : Nat) : (s.count F n).smb = s.smb := rfl
@[simp] theorem State.count_bspi (F : Fld) (n : Nat) : (s.count F n).bspi = s.bspi := rfl
@[simp] theorem State.count_pending (F : Fld) (n : Nat) : (s.count F n).pending = s.pending := rfl

@[simp] theorem State.writeLive_mem (F : Fld) (v : Nat) : (s.writeLive F v).mem = s.mem := rfl
@[simp] theorem State.writeLive_aonTicks (F : Fld) (v : Nat) : (s.writeLive F v).aonTicks = s.aonTicks := rfl
@[simp] theorem State.writeLive_nocTime (F : Fld) (v : Nat) : (s.writeLive F v).nocTime = s.nocTime := rfl
@[simp] theorem State.writeLive_freeCtr (F : Fld) (v : Nat) : (s.writeLive F v).freeCtr = s.freeCtr := rfl
@[simp] theorem State.writeLive_resp (F : Fld) (v : Nat) : (s.writeLive F v).resp = s.resp := rfl
@[simp] theorem State.writeLive_drop (F : Fld) (v : Nat) : (s.writeLive F v).drop = s.drop := rfl
@[simp] theorem State.writeLive_ev (F : Fld) (v : Nat) : (s.writeLive F v).ev = s.ev := rfl
@[simp] theorem State.writeLive_heldFx (F : Fld) (v : Nat) : (s.writeLive F v).heldFx = s.heldFx := rfl
@[simp] theorem State.writeLive_out (F : Fld) (v : Nat) : (s.writeLive F v).out = s.out := rfl
@[simp] theorem State.writeLive_arbs (F : Fld) (v : Nat) : (s.writeLive F v).arbs = s.arbs := rfl
@[simp] theorem State.writeLive_noc (F : Fld) (v : Nat) : (s.writeLive F v).noc = s.noc := rfl
@[simp] theorem State.writeLive_leaseWin (F : Fld) (v : Nat) : (s.writeLive F v).leaseWin = s.leaseWin := rfl
@[simp] theorem State.writeLive_eng (F : Fld) (v : Nat) : (s.writeLive F v).eng = s.eng := rfl
@[simp] theorem State.writeLive_trio (F : Fld) (v : Nat) : (s.writeLive F v).trio = s.trio := rfl
@[simp] theorem State.writeLive_ecc (F : Fld) (v : Nat) : (s.writeLive F v).ecc = s.ecc := rfl
@[simp] theorem State.writeLive_pcs (F : Fld) (v : Nat) : (s.writeLive F v).pcs = s.pcs := rfl
@[simp] theorem State.writeLive_sec (F : Fld) (v : Nat) : (s.writeLive F v).sec = s.sec := rfl
@[simp] theorem State.writeLive_lanes (F : Fld) (v : Nat) : (s.writeLive F v).lanes = s.lanes := rfl
@[simp] theorem State.writeLive_bflash (F : Fld) (v : Nat) : (s.writeLive F v).bflash = s.bflash := rfl
@[simp] theorem State.writeLive_rgn (F : Fld) (v : Nat) : (s.writeLive F v).rgn = s.rgn := rfl
@[simp] theorem State.writeLive_slots (F : Fld) (v : Nat) : (s.writeLive F v).slots = s.slots := rfl
@[simp] theorem State.writeLive_integ (F : Fld) (v : Nat) : (s.writeLive F v).integ = s.integ := rfl
@[simp] theorem State.writeLive_cap (F : Fld) (v : Nat) : (s.writeLive F v).cap = s.cap := rfl
@[simp] theorem State.writeLive_fuses (F : Fld) (v : Nat) : (s.writeLive F v).fuses = s.fuses := rfl
@[simp] theorem State.writeLive_pins (F : Fld) (v : Nat) : (s.writeLive F v).pins = s.pins := rfl
@[simp] theorem State.writeLive_boot (F : Fld) (v : Nat) : (s.writeLive F v).boot = s.boot := rfl
@[simp] theorem State.writeLive_life (F : Fld) (v : Nat) : (s.writeLive F v).life = s.life := rfl
@[simp] theorem State.writeLive_cmx (F : Fld) (v : Nat) : (s.writeLive F v).cmx = s.cmx := rfl
@[simp] theorem State.writeLive_fab (F : Fld) (v : Nat) : (s.writeLive F v).fab = s.fab := rfl
@[simp] theorem State.writeLive_clk (F : Fld) (v : Nat) : (s.writeLive F v).clk = s.clk := rfl
@[simp] theorem State.writeLive_pwr (F : Fld) (v : Nat) : (s.writeLive F v).pwr = s.pwr := rfl
@[simp] theorem State.writeLive_mir (F : Fld) (v : Nat) : (s.writeLive F v).mir = s.mir := rfl
@[simp] theorem State.writeLive_latch (F : Fld) (v : Nat) : (s.writeLive F v).latch = s.latch := rfl
@[simp] theorem State.writeLive_xover (F : Fld) (v : Nat) : (s.writeLive F v).xover = s.xover := rfl
@[simp] theorem State.writeLive_xback (F : Fld) (v : Nat) : (s.writeLive F v).xback = s.xback := rfl
@[simp] theorem State.writeLive_hdma (F : Fld) (v : Nat) : (s.writeLive F v).hdma = s.hdma := rfl
@[simp] theorem State.writeLive_pci (F : Fld) (v : Nat) : (s.writeLive F v).pci = s.pci := rfl
@[simp] theorem State.writeLive_gpio (F : Fld) (v : Nat) : (s.writeLive F v).gpio = s.gpio := rfl
@[simp] theorem State.writeLive_dbg (F : Fld) (v : Nat) : (s.writeLive F v).dbg = s.dbg := rfl
@[simp] theorem State.writeLive_bist (F : Fld) (v : Nat) : (s.writeLive F v).bist = s.bist := rfl
@[simp] theorem State.writeLive_smb (F : Fld) (v : Nat) : (s.writeLive F v).smb = s.smb := rfl
@[simp] theorem State.writeLive_bspi (F : Fld) (v : Nat) : (s.writeLive F v).bspi = s.bspi := rfl
@[simp] theorem State.writeLive_pending (F : Fld) (v : Nat) : (s.writeLive F v).pending = s.pending := rfl

@[simp] theorem State.applyLive_flds (F : Fld) : (s.applyLive F).flds = s.flds := rfl
@[simp] theorem State.applyLive_mem (F : Fld) : (s.applyLive F).mem = s.mem := rfl
@[simp] theorem State.applyLive_aonTicks (F : Fld) : (s.applyLive F).aonTicks = s.aonTicks := rfl
@[simp] theorem State.applyLive_nocTime (F : Fld) : (s.applyLive F).nocTime = s.nocTime := rfl
@[simp] theorem State.applyLive_freeCtr (F : Fld) : (s.applyLive F).freeCtr = s.freeCtr := rfl
@[simp] theorem State.applyLive_resp (F : Fld) : (s.applyLive F).resp = s.resp := rfl
@[simp] theorem State.applyLive_drop (F : Fld) : (s.applyLive F).drop = s.drop := rfl
@[simp] theorem State.applyLive_ev (F : Fld) : (s.applyLive F).ev = s.ev := rfl
@[simp] theorem State.applyLive_heldFx (F : Fld) : (s.applyLive F).heldFx = s.heldFx := rfl
@[simp] theorem State.applyLive_out (F : Fld) : (s.applyLive F).out = s.out := rfl
@[simp] theorem State.applyLive_arbs (F : Fld) : (s.applyLive F).arbs = s.arbs := rfl
@[simp] theorem State.applyLive_noc (F : Fld) : (s.applyLive F).noc = s.noc := rfl
@[simp] theorem State.applyLive_leaseWin (F : Fld) : (s.applyLive F).leaseWin = s.leaseWin := rfl
@[simp] theorem State.applyLive_eng (F : Fld) : (s.applyLive F).eng = s.eng := rfl
@[simp] theorem State.applyLive_trio (F : Fld) : (s.applyLive F).trio = s.trio := rfl
@[simp] theorem State.applyLive_ecc (F : Fld) : (s.applyLive F).ecc = s.ecc := rfl
@[simp] theorem State.applyLive_pcs (F : Fld) : (s.applyLive F).pcs = s.pcs := rfl
@[simp] theorem State.applyLive_sec (F : Fld) : (s.applyLive F).sec = s.sec := rfl
@[simp] theorem State.applyLive_lanes (F : Fld) : (s.applyLive F).lanes = s.lanes := rfl
@[simp] theorem State.applyLive_bflash (F : Fld) : (s.applyLive F).bflash = s.bflash := rfl
@[simp] theorem State.applyLive_rgn (F : Fld) : (s.applyLive F).rgn = s.rgn := rfl
@[simp] theorem State.applyLive_slots (F : Fld) : (s.applyLive F).slots = s.slots := rfl
@[simp] theorem State.applyLive_integ (F : Fld) : (s.applyLive F).integ = s.integ := rfl
@[simp] theorem State.applyLive_cap (F : Fld) : (s.applyLive F).cap = s.cap := rfl
@[simp] theorem State.applyLive_fuses (F : Fld) : (s.applyLive F).fuses = s.fuses := rfl
@[simp] theorem State.applyLive_pins (F : Fld) : (s.applyLive F).pins = s.pins := rfl
@[simp] theorem State.applyLive_boot (F : Fld) : (s.applyLive F).boot = s.boot := rfl
@[simp] theorem State.applyLive_life (F : Fld) : (s.applyLive F).life = s.life := rfl
@[simp] theorem State.applyLive_cmx (F : Fld) : (s.applyLive F).cmx = s.cmx := rfl
@[simp] theorem State.applyLive_fab (F : Fld) : (s.applyLive F).fab = s.fab := rfl
@[simp] theorem State.applyLive_clk (F : Fld) : (s.applyLive F).clk = s.clk := rfl
@[simp] theorem State.applyLive_pwr (F : Fld) : (s.applyLive F).pwr = s.pwr := rfl
@[simp] theorem State.applyLive_mir (F : Fld) : (s.applyLive F).mir = s.mir := rfl
@[simp] theorem State.applyLive_latch (F : Fld) : (s.applyLive F).latch = s.latch := rfl
@[simp] theorem State.applyLive_xover (F : Fld) : (s.applyLive F).xover = s.xover := rfl
@[simp] theorem State.applyLive_xback (F : Fld) : (s.applyLive F).xback = s.xback := rfl
@[simp] theorem State.applyLive_hdma (F : Fld) : (s.applyLive F).hdma = s.hdma := rfl
@[simp] theorem State.applyLive_pci (F : Fld) : (s.applyLive F).pci = s.pci := rfl
@[simp] theorem State.applyLive_gpio (F : Fld) : (s.applyLive F).gpio = s.gpio := rfl
@[simp] theorem State.applyLive_dbg (F : Fld) : (s.applyLive F).dbg = s.dbg := rfl
@[simp] theorem State.applyLive_bist (F : Fld) : (s.applyLive F).bist = s.bist := rfl
@[simp] theorem State.applyLive_smb (F : Fld) : (s.applyLive F).smb = s.smb := rfl
@[simp] theorem State.applyLive_bspi (F : Fld) : (s.applyLive F).bspi = s.bspi := rfl
@[simp] theorem State.applyLive_pending (F : Fld) : (s.applyLive F).pending = s.pending := rfl

@[simp] theorem State.setByte_flds (a : Nat) (b : Byte) : (s.setByte a b).flds = s.flds := rfl
@[simp] theorem State.setByte_held (a : Nat) (b : Byte) : (s.setByte a b).held = s.held := rfl
@[simp] theorem State.setByte_aonTicks (a : Nat) (b : Byte) : (s.setByte a b).aonTicks = s.aonTicks := rfl
@[simp] theorem State.setByte_nocTime (a : Nat) (b : Byte) : (s.setByte a b).nocTime = s.nocTime := rfl
@[simp] theorem State.setByte_freeCtr (a : Nat) (b : Byte) : (s.setByte a b).freeCtr = s.freeCtr := rfl
@[simp] theorem State.setByte_resp (a : Nat) (b : Byte) : (s.setByte a b).resp = s.resp := rfl
@[simp] theorem State.setByte_drop (a : Nat) (b : Byte) : (s.setByte a b).drop = s.drop := rfl
@[simp] theorem State.setByte_ev (a : Nat) (b : Byte) : (s.setByte a b).ev = s.ev := rfl
@[simp] theorem State.setByte_heldFx (a : Nat) (b : Byte) : (s.setByte a b).heldFx = s.heldFx := rfl
@[simp] theorem State.setByte_out (a : Nat) (b : Byte) : (s.setByte a b).out = s.out := rfl
@[simp] theorem State.setByte_arbs (a : Nat) (b : Byte) : (s.setByte a b).arbs = s.arbs := rfl
@[simp] theorem State.setByte_noc (a : Nat) (b : Byte) : (s.setByte a b).noc = s.noc := rfl
@[simp] theorem State.setByte_leaseWin (a : Nat) (b : Byte) : (s.setByte a b).leaseWin = s.leaseWin := rfl
@[simp] theorem State.setByte_eng (a : Nat) (b : Byte) : (s.setByte a b).eng = s.eng := rfl
@[simp] theorem State.setByte_trio (a : Nat) (b : Byte) : (s.setByte a b).trio = s.trio := rfl
@[simp] theorem State.setByte_ecc (a : Nat) (b : Byte) : (s.setByte a b).ecc = s.ecc := rfl
@[simp] theorem State.setByte_pcs (a : Nat) (b : Byte) : (s.setByte a b).pcs = s.pcs := rfl
@[simp] theorem State.setByte_sec (a : Nat) (b : Byte) : (s.setByte a b).sec = s.sec := rfl
@[simp] theorem State.setByte_lanes (a : Nat) (b : Byte) : (s.setByte a b).lanes = s.lanes := rfl
@[simp] theorem State.setByte_bflash (a : Nat) (b : Byte) : (s.setByte a b).bflash = s.bflash := rfl
@[simp] theorem State.setByte_rgn (a : Nat) (b : Byte) : (s.setByte a b).rgn = s.rgn := rfl
@[simp] theorem State.setByte_slots (a : Nat) (b : Byte) : (s.setByte a b).slots = s.slots := rfl
@[simp] theorem State.setByte_integ (a : Nat) (b : Byte) : (s.setByte a b).integ = s.integ := rfl
@[simp] theorem State.setByte_cap (a : Nat) (b : Byte) : (s.setByte a b).cap = s.cap := rfl
@[simp] theorem State.setByte_fuses (a : Nat) (b : Byte) : (s.setByte a b).fuses = s.fuses := rfl
@[simp] theorem State.setByte_pins (a : Nat) (b : Byte) : (s.setByte a b).pins = s.pins := rfl
@[simp] theorem State.setByte_boot (a : Nat) (b : Byte) : (s.setByte a b).boot = s.boot := rfl
@[simp] theorem State.setByte_life (a : Nat) (b : Byte) : (s.setByte a b).life = s.life := rfl
@[simp] theorem State.setByte_cmx (a : Nat) (b : Byte) : (s.setByte a b).cmx = s.cmx := rfl
@[simp] theorem State.setByte_fab (a : Nat) (b : Byte) : (s.setByte a b).fab = s.fab := rfl
@[simp] theorem State.setByte_clk (a : Nat) (b : Byte) : (s.setByte a b).clk = s.clk := rfl
@[simp] theorem State.setByte_pwr (a : Nat) (b : Byte) : (s.setByte a b).pwr = s.pwr := rfl
@[simp] theorem State.setByte_mir (a : Nat) (b : Byte) : (s.setByte a b).mir = s.mir := rfl
@[simp] theorem State.setByte_latch (a : Nat) (b : Byte) : (s.setByte a b).latch = s.latch := rfl
@[simp] theorem State.setByte_xover (a : Nat) (b : Byte) : (s.setByte a b).xover = s.xover := rfl
@[simp] theorem State.setByte_xback (a : Nat) (b : Byte) : (s.setByte a b).xback = s.xback := rfl
@[simp] theorem State.setByte_hdma (a : Nat) (b : Byte) : (s.setByte a b).hdma = s.hdma := rfl
@[simp] theorem State.setByte_pci (a : Nat) (b : Byte) : (s.setByte a b).pci = s.pci := rfl
@[simp] theorem State.setByte_gpio (a : Nat) (b : Byte) : (s.setByte a b).gpio = s.gpio := rfl
@[simp] theorem State.setByte_dbg (a : Nat) (b : Byte) : (s.setByte a b).dbg = s.dbg := rfl
@[simp] theorem State.setByte_bist (a : Nat) (b : Byte) : (s.setByte a b).bist = s.bist := rfl
@[simp] theorem State.setByte_smb (a : Nat) (b : Byte) : (s.setByte a b).smb = s.smb := rfl
@[simp] theorem State.setByte_bspi (a : Nat) (b : Byte) : (s.setByte a b).bspi = s.bspi := rfl
@[simp] theorem State.setByte_pending (a : Nat) (b : Byte) : (s.setByte a b).pending = s.pending := rfl

@[simp] theorem State.answer_flds (r : Resp) : (s.answer r).flds = s.flds := rfl
@[simp] theorem State.answer_held (r : Resp) : (s.answer r).held = s.held := rfl
@[simp] theorem State.answer_mem (r : Resp) : (s.answer r).mem = s.mem := rfl
@[simp] theorem State.answer_aonTicks (r : Resp) : (s.answer r).aonTicks = s.aonTicks := rfl
@[simp] theorem State.answer_nocTime (r : Resp) : (s.answer r).nocTime = s.nocTime := rfl
@[simp] theorem State.answer_freeCtr (r : Resp) : (s.answer r).freeCtr = s.freeCtr := rfl
@[simp] theorem State.answer_drop (r : Resp) : (s.answer r).drop = s.drop := rfl
@[simp] theorem State.answer_ev (r : Resp) : (s.answer r).ev = s.ev := rfl
@[simp] theorem State.answer_heldFx (r : Resp) : (s.answer r).heldFx = s.heldFx := rfl
@[simp] theorem State.answer_out (r : Resp) : (s.answer r).out = s.out := rfl
@[simp] theorem State.answer_arbs (r : Resp) : (s.answer r).arbs = s.arbs := rfl
@[simp] theorem State.answer_noc (r : Resp) : (s.answer r).noc = s.noc := rfl
@[simp] theorem State.answer_leaseWin (r : Resp) : (s.answer r).leaseWin = s.leaseWin := rfl
@[simp] theorem State.answer_eng (r : Resp) : (s.answer r).eng = s.eng := rfl
@[simp] theorem State.answer_trio (r : Resp) : (s.answer r).trio = s.trio := rfl
@[simp] theorem State.answer_ecc (r : Resp) : (s.answer r).ecc = s.ecc := rfl
@[simp] theorem State.answer_pcs (r : Resp) : (s.answer r).pcs = s.pcs := rfl
@[simp] theorem State.answer_sec (r : Resp) : (s.answer r).sec = s.sec := rfl
@[simp] theorem State.answer_lanes (r : Resp) : (s.answer r).lanes = s.lanes := rfl
@[simp] theorem State.answer_bflash (r : Resp) : (s.answer r).bflash = s.bflash := rfl
@[simp] theorem State.answer_rgn (r : Resp) : (s.answer r).rgn = s.rgn := rfl
@[simp] theorem State.answer_slots (r : Resp) : (s.answer r).slots = s.slots := rfl
@[simp] theorem State.answer_integ (r : Resp) : (s.answer r).integ = s.integ := rfl
@[simp] theorem State.answer_cap (r : Resp) : (s.answer r).cap = s.cap := rfl
@[simp] theorem State.answer_fuses (r : Resp) : (s.answer r).fuses = s.fuses := rfl
@[simp] theorem State.answer_pins (r : Resp) : (s.answer r).pins = s.pins := rfl
@[simp] theorem State.answer_boot (r : Resp) : (s.answer r).boot = s.boot := rfl
@[simp] theorem State.answer_life (r : Resp) : (s.answer r).life = s.life := rfl
@[simp] theorem State.answer_cmx (r : Resp) : (s.answer r).cmx = s.cmx := rfl
@[simp] theorem State.answer_fab (r : Resp) : (s.answer r).fab = s.fab := rfl
@[simp] theorem State.answer_clk (r : Resp) : (s.answer r).clk = s.clk := rfl
@[simp] theorem State.answer_pwr (r : Resp) : (s.answer r).pwr = s.pwr := rfl
@[simp] theorem State.answer_mir (r : Resp) : (s.answer r).mir = s.mir := rfl
@[simp] theorem State.answer_latch (r : Resp) : (s.answer r).latch = s.latch := rfl
@[simp] theorem State.answer_xover (r : Resp) : (s.answer r).xover = s.xover := rfl
@[simp] theorem State.answer_xback (r : Resp) : (s.answer r).xback = s.xback := rfl
@[simp] theorem State.answer_hdma (r : Resp) : (s.answer r).hdma = s.hdma := rfl
@[simp] theorem State.answer_pci (r : Resp) : (s.answer r).pci = s.pci := rfl
@[simp] theorem State.answer_gpio (r : Resp) : (s.answer r).gpio = s.gpio := rfl
@[simp] theorem State.answer_dbg (r : Resp) : (s.answer r).dbg = s.dbg := rfl
@[simp] theorem State.answer_bist (r : Resp) : (s.answer r).bist = s.bist := rfl
@[simp] theorem State.answer_smb (r : Resp) : (s.answer r).smb = s.smb := rfl
@[simp] theorem State.answer_bspi (r : Resp) : (s.answer r).bspi = s.bspi := rfl
@[simp] theorem State.answer_pending (r : Resp) : (s.answer r).pending = s.pending := rfl

@[simp] theorem State.freeNext_flds : (s.freeNext).flds = s.flds := rfl
@[simp] theorem State.freeNext_held : (s.freeNext).held = s.held := rfl
@[simp] theorem State.freeNext_mem : (s.freeNext).mem = s.mem := rfl
@[simp] theorem State.freeNext_aonTicks : (s.freeNext).aonTicks = s.aonTicks := rfl
@[simp] theorem State.freeNext_nocTime : (s.freeNext).nocTime = s.nocTime := rfl
@[simp] theorem State.freeNext_resp : (s.freeNext).resp = s.resp := rfl
@[simp] theorem State.freeNext_drop : (s.freeNext).drop = s.drop := rfl
@[simp] theorem State.freeNext_ev : (s.freeNext).ev = s.ev := rfl
@[simp] theorem State.freeNext_heldFx : (s.freeNext).heldFx = s.heldFx := rfl
@[simp] theorem State.freeNext_out : (s.freeNext).out = s.out := rfl
@[simp] theorem State.freeNext_arbs : (s.freeNext).arbs = s.arbs := rfl
@[simp] theorem State.freeNext_noc : (s.freeNext).noc = s.noc := rfl
@[simp] theorem State.freeNext_leaseWin : (s.freeNext).leaseWin = s.leaseWin := rfl
@[simp] theorem State.freeNext_eng : (s.freeNext).eng = s.eng := rfl
@[simp] theorem State.freeNext_trio : (s.freeNext).trio = s.trio := rfl
@[simp] theorem State.freeNext_ecc : (s.freeNext).ecc = s.ecc := rfl
@[simp] theorem State.freeNext_pcs : (s.freeNext).pcs = s.pcs := rfl
@[simp] theorem State.freeNext_sec : (s.freeNext).sec = s.sec := rfl
@[simp] theorem State.freeNext_lanes : (s.freeNext).lanes = s.lanes := rfl
@[simp] theorem State.freeNext_bflash : (s.freeNext).bflash = s.bflash := rfl
@[simp] theorem State.freeNext_rgn : (s.freeNext).rgn = s.rgn := rfl
@[simp] theorem State.freeNext_slots : (s.freeNext).slots = s.slots := rfl
@[simp] theorem State.freeNext_integ : (s.freeNext).integ = s.integ := rfl
@[simp] theorem State.freeNext_cap : (s.freeNext).cap = s.cap := rfl
@[simp] theorem State.freeNext_fuses : (s.freeNext).fuses = s.fuses := rfl
@[simp] theorem State.freeNext_pins : (s.freeNext).pins = s.pins := rfl
@[simp] theorem State.freeNext_boot : (s.freeNext).boot = s.boot := rfl
@[simp] theorem State.freeNext_life : (s.freeNext).life = s.life := rfl
@[simp] theorem State.freeNext_cmx : (s.freeNext).cmx = s.cmx := rfl
@[simp] theorem State.freeNext_fab : (s.freeNext).fab = s.fab := rfl
@[simp] theorem State.freeNext_clk : (s.freeNext).clk = s.clk := rfl
@[simp] theorem State.freeNext_pwr : (s.freeNext).pwr = s.pwr := rfl
@[simp] theorem State.freeNext_mir : (s.freeNext).mir = s.mir := rfl
@[simp] theorem State.freeNext_latch : (s.freeNext).latch = s.latch := rfl
@[simp] theorem State.freeNext_xover : (s.freeNext).xover = s.xover := rfl
@[simp] theorem State.freeNext_xback : (s.freeNext).xback = s.xback := rfl
@[simp] theorem State.freeNext_hdma : (s.freeNext).hdma = s.hdma := rfl
@[simp] theorem State.freeNext_pci : (s.freeNext).pci = s.pci := rfl
@[simp] theorem State.freeNext_gpio : (s.freeNext).gpio = s.gpio := rfl
@[simp] theorem State.freeNext_dbg : (s.freeNext).dbg = s.dbg := rfl
@[simp] theorem State.freeNext_bist : (s.freeNext).bist = s.bist := rfl
@[simp] theorem State.freeNext_smb : (s.freeNext).smb = s.smb := rfl
@[simp] theorem State.freeNext_bspi : (s.freeNext).bspi = s.bspi := rfl
@[simp] theorem State.freeNext_pending : (s.freeNext).pending = s.pending := rfl

@[simp] theorem State.holdFx_flds (h : HeldFx) : (s.holdFx h).flds = s.flds := rfl
@[simp] theorem State.holdFx_held (h : HeldFx) : (s.holdFx h).held = s.held := rfl
@[simp] theorem State.holdFx_mem (h : HeldFx) : (s.holdFx h).mem = s.mem := rfl
@[simp] theorem State.holdFx_aonTicks (h : HeldFx) : (s.holdFx h).aonTicks = s.aonTicks := rfl
@[simp] theorem State.holdFx_nocTime (h : HeldFx) : (s.holdFx h).nocTime = s.nocTime := rfl
@[simp] theorem State.holdFx_freeCtr (h : HeldFx) : (s.holdFx h).freeCtr = s.freeCtr := rfl
@[simp] theorem State.holdFx_resp (h : HeldFx) : (s.holdFx h).resp = s.resp := rfl
@[simp] theorem State.holdFx_drop (h : HeldFx) : (s.holdFx h).drop = s.drop := rfl
@[simp] theorem State.holdFx_ev (h : HeldFx) : (s.holdFx h).ev = s.ev := rfl
@[simp] theorem State.holdFx_out (h : HeldFx) : (s.holdFx h).out = s.out := rfl
@[simp] theorem State.holdFx_arbs (h : HeldFx) : (s.holdFx h).arbs = s.arbs := rfl
@[simp] theorem State.holdFx_noc (h : HeldFx) : (s.holdFx h).noc = s.noc := rfl
@[simp] theorem State.holdFx_leaseWin (h : HeldFx) : (s.holdFx h).leaseWin = s.leaseWin := rfl
@[simp] theorem State.holdFx_eng (h : HeldFx) : (s.holdFx h).eng = s.eng := rfl
@[simp] theorem State.holdFx_trio (h : HeldFx) : (s.holdFx h).trio = s.trio := rfl
@[simp] theorem State.holdFx_ecc (h : HeldFx) : (s.holdFx h).ecc = s.ecc := rfl
@[simp] theorem State.holdFx_pcs (h : HeldFx) : (s.holdFx h).pcs = s.pcs := rfl
@[simp] theorem State.holdFx_sec (h : HeldFx) : (s.holdFx h).sec = s.sec := rfl
@[simp] theorem State.holdFx_lanes (h : HeldFx) : (s.holdFx h).lanes = s.lanes := rfl
@[simp] theorem State.holdFx_bflash (h : HeldFx) : (s.holdFx h).bflash = s.bflash := rfl
@[simp] theorem State.holdFx_rgn (h : HeldFx) : (s.holdFx h).rgn = s.rgn := rfl
@[simp] theorem State.holdFx_slots (h : HeldFx) : (s.holdFx h).slots = s.slots := rfl
@[simp] theorem State.holdFx_integ (h : HeldFx) : (s.holdFx h).integ = s.integ := rfl
@[simp] theorem State.holdFx_cap (h : HeldFx) : (s.holdFx h).cap = s.cap := rfl
@[simp] theorem State.holdFx_fuses (h : HeldFx) : (s.holdFx h).fuses = s.fuses := rfl
@[simp] theorem State.holdFx_pins (h : HeldFx) : (s.holdFx h).pins = s.pins := rfl
@[simp] theorem State.holdFx_boot (h : HeldFx) : (s.holdFx h).boot = s.boot := rfl
@[simp] theorem State.holdFx_life (h : HeldFx) : (s.holdFx h).life = s.life := rfl
@[simp] theorem State.holdFx_cmx (h : HeldFx) : (s.holdFx h).cmx = s.cmx := rfl
@[simp] theorem State.holdFx_fab (h : HeldFx) : (s.holdFx h).fab = s.fab := rfl
@[simp] theorem State.holdFx_clk (h : HeldFx) : (s.holdFx h).clk = s.clk := rfl
@[simp] theorem State.holdFx_pwr (h : HeldFx) : (s.holdFx h).pwr = s.pwr := rfl
@[simp] theorem State.holdFx_latch (h : HeldFx) : (s.holdFx h).latch = s.latch := rfl
@[simp] theorem State.holdFx_xover (h : HeldFx) : (s.holdFx h).xover = s.xover := rfl
@[simp] theorem State.holdFx_xback (h : HeldFx) : (s.holdFx h).xback = s.xback := rfl
@[simp] theorem State.holdFx_hdma (h : HeldFx) : (s.holdFx h).hdma = s.hdma := rfl
@[simp] theorem State.holdFx_pci (h : HeldFx) : (s.holdFx h).pci = s.pci := rfl
@[simp] theorem State.holdFx_gpio (h : HeldFx) : (s.holdFx h).gpio = s.gpio := rfl
@[simp] theorem State.holdFx_dbg (h : HeldFx) : (s.holdFx h).dbg = s.dbg := rfl
@[simp] theorem State.holdFx_bist (h : HeldFx) : (s.holdFx h).bist = s.bist := rfl
@[simp] theorem State.holdFx_smb (h : HeldFx) : (s.holdFx h).smb = s.smb := rfl
@[simp] theorem State.holdFx_bspi (h : HeldFx) : (s.holdFx h).bspi = s.bspi := rfl
@[simp] theorem State.holdFx_pending (h : HeldFx) : (s.holdFx h).pending = s.pending := rfl

@[simp] theorem State.pushFw_flds (r : EvRec) : (s.pushFw r).flds = s.flds := rfl
@[simp] theorem State.pushFw_held (r : EvRec) : (s.pushFw r).held = s.held := rfl
@[simp] theorem State.pushFw_mem (r : EvRec) : (s.pushFw r).mem = s.mem := rfl
@[simp] theorem State.pushFw_aonTicks (r : EvRec) : (s.pushFw r).aonTicks = s.aonTicks := rfl
@[simp] theorem State.pushFw_nocTime (r : EvRec) : (s.pushFw r).nocTime = s.nocTime := rfl
@[simp] theorem State.pushFw_freeCtr (r : EvRec) : (s.pushFw r).freeCtr = s.freeCtr := rfl
@[simp] theorem State.pushFw_resp (r : EvRec) : (s.pushFw r).resp = s.resp := rfl
@[simp] theorem State.pushFw_drop (r : EvRec) : (s.pushFw r).drop = s.drop := rfl
@[simp] theorem State.pushFw_heldFx (r : EvRec) : (s.pushFw r).heldFx = s.heldFx := rfl
@[simp] theorem State.pushFw_out (r : EvRec) : (s.pushFw r).out = s.out := rfl
@[simp] theorem State.pushFw_arbs (r : EvRec) : (s.pushFw r).arbs = s.arbs := rfl
@[simp] theorem State.pushFw_noc (r : EvRec) : (s.pushFw r).noc = s.noc := rfl
@[simp] theorem State.pushFw_leaseWin (r : EvRec) : (s.pushFw r).leaseWin = s.leaseWin := rfl
@[simp] theorem State.pushFw_eng (r : EvRec) : (s.pushFw r).eng = s.eng := rfl
@[simp] theorem State.pushFw_trio (r : EvRec) : (s.pushFw r).trio = s.trio := rfl
@[simp] theorem State.pushFw_ecc (r : EvRec) : (s.pushFw r).ecc = s.ecc := rfl
@[simp] theorem State.pushFw_pcs (r : EvRec) : (s.pushFw r).pcs = s.pcs := rfl
@[simp] theorem State.pushFw_sec (r : EvRec) : (s.pushFw r).sec = s.sec := rfl
@[simp] theorem State.pushFw_lanes (r : EvRec) : (s.pushFw r).lanes = s.lanes := rfl
@[simp] theorem State.pushFw_bflash (r : EvRec) : (s.pushFw r).bflash = s.bflash := rfl
@[simp] theorem State.pushFw_rgn (r : EvRec) : (s.pushFw r).rgn = s.rgn := rfl
@[simp] theorem State.pushFw_slots (r : EvRec) : (s.pushFw r).slots = s.slots := rfl
@[simp] theorem State.pushFw_integ (r : EvRec) : (s.pushFw r).integ = s.integ := rfl
@[simp] theorem State.pushFw_cap (r : EvRec) : (s.pushFw r).cap = s.cap := rfl
@[simp] theorem State.pushFw_fuses (r : EvRec) : (s.pushFw r).fuses = s.fuses := rfl
@[simp] theorem State.pushFw_pins (r : EvRec) : (s.pushFw r).pins = s.pins := rfl
@[simp] theorem State.pushFw_boot (r : EvRec) : (s.pushFw r).boot = s.boot := rfl
@[simp] theorem State.pushFw_life (r : EvRec) : (s.pushFw r).life = s.life := rfl
@[simp] theorem State.pushFw_cmx (r : EvRec) : (s.pushFw r).cmx = s.cmx := rfl
@[simp] theorem State.pushFw_fab (r : EvRec) : (s.pushFw r).fab = s.fab := rfl
@[simp] theorem State.pushFw_clk (r : EvRec) : (s.pushFw r).clk = s.clk := rfl
@[simp] theorem State.pushFw_pwr (r : EvRec) : (s.pushFw r).pwr = s.pwr := rfl
@[simp] theorem State.pushFw_mir (r : EvRec) : (s.pushFw r).mir = s.mir := rfl
@[simp] theorem State.pushFw_latch (r : EvRec) : (s.pushFw r).latch = s.latch := rfl
@[simp] theorem State.pushFw_xover (r : EvRec) : (s.pushFw r).xover = s.xover := rfl
@[simp] theorem State.pushFw_xback (r : EvRec) : (s.pushFw r).xback = s.xback := rfl
@[simp] theorem State.pushFw_hdma (r : EvRec) : (s.pushFw r).hdma = s.hdma := rfl
@[simp] theorem State.pushFw_pci (r : EvRec) : (s.pushFw r).pci = s.pci := rfl
@[simp] theorem State.pushFw_gpio (r : EvRec) : (s.pushFw r).gpio = s.gpio := rfl
@[simp] theorem State.pushFw_dbg (r : EvRec) : (s.pushFw r).dbg = s.dbg := rfl
@[simp] theorem State.pushFw_bist (r : EvRec) : (s.pushFw r).bist = s.bist := rfl
@[simp] theorem State.pushFw_smb (r : EvRec) : (s.pushFw r).smb = s.smb := rfl
@[simp] theorem State.pushFw_bspi (r : EvRec) : (s.pushFw r).bspi = s.bspi := rfl
@[simp] theorem State.pushFw_pending (r : EvRec) : (s.pushFw r).pending = s.pending := rfl

@[simp] theorem State.pushBoard_flds (r : EvRec) : (s.pushBoard r).flds = s.flds := rfl
@[simp] theorem State.pushBoard_held (r : EvRec) : (s.pushBoard r).held = s.held := rfl
@[simp] theorem State.pushBoard_mem (r : EvRec) : (s.pushBoard r).mem = s.mem := rfl
@[simp] theorem State.pushBoard_aonTicks (r : EvRec) : (s.pushBoard r).aonTicks = s.aonTicks := rfl
@[simp] theorem State.pushBoard_nocTime (r : EvRec) : (s.pushBoard r).nocTime = s.nocTime := rfl
@[simp] theorem State.pushBoard_freeCtr (r : EvRec) : (s.pushBoard r).freeCtr = s.freeCtr := rfl
@[simp] theorem State.pushBoard_resp (r : EvRec) : (s.pushBoard r).resp = s.resp := rfl
@[simp] theorem State.pushBoard_drop (r : EvRec) : (s.pushBoard r).drop = s.drop := rfl
@[simp] theorem State.pushBoard_heldFx (r : EvRec) : (s.pushBoard r).heldFx = s.heldFx := rfl
@[simp] theorem State.pushBoard_out (r : EvRec) : (s.pushBoard r).out = s.out := rfl
@[simp] theorem State.pushBoard_arbs (r : EvRec) : (s.pushBoard r).arbs = s.arbs := rfl
@[simp] theorem State.pushBoard_noc (r : EvRec) : (s.pushBoard r).noc = s.noc := rfl
@[simp] theorem State.pushBoard_leaseWin (r : EvRec) : (s.pushBoard r).leaseWin = s.leaseWin := rfl
@[simp] theorem State.pushBoard_eng (r : EvRec) : (s.pushBoard r).eng = s.eng := rfl
@[simp] theorem State.pushBoard_trio (r : EvRec) : (s.pushBoard r).trio = s.trio := rfl
@[simp] theorem State.pushBoard_ecc (r : EvRec) : (s.pushBoard r).ecc = s.ecc := rfl
@[simp] theorem State.pushBoard_pcs (r : EvRec) : (s.pushBoard r).pcs = s.pcs := rfl
@[simp] theorem State.pushBoard_sec (r : EvRec) : (s.pushBoard r).sec = s.sec := rfl
@[simp] theorem State.pushBoard_lanes (r : EvRec) : (s.pushBoard r).lanes = s.lanes := rfl
@[simp] theorem State.pushBoard_bflash (r : EvRec) : (s.pushBoard r).bflash = s.bflash := rfl
@[simp] theorem State.pushBoard_rgn (r : EvRec) : (s.pushBoard r).rgn = s.rgn := rfl
@[simp] theorem State.pushBoard_slots (r : EvRec) : (s.pushBoard r).slots = s.slots := rfl
@[simp] theorem State.pushBoard_integ (r : EvRec) : (s.pushBoard r).integ = s.integ := rfl
@[simp] theorem State.pushBoard_cap (r : EvRec) : (s.pushBoard r).cap = s.cap := rfl
@[simp] theorem State.pushBoard_fuses (r : EvRec) : (s.pushBoard r).fuses = s.fuses := rfl
@[simp] theorem State.pushBoard_pins (r : EvRec) : (s.pushBoard r).pins = s.pins := rfl
@[simp] theorem State.pushBoard_boot (r : EvRec) : (s.pushBoard r).boot = s.boot := rfl
@[simp] theorem State.pushBoard_life (r : EvRec) : (s.pushBoard r).life = s.life := rfl
@[simp] theorem State.pushBoard_cmx (r : EvRec) : (s.pushBoard r).cmx = s.cmx := rfl
@[simp] theorem State.pushBoard_fab (r : EvRec) : (s.pushBoard r).fab = s.fab := rfl
@[simp] theorem State.pushBoard_clk (r : EvRec) : (s.pushBoard r).clk = s.clk := rfl
@[simp] theorem State.pushBoard_pwr (r : EvRec) : (s.pushBoard r).pwr = s.pwr := rfl
@[simp] theorem State.pushBoard_mir (r : EvRec) : (s.pushBoard r).mir = s.mir := rfl
@[simp] theorem State.pushBoard_latch (r : EvRec) : (s.pushBoard r).latch = s.latch := rfl
@[simp] theorem State.pushBoard_xover (r : EvRec) : (s.pushBoard r).xover = s.xover := rfl
@[simp] theorem State.pushBoard_xback (r : EvRec) : (s.pushBoard r).xback = s.xback := rfl
@[simp] theorem State.pushBoard_hdma (r : EvRec) : (s.pushBoard r).hdma = s.hdma := rfl
@[simp] theorem State.pushBoard_pci (r : EvRec) : (s.pushBoard r).pci = s.pci := rfl
@[simp] theorem State.pushBoard_gpio (r : EvRec) : (s.pushBoard r).gpio = s.gpio := rfl
@[simp] theorem State.pushBoard_dbg (r : EvRec) : (s.pushBoard r).dbg = s.dbg := rfl
@[simp] theorem State.pushBoard_bist (r : EvRec) : (s.pushBoard r).bist = s.bist := rfl
@[simp] theorem State.pushBoard_smb (r : EvRec) : (s.pushBoard r).smb = s.smb := rfl
@[simp] theorem State.pushBoard_bspi (r : EvRec) : (s.pushBoard r).bspi = s.bspi := rfl
@[simp] theorem State.pushBoard_pending (r : EvRec) : (s.pushBoard r).pending = s.pending := rfl

@[simp] theorem State.answer_resp (r : Resp) : (s.answer r).resp = r := rfl
@[simp] theorem State.freeNext_freeCtr : s.freeNext.freeCtr = s.freeCtr + 1 := rfl
@[simp] theorem State.holdFx_heldFx (h : HeldFx) : (s.holdFx h).heldFx =
    if s.fenceFits h.bytes.length then s.heldFx ++ [{ h with epoch := s.openEpoch }] else s.heldFx := rfl

end Sys2Proof.Machine
end

