-- ==== Sys2Proof/Laws/Memory.lean ====
section
/-! SUPPORT. HBM: a read after a write, and that every memory operation keeps the canonical form. -/

namespace Sys2Proof.Machine

/-- A byte reads as it was written. -/
@[simp] theorem State.byte_setByte_self (s : State) (a : Nat) (b : Byte) : (s.setByte a b).byte a = b :=
  SMap.get_put_self ..

/-- A write of one byte leaves every other byte alone. -/
theorem State.byte_setByte_ne (s : State) {a c : Nat} (b : Byte) (h : a ≠ c) : (s.setByte a b).byte c = s.byte c :=
  SMap.get_put_ne _ _ _ h

theorem State.byte_setByte (s : State) (a c : Nat) (b : Byte) : (s.setByte a b).byte c = if c = a then b else s.byte c := by
  split
  · next h => rw [h, State.byte_setByte_self]
  · next h => exact State.byte_setByte_ne s b (Ne.symm h)

/-- A write of bytes leaves the bytes outside its range alone. -/
theorem State.byte_setBytes_ne (s : State) (a c : Nat) (l : List Byte) (h : c < a ∨ a + l.length ≤ c) :
    (s.setBytes a l).byte c = s.byte c := by
  induction l generalizing s a with
  | nil => rfl
  | cons x l ih =>
    rw [List.length_cons] at h
    rw [State.setBytes, ih _ _ (by omega), State.byte_setByte_ne _ _ (by omega)]

/-- A byte within the range of a write reads as the byte written there. -/
theorem State.byte_setBytes (s : State) (a i : Nat) (l : List Byte) (h : i < l.length) :
    (s.setBytes a l).byte (a + i) = l[i] := by
  induction l generalizing s a i with
  | nil => exact absurd h (Nat.not_lt_zero _)
  | cons x l ih =>
    cases i with
    | zero => rw [State.setBytes, State.byte_setBytes_ne _ _ _ _ (by omega)]; simp
    | succ i =>
      rw [State.setBytes, show a + (i + 1) = a + 1 + i by omega, ih _ _ _ (by simpa using h)]
      simp

/-- Bytes read as they were written. -/
theorem State.bytes_setBytes (s : State) (a : Nat) (l : List Byte) : (s.setBytes a l).bytes a l.length = l := by
  induction l generalizing s a with
  | nil => rfl
  | cons x l ih =>
    rw [State.setBytes, List.length_cons, State.bytes, ih, State.byte_setBytes_ne _ _ _ _ (by omega)]
    simp

/-- A write under byte enables leaves a byte outside its range alone. -/
theorem State.byte_setBytesEn_ne (s : State) (a c : Nat) (l : List Byte) (en : List Bool) (h : c < a ∨ a + l.length ≤ c) :
    (s.setBytesEn a l en).byte c = s.byte c := by
  induction l generalizing s a en with
  | nil => cases en <;> rfl
  | cons x l ih =>
    rw [List.length_cons] at h
    cases en with
    | nil => rw [State.setBytesEn, ih _ _ _ (by omega), State.byte_setByte_ne _ _ (by omega)]
    | cons e u =>
      rw [State.setBytesEn, ih _ _ _ (by omega)]
      split
      · exact State.byte_setByte_ne _ _ (by omega)
      · rfl

/-- Writing a byte keeps the canonical form. -/
theorem Memory.wf_setByte (s : State) (a : Nat) (b : Byte) (h : Memory.wf s.mem) : Memory.wf (s.setByte a b).mem :=
  SMap.wf_put _ _ _ h

/-- Writing bytes keeps the canonical form. -/
theorem Memory.wf_setBytes (s : State) (a : Nat) (l : List Byte) (h : Memory.wf s.mem) : Memory.wf (s.setBytes a l).mem := by
  induction l generalizing s a with
  | nil => exact h
  | cons x l ih => exact ih _ _ (Memory.wf_setByte s a x h)

/-- Writing bytes under enables keeps the canonical form. -/
theorem Memory.wf_setBytesEn (s : State) (a : Nat) (l : List Byte) (en : List Bool) (h : Memory.wf s.mem) :
    Memory.wf (s.setBytesEn a l en).mem := by
  induction l generalizing s a en with
  | nil => cases en <;> exact h
  | cons x l ih =>
    cases en with
    | nil => exact ih _ _ _ (Memory.wf_setByte s a x h)
    | cons e u =>
      refine ih _ _ _ ?_
      split
      · exact Memory.wf_setByte s a x h
      · exact h

/-- Entries dropped from a canonical memory leave a canonical memory. -/
theorem Memory.wf_filter (m : List Host.Cell) (f : Host.Cell → Bool) (h : Memory.wf m) : Memory.wf (m.filter f) :=
  ⟨h.1.filter _, fun e he => h.2 e (List.mem_filter.mp he).1⟩

/-- Empty HBM is canonical. -/
theorem Memory.wf_nil : Memory.wf [] := SMap.wf_nil _

end Sys2Proof.Machine
end

