-- ==== Sys2Proof/Laws/Ops.lean ====
section
/-! SUPPORT. What the shared operations do: register fields, the access check, the drop log, and raising an event. -/

namespace Sys2Proof.Machine

open Reg

/-! ## Register fields -/

/-- A field reads as it was written, truncated to its width. -/
theorem State.f_setF_self (s : State) (F : Fld) (v : Nat) : (s.setF F v).f F = v % 2 ^ F.w := SMap.get_put_self ..

/-- A field of the same place reads as the other was written. -/
theorem State.f_setF_key (s : State) {F G : Fld} (v : Nat) (h : F.key = G.key) : (s.setF F v).f G = v % 2 ^ F.w := by
  rw [← State.f_setF_self s F v]
  show SMap.get _ _ G.key = SMap.get _ _ F.key
  rw [h]

/-- A write of a field leaves every other field alone. -/
theorem State.f_setF_ne (s : State) {F G : Fld} (v : Nat) (h : F.key ≠ G.key) : (s.setF F v).f G = s.f G :=
  SMap.get_put_ne _ _ _ h

/-- A field written and another: what the second reads. -/
theorem State.f_setF (s : State) (F G : Fld) (v : Nat) :
    (s.setF F v).f G = if F.key = G.key then v % 2 ^ F.w else s.f G := by
  split
  · next h => exact State.f_setF_key s v h
  · next h => exact State.f_setF_ne s v h

/-- A field that returns to its reset value. -/
theorem State.f_clearF_self (s : State) (F : Fld) : (s.clearF F).f F = fieldReset F.key := SMap.get_put_self ..

theorem State.f_clearF_ne (s : State) {F G : Fld} (h : F.key ≠ G.key) : (s.clearF F).f G = s.f G :=
  SMap.get_put_ne _ _ _ h

/-- Fields depend on the register values alone. -/
theorem State.f_congr {s t : State} (h : t.flds = s.flds) (F : Fld) : t.f F = s.f F := by unfold State.f; rw [h]

theorem State.bit_congr {s t : State} (h : t.flds = s.flds) (F : Fld) : t.bit F = s.bit F := by
  unfold State.bit; rw [State.f_congr h]

@[simp] theorem State.f_answer (s : State) (r : Resp) (F : Fld) : (s.answer r).f F = s.f F := rfl
@[simp] theorem State.bit_answer (s : State) (r : Resp) (F : Fld) : (s.answer r).bit F = s.bit F := rfl
@[simp] theorem State.eff_answer (s : State) (r : Resp) (F : Fld) : (s.answer r).eff F = s.eff F := rfl
@[simp] theorem State.f_applyLive (s : State) (F G : Fld) : (s.applyLive F).f G = s.f G := rfl
@[simp] theorem State.f_freeNext (s : State) (F : Fld) : s.freeNext.f F = s.f F := rfl
@[simp] theorem State.f_setByte (s : State) (a : Nat) (b : Byte) (F : Fld) : (s.setByte a b).f F = s.f F := rfl

/-- No field written: nothing. -/
@[simp] theorem State.setFs_nil (s : State) : s.setFs [] = s := rfl

/-- Fields written in order. -/
theorem State.setFs_cons (s : State) (p : Fld × Nat) (l : List (Fld × Nat)) : s.setFs (p :: l) = (s.setF p.1 p.2).setFs l := rfl

/-- Fields written leave a field of another place alone. -/
theorem State.f_setFs_ne (s : State) (l : List (Fld × Nat)) (G : Fld) (h : ∀ p ∈ l, p.1.key ≠ G.key) :
    (s.setFs l).f G = s.f G := by
  induction l generalizing s with
  | nil => rfl
  | cons p l ih =>
    rw [State.setFs_cons, ih _ fun q hq => h q (List.mem_cons_of_mem _ hq), State.f_setF_ne _ _ (h p (by simp))]

/-- Until its safe boundary a LIVE field's value in force is the one before the write (00 R10). -/
theorem State.eff_writeLive_self (s : State) (F : Fld) (v : Nat) : (s.writeLive F v).eff F = s.eff F := by
  have h : (s.writeLive F v).held = SMap.put (fun _ => none) s.held F.key (some (s.eff F)) := rfl
  unfold State.eff at h ⊢
  rw [h, SMap.get_put_self]

/-- At its safe boundary a LIVE field's last value is in force. -/
theorem State.eff_applyLive_self (s : State) (F : Fld) : (s.applyLive F).eff F = s.f F := by
  unfold State.applyLive State.eff
  dsimp only
  rw [SMap.get_put_self]
  rfl

/-! ## The access check -/

/-- An access that the check lets through acts, and is answered. -/
theorem State.viaWrite_pass (s : State) (m : Master) (a : Nat) (act : State → State) (h : s.gate m a = .pass) :
    s.viaWrite m a act = act (s.answer (.ok 0)) := by unfold State.viaWrite; rw [h]

/-- An access that the check does not let through does only what the check says. -/
theorem State.viaWrite_refuse (s : State) (m : Master) (a : Nat) (act : State → State) (h : s.gate m a ≠ .pass) :
    s.viaWrite m a act = s.refuse m a (s.gate m a) := by
  unfold State.viaWrite
  generalize s.gate m a = g at h
  cases g with
  | pass => exact absurd rfl h
  | _ => rfl

/-- A log with room takes the entry as its last (15 R398). -/
theorem State.logDrop_room (s : State) (m : Master) (c : DropCause) (a : Nat) (h : s.drop.entries.length < 32) :
    s.logDrop m c a = { s with drop := { s.drop with entries := s.drop.entries ++ [⟨m.num, c, a⟩] } } := by
  unfold State.logDrop; rw [if_pos h]

/-- A full log loses the entry (15 R398). -/
theorem State.logDrop_full (s : State) (m : Master) (c : DropCause) (a : Nat) (h : 32 ≤ s.drop.entries.length) :
    s.logDrop m c a = { s with drop := { s.drop with lost := true } } := by
  unfold State.logDrop; rw [if_neg (Nat.not_lt.mpr h)]

@[simp] theorem State.f_logDrop (s : State) (m : Master) (c : DropCause) (a : Nat) (F : Fld) : (s.logDrop m c a).f F = s.f F := by
  unfold State.logDrop; split <;> rfl

@[simp] theorem State.f_dropWrite (s : State) (m : Master) (c : DropCause) (a : Nat) (F : Fld) :
    (s.dropWrite m c a).f F = s.f F := State.f_logDrop ..

/-! ## Raising an event: what it leaves alone -/


/-- Fields written change fields alone. -/
theorem State.setFs_only (s : State) (l : List (Fld × Nat)) : ∃ x, s.setFs l = { s with flds := x } := by
  induction l generalizing s with
  | nil => exact ⟨_, rfl⟩
  | cons p l ih => obtain ⟨x, h⟩ := ih (s.setF p.1 p.2); exact ⟨x, h⟩

theorem State.setPba_only (s : State) (fn v : Nat) (b : Bool) : ∃ x, s.setPba fn v b = { s with flds := x } := by
  simp only [State.setPba]
  (repeat' split) <;> exact ⟨_, rfl⟩

/-- Counters that count change fields alone. -/
theorem State.pmcBump_only (s : State) (ev arg n : Nat) : ∃ x, s.pmcBump ev arg n = { s with flds := x } := by
  unfold State.pmcBump
  induction List.range 8 generalizing s with
  | nil => exact ⟨_, rfl⟩
  | cons k l ih =>
    rw [List.foldl_cons]
    split
    · dsimp only
      obtain ⟨x, h⟩ := s.setFs_only _
      rw [h]
      exact ih _
    · exact ih s

theorem State.EvFrame.refl (s : State) : s.EvFrame s := rfl

theorem State.EvFrame.trans {s t u : State} (h1 : s.EvFrame t) (h2 : t.EvFrame u) : s.EvFrame u := by
  unfold State.EvFrame at *
  rw [h2, h1]

theorem State.EvFrame.flds (s : State) {x : SMap Nat} : s.EvFrame { s with flds := x } := rfl

theorem State.EvFrame.setFs (s : State) (l : List (Fld × Nat)) : s.EvFrame (s.setFs l) := by
  obtain ⟨x, h⟩ := s.setFs_only l; rw [h]; rfl

theorem State.EvFrame.setF (s : State) (F : Fld) (v : Nat) : s.EvFrame (s.setF F v) := rfl

theorem State.EvFrame.holdFx (s : State) (h : HeldFx) : s.EvFrame (s.holdFx h) := rfl

theorem State.EvFrame.evs (s : State) (e : Events) : s.EvFrame { s with ev := e } := rfl

theorem State.EvFrame.ite {s t u : State} (c : Prop) [Decidable c] (ht : s.EvFrame t) (hu : s.EvFrame u) :
    s.EvFrame (if c then t else u) := by split <;> assumption

/-- A vector raised: pended, held, or sent (15 R403, R404). -/
theorem State.EvFrame.msix (s : State) (fn v : Nat) : s.EvFrame (s.msix fn v) := by
  unfold State.msix
  split
  · rfl
  · split
    · obtain ⟨x, h⟩ := s.setPba_only fn v true
      rw [h]; rfl
    · rfl

/-- A record in a function's event ring (15 R402 to R404). -/
theorem State.EvFrame.ringPush (s : State) (fn : Nat) (r : EvRec) : s.EvFrame (s.ringPush fn r) := by
  unfold State.ringPush
  extract_lets seq pi ci e0 s1 r' b pi' s2 e1 s3 s4
  have h1 : s.EvFrame s1 := State.EvFrame.evs ..
  have h2 : s.EvFrame s3 := (h1.trans (State.EvFrame.setFs s1 _)).trans (State.EvFrame.evs ..)
  have h3 : s.EvFrame s4 := State.EvFrame.ite _ (h2.trans (State.EvFrame.holdFx ..)) (h2.trans (State.EvFrame.setF ..))
  split
  · exact h1
  · split
    · exact h3.trans (State.EvFrame.msix ..)
    · exact h3

theorem State.msix_ev (s : State) (fn v : Nat) : (s.msix fn v).ev = s.ev := by
  unfold State.msix
  split
  · rfl
  · split
    · obtain ⟨x, h⟩ := s.setPba_only fn v true
      rw [h]
    · rfl

theorem State.setFs_ev (s : State) (l : List (Fld × Nat)) : (s.setFs l).ev = s.ev := by
  obtain ⟨x, h⟩ := s.setFs_only l; rw [h]

/-- A record in an event ring leaves the firmware and board queues alone. -/
theorem State.ringPush_queues (s : State) (fn : Nat) (r : EvRec) :
    (s.ringPush fn r).ev.fw = s.ev.fw ∧ (s.ringPush fn r).ev.fwSeq = s.ev.fwSeq ∧
      (s.ringPush fn r).ev.board = s.ev.board ∧ (s.ringPush fn r).ev.boardSeq = s.ev.boardSeq := by
  unfold State.ringPush
  dsimp only
  split
  · exact ⟨rfl, rfl, rfl, rfl⟩
  · split
    · rw [State.msix_ev]
      split <;> simp [State.setFs_ev]
    · split <;> simp [State.setFs_ev]

/-- The parts of raising an event: firmware queue, counters, board queue, the physical function's ring, and at most one more
ring. -/
theorem State.raise_steps (s : State) (e : Ev) (tenant : Bool) (lease inst : Nat) :
    let ten := tenant && decide (lease ≠ 0)
    let r : EvRec := ⟨e, ten, if ten then lease else 0, inst, s.nocTime % 2 ^ 48, 0⟩
    let s1 := (s.pushFw r).pmcBump 3 e.code 1
    let s3 := (if !ten && decide (1 ≤ e.sev) then s1.pushBoard r else s1).ringPush 0 r
    s.raise e tenant lease inst = s3 ∨ ∃ fn, s.raise e tenant lease inst = s3.ringPush fn r := by
  intro ten r s1 s3
  unfold State.raise
  extract_lets
  split
  · split
    · exact .inr ⟨_, rfl⟩
    · exact .inl rfl
  · exact .inl rfl

/-- Raising an event changes registers (rings, counters), event queues, held effects and messages alone. -/
theorem State.EvFrame.raise (s : State) (e : Ev) (tenant : Bool) (lease inst : Nat) : s.EvFrame (s.raise e tenant lease inst) := by
  have hp : ∀ r, s.EvFrame ((s.pushFw r).pmcBump 3 e.code 1) := fun r => by
    obtain ⟨x, h⟩ := (s.pushFw r).pmcBump_only 3 e.code 1
    rw [h]; rfl
  unfold State.raise
  extract_lets ten r s1 s2 s3
  have h2 : s.EvFrame s2 := State.EvFrame.ite _ ((hp r).trans (State.EvFrame.evs ..)) (hp r)
  have h3 : s.EvFrame s3 := h2.trans (State.EvFrame.ringPush ..)
  split
  · split
    · exact h3.trans (State.EvFrame.ringPush ..)
    · exact h3
  · exact h3


theorem State.EvFrame.held {s t : State} (h : s.EvFrame t) : t.held = s.held := by rw [h]
@[simp] theorem State.raise_held (s : State) (e : Ev) (tenant : Bool) (lease inst : Nat) :
    (s.raise e tenant lease inst).held = s.held := (State.EvFrame.raise ..).held
theorem State.EvFrame.mem {s t : State} (h : s.EvFrame t) : t.mem = s.mem := by rw [h]
@[simp] theorem State.raise_mem (s : State) (e : Ev) (tenant : Bool) (lease inst : Nat) :
    (s.raise e tenant lease inst).mem = s.mem := (State.EvFrame.raise ..).mem
theorem State.EvFrame.aonTicks {s t : State} (h : s.EvFrame t) : t.aonTicks = s.aonTicks := by rw [h]
@[simp] theorem State.raise_aonTicks (s : State) (e : Ev) (tenant : Bool) (lease inst : Nat) :
    (s.raise e tenant lease inst).aonTicks = s.aonTicks := (State.EvFrame.raise ..).aonTicks
theorem State.EvFrame.nocTime {s t : State} (h : s.EvFrame t) : t.nocTime = s.nocTime := by rw [h]
@[simp] theorem State.raise_nocTime (s : State) (e : Ev) (tenant : Bool) (lease inst : Nat) :
    (s.raise e tenant lease inst).nocTime = s.nocTime := (State.EvFrame.raise ..).nocTime
theorem State.EvFrame.freeCtr {s t : State} (h : s.EvFrame t) : t.freeCtr = s.freeCtr := by rw [h]
@[simp] theorem State.raise_freeCtr (s : State) (e : Ev) (tenant : Bool) (lease inst : Nat) :
    (s.raise e tenant lease inst).freeCtr = s.freeCtr := (State.EvFrame.raise ..).freeCtr
theorem State.EvFrame.resp {s t : State} (h : s.EvFrame t) : t.resp = s.resp := by rw [h]
@[simp] theorem State.raise_resp (s : State) (e : Ev) (tenant : Bool) (lease inst : Nat) :
    (s.raise e tenant lease inst).resp = s.resp := (State.EvFrame.raise ..).resp
theorem State.EvFrame.drop {s t : State} (h : s.EvFrame t) : t.drop = s.drop := by rw [h]
@[simp] theorem State.raise_drop (s : State) (e : Ev) (tenant : Bool) (lease inst : Nat) :
    (s.raise e tenant lease inst).drop = s.drop := (State.EvFrame.raise ..).drop
theorem State.EvFrame.arbs {s t : State} (h : s.EvFrame t) : t.arbs = s.arbs := by rw [h]
@[simp] theorem State.raise_arbs (s : State) (e : Ev) (tenant : Bool) (lease inst : Nat) :
    (s.raise e tenant lease inst).arbs = s.arbs := (State.EvFrame.raise ..).arbs
theorem State.EvFrame.noc {s t : State} (h : s.EvFrame t) : t.noc = s.noc := by rw [h]
@[simp] theorem State.raise_noc (s : State) (e : Ev) (tenant : Bool) (lease inst : Nat) :
    (s.raise e tenant lease inst).noc = s.noc := (State.EvFrame.raise ..).noc
theorem State.EvFrame.leaseWin {s t : State} (h : s.EvFrame t) : t.leaseWin = s.leaseWin := by rw [h]
@[simp] theorem State.raise_leaseWin (s : State) (e : Ev) (tenant : Bool) (lease inst : Nat) :
    (s.raise e tenant lease inst).leaseWin = s.leaseWin := (State.EvFrame.raise ..).leaseWin
theorem State.EvFrame.eng {s t : State} (h : s.EvFrame t) : t.eng = s.eng := by rw [h]
@[simp] theorem State.raise_eng (s : State) (e : Ev) (tenant : Bool) (lease inst : Nat) :
    (s.raise e tenant lease inst).eng = s.eng := (State.EvFrame.raise ..).eng
theorem State.EvFrame.trio {s t : State} (h : s.EvFrame t) : t.trio = s.trio := by rw [h]
@[simp] theorem State.raise_trio (s : State) (e : Ev) (tenant : Bool) (lease inst : Nat) :
    (s.raise e tenant lease inst).trio = s.trio := (State.EvFrame.raise ..).trio
theorem State.EvFrame.ecc {s t : State} (h : s.EvFrame t) : t.ecc = s.ecc := by rw [h]
@[simp] theorem State.raise_ecc (s : State) (e : Ev) (tenant : Bool) (lease inst : Nat) :
    (s.raise e tenant lease inst).ecc = s.ecc := (State.EvFrame.raise ..).ecc
theorem State.EvFrame.pcs {s t : State} (h : s.EvFrame t) : t.pcs = s.pcs := by rw [h]
@[simp] theorem State.raise_pcs (s : State) (e : Ev) (tenant : Bool) (lease inst : Nat) :
    (s.raise e tenant lease inst).pcs = s.pcs := (State.EvFrame.raise ..).pcs
theorem State.EvFrame.sec {s t : State} (h : s.EvFrame t) : t.sec = s.sec := by rw [h]
@[simp] theorem State.raise_sec (s : State) (e : Ev) (tenant : Bool) (lease inst : Nat) :
    (s.raise e tenant lease inst).sec = s.sec := (State.EvFrame.raise ..).sec
theorem State.EvFrame.lanes {s t : State} (h : s.EvFrame t) : t.lanes = s.lanes := by rw [h]
@[simp] theorem State.raise_lanes (s : State) (e : Ev) (tenant : Bool) (lease inst : Nat) :
    (s.raise e tenant lease inst).lanes = s.lanes := (State.EvFrame.raise ..).lanes
theorem State.EvFrame.bflash {s t : State} (h : s.EvFrame t) : t.bflash = s.bflash := by rw [h]
@[simp] theorem State.raise_bflash (s : State) (e : Ev) (tenant : Bool) (lease inst : Nat) :
    (s.raise e tenant lease inst).bflash = s.bflash := (State.EvFrame.raise ..).bflash
theorem State.EvFrame.rgn {s t : State} (h : s.EvFrame t) : t.rgn = s.rgn := by rw [h]
@[simp] theorem State.raise_rgn (s : State) (e : Ev) (tenant : Bool) (lease inst : Nat) :
    (s.raise e tenant lease inst).rgn = s.rgn := (State.EvFrame.raise ..).rgn
theorem State.EvFrame.slots {s t : State} (h : s.EvFrame t) : t.slots = s.slots := by rw [h]
@[simp] theorem State.raise_slots (s : State) (e : Ev) (tenant : Bool) (lease inst : Nat) :
    (s.raise e tenant lease inst).slots = s.slots := (State.EvFrame.raise ..).slots
theorem State.EvFrame.integ {s t : State} (h : s.EvFrame t) : t.integ = s.integ := by rw [h]
@[simp] theorem State.raise_integ (s : State) (e : Ev) (tenant : Bool) (lease inst : Nat) :
    (s.raise e tenant lease inst).integ = s.integ := (State.EvFrame.raise ..).integ
theorem State.EvFrame.cap {s t : State} (h : s.EvFrame t) : t.cap = s.cap := by rw [h]
@[simp] theorem State.raise_cap (s : State) (e : Ev) (tenant : Bool) (lease inst : Nat) :
    (s.raise e tenant lease inst).cap = s.cap := (State.EvFrame.raise ..).cap
theorem State.EvFrame.fuses {s t : State} (h : s.EvFrame t) : t.fuses = s.fuses := by rw [h]
@[simp] theorem State.raise_fuses (s : State) (e : Ev) (tenant : Bool) (lease inst : Nat) :
    (s.raise e tenant lease inst).fuses = s.fuses := (State.EvFrame.raise ..).fuses
theorem State.EvFrame.pins {s t : State} (h : s.EvFrame t) : t.pins = s.pins := by rw [h]
@[simp] theorem State.raise_pins (s : State) (e : Ev) (tenant : Bool) (lease inst : Nat) :
    (s.raise e tenant lease inst).pins = s.pins := (State.EvFrame.raise ..).pins
theorem State.EvFrame.boot {s t : State} (h : s.EvFrame t) : t.boot = s.boot := by rw [h]
@[simp] theorem State.raise_boot (s : State) (e : Ev) (tenant : Bool) (lease inst : Nat) :
    (s.raise e tenant lease inst).boot = s.boot := (State.EvFrame.raise ..).boot
theorem State.EvFrame.life {s t : State} (h : s.EvFrame t) : t.life = s.life := by rw [h]
@[simp] theorem State.raise_life (s : State) (e : Ev) (tenant : Bool) (lease inst : Nat) :
    (s.raise e tenant lease inst).life = s.life := (State.EvFrame.raise ..).life
theorem State.EvFrame.cmx {s t : State} (h : s.EvFrame t) : t.cmx = s.cmx := by rw [h]
@[simp] theorem State.raise_cmx (s : State) (e : Ev) (tenant : Bool) (lease inst : Nat) :
    (s.raise e tenant lease inst).cmx = s.cmx := (State.EvFrame.raise ..).cmx
theorem State.EvFrame.fab {s t : State} (h : s.EvFrame t) : t.fab = s.fab := by rw [h]
@[simp] theorem State.raise_fab (s : State) (e : Ev) (tenant : Bool) (lease inst : Nat) :
    (s.raise e tenant lease inst).fab = s.fab := (State.EvFrame.raise ..).fab
theorem State.EvFrame.clk {s t : State} (h : s.EvFrame t) : t.clk = s.clk := by rw [h]
@[simp] theorem State.raise_clk (s : State) (e : Ev) (tenant : Bool) (lease inst : Nat) :
    (s.raise e tenant lease inst).clk = s.clk := (State.EvFrame.raise ..).clk
theorem State.EvFrame.pwr {s t : State} (h : s.EvFrame t) : t.pwr = s.pwr := by rw [h]
@[simp] theorem State.raise_pwr (s : State) (e : Ev) (tenant : Bool) (lease inst : Nat) :
    (s.raise e tenant lease inst).pwr = s.pwr := (State.EvFrame.raise ..).pwr
theorem State.EvFrame.latch {s t : State} (h : s.EvFrame t) : t.latch = s.latch := by rw [h]
@[simp] theorem State.raise_latch (s : State) (e : Ev) (tenant : Bool) (lease inst : Nat) :
    (s.raise e tenant lease inst).latch = s.latch := (State.EvFrame.raise ..).latch
theorem State.EvFrame.xover {s t : State} (h : s.EvFrame t) : t.xover = s.xover := by rw [h]
@[simp] theorem State.raise_xover (s : State) (e : Ev) (tenant : Bool) (lease inst : Nat) :
    (s.raise e tenant lease inst).xover = s.xover := (State.EvFrame.raise ..).xover
theorem State.EvFrame.hdma {s t : State} (h : s.EvFrame t) : t.hdma = s.hdma := by rw [h]
@[simp] theorem State.raise_hdma (s : State) (e : Ev) (tenant : Bool) (lease inst : Nat) :
    (s.raise e tenant lease inst).hdma = s.hdma := (State.EvFrame.raise ..).hdma
theorem State.EvFrame.pci {s t : State} (h : s.EvFrame t) : t.pci = s.pci := by rw [h]
@[simp] theorem State.raise_pci (s : State) (e : Ev) (tenant : Bool) (lease inst : Nat) :
    (s.raise e tenant lease inst).pci = s.pci := (State.EvFrame.raise ..).pci
theorem State.EvFrame.gpio {s t : State} (h : s.EvFrame t) : t.gpio = s.gpio := by rw [h]
@[simp] theorem State.raise_gpio (s : State) (e : Ev) (tenant : Bool) (lease inst : Nat) :
    (s.raise e tenant lease inst).gpio = s.gpio := (State.EvFrame.raise ..).gpio
theorem State.EvFrame.dbg {s t : State} (h : s.EvFrame t) : t.dbg = s.dbg := by rw [h]
@[simp] theorem State.raise_dbg (s : State) (e : Ev) (tenant : Bool) (lease inst : Nat) :
    (s.raise e tenant lease inst).dbg = s.dbg := (State.EvFrame.raise ..).dbg
theorem State.EvFrame.bist {s t : State} (h : s.EvFrame t) : t.bist = s.bist := by rw [h]
@[simp] theorem State.raise_bist (s : State) (e : Ev) (tenant : Bool) (lease inst : Nat) :
    (s.raise e tenant lease inst).bist = s.bist := (State.EvFrame.raise ..).bist
theorem State.EvFrame.smb {s t : State} (h : s.EvFrame t) : t.smb = s.smb := by rw [h]
@[simp] theorem State.raise_smb (s : State) (e : Ev) (tenant : Bool) (lease inst : Nat) :
    (s.raise e tenant lease inst).smb = s.smb := (State.EvFrame.raise ..).smb
theorem State.EvFrame.bspi {s t : State} (h : s.EvFrame t) : t.bspi = s.bspi := by rw [h]
@[simp] theorem State.raise_bspi (s : State) (e : Ev) (tenant : Bool) (lease inst : Nat) :
    (s.raise e tenant lease inst).bspi = s.bspi := (State.EvFrame.raise ..).bspi
theorem State.EvFrame.pending {s t : State} (h : s.EvFrame t) : t.pending = s.pending := by rw [h]
@[simp] theorem State.raise_pending (s : State) (e : Ev) (tenant : Bool) (lease inst : Nat) :
    (s.raise e tenant lease inst).pending = s.pending := (State.EvFrame.raise ..).pending

end Sys2Proof.Machine
end

