-- ==== Sys2Proof/Laws/Commands.lean ====
section
/-! SUPPORT. Lemmas about the shared operations and conditions that the statements name. -/

set_option linter.all false

namespace Sys2Proof.Laws.Commands

open Sys2Proof Sys2Proof.Machine Sys2Proof.Machine.Reg Sys2Proof.Certificates.Slice0

/-! RegisterWritesJudgeEachField -/

theorem mgmtWrite_pass {s : State} {m : Master} {a v aux : Nat} {k ix b} (hg : s.gate m a = .pass) (hh : isHbm a = false) (hb : blockOf a = some b)
  (hf : b ≠ .FAB) (h4 : a % 4 = 0) (hd : decodeReg a = some (k, ix)) (hx : k.expert = false)
  (hid : k.id ≠ .HUB_ATTN ∧ k.id ≠ .MBX_H2F_DB ∧ k.id ≠ .HUB_LC_CMD ∧ k.id ≠ .DBG_STIM) :
  s.mgmtWrite m a v 4 aux = (s.answer (.ok 0)).regAct m k ix a v aux := by
  obtain ⟨h1, h2, h3, h5⟩ := hid
  cases m with
  | tenant l => simp [State.gate] at hg
  | _ =>
    simp only [State.mgmtWrite, hh, hb, hf, h4, hd]
    simp only [Bool.false_eq_true, if_false, false_and, ne_eq, not_true_eq_false, or_self]
    split <;> first
      | contradiction
      | (rw [hg]; simp [hx])

theorem logDrop_committed (u : State) (m : Master) (a : Nat) : (u.logDrop m .bootLocked a).committed = u.committed := by
  unfold State.logDrop; split <;> rfl

/-! LoadControlCommands -/

theorem onUnit_ready {s : State} {n o k : Nat} (h : stagedUnit s n o k = true) (act : State → State) :
    s.onUnit n (s.bodyUnit n o k) o k act = act s := by
  simp only [stagedUnit, Bool.and_eq_true, decide_eq_true_eq, List.isEmpty_iff] at h
  have e : s.eccReadRange stageMacro (stageRows n o k).1 (stageRows n o k).2 = (s, false) := by
    simp [State.eccReadRange, h.2]
  simp [State.onUnit, h.1, State.staged, e]

theorem bodyOp_at {s : State} {n op c : Nat} (h : commandAt s n op c = true) (act : Nat → State → State) :
    s.bodyOp n op act = act c s := by
  simp only [commandAt, Bool.and_eq_true, decide_eq_true_eq, Option.isNone_iff_eq_none] at h
  obtain ⟨⟨⟨h1, h2⟩, h3⟩, h4, h5, h6⟩ := h
  unfold State.bodyOp
  simp only [h1, h2, onUnit_ready h3, h4]
  have e1 : (op * 2 ^ 24 + c) / 2 ^ 24 = op := by omega
  have e2 : (op * 2 ^ 24 + c) % 2 ^ 24 = c := by omega
  rw [e1, e2]
  have e3 : bodyOps.contains op = true := by rw [List.contains_iff_mem]; exact h6
  simp [h6]

theorem staged_ready {s : State} {n o k : Nat} (h : stagedUnit s n o k = true) (act : State → State) :
    s.staged n o k act = act s := by
  simp only [stagedUnit, Bool.and_eq_true, decide_eq_true_eq, List.isEmpty_iff] at h
  have e : s.eccReadRange stageMacro (stageRows n o k).1 (stageRows n o k).2 = (s, false) := by
    simp [State.eccReadRange, h.2]
  simp [State.staged, e]

/-! EngineInstructionsIssue -/

theorem engIssue_run {s : State} {e : Nat} {is : Issue} {op : EngOp} (hI : engIssues s e is) (hc : op = .nop ∨ engCond s e is)
    (hi : op.illegal = none) (hn : (engAtEnd s e is && op.noEnd) = false) :
    s.engIssue e is op = match runOp e (engFetched s e is) op with
      | .next u ue => if op.noEnd then u.engDone e (s.engPc e) ((s.engPc e + 1) % 4096) ue true else engGoesOn s u e ue
      | r => engEnds s e is op r := by
  obtain ⟨h1, h2, h3, h4⟩ := hI
  unfold State.engIssue
  have hcl : s.engClocked e = true := decide_eq_true h3
  rw [if_neg (by rw [h1, h2, hcl]; simp)]
  unfold State.engRun
  have hn' : (((List.range ((s.count (ENG_CYCLES_COUNT (e / 3) (e % 3)) is.cyc).ldepth e)).any fun i => decide (((s.count (ENG_CYCLES_COUNT (e / 3) (e % 3)) is.cyc).engAt e).loopEnd i = s.engPc e)) && op.noEnd) = false := hn
  have h4' : ¬ (s.count (ENG_CYCLES_COUNT (e / 3) (e % 3)) is.cyc).rowErr e (0x4000 + s.engPc e) = 2 := h4
  simp only [h4', if_false, hi, hn']
  have c1 : ¬ (op ≠ .nop ∧ is.cond = 15) := fun h => hc.elim h.1 (fun q => q.1 h.2)
  have c2 : ¬ (op ≠ .nop ∧ (!(engFetched s e is).condHolds e is.cond) = true) := fun h => hc.elim h.1 (fun q => by rw [q.2] at h; simp at h)
  unfold engFetched engCounted at c2
  simp only [c1, c2, if_false, Bool.false_eq_true]
  unfold engFetched engCounted
  cases hr : runOp e ((s.count (ENG_CYCLES_COUNT (e / 3) (e % 3)) is.cyc).rowSee e (0x4000 + s.engPc e)) op with
  | next u ue => cases hno : op.noEnd <;> simp [engGoesOn]
  | _ => simp [engEnds, engFetched, engCounted]

theorem engEnds_next (s u : State) (e : Nat) (is : Issue) (op : EngOp) (ue : Bool) : engEnds s e is op (.next u ue) = engGoesOn s u e ue := rfl

theorem engIssue_ends {s : State} {e : Nat} {is : Issue} {op : EngOp} (hI : engIssues s e is) (hc : op = .nop ∨ engCond s e is)
    (hi : op.illegal = none) (hn : op.noEnd = false) :
    s.engIssue e is op = engEnds s e is op (runOp e (engFetched s e is) op) := by
  rw [engIssue_run hI hc hi (by rw [hn]; cases engAtEnd s e is <;> rfl)]
  generalize runOp e (engFetched s e is) op = r
  cases r with
  | next u ue => exact (if_neg (by rw [hn]; decide)).trans (engEnds_next ..).symm
  | _ => rfl

theorem engIssue_ends_noEnd {s : State} {e : Nat} {is : Issue} {op : EngOp} (hI : engIssues s e is) (hc : op = .nop ∨ engCond s e is)
    (hi : op.illegal = none) (hn : op.noEnd = true) (ha : engAtEnd s e is = false) :
    s.engIssue e is op = match runOp e (engFetched s e is) op with
      | .next u ue => u.engDone e (s.engPc e) ((s.engPc e + 1) % 4096) ue true
      | r => engEnds s e is op r := by
  rw [engIssue_run hI hc hi (by rw [ha]; rfl)]
  generalize runOp e (engFetched s e is) op = r
  cases r with
  | next u ue => exact if_pos hn
  | _ => rfl

theorem engEnds_wait (s : State) (e : Nat) (is : Issue) (op : EngOp) : engEnds s e is op .wait = (engFetched s e is).updEng e fun g => { g with stall := some (.retry is op) } := rfl
theorem engEnds_exc (s u : State) (e : Nat) (is : Issue) (op : EngOp) (c d : Nat) : engEnds s e is op (.exc u c d) = u.engFault e c d := rfl
theorem engEnds_halt (s u : State) (e : Nat) (is : Issue) (op : EngOp) (c : Nat) : engEnds s e is op (.halt u c) = u.engHalt e c := rfl
theorem engEnds_jump (s u : State) (e : Nat) (is : Issue) (op : EngOp) (c : Nat) : engEnds s e is op (.jump u c) = u.engDone e (s.engPc e) c false true := rfl

theorem ite_none_of_false {p : Bool} {n : Nat} (h : p = false) : (if p = true then some n else none) = none := by rw [h]; rfl
theorem and_false_bool {a : Bool} : (a && false) = false := by cases a <;> rfl

/-! ControllerQueueCommands -/

theorem dmcCommandSlot_open {s : State} {n : Nat} {busy : List Nat} (h0 : slotOpen s n busy) : exec (.dmcCommandSlot n busy) s = .next (
    match slotHazard s n busy with
    | some (true, b) => (((slotTurned s n busy).issueWrite n b).pcAdmit n 8).pcReeled n
    | some (false, b) => ((slotTurned s n busy).issueRead n b).pcAdmit n 8
    | none =>
      match (if s.writeTurn n (s.pcAt n) (!(slotReads s n busy).isEmpty) = 0 then none else (slotTurned s n busy).pick n { s.pcAt n with turn := s.writeTurn n (s.pcAt n) (!(slotReads s n busy).isEmpty) } (slotWrites s n busy)) with
      | some b => (((slotTurned s n busy).issueWrite n b).pcAdmit n 8).pcReeled n
      | none =>
        let u := slotAsked s n busy
        let own := match (u.arb (.pc n)).owner with
          | some o => u.pick n { s.pcAt n with turn := s.writeTurn n (s.pcAt n) (!(slotReads s n busy).isEmpty) } ((slotReads s n busy).filter fun b => decide (b.port = o.idx))
          | none => none
        match own with
        | some b =>
          let t := u.issueRead n b
          (t.arbBeat (.pc n) ((slotReads s n busy).any fun x => decide (x.port = b.port ∧ x.age ≠ b.age))).pcAdmit n 8
        | none => u.refreshSlot n busy) := by
  refine congrArg Host.Outcome.next ((if_neg (fun h => h h0.1)).trans ((if_neg (Nat.not_le.mpr h0.2.1)).trans ?_))
  simp only [h0.2.2]
  rfl

/-! KeySlotAndEncryptionCommands -/

theorem encCheck_eq (s : State) (e : Nat) (p : Packet) (rd : Bool) (go : State → State) : s.encCheck e p rd go = match s.encClosed p.key rd with
  | some st => s.respond p st []
  | none =>
    match s.encPcRefusal e p rd with
    | some st => s.respond p st []
    | none => go s := rfl
theorem encCheck_closed_none (x y : Option Nat) (s : State) (p : Packet) (go : State → State) : x = none → (match x with
  | some st => s.respond p st []
  | none =>
    match y with
    | some st => s.respond p st []
    | none => go s) = match y with
    | some st => s.respond p st []
    | none => go s := by intro h; rw [h]
theorem encCheck_pc_none (y : Option Nat) (s : State) (p : Packet) (go : State → State) : y = none → (match y with
    | some st => s.respond p st []
    | none => go s) = go s := by intro h; rw [h]
theorem encCheck_closed_some (x y : Option Nat) (s : State) (p : Packet) (go : State → State) (st : Nat) : x = some st → (match x with
  | some st => s.respond p st []
  | none =>
    match y with
    | some st => s.respond p st []
    | none => go s) = s.respond p st [] := by intro h; rw [h]
theorem encCheck_pass {s : State} {e : Nat} {p : Packet} {rd : Bool} (go : State → State) (h2 : s.encClosed p.key rd = none) (h3 : s.encPcRefusal e p rd = none) : s.encCheck e p rd go = go s :=
  (encCheck_eq s e p rd go).trans ((encCheck_closed_none _ _ s p go h2).trans (encCheck_pc_none _ s p go h3))
theorem encCheck_refused {s : State} {e : Nat} {p : Packet} {rd : Bool} {st : Nat} (go : State → State) (h2 : s.encClosed p.key rd = some st) : s.encCheck e p rd go = s.respond p st [] :=
  (encCheck_eq s e p rd go).trans (encCheck_closed_some _ _ s p go st h2)

/-! ClockCommands -/

theorem freqWrite_idle {s : State} {p f0 f1 : Nat} (h2 : planned p = true) (h3 : ¬ (freqClamp p f0 = s.f (CLK_PLL_CFG_FREQ0_MHZ p) ∧ (64 < p ∨ freqClamp p f1 = s.f (CLK_PLL_CFG_FREQ1_MHZ p)))) (h4 : ¬ (s.pllState p = 2 ∨ s.pllState p = 3 ∨ s.pllState p = 4)) : s.freqWrite p f0 f1 = (
      let t := s.setF (CLK_PLL_CFG_FREQ0_MHZ p) (freqClamp p f0)
      let t := if p ≤ 64 then t.setF (CLK_PLL_CFG_FREQ1_MHZ p) (freqClamp p f1) else t
      t.pllShow p) := by
  have e := decide_eq_false h4
  simp only [State.freqWrite, h2, e, decide_eq_true_eq, if_neg h3, Bool.false_eq_true, if_false, Bool.not_true, if_true]

theorem freqWrite_running {s : State} {p f0 f1 : Nat} (h2 : planned p = true) (h3 : ¬ (freqClamp p f0 = s.f (CLK_PLL_CFG_FREQ0_MHZ p) ∧ (64 < p ∨ freqClamp p f1 = s.f (CLK_PLL_CFG_FREQ1_MHZ p)))) (h4 : (s.pllState p = 2 ∨ s.pllState p = 3 ∨ s.pllState p = 4)) : s.freqWrite p f0 f1 = (
      let t := s.writeLive (CLK_PLL_CFG_FREQ0_MHZ p) (freqClamp p f0)
      let t := if p ≤ 64 then t.writeLive (CLK_PLL_CFG_FREQ1_MHZ p) (freqClamp p f1) else t
      (t.pllShow p).hop p) := by
  have e := decide_eq_true h4
  simp only [State.freqWrite, h2, e, decide_eq_true_eq, if_neg h3, Bool.false_eq_true, if_false, Bool.not_true, if_true]

/-! PowerThermalAndLifecycleCommands -/

theorem lcWrite_pass {s : State} {m : Master} (cmd idx : Nat) (h1 : s.gate m HUB_LC_CMD = .pass) : s.lcWrite m cmd idx = (s.answer (.ok 0)).lcCmd cmd idx := by
  unfold State.lcWrite
  split
  · rfl
  · exact State.viaWrite_pass _ _ _ _ h1
theorem lcCmd_busy {s : State} (cmd idx : Nat) (h2 : s.bit HUB_LC_STATUS_BUSY = true) : s.lcCmd cmd idx = s.busy HUB_LC_STATUS_FIELD_BUSY := if_pos h2
theorem lcCmd_rejected {s : State} (cmd idx : Nat) (h : ¬ (cmd = 0 ∨ 6 ≤ cmd)) (h2 : s.bit HUB_LC_STATUS_BUSY = false) (h3 : s.lcCheck cmd idx ≠ 0) : s.lcCmd cmd idx = s.lcEnd cmd (s.lcCheck cmd idx) :=
  (if_neg (by rw [h2]; decide)).trans ((if_neg h).trans (if_pos h3))
theorem lcCmd_accepted {s : State} (cmd idx : Nat) (h : ¬ (cmd = 0 ∨ 6 ≤ cmd)) (h2 : s.bit HUB_LC_STATUS_BUSY = false) (h3 : s.lcCheck cmd idx = 0) : s.lcCmd cmd idx = { s.setFs [(HUB_LC_STATUS_BUSY, 1), (HUB_LC_STATUS_ERR, 0)] with life := ⟨cmd, idx⟩ } :=
  (if_neg (by rw [h2]; decide)).trans ((if_neg h).trans (if_neg (fun q => q h3)))

/-! HubCommands -/

theorem recover_serves {s : State} {opc : Nat} {serve : State → State × Option (List Byte)} {u : State} {d : List Byte} (h1 : s.recReady = true)
    (h2 : s.h2fWord (s.f (MBX_H2F_CI_CI 0)) 0 % 65536 = opc)
    (h3 : serve (s.setF (MBX_H2F_CI_CI 0) (s.f (MBX_H2F_CI_CI 0) + 1)) = (u, some d)) :
    s.recover opc serve = u.f2hPut opc 1 (s.h2fWord (s.f (MBX_H2F_CI_CI 0)) 1) d := by
  subst h2
  unfold State.recover
  simp only [h1, h3, Bool.not_true, Bool.false_eq_true, if_false, if_true]
theorem recover_idle {s : State} {opc : Nat} {serve : State → State × Option (List Byte)} (h1 : s.recReady = false) : s.recover opc serve = s := by
  unfold State.recover
  simp only [h1, Bool.not_false, if_true]

/-! HostDmaSmbusAndFlashCommands -/

theorem bspiGo_busy {s : State} (op cnt : Nat) (h : s.bit HUB_BSPI_STATUS_BUSY = true) : s.bspiGo op cnt = s.busy HUB_BSPI_STATUS_FIELD_BUSY := if_pos h
theorem bspiGo_booting {s : State} (op cnt : Nat) (h : s.bit HUB_BSPI_STATUS_BUSY = false) (h2 : s.pins.cfgDone = false) : s.bspiGo op cnt = s.bspiDone 2 :=
  (if_neg (by rw [h]; decide)).trans (if_pos (by rw [h2]; rfl))
theorem bspiGo_read {s : State} (cnt : Nat) (h : s.bit HUB_BSPI_STATUS_BUSY = false) (h2 : s.pins.cfgDone = true) : s.bspiGo 1 cnt = { s with bspi := some (1, cnt) }.setFs [(HUB_BSPI_STATUS_ERR, 0), (HUB_BSPI_STATUS_BUSY, 1)] :=
  (if_neg (by rw [h]; decide)).trans ((if_neg (by rw [h2]; decide)).trans ((if_neg (fun q => absurd q.1 (by decide))).trans (if_neg (fun q => absurd q.1 (by decide)))))
theorem bspiGo_belowFloor {s : State} (op cnt : Nat) (h : s.bit HUB_BSPI_STATUS_BUSY = false) (h2 : s.pins.cfgDone = true) (h3 : s.bit HUB_SUPPLY_NV_OK = false) (h4 : 2 ≤ op) : s.bspiGo op cnt = s.bspiDone 1 :=
  (if_neg (by rw [h]; decide)).trans ((if_neg (by rw [h2]; decide)).trans (if_pos ⟨h4, by rw [h3]; rfl⟩))
theorem bspiGo_program {s : State} (cnt : Nat) (h : s.bit HUB_BSPI_STATUS_BUSY = false) (h2 : s.pins.cfgDone = true) (h3 : s.bit HUB_SUPPLY_NV_OK = true) :
    s.bspiGo 2 cnt = if 256 < s.f HUB_BSPI_ADDR_ADDR % 256 + cnt + 1 then s.bspiDone 4 else { s with bspi := some (2, cnt) }.setFs [(HUB_BSPI_STATUS_ERR, 0), (HUB_BSPI_STATUS_BUSY, 1)] := by
  refine (if_neg (by rw [h]; decide)).trans ((if_neg (by rw [h2]; decide)).trans ((if_neg (fun q => by rw [h3] at q; exact absurd q.2 (by decide))).trans ?_))
  by_cases q : 256 < s.f HUB_BSPI_ADDR_ADDR % 256 + cnt + 1
  · exact (if_pos ⟨rfl, q⟩).trans (if_pos q).symm
  · exact (if_neg (fun e => q e.2)).trans (if_neg q).symm
theorem bspiGo_erase {s : State} (h : s.bit HUB_BSPI_STATUS_BUSY = false) (h2 : s.pins.cfgDone = true) (h3 : s.bit HUB_SUPPLY_NV_OK = true) :
    s.bspiGo 3 0 = { s with bspi := some (3, 0) }.setFs [(HUB_BSPI_STATUS_ERR, 0), (HUB_BSPI_STATUS_BUSY, 1)] :=
  (if_neg (by rw [h]; decide)).trans ((if_neg (by rw [h2]; decide)).trans ((if_neg (fun q => by rw [h3] at q; exact absurd q.2 (by decide))).trans (if_neg (fun q => absurd q.1 (by decide)))))

/-! DebugPortAndTraceCommands -/

theorem tapSelect_access {s : State} (h : 1 ≤ s.f DBG_STATUS_LEVEL) : s.tapSelect 0x10 1 = s.updDbg fun x => { x with ir := 0x10 } := by
  unfold State.tapSelect; rw [if_pos h]

/-! ThermalWarningRaisesAndRearms -/

theorem tempKey_quarters (v : Nat) : (tempKey v : Int) = quarters v + 2048 := by
  unfold tempKey quarters
  split <;> omega
theorem thermConvert_eq (s : State) (raw : List Nat) : s.thermConvert raw =
    if (converted s raw).bit PWR_THERM_STATUS_WARN = true then
      (if ((converted s raw).validSensors.all fun n => decide (tempKey ((converted s raw).f (PWR_TEMP_TEMP n)) + 20 < 4 * (converted s raw).f PWR_THERM_CFG_WARN_C + 2048)) = true
        then (converted s raw).setF PWR_THERM_STATUS_WARN 0 else converted s raw)
    else if ((converted s raw).validSensors.any fun n => decide (4 * (converted s raw).f PWR_THERM_CFG_WARN_C + 2048 ≤ tempKey ((converted s raw).f (PWR_TEMP_TEMP n)))) = true then
      ((converted s raw).setF PWR_THERM_STATUS_WARN 1).raise .THERM_WARN false 0 noInst
    else converted s raw := rfl
theorem any_validSensor_warm (t : State) : (t.validSensors.any fun n => decide (4 * t.f PWR_THERM_CFG_WARN_C + 2048 ≤ tempKey (t.f (PWR_TEMP_TEMP n)))) = true ↔ ∃ n, warm t 0 n := by
  simp only [State.validSensors, List.any_eq_true, List.mem_filter, List.mem_range, decide_eq_true_eq, warm]
  constructor
  · rintro ⟨n, ⟨h1, h2⟩, h3⟩
    have := tempKey_quarters (t.f (PWR_TEMP_TEMP n))
    exact ⟨n, h1, h2, by omega⟩
  · rintro ⟨n, h1, h2, h3⟩
    have := tempKey_quarters (t.f (PWR_TEMP_TEMP n))
    exact ⟨n, ⟨h1, h2⟩, by omega⟩
theorem all_validSensor_cool (t : State) : (t.validSensors.all fun n => decide (tempKey (t.f (PWR_TEMP_TEMP n)) + 20 < 4 * t.f PWR_THERM_CFG_WARN_C + 2048)) = true ↔ ∀ n, ¬ warm t 20 n := by
  simp only [State.validSensors, List.all_eq_true, List.mem_filter, List.mem_range, decide_eq_true_eq, warm]
  constructor
  · rintro h n ⟨h1, h2, h3⟩
    have := tempKey_quarters (t.f (PWR_TEMP_TEMP n))
    have := h n ⟨h1, h2⟩
    omega
  · rintro h n ⟨h1, h2⟩
    have := tempKey_quarters (t.f (PWR_TEMP_TEMP n))
    have := h n
    have h3 : ¬ (4 * (t.f PWR_THERM_CFG_WARN_C : Int) - 20 ≤ quarters (t.f (PWR_TEMP_TEMP n))) := fun q => this ⟨h1, h2, q⟩
    omega

/-! SmbusWhileTheDeviceIsHeld -/

theorem smbFull_held {s : State} (h : s.pins.porN = false ∨ s.pins.resetN = false ∨ s.pins.thermTripN = false) : s.smbFull = false := by
  unfold State.smbFull
  rcases h with h | h | h <;> simp [h]
theorem isHbm_register {a : Nat} {b : Block} (h : blockOf a = some b) : isHbm a = false := by
  unfold blockOf at h
  have q : 0xF000000000 ≤ a := by
    split at h
    · next q => exact Nat.le_trans (by decide) q.1
    · split at h
      · next q => exact q.1
      · exact absurd h (by simp)
  exact decide_eq_false (by unfold hbmEnd; omega)

end Sys2Proof.Laws.Commands
end

