-- ==== Sys2Proof/Laws/Frames.lean ====
section
/-! SUPPORT. A blank frame is CLEAN (04 R88, R100, R101): its check word is 0 wherever it lies. -/

namespace Sys2Proof.Machine

theorem bitsPH_zero (n b : Nat) : bitsPH n b 0 = (0, 0) := by
  induction n generalizing b with
  | zero => rfl
  | succ n ih => simp [bitsPH, ih]

theorem crc16Of_zero (n : Nat) : crc16Of n 0 0 = 0 := by
  induction n with
  | zero => rfl
  | succ n ih => exact ih

theorem maskFrame_zero (i : Nat) : maskFrame i 0 = 0 := by
  unfold maskFrame
  cases frameRegion i with
  | none => exact Nat.zero_mod _
  | some r =>
    simp only
    split
    · split
      · rfl
      · split <;> simp
    · exact Nat.zero_mod _

theorem frameOutcome_blank (i : Nat) : frameOutcome i 0 = .clean := by
  have h1 : frameCrc 0 = 0 := crc16Of_zero 396
  have h2 : framePH 0 = (0, 0) := bitsPH_zero 3168 0
  have h3 : fWord 0 99 = 0 := by simp [fWord]
  unfold frameOutcome
  simp only [maskFrame_zero, h1, h2, h3]
  rfl

end Sys2Proof.Machine
end

