-- ==== Sys2Proof/Laws/Hbm.lean ====
section
/-! SUPPORT. When the hub's accesses to HBM are answered OK: inside HBM, with every controller live (10 R247) and no word in
error (11 R278). -/

namespace Sys2Proof.Machine
open Reg

theorem pcOf_lt (s : State) (a : Nat) (h : a < hbmEnd) : s.pcOf a < 128 := by
  unfold hbmEnd at h
  unfold State.pcOf mapAddr
  split
  · simp only
    have : a / 0x900000000 < 4 := by omega
    omega
  · exact Nat.mod_lt _ (by decide)

theorem hbmBadRange_none (s : State) (a k : Nat) (h : s.ecc.hbmBad = []) : s.hbmBadRange a k = false := by
  unfold State.hbmBadRange
  rw [List.any_eq_false]
  intro i _
  have e : s.wordBad ((a / 32 + i) * 32) = [] := by unfold State.wordBad; rw [h]; rfl
  rw [e]; decide

theorem hubStatus_live (s : State) (a k src : Nat) (h1 : a + k ≤ hbmEnd) (h2 : ∀ n < 128, s.hubRefusal src n = none)
    (h3 : s.ecc.hbmBad = []) : s.hubStatus a k src = stOk := by
  have h4 : ((List.range ((a + k + 511) / 512 - a / 512)).filterMap fun i => s.hubRefusal src (s.pcOf ((a / 512 + i) * 512))) = [] := by
    rw [List.filterMap_eq_nil_iff]
    intro i hi
    have := List.mem_range.mp hi
    exact h2 _ (pcOf_lt _ _ (by unfold hbmEnd at *; omega))
  unfold State.hubStatus
  rw [if_neg (by omega), h4]
  simp [hbmBadRange_none s a k h3]

theorem pcOf_stack0 (s : State) (A : Nat) (hm : s.f DMC_GLB_CTRL_MAP = 0) (h : A < 0x900000000) : s.pcOf A < 32 := by
  unfold State.pcOf mapAddr
  rw [hm, if_pos rfl]
  have h1 : A / 0x900000000 = 0 := Nat.div_eq_of_lt h
  show 32 * (A / 0x900000000) + _ % 32 < 32
  rw [h1]
  omega

/-- Under MAP 0 the first stack lies behind controllers 0 to 31. -/
theorem hubStatus_stack0 (s : State) (a k src : Nat) (hm : s.f DMC_GLB_CTRL_MAP = 0) (h1 : a + k ≤ 0x900000000)
    (h2 : ∀ n < 32, s.hubRefusal src n = none) (h3 : s.ecc.hbmBad = []) : s.hubStatus a k src = stOk := by
  have h4 : ((List.range ((a + k + 511) / 512 - a / 512)).filterMap fun i => s.hubRefusal src (s.pcOf ((a / 512 + i) * 512))) = [] := by
    rw [List.filterMap_eq_nil_iff]
    intro i hi
    have := List.mem_range.mp hi
    exact h2 _ (pcOf_stack0 _ _ hm (by omega))
  unfold State.hubStatus
  rw [if_neg (by unfold hbmEnd; omega), h4]
  simp [hbmBadRange_none s a k h3]

end Sys2Proof.Machine
end

