-- ==== Sys2Proof/Laws/KeepBase.lean ====
section
/-! SUPPORT. What every operation keeps: the queue of waiting commands, and the block's invariant. -/

namespace Sys2Proof.Machine

/-- The queue is `p`; and, where `b` holds, so does the invariant. -/
def OkC (Q : List Instr) (B : Prop) (q : List Instr) (m : List Host.Cell) (d : DropLog) (e : Events) : Prop :=
  q = Q ∧ (B → Caps m d e)

def Ok (Q : List Instr) (B : Prop) (s : State) : Prop := OkC Q B s.pending s.mem s.drop s.ev

@[simp] theorem Ok_mk {Q : List Instr} {B : Prop} (x0 : SMap Nat) (x1 : SMap (Option Nat)) (x2 : List Host.Cell) (x3 : Nat) (x4 :
    Nat) (x5 : Nat) (x6 : Resp) (x7 : DropLog) (x8 : Events) (x9 : List HeldFx) (x10 : List Out) (x11 : SMap Arb) (x12 : Noc) (x13
    : SMap (List (Nat × Nat))) (x14 : SMap Eng) (x15 : SMap Trio) (x16 : Ecc) (x17 : SMap Pc) (x18 : Sec) (x19 : Lanes) (x20 :
    SMap Byte) (x21 : SMap Rgn) (x22 : SMap Slot) (x23 : Integ) (x24 : Cap) (x25 : Fuses) (x26 : Pins) (x27 : Boot) (x28 : Life)
    (x29 : Cmx) (x30 : Fab) (x31 : Clk) (x32 : Pwr) (x33 : Mir) (x34 : SMap Nat) (x35 : List Nat) (x36 : List Nat) (x37 : SMap
    Hdma) (x38 : Pci) (x39 : Gpio) (x40 : Dbg) (x41 : Bist) (x42 : Nat) (x43 : Option (Nat × Nat)) (x44 : List Instr) : Ok Q B
    (State.mk x0 x1 x2 x3 x4 x5 x6 x7 x8 x9 x10 x11 x12 x13 x14 x15 x16 x17 x18 x19 x20 x21 x22 x23 x24 x25 x26 x27 x28 x29 x30
    x31 x32 x33 x34 x35 x36 x37 x38 x39 x40 x41 x42 x43 x44) = OkC Q B x44 x2 x7 x8 := propext Iff.rfl

@[simp] theorem Ok_fold {Q : List Instr} {B : Prop} (s : State) : OkC Q B s.pending s.mem s.drop s.ev = Ok Q B s := propext
    Iff.rfl

@[simp] theorem Ok_ite {Q : List Instr} {B : Prop} (c : Prop) [Decidable c] (s t : State) :
    Ok Q B (if c then s else t) = if c then Ok Q B s else Ok Q B t := by split <;> rfl

@[simp] theorem Ok_fst_ite {α : Type} {Q : List Instr} {B : Prop} (c : Prop) [Decidable c] (s t : State × α) :
    Ok Q B (if c then s else t).1 = if c then Ok Q B s.1 else Ok Q B t.1 := by split <;> rfl

/-- Every next state is Ok. -/
def NextOk (Q : List Instr) (B : Prop) (o : Host.Outcome State Fault Refusal) : Prop := ∀ t, o = .next t → Ok Q B t

@[simp] theorem NextOk_next {Q : List Instr} {B : Prop} (s : State) : NextOk Q B (.next s) = Ok Q B s :=
  propext ⟨fun h => h s rfl, fun h t e => by cases e; exact h⟩

@[simp] theorem NextOk_ite {Q : List Instr} {B : Prop} (c : Prop) [Decidable c] (x y : Host.Outcome State Fault Refusal) :
    NextOk Q B (if c then x else y) = if c then NextOk Q B x else NextOk Q B y := by split <;> rfl

/-- A memory whose entries are some of a canonical one's is canonical. -/
theorem Ok_mem_filter {Q : List Instr} {B : Prop} (s : State) (f : Host.Cell → Bool) (h : Ok Q B s) :
    Ok Q B { s with mem := s.mem.filter f } :=
  ⟨h.1, fun x => ⟨⟨(h.2 x).1.1.filter _, fun e he => (h.2 x).1.2 e (List.mem_filter.mp he).1⟩, (h.2 x).2⟩⟩

@[simp] theorem Ok_ev {Q : List Instr} {B : Prop} (s : State) (e : Events) (hf : e.fw = s.ev.fw) (hb : e.board = s.ev.board) :
    OkC Q B s.pending s.mem s.drop e = Ok Q B s := by unfold Ok OkC Caps; rw [hf, hb]

theorem Ok_ev_le {Q : List Instr} {B : Prop} (s : State) (e : Events) (h : Ok Q B s)
    (hf : s.ev.fw.length ≤ 256 → e.fw.length ≤ 256) (hb : s.ev.board.length ≤ 64 → e.board.length ≤ 64) :
    Ok Q B { s with ev := e } :=
  ⟨h.1, fun x => ⟨(h.2 x).1, (h.2 x).2.1, hf (h.2 x).2.2.1, hb (h.2 x).2.2.2⟩⟩

@[simp] theorem Ok_foldl {α : Type} {Q : List Instr} {B : Prop} (g : State → α → State)
    (h : ∀ t x, Ok Q B t → Ok Q B (g t x)) (l : List α) (s : State) (ok : Ok Q B s) : Ok Q B (l.foldl g s) := by
  induction l generalizing s with
  | nil => exact ok
  | cons a l ih => exact ih _ (h _ _ ok)

theorem Ok_fst {α : Type} {Q : List Instr} {B : Prop} (s : State) (x : α) (h : Ok Q B s) : Ok Q B (s, x).1 := h

theorem Ok_foldl_fst {α β : Type} {Q : List Instr} {B : Prop} (g : State × β → α → State × β)
    (h : ∀ t x, Ok Q B t.1 → Ok Q B (g t x).1) (l : List α) (s : State × β) (ok : Ok Q B s.1) : Ok Q B (l.foldl g s).1 := by
  induction l generalizing s with
  | nil => exact ok
  | cons a l ih => exact ih _ (h _ _ ok)

/-- The state that an instruction's result carries; `d` while it waits. -/
def OpRes.st (d : State) : OpRes → State
  | .next s _ | .jump s _ | .word s _ _ | .exc s _ _ | .halt s _ => s
  | .wait => d

@[simp] theorem OpRes.st_next (d s m) : (OpRes.next s m).st d = s := rfl
@[simp] theorem OpRes.st_jump (d s m) : (OpRes.jump s m).st d = s := rfl
@[simp] theorem OpRes.st_word (d s m n) : (OpRes.word s m n).st d = s := rfl
@[simp] theorem OpRes.st_exc (d s m n) : (OpRes.exc s m n).st d = s := rfl
@[simp] theorem OpRes.st_halt (d s m) : (OpRes.halt s m).st d = s := rfl
@[simp] theorem OpRes.st_wait (d) : OpRes.wait.st d = d := rfl

@[simp] theorem OpRes.st_ite (d : State) (c : Prop) [Decidable c] (a b : OpRes) :
    (if c then a else b).st d = if c then a.st d else b.st d := by split <;> rfl

end Sys2Proof.Machine
end

