-- ==== Sys2Proof/Laws/KeepOps.lean ====
section
/-! SUPPORT. What the operations of Machine/Ops.lean keep. -/

namespace Sys2Proof.Machine

open Reg

set_option linter.all false

variable {Q : List Instr} {B : Prop}

@[simp] theorem State.setF_ok (s : State) (F : Fld) (v : Nat) (hk : Ok Q B s) :
    Ok Q B (State.setF s F v) := by simp [State.setF, hk]

@[simp] theorem State.setFs_ok (s : State) (l : List (Fld × Nat)) (hk : Ok Q B s) :
    Ok Q B (State.setFs s l) := by simp +contextual (maxDischargeDepth := 12) [State.setFs, *]

@[simp] theorem State.clearF_ok (s : State) (F : Fld) (hk : Ok Q B s) :
    Ok Q B (State.clearF s F) := by simp [State.clearF, hk]

@[simp] theorem State.xbackNow_ok (s : State) (F : Fld) (hk : Ok Q B s) :
    Ok Q B (State.xbackNow s F) := by simp [State.xbackNow, hk]

@[simp] theorem State.count_ok (s : State) (F : Fld) (n : Nat) (hk : Ok Q B s) :
    Ok Q B (State.count s F n) := by simp [State.count, hk]

@[simp] theorem State.writeLive_ok (s : State) (F : Fld) (v : Nat) (hk : Ok Q B s) :
    Ok Q B (State.writeLive s F v) := by simp [State.writeLive, hk]

@[simp] theorem State.applyLive_ok (s : State) (F : Fld) (hk : Ok Q B s) :
    Ok Q B (State.applyLive s F) := by simp [State.applyLive, hk]

@[simp] theorem State.setByte_ok (s : State) (a : Nat) (b : Byte) (hk : Ok Q B s) :
    Ok Q B (State.setByte s a b) := by
  refine ⟨hk.1, fun h => ?_⟩
  exact ⟨SMap.wf_put _ _ _ (hk.2 h).1, (hk.2 h).2⟩

@[simp] theorem State.setBytes_ok (s : State) (a : Nat) (y0 : List Byte) (hk : Ok Q B s) :
    Ok Q B (State.setBytes s a y0) := by
  induction y0 generalizing s a with
  | nil => exact hk
  | cons x l ih => exact ih _ _ (State.setByte_ok s a x hk)

@[simp] theorem State.setBytesEn_ok (s : State) (a : Nat) (y0 : List Byte) (y1 : List Bool) (hk : Ok Q B s) :
    Ok Q B (State.setBytesEn s a y0 y1) := by
  induction y0 generalizing s a y1 with
  | nil => exact hk
  | cons x l ih =>
    cases y1 with
    | nil => exact ih _ _ _ (State.setByte_ok s a x hk)
    | cons e u => exact ih _ _ _ (by split <;> simp (maxDischargeDepth := 12) [hk])

@[simp] theorem State.freeNext_ok (s : State) (hk : Ok Q B s) :
    Ok Q B (State.freeNext s) := by simp [State.freeNext, hk]

@[simp] theorem State.logDrop_ok (s : State) (m : Master) (c : DropCause) (a : Nat) (hk : Ok Q B s) :
    Ok Q B (State.logDrop s m c a) := by
  unfold State.logDrop
  split
  · refine ⟨hk.1, fun h => ⟨(hk.2 h).1, ?_, (hk.2 h).2.2⟩⟩
    rename_i hl
    simp only [List.length_append, List.length_singleton]; omega
  · exact ⟨hk.1, fun h => ⟨(hk.2 h).1, (hk.2 h).2.1, (hk.2 h).2.2⟩⟩

@[simp] theorem State.answer_ok (s : State) (r : Resp) (hk : Ok Q B s) :
    Ok Q B (State.answer s r) := by simp [State.answer, hk]

@[simp] theorem State.dropWrite_ok (s : State) (m : Master) (c : DropCause) (a : Nat) (hk : Ok Q B s) :
    Ok Q B (State.dropWrite s m c a) := by simp [State.dropWrite, hk]

@[simp] theorem State.holdFx_ok (s : State) (h : HeldFx) (hk : Ok Q B s) :
    Ok Q B (State.holdFx s h) := by simp [State.holdFx, hk]

@[simp] theorem State.setPba_ok (s : State) (fn v : Nat) (b : Bool) (hk : Ok Q B s) :
    Ok Q B (State.setPba s fn v b) := by simp [State.setPba, hk]

@[simp] theorem State.msix_ok (s : State) (fn v : Nat) (hk : Ok Q B s) :
    Ok Q B (State.msix s fn v) := by simp [State.msix, hk]

@[simp] theorem State.ringPush_ok (s : State) (fn : Nat) (r : EvRec) (hk : Ok Q B s) :
    Ok Q B (State.ringPush s fn r) := by simp (maxDischargeDepth := 12) [State.ringPush, hk]

@[simp] theorem State.pmcBump_ok (s : State) (ev arg n : Nat) (hk : Ok Q B s) :
    Ok Q B (State.pmcBump s ev arg n) := by simp +contextual (maxDischargeDepth := 12) [State.pmcBump, *]

@[simp] theorem State.brRaiseCh_ok (s : State) (ch : Nat) (hk : Ok Q B s) :
    Ok Q B (State.brRaiseCh s ch) := by simp [State.brRaiseCh, hk]

@[simp] theorem State.brInput_ok (s : State) (mask en ch : Fld) (on : Nat) (hk : Ok Q B s) :
    Ok Q B (State.brInput s mask en ch on) := by simp [State.brInput, hk]

@[simp] theorem State.brEng_ok (s : State) (e on : Nat) (hk : Ok Q B s) :
    Ok Q B (State.brEng s e on) := by simp [State.brEng, hk]

@[simp] theorem State.pushFw_ok (s : State) (r : EvRec) (hk : Ok Q B s) :
    Ok Q B (State.pushFw s r) := by
  refine Ok_ev_le s _ hk (fun h => ?_) id
  show (if _ then _ else _ : List EvRec).length ≤ 256
  split
  · simp only [List.length_append, List.length_singleton]; omega
  · exact h

@[simp] theorem State.pushBoard_ok (s : State) (r : EvRec) (hk : Ok Q B s) :
    Ok Q B (State.pushBoard s r) := by
  refine Ok_ev_le s _ hk id (fun h => ?_)
  show (if _ then _ else _ : List EvRec).length ≤ 64
  split
  · simp only [List.length_append, List.length_singleton]; omega
  · exact h

@[simp] theorem State.raise_ok (s : State) (e : Ev) (tenant : Bool) (lease inst : Nat) (hk : Ok Q B s) :
    Ok Q B (State.raise s e tenant lease inst) := by
  unfold State.raise
  simp +contextual (maxDischargeDepth := 12) [*]
  (repeat' split) <;> simp_all (maxDischargeDepth := 12)

@[simp] theorem State.bistAbandon_ok (s : State) (t : Nat) (hk : Ok Q B s) :
    Ok Q B (State.bistAbandon s t) := by simp [State.bistAbandon, hk]

@[simp] theorem State.refuse_ok (s : State) (m : Master) (a : Nat) (y0 : Gate) (hk : Ok Q B s) :
    Ok Q B (State.refuse s m a y0) := by
  unfold State.refuse
  (repeat' split) <;> simp (maxDischargeDepth := 12) [hk]

@[simp] theorem State.viaWrite_ok (s : State) (m : Master) (a : Nat) (act : State → State) (hact : ∀ t, Ok Q B t → Ok Q B (act t))
    (hk : Ok Q B s) :
    Ok Q B (State.viaWrite s m a act) := by
  unfold State.viaWrite
  (repeat' split) <;> simp +contextual (maxDischargeDepth := 12) [*]

@[simp] theorem State.busy_ok (s : State) (F : Fld) (hk : Ok Q B s) :
    Ok Q B (State.busy s F) := by simp [State.busy, hk]

end Sys2Proof.Machine
end

