-- ==== Sys2Proof/Laws/KeepClk.lean ====
section
/-! SUPPORT. What the operations of Machine/Clk.lean keep. -/

namespace Sys2Proof.Machine

open Reg

set_option linter.all false

variable {Q : List Instr} {B : Prop}

@[simp] theorem State.setMux_ok (s : State) (n w : Nat) (m : Mux) (hk : Ok Q B s) :
    Ok Q B (State.setMux s n w m) := by simp [State.setMux, hk]

@[simp] theorem State.updPll_ok (s : State) (p : Nat) (g : Pll → Pll) (hk : Ok Q B s) :
    Ok Q B (State.updPll s p g) := by simp [State.updPll, hk]

@[simp] theorem State.setPll_ok (s : State) (p v : Nat) (hk : Ok Q B s) :
    Ok Q B (State.setPll s p v) := by simp [State.setPll, hk]

@[simp] theorem State.rgnEvent_ok (s : State) (e : Ev) (r : Nat) (hk : Ok Q B s) :
    Ok Q B (State.rgnEvent s e r) := by simp [State.rgnEvent, hk]

@[simp] theorem State.pllEvent_ok (s : State) (e : Ev) (p : Nat) (hk : Ok Q B s) :
    Ok Q B (State.pllEvent s e p) := by simp [State.pllEvent, hk]

@[simp] theorem State.domEvent_ok (s : State) (e : Ev) (n : Nat) (hk : Ok Q B s) :
    Ok Q B (State.domEvent s e n) := by simp [State.domEvent, hk]

@[simp] theorem State.showSrc_ok (s : State) (n w : Nat) (c : ClkSrc) (hk : Ok Q B s) :
    Ok Q B (State.showSrc s n w c) := by simp [State.showSrc, hk]

@[simp] theorem State.muxUpd_ok (s : State) (n w : Nat) (hk : Ok Q B s) :
    Ok Q B (State.muxUpd s n w) := by simp [State.muxUpd, hk]

@[simp] theorem State.pllShow_ok (s : State) (p : Nat) (hk : Ok Q B s) :
    Ok Q B (State.pllShow s p) := by simp [State.pllShow, hk]

@[simp] theorem State.pllApply_ok (s : State) (p : Nat) (hk : Ok Q B s) :
    Ok Q B (State.pllApply s p) := by simp (maxDischargeDepth := 12) [State.pllApply, hk]

@[simp] theorem State.pllEval_ok (s : State) (p : Nat) (hk : Ok Q B s) :
    Ok Q B (State.pllEval s p) := by simp (maxDischargeDepth := 12) [State.pllEval, hk]

@[simp] theorem State.hopAway_ok (s : State) (p : Nat) (hk : Ok Q B s) :
    Ok Q B (State.hopAway s p) := by simp [State.hopAway, hk]

@[simp] theorem State.muxUpds_ok (s : State) (l : List Nat) (hk : Ok Q B s) :
    Ok Q B (State.muxUpds s l) := by simp +contextual (maxDischargeDepth := 12) [State.muxUpds, *]

@[simp] theorem State.hop_ok (s : State) (p : Nat) (hk : Ok Q B s) :
    Ok Q B (State.hop s p) := by
  unfold State.hop
  (repeat' split) <;> simp (maxDischargeDepth := 12) [hk]

@[simp] theorem State.hopBack_ok (s : State) (p : Nat) (hk : Ok Q B s) :
    Ok Q B (State.hopBack s p) := by simp (maxDischargeDepth := 12) [State.hopBack, hk]

@[simp] theorem State.hopCheck_ok (s : State) (p : Nat) (hk : Ok Q B s) :
    Ok Q B (State.hopCheck s p) := by simp [State.hopCheck, hk]

@[simp] theorem State.pllHalt_ok (s : State) (p : Nat) (hk : Ok Q B s) :
    Ok Q B (State.pllHalt s p) := by simp [State.pllHalt, hk]

@[simp] theorem State.coast_ok (s : State) (p : Nat) (hk : Ok Q B s) :
    Ok Q B (State.coast s p) := by simp (maxDischargeDepth := 12) [State.coast, hk]

@[simp] theorem State.pllLoss_ok (s : State) (p : Nat) (hk : Ok Q B s) :
    Ok Q B (State.pllLoss s p) := by
  unfold State.pllLoss
  (repeat' split) <;> simp (maxDischargeDepth := 12) [hk]

@[simp] theorem State.muxAbandon_ok (s : State) (n w : Nat) (hk : Ok Q B s) :
    Ok Q B (State.muxAbandon s n w) := by simp [State.muxAbandon, hk]

@[simp] theorem State.muxAdopt_ok (s : State) (n w : Nat) (hk : Ok Q B s) :
    Ok Q B (State.muxAdopt s n w) := by simp [State.muxAdopt, hk]

@[simp] theorem State.domAbandon_ok (s : State) (n : Nat) (hk : Ok Q B s) :
    Ok Q B (State.domAbandon s n) := by simp +contextual (maxDischargeDepth := 12) [State.domAbandon, *]

@[simp] theorem State.domAdopt_ok (s : State) (n : Nat) (hk : Ok Q B s) :
    Ok Q B (State.domAdopt s n) := by simp +contextual (maxDischargeDepth := 12) [State.domAdopt, *]

@[simp] theorem State.dieClocksStop_ok (s : State) (d : Nat) (hk : Ok Q B s) :
    Ok Q B (State.dieClocksStop s d) := by simp +contextual (maxDischargeDepth := 12) [State.dieClocksStop, *]

@[simp] theorem State.dieClocksStart_ok (s : State) (d : Nat) (hk : Ok Q B s) :
    Ok Q B (State.dieClocksStart s d) := by simp +contextual (maxDischargeDepth := 12) [State.dieClocksStart, *]

@[simp] theorem State.pllsEval_ok (s : State) (hk : Ok Q B s) :
    Ok Q B (State.pllsEval s) := by simp +contextual (maxDischargeDepth := 12) [State.pllsEval, *]

@[simp] theorem State.refLost_ok (s : State) (k : Nat) (hk : Ok Q B s) :
    Ok Q B (State.refLost s k) := by simp +contextual (maxDischargeDepth := 12) [State.refLost, *]

@[simp] theorem State.refBad_ok (s : State) (k : Nat) (hk : Ok Q B s) :
    Ok Q B (State.refBad s k) := by simp (maxDischargeDepth := 12) [State.refBad, hk]

@[simp] theorem State.judgeAct_ok (s : State) (v : Nat) (hk : Ok Q B s) :
    Ok Q B (State.judgeAct s v) := by
  unfold State.judgeAct
  (repeat' split) <;> simp (maxDischargeDepth := 12) [hk]

@[simp] theorem State.judgeGood_ok (s : State) (k : Nat) (ok : Bool) (hk : Ok Q B s) :
    Ok Q B (State.judgeGood s k ok) := by simp [State.judgeGood, hk]

@[simp] theorem State.tryOther_ok (s : State) (p : Nat) (hk : Ok Q B s) :
    Ok Q B (State.tryOther s p) := by simp [State.tryOther, hk]

@[simp] theorem State.windowHops_ok (s : State) (ok0 ok1 : Bool) (hk : Ok Q B s) :
    Ok Q B (State.windowHops s ok0 ok1) := by simp +contextual (maxDischargeDepth := 12) [State.windowHops, *]

@[simp] theorem State.hubStart_ok (s : State) (v : Nat) (hk : Ok Q B s) :
    Ok Q B (State.hubStart s v) := by simp (maxDischargeDepth := 12) [State.hubStart, hk]

@[simp] theorem State.judgeWindow_ok (s : State) (c0 c1 : Nat) (hk : Ok Q B s) :
    Ok Q B (State.judgeWindow s c0 c1) := by
  unfold State.judgeWindow
  apply State.windowHops_ok
  (repeat' split) <;> simp (maxDischargeDepth := 12) [hk]

@[simp] theorem execJudgeWindowEnd_ok (c0 c1 : Nat) (s : State) (hk : Ok Q B s) :
    NextOk Q B (execJudgeWindowEnd c0 c1 s) := by simp [execJudgeWindowEnd, hk]

@[simp] theorem execJudgeQuarterEnd_ok (c0 c1 : Nat) (s : State) (hk : Ok Q B s) :
    NextOk Q B (execJudgeQuarterEnd c0 c1 s) := by simp [execJudgeQuarterEnd, hk]

@[simp] theorem State.freqWrite_ok (s : State) (p f0 f1 : Nat) (hk : Ok Q B s) :
    Ok Q B (State.freqWrite s p f0 f1) := by simp (maxDischargeDepth := 12) [State.freqWrite, hk]

@[simp] theorem execClkFreqWrite_ok (m : Master) (p f0 f1 : Nat) (s : State) (hk : Ok Q B s) :
    NextOk Q B (execClkFreqWrite m p f0 f1 s) := by simp +contextual (maxDischargeDepth := 12) [execClkFreqWrite, *]

@[simp] theorem State.pllLock_ok (s : State) (p : Nat) (hk : Ok Q B s) :
    Ok Q B (State.pllLock s p) := by simp (maxDischargeDepth := 12) [State.pllLock, hk]

@[simp] theorem execPllIdleTimer_ok (p : Nat) (s : State) (hk : Ok Q B s) :
    NextOk Q B (execPllIdleTimer p s) := by simp [execPllIdleTimer, hk]

@[simp] theorem execClockSwitchEnd_ok (n w : Nat) (s : State) (hk : Ok Q B s) :
    NextOk Q B (execClockSwitchEnd n w s) := by
  unfold execClockSwitchEnd
  simp +contextual (maxDischargeDepth := 12) [*]
  (repeat' split) <;> simp_all (maxDischargeDepth := 12)

@[simp] theorem execClockSwitchForce_ok (n w : Nat) (s : State) (hk : Ok Q B s) :
    NextOk Q B (execClockSwitchForce n w s) := by simp (maxDischargeDepth := 12) [execClockSwitchForce, hk]

@[simp] theorem execClockSwStallTimer_ok (n w : Nat) (s : State) (hk : Ok Q B s) :
    NextOk Q B (execClockSwStallTimer n w s) := by simp (maxDischargeDepth := 12) [execClockSwStallTimer, hk]

@[simp] theorem State.treeSrcWrite_ok (s : State) (m : Master) (n v : Nat) (hk : Ok Q B s) :
    Ok Q B (State.treeSrcWrite s m n v) := by simp (maxDischargeDepth := 12) [State.treeSrcWrite, hk]

@[simp] theorem State.treeEnWrite_ok (s : State) (n v : Nat) (hk : Ok Q B s) :
    Ok Q B (State.treeEnWrite s n v) := by simp [State.treeEnWrite, hk]

@[simp] theorem State.xselWrite_ok (s : State) (n k v : Nat) (hk : Ok Q B s) :
    Ok Q B (State.xselWrite s n k v) := by simp [State.xselWrite, hk]

@[simp] theorem State.aonSrcWrite_ok (s : State) (m : Master) (v : Nat) (hk : Ok Q B s) :
    Ok Q B (State.aonSrcWrite s m v) := by simp [State.aonSrcWrite, hk]

@[simp] theorem State.pllXpWrite_ok (s : State) (p : Nat) (vco n0 n1 : Nat) (hk : Ok Q B s) :
    Ok Q B (State.pllXpWrite s p vco n0 n1) := by simp [State.pllXpWrite, hk]

@[simp] theorem State.pllXpClear_ok (s : State) (hk : Ok Q B s) :
    Ok Q B (State.pllXpClear s) := by simp +contextual (maxDischargeDepth := 12) [State.pllXpClear, *]

end Sys2Proof.Machine
end

