-- ==== Sys2Proof/Laws/KeepArb.lean ====
section
/-! SUPPORT. What the operations of Machine/Arb.lean keep. -/

namespace Sys2Proof.Machine

open Reg

set_option linter.all false

variable {Q : List Instr} {B : Prop}

@[simp] theorem State.setArb_ok (s : State) (a : ArbId) (b : Arb) (hk : Ok Q B s) :
    Ok Q B (State.setArb s a b) := by simp [State.setArb, hk]

@[simp] theorem State.arbTake_ok (s : State) (a : ArbId) (q : ArbReq) (imm : Bool) (hk : Ok Q B s) :
    Ok Q B (State.arbTake s a q imm) := by simp [State.arbTake, hk]

@[simp] theorem State.arbResume_ok (s : State) (a : ArbId) (q : ArbReq) (n : Nat) (t : List (ArbReq × Nat)) (hk : Ok Q B s) :
    Ok Q B (State.arbResume s a q n t) := by simp [State.arbResume, hk]

@[simp] theorem State.arbGrant_ok (s : State) (a : ArbId) (hk : Ok Q B s) :
    Ok Q B (State.arbGrant s a) := by
  unfold State.arbGrant
  simp +contextual (maxDischargeDepth := 12) [*]
  (repeat' split) <;> simp_all (maxDischargeDepth := 12)

@[simp] theorem State.arbEnter_ok (s : State) (a : ArbId) (x : ArbAsk) (hk : Ok Q B s) :
    Ok Q B (State.arbEnter s a x) := by simp [State.arbEnter, hk]

@[simp] theorem State.arbRequest_ok (s : State) (a : ArbId) (l : List ArbAsk) (hk : Ok Q B s) :
    Ok Q B (State.arbRequest s a l) := by simp +contextual (maxDischargeDepth := 12) [State.arbRequest, *]

@[simp] theorem State.arbAsk_ok (s : State) (a : ArbId) (x : ArbAsk) (hk : Ok Q B s) :
    Ok Q B (State.arbAsk s a x) := by simp [State.arbAsk, hk]

@[simp] theorem State.probeEvent_ok (s : State) (k p dir c n : Nat) (hk : Ok Q B s) :
    Ok Q B (State.probeEvent s k p dir c n) := by simp +contextual (maxDischargeDepth := 12) [State.probeEvent, *]

@[simp] theorem State.arbPreempted_ok (s : State) (a : ArbId) (hk : Ok Q B s) :
    Ok Q B (State.arbPreempted s a) := by
  unfold State.arbPreempted
  (repeat' split) <;> simp (maxDischargeDepth := 12) [hk]

@[simp] theorem State.arbBeat_ok (s : State) (a : ArbId) (more : Bool) (hk : Ok Q B s) :
    Ok Q B (State.arbBeat s a more) := by
  unfold State.arbBeat
  simp +contextual (maxDischargeDepth := 12) [*]
  (repeat' split) <;> simp_all (maxDischargeDepth := 12)

@[simp] theorem State.arbRemove_ok (s : State) (a : ArbId) (f : Nat → Bool) (hk : Ok Q B s) :
    Ok Q B (State.arbRemove s a f) := by simp [State.arbRemove, hk]

@[simp] theorem State.arbDrop_ok (s : State) (a : ArbId) (idx : Nat) (beat : Bool) (hk : Ok Q B s) :
    Ok Q B (State.arbDrop s a idx beat) := by simp [State.arbDrop, hk]

@[simp] theorem State.portState_ok (s : State) (k p v : Nat) (hk : Ok Q B s) :
    Ok Q B (State.portState s k p v) := by simp [State.portState, hk]

@[simp] theorem State.fencePort_ok (s : State) (k p lease : Nat) (hk : Ok Q B s) :
    Ok Q B (State.fencePort s k p lease) := by simp +contextual (maxDischargeDepth := 12) [State.fencePort, *]

@[simp] theorem State.unfence_ok (s : State) (a : ArbId) (idx : Nat) (hk : Ok Q B s) :
    Ok Q B (State.unfence s a idx) := by
  unfold State.unfence
  (repeat' split) <;> simp [hk]

@[simp] theorem execArbUnfence_ok (m : Master) (a : ArbId) (idx : Nat) (s : State) (hk : Ok Q B s) :
    NextOk Q B (execArbUnfence m a idx s) := by simp +contextual (maxDischargeDepth := 12) [execArbUnfence, *]

end Sys2Proof.Machine
end

