-- ==== Sys2Proof/Laws/KeepNoc.lean ====
section
/-! SUPPORT. What the operations of Machine/Noc.lean keep. -/

namespace Sys2Proof.Machine

open Reg

set_option linter.all false

variable {Q : List Instr} {B : Prop}

@[simp] theorem State.setProbe_ok (s : State) (src : Nat) (p : ProbeSt) (hk : Ok Q B s) :
    Ok Q B (State.setProbe s src p) := by simp [State.setProbe, hk]

@[simp] theorem State.record_ok (s : State) (src cap : Nat) (r : TraceRec) (hk : Ok Q B s) :
    Ok Q B (State.record s src cap r) := by simp [State.record, hk]

@[simp] theorem State.probeSee_ok (s : State) (p : Packet) (k i o : Nat) (hk : Ok Q B s) :
    Ok Q B (State.probeSee s p k i o) := by simp +contextual (maxDischargeDepth := 12) [State.probeSee, *]

@[simp] theorem State.updNoc_ok (s : State) (g : Noc → Noc) (hk : Ok Q B s) :
    Ok Q B (State.updNoc s g) := by simp [State.updNoc, hk]

@[simp] theorem State.crossed_ok (s : State) (p : Packet) (k i o : Nat) (hk : Ok Q B s) :
    Ok Q B (State.crossed s p k i o) := by
  unfold State.crossed
  try dsimp only
  (repeat' split) <;> (try simp only [Ok_ite]) <;> (repeat' split) <;> simp +contextual (maxDischargeDepth := 16) [*]

@[simp] theorem State.waitAt_ok (s : State) (w : WaitPkt) (hk : Ok Q B s) :
    Ok Q B (State.waitAt s w) := by
  unfold State.waitAt
  try dsimp only
  (repeat' split) <;> (try simp only [Ok_ite]) <;> (repeat' split) <;> simp +contextual (maxDischargeDepth := 16) [*]

@[simp] theorem State.passHops_ok (p : Packet) (dead : Option (Nat × Nat)) (y0 : List (Nat × Nat × Nat)) (y1 : State)
    (hk : Ok Q B y1) :
    Ok Q B (State.passHops p dead y0 y1).1 := by
  induction y0 generalizing y1 with
  | nil => cases dead <;> exact hk
  | cons h t ih =>
    obtain ⟨k, i, o⟩ := h
    simp only [State.passHops]
    split
    · exact hk
    · simp only [Ok_fst_ite]
      (repeat' split) <;> simp (maxDischargeDepth := 12) [hk, ih]

@[simp] theorem State.travel_ok (s : State) (p : Packet) (k i : Nat) (hk : Ok Q B s) :
    Ok Q B (State.travel s p k i).1 := by
  unfold State.travel
  (repeat' split) <;> simp (maxDischargeDepth := 12) [hk]

@[simp] theorem State.settle_ok (r : State × Fate) (p : Packet) (reach : State → State) (hreach : ∀ t, Ok Q B t → Ok Q B
    (reach t)) (hk : Ok Q B r.1) :
    Ok Q B (State.settle r p reach) := by
  unfold State.settle
  try dsimp only
  (repeat' split) <;> (try simp only [Ok_ite]) <;> (repeat' split) <;> simp +contextual (maxDischargeDepth := 16) [*]

@[simp] theorem State.reached_ok (s : State) (p : Packet) (hk : Ok Q B s) :
    Ok Q B (State.reached s p) := by
  unfold State.reached
  try dsimp only
  (repeat' split) <;> (try simp only [Ok_ite]) <;> (repeat' split) <;> simp +contextual (maxDischargeDepth := 16) [*]

@[simp] theorem State.sendTrace_ok (s : State) (src node : Nat) (hk : Ok Q B s) :
    Ok Q B (State.sendTrace s src node) := by simp +contextual (maxDischargeDepth := 12) [State.sendTrace, *]

@[simp] theorem State.traceDue_ok (s : State) (src node : Nat) (hk : Ok Q B s) :
    Ok Q B (State.traceDue s src node) := by simp [State.traceDue, hk]

@[simp] theorem State.traceSweep_ok (s : State) (hk : Ok Q B s) :
    Ok Q B (State.traceSweep s) := by simp +contextual (maxDischargeDepth := 12) [State.traceSweep, *]

@[simp] theorem State.stimGo_ok (s : State) (src node : Nat) (hk : Ok Q B s) :
    Ok Q B (State.stimGo s src node) := by simp [State.stimGo, hk]

@[simp] theorem State.stimPush_ok (s : State) (src node : Nat) (r : TraceRec) (hk : Ok Q B s) :
    Ok Q B (State.stimPush s src node r) := by simp [State.stimPush, hk]

@[simp] theorem State.mirDup_ok (s : State) (p : Packet) (st : Nat) (hk : Ok Q B s) :
    Ok Q B (State.mirDup s p st) := by
  unfold State.mirDup
  (repeat' split) <;> simp [hk]

@[simp] theorem State.answerFrom_ok (s : State) (k i : Nat) (p : Packet) (st : Nat) (d : List Byte) (hk : Ok Q B s) :
    Ok Q B (State.answerFrom s k i p st d) := by simp +contextual (maxDischargeDepth := 12) [State.answerFrom, *]

@[simp] theorem State.respond_ok (s : State) (p : Packet) (st : Nat) (d : List Byte) (hk : Ok Q B s) :
    Ok Q B (State.respond s p st d) := by simp [State.respond, hk]

@[simp] theorem State.respondHere_ok (s : State) (p : Packet) (st : Nat) (hk : Ok Q B s) :
    Ok Q B (State.respondHere s p st) := by simp [State.respondHere, hk]

@[simp] theorem State.respondAll_ok (s : State) (l : List Packet) (st : Nat) (hk : Ok Q B s) :
    Ok Q B (State.respondAll s l st) := by simp +contextual (maxDischargeDepth := 12) [State.respondAll, *]

@[simp] theorem State.flushNode_ok (s : State) (node st : Nat) (hk : Ok Q B s) :
    Ok Q B (State.flushNode s node st) := by simp [State.flushNode, hk]

@[simp] theorem State.answerTracked_ok (s : State) (k o st : Nat) (hk : Ok Q B s) :
    Ok Q B (State.answerTracked s k o st) := by simp +contextual (maxDischargeDepth := 12) [State.answerTracked, *]

@[simp] theorem State.cutLink_ok (s : State) (k i : Nat) (hk : Ok Q B s) :
    Ok Q B (State.cutLink s k i) := by simp [State.cutLink, hk]

@[simp] theorem execCreditReturn_ok (node vc stall : Nat) (s : State) (hk : Ok Q B s) :
    NextOk Q B (execCreditReturn node vc stall s) := by simp [execCreditReturn, hk]

@[simp] theorem execCreditLimExpire_ok (node : Nat) (s : State) (hk : Ok Q B s) :
    NextOk Q B (execCreditLimExpire node s) := by simp +contextual (maxDischargeDepth := 12) [execCreditLimExpire, *]

@[simp] theorem State.setPort_ok (s : State) (k p v : Nat) (hk : Ok Q B s) :
    Ok Q B (State.setPort s k p v) := by simp [State.setPort, hk]

@[simp] theorem State.routerState_ok (s : State) (k v : Nat) (hk : Ok Q B s) :
    Ok Q B (State.routerState s k v) := by simp [State.routerState, hk]

@[simp] theorem State.portReelIn_ok (s : State) (k p : Nat) (hk : Ok Q B s) :
    Ok Q B (State.portReelIn s k p) := by simp [State.portReelIn, hk]

@[simp] theorem State.portPayOut_ok (s : State) (k p : Nat) (hk : Ok Q B s) :
    Ok Q B (State.portPayOut s k p) := by simp [State.portPayOut, hk]

@[simp] theorem State.unfenceInputs_ok (s : State) (k p : Nat) (hk : Ok Q B s) :
    Ok Q B (State.unfenceInputs s k p) := by simp +contextual (maxDischargeDepth := 12) [State.unfenceInputs, *]

@[simp] theorem State.portUnfence_ok (s : State) (k p : Nat) (hk : Ok Q B s) :
    Ok Q B (State.portUnfence s k p) := by simp +contextual (maxDischargeDepth := 12) [State.portUnfence, *]

@[simp] theorem execPortUnfence_ok (m : Master) (k p : Nat) (s : State) (hk : Ok Q B s) :
    NextOk Q B (execPortUnfence m k p s) := by simp +contextual (maxDischargeDepth := 12) [execPortUnfence, *]

@[simp] theorem State.portCmd_ok (s : State) (k p c : Nat) (hk : Ok Q B s) :
    Ok Q B (State.portCmd s k p c) := by
  unfold State.portCmd
  try dsimp only
  (repeat' split) <;> (try simp only [Ok_ite]) <;> (repeat' split) <;> simp +contextual (maxDischargeDepth := 16) [*]

@[simp] theorem State.portCmds_ok (s : State) (k p c : Nat) (twin : Option Nat) (hk : Ok Q B s) :
    Ok Q B (State.portCmds s k p c twin) := by
  unfold State.portCmds
  (repeat' split) <;> simp (maxDischargeDepth := 12) [hk]

@[simp] theorem execPortReelIn_ok (m : Master) (k p : Nat) (twin : Option Nat) (s : State) (hk : Ok Q B s) :
    NextOk Q B (execPortReelIn m k p twin s) := by simp +contextual (maxDischargeDepth := 12) [execPortReelIn, *]

@[simp] theorem execPortPayOut_ok (m : Master) (k p : Nat) (twin : Option Nat) (s : State) (hk : Ok Q B s) :
    NextOk Q B (execPortPayOut m k p twin s) := by simp +contextual (maxDischargeDepth := 12) [execPortPayOut, *]

@[simp] theorem State.routerReelIn_ok (s : State) (k : Nat) (hk : Ok Q B s) :
    Ok Q B (State.routerReelIn s k) := by simp [State.routerReelIn, hk]

@[simp] theorem execRouterReelIn_ok (m : Master) (k : Nat) (s : State) (hk : Ok Q B s) :
    NextOk Q B (execRouterReelIn m k s) := by simp +contextual (maxDischargeDepth := 12) [execRouterReelIn, *]

@[simp] theorem State.routerPayOut_ok (s : State) (k : Nat) (hk : Ok Q B s) :
    Ok Q B (State.routerPayOut s k) := by simp [State.routerPayOut, hk]

@[simp] theorem execRouterPayOut_ok (m : Master) (k : Nat) (s : State) (hk : Ok Q B s) :
    NextOk Q B (execRouterPayOut m k s) := by simp +contextual (maxDischargeDepth := 12) [execRouterPayOut, *]

@[simp] theorem execSelftestEnd_ok (k p : Nat) (pass : Bool) (s : State) (hk : Ok Q B s) :
    NextOk Q B (execSelftestEnd k p pass s) := by simp [execSelftestEnd, hk]

@[simp] theorem State.nocSwap_ok (s : State) (hk : Ok Q B s) :
    Ok Q B (State.nocSwap s) := by simp [State.nocSwap, hk]

@[simp] theorem execNocSwap_ok (m : Master) (s : State) (hk : Ok Q B s) :
    NextOk Q B (execNocSwap m s) := by simp +contextual (maxDischargeDepth := 12) [execNocSwap, *]

@[simp] theorem execSwapCheckEnd_ok (s : State) (hk : Ok Q B s) :
    NextOk Q B (execSwapCheckEnd s) := by simp (maxDischargeDepth := 12) [execSwapCheckEnd, hk]

@[simp] theorem State.nocEpoch_ok (s : State) (hk : Ok Q B s) :
    Ok Q B (State.nocEpoch s) := by simp +contextual (maxDischargeDepth := 12) [State.nocEpoch, *]

@[simp] theorem execSetDrainEnd_ok (s : State) (hk : Ok Q B s) :
    NextOk Q B (execSetDrainEnd s) := by simp [execSetDrainEnd, hk]

@[simp] theorem State.resyncDrop_ok (s : State) (k p : Nat) (hk : Ok Q B s) :
    Ok Q B (State.resyncDrop s k p) := by simp [State.resyncDrop, hk]

@[simp] theorem State.portDown_ok (s : State) (k p : Nat) (hk : Ok Q B s) :
    Ok Q B (State.portDown s k p) := by simp [State.portDown, hk]

@[simp] theorem State.bridgeDown_ok (s : State) (k p st : Nat) (hk : Ok Q B s) :
    Ok Q B (State.bridgeDown s k p st) := by simp +contextual (maxDischargeDepth := 12) [State.bridgeDown, *]

@[simp] theorem State.sideDown_ok (s : State) (k p : Nat) (far : Bool) (hk : Ok Q B s) :
    Ok Q B (State.sideDown s k p far) := by simp +contextual (maxDischargeDepth := 12) [State.sideDown, *]

@[simp] theorem execBridgeSideDown_ok (k p : Nat) (far : Bool) (s : State) (hk : Ok Q B s) :
    NextOk Q B (execBridgeSideDown k p far s) := by simp [execBridgeSideDown, hk]

@[simp] theorem execResyncReq_ok (k p : Nat) (far : Bool) (s : State) (hk : Ok Q B s) :
    NextOk Q B (execResyncReq k p far s) := by simp +contextual (maxDischargeDepth := 12) [execResyncReq, *]

@[simp] theorem execResyncAck_ok (k p : Nat) (s : State) (hk : Ok Q B s) :
    NextOk Q B (execResyncAck k p s) := by simp [execResyncAck, hk]

@[simp] theorem execTraceFlushTimer_ok (src node : Nat) (s : State) (hk : Ok Q B s) :
    NextOk Q B (execTraceFlushTimer src node s) := by simp [execTraceFlushTimer, hk]

@[simp] theorem execTraceSyncTimer_ok (k : Nat) (s : State) (hk : Ok Q B s) :
    NextOk Q B (execTraceSyncTimer k s) := by simp [execTraceSyncTimer, hk]

@[simp] theorem State.slotsPass_ok (s : State) (n : Nat) (hk : Ok Q B s) :
    Ok Q B (State.slotsPass s n) := by simp +contextual (maxDischargeDepth := 12) [State.slotsPass, *]

end Sys2Proof.Machine
end

