-- ==== Sys2Proof/Laws/KeepNocReq.lean ====
section
/-! SUPPORT. What the operations of Machine/NocReq.lean keep. -/

namespace Sys2Proof.Machine

open Reg

set_option linter.all false

variable {Q : List Instr} {B : Prop}

@[simp] theorem State.arrive_ok (s : State) (p : Packet) (hk : Ok Q B s) :
    Ok Q B (State.arrive s p) := by
  unfold State.arrive
  (repeat' split) <;> simp [hk]

@[simp] theorem State.arriveReq_ok (s : State) (p : Packet) (hk : Ok Q B s) :
    Ok Q B (State.arriveReq s p) := by simp [State.arriveReq, hk]

@[simp] theorem State.reqFate_ok (r : State × Fate) (p : Packet) (hk : Ok Q B r.1) :
    Ok Q B (State.reqFate r p) := by
  unfold State.reqFate
  (repeat' split) <;> simp (maxDischargeDepth := 12) [hk]

@[simp] theorem State.forward_ok (s : State) (p : Packet) (hk : Ok Q B s) :
    Ok Q B (State.forward s p) := by simp +contextual (maxDischargeDepth := 12) [State.forward, *]

@[simp] theorem State.napRefused_ok (s : State) (p : Packet) (l : Nat) (counted : Bool) (log : Option DropCause) (hk : Ok Q B s) :
    Ok Q B (State.napRefused s p l counted log) := by
  unfold State.napRefused
  (repeat' split) <;> simp (maxDischargeDepth := 12) [hk]

@[simp] theorem State.sendRequest_ok (s : State) (p : Packet) (hk : Ok Q B s) :
    Ok Q B (State.sendRequest s p) := by
  unfold State.sendRequest
  simp +contextual (maxDischargeDepth := 12) [*]
  (repeat' split) <;> simp_all (maxDischargeDepth := 12)

@[simp] theorem State.requestFrom_ok (s : State) (p : Packet) (hk : Ok Q B s) :
    Ok Q B (State.requestFrom s p) := by simp [State.requestFrom, hk]

@[simp] theorem State.arrivePost_ok (s : State) (p : Packet) (hk : Ok Q B s) :
    Ok Q B (State.arrivePost s p) := by simp [State.arrivePost, hk]

@[simp] theorem State.post_ok (s : State) (p : Packet) (node : Nat) (hk : Ok Q B s) :
    Ok Q B (State.post s p node) := by simp +contextual (maxDischargeDepth := 12) [State.post, *]

@[simp] theorem execNocMirror_ok (p : Packet) (s : State) (hk : Ok Q B s) :
    NextOk Q B (execNocMirror p s) := by simp [execNocMirror, hk]

@[simp] theorem State.resumeWait_ok (s : State) (w : WaitPkt) (hk : Ok Q B s) :
    Ok Q B (State.resumeWait s w) := by
  unfold State.resumeWait
  (repeat' split) <;> simp +contextual (maxDischargeDepth := 12) [*]

@[simp] theorem State.nocServe_ok (k o : Nat) (y0 : Nat) (y1 : State) (hk : Ok Q B y1) :
    Ok Q B (State.nocServe k o y0 y1) := by
  induction y0 generalizing y1 with
  | zero => exact hk
  | succ n ih =>
    unfold State.nocServe
    (repeat' split) <;> simp +contextual (maxDischargeDepth := 16) [*]

@[simp] theorem State.waitsFenced_ok (s : State) (k o idx : Nat) (hk : Ok Q B s) :
    Ok Q B (State.waitsFenced s k o idx) := by simp +contextual (maxDischargeDepth := 12) [State.waitsFenced, *]

@[simp] theorem State.tableGo_ok (s : State) (hk : Ok Q B s) :
    Ok Q B (State.tableGo s) := by
  unfold State.tableGo
  (repeat' split) <;> simp (maxDischargeDepth := 12) [hk]

@[simp] theorem execReservedOpcode_ok (p : Packet) (request : Bool) (s : State) (hk : Ok Q B s) :
    NextOk Q B (execReservedOpcode p request s) := by simp [execReservedOpcode, hk]

@[simp] theorem State.takeRsp_ok (s : State) (node tag : Nat) (hk : Ok Q B s) :
    Ok Q B (State.takeRsp s node tag) := by simp [State.takeRsp, hk]

@[simp] theorem State.dropRsp_ok (s : State) (node tag : Nat) (hk : Ok Q B s) :
    Ok Q B (State.dropRsp s node tag) := by simp [State.dropRsp, hk]

@[simp] theorem State.deliverRsp_ok (s : State) (opc node tag : Nat) (em : Bool) (hk : Ok Q B s) :
    Ok Q B (State.deliverRsp s opc node tag em) := by
  unfold State.deliverRsp
  simp +contextual (maxDischargeDepth := 12) [*]
  (repeat' split) <;> simp_all (maxDischargeDepth := 12)

@[simp] theorem State.releaseNap_ok (s : State) (node : Nat) (hk : Ok Q B s) :
    Ok Q B (State.releaseNap s node) := by simp +contextual (maxDischargeDepth := 12) [State.releaseNap, *]

@[simp] theorem State.releaseHeld_ok (s : State) (r : Nat) (hk : Ok Q B s) :
    Ok Q B (State.releaseHeld s r) := by simp +contextual (maxDischargeDepth := 12) [State.releaseHeld, *]

@[simp] theorem State.refuseHeld_ok (s : State) (r : Nat) (hk : Ok Q B s) :
    Ok Q B (State.refuseHeld s r) := by simp +contextual (maxDischargeDepth := 12) [State.refuseHeld, *]

@[simp] theorem execNapHoldTimeout_ok (node : Nat) (s : State) (hk : Ok Q B s) :
    NextOk Q B (execNapHoldTimeout node s) := by
  unfold execNapHoldTimeout
  (repeat' split) <;> simp [hk]

@[simp] theorem State.linkReplay_ok (s : State) (k p : Nat) (again : Bool) (hk : Ok Q B s) :
    Ok Q B (State.linkReplay s k p again) := by simp (maxDischargeDepth := 12) [State.linkReplay, hk]

end Sys2Proof.Machine
end

