-- ==== Sys2Proof/Laws/KeepEcc.lean ====
section
/-! SUPPORT. What the operations of Machine/Ecc.lean keep. -/

namespace Sys2Proof.Machine

open Reg

set_option linter.all false

variable {Q : List Instr} {B : Prop}

@[simp] theorem State.setMacro_ok (s : State) (m : Nat) (x : Macro) (hk : Ok Q B s) :
    Ok Q B (State.setMacro s m x) := by simp [State.setMacro, hk]

@[simp] theorem State.eccShow_ok (s : State) (hk : Ok Q B s) :
    Ok Q B (State.eccShow s) := by
  unfold State.eccShow
  apply Ok_foldl
  · intro t j h; split <;> exact State.setFs_ok _ _ h
  · exact State.setFs_ok _ _ hk

@[simp] theorem State.notifyShow_ok (s : State) (hk : Ok Q B s) :
    Ok Q B (State.notifyShow s) := by simp [State.notifyShow, hk]

@[simp] theorem State.setBadBits_ok (s : State) (m row : Nat) (l : List Nat) (hk : Ok Q B s) :
    Ok Q B (State.setBadBits s m row l) := by simp [State.setBadBits, hk]

@[simp] theorem State.eccNotify_ok (s : State) (m : Nat) (hk : Ok Q B s) :
    Ok Q B (State.eccNotify s m) := by simp [State.eccNotify, hk]

@[simp] theorem State.eccRead_ok (s : State) (m row : Nat) (hk : Ok Q B s) :
    Ok Q B (State.eccRead s m row) := by
  unfold State.eccRead
  simp +contextual (maxDischargeDepth := 12) [*]
  (repeat' split) <;> simp_all (maxDischargeDepth := 12)

@[simp] theorem State.eccWrite_ok (s : State) (m row : Nat) (hk : Ok Q B s) :
    Ok Q B (State.eccWrite s m row) := by simp [State.eccWrite, hk]

@[simp] theorem State.eccReadRange_ok (s : State) (m lo n : Nat) (hk : Ok Q B s) :
    Ok Q B (State.eccReadRange s m lo n).1 := by simp +contextual (maxDischargeDepth := 12) [State.eccReadRange, *]

@[simp] theorem State.eccWriteRange_ok (s : State) (m lo n : Nat) (hk : Ok Q B s) :
    Ok Q B (State.eccWriteRange s m lo n) := by simp [State.eccWriteRange, hk]

@[simp] theorem State.ramRefused_ok (s : State) (m : Nat) (hk : Ok Q B s) :
    Ok Q B (State.ramRefused s m) := by simp [State.ramRefused, hk]

@[simp] theorem State.notifyPop_ok (s : State) (hk : Ok Q B s) :
    Ok Q B (State.notifyPop s) := by simp [State.notifyPop, hk]

@[simp] theorem execEccNotifyRead_ok (s : State) (hk : Ok Q B s) :
    NextOk Q B (execEccNotifyRead s) := by simp [execEccNotifyRead, hk]

@[simp] theorem State.eccClear_ok (s : State) (hk : Ok Q B s) :
    Ok Q B (State.eccClear s) := by simp [State.eccClear, hk]

@[simp] theorem execEccMclr_ok (m : Master) (s : State) (hk : Ok Q B s) :
    NextOk Q B (execEccMclr m s) := by simp +contextual (maxDischargeDepth := 12) [execEccMclr, *]

@[simp] theorem State.eccArm_ok (s : State) (hk : Ok Q B s) :
    Ok Q B (State.eccArm s) := by simp [State.eccArm, hk]

@[simp] theorem execEccInjArm_ok (m : Master) (s : State) (hk : Ok Q B s) :
    NextOk Q B (execEccInjArm m s) := by simp +contextual (maxDischargeDepth := 12) [execEccInjArm, *]

@[simp] theorem State.upset_ok (s : State) (mid row bit : Nat) (hk : Ok Q B s) :
    Ok Q B (State.upset s mid row bit) := by simp [State.upset, hk]

@[simp] theorem execMemoryBitError_ok (mid row bit : Nat) (s : State) (hk : Ok Q B s) :
    NextOk Q B (execMemoryBitError mid row bit s) := by simp [execMemoryBitError, hk]

end Sys2Proof.Machine
end

