-- ==== Sys2Proof/Laws/KeepOperands.lean ====
section
/-! SUPPORT. What the operations of Machine/Operands.lean keep. -/

namespace Sys2Proof.Machine

open Reg

set_option linter.all false

variable {Q : List Instr} {B : Prop}

@[simp] theorem State.setEng_ok (s : State) (e : Nat) (g : Eng) (hk : Ok Q B s) :
    Ok Q B (State.setEng s e g) := by simp [State.setEng, hk]

@[simp] theorem State.updEng_ok (s : State) (e : Nat) (f : Eng → Eng) (hk : Ok Q B s) :
    Ok Q B (State.updEng s e f) := by simp [State.updEng, hk]

@[simp] theorem State.setEngState_ok (s : State) (e v : Nat) (hk : Ok Q B s) :
    Ok Q B (State.setEngState s e v) := by simp [State.setEngState, hk]

@[simp] theorem State.setEngPc_ok (s : State) (e v : Nat) (hk : Ok Q B s) :
    Ok Q B (State.setEngPc s e v) := by simp [State.setEngPc, hk]

@[simp] theorem State.setBit_ok (s : State) (F : Fld) (b : Nat) (hk : Ok Q B s) :
    Ok Q B (State.setBit s F b) := by simp [State.setBit, hk]

@[simp] theorem State.rowSee_ok (s : State) (e r : Nat) (hk : Ok Q B s) :
    Ok Q B (State.rowSee s e r) := by simp [State.rowSee, hk]

@[simp] theorem State.rowWrote_ok (s : State) (e r : Nat) (hk : Ok Q B s) :
    Ok Q B (State.rowWrote s e r) := by simp [State.rowWrote, hk]

@[simp] theorem State.engRowsWrote_ok (s : State) (e : Nat) (hk : Ok Q B s) :
    Ok Q B (State.engRowsWrote s e) := by simp +contextual (maxDischargeDepth := 12) [State.engRowsWrote, *]

@[simp] theorem State.operandSee_ok (s : State) (e : Nat) (g : Eng) (a : AddrFld) (hk : Ok Q B s) :
    Ok Q B (State.operandSee s e g a) := by simp [State.operandSee, hk]

end Sys2Proof.Machine
end

