-- ==== Sys2Proof/Laws/KeepFlags.lean ====
section
/-! SUPPORT. What the operations of Machine/Flags.lean keep. -/

namespace Sys2Proof.Machine

open Reg

set_option linter.all false

variable {Q : List Instr} {B : Prop}

@[simp] theorem State.accWrite_ok (s : State) (e k : Nat) (v : Int) (hk : Ok Q B s) :
    Ok Q B (State.accWrite s e k v) := by simp [State.accWrite, hk]

@[simp] theorem State.accumulate_ok (s : State) (e aop : Nat) (y0 : List (Nat × Int)) (hk : Ok Q B s) :
    Ok Q B (State.accumulate s e aop y0) := by
  induction y0 generalizing s with
  | nil => exact hk
  | cons x l ih => exact ih _ (by simp (maxDischargeDepth := 12) [hk])

end Sys2Proof.Machine
end

