-- ==== Sys2Proof/Laws/KeepEngDma.lean ====
section
/-! SUPPORT. What the operations of Machine/EngDma.lean keep. -/

namespace Sys2Proof.Machine

open Reg

set_option linter.all false

variable {Q : List Instr} {B : Prop}

@[simp] theorem State.setTrio_ok (s : State) (t : Nat) (x : Trio) (hk : Ok Q B s) :
    Ok Q B (State.setTrio s t x) := by simp [State.setTrio, hk]

@[simp] theorem execStreamBeat_ok (e port d : Nat) (s : State) (hk : Ok Q B s) :
    NextOk Q B (execStreamBeat e port d s) := by
  unfold execStreamBeat
  simp +contextual (maxDischargeDepth := 12) [*]
  (repeat' split) <;> simp_all (maxDischargeDepth := 12)

@[simp] theorem State.flushPort_ok (s : State) (e p : Nat) (hk : Ok Q B s) :
    Ok Q B (State.flushPort s e p) := by
  unfold State.flushPort
  simp +contextual (maxDischargeDepth := 12) [*]
  (repeat' split) <;> simp_all (maxDischargeDepth := 12)

@[simp] theorem execStreamFlush_ok (m : Master) (e p : Nat) (s : State) (hk : Ok Q B s) :
    NextOk Q B (execStreamFlush m e p s) := by simp +contextual (maxDischargeDepth := 12) [execStreamFlush, *]

@[simp] theorem State.localRead_ok (s : State) (e a n : Nat) (hk : Ok Q B s) :
    Ok Q B (State.localRead s e a n).1 := by simp +contextual (maxDischargeDepth := 12) [State.localRead, *]

@[simp] theorem State.localWrite_ok (s : State) (e a : Nat) (d : List Byte) (en : List Bool) (hk : Ok Q B s) :
    Ok Q B (State.localWrite s e a d en).1 := by simp +contextual (maxDischargeDepth := 12) [State.localWrite, *]

@[simp] theorem State.serveEng_ok (s : State) (e : Nat) (p : Packet) (hk : Ok Q B s) :
    Ok Q B (State.serveEng s e p) := by simp [State.serveEng, hk]

@[simp] theorem execEngNapRequest_ok (e : Nat) (s : State) (hk : Ok Q B s) :
    NextOk Q B (execEngNapRequest e s) := by
  unfold execEngNapRequest
  (repeat' split) <;> simp [hk]

@[simp] theorem State.dmaSettle_ok (s : State) (e c : Nat) (hk : Ok Q B s) :
    Ok Q B (State.dmaSettle s e c) := by simp [State.dmaSettle, hk]

@[simp] theorem State.dmaPump_ok (e c : Nat) (y0 : Nat) (y1 : State) (hk : Ok Q B y1) :
    Ok Q B (State.dmaPump e c y0 y1) := by
  induction y0 generalizing y1 with
  | zero => exact hk
  | succ k ih =>
    unfold State.dmaPump
    dsimp only
    split
    · exact hk
    · split <;> split <;>
        first
        | exact State.setEng_ok _ _ _ (State.localRead_ok _ _ _ _ hk)
        | exact ih _ (State.sendRequest_ok _ _ (State.setEng_ok _ _ _ (State.localRead_ok _ _ _ _ hk)))
        | exact State.setEng_ok _ _ _ hk
        | exact ih _ (State.sendRequest_ok _ _ (State.setEng_ok _ _ _ hk))

@[simp] theorem State.dmaGo_ok (s : State) (e c : Nat) (hk : Ok Q B s) :
    Ok Q B (State.dmaGo s e c) := by simp (maxDischargeDepth := 12) [State.dmaGo, hk]

@[simp] theorem execDmaGo_ok (m : Master) (e c : Nat) (s : State) (hk : Ok Q B s) :
    NextOk Q B (execDmaGo m e c s) := by simp +contextual (maxDischargeDepth := 12) [execDmaGo, *]

@[simp] theorem State.dmaAbort_ok (s : State) (e c : Nat) (hk : Ok Q B s) :
    Ok Q B (State.dmaAbort s e c) := by simp [State.dmaAbort, hk]

@[simp] theorem execDmaAbort_ok (m : Master) (e c : Nat) (s : State) (hk : Ok Q B s) :
    NextOk Q B (execDmaAbort m e c s) := by simp +contextual (maxDischargeDepth := 12) [execDmaAbort, *]

@[simp] theorem State.dmaOk_ok (s : State) (e c : Nat) (q : DmaReq) (r : Packet) (hk : Ok Q B s) :
    Ok Q B (State.dmaOk s e c q r) := by simp (maxDischargeDepth := 12) [State.dmaOk, hk]

@[simp] theorem State.dmaResponse_ok (s : State) (e tag : Nat) (em : Bool) (hk : Ok Q B s) :
    Ok Q B (State.dmaResponse s e tag em) := by
  unfold State.dmaResponse
  simp +contextual (maxDischargeDepth := 12) [*]
  (repeat' split) <;> simp_all (maxDischargeDepth := 12)

@[simp] theorem execDmaResponse_ok (e tag : Nat) (em : Bool) (s : State) (hk : Ok Q B s) :
    NextOk Q B (execDmaResponse e tag em s) := by simp [execDmaResponse, hk]

@[simp] theorem State.dmaFenced_ok (s : State) (e : Nat) (hk : Ok Q B s) :
    Ok Q B (State.dmaFenced s e) := by simp +contextual (maxDischargeDepth := 12) [State.dmaFenced, *]

@[simp] theorem State.dmaRegWrite_ok (s : State) (e c i v : Nat) (hk : Ok Q B s) :
    Ok Q B (State.dmaRegWrite s e c i v) := by simp (maxDischargeDepth := 12) [State.dmaRegWrite, hk]

@[simp] theorem State.engResetFields_ok (s : State) (e : Nat) (hk : Ok Q B s) :
    Ok Q B (State.engResetFields s e) := Ok_foldl _ (fun t x h => State.clearF_ok t x h) _ _ hk

@[simp] theorem State.dmaResetFields_ok (s : State) (e c : Nat) (hk : Ok Q B s) :
    Ok Q B (State.dmaResetFields s e c) := Ok_foldl _ (fun t x h => State.clearF_ok t x h) _ _ hk

@[simp] theorem State.engClrReg_ok (s : State) (e : Nat) (hk : Ok Q B s) :
    Ok Q B (State.engClrReg s e) := by simp (maxDischargeDepth := 12) [State.engClrReg, hk]

@[simp] theorem State.engClear_ok (s : State) (e : Nat) (hk : Ok Q B s) :
    Ok Q B (State.engClear s e) := by simp +contextual (maxDischargeDepth := 12) [State.engClear, *]

@[simp] theorem State.trioClear_ok (s : State) (t : Nat) (hk : Ok Q B s) :
    Ok Q B (State.trioClear s t) := by simp (maxDischargeDepth := 12) [State.trioClear, hk]

@[simp] theorem State.engLose_ok (s : State) (off : Bool) (e : Nat) (hk : Ok Q B s) :
    Ok Q B (State.engLose s off e) := by simp (maxDischargeDepth := 12) [State.engLose, hk]

@[simp] theorem State.trioArbs_ok (s : State) (t : Nat) (hk : Ok Q B s) :
    Ok Q B (State.trioArbs s t) := by simp +contextual (maxDischargeDepth := 12) [State.trioArbs, *]

@[simp] theorem State.trioStart_ok (s : State) (t v : Nat) (hk : Ok Q B s) :
    Ok Q B (State.trioStart s t v) := by simp +contextual (maxDischargeDepth := 12) [State.trioStart, *]

@[simp] theorem State.trioTry_ok (s : State) (t v : Nat) (hk : Ok Q B s) :
    Ok Q B (State.trioTry s t v) := by simp [State.trioTry, hk]

@[simp] theorem State.trioReq_ok (s : State) (t v : Nat) (hk : Ok Q B s) :
    Ok Q B (State.trioReq s t v) := by simp [State.trioReq, hk]

@[simp] theorem State.trioMirror_ok (s : State) (t : Nat) (hk : Ok Q B s) :
    Ok Q B (State.trioMirror s t) := by simp [State.trioMirror, hk]

@[simp] theorem execTrioPwrReq_ok (m : Master) (t v : Nat) (s : State) (hk : Ok Q B s) :
    NextOk Q B (execTrioPwrReq m t v s) := by simp +contextual (maxDischargeDepth := 12) [execTrioPwrReq, *]

@[simp] theorem State.trioKept_ok (s : State) (t : Nat) (hk : Ok Q B s) :
    Ok Q B (State.trioKept s t) := by
  unfold State.trioKept
  (repeat' split) <;> simp [hk]

@[simp] theorem State.trioWoken_ok (s : State) (t : Nat) (hk : Ok Q B s) :
    Ok Q B (State.trioWoken s t) := by simp +contextual (maxDischargeDepth := 12) [State.trioWoken, *]

@[simp] theorem execTrioPwrEnd_ok (t us : Nat) (s : State) (hk : Ok Q B s) :
    NextOk Q B (execTrioPwrEnd t us s) := by simp +contextual (maxDischargeDepth := 12) [execTrioPwrEnd, *]

@[simp] theorem execTrioClearEnd_ok (t : Nat) (s : State) (hk : Ok Q B s) :
    NextOk Q B (execTrioClearEnd t s) := by simp (maxDischargeDepth := 12) [execTrioClearEnd, hk]

end Sys2Proof.Machine
end

