-- ==== Sys2Proof/Laws/KeepEngIsa.lean ====
section
/-! SUPPORT. What the operations of Machine/EngIsa.lean keep. -/

namespace Sys2Proof.Machine

open Reg

set_option linter.all false

variable {Q : List Instr} {B : Prop}

@[simp] theorem State.setMode_ok (s : State) (e v : Nat) (hk : Ok Q B s) :
    Ok Q B (State.setMode s e v) := by simp [State.setMode, hk]

@[simp] theorem State.setEngReg_ok (s : State) (e n v : Nat) (hk : Ok Q B s) :
    Ok Q B (State.setEngReg s e n v) := by simp [State.setEngReg, hk]

@[simp] theorem State.engStore_ok (s : State) (e m a w : Nat) (hk : Ok Q B s) :
    Ok Q B (State.engStore s e m a w).1 := by simp (maxDischargeDepth := 12) [State.engStore, hk]

@[simp] theorem State.opStore_ok (s : State) (e : Nat) (st : StoreFld) (w : Nat) (sat : Bool) (hk : Ok Q B s) (d : State) (hd : Ok
    Q B d) :
    Ok Q B ((State.opStore s e st w sat).st d) := by
  unfold State.opStore
  simp +contextual (maxDischargeDepth := 12) [*]
  (repeat' split) <;> simp_all (maxDischargeDepth := 12)

@[simp] theorem State.opMul_ok (s : State) (e : Nat) (f : MulFld) (ps : EngMode → Nat → Nat → List (Nat × Int)) (hk : Ok Q B s) (d
    : State) (hd : Ok Q B d) :
    Ok Q B ((State.opMul s e f ps).st d) := by
  unfold State.opMul
  dsimp only
  split
  · exact hd
  · split
    · simp (maxDischargeDepth := 12) [hk]
    · split
      · exact hd
      · simp (maxDischargeDepth := 12) [hk, hd]

@[simp] theorem opMac_ok (f : MulFld) (e : Nat) (s : State) (hk : Ok Q B s) (d : State) (hd : Ok Q B d) :
    Ok Q B ((opMac f e s).st d) := by simp +contextual (maxDischargeDepth := 12) [opMac, *]

@[simp] theorem opCmac_ok (f : MulFld) (e : Nat) (s : State) (hk : Ok Q B s) (d : State) (hd : Ok Q B d) :
    Ok Q B ((opCmac f e s).st d) := by simp +contextual (maxDischargeDepth := 12) [opCmac, *]

@[simp] theorem opQmac_ok (f : MulFld) (e : Nat) (s : State) (hk : Ok Q B s) (d : State) (hd : Ok Q B d) :
    Ok Q B ((opQmac f e s).st d) := by simp +contextual (maxDischargeDepth := 12) [opQmac, *]

@[simp] theorem opDmac_ok (f : MulFld) (e : Nat) (s : State) (hk : Ok Q B s) (d : State) (hd : Ok Q B d) :
    Ok Q B ((opDmac f e s).st d) := by simp +contextual (maxDischargeDepth := 12) [opDmac, *]

@[simp] theorem opPmov_ok (f : MulFld) (e : Nat) (s : State) (hk : Ok Q B s) (d : State) (hd : Ok Q B d) :
    Ok Q B ((opPmov f e s).st d) := State.opStore_ok _ _ _ _ _ (State.setEng_ok _ _ _ hk) _ hd

@[simp] theorem State.opAcc_ok (s : State) (e : Nat) (f : AccFld) (wr : Bool) (v : Int) (hk : Ok Q B s) (d : State) (hd : Ok Q B
    d) :
    Ok Q B ((State.opAcc s e f wr v).st d) := by
  unfold State.opAcc
  exact State.opStore_ok _ _ _ _ _ (State.updEng_ok _ _ _ (by split <;> simp (maxDischargeDepth := 12) [hk])) _ hd

@[simp] theorem opClr_ok (f : AccFld) (e : Nat) (s : State) (hk : Ok Q B s) (d : State) (hd : Ok Q B d) :
    Ok Q B ((opClr f e s).st d) := by simp +contextual (maxDischargeDepth := 12) [opClr, *]

@[simp] theorem opAdda_ok (f : AccFld) (e : Nat) (s : State) (hk : Ok Q B s) (d : State) (hd : Ok Q B d) :
    Ok Q B ((opAdda f e s).st d) := by simp +contextual (maxDischargeDepth := 12) [opAdda, *]

@[simp] theorem opSuba_ok (f : AccFld) (e : Nat) (s : State) (hk : Ok Q B s) (d : State) (hd : Ok Q B d) :
    Ok Q B ((opSuba f e s).st d) := by simp +contextual (maxDischargeDepth := 12) [opSuba, *]

@[simp] theorem opMova_ok (f : AccFld) (e : Nat) (s : State) (hk : Ok Q B s) (d : State) (hd : Ok Q B d) :
    Ok Q B ((opMova f e s).st d) := by simp +contextual (maxDischargeDepth := 12) [opMova, *]

@[simp] theorem opNega_ok (f : AccFld) (e : Nat) (s : State) (hk : Ok Q B s) (d : State) (hd : Ok Q B d) :
    Ok Q B ((opNega f e s).st d) := by simp +contextual (maxDischargeDepth := 12) [opNega, *]

@[simp] theorem opAbsa_ok (f : AccFld) (e : Nat) (s : State) (hk : Ok Q B s) (d : State) (hd : Ok Q B d) :
    Ok Q B ((opAbsa f e s).st d) := by simp +contextual (maxDischargeDepth := 12) [opAbsa, *]

@[simp] theorem opAsh_ok (f : AccFld) (e : Nat) (s : State) (hk : Ok Q B s) (d : State) (hd : Ok Q B d) :
    Ok Q B ((opAsh f e s).st d) := by simp +contextual (maxDischargeDepth := 12) [opAsh, *]

@[simp] theorem opCmpa_ok (f : AccFld) (e : Nat) (s : State) (hk : Ok Q B s) (d : State) (hd : Ok Q B d) :
    Ok Q B ((opCmpa f e s).st d) := by simp +contextual (maxDischargeDepth := 12) [opCmpa, *]

@[simp] theorem opTsta_ok (f : AccFld) (e : Nat) (s : State) (hk : Ok Q B s) (d : State) (hd : Ok Q B d) :
    Ok Q B ((opTsta f e s).st d) := by simp +contextual (maxDischargeDepth := 12) [opTsta, *]

@[simp] theorem opLdi_ok (reg imm e : Nat) (s : State) (hk : Ok Q B s) (d : State) (hd : Ok Q B d) :
    Ok Q B ((opLdi reg imm e s).st d) := by simp +contextual (maxDischargeDepth := 12) [opLdi, *]

@[simp] theorem opLd_ok (reg : Nat) (a : AddrFld) (e : Nat) (s : State) (hk : Ok Q B s) (d : State) (hd : Ok Q B d) :
    Ok Q B ((opLd reg a e s).st d) := by
  unfold opLd
  (repeat' split) <;> simp +contextual (maxDischargeDepth := 12) [*]

@[simp] theorem opSt_ok (reg : Nat) (a : AddrFld) (e : Nat) (s : State) (hk : Ok Q B s) (d : State) (hd : Ok Q B d) :
    Ok Q B ((opSt reg a e s).st d) := by
  unfold opSt
  simp +contextual (maxDischargeDepth := 12) [*]
  (repeat' split) <;> simp_all (maxDischargeDepth := 12)

@[simp] theorem opMovr_ok (rd rs e : Nat) (s : State) (hk : Ok Q B s) (d : State) (hd : Ok Q B d) :
    Ok Q B ((opMovr rd rs e s).st d) := by simp +contextual (maxDischargeDepth := 12) [opMovr, *]

@[simp] theorem opLda_ok (ad : Nat) (a : AddrFld) (form e : Nat) (s : State) (hk : Ok Q B s) (d : State) (hd : Ok Q B d) :
    Ok Q B ((opLda ad a form e s).st d) := by
  unfold opLda
  (repeat' split) <;> simp +contextual (maxDischargeDepth := 12) [*]

@[simp] theorem opLdai_ok (ad imm e : Nat) (s : State) (hk : Ok Q B s) (d : State) (hd : Ok Q B d) :
    Ok Q B ((opLdai ad imm e s).st d) := by simp +contextual (maxDischargeDepth := 12) [opLdai, *]

@[simp] theorem State.setLdepth_ok (s : State) (e v : Nat) (hk : Ok Q B s) :
    Ok Q B (State.setLdepth s e v) := by simp [State.setLdepth, hk]

@[simp] theorem State.setCdepth_ok (s : State) (e v : Nat) (hk : Ok Q B s) :
    Ok Q B (State.setCdepth s e v) := by simp [State.setCdepth, hk]

@[simp] theorem opJmp_ok (t e : Nat) (s : State) (hk : Ok Q B s) (d : State) (hd : Ok Q B d) :
    Ok Q B ((opJmp t e s).st d) := by simp +contextual (maxDischargeDepth := 12) [opJmp, *]

@[simp] theorem opCall_ok (t e : Nat) (s : State) (hk : Ok Q B s) (d : State) (hd : Ok Q B d) :
    Ok Q B ((opCall t e s).st d) := by simp +contextual (maxDischargeDepth := 12) [opCall, *]

@[simp] theorem opRet_ok (e : Nat) (s : State) (hk : Ok Q B s) (d : State) (hd : Ok Q B d) :
    Ok Q B ((opRet e s).st d) := by simp +contextual (maxDischargeDepth := 12) [opRet, *]

@[simp] theorem opLoop_ok (count last e : Nat) (s : State) (hk : Ok Q B s) (d : State) (hd : Ok Q B d) :
    Ok Q B ((opLoop count last e s).st d) := by simp +contextual (maxDischargeDepth := 12) [opLoop, *]

@[simp] theorem opLoopr_ok (reg last e : Nat) (s : State) (hk : Ok Q B s) (d : State) (hd : Ok Q B d) :
    Ok Q B ((opLoopr reg last e s).st d) := by simp +contextual (maxDischargeDepth := 12) [opLoopr, *]

@[simp] theorem opBreak_ok (e : Nat) (s : State) (hk : Ok Q B s) (d : State) (hd : Ok Q B d) :
    Ok Q B ((opBreak e s).st d) := by simp +contextual (maxDischargeDepth := 12) [opBreak, *]

@[simp] theorem State.wdtReload_ok (s : State) (e : Nat) (hk : Ok Q B s) :
    Ok Q B (State.wdtReload s e) := by simp [State.wdtReload, hk]

@[simp] theorem opKick_ok (e : Nat) (s : State) (hk : Ok Q B s) (d : State) (hd : Ok Q B d) :
    Ok Q B ((opKick e s).st d) := by simp +contextual (maxDischargeDepth := 12) [opKick, *]

@[simp] theorem opStim_ok (reg : Nat) (i : Bool) (chan imm e : Nat) (s : State) (hk : Ok Q B s) (d : State) (hd : Ok Q B d) :
    Ok Q B ((opStim reg i chan imm e s).st d) := by simp +contextual (maxDischargeDepth := 12) [opStim, *]

@[simp] theorem opWaitd_ok (mask e : Nat) (s : State) (hk : Ok Q B s) (d : State) (hd : Ok Q B d) :
    Ok Q B ((opWaitd mask e s).st d) := by simp +contextual (maxDischargeDepth := 12) [opWaitd, *]

@[simp] theorem opSig_ok (code e : Nat) (s : State) (hk : Ok Q B s) (d : State) (hd : Ok Q B d) :
    Ok Q B ((opSig code e s).st d) := by simp +contextual (maxDischargeDepth := 12) [opSig, *]

@[simp] theorem runOp_ok (e : Nat) (s : State) (y0 : EngOp) (hk : Ok Q B s) (d : State) (hd : Ok Q B d) :
    Ok Q B ((runOp e s y0).st d) := by
  unfold runOp
  (repeat' split) <;> simp +contextual (maxDischargeDepth := 12) [*]

@[simp] theorem State.engRetire_ok (s : State) (e : Nat) (hk : Ok Q B s) :
    Ok Q B (State.engRetire s e) := by simp [State.engRetire, hk]

@[simp] theorem State.engExc_ok (s : State) (e cause detail pc : Nat) (hk : Ok Q B s) :
    Ok Q B (State.engExc s e cause detail pc) := by simp (maxDischargeDepth := 12) [State.engExc, hk]

@[simp] theorem State.engDone_ok (s : State) (e pc npc : Nat) (ue : Bool) (count : Bool) (hk : Ok Q B s) :
    Ok Q B (State.engDone s e pc npc ue count) := by
  unfold State.engDone
  simp +contextual (maxDischargeDepth := 12) [*]
  (repeat' split) <;> simp_all (maxDischargeDepth := 12)

@[simp] theorem State.engFault_ok (s : State) (e cause detail : Nat) (hk : Ok Q B s) :
    Ok Q B (State.engFault s e cause detail) := by
  unfold State.engFault
  (repeat' split) <;> simp [hk]

@[simp] theorem State.engHalt_ok (s : State) (e code : Nat) (hk : Ok Q B s) :
    Ok Q B (State.engHalt s e code) := by
  unfold State.engHalt
  dsimp only
  split
  · exact State.engExc_ok _ _ _ _ _ (State.engRetire_ok _ _ (State.setEngPc_ok _ _ _ hk))
  · exact State.brEng_ok _ _ _ (State.raise_ok _ _ _ _ _ (State.setFs_ok _ _ (State.updEng_ok _ _ _
      (State.engRetire_ok _ _ (State.setEngPc_ok _ _ _ hk)))))

@[simp] theorem State.engRun_ok (s : State) (e : Nat) (is : Issue) (op : EngOp) (hk : Ok Q B s) :
    Ok Q B (State.engRun s e is op) := by
  unfold State.engRun
  extract_lets t j pc s1 g atEnd fe s2 nx
  have h2 : Ok Q B s2 := by simp (maxDischargeDepth := 12) [s2, s1, hk]
  have hn : ∀ u, Ok Q B u → Ok Q B (nx u).1 := fun u h => by simp (maxDischargeDepth := 12) [nx, h]
  have hr := runOp_ok e s2 op h2 s2 h2
  split
  · simp (maxDischargeDepth := 12) [h2]
  · split
    · simp (maxDischargeDepth := 12) [h2]
    · split
      · simp (maxDischargeDepth := 12) [h2]
      · split
        · simp (maxDischargeDepth := 12) [h2]
        · split
          · exact State.engDone_ok _ _ _ _ _ _ (hn _ h2)
          · split <;> (try dsimp only) <;> (try split) <;> simp_all (maxDischargeDepth := 12)

@[simp] theorem State.engIssue_ok (s : State) (e : Nat) (is : Issue) (op : EngOp) (hk : Ok Q B s) :
    Ok Q B (State.engIssue s e is op) := by simp [State.engIssue, hk]

@[simp] theorem execEngNop_ok (e : Nat) (is : Issue) (s : State) (hk : Ok Q B s) :
    NextOk Q B (execEngNop e is s) := by simp [execEngNop, hk]

@[simp] theorem execMac_ok (e : Nat) (is : Issue) (f : MulFld) (s : State) (hk : Ok Q B s) :
    NextOk Q B (execMac e is f s) := by simp [execMac, hk]

@[simp] theorem execCmac_ok (e : Nat) (is : Issue) (f : MulFld) (s : State) (hk : Ok Q B s) :
    NextOk Q B (execCmac e is f s) := by simp [execCmac, hk]

@[simp] theorem execQmac_ok (e : Nat) (is : Issue) (f : MulFld) (s : State) (hk : Ok Q B s) :
    NextOk Q B (execQmac e is f s) := by simp [execQmac, hk]

@[simp] theorem execDmac_ok (e : Nat) (is : Issue) (f : MulFld) (s : State) (hk : Ok Q B s) :
    NextOk Q B (execDmac e is f s) := by simp [execDmac, hk]

@[simp] theorem execPmov_ok (e : Nat) (is : Issue) (f : MulFld) (s : State) (hk : Ok Q B s) :
    NextOk Q B (execPmov e is f s) := by simp [execPmov, hk]

@[simp] theorem execClr_ok (e : Nat) (is : Issue) (f : AccFld) (s : State) (hk : Ok Q B s) :
    NextOk Q B (execClr e is f s) := by simp [execClr, hk]

@[simp] theorem execAdda_ok (e : Nat) (is : Issue) (f : AccFld) (s : State) (hk : Ok Q B s) :
    NextOk Q B (execAdda e is f s) := by simp [execAdda, hk]

@[simp] theorem execSuba_ok (e : Nat) (is : Issue) (f : AccFld) (s : State) (hk : Ok Q B s) :
    NextOk Q B (execSuba e is f s) := by simp [execSuba, hk]

@[simp] theorem execMova_ok (e : Nat) (is : Issue) (f : AccFld) (s : State) (hk : Ok Q B s) :
    NextOk Q B (execMova e is f s) := by simp [execMova, hk]

@[simp] theorem execNega_ok (e : Nat) (is : Issue) (f : AccFld) (s : State) (hk : Ok Q B s) :
    NextOk Q B (execNega e is f s) := by simp [execNega, hk]

@[simp] theorem execAbsa_ok (e : Nat) (is : Issue) (f : AccFld) (s : State) (hk : Ok Q B s) :
    NextOk Q B (execAbsa e is f s) := by simp [execAbsa, hk]

@[simp] theorem execAsh_ok (e : Nat) (is : Issue) (f : AccFld) (s : State) (hk : Ok Q B s) :
    NextOk Q B (execAsh e is f s) := by simp [execAsh, hk]

@[simp] theorem execCmpa_ok (e : Nat) (is : Issue) (f : AccFld) (s : State) (hk : Ok Q B s) :
    NextOk Q B (execCmpa e is f s) := by simp [execCmpa, hk]

@[simp] theorem execTsta_ok (e : Nat) (is : Issue) (f : AccFld) (s : State) (hk : Ok Q B s) :
    NextOk Q B (execTsta e is f s) := by simp [execTsta, hk]

@[simp] theorem execLdi_ok (e : Nat) (is : Issue) (reg imm : Nat) (s : State) (hk : Ok Q B s) :
    NextOk Q B (execLdi e is reg imm s) := by simp [execLdi, hk]

@[simp] theorem execLd_ok (e : Nat) (is : Issue) (reg : Nat) (a : AddrFld) (s : State) (hk : Ok Q B s) :
    NextOk Q B (execLd e is reg a s) := by simp [execLd, hk]

@[simp] theorem execSt_ok (e : Nat) (is : Issue) (reg : Nat) (a : AddrFld) (s : State) (hk : Ok Q B s) :
    NextOk Q B (execSt e is reg a s) := by simp [execSt, hk]

@[simp] theorem execMovr_ok (e : Nat) (is : Issue) (rd rs : Nat) (s : State) (hk : Ok Q B s) :
    NextOk Q B (execMovr e is rd rs s) := by simp [execMovr, hk]

@[simp] theorem execLda_ok (e : Nat) (is : Issue) (ad : Nat) (a : AddrFld) (form : Nat) (s : State) (hk : Ok Q B s) :
    NextOk Q B (execLda e is ad a form s) := by simp [execLda, hk]

@[simp] theorem execLdai_ok (e : Nat) (is : Issue) (ad imm : Nat) (s : State) (hk : Ok Q B s) :
    NextOk Q B (execLdai e is ad imm s) := by simp [execLdai, hk]

@[simp] theorem execJmp_ok (e : Nat) (is : Issue) (target : Nat) (s : State) (hk : Ok Q B s) :
    NextOk Q B (execJmp e is target s) := by simp [execJmp, hk]

@[simp] theorem execCall_ok (e : Nat) (is : Issue) (target : Nat) (s : State) (hk : Ok Q B s) :
    NextOk Q B (execCall e is target s) := by simp [execCall, hk]

@[simp] theorem execRet_ok (e : Nat) (is : Issue) (s : State) (hk : Ok Q B s) :
    NextOk Q B (execRet e is s) := by simp [execRet, hk]

@[simp] theorem execLoop_ok (e : Nat) (is : Issue) (count last : Nat) (s : State) (hk : Ok Q B s) :
    NextOk Q B (execLoop e is count last s) := by simp [execLoop, hk]

@[simp] theorem execLoopr_ok (e : Nat) (is : Issue) (reg last : Nat) (s : State) (hk : Ok Q B s) :
    NextOk Q B (execLoopr e is reg last s) := by simp [execLoopr, hk]

@[simp] theorem execBreak_ok (e : Nat) (is : Issue) (s : State) (hk : Ok Q B s) :
    NextOk Q B (execBreak e is s) := by simp [execBreak, hk]

@[simp] theorem execHalt_ok (e : Nat) (is : Issue) (code : Nat) (s : State) (hk : Ok Q B s) :
    NextOk Q B (execHalt e is code s) := by simp [execHalt, hk]

@[simp] theorem execKick_ok (e : Nat) (is : Issue) (s : State) (hk : Ok Q B s) :
    NextOk Q B (execKick e is s) := by simp [execKick, hk]

@[simp] theorem execStim_ok (e : Nat) (is : Issue) (reg : Nat) (imd : Bool) (chan imm : Nat) (s : State) (hk : Ok Q B s) :
    NextOk Q B (execStim e is reg imd chan imm s) := by simp [execStim, hk]

@[simp] theorem execWaitd_ok (e : Nat) (is : Issue) (mask : Nat) (s : State) (hk : Ok Q B s) :
    NextOk Q B (execWaitd e is mask s) := by simp [execWaitd, hk]

@[simp] theorem execSig_ok (e : Nat) (is : Issue) (code : Nat) (s : State) (hk : Ok Q B s) :
    NextOk Q B (execSig e is code s) := by simp [execSig, hk]

end Sys2Proof.Machine
end

