-- ==== Sys2Proof/Laws/KeepEngCtl.lean ====
section
/-! SUPPORT. What the operations of Machine/EngCtl.lean keep. -/

namespace Sys2Proof.Machine

open Reg

set_option linter.all false

variable {Q : List Instr} {B : Prop}

@[simp] theorem State.excClear_ok (s : State) (e : Nat) (hk : Ok Q B s) :
    Ok Q B (State.excClear s e) := by simp [State.excClear, hk]

@[simp] theorem State.engStart_ok (s : State) (e : Nat) (hk : Ok Q B s) :
    Ok Q B (State.engStart s e) := by simp (maxDischargeDepth := 12) [State.engStart, hk]

@[simp] theorem execEngStart_ok (m : Master) (e : Nat) (s : State) (hk : Ok Q B s) :
    NextOk Q B (execEngStart m e s) := by simp +contextual (maxDischargeDepth := 12) [execEngStart, *]

@[simp] theorem State.engStopTo_ok (s : State) (e tgt : Nat) (hk : Ok Q B s) :
    Ok Q B (State.engStopTo s e tgt) := by simp [State.engStopTo, hk]

@[simp] theorem execEngStop_ok (m : Master) (e : Nat) (s : State) (hk : Ok Q B s) :
    NextOk Q B (execEngStop m e s) := by simp +contextual (maxDischargeDepth := 12) [execEngStop, *]

@[simp] theorem State.engStep_ok (s : State) (e cyc : Nat) (hk : Ok Q B s) :
    Ok Q B (State.engStep s e cyc) := by simp (maxDischargeDepth := 12) [State.engStep, hk]

@[simp] theorem execEngStep_ok (m : Master) (e cyc : Nat) (s : State) (hk : Ok Q B s) :
    NextOk Q B (execEngStep m e cyc s) := by simp +contextual (maxDischargeDepth := 12) [execEngStep, *]

@[simp] theorem State.engClrregCmd_ok (s : State) (e : Nat) (hk : Ok Q B s) :
    Ok Q B (State.engClrregCmd s e) := by simp [State.engClrregCmd, hk]

@[simp] theorem execEngClrreg_ok (m : Master) (e : Nat) (s : State) (hk : Ok Q B s) :
    NextOk Q B (execEngClrreg m e s) := by simp +contextual (maxDischargeDepth := 12) [execEngClrreg, *]

@[simp] theorem State.engResume_ok (s : State) (e : Nat) (hk : Ok Q B s) :
    Ok Q B (State.engResume s e) := by simp [State.engResume, hk]

@[simp] theorem execEngStopEnd_ok (e : Nat) (s : State) (hk : Ok Q B s) :
    NextOk Q B (execEngStopEnd e s) := by
  unfold execEngStopEnd
  simp +contextual (maxDischargeDepth := 12) [*]
  (repeat' split) <;> simp_all (maxDischargeDepth := 12)

@[simp] theorem execEngStallRelease_ok (e cyc : Nat) (s : State) (hk : Ok Q B s) :
    NextOk Q B (execEngStallRelease e cyc s) := by
  unfold execEngStallRelease
  simp +contextual (maxDischargeDepth := 12) [*]
  (repeat' split) <;> simp_all (maxDischargeDepth := 12)

@[simp] theorem execEngStallAbandon_ok (e : Nat) (s : State) (hk : Ok Q B s) :
    NextOk Q B (execEngStallAbandon e s) := by
  unfold execEngStallAbandon
  simp +contextual (maxDischargeDepth := 12) [*]
  (repeat' split) <;> simp_all (maxDischargeDepth := 12)

@[simp] theorem State.wdtTick_ok (s : State) (hk : Ok Q B s) :
    Ok Q B (State.wdtTick s) := by simp +contextual (maxDischargeDepth := 12) [State.wdtTick, *]

@[simp] theorem State.wdtWrite_ok (s : State) (e en load : Nat) (hk : Ok Q B s) :
    Ok Q B (State.wdtWrite s e en load) := by simp +contextual (maxDischargeDepth := 12) [State.wdtWrite, *]

@[simp] theorem execEngWdtExpire_ok (e : Nat) (s : State) (hk : Ok Q B s) :
    NextOk Q B (execEngWdtExpire e s) := by simp [execEngWdtExpire, hk]

@[simp] theorem State.setRegdata_ok (s : State) (m : Master) (e v : Nat) (hk : Ok Q B s) :
    Ok Q B (State.setRegdata s m e v) := by simp [State.setRegdata, hk]

@[simp] theorem execEngRegdataWrite_ok (m : Master) (e v : Nat) (s : State) (hk : Ok Q B s) :
    NextOk Q B (execEngRegdataWrite m e v s) := by simp +contextual (maxDischargeDepth := 12) [execEngRegdataWrite, *]

end Sys2Proof.Machine
end

