-- ==== Sys2Proof/Laws/KeepGpio.lean ====
section
/-! SUPPORT. What the operations of Machine/Gpio.lean keep. -/

namespace Sys2Proof.Machine

open Reg

set_option linter.all false

variable {Q : List Instr} {B : Prop}

@[simp] theorem State.updGpio_ok (s : State) (g : Gpio → Gpio) (hk : Ok Q B s) :
    Ok Q B (State.updGpio s g) := by simp [State.updGpio, hk]

@[simp] theorem State.padNote_ok (s : State) (hk : Ok Q B s) :
    Ok Q B (State.padNote s) := by simp [State.padNote, hk]

@[simp] theorem State.sleepPins_ok (old s : State) (l : List Nat) (hk : Ok Q B s) :
    Ok Q B (State.sleepPins old s l) := by simp +contextual (maxDischargeDepth := 12) [State.sleepPins, *]

@[simp] theorem State.shareCheck_ok (s : State) (n : Nat) (hk : Ok Q B s) :
    Ok Q B (State.shareCheck s n) := by
  unfold State.shareCheck
  simp +contextual (maxDischargeDepth := 12) [*]
  (repeat' split) <;> simp_all (maxDischargeDepth := 12)

@[simp] theorem State.shareAll_ok (s : State) (l : List Nat) (hk : Ok Q B s) :
    Ok Q B (State.shareAll s l) := by simp +contextual (maxDischargeDepth := 12) [State.shareAll, *]

@[simp] theorem State.pinSwitch_ok (s : State) (n : Nat) (hk : Ok Q B s) :
    Ok Q B (State.pinSwitch s n) := by simp [State.pinSwitch, hk]

@[simp] theorem State.mapWrite_ok (s : State) (i en pin : Nat) (hk : Ok Q B s) :
    Ok Q B (State.mapWrite s i en pin) := by
  unfold State.mapWrite
  simp +contextual (maxDischargeDepth := 12) [*]
  (repeat' split) <;> simp_all (maxDischargeDepth := 12)

@[simp] theorem State.mapApply_ok (s : State) (n : Nat) (hk : Ok Q B s) :
    Ok Q B (State.mapApply s n) := by
  unfold State.mapApply
  refine Ok_foldl _ (fun t i h => ?_) _ _ hk
  split
  · exact h
  · split
    · dsimp only
      split
      · exact State.applyLive_ok _ _ (State.applyLive_ok _ _ h)
      · exact State.applyLive_ok _ _ h
    · exact h

@[simp] theorem execGpioSwitchPark_ok (n : Nat) (s : State) (hk : Ok Q B s) :
    NextOk Q B (execGpioSwitchPark n s) := by simp [execGpioSwitchPark, hk]

@[simp] theorem State.pinConnect_ok (s : State) (n : Nat) (lev ext : List (Nat × Nat)) (hk : Ok Q B s) :
    Ok Q B (State.pinConnect s n lev ext) := by
  unfold State.pinConnect
  simp +contextual (maxDischargeDepth := 12) [*]
  (repeat' split) <;> simp_all (maxDischargeDepth := 12)

@[simp] theorem execGpioSwitchConnect_ok (n : Nat) (lev ext : List (Nat × Nat)) (s : State) (hk : Ok Q B s) :
    NextOk Q B (execGpioSwitchConnect n lev ext s) := by simp [execGpioSwitchConnect, hk]

@[simp] theorem State.wakePins_ok (old s : State) (l : List Nat) (hk : Ok Q B s) :
    Ok Q B (State.wakePins old s l) := by
  unfold State.wakePins
  refine Ok_foldl _ (fun t n h => ?_) _ _ hk
  split
  · exact State.pinSwitch_ok _ _ h
  · exact h

@[simp] theorem State.wakeRegionPins_ok (old s : State) (r : Nat) (hk : Ok Q B s) :
    Ok Q B (State.wakeRegionPins old s r) := by simp [State.wakeRegionPins, hk]

@[simp] theorem State.wakeDiePins_ok (old s : State) (d : Nat) (hk : Ok Q B s) :
    Ok Q B (State.wakeDiePins old s d) := by simp [State.wakeDiePins, hk]

@[simp] theorem State.shareRegionPins_ok (s : State) (r : Nat) (hk : Ok Q B s) :
    Ok Q B (State.shareRegionPins s r) := by simp +contextual (maxDischargeDepth := 12) [State.shareRegionPins, *]

@[simp] theorem State.lockLeave_ok (s : State) (hk : Ok Q B s) :
    Ok Q B (State.lockLeave s) := by simp [State.lockLeave, hk]

@[simp] theorem State.lockAbort_ok (s : State) (hk : Ok Q B s) :
    Ok Q B (State.lockAbort s) := by simp (maxDischargeDepth := 12) [State.lockAbort, hk]

@[simp] theorem State.lockArm_ok (s : State) (m : Master) (w core : Nat) (hk : Ok Q B s) :
    Ok Q B (State.lockArm s m w core) := by simp [State.lockArm, hk]

@[simp] theorem execGpioLockArm_ok (m : Master) (w core : Nat) (s : State) (hk : Ok Q B s) :
    NextOk Q B (execGpioLockArm m w core s) := by simp +contextual (maxDischargeDepth := 12) [execGpioLockArm, *]

@[simp] theorem State.lockMask_ok (s : State) (mask : Nat) (hk : Ok Q B s) :
    Ok Q B (State.lockMask s mask) := by simp [State.lockMask, hk]

@[simp] theorem execGpioLockMaskWrite_ok (m : Master) (mask : Nat) (s : State) (hk : Ok Q B s) :
    NextOk Q B (execGpioLockMaskWrite m mask s) := by simp +contextual (maxDischargeDepth := 12) [execGpioLockMaskWrite, *]

@[simp] theorem State.lockCommit_ok (s : State) (w : Nat) (hk : Ok Q B s) :
    Ok Q B (State.lockCommit s w) := by simp (maxDischargeDepth := 12) [State.lockCommit, hk]

@[simp] theorem execGpioLockCommit_ok (m : Master) (w : Nat) (s : State) (hk : Ok Q B s) :
    NextOk Q B (execGpioLockCommit m w s) := by simp +contextual (maxDischargeDepth := 12) [execGpioLockCommit, *]

@[simp] theorem execGpioLockTimeout_ok (s : State) (hk : Ok Q B s) :
    NextOk Q B (execGpioLockTimeout s) := by simp [execGpioLockTimeout, hk]

@[simp] theorem State.mapRegWrite_ok (s : State) (m : Master) (a i v : Nat) (hk : Ok Q B s) :
    Ok Q B (State.mapRegWrite s m a i v) := by simp (maxDischargeDepth := 12) [State.mapRegWrite, hk]

end Sys2Proof.Machine
end

