-- ==== Sys2Proof/Laws/KeepDmc.lean ====
section
/-! SUPPORT. What the operations of Machine/Dmc.lean keep. -/

namespace Sys2Proof.Machine

open Reg

set_option linter.all false

variable {Q : List Instr} {B : Prop}

@[simp] theorem State.setPc_ok (s : State) (n : Nat) (c : Pc) (hk : Ok Q B s) :
    Ok Q B (State.setPc s n c) := by simp [State.setPc, hk]

@[simp] theorem State.updPc_ok (s : State) (n : Nat) (f : Pc → Pc) (hk : Ok Q B s) :
    Ok Q B (State.updPc s n f) := by simp [State.updPc, hk]

@[simp] theorem State.setPcState_ok (s : State) (n v : Nat) (hk : Ok Q B s) :
    Ok Q B (State.setPcState s n v) := by simp [State.setPcState, hk]

@[simp] theorem State.setWordBad_ok (s : State) (a : Nat) (l : List Nat) (hk : Ok Q B s) :
    Ok Q B (State.setWordBad s a l) := by simp [State.setWordBad, hk]

@[simp] theorem State.pcSeeErr_ok (s : State) (n a : Nat) (l : List Nat) (hk : Ok Q B s) :
    Ok Q B (State.pcSeeErr s n a l) := by
  unfold State.pcSeeErr
  (repeat' split) <;> simp (maxDischargeDepth := 12) [hk]

@[simp] theorem State.writeBeat_ok (s : State) (b : Beat) (hk : Ok Q B s) :
    Ok Q B (State.writeBeat s b) := by simp (maxDischargeDepth := 12) [State.writeBeat, hk]

theorem foldl_put_wf (g : Nat → Nat) (l m : List Host.Cell) (h : Memory.wf m) :
    Memory.wf (l.foldl (fun m (e : Nat × Byte) => SMap.put memDefault m (g e.1) e.2) m) := by
  induction l generalizing m with
  | nil => exact h
  | cons a l ih => exact ih _ (SMap.wf_put _ _ _ h)

@[simp] theorem State.mapMoved_ok (s : State) (old new : Nat) (hk : Ok Q B s) :
    Ok Q B (State.mapMoved s old new) := by
  unfold State.mapMoved
  split
  · exact hk
  · refine Ok_foldl _ (fun t n h => by simp [h]) _ _ ⟨hk.1, fun h => ⟨foldl_put_wf _ _ _ ⟨List.Pairwise.nil, fun _ h => nomatch h⟩, (hk.2 h).2⟩⟩

@[simp] theorem State.pcEnter_ok (s : State) (n t : Nat) (p : Packet) (hk : Ok Q B s) :
    Ok Q B (State.pcEnter s n t p) := by simp [State.pcEnter, hk]

@[simp] theorem State.pcAdmit_ok (s : State) (n : Nat) (y0 : Nat) (hk : Ok Q B s) :
    Ok Q B (State.pcAdmit s n y0) := by
  induction y0 generalizing s with
  | zero => exact hk
  | succ n ih =>
    simp only [State.pcAdmit]
    (repeat' split) <;> simp +contextual (maxDischargeDepth := 16) [*]

@[simp] theorem State.pcAccept_ok (s : State) (n : Nat) (p : Packet) (hk : Ok Q B s) :
    Ok Q B (State.pcAccept s n p) := by
  unfold State.pcAccept
  (repeat' split) <;> simp [hk]

@[simp] theorem execDmcRequest_ok (n : Nat) (s : State) (hk : Ok Q B s) :
    NextOk Q B (execDmcRequest n s) := by
  unfold execDmcRequest
  (repeat' split) <;> simp [hk]

@[simp] theorem execDmcQueueEntryFree_ok (n : Nat) (s : State) (hk : Ok Q B s) :
    NextOk Q B (execDmcQueueEntryFree n s) := by simp [execDmcQueueEntryFree, hk]

@[simp] theorem State.hbmUe_ok (s : State) (n lease : Nat) (hk : Ok Q B s) :
    Ok Q B (State.hbmUe s n lease) := by simp [State.hbmUe, hk]

@[simp] theorem State.mergeThis_ok (s : State) (n : Nat) (b : Beat) (hk : Ok Q B s) :
    Ok Q B (State.mergeThis s n b) := by
  unfold State.mergeThis
  simp +contextual (maxDischargeDepth := 12) [*]
  (repeat' split) <;> simp_all (maxDischargeDepth := 12)

@[simp] theorem execDmcMerge_ok (n : Nat) (s : State) (hk : Ok Q B s) :
    NextOk Q B (execDmcMerge n s) := by
  unfold execDmcMerge
  simp +contextual (maxDischargeDepth := 12) [*]
  (repeat' split) <;> simp_all (maxDischargeDepth := 12)

@[simp] theorem State.issueWrite_ok (s : State) (n : Nat) (b : Beat) (hk : Ok Q B s) :
    Ok Q B (State.issueWrite s n b) := by simp [State.issueWrite, hk]

@[simp] theorem State.readSeen_ok (s : State) (n : Nat) (b : Beat) (hk : Ok Q B s) :
    Ok Q B (State.readSeen s n b) := by simp +contextual (maxDischargeDepth := 12) [State.readSeen, *]

@[simp] theorem State.issueRead_ok (s : State) (n : Nat) (b : Beat) (hk : Ok Q B s) :
    Ok Q B (State.issueRead s n b) := by simp (maxDischargeDepth := 12) [State.issueRead, hk]

@[simp] theorem State.drainGo_ok (n a k : Nat) (y0 : Nat) (y1 : State) (hk : Ok Q B y1) :
    Ok Q B (State.drainGo n a k y0 y1) := by
  induction y0 generalizing y1 with
  | zero => exact hk
  | succ n ih =>
    simp only [State.drainGo]
    (repeat' split) <;> simp +contextual (maxDischargeDepth := 16) [*]

@[simp] theorem State.drainFor_ok (s : State) (a k : Nat) (hk : Ok Q B s) :
    Ok Q B (State.drainFor s a k) := by simp +contextual (maxDischargeDepth := 12) [State.drainFor, *]

@[simp] theorem State.drainRange_ok (s : State) (a k : Nat) (hk : Ok Q B s) :
    Ok Q B (State.drainRange s a k) := by simp +contextual (maxDischargeDepth := 12) [State.drainRange, *]

@[simp] theorem State.unitRead_ok (s : State) (p : Packet) (a k : Nat) (hk : Ok Q B s) :
    Ok Q B (State.unitRead s p a k) := by simp +contextual (maxDischargeDepth := 12) [State.unitRead, *]

@[simp] theorem State.unitWrite_ok (s : State) (p : Packet) (a : Nat) (d : List Byte) (hk : Ok Q B s) :
    Ok Q B (State.unitWrite s p a d) := by simp +contextual (maxDischargeDepth := 12) [State.unitWrite, *]

@[simp] theorem State.hbmRead_ok (s : State) (a k : Nat) (hk : Ok Q B s) :
    Ok Q B (State.hbmRead s a k).1 := by simp [State.hbmRead, hk]

@[simp] theorem State.hbmWrite_ok (s : State) (a : Nat) (d : List Byte) (hk : Ok Q B s) :
    Ok Q B (State.hbmWrite s a d) := by simp +contextual (maxDischargeDepth := 12) [State.hbmWrite, *]

@[simp] theorem State.reclass_ok (s : State) (n : Nat) (hk : Ok Q B s) :
    Ok Q B (State.reclass s n) := by simp +contextual (maxDischargeDepth := 12) [State.reclass, *]

@[simp] theorem State.pcPorts_ok (s : State) (n : Nat) (ready : List Beat) (hk : Ok Q B s) :
    Ok Q B (State.pcPorts s n ready) := by simp +contextual (maxDischargeDepth := 12) [State.pcPorts, *]

@[simp] theorem State.pcReeled_ok (s : State) (n : Nat) (hk : Ok Q B s) :
    Ok Q B (State.pcReeled s n) := by simp [State.pcReeled, hk]

@[simp] theorem State.refreshSlot_ok (s : State) (n : Nat) (busy : List Nat) (hk : Ok Q B s) :
    Ok Q B (State.refreshSlot s n busy) := by
  unfold State.refreshSlot
  simp +contextual (maxDischargeDepth := 12) [*]
  (repeat' split) <;> simp_all (maxDischargeDepth := 12)

@[simp] theorem execDmcCommandSlot_ok (n : Nat) (busy : List Nat) (s : State) (hk : Ok Q B s) :
    NextOk Q B (execDmcCommandSlot n busy s) := by
  unfold execDmcCommandSlot
  simp +contextual (maxDischargeDepth := 12) [*]
  (repeat' split) <;> simp_all (maxDischargeDepth := 12)

@[simp] theorem execDmcReadChecked_ok (n : Nat) (s : State) (hk : Ok Q B s) :
    NextOk Q B (execDmcReadChecked n s) := by
  unfold execDmcReadChecked
  simp +contextual (maxDischargeDepth := 12) [*]
  (repeat' split) <;> simp_all (maxDischargeDepth := 12)

@[simp] theorem execDmcPageTimer_ok (n bank : Nat) (longest : Bool) (s : State) (hk : Ok Q B s) :
    NextOk Q B (execDmcPageTimer n bank longest s) := by
  unfold execDmcPageTimer
  simp +contextual (maxDischargeDepth := 12) [*]
  (repeat' split) <;> simp_all (maxDischargeDepth := 12)

@[simp] theorem execRefreshDebtTick_ok (n : Nat) (s : State) (hk : Ok Q B s) :
    NextOk Q B (execRefreshDebtTick n s) := by simp [execRefreshDebtTick, hk]

@[simp] theorem execDmcTempRead_ok (n t : Nat) (s : State) (hk : Ok Q B s) :
    NextOk Q B (execDmcTempRead n t s) := by simp [execDmcTempRead, hk]

@[simp] theorem execSelfRefreshEntry_ok (n : Nat) (s : State) (hk : Ok Q B s) :
    NextOk Q B (execSelfRefreshEntry n s) := by simp [execSelfRefreshEntry, hk]

@[simp] theorem State.pcWake_ok (s : State) (n : Nat) (hk : Ok Q B s) :
    Ok Q B (State.pcWake s n) := by simp (maxDischargeDepth := 12) [State.pcWake, hk]

@[simp] theorem execSelfRefreshExit_ok (n : Nat) (s : State) (hk : Ok Q B s) :
    NextOk Q B (execSelfRefreshExit n s) := by simp [execSelfRefreshExit, hk]

@[simp] theorem State.pcCmd_ok (s : State) (n : Nat) (accepted : List Nat) (act : State → State) (hact : ∀ t, Ok Q B t → Ok Q B
    (act t)) (hk : Ok Q B s) :
    Ok Q B (State.pcCmd s n accepted act) := by simp +contextual (maxDischargeDepth := 12) [State.pcCmd, *]

@[simp] theorem State.pcRecal_ok (s : State) (n : Nat) (hk : Ok Q B s) :
    Ok Q B (State.pcRecal s n) := by simp [State.pcRecal, hk]

@[simp] theorem State.pcCmdRecal_ok (s : State) (n : Nat) (hk : Ok Q B s) :
    Ok Q B (State.pcCmdRecal s n) := by simp +contextual (maxDischargeDepth := 12) [State.pcCmdRecal, *]

@[simp] theorem execDmcCmdRecal_ok (m : Master) (n : Nat) (s : State) (hk : Ok Q B s) :
    NextOk Q B (execDmcCmdRecal m n s) := by simp +contextual (maxDischargeDepth := 12) [execDmcCmdRecal, *]

@[simp] theorem execRecalTimer_ok (n : Nat) (s : State) (hk : Ok Q B s) :
    NextOk Q B (execRecalTimer n s) := by simp [execRecalTimer, hk]

@[simp] theorem execRecalEnd_ok (n : Nat) (s : State) (hk : Ok Q B s) :
    NextOk Q B (execRecalEnd n s) := by simp [execRecalEnd, hk]

@[simp] theorem State.pcRetrain_ok (s : State) (n : Nat) (hk : Ok Q B s) :
    Ok Q B (State.pcRetrain s n) := by simp (maxDischargeDepth := 12) [State.pcRetrain, hk]

@[simp] theorem execDmcParityError_ok (n kind : Nat) (failed : Bool) (s : State) (hk : Ok Q B s) :
    NextOk Q B (execDmcParityError n kind failed s) := by simp (maxDischargeDepth := 12) [execDmcParityError, hk]

@[simp] theorem State.pcCmdReelIn_ok (s : State) (n : Nat) (hk : Ok Q B s) :
    Ok Q B (State.pcCmdReelIn s n) := by simp +contextual (maxDischargeDepth := 12) [State.pcCmdReelIn, *]

@[simp] theorem execDmcCmdReelIn_ok (m : Master) (n : Nat) (s : State) (hk : Ok Q B s) :
    NextOk Q B (execDmcCmdReelIn m n s) := by simp +contextual (maxDischargeDepth := 12) [execDmcCmdReelIn, *]

@[simp] theorem State.pcCmdPayOut_ok (s : State) (n : Nat) (hk : Ok Q B s) :
    Ok Q B (State.pcCmdPayOut s n) := by simp +contextual (maxDischargeDepth := 12) [State.pcCmdPayOut, *]

@[simp] theorem execDmcCmdPayOut_ok (m : Master) (n : Nat) (s : State) (hk : Ok Q B s) :
    NextOk Q B (execDmcCmdPayOut m n s) := by simp +contextual (maxDischargeDepth := 12) [execDmcCmdPayOut, *]

@[simp] theorem State.pcCmdRetrain_ok (s : State) (n : Nat) (hk : Ok Q B s) :
    Ok Q B (State.pcCmdRetrain s n) := by simp +contextual (maxDischargeDepth := 12) [State.pcCmdRetrain, *]

@[simp] theorem execDmcCmdRetrain_ok (m : Master) (n : Nat) (s : State) (hk : Ok Q B s) :
    NextOk Q B (execDmcCmdRetrain m n s) := by simp +contextual (maxDischargeDepth := 12) [execDmcCmdRetrain, *]

@[simp] theorem State.pcFault_ok (s : State) (n result : Nat) (hk : Ok Q B s) :
    Ok Q B (State.pcFault s n result) := by simp +contextual (maxDischargeDepth := 12) [State.pcFault, *]

@[simp] theorem execRetrainStepOverrun_ok (n result : Nat) (s : State) (hk : Ok Q B s) :
    NextOk Q B (execRetrainStepOverrun n result s) := by simp [execRetrainStepOverrun, hk]

@[simp] theorem execRetrainEnd_ok (n repairs us : Nat) (s : State) (hk : Ok Q B s) :
    NextOk Q B (execRetrainEnd n repairs us s) := by simp [execRetrainEnd, hk]

@[simp] theorem State.pcEpoch_ok (s : State) (hk : Ok Q B s) :
    Ok Q B (State.pcEpoch s) := by simp +contextual (maxDischargeDepth := 12) [State.pcEpoch, *]

@[simp] theorem execDmcInitEnd_ok (n : Nat) (s : State) (hk : Ok Q B s) :
    NextOk Q B (execDmcInitEnd n s) := by simp [execDmcInitEnd, hk]

end Sys2Proof.Machine
end

