-- ==== Sys2Proof/Laws/KeepSec.lean ====
section
/-! SUPPORT. What the operations of Machine/Sec.lean keep. -/

namespace Sys2Proof.Machine

open Reg

set_option linter.all false

variable {Q : List Instr} {B : Prop}

@[simp] theorem State.scrubDone_ok (s : State) (err : Nat) (hk : Ok Q B s) :
    Ok Q B (State.scrubDone s err) := by simp [State.scrubDone, hk]

@[simp] theorem State.scrubGo_ok (s : State) (hk : Ok Q B s) :
    Ok Q B (State.scrubGo s) := by simp [State.scrubGo, hk]

@[simp] theorem execScrubGo_ok (m : Master) (s : State) (hk : Ok Q B s) :
    NextOk Q B (execScrubGo m s) := by simp +contextual (maxDischargeDepth := 12) [execScrubGo, *]

@[simp] theorem State.scrubAbort_ok (s : State) (hk : Ok Q B s) :
    Ok Q B (State.scrubAbort s) := by simp [State.scrubAbort, hk]

@[simp] theorem execScrubAbort_ok (m : Master) (s : State) (hk : Ok Q B s) :
    NextOk Q B (execScrubAbort m s) := by simp +contextual (maxDischargeDepth := 12) [execScrubAbort, *]

@[simp] theorem State.scrubSee_ok (s : State) (a : Nat) (ue : Bool) (hk : Ok Q B s) :
    Ok Q B (State.scrubSee s a ue) := by simp (maxDischargeDepth := 12) [State.scrubSee, hk]

@[simp] theorem State.checkWord_ok (s : State) (a : Nat) (hk : Ok Q B s) :
    Ok Q B (State.checkWord s a) := by simp [State.checkWord, hk]

@[simp] theorem execScrubWord_ok (s : State) (hk : Ok Q B s) :
    NextOk Q B (execScrubWord s) := by simp [execScrubWord, hk]

@[simp] theorem execScrubPassEnd_ok (s : State) (hk : Ok Q B s) :
    NextOk Q B (execScrubPassEnd s) := by simp [execScrubPassEnd, hk]

@[simp] theorem State.updSec_ok (s : State) (g : Sec → Sec) (hk : Ok Q B s) :
    Ok Q B (State.updSec s g) := by simp [State.updSec, hk]

@[simp] theorem State.setKs_ok (s : State) (k v : Nat) (hk : Ok Q B s) :
    Ok Q B (State.setKs s k v) := by simp [State.setKs, hk]

@[simp] theorem State.ksBusyAll_ok (s : State) (hk : Ok Q B s) :
    Ok Q B (State.ksBusyAll s) := by simp +contextual (maxDischargeDepth := 12) [State.ksBusyAll, *]

@[simp] theorem State.keyload_ok (s : State) (j v : Nat) (hk : Ok Q B s) :
    Ok Q B (State.keyload s j v) := by simp [State.keyload, hk]

@[simp] theorem State.ksInstall_ok (s : State) (k : Nat) (hk : Ok Q B s) :
    Ok Q B (State.ksInstall s k) := by simp +contextual (maxDischargeDepth := 12) [State.ksInstall, *]

@[simp] theorem execKsInstall_ok (m : Master) (k : Nat) (s : State) (hk : Ok Q B s) :
    NextOk Q B (execKsInstall m k s) := by simp +contextual (maxDischargeDepth := 12) [execKsInstall, *]

@[simp] theorem execKsInitEnd_ok (k : Nat) (s : State) (hk : Ok Q B s) :
    NextOk Q B (execKsInitEnd k s) := by simp [execKsInitEnd, hk]

@[simp] theorem State.ksRetire_ok (s : State) (k : Nat) (hk : Ok Q B s) :
    Ok Q B (State.ksRetire s k) := by simp [State.ksRetire, hk]

@[simp] theorem execKsRetire_ok (m : Master) (k : Nat) (s : State) (hk : Ok Q B s) :
    NextOk Q B (execKsRetire m k s) := by simp +contextual (maxDischargeDepth := 12) [execKsRetire, *]

@[simp] theorem State.ksOrphans_ok (s : State) (hk : Ok Q B s) :
    Ok Q B (State.ksOrphans s) := by simp +contextual (maxDischargeDepth := 12) [State.ksOrphans, *]

@[simp] theorem execKsFlushEnd_ok (k : Nat) (s : State) (hk : Ok Q B s) :
    NextOk Q B (execKsFlushEnd k s) := by simp [execKsFlushEnd, hk]

@[simp] theorem State.ksResume_ok (s : State) (k : Nat) (hk : Ok Q B s) :
    Ok Q B (State.ksResume s k) := by simp [State.ksResume, hk]

@[simp] theorem execKsResume_ok (m : Master) (k : Nat) (s : State) (hk : Ok Q B s) :
    NextOk Q B (execKsResume m k s) := by simp +contextual (maxDischargeDepth := 12) [execKsResume, *]

@[simp] theorem State.setGranMac_ok (s : State) (k g v : Nat) (hk : Ok Q B s) :
    Ok Q B (State.setGranMac s k g v) := by simp [State.setGranMac, hk]

@[simp] theorem State.setGranCtr_ok (s : State) (k g v : Nat) (hk : Ok Q B s) :
    Ok Q B (State.setGranCtr s k g v) := by simp [State.setGranCtr, hk]

@[simp] theorem State.secShow_ok (s : State) (e : Nat) (hk : Ok Q B s) :
    Ok Q B (State.secShow s e) := by
  unfold State.secShow
  (repeat' split) <;> simp [hk]

@[simp] theorem State.secLog_ok (s : State) (e addr kind k src tag : Nat) (hk : Ok Q B s) :
    Ok Q B (State.secLog s e addr kind k src tag) := by simp [State.secLog, hk]

@[simp] theorem State.secPop_ok (s : State) (e : Nat) (hk : Ok Q B s) :
    Ok Q B (State.secPop s e) := by simp [State.secPop, hk]

@[simp] theorem State.ksFatal_ok (s : State) (k : Nat) (hk : Ok Q B s) :
    Ok Q B (State.ksFatal s k) := by simp [State.ksFatal, hk]

@[simp] theorem State.kdFatal_ok (s : State) (k : Nat) (hk : Ok Q B s) :
    Ok Q B (State.kdFatal s k) := by simp [State.kdFatal, hk]

@[simp] theorem State.lateAlarm_ok (s : State) (e addr kind k src tag : Nat) (hk : Ok Q B s) :
    Ok Q B (State.lateAlarm s e addr kind k src tag) := by simp (maxDischargeDepth := 12) [State.lateAlarm, hk]

@[simp] theorem State.poisonBelow_ok (s : State) (k g lv : Nat) (hk : Ok Q B s) :
    Ok Q B (State.poisonBelow s k g lv) := by simp [State.poisonBelow, hk]

@[simp] theorem State.rootCheck_ok (s : State) (e k src tag : Nat) (hk : Ok Q B s) :
    Ok Q B (State.rootCheck s e k src tag).1 := by
  unfold State.rootCheck
  simp +contextual (maxDischargeDepth := 12) [*]
  (repeat' split) <;> simp_all (maxDischargeDepth := 12)

@[simp] theorem State.treeOut_ok (s : State) (e k g src tag : Nat) (t : TreeRes) (hk : Ok Q B s) :
    Ok Q B (State.treeOut s e k g src tag t).1 := by
  unfold State.treeOut
  (repeat' split) <;> simp +contextual (maxDischargeDepth := 12) [*]

@[simp] theorem State.macFail_ok (s : State) (e k g src tag : Nat) (hk : Ok Q B s) :
    Ok Q B (State.macFail s e k g src tag) := by simp (maxDischargeDepth := 12) [State.macFail, hk]

@[simp] theorem State.encTake_ok (s : State) (p : Packet) (hk : Ok Q B s) :
    Ok Q B (State.encTake s p) := by simp [State.encTake, hk]

@[simp] theorem State.encFetch_ok (s : State) (e : Nat) (p : Packet) (a : Nat) (hk : Ok Q B s) :
    Ok Q B (State.encFetch s e p a).1 := by simp +contextual (maxDischargeDepth := 12) [State.encFetch, *]

@[simp] theorem State.encReadAll_ok (s : State) (e : Nat) (p : Packet) (y0 : List Nat) (hk : Ok Q B s) :
    Ok Q B (State.encReadAll s e p y0).1 := by
  induction y0 generalizing s with
  | nil => exact hk
  | cons x l ih =>
    unfold State.encReadAll
    (repeat' split) <;> simp +contextual (maxDischargeDepth := 16) [*]

@[simp] theorem State.encReadGo_ok (s : State) (e : Nat) (p : Packet) (hk : Ok Q B s) :
    Ok Q B (State.encReadGo s e p) := by simp [State.encReadGo, hk]

@[simp] theorem State.encCheck_ok (s : State) (e : Nat) (p : Packet) (rd : Bool) (go : State → State) (hgo : ∀ t, Ok Q B t → Ok Q B (go t))
    (hk : Ok Q B s) :
    Ok Q B (State.encCheck s e p rd go) := by
  unfold State.encCheck
  generalize s.encClosed p.key rd = x
  generalize s.encPcRefusal e p rd = y
  cases x with
  | some st => exact State.respond_ok s p st [] hk
  | none =>
    cases y with
    | some st => exact State.respond_ok s p st [] hk
    | none => exact hgo s hk

@[simp] theorem execEncRead_ok (e : Nat) (s : State) (hk : Ok Q B s) :
    NextOk Q B (execEncRead e s) := by
  unfold execEncRead
  (repeat' split) <;> simp +contextual (maxDischargeDepth := 12) [*]

@[simp] theorem State.verify_ok (s : State) (e : Nat) (p : Packet) (x : EncGran) (t : TreeRes) (hk : Ok Q B s) :
    Ok Q B (State.verify s e p x t).1 := by simp [State.verify, hk]

@[simp] theorem execEncVerifyEnd_ok (e : Nat) (t : TreeRes) (s : State) (hk : Ok Q B s) :
    NextOk Q B (execEncVerifyEnd e t s) := by
  unfold execEncVerifyEnd
  (repeat' split) <;> simp (maxDischargeDepth := 12) [hk]

@[simp] theorem State.ctrSeen_ok (s : State) (k c : Nat) (hk : Ok Q B s) :
    Ok Q B (State.ctrSeen s k c) := by simp (maxDischargeDepth := 12) [State.ctrSeen, hk]

@[simp] theorem State.granPut_ok (s : State) (e : Nat) (p : Packet) (g : Nat) (pt : List Byte) (hk : Ok Q B s) :
    Ok Q B (State.granPut s e p g pt) := by simp (maxDischargeDepth := 12) [State.granPut, hk]

@[simp] theorem State.encWriteGran_ok (s : State) (e : Nat) (p : Packet) (g : Nat) (t : TreeRes) (hk : Ok Q B s) :
    Ok Q B (State.encWriteGran s e p g t).1 := by
  unfold State.encWriteGran
  have ho := fun t => State.treeOut_ok s e p.key g p.src p.tag t hk
  have hf := State.encFetch_ok s e p (s.granAddr p.key g) hk
  extract_lets k a new r c f s1 x r2 old
  split
  · split
    · (dsimp only; exact State.granPut_ok _ _ _ _ _ (ho _))
    · split
      · (dsimp only; exact State.granPut_ok _ _ _ _ _ (ho _))
      · (dsimp only; exact ho _)
  · split
    · (dsimp only; exact hk)
    · split
      · (dsimp only; exact hf)
      · have hv : Ok Q B r2.1 := State.verify_ok _ _ _ _ _ hf
        split
        · exact hv
        · (dsimp only; exact State.granPut_ok _ _ _ _ _ hv)

@[simp] theorem State.encWriteAll_ok (s : State) (e : Nat) (p : Packet) (t : TreeRes) (y0 : List Nat) (hk : Ok Q B s) :
    Ok Q B (State.encWriteAll s e p t y0).1 := by
  induction y0 generalizing s with
  | nil => exact hk
  | cons x l ih => exact ih _ (State.encWriteGran_ok _ _ _ _ _ hk)

@[simp] theorem State.encWriteGo_ok (s : State) (e : Nat) (p : Packet) (t : TreeRes) (inner : Nat) (hk : Ok Q B s) :
    Ok Q B (State.encWriteGo s e p t inner) := by simp [State.encWriteGo, hk]

@[simp] theorem execEncWrite_ok (e : Nat) (t : TreeRes) (inner : Nat) (s : State) (hk : Ok Q B s) :
    NextOk Q B (execEncWrite e t inner s) := by
  unfold execEncWrite
  (repeat' split) <;> simp +contextual (maxDischargeDepth := 12) [*]

end Sys2Proof.Machine
end

