-- ==== Sys2Proof/Laws/KeepLane.lean ====
section
/-! SUPPORT. What the operations of Machine/Lane.lean keep. -/

namespace Sys2Proof.Machine

open Reg

set_option linter.all false

variable {Q : List Instr} {B : Prop}

@[simp] theorem State.setLane_ok (s : State) (n : Nat) (x : Lane) (hk : Ok Q B s) :
    Ok Q B (State.setLane s n x) := by simp [State.setLane, hk]

@[simp] theorem State.updLane_ok (s : State) (n : Nat) (g : Lane → Lane) (hk : Ok Q B s) :
    Ok Q B (State.updLane s n g) := by simp [State.updLane, hk]

@[simp] theorem State.setLaneCodes_ok (s : State) (n : Nat) (c : List Nat) (hk : Ok Q B s) :
    Ok Q B (State.setLaneCodes s n c) := by simp +contextual (maxDischargeDepth := 12) [State.setLaneCodes, *]

@[simp] theorem State.laneNoteDefault_ok (s : State) (n : Nat) (hk : Ok Q B s) :
    Ok Q B (State.laneNoteDefault s n) := by simp (maxDischargeDepth := 12) [State.laneNoteDefault, hk]

@[simp] theorem State.laneRetarget_ok (s : State) (n : Nat) (hk : Ok Q B s) :
    Ok Q B (State.laneRetarget s n) := by simp (maxDischargeDepth := 12) [State.laneRetarget, hk]

@[simp] theorem State.laneOverride_ok (s : State) (n : Nat) (hk : Ok Q B s) :
    Ok Q B (State.laneOverride s n) := by simp [State.laneOverride, hk]

@[simp] theorem State.laneStart_ok (s : State) (n : Nat) (hk : Ok Q B s) :
    Ok Q B (State.laneStart s n) := by simp (maxDischargeDepth := 12) [State.laneStart, hk]

@[simp] theorem State.laneTxIdle_ok (s : State) (n : Nat) (hk : Ok Q B s) :
    Ok Q B (State.laneTxIdle s n) := by simp [State.laneTxIdle, hk]

@[simp] theorem State.ripLanes_ok (s : State) (hk : Ok Q B s) :
    Ok Q B (State.ripLanes s) := by simp +contextual (maxDischargeDepth := 12) [State.ripLanes, *]

@[simp] theorem State.laneUnlock_ok (s : State) (n : Nat) (hk : Ok Q B s) :
    Ok Q B (State.laneUnlock s n) := by simp [State.laneUnlock, hk]

@[simp] theorem State.laneOff_ok (s : State) (n : Nat) (hk : Ok Q B s) :
    Ok Q B (State.laneOff s n) := by simp +contextual (maxDischargeDepth := 12) [State.laneOff, *]

@[simp] theorem State.quadUnlock_ok (s : State) (q : Nat) (hk : Ok Q B s) :
    Ok Q B (State.quadUnlock s q) := by simp +contextual (maxDischargeDepth := 12) [State.quadUnlock, *]

@[simp] theorem State.quadRestart_ok (s : State) (q : Nat) (hk : Ok Q B s) :
    Ok Q B (State.quadRestart s q) := by simp (maxDischargeDepth := 12) [State.quadRestart, hk]

@[simp] theorem State.quadCfg_ok (s : State) (m : Master) (q v : Nat) (hk : Ok Q B s) :
    Ok Q B (State.quadCfg s m q v) := by simp +contextual (maxDischargeDepth := 12) [State.quadCfg, *]

@[simp] theorem execQuadCfgWrite_ok (m : Master) (q v : Nat) (s : State) (hk : Ok Q B s) :
    NextOk Q B (execQuadCfgWrite m q v s) := by simp +contextual (maxDischargeDepth := 12) [execQuadCfgWrite, *]

@[simp] theorem State.quadClock_ok (s : State) (q : Nat) (hk : Ok Q B s) :
    Ok Q B (State.quadClock s q) := by simp +contextual (maxDischargeDepth := 12) [State.quadClock, *]

@[simp] theorem State.pllLocks_ok (s : State) (p : Nat) (hk : Ok Q B s) :
    Ok Q B (State.pllLocks s p) := by simp [State.pllLocks, hk]

@[simp] theorem execPllLockLoss_ok (p : Nat) (s : State) (hk : Ok Q B s) :
    NextOk Q B (execPllLockLoss p s) := by simp [execPllLockLoss, hk]

@[simp] theorem execQuadPllRelock_ok (q : Nat) (s : State) (hk : Ok Q B s) :
    NextOk Q B (execQuadPllRelock q s) := by
  unfold execQuadPllRelock
  rw [NextOk_next]
  exact State.pllLocks_ok _ _ hk

@[simp] theorem State.quadOrphans_ok (s : State) (hk : Ok Q B s) :
    Ok Q B (State.quadOrphans s) := by simp +contextual (maxDischargeDepth := 12) [State.quadOrphans, *]

@[simp] theorem State.laneModeWrite_ok (s : State) (n v : Nat) (hk : Ok Q B s) :
    Ok Q B (State.laneModeWrite s n v) := by simp (maxDischargeDepth := 12) [State.laneModeWrite, hk]

@[simp] theorem State.lanePump_ok (s : State) (n : Nat) (y0 : Nat) (hk : Ok Q B s) :
    Ok Q B (State.lanePump s n y0) := by
  induction y0 generalizing s with
  | zero => exact hk
  | succ k ih =>
    unfold State.lanePump
    extract_lets x node up
    split
    · exact hk
    · split
      · exact hk
      · exact ih _ (State.sendRequest_ok _ _ (State.setLane_ok _ _ _ hk))

@[simp] theorem State.laneRsp_ok (s : State) (q tag st : Nat) (hk : Ok Q B s) :
    Ok Q B (State.laneRsp s q tag st) := by
  unfold State.laneRsp
  simp +contextual (maxDischargeDepth := 12) [*]
  (repeat' split) <;> simp_all (maxDischargeDepth := 12)

@[simp] theorem State.laneRx_ok (s : State) (n fec : Nat) (rec : List Byte) (hk : Ok Q B s) :
    Ok Q B (State.laneRx s n fec rec) := by simp (maxDischargeDepth := 12) [State.laneRx, hk]

@[simp] theorem execLaneRxRecord_ok (n fec : Nat) (rec : List Byte) (s : State) (hk : Ok Q B s) :
    NextOk Q B (execLaneRxRecord n fec rec s) := by simp [execLaneRxRecord, hk]

@[simp] theorem execLaneTxWrite_ok (q : Nat) (s : State) (hk : Ok Q B s) :
    NextOk Q B (execLaneTxWrite q s) := by
  unfold execLaneTxWrite
  (repeat' split) <;> simp (maxDischargeDepth := 12) [hk]

@[simp] theorem State.laneRunsDry_ok (s : State) (n : Nat) (hk : Ok Q B s) :
    Ok Q B (State.laneRunsDry s n) := by simp [State.laneRunsDry, hk]

@[simp] theorem execLaneTxSent_ok (n : Nat) (s : State) (hk : Ok Q B s) :
    NextOk Q B (execLaneTxSent n s) := by
  unfold execLaneTxSent
  (repeat' split) <;> simp (maxDischargeDepth := 12) [hk]

@[simp] theorem execLaneCdrLock_ok (n : Nat) (s : State) (hk : Ok Q B s) :
    NextOk Q B (execLaneCdrLock n s) := by simp [execLaneCdrLock, hk]

@[simp] theorem execLaneCdrLoss_ok (n : Nat) (s : State) (hk : Ok Q B s) :
    NextOk Q B (execLaneCdrLoss n s) := by simp [execLaneCdrLoss, hk]

@[simp] theorem execPcsBlockLock_ok (n : Nat) (s : State) (hk : Ok Q B s) :
    NextOk Q B (execPcsBlockLock n s) := by simp [execPcsBlockLock, hk]

@[simp] theorem State.eqLoad_ok (s : State) (hk : Ok Q B s) :
    Ok Q B (State.eqLoad s) := by
  unfold State.eqLoad
  simp +contextual (maxDischargeDepth := 12) [*]
  (repeat' split) <;> simp_all (maxDischargeDepth := 12)

@[simp] theorem State.eqReload_ok (s : State) (hk : Ok Q B s) :
    Ok Q B (State.eqReload s) := by simp +contextual (maxDischargeDepth := 12) [State.eqReload, *]

@[simp] theorem execEqReload_ok (m : Master) (s : State) (hk : Ok Q B s) :
    NextOk Q B (execEqReload m s) := by simp +contextual (maxDischargeDepth := 12) [execEqReload, *]

@[simp] theorem execBinEval_ok (s : State) (hk : Ok Q B s) :
    NextOk Q B (execBinEval s) := by
  unfold execBinEval
  rw [NextOk_next]
  refine Ok_foldl _ (fun t q h => ?_) _ _ hk
  split
  · exact h
  · dsimp only
    split
    · exact h
    · exact Ok_foldl _ (fun t x h => State.laneRetarget_ok t x h) _ _ (State.setF_ok _ _ _ h)

@[simp] theorem execWalkStep_ok (n : Nat) (s : State) (hk : Ok Q B s) :
    NextOk Q B (execWalkStep n s) := by simp [execWalkStep, hk]

@[simp] theorem State.partnerTx_ok (s : State) (tx : List (Nat × List Nat)) (hk : Ok Q B s) :
    Ok Q B (State.partnerTx s tx) := by simp +contextual (maxDischargeDepth := 12) [State.partnerTx, *]

@[simp] theorem execPcieLinkReturnToL0_ok (ep : Nat) (tx : List (Nat × List Nat)) (s : State) (hk : Ok Q B s) :
    NextOk Q B (execPcieLinkReturnToL0 ep tx s) := by simp [execPcieLinkReturnToL0, hk]

@[simp] theorem State.count48_ok (s : State) (lo hi : Fld) (n : Nat) (hk : Ok Q B s) :
    Ok Q B (State.count48 s lo hi n) := by simp [State.count48, hk]

@[simp] theorem State.prbsCount_ok (s : State) (n bits errs : Nat) (hk : Ok Q B s) :
    Ok Q B (State.prbsCount s n bits errs) := by simp [State.prbsCount, hk]

@[simp] theorem State.prbsClr_ok (s : State) (m : Master) (n : Nat) (hk : Ok Q B s) :
    Ok Q B (State.prbsClr s m n) := by simp [State.prbsClr, hk]

@[simp] theorem execPrbsClr_ok (m : Master) (n : Nat) (s : State) (hk : Ok Q B s) :
    NextOk Q B (execPrbsClr m n s) := by simp +contextual (maxDischargeDepth := 12) [execPrbsClr, *]

@[simp] theorem State.prbsSee_ok (s : State) (n : Nat) (w : List Bool) (hk : Ok Q B s) :
    Ok Q B (State.prbsSee s n w) := by simp +contextual (maxDischargeDepth := 12) [State.prbsSee, *]

@[simp] theorem execPrbsLock_ok (n : Nat) (w : List Bool) (s : State) (hk : Ok Q B s) :
    NextOk Q B (execPrbsLock n w s) := by simp [execPrbsLock, hk]

@[simp] theorem execPrbsLockLoss_ok (n : Nat) (w : List Bool) (s : State) (hk : Ok Q B s) :
    NextOk Q B (execPrbsLockLoss n w s) := by simp [execPrbsLockLoss, hk]

@[simp] theorem State.injGo_ok (s : State) (n : Nat) (hk : Ok Q B s) :
    Ok Q B (State.injGo s n) := by
  unfold State.injGo
  simp +contextual (maxDischargeDepth := 12) [*]
  (repeat' split) <;> simp_all (maxDischargeDepth := 12)

@[simp] theorem execInjGo_ok (m : Master) (n : Nat) (s : State) (hk : Ok Q B s) :
    NextOk Q B (execInjGo m n s) := by simp +contextual (maxDischargeDepth := 12) [execInjGo, *]

@[simp] theorem State.slip_ok (s : State) (m : Master) (n : Nat) (hk : Ok Q B s) :
    Ok Q B (State.slip s m n) := by simp [State.slip, hk]

@[simp] theorem execSlip_ok (m : Master) (n : Nat) (s : State) (hk : Ok Q B s) :
    NextOk Q B (execSlip m n s) := by simp +contextual (maxDischargeDepth := 12) [execSlip, *]

@[simp] theorem execSlipEnd_ok (n : Nat) (s : State) (hk : Ok Q B s) :
    NextOk Q B (execSlipEnd n s) := by simp [execSlipEnd, hk]

@[simp] theorem State.snap_ok (s : State) (n : Nat) (hk : Ok Q B s) :
    Ok Q B (State.snap s n) := by simp [State.snap, hk]

@[simp] theorem execSnap_ok (m : Master) (n : Nat) (s : State) (hk : Ok Q B s) :
    NextOk Q B (execSnap m n s) := by simp +contextual (maxDischargeDepth := 12) [execSnap, *]

@[simp] theorem execSnapCapture_ok (n w : Nat) (s : State) (hk : Ok Q B s) :
    NextOk Q B (execSnapCapture n w s) := by simp (maxDischargeDepth := 12) [execSnapCapture, hk]

end Sys2Proof.Machine
end

