-- ==== Sys2Proof/Laws/KeepPciLink.lean ====
section
/-! SUPPORT. What the operations of Machine/PciLink.lean keep. -/

namespace Sys2Proof.Machine

open Reg

set_option linter.all false

variable {Q : List Instr} {B : Prop}

@[simp] theorem State.updPci_ok (s : State) (g : Pci → Pci) (hk : Ok Q B s) :
    Ok Q B (State.updPci s g) := by simp [State.updPci, hk]

@[simp] theorem State.inboundForget_ok (s : State) (q : Nat → Bool) (hk : Ok Q B s) :
    Ok Q B (State.inboundForget s q) := by simp [State.inboundForget, hk]

@[simp] theorem State.configReset_ok (s : State) (q : Nat → Bool) (hk : Ok Q B s) :
    Ok Q B (State.configReset s q) := by simp [State.configReset, hk]

@[simp] theorem State.pciForget_ok (s : State) (e : Nat) (hk : Ok Q B s) :
    Ok Q B (State.pciForget s e) := by simp (maxDischargeDepth := 12) [State.pciForget, hk]

@[simp] theorem State.linkShow_ok (s : State) (e ltssm : Nat) (hk : Ok Q B s) :
    Ok Q B (State.linkShow s e ltssm) := by simp [State.linkShow, hk]

@[simp] theorem State.partnersGone_ok (s : State) (e : Nat) (hk : Ok Q B s) :
    Ok Q B (State.partnersGone s e) := by simp +contextual (maxDischargeDepth := 12) [State.partnersGone, *]

@[simp] theorem State.linkLoss_ok (s : State) (e ltssm : Nat) (hk : Ok Q B s) :
    Ok Q B (State.linkLoss s e ltssm) := by simp (maxDischargeDepth := 12) [State.linkLoss, hk]

@[simp] theorem execPcieLinkLoss_ok (e ltssm : Nat) (s : State) (hk : Ok Q B s) :
    NextOk Q B (execPcieLinkLoss e ltssm s) := by simp [execPcieLinkLoss, hk]

@[simp] theorem execPcieLinkRestore_ok (e rate width flit : Nat) (tx : List (Nat × List Nat)) (s : State) (hk : Ok Q B s) :
    NextOk Q B (execPcieLinkRestore e rate width flit tx s) := by simp (maxDischargeDepth := 12) [execPcieLinkRestore, hk]

@[simp] theorem State.linkDis_ok (s : State) (e v : Nat) (hk : Ok Q B s) :
    Ok Q B (State.linkDis s e v) := by simp [State.linkDis, hk]

@[simp] theorem State.mailboxReset_ok (s : State) (fn : Nat) (hk : Ok Q B s) :
    Ok Q B (State.mailboxReset s fn) := by simp [State.mailboxReset, hk]

@[simp] theorem State.flrVf_ok (s : State) (fn : Nat) (hk : Ok Q B s) :
    Ok Q B (State.flrVf s fn) := by simp (maxDischargeDepth := 12) [State.flrVf, hk]

@[simp] theorem execFlrVf_ok (fn : Nat) (s : State) (hk : Ok Q B s) :
    NextOk Q B (execFlrVf fn s) := by simp [execFlrVf, hk]

@[simp] theorem execFlrPf_ok (e : Nat) (s : State) (hk : Ok Q B s) :
    NextOk Q B (execFlrPf e s) := by simp [execFlrPf, hk]

end Sys2Proof.Machine
end

