-- ==== Sys2Proof/Laws/KeepFrames.lean ====
section
/-! SUPPORT. What the operations of Machine/Frames.lean keep. -/

namespace Sys2Proof.Machine

open Reg

set_option linter.all false

variable {Q : List Instr} {B : Prop}

@[simp] theorem State.updInteg_ok (s : State) (g : Integ → Integ) (hk : Ok Q B s) :
    Ok Q B (State.updInteg s g) := by simp [State.updInteg, hk]

@[simp] theorem State.setFrame_ok (s : State) (i v : Nat) (hk : Ok Q B s) :
    Ok Q B (State.setFrame s i v) := by simp [State.setFrame, hk]

@[simp] theorem State.blankFrames_ok (s : State) (a n : Nat) (hk : Ok Q B s) :
    Ok Q B (State.blankFrames s a n) := by simp [State.blankFrames, hk]

end Sys2Proof.Machine
end

