-- ==== Sys2Proof/Laws/KeepRgn.lean ====
section
/-! SUPPORT. What the operations of Machine/Rgn.lean keep. -/

namespace Sys2Proof.Machine

open Reg

set_option linter.all false

variable {Q : List Instr} {B : Prop}

@[simp] theorem State.updRgn_ok (s : State) (r : Nat) (g : Rgn → Rgn) (hk : Ok Q B s) :
    Ok Q B (State.updRgn s r g) := by simp [State.updRgn, hk]

@[simp] theorem State.setRState_ok (s : State) (r v : Nat) (hk : Ok Q B s) :
    Ok Q B (State.setRState s r v) := by simp [State.setRState, hk]

@[simp] theorem State.setEnvStep_ok (s : State) (r v : Nat) (hk : Ok Q B s) :
    Ok Q B (State.setEnvStep s r v) := by simp [State.setEnvStep, hk]

@[simp] theorem State.setEnvSrc_ok (s : State) (r v : Nat) (hk : Ok Q B s) :
    Ok Q B (State.setEnvSrc s r v) := by simp [State.setEnvSrc, hk]

@[simp] theorem State.setEnvCause_ok (s : State) (r v : Nat) (hk : Ok Q B s) :
    Ok Q B (State.setEnvCause s r v) := by simp [State.setEnvCause, hk]

@[simp] theorem State.seamSet_ok (s : State) (r : Nat) (hk : Ok Q B s) :
    Ok Q B (State.seamSet s r) := by simp [State.seamSet, hk]

@[simp] theorem State.seams_ok (s : State) (r : Nat) (hk : Ok Q B s) :
    Ok Q B (State.seams s r) := by
  unfold State.seams
  refine Ok_foldl _ (fun t e h => ?_) _ _ (State.seamSet_ok _ _ hk)
  split
  · exact State.seamSet_ok _ _ h
  · exact h

@[simp] theorem State.setSerial_ok (s : State) (d p : Nat) (x : Serial) (hk : Ok Q B s) :
    Ok Q B (State.setSerial s d p x) := by simp [State.setSerial, hk]

@[simp] theorem State.parkPorts_ok (s : State) (r : Nat) (hk : Ok Q B s) :
    Ok Q B (State.parkPorts s r) := by simp +contextual (maxDischargeDepth := 12) [State.parkPorts, *]

@[simp] theorem State.disablePorts_ok (s : State) (r : Nat) (hk : Ok Q B s) :
    Ok Q B (State.disablePorts s r) := by simp +contextual (maxDischargeDepth := 12) [State.disablePorts, *]

@[simp] theorem State.xrApply_ok (s : State) (x : Nat × Nat × Nat) (hk : Ok Q B s) :
    Ok Q B (State.xrApply s x) := by simp (maxDischargeDepth := 12) [State.xrApply, hk]

@[simp] theorem State.xrClear_ok (s : State) (x : Nat × Nat × Nat) (hk : Ok Q B s) :
    Ok Q B (State.xrClear s x) := by simp [State.xrClear, hk]

@[simp] theorem State.routesEnd_ok (s : State) (r : Nat) (hk : Ok Q B s) :
    Ok Q B (State.routesEnd s r) := by simp +contextual (maxDischargeDepth := 12) [State.routesEnd, *]

@[simp] theorem State.updCap_ok (s : State) (g : Cap → Cap) (hk : Ok Q B s) :
    Ok Q B (State.updCap s g) := by simp [State.updCap, hk]

@[simp] theorem State.fabInit_ok (s : State) (r : Nat) (hk : Ok Q B s) :
    Ok Q B (State.fabInit s r) := by simp [State.fabInit, hk]

@[simp] theorem State.fabShadow_ok (s : State) (r : Nat) (hk : Ok Q B s) :
    Ok Q B (State.fabShadow s r) := by simp [State.fabShadow, hk]

@[simp] theorem State.ramSeen_ok (s : State) (r o : Nat) (hk : Ok Q B s) :
    Ok Q B (State.ramSeen s r o) := by simp [State.ramSeen, hk]

@[simp] theorem State.fabDelta_ok (s : State) (r : Nat) (delta : List (Nat × Byte)) (hk : Ok Q B s) :
    Ok Q B (State.fabDelta s r delta) := by
  have h := Ok_foldl (fun (t : State) (e : Nat × Byte) => t.ramSeen r e.1) (fun t e ht => State.ramSeen_ok t r e.1 ht) delta s hk
  have h := Ok_foldl (fun (t : State) (x : Nat × Nat) => t.eccWrite (t.ramMacro r x.1) x.2)
    (fun t x ht => by simp [ht]) (delta.filterMap fun e => ramRowAt e.1).eraseDups _ h
  simp only [State.fabDelta]
  simp [h]

@[simp] theorem State.toBallast_ok (s : State) (r : Nat) (ram : Bool) (hk : Ok Q B s) :
    Ok Q B (State.toBallast s r ram) := by simp [State.toBallast, hk]

@[simp] theorem State.envClose_ok (s : State) (r cause : Nat) (hk : Ok Q B s) :
    Ok Q B (State.envClose s r cause) := by simp (maxDischargeDepth := 12) [State.envClose, hk]

@[simp] theorem State.envOpen_ok (s : State) (r : Nat) (hk : Ok Q B s) :
    Ok Q B (State.envOpen s r) := by simp +contextual (maxDischargeDepth := 12) [State.envOpen, *]

@[simp] theorem State.gateTaps_ok (s : State) (r : Nat) (whole : Bool) (hk : Ok Q B s) :
    Ok Q B (State.gateTaps s r whole) := by simp +contextual (maxDischargeDepth := 12) [State.gateTaps, *]

@[simp] theorem State.envPark_ok (s : State) (r : Nat) (hk : Ok Q B s) :
    Ok Q B (State.envPark s r) := by simp +contextual (maxDischargeDepth := 12) [State.envPark, *]

@[simp] theorem State.clearParks_ok (s : State) (r : Nat) (hk : Ok Q B s) :
    Ok Q B (State.clearParks s r) := by simp (maxDischargeDepth := 12) [State.clearParks, hk]

@[simp] theorem State.beginClearing_ok (s : State) (r : Nat) (hk : Ok Q B s) :
    Ok Q B (State.beginClearing s r) := by simp (maxDischargeDepth := 12) [State.beginClearing, hk]

@[simp] theorem State.clearRegion_ok (s : State) (r : Nat) (hk : Ok Q B s) :
    Ok Q B (State.clearRegion s r) := by simp [State.clearRegion, hk]

@[simp] theorem State.loseRegion_ok (s : State) (r : Nat) (hk : Ok Q B s) :
    Ok Q B (State.loseRegion s r) := by simp (maxDischargeDepth := 12) [State.loseRegion, hk]

@[simp] theorem State.resetEnv_ok (s : State) (r : Nat) (hk : Ok Q B s) :
    Ok Q B (State.resetEnv s r) := by simp (maxDischargeDepth := 12) [State.resetEnv, hk]

@[simp] theorem State.clearTick_ok (s : State) (hk : Ok Q B s) :
    Ok Q B (State.clearTick s) := by simp +contextual (maxDischargeDepth := 12) [State.clearTick, *]

@[simp] theorem State.clearImage_ok (s : State) (r : Nat) (hk : Ok Q B s) :
    Ok Q B (State.clearImage s r) := by simp [State.clearImage, hk]

@[simp] theorem State.clearBallast_ok (s : State) (r : Nat) (hk : Ok Q B s) :
    Ok Q B (State.clearBallast s r) := by simp [State.clearBallast, hk]

@[simp] theorem State.setLease_ok (s : State) (r v : Nat) (hk : Ok Q B s) :
    Ok Q B (State.setLease s r v) := by simp (maxDischargeDepth := 12) [State.setLease, hk]

@[simp] theorem State.cutPacket_ok (s : State) (node : Nat) (hk : Ok Q B s) :
    Ok Q B (State.cutPacket s node) := by
  unfold State.cutPacket
  (repeat' split) <;> simp [hk]

@[simp] theorem execNapDrainTimeout_ok (node : Nat) (s : State) (hk : Ok Q B s) :
    NextOk Q B (execNapDrainTimeout node s) := by
  unfold execNapDrainTimeout
  (repeat' split) <;> simp [hk]

@[simp] theorem execEnvGateForce_ok (r : Nat) (s : State) (hk : Ok Q B s) :
    NextOk Q B (execEnvGateForce r s) := by simp (maxDischargeDepth := 12) [execEnvGateForce, hk]

end Sys2Proof.Machine
end

