-- ==== Sys2Proof/Laws/KeepSlots.lean ====
section
/-! SUPPORT. What the operations of Machine/Slots.lean keep. -/

namespace Sys2Proof.Machine

open Reg

set_option linter.all false

variable {Q : List Instr} {B : Prop}

@[simp] theorem State.hubWake_ok (s : State) (a k : Nat) (hk : Ok Q B s) :
    Ok Q B (State.hubWake s a k) := by simp +contextual (maxDischargeDepth := 12) [State.hubWake, *]

@[simp] theorem State.hubRead_ok (s : State) (a k : Nat) (src : Nat) (hk : Ok Q B s) :
    Ok Q B (State.hubRead s a k src).1 := by simp [State.hubRead, hk]

@[simp] theorem State.hubWrite_ok (s : State) (a : Nat) (d : List Byte) (src : Nat) (hk : Ok Q B s) :
    Ok Q B (State.hubWrite s a d src).1 := by simp [State.hubWrite, hk]

@[simp] theorem State.setSlot_ok (s : State) (n : Nat) (x : Slot) (hk : Ok Q B s) :
    Ok Q B (State.setSlot s n x) := by simp [State.setSlot, hk]

@[simp] theorem State.updSlot_ok (s : State) (n : Nat) (g : Slot → Slot) (hk : Ok Q B s) :
    Ok Q B (State.updSlot s n g) := by simp [State.updSlot, hk]

@[simp] theorem State.setLdState_ok (s : State) (n v : Nat) (hk : Ok Q B s) :
    Ok Q B (State.setLdState s n v) := by simp [State.setLdState, hk]

@[simp] theorem State.loadFail_ok (s : State) (n code : Nat) (hk : Ok Q B s) :
    Ok Q B (State.loadFail s n code) := by simp (maxDischargeDepth := 12) [State.loadFail, hk]

@[simp] theorem State.loadAbandon_ok (s : State) (n : Nat) (hk : Ok Q B s) :
    Ok Q B (State.loadAbandon s n) := by simp [State.loadAbandon, hk]

@[simp] theorem State.bkeyWrite_ok (s : State) (k j v : Nat) (hk : Ok Q B s) :
    Ok Q B (State.bkeyWrite s k j v) := by simp +contextual (maxDischargeDepth := 12) [State.bkeyWrite, *]

@[simp] theorem execBkeyWrite_ok (m : Master) (k j v : Nat) (s : State) (hk : Ok Q B s) :
    NextOk Q B (execBkeyWrite m k j v s) := by simp +contextual (maxDischargeDepth := 12) [execBkeyWrite, *]

@[simp] theorem State.writeFrame_ok (s : State) (i v : Nat) (hk : Ok Q B s) :
    Ok Q B (State.writeFrame s i v) := by simp (maxDischargeDepth := 12) [State.writeFrame, hk]

@[simp] theorem State.setGoldValid_ok (s : State) (r : Nat) (v : Bool) (hk : Ok Q B s) :
    Ok Q B (State.setGoldValid s r v) := by simp [State.setGoldValid, hk]

end Sys2Proof.Machine
end

