-- ==== Sys2Proof/Laws/KeepInteg.lean ====
section
/-! SUPPORT. What the operations of Machine/Integ.lean keep. -/

namespace Sys2Proof.Machine

open Reg

set_option linter.all false

variable {Q : List Instr} {B : Prop}

@[simp] theorem State.mapRead_ok (s : State) (i : Nat) (hk : Ok Q B s) :
    Ok Q B (State.mapRead s i) := by
  unfold State.mapRead
  (repeat' split) <;> simp (maxDischargeDepth := 12) [hk]

@[simp] theorem State.upsetShow_ok (s : State) (hk : Ok Q B s) :
    Ok Q B (State.upsetShow s) := by
  unfold State.upsetShow
  (repeat' split) <;> simp [hk]

@[simp] theorem State.upsetLog_ok (s : State) (i cls kind bit : Nat) (hk : Ok Q B s) :
    Ok Q B (State.upsetLog s i cls kind bit) := by simp [State.upsetLog, hk]

@[simp] theorem State.upsetFixed_ok (s : State) (i cls kind bit : Nat) (hk : Ok Q B s) :
    Ok Q B (State.upsetFixed s i cls kind bit) := State.raise_ok _ _ _ _ _ (State.count_ok _ _ _ (State.upsetLog_ok _ _ _ _ _ hk))

@[simp] theorem State.upsetStuck_ok (s : State) (i cls : Nat) (hk : Ok Q B s) :
    Ok Q B (State.upsetStuck s i cls) := by simp (maxDischargeDepth := 12) [State.upsetStuck, hk]

@[simp] theorem State.goldCopy_ok (s : State) (i : Nat) (hk : Ok Q B s) :
    Ok Q B (State.goldCopy s i).1 := by simp [State.goldCopy, hk]

@[simp] theorem State.reframe_ok (s : State) (i v : Nat) (hk : Ok Q B s) :
    Ok Q B (State.reframe s i v) := by simp [State.reframe, hk]

@[simp] theorem State.recheck_ok (s : State) (i cls kind bit : Nat) (hk : Ok Q B s) :
    Ok Q B (State.recheck s i cls kind bit) := by simp [State.recheck, hk]

@[simp] theorem State.upsetReload_ok (s : State) (i cls : Nat) (hk : Ok Q B s) :
    Ok Q B (State.upsetReload s i cls) := by
  unfold State.upsetReload
  simp +contextual (maxDischargeDepth := 12) [*]
  (repeat' split) <;> simp_all (maxDischargeDepth := 12)

@[simp] theorem State.onOutcome_ok (s : State) (i : Nat) (y0 : FrameOut) (hk : Ok Q B s) :
    Ok Q B (State.onOutcome s i y0) := by
  unfold State.onOutcome
  (repeat' split) <;> simp (maxDischargeDepth := 12) [hk]

@[simp] theorem State.checkFrame_ok (s : State) (i : Nat) (hk : Ok Q B s) :
    Ok Q B (State.checkFrame s i) := by simp [State.checkFrame, hk]

@[simp] theorem State.slotPass_ok (s : State) (d c p : Nat) (hk : Ok Q B s) :
    Ok Q B (State.slotPass s d c p) := by simp [State.slotPass, hk]

@[simp] theorem execCheckerSlot_ok (d c : Nat) (s : State) (hk : Ok Q B s) :
    NextOk Q B (execCheckerSlot d c s) := by simp +contextual (maxDischargeDepth := 12) [execCheckerSlot, *]

@[simp] theorem execSweepLateTimer_ok (d : Nat) (s : State) (hk : Ok Q B s) :
    NextOk Q B (execSweepLateTimer d s) := by simp [execSweepLateTimer, hk]

@[simp] theorem State.goldEnable_ok (s : State) (hk : Ok Q B s) :
    Ok Q B (State.goldEnable s) := by simp [State.goldEnable, hk]

@[simp] theorem State.goldDisable_ok (s : State) (hk : Ok Q B s) :
    Ok Q B (State.goldDisable s) := by simp [State.goldDisable, hk]

@[simp] theorem State.goldEnWrite_ok (s : State) (m : Master) (v : Nat) (hk : Ok Q B s) :
    Ok Q B (State.goldEnWrite s m v) := by simp [State.goldEnWrite, hk]

@[simp] theorem execGoldEnSet_ok (m : Master) (s : State) (hk : Ok Q B s) :
    NextOk Q B (execGoldEnSet m s) := by simp +contextual (maxDischargeDepth := 12) [execGoldEnSet, *]

@[simp] theorem State.goldLoseDie_ok (s : State) (d : Nat) (hk : Ok Q B s) :
    Ok Q B (State.goldLoseDie s d) := by simp [State.goldLoseDie, hk]

@[simp] theorem execGoldDieFillEnd_ok (d : Nat) (s : State) (hk : Ok Q B s) :
    NextOk Q B (execGoldDieFillEnd d s) := by
  unfold execGoldDieFillEnd
  rw [NextOk_next]
  split
  · exact hk
  · extract_lets a fs good s0 s1 s2
    have h1 : Ok Q B s1 := Ok_mem_filter _ _ (State.drainRange_ok _ _ _ (State.hubWake_ok _ _ _ hk))
    have h2 : Ok Q B s2 := Ok_foldl _ (fun t e h => State.setBytes_ok _ _ _ h) _ _ h1
    (repeat' split) <;> first
      | exact State.goldLoseDie_ok _ _ hk
      | exact State.setF_ok _ _ _ h2
      | exact State.goldLoseDie_ok _ _ h2

@[simp] theorem execGoldValidSet_ok (r : Nat) (s : State) (hk : Ok Q B s) :
    NextOk Q B (execGoldValidSet r s) := by
  unfold execGoldValidSet
  rw [NextOk_next]
  split
  · exact hk
  · extract_lets a s1 keep s2
    have h1 : Ok Q B s2 := Ok_mem_filter _ _ (State.drainRange_ok _ _ _ (State.hubWake_ok _ _ _ hk))
    split
    · exact hk
    · exact State.setGoldValid_ok _ _ _ (State.updInteg_ok _ _ h1)

@[simp] theorem State.upsetPop_ok (s : State) (hk : Ok Q B s) :
    Ok Q B (State.upsetPop s) := by
  unfold State.upsetPop
  (repeat' split) <;> simp [hk]

@[simp] theorem execUpsetInfoRead_ok (s : State) (hk : Ok Q B s) :
    NextOk Q B (execUpsetInfoRead s) := by simp [execUpsetInfoRead, hk]

@[simp] theorem execConfigurationUpset_ok (far b : Nat) (s : State) (hk : Ok Q B s) :
    NextOk Q B (execConfigurationUpset far b s) := by
  unfold execConfigurationUpset
  (repeat' split) <;> simp [hk]

end Sys2Proof.Machine
end

