-- ==== Sys2Proof/Laws/KeepCapture.lean ====
section
/-! SUPPORT. What the operations of Machine/Capture.lean keep. -/

namespace Sys2Proof.Machine

open Reg

set_option linter.all false

variable {Q : List Instr} {B : Prop}

@[simp] theorem State.setPdig_ok (s : State) (r : Nat) (d : List Nat) (hk : Ok Q B s) :
    Ok Q B (State.setPdig s r d) := by simp +contextual (maxDischargeDepth := 12) [State.setPdig, *]

@[simp] theorem State.setBalMeta_ok (s : State) (r : Nat) (x : BalMeta) (hk : Ok Q B s) :
    Ok Q B (State.setBalMeta s r x) := by simp [State.setBalMeta, hk]

@[simp] theorem State.napHold_ok (s : State) (l : List Nat) (b : Bool) (hk : Ok Q B s) :
    Ok Q B (State.napHold s l b) := by simp +contextual (maxDischargeDepth := 12) [State.napHold, *]

@[simp] theorem State.linesTake_ok (s : State) (r : Nat) (hk : Ok Q B s) :
    Ok Q B (State.linesTake s r) := by simp [State.linesTake, hk]

@[simp] theorem State.linesDrop_ok (s : State) (r : Nat) (hk : Ok Q B s) :
    Ok Q B (State.linesDrop s r) := by simp [State.linesDrop, hk]

@[simp] theorem State.capEnd_ok (s : State) (err : Nat) (hk : Ok Q B s) :
    Ok Q B (State.capEnd s err) := by simp +contextual (maxDischargeDepth := 12) [State.capEnd, *]

@[simp] theorem State.invalidate_ok (s : State) (l : List Nat) (hk : Ok Q B s) :
    Ok Q B (State.invalidate s l) := by simp +contextual (maxDischargeDepth := 12) [State.invalidate, *]

@[simp] theorem State.capClose_ok (s : State) (hk : Ok Q B s) :
    Ok Q B (State.capClose s) := by simp +contextual (maxDischargeDepth := 12) [State.capClose, *]

@[simp] theorem State.latchLoad_ok (s : State) (r : Nat) (hk : Ok Q B s) :
    Ok Q B (State.latchLoad s r) := by simp [State.latchLoad, hk]

@[simp] theorem State.latchSample_ok (s : State) (r : Nat) (hk : Ok Q B s) :
    Ok Q B (State.latchSample s r) := by simp [State.latchSample, hk]

@[simp] theorem State.latchToShadow_ok (s : State) (r : Nat) (hk : Ok Q B s) :
    Ok Q B (State.latchToShadow s r) := by simp [State.latchToShadow, hk]

@[simp] theorem State.imageRead_ok (s : State) (r : Nat) (hk : Ok Q B s) :
    Ok Q B (State.imageRead s r).1 := by simp [State.imageRead, hk]

@[simp] theorem State.imagesRead_ok (s : State) (y0 : List Nat) (hk : Ok Q B s) :
    Ok Q B (State.imagesRead s y0).1 := by
  induction y0 generalizing s with
  | nil => exact hk
  | cons x l ih => exact ih _ (State.imageRead_ok _ _ hk)

@[simp] theorem State.capProceed_ok (s : State) (hk : Ok Q B s) :
    Ok Q B (State.capProceed s) := by simp +contextual (maxDischargeDepth := 12) [State.capProceed, *]

@[simp] theorem State.capBegin_ok (s : State) (op : Nat) (l : List Nat) (quiesce mirror : Bool) (hk : Ok Q B s) :
    Ok Q B (State.capBegin s op l quiesce mirror) := by simp [State.capBegin, hk]

@[simp] theorem State.exportBegin_ok (s : State) (r : Nat) (hk : Ok Q B s) :
    Ok Q B (State.exportBegin s r) := by
  unfold State.exportBegin
  simp +contextual (maxDischargeDepth := 12) [*]
  (repeat' split) <;> simp_all (maxDischargeDepth := 12)

@[simp] theorem State.importBegin_ok (s : State) (r : Nat) (hk : Ok Q B s) :
    Ok Q B (State.importBegin s r) := by simp (maxDischargeDepth := 12) [State.importBegin, hk]

@[simp] theorem State.setImage_ok (s : State) (r : Nat) (hdr : List Byte) (body : List Byte) (hk : Ok Q B s) :
    Ok Q B (State.setImage s r hdr body) := by simp (maxDischargeDepth := 12) [State.setImage, hk]

@[simp] theorem State.capStart_ok (s : State) (op : Nat) (hk : Ok Q B s) :
    Ok Q B (State.capStart s op) := by
  unfold State.capStart
  simp +contextual (maxDischargeDepth := 12) [*]
  (repeat' split) <;> simp_all (maxDischargeDepth := 12)

@[simp] theorem State.capServe_ok (s : State) (hk : Ok Q B s) :
    Ok Q B (State.capServe s) := by
  unfold State.capServe
  (repeat' split) <;> simp (maxDischargeDepth := 12) [hk]

@[simp] theorem State.capOp_ok (s : State) (op : Nat) (hk : Ok Q B s) :
    Ok Q B (State.capOp s op) := by simp +contextual (maxDischargeDepth := 12) [State.capOp, *]

@[simp] theorem execCapLive_ok (m : Master) (s : State) (hk : Ok Q B s) :
    NextOk Q B (execCapLive m s) := by simp +contextual (maxDischargeDepth := 12) [execCapLive, *]

@[simp] theorem execCapPaused_ok (m : Master) (s : State) (hk : Ok Q B s) :
    NextOk Q B (execCapPaused m s) := by simp +contextual (maxDischargeDepth := 12) [execCapPaused, *]

@[simp] theorem execCapExport_ok (m : Master) (s : State) (hk : Ok Q B s) :
    NextOk Q B (execCapExport m s) := by simp +contextual (maxDischargeDepth := 12) [execCapExport, *]

@[simp] theorem execCapImport_ok (m : Master) (s : State) (hk : Ok Q B s) :
    NextOk Q B (execCapImport m s) := by simp +contextual (maxDischargeDepth := 12) [execCapImport, *]

@[simp] theorem execCapInject_ok (m : Master) (s : State) (hk : Ok Q B s) :
    NextOk Q B (execCapInject m s) := by simp +contextual (maxDischargeDepth := 12) [execCapInject, *]

@[simp] theorem State.newImage_ok (s : State) (r : Nat) (paused consistent : Bool) (hk : Ok Q B s) :
    Ok Q B (State.newImage s r paused consistent) := by simp [State.newImage, hk]

@[simp] theorem execCapLiveEnd_ok (delta : List (Nat × Nat × Byte)) (s : State) (hk : Ok Q B s) :
    NextOk Q B (execCapLiveEnd delta s) := by simp +contextual (maxDischargeDepth := 12) [execCapLiveEnd, *]

@[simp] theorem State.ramFromImage_ok (s : State) (r : Nat) (hk : Ok Q B s) :
    Ok Q B (State.ramFromImage s r) := by simp +contextual (maxDischargeDepth := 12) [State.ramFromImage, *]

@[simp] theorem State.capCopy_ok (s : State) (r : Nat) (hk : Ok Q B s) :
    Ok Q B (State.capCopy s r) := by simp +contextual (maxDischargeDepth := 12) [State.capCopy, *]

@[simp] theorem State.capReopen_ok (s : State) (hk : Ok Q B s) :
    Ok Q B (State.capReopen s) := by simp +contextual (maxDischargeDepth := 12) [State.capReopen, *]

@[simp] theorem State.capOpened_ok (s : State) (r ns : Nat) (hk : Ok Q B s) :
    Ok Q B (State.capOpened s r ns) := by simp [State.capOpened, hk]

@[simp] theorem State.capFinish_ok (s : State) (hk : Ok Q B s) :
    Ok Q B (State.capFinish s) := by simp [State.capFinish, hk]

@[simp] theorem State.envParked_ok (s : State) (r : Nat) (copy : State → State) (hcopy : ∀ t, Ok Q B t → Ok Q B (copy t))
    (hk : Ok Q B s) :
    Ok Q B (State.envParked s r copy) := by simp +contextual (maxDischargeDepth := 12) [State.envParked, *]

@[simp] theorem State.capBarrier_ok (s : State) (hk : Ok Q B s) :
    Ok Q B (State.capBarrier s) := by simp +contextual (maxDischargeDepth := 12) [State.capBarrier, *]

@[simp] theorem State.capIsolate_ok (s : State) (d : Nat) (hk : Ok Q B s) :
    Ok Q B (State.capIsolate s d) := by simp +contextual (maxDischargeDepth := 12) [State.capIsolate, *]

@[simp] theorem State.capAbandon_ok (s : State) (hk : Ok Q B s) :
    Ok Q B (State.capAbandon s) := by simp [State.capAbandon, hk]

@[simp] theorem execCapQuiesceEnd_ok (s : State) (hk : Ok Q B s) :
    NextOk Q B (execCapQuiesceEnd s) := by simp [execCapQuiesceEnd, hk]

@[simp] theorem execCapQlimExpire_ok (s : State) (hk : Ok Q B s) :
    NextOk Q B (execCapQlimExpire s) := by simp +contextual (maxDischargeDepth := 12) [execCapQlimExpire, *]

@[simp] theorem execCapExportEnd_ok (s : State) (hk : Ok Q B s) :
    NextOk Q B (execCapExportEnd s) := by simp +contextual (maxDischargeDepth := 12) [execCapExportEnd, *]

@[simp] theorem execCapImportEnd_ok (s : State) (hk : Ok Q B s) :
    NextOk Q B (execCapImportEnd s) := by
  unfold execCapImportEnd
  (repeat' split) <;> simp [hk]

@[simp] theorem State.ivhiWrite_ok (s : State) (v : Nat) (hk : Ok Q B s) :
    Ok Q B (State.ivhiWrite s v) := by simp [State.ivhiWrite, hk]

@[simp] theorem execCapIvhiWrite_ok (m : Master) (v : Nat) (s : State) (hk : Ok Q B s) :
    NextOk Q B (execCapIvhiWrite m v s) := by simp +contextual (maxDischargeDepth := 12) [execCapIvhiWrite, *]

end Sys2Proof.Machine
end

