-- ==== Sys2Proof/Laws/KeepPwr.lean ====
section
/-! SUPPORT. What the operations of Machine/Pwr.lean keep. -/

namespace Sys2Proof.Machine

open Reg

set_option linter.all false

variable {Q : List Instr} {B : Prop}

@[simp] theorem State.updPwr_ok (s : State) (g : Pwr → Pwr) (hk : Ok Q B s) :
    Ok Q B (State.updPwr s g) := by simp [State.updPwr, hk]

@[simp] theorem State.phyStates_ok (s : State) (n v : Nat) (hk : Ok Q B s) :
    Ok Q B (State.phyStates s n v) := by simp +contextual (maxDischargeDepth := 12) [State.phyStates, *]

@[simp] theorem State.pwrArbs_ok (s : State) (n : Nat) (hk : Ok Q B s) :
    Ok Q B (State.pwrArbs s n) := by simp +contextual (maxDischargeDepth := 12) [State.pwrArbs, *]

@[simp] theorem State.pwrLose_ok (s : State) (n : Nat) (hk : Ok Q B s) :
    Ok Q B (State.pwrLose s n) := by simp +contextual (maxDischargeDepth := 12) [State.pwrLose, *]

@[simp] theorem State.pwrStart_ok (s : State) (n : Nat) (on : Bool) (hk : Ok Q B s) :
    Ok Q B (State.pwrStart s n on) := by simp (maxDischargeDepth := 12) [State.pwrStart, hk]

@[simp] theorem State.pwrTry_ok (s : State) (n : Nat) (hk : Ok Q B s) :
    Ok Q B (State.pwrTry s n) := by simp [State.pwrTry, hk]

@[simp] theorem State.pwrReq_ok (s : State) (n v : Nat) (hk : Ok Q B s) :
    Ok Q B (State.pwrReq s n v) := by simp [State.pwrReq, hk]

@[simp] theorem State.pwrReqWrite_ok (s : State) (m : Master) (n v : Nat) (hk : Ok Q B s) :
    Ok Q B (State.pwrReqWrite s m n v) := by simp [State.pwrReqWrite, hk]

@[simp] theorem execPwrDomReq_ok (m : Master) (n v : Nat) (s : State) (hk : Ok Q B s) :
    NextOk Q B (execPwrDomReq m n v s) := by simp +contextual (maxDischargeDepth := 12) [execPwrDomReq, *]

@[simp] theorem State.slotsWoken_ok (s : State) (r : Nat) (hk : Ok Q B s) :
    Ok Q B (State.slotsWoken s r) := by simp +contextual (maxDischargeDepth := 12) [State.slotsWoken, *]

@[simp] theorem State.pwrWoken_ok (s : State) (n us : Nat) (hk : Ok Q B s) :
    Ok Q B (State.pwrWoken s n us) := by simp +contextual (maxDischargeDepth := 12) [State.pwrWoken, *]

@[simp] theorem State.pwrOff_ok (s : State) (n : Nat) (hk : Ok Q B s) :
    Ok Q B (State.pwrOff s n) := by simp +contextual (maxDischargeDepth := 12) [State.pwrOff, *]

@[simp] theorem execPwrDomEnd_ok (n us : Nat) (s : State) (hk : Ok Q B s) :
    NextOk Q B (execPwrDomEnd n us s) := by simp [execPwrDomEnd, hk]

@[simp] theorem State.thermShow_ok (s : State) (hk : Ok Q B s) :
    Ok Q B (State.thermShow s) := by
  unfold State.thermShow
  (repeat' split) <;> simp [hk]

@[simp] theorem State.sensorsValid_ok (s : State) (d : Nat) (v : Bool) (hk : Ok Q B s) :
    Ok Q B (State.sensorsValid s d v) := by simp +contextual (maxDischargeDepth := 12) [State.sensorsValid, *]

@[simp] theorem State.thermConvert_ok (s : State) (raw : List Nat) (hk : Ok Q B s) :
    Ok Q B (State.thermConvert s raw) := by simp +contextual (maxDischargeDepth := 12) [State.thermConvert, *]

end Sys2Proof.Machine
end

