-- ==== Sys2Proof/Laws/KeepMirror.lean ====
section
/-! SUPPORT. What the operations of Machine/Mirror.lean keep. -/

namespace Sys2Proof.Machine

open Reg

set_option linter.all false

variable {Q : List Instr} {B : Prop}

@[simp] theorem State.updMir_ok (s : State) (g : Mir → Mir) (hk : Ok Q B s) :
    Ok Q B (State.updMir s g) := by simp [State.updMir, hk]

@[simp] theorem State.mirShow_ok (s : State) (hk : Ok Q B s) :
    Ok Q B (State.mirShow s) := by simp +contextual (maxDischargeDepth := 12) [State.mirShow, *]

@[simp] theorem State.setPlState_ok (s : State) (j v : Nat) (hk : Ok Q B s) :
    Ok Q B (State.setPlState s j v) := by simp [State.setPlState, hk]

@[simp] theorem State.setSeqTx_ok (s : State) (v : Nat) (hk : Ok Q B s) :
    Ok Q B (State.setSeqTx s v) := by simp [State.setSeqTx, hk]

@[simp] theorem State.setSeqRx_ok (s : State) (v : Nat) (hk : Ok Q B s) :
    Ok Q B (State.setSeqRx s v) := by simp [State.setSeqRx, hk]

@[simp] theorem State.pushCtl_ok (s : State) (typ arg0 arg1 : Nat) (hk : Ok Q B s) :
    Ok Q B (State.pushCtl s typ arg0 arg1) := by simp [State.pushCtl, hk]

@[simp] theorem State.fxRelease_ok (s : State) (h : HeldFx) (hk : Ok Q B s) :
    Ok Q B (State.fxRelease s h) := by
  unfold State.fxRelease
  (repeat' split) <;> simp [hk]

@[simp] theorem State.dropFx_ok (s : State) (q : HeldFx → Bool) (hk : Ok Q B s) :
    Ok Q B (State.dropFx s q) := by simp [State.dropFx, hk]

@[simp] theorem State.fxRefill_ok (s : State) (hk : Ok Q B s) :
    Ok Q B (State.fxRefill s) := by simp +contextual (maxDischargeDepth := 12) [State.fxRefill, *]

@[simp] theorem State.releaseFx_ok (s : State) (q : HeldFx → Bool) (hk : Ok Q B s) :
    Ok Q B (State.releaseFx s q) := by simp +contextual (maxDischargeDepth := 12) [State.releaseFx, *]

@[simp] theorem State.mirReadBy_ok (s : State) (l a n : Nat) (y0 : Option Nat) (hk : Ok Q B s) :
    Ok Q B (State.mirReadBy s l a n y0).1 := by
  cases y0 with
  | none => exact Ok_fst _ _ (State.hubRead_ok _ _ _ _ hk)
  | some k => exact Ok_fst _ _ (State.encReadAll_ok _ _ _ _ hk)

@[simp] theorem State.mirRead_ok (s : State) (l a n : Nat) (hk : Ok Q B s) :
    Ok Q B (State.mirRead s l a n).1 := State.mirReadBy_ok _ _ _ _ _ hk

@[simp] theorem State.mirWriteBy_ok (s : State) (l a : Nat) (d : List Byte) (be : List Bool) (y0 : Option Nat) (hk : Ok Q B s) :
    Ok Q B (State.mirWriteBy s l a d be y0).1 := by
  cases y0 with
  | some k => exact State.encWriteAll_ok _ _ _ _ _ hk
  | none =>
    unfold State.mirWriteBy
    dsimp only
    split
    · exact State.hubWrite_ok _ _ _ _ hk
    · refine Ok_foldl_fst _ (fun t x h => ?_) _ _ hk
      split
      · exact State.hubWrite_ok _ _ _ _ h
      · exact h

@[simp] theorem State.mirWrite_ok (s : State) (l a : Nat) (d : List Byte) (be : List Bool) (hk : Ok Q B s) :
    Ok Q B (State.mirWrite s l a d be).1 := State.mirWriteBy_ok _ _ _ _ _ _ hk

@[simp] theorem State.plSeed_ok (s : State) (j : Nat) (hk : Ok Q B s) :
    Ok Q B (State.plSeed s j) := by simp (maxDischargeDepth := 12) [State.plSeed, hk]

@[simp] theorem State.plStale_ok (s : State) (j err : Nat) (hk : Ok Q B s) :
    Ok Q B (State.plStale s j err) := by simp (maxDischargeDepth := 12) [State.plStale, hk]

@[simp] theorem State.plSolo_ok (s : State) (j : Nat) (hk : Ok Q B s) :
    Ok Q B (State.plSolo s j) := by simp [State.plSolo, hk]

@[simp] theorem State.plSetMode_ok (s : State) (j : Nat) (hk : Ok Q B s) :
    Ok Q B (State.plSetMode s j) := by simp [State.plSetMode, hk]

@[simp] theorem State.rgnSetMode_ok (s : State) (r : Nat) (hk : Ok Q B s) :
    Ok Q B (State.rgnSetMode s r) := by simp (maxDischargeDepth := 12) [State.rgnSetMode, hk]

@[simp] theorem State.mirApply_ok (s : State) (hk : Ok Q B s) :
    Ok Q B (State.mirApply s) := by simp +contextual (maxDischargeDepth := 12) [State.mirApply, *]

@[simp] theorem State.mirLive_ok (s : State) (l : List (Fld × Nat)) (hk : Ok Q B s) :
    Ok Q B (State.mirLive s l) := by simp +contextual (maxDischargeDepth := 12) [State.mirLive, *]

@[simp] theorem State.plModeWrite_ok (s : State) (j v : Nat) (hk : Ok Q B s) :
    Ok Q B (State.plModeWrite s j v) := by simp [State.plModeWrite, hk]

@[simp] theorem State.mirRgnWrite_ok (s : State) (m : Master) (r md pl peer : Nat) (hk : Ok Q B s) :
    Ok Q B (State.mirRgnWrite s m r md pl peer) := by simp (maxDischargeDepth := 12) [State.mirRgnWrite, hk]

@[simp] theorem State.mirRaise_ok (s : State) (hk : Ok Q B s) :
    Ok Q B (State.mirRaise s) := by
  unfold State.mirRaise
  (repeat' split) <;> simp (maxDischargeDepth := 12) [hk]

@[simp] theorem State.mirOverrun_ok (s : State) (hk : Ok Q B s) :
    Ok Q B (State.mirOverrun s) := by simp +contextual (maxDischargeDepth := 12) [State.mirOverrun, *]

@[simp] theorem State.linkLeave_ok (s : State) (v err : Nat) (hk : Ok Q B s) :
    Ok Q B (State.linkLeave s v err) := by simp (maxDischargeDepth := 12) [State.linkLeave, hk]

@[simp] theorem State.takeover_ok (s : State) (j : Nat) (hk : Ok Q B s) :
    Ok Q B (State.takeover s j) := by simp [State.takeover, hk]

@[simp] theorem State.mirDecide_ok (s : State) (failed : Bool) (hk : Ok Q B s) :
    Ok Q B (State.mirDecide s failed) := by simp +contextual (maxDischargeDepth := 12) [State.mirDecide, *]

@[simp] theorem State.linkDown_ok (s : State) (v err : Nat) (hk : Ok Q B s) :
    Ok Q B (State.linkDown s v err) := by simp (maxDischargeDepth := 12) [State.linkDown, hk]

@[simp] theorem State.mirSend_ok (s : State) (x : MFrame) (hk : Ok Q B s) :
    Ok Q B (State.mirSend s x) := by simp (maxDischargeDepth := 12) [State.mirSend, hk]

@[simp] theorem State.mirEndSent_ok (s : State) (hk : Ok Q B s) :
    Ok Q B (State.mirEndSent s) := by
  unfold State.mirEndSent
  (repeat' split) <;> simp [hk]

@[simp] theorem State.seedNext_ok (s : State) (j : Nat) (hk : Ok Q B s) :
    Ok Q B (State.seedNext s j) := by simp (maxDischargeDepth := 12) [State.seedNext, hk]

@[simp] theorem State.mirSendFrom_ok (s : State) (i : Nat) (hk : Ok Q B s) :
    Ok Q B (State.mirSendFrom s i) := by
  unfold State.mirSendFrom
  (repeat' split) <;> simp (maxDischargeDepth := 12) [hk]

@[simp] theorem State.mirBeat_ok (s : State) (hk : Ok Q B s) :
    Ok Q B (State.mirBeat s) := by
  unfold State.mirBeat
  simp +contextual (maxDischargeDepth := 12) [*]
  (repeat' split) <;> simp_all (maxDischargeDepth := 12)

@[simp] theorem State.mirPause_ok (s : State) (r : Nat) (hk : Ok Q B s) :
    Ok Q B (State.mirPause s r) := by simp (maxDischargeDepth := 12) [State.mirPause, hk]

@[simp] theorem State.mirCut_ok (s : State) (l : List Nat) (hk : Ok Q B s) :
    Ok Q B (State.mirCut s l) := by simp +contextual (maxDischargeDepth := 12) [State.mirCut, *]

@[simp] theorem State.mirEnd_ok (s : State) (hk : Ok Q B s) :
    Ok Q B (State.mirEnd s) := by simp (maxDischargeDepth := 12) [State.mirEnd, hk]

@[simp] theorem State.capPass_ok (s : State) (hk : Ok Q B s) :
    Ok Q B (State.capPass s) := by simp [State.capPass, hk]

@[simp] theorem State.mirPump_ok (s : State) (hk : Ok Q B s) :
    Ok Q B (State.mirPump s) := by simp (maxDischargeDepth := 12) [State.mirPump, hk]

@[simp] theorem State.mirBad_ok (s : State) (hk : Ok Q B s) :
    Ok Q B (State.mirBad s) := by simp [State.mirBad, hk]

@[simp] theorem State.mirCommit_ok (s : State) (hk : Ok Q B s) :
    Ok Q B (State.mirCommit s) := by
  unfold State.mirCommit
  (repeat' split) <;> simp +contextual (maxDischargeDepth := 12) [*]

@[simp] theorem State.mirRecv_ok (s : State) (seq : Nat) (act : State → State) (hact : ∀ t, Ok Q B t → Ok Q B (act t)) (hk : Ok Q
    B s) :
    Ok Q B (State.mirRecv s seq act) := by simp +contextual (maxDischargeDepth := 12) [State.mirRecv, *]

@[simp] theorem State.rxCount_ok (s : State) (e kind : Nat) (hk : Ok Q B s) :
    Ok Q B (State.rxCount s e kind) := by simp [State.rxCount, hk]

@[simp] theorem State.rangePut_ok (s : State) (j off : Nat) (d : List Byte) (be : List Bool) (hk : Ok Q B s) :
    Ok Q B (State.rangePut s j off d be) := by simp [State.rangePut, hk]

@[simp] theorem State.wlogPut_ok (s : State) (x : MFrame) (hk : Ok Q B s) :
    Ok Q B (State.wlogPut s x) := by simp [State.wlogPut, hk]

@[simp] theorem State.mirWlog_ok (s : State) (x : MFrame) (hk : Ok Q B s) :
    Ok Q B (State.mirWlog s x) := by simp [State.mirWlog, hk]

@[simp] theorem State.mirSeed_ok (s : State) (x : MFrame) (hk : Ok Q B s) :
    Ok Q B (State.mirSeed s x) := by simp (maxDischargeDepth := 12) [State.mirSeed, hk]

@[simp] theorem State.mirImage_ok (s : State) (x : MFrame) (hk : Ok Q B s) :
    Ok Q B (State.mirImage s x) := by
  unfold State.mirImage
  simp +contextual (maxDischargeDepth := 12) [*]
  (repeat' split) <;> simp_all (maxDischargeDepth := 12)

@[simp] theorem State.imageMove_ok (s : State) (r : Nat) (hk : Ok Q B s) :
    Ok Q B (State.imageMove s r) := by simp (maxDischargeDepth := 12) [State.imageMove, hk]

@[simp] theorem State.mirApplied_ok (s : State) (hk : Ok Q B s) :
    Ok Q B (State.mirApplied s) := by
  unfold State.mirApplied
  (repeat' split) <;> simp +contextual (maxDischargeDepth := 12) [*]

@[simp] theorem State.giveSend_ok (s : State) (j e : Nat) (hk : Ok Q B s) :
    Ok Q B (State.giveSend s j e) := by simp [State.giveSend, hk]

@[simp] theorem State.mirAck_ok (s : State) (e : Nat) (hk : Ok Q B s) :
    Ok Q B (State.mirAck s e) := by simp +contextual (maxDischargeDepth := 12) [State.mirAck, *]

@[simp] theorem State.mirRetry_ok (s : State) (n : Nat) (hk : Ok Q B s) :
    Ok Q B (State.mirRetry s n) := by simp [State.mirRetry, hk]

@[simp] theorem State.mirGive_ok (s : State) (j : Nat) (hk : Ok Q B s) :
    Ok Q B (State.mirGive s j) := by simp [State.mirGive, hk]

@[simp] theorem State.wireCheck_ok (s : State) (hk : Ok Q B s) :
    Ok Q B (State.wireCheck s) := by
  unfold State.wireCheck
  (repeat' split) <;> simp (maxDischargeDepth := 12) [hk]

@[simp] theorem State.envOpened_ok (s : State) (r : Nat) (hk : Ok Q B s) :
    Ok Q B (State.envOpened s r) := by simp (maxDischargeDepth := 12) [State.envOpened, hk]

@[simp] theorem State.takeoverEnd_ok (s : State) (j : Nat) (hk : Ok Q B s) :
    Ok Q B (State.takeoverEnd s j) := by simp +contextual (maxDischargeDepth := 12) [State.takeoverEnd, *]

@[simp] theorem State.selfFail_ok (s : State) (hk : Ok Q B s) :
    Ok Q B (State.selfFail s) := by simp +contextual (maxDischargeDepth := 12) [State.selfFail, *]

@[simp] theorem State.mirSourceLost_ok (s : State) (j : Nat) (hk : Ok Q B s) :
    Ok Q B (State.mirSourceLost s j) := by simp +contextual (maxDischargeDepth := 12) [State.mirSourceLost, *]

@[simp] theorem State.mirDieLost_ok (s : State) (d : Nat) (hk : Ok Q B s) :
    Ok Q B (State.mirDieLost s d) := by simp +contextual (maxDischargeDepth := 12) [State.mirDieLost, *]

@[simp] theorem State.mirStart_ok (s : State) (hk : Ok Q B s) :
    Ok Q B (State.mirStart s) := by simp (maxDischargeDepth := 12) [State.mirStart, hk]

@[simp] theorem execMirStart_ok (m : Master) (s : State) (hk : Ok Q B s) :
    NextOk Q B (execMirStart m s) := by simp +contextual (maxDischargeDepth := 12) [execMirStart, *]

@[simp] theorem State.mirStop_ok (s : State) (hk : Ok Q B s) :
    Ok Q B (State.mirStop s) := by simp +contextual (maxDischargeDepth := 12) [State.mirStop, *]

@[simp] theorem execMirStop_ok (m : Master) (s : State) (hk : Ok Q B s) :
    NextOk Q B (execMirStop m s) := by simp +contextual (maxDischargeDepth := 12) [execMirStop, *]

@[simp] theorem execMirCmdSelfFail_ok (m : Master) (s : State) (hk : Ok Q B s) :
    NextOk Q B (execMirCmdSelfFail m s) := by simp +contextual (maxDischargeDepth := 12) [execMirCmdSelfFail, *]

@[simp] theorem execMirTrainEnd_ok (s : State) (hk : Ok Q B s) :
    NextOk Q B (execMirTrainEnd s) := by simp (maxDischargeDepth := 12) [execMirTrainEnd, hk]

@[simp] theorem execMirTrainTimeout_ok (s : State) (hk : Ok Q B s) :
    NextOk Q B (execMirTrainTimeout s) := by simp [execMirTrainTimeout, hk]

@[simp] theorem execMirHello_ok (tagOk : Bool) (role : Nat) (s : State) (hk : Ok Q B s) :
    NextOk Q B (execMirHello tagOk role s) := by simp +contextual (maxDischargeDepth := 12) [execMirHello, *]

@[simp] theorem execMirIdle_ok (seq : Nat) (failOut failIn : Bool) (s : State) (hk : Ok Q B s) :
    NextOk Q B (execMirIdle seq failOut failIn s) := by simp +contextual (maxDischargeDepth := 12) [execMirIdle, *]

@[simp] theorem execMirIdleTimer_ok (s : State) (hk : Ok Q B s) :
    NextOk Q B (execMirIdleTimer s) := by simp [execMirIdleTimer, hk]

@[simp] theorem execMirFrameBad_ok (tagFails : Bool) (s : State) (hk : Ok Q B s) :
    NextOk Q B (execMirFrameBad tagFails s) := by simp (maxDischargeDepth := 12) [execMirFrameBad, hk]

@[simp] theorem execMirWlog_ok (seq pl epoch off : Nat) (payload : List Byte) (s : State) (hk : Ok Q B s) :
    NextOk Q B (execMirWlog seq pl epoch off payload s) := by simp +contextual (maxDischargeDepth := 12) [execMirWlog, *]

@[simp] theorem execMirSeed_ok (seq pl epoch off : Nat) (payload : List Byte) (s : State) (hk : Ok Q B s) :
    NextOk Q B (execMirSeed seq pl epoch off payload s) := by simp +contextual (maxDischargeDepth := 12) [execMirSeed, *]

@[simp] theorem execMirImage_ok (seq pl epoch rgn off : Nat) (payload : List Byte) (s : State) (hk : Ok Q B s) :
    NextOk Q B (execMirImage seq pl epoch rgn off payload s) := by simp +contextual (maxDischargeDepth := 12) [execMirImage, *]

@[simp] theorem execMirEffect_ok (seq pl epoch : Nat) (payload : List Byte) (s : State) (hk : Ok Q B s) :
    NextOk Q B (execMirEffect seq pl epoch payload s) := by simp +contextual (maxDischargeDepth := 12) [execMirEffect, *]

@[simp] theorem execMirEpochEnd_ok (seq epoch wl img eff mask : Nat) (s : State) (hk : Ok Q B s) :
    NextOk Q B (execMirEpochEnd seq epoch wl img eff mask s) := by simp +contextual (maxDischargeDepth := 12) [execMirEpochEnd, *]

@[simp] theorem execMirCommitApplyEnd_ok (s : State) (hk : Ok Q B s) :
    NextOk Q B (execMirCommitApplyEnd s) := by simp [execMirCommitApplyEnd, hk]

@[simp] theorem execMirAck_ok (seq epoch : Nat) (s : State) (hk : Ok Q B s) :
    NextOk Q B (execMirAck seq epoch s) := by simp +contextual (maxDischargeDepth := 12) [execMirAck, *]

@[simp] theorem execMirRel_ok (seq epoch : Nat) (s : State) (hk : Ok Q B s) :
    NextOk Q B (execMirRel seq epoch s) := by simp +contextual (maxDischargeDepth := 12) [execMirRel, *]

@[simp] theorem execMirRetry_ok (seq first : Nat) (s : State) (hk : Ok Q B s) :
    NextOk Q B (execMirRetry seq first s) := by simp +contextual (maxDischargeDepth := 12) [execMirRetry, *]

@[simp] theorem execMirGive_ok (seq pl : Nat) (s : State) (hk : Ok Q B s) :
    NextOk Q B (execMirGive seq pl s) := by simp +contextual (maxDischargeDepth := 12) [execMirGive, *]

@[simp] theorem execMirWireTest_ok (seq time : Nat) (s : State) (hk : Ok Q B s) :
    NextOk Q B (execMirWireTest seq time s) := by simp +contextual (maxDischargeDepth := 12) [execMirWireTest, *]

@[simp] theorem execMirWireTestTimer_ok (time : Nat) (s : State) (hk : Ok Q B s) :
    NextOk Q B (execMirWireTestTimer time s) := by simp (maxDischargeDepth := 12) [execMirWireTestTimer, hk]

@[simp] theorem execWireTestRelease_ok (s : State) (hk : Ok Q B s) :
    NextOk Q B (execWireTestRelease s) := by simp [execWireTestRelease, hk]

@[simp] theorem execWireTestReleaseEnd_ok (s : State) (hk : Ok Q B s) :
    NextOk Q B (execWireTestReleaseEnd s) := by simp [execWireTestReleaseEnd, hk]

@[simp] theorem execMirLossTimer_ok (s : State) (hk : Ok Q B s) :
    NextOk Q B (execMirLossTimer s) := by simp [execMirLossTimer, hk]

@[simp] theorem execMirLaneLockLoss_ok (lane : Nat) (s : State) (hk : Ok Q B s) :
    NextOk Q B (execMirLaneLockLoss lane s) := by simp (maxDischargeDepth := 12) [execMirLaneLockLoss, hk]

@[simp] theorem execMirRetrainEnd_ok (s : State) (hk : Ok Q B s) :
    NextOk Q B (execMirRetrainEnd s) := by simp [execMirRetrainEnd, hk]

@[simp] theorem execMirRetrainTimeout_ok (s : State) (hk : Ok Q B s) :
    NextOk Q B (execMirRetrainTimeout s) := by simp [execMirRetrainTimeout, hk]

@[simp] theorem execMirEpochTimer_ok (s : State) (hk : Ok Q B s) :
    NextOk Q B (execMirEpochTimer s) := by simp [execMirEpochTimer, hk]

@[simp] theorem execMirAckTimeout_ok (s : State) (hk : Ok Q B s) :
    NextOk Q B (execMirAckTimeout s) := by simp [execMirAckTimeout, hk]

@[simp] theorem execPairFailInRise_ok (s : State) (hk : Ok Q B s) :
    NextOk Q B (execPairFailInRise s) := by
  unfold execPairFailInRise
  dsimp only
  (repeat' split) <;> simp (maxDischargeDepth := 12) [hk]

@[simp] theorem execPairFailInFall_ok (s : State) (hk : Ok Q B s) :
    NextOk Q B (execPairFailInFall s) := by simp [execPairFailInFall, hk]

@[simp] theorem execTakeWinExpire_ok (s : State) (hk : Ok Q B s) :
    NextOk Q B (execTakeWinExpire s) := by simp [execTakeWinExpire, hk]

@[simp] theorem execTakeoverEnd_ok (j : Nat) (s : State) (hk : Ok Q B s) :
    NextOk Q B (execTakeoverEnd j s) := by simp [execTakeoverEnd, hk]

@[simp] theorem State.plGive_ok (s : State) (j : Nat) (hk : Ok Q B s) :
    Ok Q B (State.plGive s j) := by simp (maxDischargeDepth := 12) [State.plGive, hk]

@[simp] theorem execPlGive_ok (m : Master) (j : Nat) (s : State) (hk : Ok Q B s) :
    NextOk Q B (execPlGive m j s) := by simp +contextual (maxDischargeDepth := 12) [execPlGive, *]

@[simp] theorem State.plReseed_ok (s : State) (j : Nat) (hk : Ok Q B s) :
    Ok Q B (State.plReseed s j) := by simp [State.plReseed, hk]

@[simp] theorem execPlReseed_ok (m : Master) (j : Nat) (s : State) (hk : Ok Q B s) :
    NextOk Q B (execPlReseed m j s) := by simp +contextual (maxDischargeDepth := 12) [execPlReseed, *]

@[simp] theorem State.mirKeyWrite_ok (s : State) (j v : Nat) (hk : Ok Q B s) :
    Ok Q B (State.mirKeyWrite s j v) := by simp [State.mirKeyWrite, hk]

end Sys2Proof.Machine
end

