-- ==== Sys2Proof/Laws/KeepFab.lean ====
section
/-! SUPPORT. What the operations of Machine/Fab.lean keep. -/

namespace Sys2Proof.Machine

open Reg

set_option linter.all false

variable {Q : List Instr} {B : Prop}

@[simp] theorem State.updFab_ok (s : State) (g : Fab → Fab) (hk : Ok Q B s) :
    Ok Q B (State.updFab s g) := by simp [State.updFab, hk]

@[simp] theorem State.setRosc_ok (s : State) (d n : Nat) (x : Rosc) (hk : Ok Q B s) :
    Ok Q B (State.setRosc s d n x) := by simp [State.setRosc, hk]

@[simp] theorem State.roscEnable_ok (s : State) (d n : Nat) (hk : Ok Q B s) :
    Ok Q B (State.roscEnable s d n) := by simp [State.roscEnable, hk]

@[simp] theorem State.roscBack_ok (s : State) (d n : Nat) (hk : Ok Q B s) :
    Ok Q B (State.roscBack s d n) := by simp +contextual (maxDischargeDepth := 12) [State.roscBack, *]

@[simp] theorem State.roscDisable_ok (s : State) (d n : Nat) (hk : Ok Q B s) :
    Ok Q B (State.roscDisable s d n) := by simp +contextual (maxDischargeDepth := 12) [State.roscDisable, *]

@[simp] theorem execRoscEnable_ok (m : Master) (d n : Nat) (s : State) (hk : Ok Q B s) :
    NextOk Q B (execRoscEnable m d n s) := by simp +contextual (maxDischargeDepth := 12) [execRoscEnable, *]

@[simp] theorem execRoscSettled_ok (d n : Nat) (s : State) (hk : Ok Q B s) :
    NextOk Q B (execRoscSettled d n s) := by simp [execRoscSettled, hk]

@[simp] theorem execRoscDisable_ok (m : Master) (d n : Nat) (s : State) (hk : Ok Q B s) :
    NextOk Q B (execRoscDisable m d n s) := by simp +contextual (maxDischargeDepth := 12) [execRoscDisable, *]

@[simp] theorem execRoscWindowEnd_ok (d n cnt : Nat) (s : State) (hk : Ok Q B s) :
    NextOk Q B (execRoscWindowEnd d n cnt s) := by simp [execRoscWindowEnd, hk]

@[simp] theorem State.roscFreq_ok (s : State) (d n v : Nat) (hk : Ok Q B s) :
    Ok Q B (State.roscFreq s d n v) := by simp [State.roscFreq, hk]

@[simp] theorem State.roscTrim_ok (s : State) (d n v : Nat) (hk : Ok Q B s) :
    Ok Q B (State.roscTrim s d n v) := by simp [State.roscTrim, hk]

@[simp] theorem State.setFlPage_ok (s : State) (d q : Nat) (x : FlPage) (hk : Ok Q B s) :
    Ok Q B (State.setFlPage s d q x) := by simp [State.setFlPage, hk]

@[simp] theorem State.flErase_ok (s : State) (d q : Nat) (hk : Ok Q B s) :
    Ok Q B (State.flErase s d q) := by simp [State.flErase, hk]

@[simp] theorem State.setFlOp_ok (s : State) (d v : Nat) (hk : Ok Q B s) :
    Ok Q B (State.setFlOp s d v) := by simp [State.setFlOp, hk]

@[simp] theorem State.setFlBuf_ok (s : State) (d : Nat) (l : List Nat) (hk : Ok Q B s) :
    Ok Q B (State.setFlBuf s d l) := by simp [State.setFlBuf, hk]

@[simp] theorem State.flEnd_ok (s : State) (d err : Nat) (hk : Ok Q B s) :
    Ok Q B (State.flEnd s d err) := by simp [State.flEnd, hk]

@[simp] theorem State.flWorn_ok (s : State) (d : Nat) (worn : Bool) (hk : Ok Q B s) :
    Ok Q B (State.flWorn s d worn) := by simp [State.flWorn, hk]

@[simp] theorem State.flStart_ok (s : State) (d page op : Nat) (hk : Ok Q B s) :
    Ok Q B (State.flStart s d page op) := by simp (maxDischargeDepth := 12) [State.flStart, hk]

@[simp] theorem execFlRead_ok (m : Master) (d page : Nat) (s : State) (hk : Ok Q B s) :
    NextOk Q B (execFlRead m d page s) := by simp +contextual (maxDischargeDepth := 12) [execFlRead, *]

@[simp] theorem execFlWrite_ok (m : Master) (d page : Nat) (s : State) (hk : Ok Q B s) :
    NextOk Q B (execFlWrite m d page s) := by simp +contextual (maxDischargeDepth := 12) [execFlWrite, *]

@[simp] theorem execFlErase_ok (m : Master) (d page : Nat) (s : State) (hk : Ok Q B s) :
    NextOk Q B (execFlErase m d page s) := by simp +contextual (maxDischargeDepth := 12) [execFlErase, *]

@[simp] theorem State.flReadEnd_ok (s : State) (d : Nat) (hk : Ok Q B s) :
    Ok Q B (State.flReadEnd s d) := by
  unfold State.flReadEnd
  (repeat' split) <;> simp (maxDischargeDepth := 12) [hk]

@[simp] theorem State.flWriteEnd_ok (s : State) (d : Nat) (ok : Bool) (hk : Ok Q B s) :
    Ok Q B (State.flWriteEnd s d ok) := by
  unfold State.flWriteEnd
  simp +contextual (maxDischargeDepth := 12) [*]
  (repeat' split) <;> simp_all (maxDischargeDepth := 12)

@[simp] theorem State.flEraseEnd_ok (s : State) (d : Nat) (hk : Ok Q B s) :
    Ok Q B (State.flEraseEnd s d) := by simp (maxDischargeDepth := 12) [State.flEraseEnd, hk]

@[simp] theorem execFlOpEnd_ok (d : Nat) (ok : Bool) (s : State) (hk : Ok Q B s) :
    NextOk Q B (execFlOpEnd d ok s) := by
  unfold execFlOpEnd
  (repeat' split) <;> simp [hk]

@[simp] theorem State.flAbandon_ok (s : State) (d : Nat) (hk : Ok Q B s) :
    Ok Q B (State.flAbandon s d) := by simp [State.flAbandon, hk]

@[simp] theorem State.spShow_ok (s : State) (d p : Nat) (hk : Ok Q B s) :
    Ok Q B (State.spShow s d p) := by simp [State.spShow, hk]

@[simp] theorem State.spEnable_ok (s : State) (d p : Nat) (hk : Ok Q B s) :
    Ok Q B (State.spEnable s d p) := by simp [State.spEnable, hk]

@[simp] theorem State.spDisable_ok (s : State) (d p : Nat) (hk : Ok Q B s) :
    Ok Q B (State.spDisable s d p) := by simp (maxDischargeDepth := 12) [State.spDisable, hk]

@[simp] theorem execSpEnable_ok (m : Master) (d p : Nat) (s : State) (hk : Ok Q B s) :
    NextOk Q B (execSpEnable m d p s) := by simp +contextual (maxDischargeDepth := 12) [execSpEnable, *]

@[simp] theorem execSpDisable_ok (m : Master) (d p : Nat) (s : State) (hk : Ok Q B s) :
    NextOk Q B (execSpDisable m d p s) := by simp +contextual (maxDischargeDepth := 12) [execSpDisable, *]

@[simp] theorem State.spPut_ok (s : State) (d p : Nat) (b : Byte) (hk : Ok Q B s) :
    Ok Q B (State.spPut s d p b) := by simp [State.spPut, hk]

@[simp] theorem State.spPush_ok (s : State) (d p v : Nat) (hk : Ok Q B s) :
    Ok Q B (State.spPush s d p v) := by simp [State.spPush, hk]

@[simp] theorem execSpDataPush_ok (m : Master) (d p v : Nat) (s : State) (hk : Ok Q B s) :
    NextOk Q B (execSpDataPush m d p v s) := by simp +contextual (maxDischargeDepth := 12) [execSpDataPush, *]

@[simp] theorem State.spPop_ok (s : State) (d p : Nat) (peek : Bool) (hk : Ok Q B s) :
    Ok Q B (State.spPop s d p peek) := by
  unfold State.spPop
  simp +contextual (maxDischargeDepth := 12) [*]
  (repeat' split) <;> simp_all (maxDischargeDepth := 12)

@[simp] theorem execSpDataPop_ok (d p : Nat) (peek : Bool) (s : State) (hk : Ok Q B s) :
    NextOk Q B (execSpDataPop d p peek s) := by simp [execSpDataPop, hk]

@[simp] theorem State.spReadGo_ok (s : State) (d p : Nat) (hk : Ok Q B s) :
    Ok Q B (State.spReadGo s d p) := by simp [State.spReadGo, hk]

@[simp] theorem State.spRead_ok (s : State) (d p : Nat) (hk : Ok Q B s) :
    Ok Q B (State.spRead s d p) := by simp [State.spRead, hk]

@[simp] theorem State.spFabric_ok (s : State) (d p : Nat) (x : SpFabric) (hk : Ok Q B s) :
    Ok Q B (State.spFabric s d p x) := by simp +contextual (maxDischargeDepth := 12) [State.spFabric, *]

@[simp] theorem execSpRdStart_ok (m : Master) (d p : Nat) (s : State) (hk : Ok Q B s) :
    NextOk Q B (execSpRdStart m d p s) := by simp +contextual (maxDischargeDepth := 12) [execSpRdStart, *]

@[simp] theorem State.spSent_ok (s : State) (d p : Nat) (hk : Ok Q B s) :
    Ok Q B (State.spSent s d p) := by
  unfold State.spSent
  simp +contextual (maxDischargeDepth := 12) [*]
  (repeat' split) <;> simp_all (maxDischargeDepth := 12)

@[simp] theorem State.spGot_ok (s : State) (d p : Nat) (b : Byte) (hk : Ok Q B s) :
    Ok Q B (State.spGot s d p b) := by simp [State.spGot, hk]

@[simp] theorem execSpByteEnd_ok (d p : Nat) (rx : Option Byte) (sent nack more : Bool) (fab : SpFabric) (s : State)
    (hk : Ok Q B s) :
    NextOk Q B (execSpByteEnd d p rx sent nack more fab s) := by
  unfold execSpByteEnd
  simp +contextual (maxDischargeDepth := 12) [*]
  (repeat' split) <;> simp_all (maxDischargeDepth := 12)

@[simp] theorem State.fabReset_ok (s : State) (d : Nat) (hk : Ok Q B s) :
    Ok Q B (State.fabReset s d) := by simp +contextual (maxDischargeDepth := 12) [State.fabReset, *]

end Sys2Proof.Machine
end

