-- ==== Sys2Proof/Laws/KeepCmx.lean ====
section
/-! SUPPORT. What the operations of Machine/Cmx.lean keep. -/

namespace Sys2Proof.Machine

open Reg

set_option linter.all false

variable {Q : List Instr} {B : Prop}

@[simp] theorem State.updCmx_ok (s : State) (g : Cmx → Cmx) (hk : Ok Q B s) :
    Ok Q B (State.updCmx s g) := by simp [State.updCmx, hk]

@[simp] theorem State.updBundle_ok (s : State) (d b : Nat) (g : Bundle → Bundle) (hk : Ok Q B s) :
    Ok Q B (State.updBundle s d b g) := by simp [State.updBundle, hk]

@[simp] theorem State.setSpare_ok (s : State) (d b n : Nat) (x : Option Nat) (hk : Ok Q B s) :
    Ok Q B (State.setSpare s d b n x) := by simp [State.setSpare, hk]

@[simp] theorem State.addBad_ok (s : State) (d b w : Nat) (hk : Ok Q B s) :
    Ok Q B (State.addBad s d b w) := by simp (maxDischargeDepth := 12) [State.addBad, hk]

@[simp] theorem State.adopt_ok (s : State) (d b : Nat) (bad : List Nat) (hk : Ok Q B s) :
    Ok Q B (State.adopt s d b bad) := by simp +contextual (maxDischargeDepth := 12) [State.adopt, *]

@[simp] theorem State.clearRecord_ok (s : State) (d b : Nat) (hk : Ok Q B s) :
    Ok Q B (State.clearRecord s d b) := by simp +contextual (maxDischargeDepth := 12) [State.clearRecord, *]

@[simp] theorem State.xrWrite_ok (s : State) (d b p valid sd sb sp : Nat) (hk : Ok Q B s) :
    Ok Q B (State.xrWrite s d b p valid sd sb sp) := by simp (maxDischargeDepth := 12) [State.xrWrite, hk]

@[simp] theorem State.tetherServe_ok (d : Nat) (y0 : Nat) (y1 : State) (hk : Ok Q B y1) :
    Ok Q B (State.tetherServe d y0 y1) := by
  induction y0 generalizing y1 with
  | zero => exact hk
  | succ n ih =>
    unfold State.tetherServe
    (repeat' split) <;> simp +contextual (maxDischargeDepth := 16) [*]

@[simp] theorem State.tetherGo_ok (s : State) (d : Nat) (hk : Ok Q B s) :
    Ok Q B (State.tetherGo s d) := by simp [State.tetherGo, hk]

@[simp] theorem State.routeWrite_ok (s : State) (x : XrWrite) (hk : Ok Q B s) :
    Ok Q B (State.routeWrite s x) := by simp +contextual (maxDischargeDepth := 12) [State.routeWrite, *]

@[simp] theorem execRouteWrite_ok (m : Master) (d b p valid sd sb sp : Nat) (s : State) (hk : Ok Q B s) :
    NextOk Q B (execRouteWrite m d b p valid sd sb sp s) := by simp +contextual (maxDischargeDepth := 12) [execRouteWrite, *]

@[simp] theorem State.raiseLeases_ok (s : State) (e : Ev) (inst : Nat) (l : List Nat) (hk : Ok Q B s) :
    Ok Q B (State.raiseLeases s e inst l) := by simp +contextual (maxDischargeDepth := 12) [State.raiseLeases, *]

@[simp] theorem State.cutRoutes_ok (s : State) (d b : Nat) (hk : Ok Q B s) :
    Ok Q B (State.cutRoutes s d b) := by simp +contextual (maxDischargeDepth := 12) [State.cutRoutes, *]

@[simp] theorem State.bundlePortState_ok (s : State) (d b : Nat) (live : Bool) (hk : Ok Q B s) :
    Ok Q B (State.bundlePortState s d b live) := by simp +contextual (maxDischargeDepth := 12) [State.bundlePortState, *]

@[simp] theorem State.setBundle_ok (s : State) (d b v : Nat) (hk : Ok Q B s) :
    Ok Q B (State.setBundle s d b v) := by simp [State.setBundle, hk]

@[simp] theorem State.dropSteers_ok (s : State) (d b : Nat) (hk : Ok Q B s) :
    Ok Q B (State.dropSteers s d b) := by simp +contextual (maxDischargeDepth := 12) [State.dropSteers, *]

@[simp] theorem State.trainStart_ok (s : State) (d b : Nat) (hk : Ok Q B s) :
    Ok Q B (State.trainStart s d b) := by simp [State.trainStart, hk]

@[simp] theorem State.bundleLive_ok (s : State) (d b : Nat) (hk : Ok Q B s) :
    Ok Q B (State.bundleLive s d b) := by simp (maxDischargeDepth := 12) [State.bundleLive, hk]

@[simp] theorem State.napsDown_ok (s : State) (r : Nat) (hk : Ok Q B s) :
    Ok Q B (State.napsDown s r) := by simp +contextual (maxDischargeDepth := 12) [State.napsDown, *]

@[simp] theorem State.loadsAbandon_ok (s : State) (d : Nat) (hk : Ok Q B s) :
    Ok Q B (State.loadsAbandon s d) := by simp +contextual (maxDischargeDepth := 12) [State.loadsAbandon, *]

@[simp] theorem State.bundlesDown_ok (s : State) (d : Nat) (hk : Ok Q B s) :
    Ok Q B (State.bundlesDown s d) := by simp +contextual (maxDischargeDepth := 12) [State.bundlesDown, *]

@[simp] theorem State.trioLost_ok (s : State) (t : Nat) (hk : Ok Q B s) :
    Ok Q B (State.trioLost s t) := by simp +contextual (maxDischargeDepth := 12) [State.trioLost, *]

@[simp] theorem State.dieArbs_ok (s : State) (d : Nat) (hk : Ok Q B s) :
    Ok Q B (State.dieArbs s d) := by simp +contextual (maxDischargeDepth := 12) [State.dieArbs, *]

@[simp] theorem State.regionsLost_ok (s : State) (d : Nat) (hk : Ok Q B s) :
    Ok Q B (State.regionsLost s d) := by simp +contextual (maxDischargeDepth := 12) [State.regionsLost, *]

@[simp] theorem State.checkersStop_ok (s : State) (d : Nat) (hk : Ok Q B s) :
    Ok Q B (State.checkersStop s d) := by simp [State.checkersStop, hk]

@[simp] theorem State.dieIsolate_ok (s : State) (d cause : Nat) (hk : Ok Q B s) :
    Ok Q B (State.dieIsolate s d cause) := by simp (maxDischargeDepth := 12) [State.dieIsolate, hk]

@[simp] theorem State.bundleDisable_ok (s : State) (d b : Nat) (hk : Ok Q B s) :
    Ok Q B (State.bundleDisable s d b) := by simp (maxDischargeDepth := 12) [State.bundleDisable, hk]

@[simp] theorem State.xrTake_ok (s : State) (x : Nat × Nat × Nat) (hk : Ok Q B s) :
    Ok Q B (State.xrTake s x) := by simp [State.xrTake, hk]

@[simp] theorem State.xrForce_ok (s : State) (x : Nat × Nat × Nat) (hk : Ok Q B s) :
    Ok Q B (State.xrForce s x) := by simp [State.xrForce, hk]

@[simp] theorem State.steerNow_ok (s : State) (d b w n : Nat) (hk : Ok Q B s) :
    Ok Q B (State.steerNow s d b w n) := by simp (maxDischargeDepth := 12) [State.steerNow, hk]

@[simp] theorem State.bundleTick_ok (s : State) (d b : Nat) (hk : Ok Q B s) :
    Ok Q B (State.bundleTick s d b) := by simp +contextual (maxDischargeDepth := 12) [State.bundleTick, *]

@[simp] theorem State.heartbeat_ok (s : State) (hk : Ok Q B s) :
    Ok Q B (State.heartbeat s) := by simp +contextual (maxDischargeDepth := 12) [State.heartbeat, *]

@[simp] theorem execHeartbeatPeriod_ok (s : State) (hk : Ok Q B s) :
    NextOk Q B (execHeartbeatPeriod s) := by simp [execHeartbeatPeriod, hk]

@[simp] theorem State.wireFails_ok (s : State) (d b w : Nat) (hk : Ok Q B s) :
    Ok Q B (State.wireFails s d b w) := by
  unfold State.wireFails
  (repeat' split) <;> simp [hk]

@[simp] theorem State.mismatch_ok (s : State) (d b w : Nat) (hk : Ok Q B s) :
    Ok Q B (State.mismatch s d b w) := by
  unfold State.mismatch
  dsimp only
  (repeat' split) <;> simp (maxDischargeDepth := 12) [hk]

@[simp] theorem State.agreeStep_ok (s : State) (d b : Nat) (same : Bool) (hk : Ok Q B s) :
    Ok Q B (State.agreeStep s d b same) := by
  unfold State.agreeStep
  (repeat' split) <;> simp (maxDischargeDepth := 12) [hk]

@[simp] theorem State.dirsHeard_ok (s : State) (d b : Nat) (hk : Ok Q B s) :
    Ok Q B (State.dirsHeard s d b) := by simp [State.dirsHeard, hk]

@[simp] theorem State.heartFrame_ok (s : State) (d b : Nat) (f : HbFrame) (hk : Ok Q B s) :
    Ok Q B (State.heartFrame s d b f) := by simp +contextual (maxDischargeDepth := 12) [State.heartFrame, *]

@[simp] theorem execHeartbeatFrame_ok (d b : Nat) (f : HbFrame) (s : State) (hk : Ok Q B s) :
    NextOk Q B (execHeartbeatFrame d b f s) := by simp [execHeartbeatFrame, hk]

@[simp] theorem State.heartMiss_ok (s : State) (d b : Nat) (hk : Ok Q B s) :
    Ok Q B (State.heartMiss s d b) := by simp (maxDischargeDepth := 12) [State.heartMiss, hk]

@[simp] theorem execHeartbeatMiss_ok (d b : Nat) (s : State) (hk : Ok Q B s) :
    NextOk Q B (execHeartbeatMiss d b s) := by simp [execHeartbeatMiss, hk]

@[simp] theorem State.napReplay_ok (s : State) (k p : Nat) (again : Bool) (hk : Ok Q B s) :
    Ok Q B (State.napReplay s k p again) := by
  unfold State.napReplay
  (repeat' split) <;> simp (maxDischargeDepth := 12) [hk]

@[simp] theorem execFlitReplay_ok (k p : Nat) (inward : Bool) (j err : Nat) (again : Bool) (s : State) (hk : Ok Q B s) :
    NextOk Q B (execFlitReplay k p inward j err again s) := by simp [execFlitReplay, hk]

@[simp] theorem State.attemptFails_ok (s : State) (d b : Nat) (hk : Ok Q B s) :
    Ok Q B (State.attemptFails s d b) := by simp (maxDischargeDepth := 12) [State.attemptFails, hk]

@[simp] theorem execTrainStepOverrun_ok (d b : Nat) (s : State) (hk : Ok Q B s) :
    NextOk Q B (execTrainStepOverrun d b s) := by simp [execTrainStepOverrun, hk]

@[simp] theorem execAgreeTimeout_ok (d b : Nat) (s : State) (hk : Ok Q B s) :
    NextOk Q B (execAgreeTimeout d b s) := by simp [execAgreeTimeout, hk]

@[simp] theorem execTrainRetry_ok (d b : Nat) (s : State) (hk : Ok Q B s) :
    NextOk Q B (execTrainRetry d b s) := by simp [execTrainRetry, hk]

@[simp] theorem State.trainEnd_ok (s : State) (d b : Nat) (found : List Nat) (seq : Nat) (hashes : List Nat) (hk : Ok Q B s) :
    Ok Q B (State.trainEnd s d b found seq hashes) := by simp +contextual (maxDischargeDepth := 12) [State.trainEnd, *]

@[simp] theorem execTrainEnd_ok (d b : Nat) (found : List Nat) (seq : Nat) (hashes : List Nat) (s : State) (hk : Ok Q B s) :
    NextOk Q B (execTrainEnd d b found seq hashes s) := by simp [execTrainEnd, hk]

@[simp] theorem State.cmxEpoch_ok (s : State) (hk : Ok Q B s) :
    Ok Q B (State.cmxEpoch s) := by simp +contextual (maxDischargeDepth := 12) [State.cmxEpoch, *]

@[simp] theorem State.cmdErr_ok (s : State) (d b e : Nat) (hk : Ok Q B s) :
    Ok Q B (State.cmdErr s d b e) := by simp [State.cmdErr, hk]

@[simp] theorem State.bundleCmd_ok (s : State) (d b cmd : Nat) (hk : Ok Q B s) :
    Ok Q B (State.bundleCmd s d b cmd) := by
  unfold State.bundleCmd
  (repeat' split) <;> simp (maxDischargeDepth := 12) [hk]

@[simp] theorem State.bundleCtrl_ok (s : State) (d b wire force cmd : Nat) (hk : Ok Q B s) :
    Ok Q B (State.bundleCtrl s d b wire force cmd) := by simp [State.bundleCtrl, hk]

@[simp] theorem execBundleReelIn_ok (m : Master) (d b wire force : Nat) (s : State) (hk : Ok Q B s) :
    NextOk Q B (execBundleReelIn m d b wire force s) := by simp +contextual (maxDischargeDepth := 12) [execBundleReelIn, *]

@[simp] theorem execBundlePayOut_ok (m : Master) (d b wire force : Nat) (s : State) (hk : Ok Q B s) :
    NextOk Q B (execBundlePayOut m d b wire force s) := by simp +contextual (maxDischargeDepth := 12) [execBundlePayOut, *]

@[simp] theorem execBundleRetrain_ok (m : Master) (d b wire force : Nat) (s : State) (hk : Ok Q B s) :
    NextOk Q B (execBundleRetrain m d b wire force s) := by simp +contextual (maxDischargeDepth := 12) [execBundleRetrain, *]

@[simp] theorem execBundleMaintRetrain_ok (m : Master) (d b wire force : Nat) (s : State) (hk : Ok Q B s) :
    NextOk Q B (execBundleMaintRetrain m d b wire force s) := by simp +contextual (maxDischargeDepth := 12) [execBundleMaintRetrain, *]

@[simp] theorem execBundleMarkBad_ok (m : Master) (d b wire force : Nat) (s : State) (hk : Ok Q B s) :
    NextOk Q B (execBundleMarkBad m d b wire force s) := by simp +contextual (maxDischargeDepth := 12) [execBundleMarkBad, *]

@[simp] theorem execDieIsolate_ok (m : Master) (d : Nat) (s : State) (hk : Ok Q B s) :
    NextOk Q B (execDieIsolate m d s) := by simp +contextual (maxDischargeDepth := 12) [execDieIsolate, *]

@[simp] theorem State.setAdmit_ok (s : State) (d v : Nat) (hk : Ok Q B s) :
    Ok Q B (State.setAdmit s d v) := by simp [State.setAdmit, hk]

@[simp] theorem State.dieSkip_ok (s : State) (d : Nat) (hk : Ok Q B s) :
    Ok Q B (State.dieSkip s d) := by simp [State.dieSkip, hk]

@[simp] theorem State.admitStart_ok (s : State) (d : Nat) (hk : Ok Q B s) :
    Ok Q B (State.admitStart s d) := by simp +contextual (maxDischargeDepth := 12) [State.admitStart, *]

@[simp] theorem State.dieAdmit_ok (s : State) (d : Nat) (hk : Ok Q B s) :
    Ok Q B (State.dieAdmit s d) := by simp [State.dieAdmit, hk]

@[simp] theorem execDieAdmit_ok (m : Master) (d : Nat) (s : State) (hk : Ok Q B s) :
    NextOk Q B (execDieAdmit m d s) := by simp +contextual (maxDischargeDepth := 12) [execDieAdmit, *]

@[simp] theorem State.admitFail_ok (s : State) (d code : Nat) (hk : Ok Q B s) :
    Ok Q B (State.admitFail s d code) := by simp (maxDischargeDepth := 12) [State.admitFail, hk]

@[simp] theorem execAdmitTimeout_ok (d : Nat) (s : State) (hk : Ok Q B s) :
    NextOk Q B (execAdmitTimeout d s) := by simp [execAdmitTimeout, hk]

@[simp] theorem State.commonWritten_ok (s : State) (d : Nat) (hk : Ok Q B s) :
    Ok Q B (State.commonWritten s d) := by simp [State.commonWritten, hk]

@[simp] theorem State.admitDone_ok (s : State) (d : Nat) (hk : Ok Q B s) :
    Ok Q B (State.admitDone s d) := by simp +contextual (maxDischargeDepth := 12) [State.admitDone, *]

@[simp] theorem execDieAdmitEnd_ok (d : Nat) (idOk : Bool) (s : State) (hk : Ok Q B s) :
    NextOk Q B (execDieAdmitEnd d idOk s) := by simp [execDieAdmitEnd, hk]

@[simp] theorem execWireFault_ok (d b w : Nat) (s : State) (hk : Ok Q B s) :
    NextOk Q B (execWireFault d b w s) := by simp [execWireFault, hk]

@[simp] theorem execDieReset_ok (d : Nat) (s : State) (hk : Ok Q B s) :
    NextOk Q B (execDieReset d s) := by simp [execDieReset, hk]

end Sys2Proof.Machine
end

