-- ==== Sys2Proof/Laws/KeepLife.lean ====
section
/-! SUPPORT. What the operations of Machine/Life.lean keep. -/

namespace Sys2Proof.Machine

open Reg

set_option linter.all false

variable {Q : List Instr} {B : Prop}

@[simp] theorem State.updDbg_ok (s : State) (g : Dbg → Dbg) (hk : Ok Q B s) :
    Ok Q B (State.updDbg s g) := by simp [State.updDbg, hk]

@[simp] theorem State.dbgEval_ok (s : State) (hk : Ok Q B s) :
    Ok Q B (State.dbgEval s) := by simp (maxDischargeDepth := 12) [State.dbgEval, hk]

@[simp] theorem State.setToken_ok (s : State) (b : Bool) (hk : Ok Q B s) :
    Ok Q B (State.setToken s b) := by simp (maxDischargeDepth := 12) [State.setToken, hk]

@[simp] theorem State.drawNonce_ok (s : State) (lo hi : Fld) (hk : Ok Q B s) :
    Ok Q B (State.drawNonce s lo hi) := by simp (maxDischargeDepth := 12) [State.drawNonce, hk]

@[simp] theorem State.lcEnd_ok (s : State) (cmd err : Nat) (hk : Ok Q B s) :
    Ok Q B (State.lcEnd s cmd err) := by simp +contextual (maxDischargeDepth := 12) [State.lcEnd, *]

@[simp] theorem State.lcCmd_ok (s : State) (cmd idx : Nat) (hk : Ok Q B s) :
    Ok Q B (State.lcCmd s cmd idx) := by simp [State.lcCmd, hk]

@[simp] theorem State.lcWrite_ok (s : State) (m : Master) (cmd idx : Nat) (hk : Ok Q B s) :
    Ok Q B (State.lcWrite s m cmd idx) := by simp +contextual (maxDischargeDepth := 12) [State.lcWrite, *]

@[simp] theorem execLcAdvance_ok (m : Master) (s : State) (hk : Ok Q B s) :
    NextOk Q B (execLcAdvance m s) := by simp [execLcAdvance, hk]

@[simp] theorem execLcKeyProg_ok (m : Master) (idx : Nat) (s : State) (hk : Ok Q B s) :
    NextOk Q B (execLcKeyProg m idx s) := by simp [execLcKeyProg, hk]

@[simp] theorem execLcRevoke_ok (m : Master) (idx : Nat) (s : State) (hk : Ok Q B s) :
    NextOk Q B (execLcRevoke m idx s) := by simp [execLcRevoke, hk]

@[simp] theorem execLcReturn_ok (m : Master) (s : State) (hk : Ok Q B s) :
    NextOk Q B (execLcReturn m s) := by simp [execLcReturn, hk]

@[simp] theorem execLcScrap_ok (m : Master) (s : State) (hk : Ok Q B s) :
    NextOk Q B (execLcScrap m s) := by simp [execLcScrap, hk]

@[simp] theorem State.blow_ok (s : State) (l : List Nat) (hk : Ok Q B s) :
    Ok Q B (State.blow s l) := by simp [State.blow, hk]

@[simp] theorem State.lcEnter_ok (s : State) (v : Nat) (hk : Ok Q B s) :
    Ok Q B (State.lcEnter s v) := by simp (maxDischargeDepth := 12) [State.lcEnter, hk]

@[simp] theorem State.lcFirst_ok (s : State) (cmd idx : Nat) (hk : Ok Q B s) :
    Ok Q B (State.lcFirst s cmd idx) := by
  unfold State.lcFirst
  (repeat' split) <;> simp [hk]

@[simp] theorem State.lcJudge_ok (s : State) (hk : Ok Q B s) :
    Ok Q B (State.lcJudge s) := by simp [State.lcJudge, hk]

@[simp] theorem State.lcBlow_ok (s : State) (cmd n : Nat) (hk : Ok Q B s) :
    Ok Q B (State.lcBlow s cmd n) := by simp [State.lcBlow, hk]

@[simp] theorem execLcCmdEnd_ok (failed : Nat) (s : State) (hk : Ok Q B s) :
    NextOk Q B (execLcCmdEnd failed s) := by simp (maxDischargeDepth := 12) [execLcCmdEnd, hk]

@[simp] theorem State.lcCut_ok (s : State) (hk : Ok Q B s) :
    Ok Q B (State.lcCut s) := by simp (maxDischargeDepth := 12) [State.lcCut, hk]

@[simp] theorem State.commitNow_ok (s : State) (hk : Ok Q B s) :
    Ok Q B (State.commitNow s) := by simp [State.commitNow, hk]

@[simp] theorem State.featCommit_ok (s : State) (m : Master) (v : Nat) (hk : Ok Q B s) :
    Ok Q B (State.featCommit s m v) := by simp [State.featCommit, hk]

@[simp] theorem execFeatCommit_ok (m : Master) (v : Nat) (s : State) (hk : Ok Q B s) :
    NextOk Q B (execFeatCommit m v s) := by simp +contextual (maxDischargeDepth := 12) [execFeatCommit, *]

@[simp] theorem State.featAccept_ok (s : State) (m : Master) (k v : Nat) (hk : Ok Q B s) :
    Ok Q B (State.featAccept s m k v) := by simp [State.featAccept, hk]

@[simp] theorem State.authEnd_ok (s : State) (err : Nat) (hk : Ok Q B s) :
    Ok Q B (State.authEnd s err) := by simp +contextual (maxDischargeDepth := 12) [State.authEnd, *]

@[simp] theorem State.authGo_ok (s : State) (hk : Ok Q B s) :
    Ok Q B (State.authGo s) := by simp [State.authGo, hk]

@[simp] theorem execDbgAuthGo_ok (m : Master) (s : State) (hk : Ok Q B s) :
    NextOk Q B (execDbgAuthGo m s) := by simp +contextual (maxDischargeDepth := 12) [execDbgAuthGo, *]

@[simp] theorem execDbgAuthEnd_ok (s : State) (hk : Ok Q B s) :
    NextOk Q B (execDbgAuthEnd s) := by simp [execDbgAuthEnd, hk]

@[simp] theorem execDbgTokenDrop_ok (m : Master) (s : State) (hk : Ok Q B s) :
    NextOk Q B (execDbgTokenDrop m s) := by simp +contextual (maxDischargeDepth := 12) [execDbgTokenDrop, *]

end Sys2Proof.Machine
end

