-- ==== Sys2Proof/Laws/KeepBoot.lean ====
section
/-! SUPPORT. What the operations of Machine/Boot.lean keep. -/

namespace Sys2Proof.Machine

open Reg

set_option linter.all false

variable {Q : List Instr} {B : Prop}

@[simp] theorem State.updBoot_ok (s : State) (g : Boot → Boot) (hk : Ok Q B s) :
    Ok Q B (State.updBoot s g) := by simp [State.updBoot, hk]

@[simp] theorem State.updPins_ok (s : State) (g : Pins → Pins) (hk : Ok Q B s) :
    Ok Q B (State.updPins s g) := by simp [State.updPins, hk]

@[simp] theorem State.ripOn_ok (s : State) (hk : Ok Q B s) :
    Ok Q B (State.ripOn s) := by simp (maxDischargeDepth := 12) [State.ripOn, hk]

@[simp] theorem State.ripOff_ok (s : State) (hk : Ok Q B s) :
    Ok Q B (State.ripOff s) := by simp +contextual (maxDischargeDepth := 12) [State.ripOff, *]

@[simp] theorem State.blankList_ok (s : State) (l : List Nat) (hk : Ok Q B s) :
    Ok Q B (State.blankList s l) := by simp [State.blankList, hk]

@[simp] theorem State.attemptFail_ok (s : State) (code : Nat) (hk : Ok Q B s) :
    Ok Q B (State.attemptFail s code) := by simp (maxDischargeDepth := 12) [State.attemptFail, hk]

@[simp] theorem State.bootArm_ok (s : State) (hk : Ok Q B s) :
    Ok Q B (State.bootArm s) := by simp (maxDischargeDepth := 12) [State.bootArm, hk]

@[simp] theorem State.bootGo_ok (y0 : Nat) (y1 : State) (hk : Ok Q B y1) :
    Ok Q B (State.bootGo y0 y1) := by
  induction y0 generalizing y1 with
  | zero => exact State.updBoot_ok _ _ (State.setF_ok _ _ _ hk)
  | succ n ih =>
    have h := State.updBoot_ok _ (fun b => { b with phase := 3 }) (State.setF_ok y1 CFG_BOOT_STATUS_ATTEMPTS (2 - n) hk)
    simp only [State.bootGo]
    split
    · exact ih _ (State.attemptFail_ok _ _ h)
    · exact State.bootArm_ok _ h

@[simp] theorem State.bootFail_ok (s : State) (code : Nat) (hk : Ok Q B s) :
    Ok Q B (State.bootFail s code) := by simp [State.bootFail, hk]

@[simp] theorem State.dirBad_ok (s : State) (hk : Ok Q B s) :
    Ok Q B (State.dirBad s) := by simp (maxDischargeDepth := 12) [State.dirBad, hk]

@[simp] theorem State.discover_ok (s : State) (hk : Ok Q B s) :
    Ok Q B (State.discover s) := by simp [State.discover, hk]

@[simp] theorem State.bootRom_ok (s : State) (hk : Ok Q B s) :
    Ok Q B (State.bootRom s) := by
  unfold State.bootRom
  simp +contextual (maxDischargeDepth := 12) [*]
  (repeat' split) <;> simp_all (maxDischargeDepth := 12)

@[simp] theorem execPllLock_ok (p : Nat) (s : State) (hk : Ok Q B s) :
    NextOk Q B (execPllLock p s) := by simp [execPllLock, hk]

@[simp] theorem execBootWdtExpire_ok (s : State) (hk : Ok Q B s) :
    NextOk Q B (execBootWdtExpire s) := by simp [execBootWdtExpire, hk]

@[simp] theorem State.shellReady_ok (s : State) (hk : Ok Q B s) :
    Ok Q B (State.shellReady s) := by simp (maxDischargeDepth := 12) [State.shellReady, hk]

@[simp] theorem execShellReady_ok (m : Master) (s : State) (hk : Ok Q B s) :
    NextOk Q B (execShellReady m s) := by simp +contextual (maxDischargeDepth := 12) [execShellReady, *]

@[simp] theorem State.bspiCut_ok (s : State) (hk : Ok Q B s) :
    Ok Q B (State.bspiCut s) := by
  unfold State.bspiCut
  (repeat' split) <;> simp +contextual (maxDischargeDepth := 12) [*]

@[simp] theorem State.wiped_ok (s : State) (hk : Ok Q B s) :
    Ok Q B (State.wiped s) := ⟨hk.1, fun _ => ⟨SMap.wf_nil _, Nat.zero_le _, Nat.zero_le _, Nat.zero_le _⟩⟩

@[simp] theorem State.restartPor_ok (s : State) (hk : Ok Q B s) :
    Ok Q B (State.restartPor s) := by simp (maxDischargeDepth := 12) [State.restartPor, hk]

@[simp] theorem State.senseFuses_ok (s : State) (hk : Ok Q B s) :
    Ok Q B (State.senseFuses s) := by simp (maxDischargeDepth := 12) [State.senseFuses, hk]

@[simp] theorem State.hbmKept_ok (s : State) (hk : Ok Q B s) :
    Ok Q B (State.hbmKept s) := by simp +contextual (maxDischargeDepth := 12) [State.hbmKept, *]

@[simp] theorem State.restartHeld_ok (s : State) (hk : Ok Q B s) :
    Ok Q B (State.restartHeld s) := by
  have h := State.bspiCut_ok _ (State.lcCut_ok s hk)
  unfold State.restartHeld
  refine State.updBoot_ok _ _ (State.senseFuses_ok _ (State.hbmKept_ok _ (State.mapMoved_ok _ _ _ ?_)))
  exact ⟨h.1, fun x => ⟨(h.2 x).1, (State.wiped_ok _ h).2 x |>.2.1, (State.wiped_ok _ h).2 x |>.2.2.1, (h.2 x).2.2.2⟩⟩

@[simp] theorem State.thermStep_ok (s : State) (raw : List Nat) (hk : Ok Q B s) :
    Ok Q B (State.thermStep s raw) := by simp (maxDischargeDepth := 12) [State.thermStep, hk]

@[simp] theorem execThermConversion_ok (raw : List Nat) (s : State) (hk : Ok Q B s) :
    NextOk Q B (execThermConversion raw s) := by simp [execThermConversion, hk]

end Sys2Proof.Machine
end

