-- ==== Sys2Proof/Laws/KeepLoad.lean ====
section
/-! SUPPORT. What the operations of Machine/Load.lean keep. -/

namespace Sys2Proof.Machine

open Reg

set_option linter.all false

variable {Q : List Instr} {B : Prop}

@[simp] theorem State.slotFail_ok (s : State) (n code : Nat) (hk : Ok Q B s) :
    Ok Q B (State.slotFail s n code) := by simp [State.slotFail, hk]

@[simp] theorem State.feed_ok (s : State) (n : Nat) (d : List Byte) (hk : Ok Q B s) :
    Ok Q B (State.feed s n d) := by simp (maxDischargeDepth := 12) [State.feed, hk]

@[simp] theorem State.sspWrite_ok (s : State) (d : List Byte) (hk : Ok Q B s) :
    Ok Q B (State.sspWrite s d) := by simp [State.sspWrite, hk]

@[simp] theorem State.sspBegin_ok (s : State) (code : Nat) (d : List Byte) (hk : Ok Q B s) :
    Ok Q B (State.sspBegin s code d) := by simp [State.sspBegin, hk]

@[simp] theorem execSspUnknownCommand_ok (code : Nat) (s : State) (hk : Ok Q B s) :
    NextOk Q B (execSspUnknownCommand code s) := by simp [execSspUnknownCommand, hk]

@[simp] theorem execSspWriteStream_ok (d : List Byte) (s : State) (hk : Ok Q B s) :
    NextOk Q B (execSspWriteStream d s) := by simp [execSspWriteStream, hk]

@[simp] theorem execSspReadStatus_ok (s : State) (hk : Ok Q B s) :
    NextOk Q B (execSspReadStatus s) := by simp [execSspReadStatus, hk]

@[simp] theorem execPspWord_ok (w : Nat) (s : State) (hk : Ok Q B s) :
    NextOk Q B (execPspWord w s) := by simp [execPspWord, hk]

@[simp] theorem execCfgSourceData_ok (n : Nat) (s : State) (hk : Ok Q B s) :
    NextOk Q B (execCfgSourceData n s) := by simp [execCfgSourceData, hk]

@[simp] theorem execBootFlashData_ok (k : Nat) (s : State) (hk : Ok Q B s) :
    NextOk Q B (execBootFlashData k s) := by simp [execBootFlashData, hk]

@[simp] theorem execCfgLoad_ok (w : Nat) (s : State) (hk : Ok Q B s) :
    NextOk Q B (execCfgLoad w s) := by simp [execCfgLoad, hk]

@[simp] theorem State.staged_ok (s : State) (n o k : Nat) (act : State → State) (hact : ∀ t, Ok Q B t → Ok Q B (act t)) (hk : Ok Q
    B s) :
    Ok Q B (State.staged s n o k act) := by simp +contextual (maxDischargeDepth := 12) [State.staged, *]

@[simp] theorem State.onUnit_ok (s : State) (n : Nat) (u : UnitState) (o k : Nat) (act : State → State) (hact : ∀ t, Ok Q B t → Ok
    Q B (act t)) (hk : Ok Q B s) :
    Ok Q B (State.onUnit s n u o k act) := by
  unfold State.onUnit
  (repeat' split) <;> simp +contextual (maxDischargeDepth := 12) [*]

@[simp] theorem execCfgHeader_ok (n : Nat) (s : State) (hk : Ok Q B s) :
    NextOk Q B (execCfgHeader n s) := by simp +contextual (maxDischargeDepth := 12) [execCfgHeader, *]

@[simp] theorem execCfgManifest_ok (n : Nat) (s : State) (hk : Ok Q B s) :
    NextOk Q B (execCfgManifest n s) := by simp +contextual (maxDischargeDepth := 12) [execCfgManifest, *]

@[simp] theorem State.bodyOp_ok (s : State) (n op : Nat) (act : Nat → State → State) (hact : ∀ i t, Ok Q B t → Ok Q B (act i t))
    (hk : Ok Q B s) :
    Ok Q B (State.bodyOp s n op act) := by simp +contextual (maxDischargeDepth := 12) [State.bodyOp, *]

@[simp] theorem State.advance_ok (s : State) (n k : Nat) (hk : Ok Q B s) :
    Ok Q B (State.advance s n k) := by simp [State.advance, hk]

@[simp] theorem execFar_ok (n : Nat) (s : State) (hk : Ok Q B s) :
    NextOk Q B (execFar n s) := by simp +contextual (maxDischargeDepth := 12) [execFar, *]

@[simp] theorem State.putFrame_ok (s : State) (n v : Nat) (hk : Ok Q B s) :
    Ok Q B (State.putFrame s n v) := by
  unfold State.putFrame
  (repeat' split) <;> simp (maxDischargeDepth := 12) [hk]

@[simp] theorem State.frameCmd_ok (s : State) (n c : Nat) (act : State → State) (hact : ∀ t, Ok Q B t → Ok Q B (act t)) (hk : Ok Q
    B s) :
    Ok Q B (State.frameCmd s n c act) := by simp +contextual (maxDischargeDepth := 12) [State.frameCmd, *]

@[simp] theorem State.writeGo_ok (y0 : Nat) (y1 : Nat) (y2 : State) (hk : Ok Q B y2) :
    Ok Q B (State.writeGo y0 y1 y2) := by
  induction y0 generalizing y2 with
  | zero => exact hk
  | succ f ih =>
    unfold State.writeGo
    dsimp only
    split
    · split
      · exact hk
      · split
        · exact State.updSlot_ok _ _ _ hk
        · split
          · refine ih _ (State.staged_ok _ _ _ _ _ (fun t h => ?_) hk)
            split
            · exact State.advance_ok _ _ _ (State.putFrame_ok _ _ _ h)
            · exact State.putFrame_ok _ _ _ h
          · exact hk
          · exact State.slotFail_ok _ _ _ hk
    · exact hk

@[simp] theorem execBodyWrite_ok (n : Nat) (s : State) (hk : Ok Q B s) :
    NextOk Q B (execBodyWrite n s) := by simp +contextual (maxDischargeDepth := 12) [execBodyWrite, *]

@[simp] theorem State.multiGo_ok (y0 : Nat) (y1 : Nat) (y2 : Nat) (y3 : State) (hk : Ok Q B y3) :
    Ok Q B (State.multiGo y0 y1 y2 y3) := by
  induction y0 generalizing y3 with
  | zero => exact hk
  | succ c ih =>
    have h := State.putFrame_ok y3 y1 y2 hk
    simp only [State.multiGo]
    split
    · exact ih _ h
    · exact h

@[simp] theorem execBlank_ok (n : Nat) (s : State) (hk : Ok Q B s) :
    NextOk Q B (execBlank n s) := by simp +contextual (maxDischargeDepth := 12) [execBlank, *]

@[simp] theorem execMulti_ok (n : Nat) (s : State) (hk : Ok Q B s) :
    NextOk Q B (execMulti n s) := by simp +contextual (maxDischargeDepth := 12) [execMulti, *]

@[simp] theorem State.essStop_ok (s : State) (n : Nat) (hk : Ok Q B s) :
    Ok Q B (State.essStop s n) := by simp [State.essStop, hk]

@[simp] theorem State.essRecord_ok (s : State) (n o len : Nat) (hk : Ok Q B s) :
    Ok Q B (State.essRecord s n o len) := by
  unfold State.essRecord
  (repeat' split) <;> simp [hk]

@[simp] theorem State.essGo_ok (y0 : Nat) (y1 : Nat) (y2 : State) (hk : Ok Q B y2) :
    Ok Q B (State.essGo y0 y1 y2) := by
  induction y0 generalizing y2 with
  | zero => exact hk
  | succ f ih =>
    unfold State.essGo
    dsimp only
    (repeat' split) <;> with_reducible first
      | exact hk
      | exact State.updSlot_ok _ _ _ hk
      | exact State.slotFail_ok _ _ _ hk
      | exact ih _ (State.advance_ok _ _ _ hk)
      | exact ih _ (State.essStop_ok _ _ hk)
      | exact ih _ (State.staged_ok _ _ _ _ _ (fun t h => State.essRecord_ok _ _ _ _ h) hk)

@[simp] theorem execEssmap_ok (n : Nat) (s : State) (hk : Ok Q B s) :
    NextOk Q B (execEssmap n s) := by simp +contextual (maxDischargeDepth := 12) [execEssmap, *]

@[simp] theorem State.sramWrite_ok (s : State) (a : Nat) (d : List Nat) (hk : Ok Q B s) :
    Ok Q B (State.sramWrite s a d) := by simp [State.sramWrite, hk]

@[simp] theorem State.memGo_ok (s : State) (n : Nat) (hk : Ok Q B s) :
    Ok Q B (State.memGo s n) := by
  unfold State.memGo
  (repeat' split) <;> simp +contextual (maxDischargeDepth := 12) [*]

@[simp] theorem execLoadmem_ok (n : Nat) (s : State) (hk : Ok Q B s) :
    NextOk Q B (execLoadmem n s) := by simp +contextual (maxDischargeDepth := 12) [execLoadmem, *]

@[simp] theorem execCfgNop_ok (n : Nat) (s : State) (hk : Ok Q B s) :
    NextOk Q B (execCfgNop n s) := by simp +contextual (maxDischargeDepth := 12) [execCfgNop, *]

@[simp] theorem execEnd_ok (n : Nat) (s : State) (hk : Ok Q B s) :
    NextOk Q B (execEnd n s) := by simp +contextual (maxDischargeDepth := 12) [execEnd, *]

@[simp] theorem State.bootPass_ok (s : State) (n : Nat) (hk : Ok Q B s) :
    Ok Q B (State.bootPass s n) := by simp +contextual (maxDischargeDepth := 12) [State.bootPass, *]

@[simp] theorem execCfgVerifyDone_ok (n : Nat) (s : State) (hk : Ok Q B s) :
    NextOk Q B (execCfgVerifyDone n s) := by simp +contextual (maxDischargeDepth := 12) [execCfgVerifyDone, *]

@[simp] theorem State.loadOpened_ok (s : State) (n : Nat) (hk : Ok Q B s) :
    Ok Q B (State.loadOpened s n) := by simp (maxDischargeDepth := 12) [State.loadOpened, hk]

@[simp] theorem State.loadGo_ok (s : State) (n r : Nat) (hk : Ok Q B s) :
    Ok Q B (State.loadGo s n r) := by simp (maxDischargeDepth := 12) [State.loadGo, hk]

@[simp] theorem execLoadGo_ok (m : Master) (n r : Nat) (s : State) (hk : Ok Q B s) :
    NextOk Q B (execLoadGo m n r s) := by simp +contextual (maxDischargeDepth := 12) [execLoadGo, *]

@[simp] theorem State.loadAbort_ok (s : State) (n : Nat) (hk : Ok Q B s) :
    Ok Q B (State.loadAbort s n) := by simp [State.loadAbort, hk]

@[simp] theorem execLoadAbort_ok (m : Master) (n : Nat) (s : State) (hk : Ok Q B s) :
    NextOk Q B (execLoadAbort m n s) := by simp +contextual (maxDischargeDepth := 12) [execLoadAbort, *]

@[simp] theorem execLoadStall_ok (n : Nat) (s : State) (hk : Ok Q B s) :
    NextOk Q B (execLoadStall n s) := by simp [execLoadStall, hk]

end Sys2Proof.Machine
end

