-- ==== Sys2Proof/Laws/KeepRgnCmd.lean ====
section
/-! SUPPORT. What the operations of Machine/RgnCmd.lean keep. -/

namespace Sys2Proof.Machine

open Reg

set_option linter.all false

variable {Q : List Instr} {B : Prop}

@[simp] theorem State.haltRegion_ok (s : State) (r : Nat) (hk : Ok Q B s) :
    Ok Q B (State.haltRegion s r) := by simp [State.haltRegion, hk]

@[simp] theorem State.openIfFree_ok (s : State) (r : Nat) (hk : Ok Q B s) :
    Ok Q B (State.openIfFree s r) := by simp [State.openIfFree, hk]

@[simp] theorem State.unhaltRegion_ok (s : State) (r : Nat) (hk : Ok Q B s) :
    Ok Q B (State.unhaltRegion s r) := by simp [State.unhaltRegion, hk]

@[simp] theorem State.leaseWrite_ok (s : State) (r l : Nat) (win : List (Nat × Nat)) (hk : Ok Q B s) :
    Ok Q B (State.leaseWrite s r l win) := by simp [State.leaseWrite, hk]

@[simp] theorem execLeaseWrite_ok (m : Master) (r l : Nat) (win : List (Nat × Nat)) (s : State) (hk : Ok Q B s) :
    NextOk Q B (execLeaseWrite m r l win s) := by simp +contextual (maxDischargeDepth := 12) [execLeaseWrite, *]

@[simp] theorem State.release_ok (s : State) (m : Master) (r : Nat) (hk : Ok Q B s) :
    Ok Q B (State.release s m r) := by
  unfold State.release
  dsimp only
  (repeat' split) <;> simp (maxDischargeDepth := 12) [hk]

@[simp] theorem execRelease_ok (m : Master) (r : Nat) (s : State) (hk : Ok Q B s) :
    NextOk Q B (execRelease m r s) := by simp +contextual (maxDischargeDepth := 12) [execRelease, *]

@[simp] theorem State.slotCleared_ok (s : State) (r : Nat) (hk : Ok Q B s) :
    Ok Q B (State.slotCleared s r) := by simp +contextual (maxDischargeDepth := 12) [State.slotCleared, *]

@[simp] theorem State.clearingEnd_ok (s : State) (r : Nat) (hk : Ok Q B s) :
    Ok Q B (State.clearingEnd s r) := by simp (maxDischargeDepth := 12) [State.clearingEnd, hk]

@[simp] theorem execClearingEnd_ok (r : Nat) (s : State) (hk : Ok Q B s) :
    NextOk Q B (execClearingEnd r s) := by simp [execClearingEnd, hk]

@[simp] theorem State.ownShadow_ok (s : State) (r : Nat) (hk : Ok Q B s) :
    Ok Q B (State.ownShadow s r) := by simp [State.ownShadow, hk]

@[simp] theorem State.afterClose_ok (s : State) (r : Nat) (hk : Ok Q B s) :
    Ok Q B (State.afterClose s r) := by simp [State.afterClose, hk]

@[simp] theorem State.capGated_ok (s : State) (r : Nat) (hk : Ok Q B s) :
    Ok Q B (State.capGated s r) := by simp +contextual (maxDischargeDepth := 12) [State.capGated, *]

@[simp] theorem State.closeDone_ok (s : State) (r : Nat) (delta : List (Nat × Byte)) (hk : Ok Q B s) :
    Ok Q B (State.closeDone s r delta) := by simp +contextual (maxDischargeDepth := 12) [State.closeDone, *]

@[simp] theorem execEnvCloseDone_ok (r : Nat) (delta : List (Nat × Byte)) (s : State) (hk : Ok Q B s) :
    NextOk Q B (execEnvCloseDone r delta s) := by simp [execEnvCloseDone, hk]

@[simp] theorem State.afterOpen_ok (s : State) (r : Nat) (loaded : Bool) (hk : Ok Q B s) :
    Ok Q B (State.afterOpen s r loaded) := by simp (maxDischargeDepth := 12) [State.afterOpen, hk]

@[simp] theorem State.openDone_ok (s : State) (r ns : Nat) (hk : Ok Q B s) :
    Ok Q B (State.openDone s r ns) := by
  unfold State.openDone
  simp +contextual (maxDischargeDepth := 12) [*]
  (repeat' split) <;> simp_all (maxDischargeDepth := 12)

@[simp] theorem execEnvOpenDone_ok (r ns : Nat) (s : State) (hk : Ok Q B s) :
    NextOk Q B (execEnvOpenDone r ns s) := by simp [execEnvOpenDone, hk]

end Sys2Proof.Machine
end

