-- ==== Sys2Proof/Laws/KeepHub.lean ====
section
/-! SUPPORT. What the operations of Machine/Hub.lean keep. -/

namespace Sys2Proof.Machine

open Reg

set_option linter.all false

variable {Q : List Instr} {B : Prop}

@[simp] theorem State.sharedWrite_ok (s : State) (m : Master) (a : Nat) (late : Bool) (act : State → State) (hact : ∀ t, Ok Q B t
    → Ok Q B (act t)) (hk : Ok Q B s) :
    Ok Q B (State.sharedWrite s m a late act) := by
  unfold State.sharedWrite
  (repeat' split) <;> simp +contextual (maxDischargeDepth := 12) [*]

@[simp] theorem State.attnPush_ok (s : State) (m : Master) (v : Nat) (hk : Ok Q B s) :
    Ok Q B (State.attnPush s m v) := by simp [State.attnPush, hk]

@[simp] theorem execHubAttn_ok (m : Master) (v : Nat) (late : Bool) (s : State) (hk : Ok Q B s) :
    NextOk Q B (execHubAttn m v late s) := by simp +contextual (maxDischargeDepth := 12) [execHubAttn, *]

@[simp] theorem State.attnPop_ok (s : State) (hk : Ok Q B s) :
    Ok Q B (State.attnPop s) := by simp [State.attnPop, hk]

@[simp] theorem State.dropPop_ok (s : State) (hk : Ok Q B s) :
    Ok Q B (State.dropPop s) := ⟨hk.1, fun x => ⟨(hk.2 x).1, by
  have := (hk.2 x).2.1
  show (s.drop.entries.drop 1).length ≤ 32
  rw [List.length_drop]; omega, (hk.2 x).2.2⟩⟩

@[simp] theorem State.evqPop_ok (s : State) (hk : Ok Q B s) :
    Ok Q B (State.evqPop s) := ⟨hk.1, fun x => ⟨(hk.2 x).1, (hk.2 x).2.1, by
  have := (hk.2 x).2.2.1
  show (s.ev.fw.drop 1).length ≤ 256
  rw [List.length_drop]; omega, (hk.2 x).2.2.2⟩⟩

@[simp] theorem execHubAttnPop_ok (peek : Bool) (s : State) (hk : Ok Q B s) :
    NextOk Q B (execHubAttnPop peek s) := by simp [execHubAttnPop, hk]

@[simp] theorem execDroplogRead_ok (peek : Bool) (s : State) (hk : Ok Q B s) :
    NextOk Q B (execDroplogRead peek s) := by simp [execDroplogRead, hk]

@[simp] theorem execEvqPop_ok (peek : Bool) (s : State) (hk : Ok Q B s) :
    NextOk Q B (execEvqPop peek s) := by simp [execEvqPop, hk]

@[simp] theorem State.doorbell_ok (s : State) (fn v : Nat) (hk : Ok Q B s) :
    Ok Q B (State.doorbell s fn v) := by simp [State.doorbell, hk]

@[simp] theorem execMbxH2fDb_ok (m : Master) (fn v : Nat) (late : Bool) (s : State) (hk : Ok Q B s) :
    NextOk Q B (execMbxH2fDb m fn v late s) := by simp +contextual (maxDischargeDepth := 12) [execMbxH2fDb, *]

@[simp] theorem State.f2hWrite_ok (s : State) (fn v : Nat) (hk : Ok Q B s) :
    Ok Q B (State.f2hWrite s fn v) := by simp (maxDischargeDepth := 12) [State.f2hWrite, hk]

@[simp] theorem execMbxF2hPiWrite_ok (m : Master) (fn v : Nat) (s : State) (hk : Ok Q B s) :
    NextOk Q B (execMbxF2hPiWrite m fn v s) := by simp +contextual (maxDischargeDepth := 12) [execMbxF2hPiWrite, *]

@[simp] theorem State.msixRaise_ok (s : State) (fn vec : Nat) (hk : Ok Q B s) :
    Ok Q B (State.msixRaise s fn vec) := by simp [State.msixRaise, hk]

@[simp] theorem execHubMsixRaise_ok (m : Master) (fn vec : Nat) (s : State) (hk : Ok Q B s) :
    NextOk Q B (execHubMsixRaise m fn vec s) := by simp +contextual (maxDischargeDepth := 12) [execHubMsixRaise, *]

@[simp] theorem State.msixUnmask_ok (s : State) (fn v : Nat) (hk : Ok Q B s) :
    Ok Q B (State.msixUnmask s fn v) := by simp (maxDischargeDepth := 12) [State.msixUnmask, hk]

@[simp] theorem execMsixUnmask_ok (fn v : Nat) (s : State) (hk : Ok Q B s) :
    NextOk Q B (execMsixUnmask fn v s) := by simp [execMsixUnmask, hk]

@[simp] theorem State.setFlash_ok (s : State) (a : Nat) (b : Byte) (hk : Ok Q B s) :
    Ok Q B (State.setFlash s a b) := by simp [State.setFlash, hk]

@[simp] theorem State.flashErase_ok (s : State) (a n : Nat) (hk : Ok Q B s) :
    Ok Q B (State.flashErase s a n) := by simp [State.flashErase, hk]

@[simp] theorem State.flashProgByte_ok (s : State) (a : Nat) (b : Byte) (hk : Ok Q B s) :
    Ok Q B (State.flashProgByte s a b) := by simp [State.flashProgByte, hk]

@[simp] theorem State.flashProg_ok (s : State) (a : Nat) (y0 : List Byte) (hk : Ok Q B s) :
    Ok Q B (State.flashProg s a y0) := by
  induction y0 generalizing s a with
  | nil => exact hk
  | cons b l ih => exact ih _ _ (State.flashProgByte_ok _ _ _ hk)

@[simp] theorem State.flashFree_ok (s : State) (a n : Nat) (hk : Ok Q B s) :
    Ok Q B (State.flashFree s a n) := by simp +contextual (maxDischargeDepth := 12) [State.flashFree, *]

@[simp] theorem State.f2hPut_ok (s : State) (opc flags tag : Nat) (payload : List Byte) (hk : Ok Q B s) :
    Ok Q B (State.f2hPut s opc flags tag payload) := by simp +contextual (maxDischargeDepth := 12) [State.f2hPut, *]

@[simp] theorem State.recover_ok (s : State) (opc : Nat) (serve : State → State × Option (List Byte)) (hserve : ∀ t, Ok Q B t → Ok
    Q B (serve t).1) (hk : Ok Q B s) :
    Ok Q B (State.recover s opc serve) := by
  unfold State.recover
  simp +contextual (maxDischargeDepth := 12) [*]
  (repeat' split) <;> simp_all (maxDischargeDepth := 12)

@[simp] theorem execPing_ok (s : State) (hk : Ok Q B s) :
    NextOk Q B (execPing s) := by simp [execPing, hk]

@[simp] theorem execRecoveryStatus_ok (s : State) (hk : Ok Q B s) :
    NextOk Q B (execRecoveryStatus s) := by simp [execRecoveryStatus, hk]

@[simp] theorem execFlashErase_ok (failed : Bool) (s : State) (hk : Ok Q B s) :
    NextOk Q B (execFlashErase failed s) := by simp +contextual (maxDischargeDepth := 12) [execFlashErase, *]

@[simp] theorem execFlashProgram_ok (failed : Bool) (s : State) (hk : Ok Q B s) :
    NextOk Q B (execFlashProgram failed s) := by
  unfold execFlashProgram
  rw [NextOk_next]
  refine State.recover_ok _ _ _ (fun t h => ?_) hk
  dsimp only
  split
  · exact Ok_fst _ _ h
  · split
    · exact Ok_fst _ _ (State.flashFree_ok _ _ _ h)
    · have h2 := State.hubRead_ok t (s.recArg 1 + s.recArg 2 * 2 ^ 32) (s.recArg 3) cfgNode h
      split
      · exact Ok_fst _ _ (State.flashProg_ok _ _ _ h2)
      · exact Ok_fst _ _ h2

@[simp] theorem execFlashCrc_ok (s : State) (hk : Ok Q B s) :
    NextOk Q B (execFlashCrc s) := by simp [execFlashCrc, hk]

@[simp] theorem State.setHdma_ok (s : State) (c : Nat) (x : Hdma) (hk : Ok Q B s) :
    Ok Q B (State.setHdma s c x) := by simp [State.setHdma, hk]

@[simp] theorem State.sendStamped_ok (s : State) (p : Packet) (hk : Ok Q B s) :
    Ok Q B (State.sendStamped s p) := by
  unfold State.sendStamped
  (repeat' split) <;> simp (maxDischargeDepth := 12) [hk]

@[simp] theorem State.hdmaNext_ok (s : State) (c : Nat) (hk : Ok Q B s) :
    Ok Q B (State.hdmaNext s c) := by simp [State.hdmaNext, hk]

@[simp] theorem State.hdmaRsp_ok (s : State) (c : Nat) (r : Packet) (hk : Ok Q B s) :
    Ok Q B (State.hdmaRsp s c r) := by simp (maxDischargeDepth := 12) [State.hdmaRsp, hk]

@[simp] theorem State.hdmaGo_ok (s : State) (c lease win dir : Nat) (hk : Ok Q B s) :
    Ok Q B (State.hdmaGo s c lease win dir) := by simp (maxDischargeDepth := 12) [State.hdmaGo, hk]

@[simp] theorem execHdmaGo_ok (m : Master) (c lease win dir : Nat) (s : State) (hk : Ok Q B s) :
    NextOk Q B (execHdmaGo m c lease win dir s) := by simp +contextual (maxDischargeDepth := 12) [execHdmaGo, *]

@[simp] theorem State.hdmaAbort_ok (s : State) (c : Nat) (hk : Ok Q B s) :
    Ok Q B (State.hdmaAbort s c) := by simp [State.hdmaAbort, hk]

@[simp] theorem execHdmaAbort_ok (m : Master) (c : Nat) (s : State) (hk : Ok Q B s) :
    NextOk Q B (execHdmaAbort m c s) := by simp +contextual (maxDischargeDepth := 12) [execHdmaAbort, *]

@[simp] theorem State.hdmaEnd_ok (s : State) (c : Nat) (hk : Ok Q B s) :
    Ok Q B (State.hdmaEnd s c) := by simp (maxDischargeDepth := 12) [State.hdmaEnd, hk]

@[simp] theorem execHdmaEnd_ok (c : Nat) (s : State) (hk : Ok Q B s) :
    NextOk Q B (execHdmaEnd c s) := by simp [execHdmaEnd, hk]

@[simp] theorem State.bspiDone_ok (s : State) (err : Nat) (hk : Ok Q B s) :
    Ok Q B (State.bspiDone s err) := by simp [State.bspiDone, hk]

@[simp] theorem State.bspiGo_ok (s : State) (op cnt : Nat) (hk : Ok Q B s) :
    Ok Q B (State.bspiGo s op cnt) := by simp [State.bspiGo, hk]

@[simp] theorem execBspiRead_ok (m : Master) (cnt : Nat) (s : State) (hk : Ok Q B s) :
    NextOk Q B (execBspiRead m cnt s) := by simp +contextual (maxDischargeDepth := 12) [execBspiRead, *]

@[simp] theorem execBspiProgram_ok (m : Master) (cnt : Nat) (s : State) (hk : Ok Q B s) :
    NextOk Q B (execBspiProgram m cnt s) := by simp +contextual (maxDischargeDepth := 12) [execBspiProgram, *]

@[simp] theorem execBspiErase4k_ok (m : Master) (s : State) (hk : Ok Q B s) :
    NextOk Q B (execBspiErase4k m s) := by simp +contextual (maxDischargeDepth := 12) [execBspiErase4k, *]

@[simp] theorem State.setBspiBuf_ok (s : State) (d : List Byte) (hk : Ok Q B s) :
    Ok Q B (State.setBspiBuf s d) := by simp +contextual (maxDischargeDepth := 12) [State.setBspiBuf, *]

@[simp] theorem State.bspiEnd_ok (s : State) (failed : Bool) (hk : Ok Q B s) :
    Ok Q B (State.bspiEnd s failed) := by
  unfold State.bspiEnd
  (repeat' split) <;> simp [hk]

@[simp] theorem execBspiCmdEnd_ok (failed : Bool) (s : State) (hk : Ok Q B s) :
    NextOk Q B (execBspiCmdEnd failed s) := by simp [execBspiCmdEnd, hk]

end Sys2Proof.Machine
end

