-- ==== Sys2Proof/Laws/KeepDebug.lean ====
section
/-! SUPPORT. What the operations of Machine/Debug.lean keep. -/

namespace Sys2Proof.Machine

open Reg

set_option linter.all false

variable {Q : List Instr} {B : Prop}

@[simp] theorem State.sinkTake_ok (s : State) (r : TraceRec) (hk : Ok Q B s) :
    Ok Q B (State.sinkTake s r) := by simp (maxDischargeDepth := 12) [State.sinkTake, hk]

@[simp] theorem State.traceArrive_ok (s : State) (src : Nat) (em : Bool) (hk : Ok Q B s) :
    Ok Q B (State.traceArrive s src em) := by
  unfold State.traceArrive
  simp +contextual (maxDischargeDepth := 12) [*]
  (repeat' split) <;> simp_all (maxDischargeDepth := 12)

@[simp] theorem execNocTrace_ok (src : Nat) (em : Bool) (s : State) (hk : Ok Q B s) :
    NextOk Q B (execNocTrace src em s) := by simp [execNocTrace, hk]

@[simp] theorem State.sinkTrim_ok (s : State) (hk : Ok Q B s) :
    Ok Q B (State.sinkTrim s) := by simp [State.sinkTrim, hk]

@[simp] theorem State.pinsTake_ok (s : State) (r : TraceRec) (hk : Ok Q B s) :
    Ok Q B (State.pinsTake s r) := by simp [State.pinsTake, hk]

@[simp] theorem State.pinsIdle_ok (s : State) (hk : Ok Q B s) :
    Ok Q B (State.pinsIdle s) := by simp [State.pinsIdle, hk]

@[simp] theorem State.ringTake_ok (s : State) (r : TraceRec) (hk : Ok Q B s) :
    Ok Q B (State.ringTake s r) := by simp +contextual (maxDischargeDepth := 12) [State.ringTake, *]

@[simp] theorem State.outputRecord_ok (s : State) (i : Nat) (hk : Ok Q B s) :
    Ok Q B (State.outputRecord s i) := by
  unfold State.outputRecord
  (repeat' split) <;> simp (maxDischargeDepth := 12) [hk]

@[simp] theorem execTraceOutputRecord_ok (i : Nat) (s : State) (hk : Ok Q B s) :
    NextOk Q B (execTraceOutputRecord i s) := by simp [execTraceOutputRecord, hk]

@[simp] theorem State.outApplied_ok (s : State) (old : Nat) (hk : Ok Q B s) :
    Ok Q B (State.outApplied s old) := by simp [State.outApplied, hk]

@[simp] theorem State.stimRecord_ok (s : State) (src node chan v : Nat) (hk : Ok Q B s) :
    Ok Q B (State.stimRecord s src node chan v) := by simp [State.stimRecord, hk]

@[simp] theorem State.dbgStim_ok (s : State) (m : Master) (core g v : Nat) (hk : Ok Q B s) :
    Ok Q B (State.dbgStim s m core g v) := by
  unfold State.dbgStim
  (repeat' split) <;> simp [hk]

@[simp] theorem execDbgStim_ok (m : Master) (core g v : Nat) (s : State) (hk : Ok Q B s) :
    NextOk Q B (execDbgStim m core g v s) := by simp [execDbgStim, hk]

@[simp] theorem State.napStim_ok (s : State) (r k chan v : Nat) (hk : Ok Q B s) :
    Ok Q B (State.napStim s r k chan v) := by simp [State.napStim, hk]

@[simp] theorem execNapStimSample_ok (r k chan v : Nat) (s : State) (hk : Ok Q B s) :
    NextOk Q B (execNapStimSample r k chan v s) := by simp [execNapStimSample, hk]

@[simp] theorem State.pmcWrite_ok (s : State) (k v : Nat) (hk : Ok Q B s) :
    Ok Q B (State.pmcWrite s k v) := by simp [State.pmcWrite, hk]

@[simp] theorem execPmcSelWrite_ok (m : Master) (k v : Nat) (s : State) (hk : Ok Q B s) :
    NextOk Q B (execPmcSelWrite m k v s) := by simp +contextual (maxDischargeDepth := 12) [execPmcSelWrite, *]

@[simp] theorem State.haltEng_ok (s : State) (e : Nat) (hk : Ok Q B s) :
    Ok Q B (State.haltEng s e) := by simp [State.haltEng, hk]

@[simp] theorem State.haltCore_ok (s : State) (g : Nat) (hk : Ok Q B s) :
    Ok Q B (State.haltCore s g) := by simp [State.haltCore, hk]

@[simp] theorem State.haltEvent_ok (s : State) (ch : Nat) (hk : Ok Q B s) :
    Ok Q B (State.haltEvent s ch) := by
  unfold State.haltEvent
  simp +contextual (maxDischargeDepth := 12) [*]
  (repeat' split) <;> simp_all (maxDischargeDepth := 12)

@[simp] theorem State.brDeliver_ok (s : State) (resv : List Nat) (hk : Ok Q B s) :
    Ok Q B (State.brDeliver s resv) := by simp +contextual (maxDischargeDepth := 12) [State.brDeliver, *]

@[simp] theorem State.bridleWrite_ok (s : State) (m : Master) (a : Nat) (late : Bool) (act : State → State) (hact : ∀ t, Ok Q B t
    → Ok Q B (act t)) (hk : Ok Q B s) :
    Ok Q B (State.bridleWrite s m a late act) := by simp +contextual (maxDischargeDepth := 12) [State.bridleWrite, *]

@[simp] theorem State.brRaiseMask_ok (s : State) (mask : Nat) (hk : Ok Q B s) :
    Ok Q B (State.brRaiseMask s mask) := by simp +contextual (maxDischargeDepth := 12) [State.brRaiseMask, *]

@[simp] theorem execBrRaise_ok (x : BrSrc) (resv : List Nat) (s : State) (hk : Ok Q B s) :
    NextOk Q B (execBrRaise x resv s) := by
  unfold execBrRaise
  (repeat' split) <;> simp +contextual (maxDischargeDepth := 12) [*]

@[simp] theorem State.freeEng_ok (s : State) (e : Nat) (hk : Ok Q B s) :
    Ok Q B (State.freeEng s e) := by simp [State.freeEng, hk]

@[simp] theorem State.freeCore_ok (s : State) (g : Nat) (hk : Ok Q B s) :
    Ok Q B (State.freeCore s g) := by simp [State.freeCore, hk]

@[simp] theorem State.freeRgn_ok (s : State) (r : Nat) (hk : Ok Q B s) :
    Ok Q B (State.freeRgn s r) := by simp [State.freeRgn, hk]

@[simp] theorem State.brClear_ok (s : State) (mask : Nat) (hk : Ok Q B s) :
    Ok Q B (State.brClear s mask) := by simp +contextual (maxDischargeDepth := 12) [State.brClear, *]

@[simp] theorem execBrClear_ok (m : Master) (mask : Nat) (late : Bool) (s : State) (hk : Ok Q B s) :
    NextOk Q B (execBrClear m mask late s) := by simp +contextual (maxDischargeDepth := 12) [execBrClear, *]

@[simp] theorem State.haltOnApplied_ok (s : State) (a : Nat) (hk : Ok Q B s) :
    Ok Q B (State.haltOnApplied s a) := by simp [State.haltOnApplied, hk]

@[simp] theorem State.deferEnd_ok (s : State) (g : Nat) (ended : Bool) (hk : Ok Q B s) :
    Ok Q B (State.deferEnd s g ended) := by simp [State.deferEnd, hk]

@[simp] theorem execHaltDeferExpire_ok (g : Nat) (ended : Bool) (s : State) (hk : Ok Q B s) :
    NextOk Q B (execHaltDeferExpire g ended s) := by simp [execHaltDeferExpire, hk]

@[simp] theorem State.tapSelect_ok (s : State) (code level : Nat) (hk : Ok Q B s) :
    Ok Q B (State.tapSelect s code level) := by simp [State.tapSelect, hk]

@[simp] theorem execTapReset_ok (s : State) (hk : Ok Q B s) :
    NextOk Q B (execTapReset s) := by simp [execTapReset, hk]

@[simp] theorem execExtest_ok (d : List Bool) (s : State) (hk : Ok Q B s) :
    NextOk Q B (execExtest d s) := by simp [execExtest, hk]

@[simp] theorem execIdcode_ok (s : State) (hk : Ok Q B s) :
    NextOk Q B (execIdcode s) := by simp [execIdcode, hk]

@[simp] theorem execSamplePreload_ok (d : List Bool) (s : State) (hk : Ok Q B s) :
    NextOk Q B (execSamplePreload d s) := by simp [execSamplePreload, hk]

@[simp] theorem execBypass_ok (s : State) (hk : Ok Q B s) :
    NextOk Q B (execBypass s) := by simp [execBypass, hk]

end Sys2Proof.Machine
end

