-- ==== Sys2Proof/Laws/KeepBist.lean ====
section
/-! SUPPORT. What the operations of Machine/Bist.lean keep. -/

namespace Sys2Proof.Machine

open Reg

set_option linter.all false

variable {Q : List Instr} {B : Prop}

@[simp] theorem State.updBist_ok (s : State) (g : Bist → Bist) (hk : Ok Q B s) :
    Ok Q B (State.updBist s g) := by simp [State.updBist, hk]

@[simp] theorem State.remap_ok (s : State) (u p : Nat) (hk : Ok Q B s) :
    Ok Q B (State.remap s u p) := by simp [State.remap, hk]

@[simp] theorem State.markBad_ok (s : State) (p : Nat) (hk : Ok Q B s) :
    Ok Q B (State.markBad s p) := by simp (maxDischargeDepth := 12) [State.markBad, hk]

@[simp] theorem State.slicePast_ok (s : State) (d p : Nat) (hk : Ok Q B s) :
    Ok Q B (State.slicePast s d p) := by simp [State.slicePast, hk]

@[simp] theorem State.slicePick_ok (s : State) (d : Nat) (y0 : Nat) (hk : Ok Q B s) :
    Ok Q B (State.slicePick s d y0) := by
  induction y0 generalizing s with
  | zero => exact hk
  | succ n ih =>
    unfold State.slicePick
    dsimp only
    split
    · exact hk
    · exact ih _ (State.slicePast_ok _ _ _ hk)

@[simp] theorem State.sliceStart_ok (s : State) (d : Nat) (hk : Ok Q B s) :
    Ok Q B (State.sliceStart s d) := by
  have h0 := State.applyLive_ok _ BST_SCHED_PERIOD_US (State.applyLive_ok _ BST_CTRL_CLASSES (State.applyLive_ok s BST_CTRL_EN hk))
  have h := State.slicePick_ok _ d 2016 h0
  unfold State.sliceStart
  dsimp only
  split
  · exact h0
  · split <;> simp [h]

@[simp] theorem execBistSliceStart_ok (d : Nat) (s : State) (hk : Ok Q B s) :
    NextOk Q B (execBistSliceStart d s) := by simp [execBistSliceStart, hk]

@[simp] theorem State.unitFresh_ok (s : State) (p : Nat) (hk : Ok Q B s) :
    Ok Q B (State.unitFresh s p) := by simp [State.unitFresh, hk]

@[simp] theorem State.unitCopy_ok (s : State) (p q : Nat) (hk : Ok Q B s) :
    Ok Q B (State.unitCopy s p q) := by simp +contextual (maxDischargeDepth := 12) [State.unitCopy, *]

@[simp] theorem State.startsDue_ok (s : State) (e : Nat) (hk : Ok Q B s) :
    Ok Q B (State.startsDue s e) := by simp [State.startsDue, hk]

@[simp] theorem State.sliceRotate_ok (s : State) (u : Nat) (verified passed : Bool) (hk : Ok Q B s) :
    Ok Q B (State.sliceRotate s u verified passed) := by
  unfold State.sliceRotate
  (repeat' split) <;> simp (maxDischargeDepth := 12) [hk]

@[simp] theorem State.sliceProgram_ok (s : State) (u : Nat) (passed : Bool) (hk : Ok Q B s) :
    Ok Q B (State.sliceProgram s u passed) := by simp +contextual (maxDischargeDepth := 12) [State.sliceProgram, *]

@[simp] theorem State.sliceEnd_ok (s : State) (d : Nat) (verified passed : Bool) (hk : Ok Q B s) :
    Ok Q B (State.sliceEnd s d verified passed) := by simp (maxDischargeDepth := 12) [State.sliceEnd, hk]

@[simp] theorem execBistSliceEnd_ok (d : Nat) (verified passed : Bool) (s : State) (hk : Ok Q B s) :
    NextOk Q B (execBistSliceEnd d verified passed s) := by simp [execBistSliceEnd, hk]

@[simp] theorem execBstMapqWrite_ok (m : Master) (unit : Nat) (s : State) (hk : Ok Q B s) :
    NextOk Q B (execBstMapqWrite m unit s) := by simp +contextual (maxDischargeDepth := 12) [execBstMapqWrite, *]

@[simp] theorem State.bstGo_ok (s : State) (alg unit : Nat) (hk : Ok Q B s) :
    Ok Q B (State.bstGo s alg unit) := by simp [State.bstGo, hk]

@[simp] theorem State.xpWrite_ok (s : State) (m : Master) (a : Nat) (act : State → State) (hact : ∀ t, Ok Q B t → Ok Q B (act t))
    (hk : Ok Q B s) :
    Ok Q B (State.xpWrite s m a act) := by simp +contextual (maxDischargeDepth := 12) [State.xpWrite, *]

@[simp] theorem execBstXpGo_ok (m : Master) (alg unit : Nat) (s : State) (hk : Ok Q B s) :
    NextOk Q B (execBstXpGo m alg unit s) := by simp +contextual (maxDischargeDepth := 12) [execBstXpGo, *]

@[simp] theorem State.ramDestroyed_ok (s : State) (u : Nat) (hk : Ok Q B s) :
    Ok Q B (State.ramDestroyed s u) := by
  unfold State.ramDestroyed
  (repeat' split) <;> simp (maxDischargeDepth := 12) [hk]

@[simp] theorem State.bankDestroyed_ok (s : State) (u : Nat) (hk : Ok Q B s) :
    Ok Q B (State.bankDestroyed s u) := by
  unfold State.bankDestroyed
  (repeat' split) <;> simp +contextual (maxDischargeDepth := 12) [*]

@[simp] theorem State.bstEnd_ok (s : State) (fail : Option Nat) (hk : Ok Q B s) :
    Ok Q B (State.bstEnd s fail) := by
  unfold State.bstEnd
  (repeat' split) <;> simp (maxDischargeDepth := 12) [hk]

@[simp] theorem execBstXpEnd_ok (fail : Option Nat) (s : State) (hk : Ok Q B s) :
    NextOk Q B (execBstXpEnd fail s) := by simp [execBstXpEnd, hk]

end Sys2Proof.Machine
end

