-- ==== Sys2Proof/Laws/KeepMgmtWrite.lean ====
section
/-! SUPPORT. What the operations of Machine/MgmtWrite.lean keep. -/

namespace Sys2Proof.Machine

open Reg

set_option linter.all false

variable {Q : List Instr} {B : Prop}

@[simp] theorem State.quietRefused_ok (s : State) (id : RegId) (ix : List Nat) (hk : Ok Q B s) :
    Ok Q B (State.quietRefused s id ix) := by
  unfold State.quietRefused
  (repeat' split) <;> simp [hk]

@[simp] theorem State.fieldPut_ok (s0 : State) (m : Master) (id : RegId) (ix : List Nat) (a v : Nat) (s : State) (f : FieldSpec)
    (hk : Ok Q B s) :
    Ok Q B (State.fieldPut s0 m id ix a v s f) := by
  unfold State.fieldPut
  simp +contextual (maxDischargeDepth := 12) [*]
  (repeat' split) <;> simp_all (maxDischargeDepth := 12)

@[simp] theorem State.fieldsPut_ok (s : State) (m : Master) (id : RegId) (ix : List Nat) (a v : Nat) (fs : List FieldSpec) (hk :
    Ok Q B s) :
    Ok Q B (State.fieldsPut s m id ix a v fs) := by simp +contextual (maxDischargeDepth := 12) [State.fieldsPut, *]

@[simp] theorem State.plainWrite_ok (s : State) (m : Master) (k : RegKind) (ix : List Nat) (a v : Nat) (hk : Ok Q B s) :
    Ok Q B (State.plainWrite s m k ix a v) := by simp [State.plainWrite, hk]

@[simp] theorem State.expertField_ok (s : State) (id : RegId) (ix : List Nat) (F : Fld) (hk : Ok Q B s) :
    Ok Q B (State.expertField s id ix F) := by
  unfold State.expertField
  (repeat' split) <;> simp (maxDischargeDepth := 12) [hk]

@[simp] theorem State.expertBack_ok (ctrl : Nat) (s : State) (key : Nat) (hk : Ok Q B s) :
    Ok Q B (State.expertBack ctrl s key) := by
  unfold State.expertBack
  simp +contextual (maxDischargeDepth := 12) [*]
  (repeat' split) <;> simp_all (maxDischargeDepth := 12)

@[simp] theorem State.expertOff_ok (s : State) (ctrl : Nat) (hk : Ok Q B s) :
    Ok Q B (State.expertOff s ctrl) := by
  unfold State.expertOff
  (repeat' split) <;> simp +contextual (maxDischargeDepth := 12) [*]

@[simp] theorem State.xsweep_ok (s : State) (hk : Ok Q B s) :
    Ok Q B (State.xsweep s) := by
  unfold State.xsweep
  refine Ok_foldl _ (fun t x h => ?_) _ _ hk
  (repeat' split) <;> simp (maxDischargeDepth := 12) [h]

@[simp] theorem State.ctrlWrite_ok (s : State) (m : Master) (k : RegKind) (ix : List Nat) (a v xp : Nat) (skip : List Nat) (hk :
    Ok Q B s) :
    Ok Q B (State.ctrlWrite s m k ix a v xp skip) := by simp [State.ctrlWrite, hk]

theorem State.hubAct_ok (s : State) (m : Master) (k : RegKind) (ix : List Nat) (a v : Nat) (hk : Ok Q B s) :
    ∀ t, (State.hubAct s m k ix a v) = some t → Ok Q B t := by
  intro t h
  unfold State.hubAct at h
  (repeat' split at h) <;> simp at h <;> (try subst h) <;> simp [hk]

theorem State.clkAct_ok (s : State) (m : Master) (k : RegKind) (ix : List Nat) (a v : Nat) (hk : Ok Q B s) :
    ∀ t, (State.clkAct s m k ix a v) = some t → Ok Q B t := by
  intro t h
  unfold State.clkAct at h
  (repeat' split at h) <;> simp at h <;> (try subst h) <;> simp (maxDischargeDepth := 12) [hk]

theorem State.cfgAct_ok (s : State) (m : Master) (k : RegKind) (ix : List Nat) (a v : Nat) (hk : Ok Q B s) :
    ∀ t, (State.cfgAct s m k ix a v) = some t → Ok Q B t := by
  intro t h
  unfold State.cfgAct at h
  (repeat' split at h) <;> simp at h <;> (try subst h) <;> simp [hk]

theorem State.cmxAct_ok (s : State) (m : Master) (k : RegKind) (ix : List Nat) (a v : Nat) (hk : Ok Q B s) :
    ∀ t, (State.cmxAct s m k ix a v) = some t → Ok Q B t := by
  intro t h
  unfold State.cmxAct at h
  (repeat' split at h) <;> simp at h <;> (try subst h) <;> simp (maxDischargeDepth := 12) [hk]

@[simp] theorem State.arbCtrl_ok (s : State) (b : ArbId) (v : Nat) (hk : Ok Q B s) :
    Ok Q B (State.arbCtrl s b v) := by simp (maxDischargeDepth := 12) [State.arbCtrl, hk]

@[simp] theorem State.vcmaskWrite_ok (s : State) (k p v : Nat) (hk : Ok Q B s) :
    Ok Q B (State.vcmaskWrite s k p v) := by simp [State.vcmaskWrite, hk]

theorem State.nocAct_ok (s : State) (m : Master) (k : RegKind) (ix : List Nat) (a v : Nat) (hk : Ok Q B s) :
    ∀ t, (State.nocAct s m k ix a v) = some t → Ok Q B t := by
  intro t h
  unfold State.nocAct at h
  (repeat' split at h) <;> simp at h <;> (try subst h) <;> simp (maxDischargeDepth := 12) [hk]

@[simp] theorem State.dmaMgmtWrite_ok (s : State) (m : Master) (e c i a v late : Nat) (hk : Ok Q B s) :
    Ok Q B (State.dmaMgmtWrite s m e c i a v late) := by simp [State.dmaMgmtWrite, hk]

theorem State.engAct_ok (s : State) (m : Master) (k : RegKind) (ix : List Nat) (a v aux : Nat) (hk : Ok Q B s) :
    ∀ t, (State.engAct s m k ix a v aux) = some t → Ok Q B t := by
  intro t h
  unfold State.engAct at h
  (repeat' split at h) <;> simp at h <;> (try subst h) <;> simp (maxDischargeDepth := 12) [hk]

theorem State.memAct_ok (s : State) (m : Master) (k : RegKind) (ix : List Nat) (a v : Nat) (hk : Ok Q B s) :
    ∀ t, (State.memAct s m k ix a v) = some t → Ok Q B t := by
  intro t h
  unfold State.memAct at h
  (repeat' split at h) <;> simp at h <;> (try subst h) <;> simp (maxDischargeDepth := 12) [hk]

theorem State.lneAct_ok (s : State) (m : Master) (k : RegKind) (ix : List Nat) (a v : Nat) (hk : Ok Q B s) :
    ∀ t, (State.lneAct s m k ix a v) = some t → Ok Q B t := by
  intro t h
  unfold State.lneAct at h
  (repeat' split at h) <;> simp at h <;> (try subst h) <;> simp (maxDischargeDepth := 12) [hk]

theorem State.mirAct_ok (s : State) (m : Master) (k : RegKind) (ix : List Nat) (a v : Nat) (hk : Ok Q B s) :
    ∀ t, (State.mirAct s m k ix a v) = some t → Ok Q B t := by
  intro t h
  unfold State.mirAct at h
  (repeat' split at h) <;> simp at h <;> (try subst h) <;> simp (maxDischargeDepth := 12) [hk]

@[simp] theorem State.padWrite_ok (s : State) (m : Master) (k : RegKind) (ix : List Nat) (n a v : Nat) (hk : Ok Q B s) :
    Ok Q B (State.padWrite s m k ix n a v) := by simp [State.padWrite, hk]

@[simp] theorem State.outWrite_ok (s : State) (m : Master) (k : RegKind) (ix : List Nat) (w a v : Nat) (hk : Ok Q B s) :
    Ok Q B (State.outWrite s m k ix w a v) := by simp +contextual (maxDischargeDepth := 12) [State.outWrite, *]

theorem State.gpioAct_ok (s : State) (m : Master) (k : RegKind) (ix : List Nat) (a v aux : Nat) (hk : Ok Q B s) :
    ∀ t, (State.gpioAct s m k ix a v aux) = some t → Ok Q B t := by
  intro t h
  unfold State.gpioAct at h
  (repeat' split at h) <;> simp at h <;> (try subst h) <;> simp (maxDischargeDepth := 12) [hk]

theorem State.dbgAct_ok (s : State) (m : Master) (k : RegKind) (ix : List Nat) (a v : Nat) (hk : Ok Q B s) :
    ∀ t, (State.dbgAct s m k ix a v) = some t → Ok Q B t := by
  intro t h
  unfold State.dbgAct at h
  (repeat' split at h) <;> simp at h <;> (try subst h) <;> simp (maxDischargeDepth := 12) [hk]

theorem State.fabAct_ok (s : State) (m : Master) (k : RegKind) (ix : List Nat) (a v : Nat) (hk : Ok Q B s) :
    ∀ t, (State.fabAct s m k ix a v) = some t → Ok Q B t := by
  intro t h
  unfold State.fabAct at h
  (repeat' split at h) <;> simp at h <;> (try subst h) <;> simp (maxDischargeDepth := 12) [hk]

@[simp] theorem State.regAct_ok (s : State) (m : Master) (k : RegKind) (ix : List Nat) (a v aux : Nat) (hk : Ok Q B s) :
    Ok Q B (State.regAct s m k ix a v aux) := by
  unfold State.regAct
  extract_lets x
  have hx : ∀ t, x = some t → Ok Q B t := by
    intro t ht
    simp only [x] at ht
    split at ht
    · exact State.hubAct_ok _ _ _ _ _ _ hk t ht
    · exact State.clkAct_ok _ _ _ _ _ _ hk t ht
    · exact State.clkAct_ok _ _ _ _ _ _ hk t ht
    · exact State.cfgAct_ok _ _ _ _ _ _ hk t ht
    · exact State.cmxAct_ok _ _ _ _ _ _ hk t ht
    · exact State.nocAct_ok _ _ _ _ _ _ hk t ht
    · exact State.engAct_ok _ _ _ _ _ _ _ hk t ht
    · exact State.memAct_ok _ _ _ _ _ _ hk t ht
    · exact State.memAct_ok _ _ _ _ _ _ hk t ht
    · exact State.memAct_ok _ _ _ _ _ _ hk t ht
    · exact State.lneAct_ok _ _ _ _ _ _ hk t ht
    · exact State.lneAct_ok _ _ _ _ _ _ hk t ht
    · exact State.mirAct_ok _ _ _ _ _ _ hk t ht
    · exact State.gpioAct_ok _ _ _ _ _ _ _ hk t ht
    · exact State.dbgAct_ok _ _ _ _ _ _ hk t ht
    · exact State.dbgAct_ok _ _ _ _ _ _ hk t ht
    · exact State.fabAct_ok _ _ _ _ _ _ hk t ht
    · cases ht
  refine State.xsweep_ok _ ?_
  split
  · exact State.arbCtrl_ok _ _ _ hk
  · rename_i t h _; exact hx t ‹_›
  · exact State.plainWrite_ok _ _ _ _ _ _ hk

@[simp] theorem State.rawWrite_ok (s : State) (m : Master) (a v : Nat) (hk : Ok Q B s) :
    Ok Q B (State.rawWrite s m a v) := by simp [State.rawWrite, hk]

@[simp] theorem State.mgmtWrite_ok (s : State) (m : Master) (a v n aux : Nat) (hk : Ok Q B s) :
    Ok Q B (State.mgmtWrite s m a v n aux) := by
  unfold State.mgmtWrite
  (repeat' split) <;> simp +contextual (maxDischargeDepth := 12) [*]

@[simp] theorem execRegisterWrite_ok (m : Master) (a v aux : Nat) (s : State) (hk : Ok Q B s) :
    NextOk Q B (execRegisterWrite m a v aux s) := by simp [execRegisterWrite, hk]

@[simp] theorem State.liveApply_ok (s : State) (a lo : Nat) (hk : Ok Q B s) :
    Ok Q B (State.liveApply s a lo) := by
  unfold State.liveApply
  (repeat' split) <;> simp (maxDischargeDepth := 12) [hk]

@[simp] theorem execLiveFieldApply_ok (a lo : Nat) (s : State) (hk : Ok Q B s) :
    NextOk Q B (execLiveFieldApply a lo s) := by simp [execLiveFieldApply, hk]

end Sys2Proof.Machine
end

