-- ==== Sys2Proof/Laws/KeepMgmtRead.lean ====
section
/-! SUPPORT. What the operations of Machine/MgmtRead.lean keep. -/

namespace Sys2Proof.Machine

open Reg

set_option linter.all false

variable {Q : List Instr} {B : Prop}

@[simp] theorem State.rcClear_ok (s : State) (a : Nat) (fs : List FieldSpec) (hk : Ok Q B s) :
    Ok Q B (State.rcClear s a fs) := by simp +contextual (maxDischargeDepth := 12) [State.rcClear, *]

@[simp] theorem State.readPop_ok (s : State) (id : RegId) (ix : List Nat) (hk : Ok Q B s) :
    Ok Q B (State.readPop s id ix) := by
  unfold State.readPop
  (repeat' split) <;> simp [hk]

@[simp] theorem State.regRead_ok (s : State) (k : RegKind) (ix : List Nat) (a : Nat) (peek : Bool) (hk : Ok Q B s) :
    Ok Q B (State.regRead s k ix a peek).1 := by
  unfold State.regRead
  simp +contextual (maxDischargeDepth := 12) [*]
  (repeat' split) <;> simp_all (maxDischargeDepth := 12)

@[simp] theorem State.rawRead_ok (s : State) (m : Master) (a : Nat) (hk : Ok Q B s) :
    Ok Q B (State.rawRead s m a) := by simp [State.rawRead, hk]

@[simp] theorem State.mgmtRead_ok (s : State) (m : Master) (a n : Nat) (peek : Bool) (hk : Ok Q B s) :
    Ok Q B (State.mgmtRead s m a n peek) := by
  unfold State.mgmtRead
  (repeat' split) <;> simp (maxDischargeDepth := 12) [hk]

@[simp] theorem execRcRead_ok (m : Master) (a : Nat) (s : State) (hk : Ok Q B s) :
    NextOk Q B (execRcRead m a s) := by simp [execRcRead, hk]

@[simp] theorem State.smbRead_ok (s : State) (a : Nat) (hk : Ok Q B s) :
    Ok Q B (State.smbRead s a) := by simp [State.smbRead, hk]

@[simp] theorem execSmbProcessRead_ok (a : Nat) (s : State) (hk : Ok Q B s) :
    NextOk Q B (execSmbProcessRead a s) := by simp [execSmbProcessRead, hk]

@[simp] theorem State.smbWrite_ok (s : State) (a v : Nat) (pecOk : Bool) (hk : Ok Q B s) :
    Ok Q B (State.smbWrite s a v pecOk) := by simp [State.smbWrite, hk]

@[simp] theorem execSmbBlockWrite_ok (a v : Nat) (pecOk : Bool) (s : State) (hk : Ok Q B s) :
    NextOk Q B (execSmbBlockWrite a v pecOk s) := by simp [execSmbBlockWrite, hk]

@[simp] theorem State.smbEvent_ok (s : State) (hk : Ok Q B s) :
    Ok Q B (State.smbEvent s) := by
  unfold State.smbEvent
  split
  · exact State.answer_ok _ _ hk
  · rename_i h
    exact State.answer_ok _ _ (Ok_ev_le s _ hk id fun hb => by
      rw [h] at hb
      exact Nat.le_of_succ_le hb)

@[simp] theorem execSmbEventRead_ok (s : State) (hk : Ok Q B s) :
    NextOk Q B (execSmbEventRead s) := by simp [execSmbEventRead, hk]

@[simp] theorem execSmbStatusRead_ok (s : State) (hk : Ok Q B s) :
    NextOk Q B (execSmbStatusRead s) := by simp [execSmbStatusRead, hk]

@[simp] theorem execSmbAra_ok (s : State) (hk : Ok Q B s) :
    NextOk Q B (execSmbAra s) := by simp [execSmbAra, hk]

@[simp] theorem execSmbTimeout_ok (s : State) (hk : Ok Q B s) :
    NextOk Q B (execSmbTimeout s) := by simp [execSmbTimeout, hk]

@[simp] theorem State.accEnd_ok (s : State) (st v : Nat) (hk : Ok Q B s) :
    Ok Q B (State.accEnd s st v) := by simp [State.accEnd, hk]

@[simp] theorem State.dbgAccess_ok (s : State) (op a v : Nat) (hk : Ok Q B s) :
    Ok Q B (State.dbgAccess s op a v) := by simp [State.dbgAccess, hk]

@[simp] theorem execDbgAccess_ok (op a v : Nat) (s : State) (hk : Ok Q B s) :
    NextOk Q B (execDbgAccess op a v s) := by simp [execDbgAccess, hk]

end Sys2Proof.Machine
end

