-- ==== Sys2Proof/Laws/KeepPcie.lean ====
section
/-! SUPPORT. What the operations of Machine/Pcie.lean keep. -/

namespace Sys2Proof.Machine

open Reg

set_option linter.all false

variable {Q : List Instr} {B : Prop}

@[simp] theorem State.msixTableWrite_ok (s : State) (fn j v : Nat) (hk : Ok Q B s) :
    Ok Q B (State.msixTableWrite s fn j v) := by simp (maxDischargeDepth := 12) [State.msixTableWrite, hk]

@[simp] theorem State.mbxHostWrite_ok (s : State) (fn off v : Nat) (hk : Ok Q B s) :
    Ok Q B (State.mbxHostWrite s fn off v) := by
  unfold State.mbxHostWrite
  (repeat' split) <;> simp +contextual (maxDischargeDepth := 12) [*]

@[simp] theorem State.complete_ok (s : State) (e fn tag : Nat) (st : Cpl) (d : List Byte) (hk : Ok Q B s) :
    Ok Q B (State.complete s e fn tag st d) := by simp [State.complete, hk]

@[simp] theorem State.completeAll_ok (s : State) (e fn tag a len : Nat) (y0 : List (Nat × Nat × List Byte)) (hk : Ok Q B s) :
    Ok Q B (State.completeAll s e fn tag a len y0) := by
  induction y0 generalizing s with
  | nil => exact hk
  | cons x l ih =>
    unfold State.completeAll
    split
    · exact ih _ (State.complete_ok _ _ _ _ _ _ hk)
    · exact ih _ (State.complete_ok _ _ _ _ _ _ hk)
    · exact State.complete_ok _ _ _ _ _ _ hk

@[simp] theorem State.inDone_ok (s : State) (e fn : Nat) (x : Inbound) (hk : Ok Q B s) :
    Ok Q B (State.inDone s e fn x) := by simp [State.inDone, hk]

@[simp] theorem State.inLocal_ok (s : State) (fn : Nat) (x : Inbound) (hk : Ok Q B s) :
    Ok Q B (State.inLocal s fn x).1 := by simp [State.inLocal, hk]

@[simp] theorem State.inSend_ok (s : State) (e fn : Nat) (y0 : Nat) (y1 : Inbound) (hk : Ok Q B s) :
    Ok Q B (State.inSend s e fn y0 y1).1 := by
  induction y0 generalizing s y1 with
  | zero => exact hk
  | succ m ih =>
    unfold State.inSend
    extract_lets node a n l tag p
    split
    · exact hk
    · split
      · exact ih _ _ (State.count_ok _ _ _ hk)
      · exact ih _ _ (State.sendRequest_ok _ _ hk)

@[simp] theorem State.inStep_ok (s : State) (e fn : Nat) (x : Inbound) (hk : Ok Q B s) :
    Ok Q B (State.inStep s e fn x).1 := by simp [State.inStep, hk]

@[simp] theorem State.inGo_ok (s : State) (e fn : Nat) (blocked : Bool) (y0 : List Inbound) (hk : Ok Q B s) :
    Ok Q B (State.inGo s e fn blocked y0).1 := by
  induction y0 generalizing s blocked with
  | nil => exact hk
  | cons x l ih =>
    unfold State.inGo
    dsimp only
    refine ih _ _ ?_
    split
    · exact State.inStep_ok _ _ _ _ hk
    · exact hk

@[simp] theorem State.setInq_ok (s : State) (k : Nat) (l : List Inbound) (hk : Ok Q B s) :
    Ok Q B (State.setInq s k l) := by simp [State.setInq, hk]

@[simp] theorem State.inPump_ok (s : State) (e k : Nat) (hk : Ok Q B s) :
    Ok Q B (State.inPump s e k) := by simp [State.inPump, hk]

@[simp] theorem State.pciPump_ok (s : State) (e : Nat) (hk : Ok Q B s) :
    Ok Q B (State.pciPump s e) := by simp +contextual (maxDischargeDepth := 12) [State.pciPump, *]

@[simp] theorem State.pciRsp_ok (s : State) (e : Nat) (r : Packet) (hk : Ok Q B s) :
    Ok Q B (State.pciRsp s e r) := by simp [State.pciRsp, hk]

@[simp] theorem State.pciInbound_ok (s : State) (e fn tag : Nat) (wr ro : Bool) (bar off n : Nat) (d : List Byte) (be : List Bool)
    (hk : Ok Q B s) :
    Ok Q B (State.pciInbound s e fn tag wr ro bar off n d be) := by
  unfold State.pciInbound
  simp +contextual (maxDischargeDepth := 12) [*]
  (repeat' split) <;> simp_all (maxDischargeDepth := 12)

@[simp] theorem execPcieInbound_ok (e fn tag : Nat) (k : Tlp) (ro : Bool) (bar off n : Nat) (d : List Byte) (be : List Bool)
    (s : State) (hk : Ok Q B s) :
    NextOk Q B (execPcieInbound e fn tag k ro bar off n d be s) := by simp [execPcieInbound, hk]

@[simp] theorem State.owinApply_ok (s : State) (k : Nat) (hk : Ok Q B s) :
    Ok Q B (State.owinApply s k) := by simp (maxDischargeDepth := 12) [State.owinApply, hk]

@[simp] theorem State.outRead_ok (s : State) (e : Nat) (p : Packet) (hk : Ok Q B s) :
    Ok Q B (State.outRead s e p) := by simp [State.outRead, hk]

@[simp] theorem State.owinWrite_ok (s : State) (e : Nat) (p : Packet) (hk : Ok Q B s) :
    Ok Q B (State.owinWrite s e p) := by simp +contextual (maxDischargeDepth := 12) [State.owinWrite, *]

@[simp] theorem State.outServe_ok (s : State) (e : Nat) (p : Packet) (hk : Ok Q B s) :
    Ok Q B (State.outServe s e p) := by
  unfold State.outServe
  (repeat' split) <;> simp [hk]

@[simp] theorem State.outBehind_ok (s : State) (e : Nat) (hk : Ok Q B s) :
    Ok Q B (State.outBehind s e) := by simp +contextual (maxDischargeDepth := 12) [State.outBehind, *]

@[simp] theorem execPcieOutbound_ok (e : Nat) (s : State) (hk : Ok Q B s) :
    NextOk Q B (execPcieOutbound e s) := by
  unfold execPcieOutbound
  simp +contextual (maxDischargeDepth := 12) [*]
  (repeat' split) <;> simp_all (maxDischargeDepth := 12)

@[simp] theorem State.readOver_ok (s : State) (e : Nat) (x : Nat × Packet) (st : Nat) (d : List Byte) (hk : Ok Q B s) :
    Ok Q B (State.readOver s e x st d) := by simp (maxDischargeDepth := 12) [State.readOver, hk]

@[simp] theorem execPcieCpl_ok (e i : Nat) (st : Cpl) (d : List Byte) (s : State) (hk : Ok Q B s) :
    NextOk Q B (execPcieCpl e i st d s) := by
  unfold execPcieCpl
  (repeat' split) <;> simp [hk]

@[simp] theorem execPcieCplTimeout_ok (e i : Nat) (s : State) (hk : Ok Q B s) :
    NextOk Q B (execPcieCplTimeout e i s) := by
  unfold execPcieCplTimeout
  (repeat' split) <;> simp [hk]

@[simp] theorem State.msixFlush_ok (s : State) (fn : Nat) (hk : Ok Q B s) :
    Ok Q B (State.msixFlush s fn) := by simp +contextual (maxDischargeDepth := 12) [State.msixFlush, *]

@[simp] theorem State.pciConfig_ok (s : State) (e fn : Nat) (c : PciCfg) (hk : Ok Q B s) :
    Ok Q B (State.pciConfig s e fn c) := by
  unfold State.pciConfig
  (repeat' split) <;> simp (maxDischargeDepth := 12) [hk]

@[simp] theorem execPcieConfigRequest_ok (e fn : Nat) (c : PciCfg) (s : State) (hk : Ok Q B s) :
    NextOk Q B (execPcieConfigRequest e fn c s) := by simp [execPcieConfigRequest, hk]

end Sys2Proof.Machine
end

