-- ==== Sys2Proof/Laws/KeepNocLate.lean ====
section
/-! SUPPORT. What the operations of Machine/NocLate.lean keep. -/

namespace Sys2Proof.Machine

open Reg

set_option linter.all false

variable {Q : List Instr} {B : Prop}

@[simp] theorem State.hubServe_ok (s : State) (p : Packet) (hk : Ok Q B s) :
    Ok Q B (State.hubServe s p) := by simp [State.hubServe, hk]

@[simp] theorem State.hubServeAll_ok (s : State) (hk : Ok Q B s) :
    Ok Q B (State.hubServeAll s) := by simp +contextual (maxDischargeDepth := 12) [State.hubServeAll, *]

@[simp] theorem execNocRead_ok (p : Packet) (s : State) (hk : Ok Q B s) :
    NextOk Q B (execNocRead p s) := by simp [execNocRead, hk]

@[simp] theorem execNocWrite_ok (p : Packet) (s : State) (hk : Ok Q B s) :
    NextOk Q B (execNocWrite p s) := by simp [execNocWrite, hk]

@[simp] theorem State.rspUse_ok (s : State) (node : Nat) (r : Packet) (hk : Ok Q B s) :
    Ok Q B (State.rspUse s node r) := by
  unfold State.rspUse
  (repeat' split) <;> simp [hk]

@[simp] theorem State.rspEnd_ok (s : State) (opc node tag : Nat) (em : Bool) (hk : Ok Q B s) :
    Ok Q B (State.rspEnd s opc node tag em) := by
  unfold State.rspEnd
  (repeat' split) <;> simp [hk]

@[simp] theorem execReadRsp_ok (node tag : Nat) (em : Bool) (s : State) (hk : Ok Q B s) :
    NextOk Q B (execReadRsp node tag em s) := by simp [execReadRsp, hk]

@[simp] theorem execWriteRsp_ok (node tag : Nat) (em : Bool) (s : State) (hk : Ok Q B s) :
    NextOk Q B (execWriteRsp node tag em s) := by simp [execWriteRsp, hk]

@[simp] theorem State.portsGo_ok (s : State) (hk : Ok Q B s) :
    Ok Q B (State.portsGo s) := by simp +contextual (maxDischargeDepth := 12) [State.portsGo, *]

@[simp] theorem execEpochBoundary_ok (s : State) (hk : Ok Q B s) :
    NextOk Q B (execEpochBoundary s) := by simp (maxDischargeDepth := 12) [execEpochBoundary, hk]

@[simp] theorem State.arbServe_ok (s : State) (a : ArbId) (hk : Ok Q B s) :
    Ok Q B (State.arbServe s a) := by
  unfold State.arbServe
  (repeat' split) <;> simp (maxDischargeDepth := 12) [hk]

@[simp] theorem execArbRequest_ok (a : ArbId) (l : List ArbAsk) (s : State) (hk : Ok Q B s) :
    NextOk Q B (execArbRequest a l s) := by simp [execArbRequest, hk]

@[simp] theorem execArbRequestDrop_ok (a : ArbId) (idx : Nat) (beat : Bool) (s : State) (hk : Ok Q B s) :
    NextOk Q B (execArbRequestDrop a idx beat s) := by simp [execArbRequestDrop, hk]

@[simp] theorem State.nocLend_ok (s : State) (k o i : Nat) (more : Bool) (hk : Ok Q B s) :
    Ok Q B (State.nocLend s k o i more) := by
  unfold State.nocLend
  simp +contextual (maxDischargeDepth := 12) [*]
  (repeat' split) <;> simp_all (maxDischargeDepth := 12)

@[simp] theorem execArbBeatEnd_ok (a : ArbId) (more : Bool) (lent : Option Nat) (s : State) (hk : Ok Q B s) :
    NextOk Q B (execArbBeatEnd a more lent s) := by
  unfold execArbBeatEnd
  (repeat' split) <;> simp [hk]

@[simp] theorem State.pcFenced_ok (s : State) (n port : Nat) (hk : Ok Q B s) :
    Ok Q B (State.pcFenced s n port) := by simp [State.pcFenced, hk]

@[simp] theorem State.biteWaits_ok (s : State) (a : ArbId) (idx : Nat) (hk : Ok Q B s) :
    Ok Q B (State.biteWaits s a idx) := by
  unfold State.biteWaits
  (repeat' split) <;> simp (maxDischargeDepth := 12) [hk]

@[simp] theorem State.biteEnd_ok (s : State) (a : ArbId) (o : ArbReq) (hk : Ok Q B s) :
    Ok Q B (State.biteEnd s a o) := by
  unfold State.biteEnd
  (repeat' split) <;> simp [hk]

@[simp] theorem State.drogueBite_ok (s : State) (a : ArbId) (hk : Ok Q B s) :
    Ok Q B (State.drogueBite s a) := by
  unfold State.drogueBite
  (repeat' split) <;> simp (maxDischargeDepth := 12) [hk]

@[simp] theorem execDrogueBite_ok (a : ArbId) (s : State) (hk : Ok Q B s) :
    NextOk Q B (execDrogueBite a s) := by simp [execDrogueBite, hk]

end Sys2Proof.Machine
end

