-- ==== Sys2Proof/Laws/KeepReset.lean ====
section
/-! SUPPORT. What the operations of Machine/Reset.lean keep. -/

namespace Sys2Proof.Machine

open Reg

set_option linter.all false

variable {Q : List Instr} {B : Prop}

@[simp] theorem State.failOutShow_ok (s : State) (hk : Ok Q B s) :
    Ok Q B (State.failOutShow s) := by simp [State.failOutShow, hk]

@[simp] theorem State.letGo_ok (s : State) (judged : Bool) (hk : Ok Q B s) :
    Ok Q B (State.letGo s judged) := by simp [State.letGo, hk]

@[simp] theorem State.powerOn_ok (s : State) (hk : Ok Q B s) :
    Ok Q B (State.powerOn s) := by simp (maxDischargeDepth := 12) [State.powerOn, hk]

@[simp] theorem State.tryPowerOn_ok (s : State) (hk : Ok Q B s) :
    Ok Q B (State.tryPowerOn s) := by simp [State.tryPowerOn, hk]

@[simp] theorem execPorNRise_ok (mode role : Nat) (s : State) (hk : Ok Q B s) :
    NextOk Q B (execPorNRise mode role s) := by simp [execPorNRise, hk]

@[simp] theorem execPorNFall_ok (s : State) (hk : Ok Q B s) :
    NextOk Q B (execPorNFall s) := by simp [execPorNFall, hk]

@[simp] theorem execResetNAssert_ok (s : State) (hk : Ok Q B s) :
    NextOk Q B (execResetNAssert s) := by simp [execResetNAssert, hk]

@[simp] theorem execResetNRelease_ok (s : State) (hk : Ok Q B s) :
    NextOk Q B (execResetNRelease s) := by simp (maxDischargeDepth := 12) [execResetNRelease, hk]

@[simp] theorem State.bootFieldsReset_ok (s : State) (hk : Ok Q B s) :
    Ok Q B (State.bootFieldsReset s) := by simp +contextual (maxDischargeDepth := 12) [State.bootFieldsReset, *]

@[simp] theorem State.blankCommon_ok (s : State) (hk : Ok Q B s) :
    Ok Q B (State.blankCommon s) := by simp [State.blankCommon, hk]

@[simp] theorem State.bootAbandon_ok (s : State) (n : Nat) (hk : Ok Q B s) :
    Ok Q B (State.bootAbandon s n) := by simp +contextual (maxDischargeDepth := 12) [State.bootAbandon, *]

@[simp] theorem State.abandonAll_ok (s : State) (hk : Ok Q B s) :
    Ok Q B (State.abandonAll s) := by simp +contextual (maxDischargeDepth := 12) [State.abandonAll, *]

@[simp] theorem State.clearAll_ok (s : State) (hk : Ok Q B s) :
    Ok Q B (State.clearAll s) := by simp +contextual (maxDischargeDepth := 12) [State.clearAll, *]

@[simp] theorem State.unlockPins_ok (s : State) (hk : Ok Q B s) :
    Ok Q B (State.unlockPins s) := by simp +contextual (maxDischargeDepth := 12) [State.unlockPins, *]

@[simp] theorem State.progHold_ok (s : State) (hk : Ok Q B s) :
    Ok Q B (State.progHold s) := by simp (maxDischargeDepth := 12) [State.progHold, hk]

@[simp] theorem State.progBoot_ok (s : State) (hk : Ok Q B s) :
    Ok Q B (State.progBoot s) := by simp (maxDischargeDepth := 12) [State.progBoot, hk]

@[simp] theorem execProgNAssert_ok (s : State) (hk : Ok Q B s) :
    NextOk Q B (execProgNAssert s) := by simp [execProgNAssert, hk]

@[simp] theorem execProgNRelease_ok (s : State) (hk : Ok Q B s) :
    NextOk Q B (execProgNRelease s) := by simp [execProgNRelease, hk]

@[simp] theorem execRestart_ok (s : State) (hk : Ok Q B s) :
    NextOk Q B (execRestart s) := by simp (maxDischargeDepth := 12) [execRestart, hk]

@[simp] theorem State.nvShow_ok (s : State) (hk : Ok Q B s) :
    Ok Q B (State.nvShow s) := by simp [State.nvShow, hk]

@[simp] theorem State.seqCheck_ok (s : State) (early : Bool) (hk : Ok Q B s) :
    Ok Q B (State.seqCheck s early) := by simp (maxDischargeDepth := 12) [State.seqCheck, hk]

@[simp] theorem State.nvAbandon_ok (s : State) (hk : Ok Q B s) :
    Ok Q B (State.nvAbandon s) := by
  unfold State.nvAbandon
  simp +contextual (maxDischargeDepth := 12) [*]
  (repeat' split) <;> simp_all (maxDischargeDepth := 12)

@[simp] theorem execSupplyInRange_ok (k : Nat) (early : Bool) (s : State) (hk : Ok Q B s) :
    NextOk Q B (execSupplyInRange k early s) := by simp (maxDischargeDepth := 12) [execSupplyInRange, hk]

@[simp] theorem execSupplyOutOfRange_ok (k : Nat) (floor early : Bool) (s : State) (hk : Ok Q B s) :
    NextOk Q B (execSupplyOutOfRange k floor early s) := by simp (maxDischargeDepth := 12) [execSupplyOutOfRange, hk]

@[simp] theorem State.banksShow_ok (s : State) (hk : Ok Q B s) :
    Ok Q B (State.banksShow s) := by simp [State.banksShow, hk]

@[simp] theorem execBankSupplyLoss_ok (b : Nat) (s : State) (hk : Ok Q B s) :
    NextOk Q B (execBankSupplyLoss b s) := by simp (maxDischargeDepth := 12) [execBankSupplyLoss, hk]

@[simp] theorem execBankSupplyReturn_ok (b level : Nat) (s : State) (hk : Ok Q B s) :
    NextOk Q B (execBankSupplyReturn b level s) := by simp (maxDischargeDepth := 12) [execBankSupplyReturn, hk]

end Sys2Proof.Machine
end

