-- ==== Sys2Proof/Laws/KeepTick.lean ====
section
/-! SUPPORT. What the operations of Machine/Tick.lean keep. -/

namespace Sys2Proof.Machine

open Reg

set_option linter.all false

variable {Q : List Instr} {B : Prop}

@[simp] theorem State.timeTick_ok (s : State) (hk : Ok Q B s) :
    Ok Q B (State.timeTick s) := by simp +contextual (maxDischargeDepth := 12) [State.timeTick, *]

@[simp] theorem State.idleTick_ok (s : State) (hk : Ok Q B s) :
    Ok Q B (State.idleTick s) := by simp (maxDischargeDepth := 12) [State.idleTick, hk]

end Sys2Proof.Machine
end

