-- ==== Sys2Proof/Machine/Board.lean ====
section
/-! DEFINITION. What the board gives the device (18 R452 to R469): supplies and what lies in range, grade limits, pin thresholds,
power increments and ball positions. Voltages are in units of 100 µV, power in mW, lengths in units of 10 µm. -/

namespace Sys2Proof.Machine

/-- Core, analogue and configuration supplies. -/
inductive Rail where
  | aon | hub | fab | eng | sram | ana | anh | cfg
  deriving DecidableEq, Repr

/-- Absolute maximum of a supply; its minimum is −0.3 V (R452). -/
def Rail.rating : Rail → Nat
  | .aon | .eng => 9500
  | .hub | .fab => 9000
  | .sram => 10000
  | .ana => 10500
  | .anh => 14000
  | .cfg => 21000

/-- Min and Max of the range that the supply monitor judges (R453). -/
def Rail.window : Rail → Nat × Nat
  | .aon | .eng => (7760, 8240)
  | .hub => (7275, 7725)
  | .fab => (6980, 7420)
  | .sram => (8245, 8755)
  | .ana => (8820, 9180)
  | .anh => (11760, 12240)
  | .cfg => (17460, 18540)

/-- A supply at v is in range. -/
def Rail.inRange (r : Rail) (v : Nat) : Bool := decide (r.window.1 ≤ v ∧ v ≤ r.window.2)

/-- GPIO_BANKb_STATUS.LEVEL for VCCIO_Gb at v: 1 in the 1.8 V window, 2 in the 3.3 V window, else 0 (R453, 16 R424). -/
def bankLevel (v : Nat) : Nat :=
  if 17100 ≤ v ∧ v ≤ 18900 then 1 else if 31350 ≤ v ∧ v ≤ 34650 then 2 else 0

/-- VIL max and VIH min of a GPIO pin in a bank of the given LEVEL (R458), and of SMB_SCL and SMB_SDA (R459). -/
def padThresholds (level : Nat) : Nat × Nat := if level = 2 then (8000, 20000) else (6300, 11700)
def smbThresholds : Nat × Nat := (5400, 12600)

/-- The level an input at v reads; none between the thresholds, where the spec states none. -/
def inputLevel (t : Nat × Nat) (v : Nat) : Option Bool :=
  if v ≤ t.1 then some false else if t.2 ≤ v then some true else none

/-- Grade limits in MHz: engine clock, regional clock-tree source (R456). -/
def gradeLimit (grade : Nat) : Nat × Nat := if grade = 1 then (1400, 720) else (1600, 800)

/-- Reference clocks in kHz (R457). -/
def refClk : Nat := 100000
def qrefClk : Nat := 156250

/-! ## Power (R463, R464) -/

/-- Units at work: regions, engines, lanes, PCIe endpoints, HBM stacks, encryption engines, NoC quadrants, dies whose tethers run
at full load, and the hub's services. -/
structure Load where
  regions : Nat
  engines : Nat
  lanes : Nat
  endpoints : Nat
  hbmStacks : Nat
  crypto : Nat
  quadrants : Nat
  tethers : Nat
  services : Bool
  deriving DecidableEq, Repr

/-- The most that a load draws at grade -2. -/
def Load.power (l : Load) : Nat :=
  38000 + 4375 * l.regions + 700 * l.engines + 600 * l.lanes + 6400 * l.endpoints + 28800 * l.hbmStacks + 12000 * l.crypto
    + 5500 * l.quadrants + 3725 * l.tethers + (if l.services then 36600 else 0)

/-- Maximum of the whole device by grade (R463). -/
def maxPower (grade : Nat) : Nat := if grade = 1 then 715200 else 760000

/-- The junction's rise above the lid in units of 0.01 °C, at a power in W (R468). -/
def lidRise (w : Nat) : Nat := w

/-- The highest PWR_THERM_STATUS.MAX that the board keeps to, in units of 0.25 °C (R469). -/
def boardMax : Nat := 4 * 95

/-! ## Balls (R465 to R467) -/

def rowLetters : List Char := ['A', 'B', 'C', 'D', 'E', 'F', 'G', 'H', 'J', 'K', 'L', 'M', 'N', 'P', 'T', 'U', 'V', 'W', 'Y']

/-- The name of row i, 1 to 72 (R466). -/
def ballRow (i : Nat) : List Char :=
  let c := rowLetters.getD ((i - 1) % 19) 'A'
  match (i - 1) / 19 with
  | 0 => [c]
  | 1 => ['A', c]
  | 2 => ['B', c]
  | _ => ['C', c]

/-- The centre of the ball in row i and column j, east and north of the body centre (R466). -/
def ballAt (i j : Nat) : Int × Int := ((2 * (j : Int) - 73) * 64, (73 - 2 * (i : Int)) * 64)

/-- The zones of the ball map (R467). -/
inductive Zone where
  | north | south | side | northIo | southIo | core
  deriving DecidableEq, Repr

/-- The zone of the ball in row i and column j. -/
def ballZone (i j : Nat) : Zone :=
  if j ≤ 8 ∨ 65 ≤ j then .side
  else if i ≤ 8 then .north
  else if i ≤ 10 then .northIo
  else if i ≤ 62 then .core
  else if i ≤ 64 then .southIo
  else .south

/-- Balls by function, in the order of R467's table. -/
def ballCounts : List Nat := [2550, 520, 300, 260, 192, 160, 144, 96 + 96, 32, 24, 8 + 8, 576, 12, 96, 72, 14, 24]

end Sys2Proof.Machine
end

