-- ==== Sys2Proof/WellFormed.lean ====
section
/-! DEFINITION. Well-formed commands: every operand that numbers something lies in the range that the spec gives it. exec asks
for no check: a command out of range names no unit of the device. -/

namespace Sys2Proof
open Machine

/-- A device address (40 bits, 01 R25). -/
def okAddr (x : Nat) : Bool := decide (x < 2 ^ 40)

/-- A requester index (07 R189). -/
def okArbIdx (x : Nat) : Bool := decide (x < 128)

/-- A bank of pins. -/
def okBank (x : Nat) : Bool := decide (x < 4)

/-- A one-bit field. -/
def okBit (x : Nat) : Bool := decide (x < 2)

/-- A bit position. -/
def okBsr32 (x : Nat) : Bool := decide (x < 32)

/-- A tether bundle. -/
def okBundle (x : Nat) : Bool := decide (x < 16)

/-- A byte. -/
def okByte (x : Nat) : Bool := decide (x < 256)

/-- A 20-bit count. -/
def okCnt20 (x : Nat) : Bool := decide (x < 2 ^ 20)

/-- A fabric die. -/
def okDie (x : Nat) : Bool := decide (x < 8)

/-- A clock domain. -/
def okDom (x : Nat) : Bool := decide (x < 194)

/-- An engine. -/
def okEngine (x : Nat) : Bool := decide (x < 192)

/-- An epoch. -/
def okEpoch (x : Nat) : Bool := decide (x < 2 ^ 32)

/-- A flit of a packet (06 R157). -/
def okFlit (x : Nat) : Bool := decide (x < 5)

/-- A PCIe function: 0 physical, 1 to 64 virtual. -/
def okFunc (x : Nat) : Bool := decide (x < 65)

/-- A 16-bit number. -/
def okHalf (x : Nat) : Bool := decide (x < 2 ^ 16)

/-- A key slot. -/
def okKey (x : Nat) : Bool := decide (x < 64)

/-- A bitstream key, 1 to 8. -/
def okKeyId (x : Nat) : Bool := decide (x < 9)

/-- A serial lane. -/
def okLane (x : Nat) : Bool := decide (x < 144)

/-- One of four. -/
def okLd (x : Nat) : Bool := decide (x < 4)

/-- A lease number (00 R16). -/
def okLease (x : Nat) : Bool := decide (x < 256)

/-- A node identifier (06 R154). -/
def okNode (x : Nat) : Bool := decide (x < 1024)

/-- A duration. -/
def okNs (x : Nat) : Bool := decide (x < 2 ^ 20)

/-- One of eight. -/
def okOct (x : Nat) : Bool := decide (x < 8)

/-- A flash page. -/
def okPage (x : Nat) : Bool := decide (x < 64)

/-- A pseudo-channel. -/
def okPc (x : Nat) : Bool := decide (x < 128)

/-- A program address. -/
def okPc12 (x : Nat) : Bool := decide (x < 4096)

/-- A pin. -/
def okPin (x : Nat) : Bool := decide (x < 96)

/-- A pair lease. -/
def okPl (x : Nat) : Bool := decide (x < 16)

/-- A PLL. -/
def okPll (x : Nat) : Bool := decide (x < 123)

/-- A router port. -/
def okPort (x : Nat) : Bool := decide (x < 20)

/-- A bit of a frame. -/
def okPos (x : Nat) : Bool := decide (x < 3200)

/-- A power domain. -/
def okPwr (x : Nat) : Bool := decide (x < 176)

/-- A quad. -/
def okQuad (x : Nat) : Bool := decide (x < 36)

/-- A register number of an engine instruction. -/
def okReg6 (x : Nat) : Bool := decide (x < 64)

/-- A region. -/
def okRegion (x : Nat) : Bool := decide (x < 64)

/-- A router. -/
def okRouter (x : Nat) : Bool := decide (x < 64)

/-- A 64-bit number. -/
def okSeq (x : Nat) : Bool := decide (x < 2 ^ 64)

/-- A load slot, 4 for the boot master and JTAG. -/
def okSlot (x : Nat) : Bool := decide (x < 5)

/-- A supply of HUB_SUPPLY.IN_RANGE. -/
def okSupply (x : Nat) : Bool := decide (x < 9)

/-- A NoC TAG (06 R157). -/
def okTag (x : Nat) : Bool := decide (x < 256)

/-- A link width. -/
def okTags (x : Nat) : Bool := decide (x < 32)

/-- One of three. -/
def okTri (x : Nat) : Bool := decide (x < 3)

/-- An engine trio. -/
def okTrio (x : Nat) : Bool := decide (x < 64)

/-- A 4-bit field. -/
def okU (x : Nat) : Bool := decide (x < 16)

/-- A unit number of the self-test (11 R275). -/
def okUnit (x : Nat) : Bool := decide (x < 2 ^ 20)

/-- One of two. -/
def okUnit2 (x : Nat) : Bool := decide (x < 2)

/-- A router port, or 31 for the router itself. -/
def okUnitPort (x : Nat) : Bool := decide (x < 32)

/-- An MSI-X vector. -/
def okVec (x : Nat) : Bool := decide (x < 64)

/-- A bundle wire: signals and spares. -/
def okWire (x : Nat) : Bool := decide (x < 2112)

/-- A 32-bit word. -/
def okWord (x : Nat) : Bool := decide (x < 2 ^ 32)

/-- A route-table position (05 R133). -/
def okXrPos (x : Nat) : Bool := decide (x < 1792)

/-- A master; a tenant requester carries its lease. -/
def Machine.Master.ok : Master → Bool
  | .tenant l i => okLease l && decide (i ≤ 0xFFFF)
  | _ => true

/-- A packet's header fields fit their widths (06 R157). -/
def Machine.Packet.ok (p : Packet) : Bool :=
  okNode p.dst && okNode p.src && okTag p.tag && okLease p.lease && okAddr p.addr && decide (p.bcnt < 512) && decide (p.vc < 4)
    && decide (p.page < 4)

/-- An arbiter that the device has (07 R179). -/
def Machine.ArbId.ok : ArbId → Bool
  | .noc k o => okRouter k && okPort o
  | .pc n => okPc n
  | .eng e m => okEngine e && decide (m < 3)
  | .readback r => okRegion r
  | .tether d => okDie d
  | _ => true

/-- A request at an arbiter: the index of 07 R179, an urgency of 10 R254, a lease, a table set. -/
def Machine.ArbAsk.ok (x : ArbAsk) : Bool := okArbIdx x.idx && decide (x.urg < 4) && okLease x.lease && decide (x.rset < 2)

/-- A heartbeat frame's fields (05 R137): at most 16 wires in RXBAD, one byte a wire in SIG. -/
def Machine.HbFrame.ok (f : HbFrame) : Bool :=
  okHalf f.seq && decide (f.hash < 2 ^ 32) && f.rxbad.all okPc12 && decide (f.rxbad.length ≤ 16) && f.sig.all okByte

/-- What a region's fabric does to its serial port between two bytes (02 R63): no more pops than the FIFO of 16 bytes can
hold. -/
def Machine.SpFabric.ok (f : SpFabric) : Bool := decide (f.pop ≤ 16)

/-- A COND field of four bits (09 R220). -/
def Machine.Issue.ok (i : Issue) : Bool := decide (i.cond < 16)

/-- Widths of the store field (09 R225). -/
def Machine.StoreFld.ok (f : StoreFld) : Bool :=
  decide (f.sd < 8) && decide (f.sw < 4) && decide (f.sa < 4) && decide (f.sr < 4) && decide (f.sn < 4)

/-- Widths of the M-class fields (09 R223). -/
def Machine.MulFld.ok (f : MulFld) : Bool :=
  decide (f.aop < 4) && decide (f.tgt < 4) && decide (f.xsrc < 4) && decide (f.xr < 4) && decide (f.xn < 4) && decide (f.yr < 4)
    && decide (f.yn < 4) && f.st.ok

/-- Widths of the A-class fields (09 R226). -/
def Machine.AccFld.ok (f : AccFld) : Bool := decide (f.ad < 4) && decide (f.as < 4) && decide (f.shamt < 64) && f.st.ok

/-- Widths of the L-class addressing fields (09 R227). -/
def Machine.AddrFld.ok (f : AddrFld) : Bool := decide (f.ms < 4) && decide (f.ar < 4) && decide (f.n < 4)

def Instr.wf : Instr → Bool
  | .registerWrite m a v _ => m.ok && okAddr a && okWord v
  | .rcRead m a => m.ok && okAddr a
  | .liveFieldApply a lo => okAddr a && okBsr32 lo
  | .leaseWrite m r l _ => m.ok && okRegion r && okLease l
  | .release m r => m.ok && okRegion r
  | .clearingEnd r => okRegion r
  | .napDrainTimeout node => okNode node
  | .envGateForce r => okRegion r
  | .envCloseDone r _ => okRegion r
  | .envOpenDone r ns => okRegion r && okNs ns
  | .napHoldTimeout node => okNode node
  | .roscEnable m d n => m.ok && okDie d && okUnit2 n
  | .roscSettled d n => okDie d && okUnit2 n
  | .roscDisable m d n => m.ok && okDie d && okUnit2 n
  | .roscWindowEnd d n cnt => okDie d && okUnit2 n && okCnt20 cnt
  | .flRead m d page => m.ok && okDie d && okPage page
  | .flWrite m d page => m.ok && okDie d && okPage page
  | .flErase m d page => m.ok && okDie d && okPage page
  | .flOpEnd d _ => okDie d
  | .spEnable m d p => m.ok && okDie d && okLd p
  | .spDisable m d p => m.ok && okDie d && okLd p
  | .spDataPush m d p v => m.ok && okDie d && okLd p && okHalf v
  | .spDataPop d p _ => okDie d && okLd p
  | .spRdStart m d p => m.ok && okDie d && okLd p
  | .spByteEnd d p _ _ _ _ fab => okDie d && okLd p && fab.ok
  | .porNRise mode role => okOct mode && okBit role
  | .porNFall => true
  | .resetNAssert => true
  | .resetNRelease => true
  | .progNAssert => true
  | .progNRelease => true
  | .bootWdtExpire => true
  | .shellReady m => m.ok
  | .sspWriteStream _ => true
  | .sspReadStatus => true
  | .sspUnknownCommand code => okByte code
  | .pspWord w => okWord w
  | .cfgSourceData n => okUnit2 n
  | .cfgHeader n => okSlot n
  | .cfgManifest n => okSlot n
  | .far n => okSlot n
  | .bodyWrite n => okSlot n
  | .blank n => okSlot n
  | .multi n => okSlot n
  | .essmap n => okSlot n
  | .loadmem n => okSlot n
  | .cfgNop n => okSlot n
  | .endCmd n => okSlot n
  | .loadGo m n r => m.ok && okLd n && okRegion r
  | .loadAbort m n => m.ok && okLd n
  | .loadStall n => okLd n
  | .cfgVerifyDone n => okSlot n
  | .bkeyWrite m k j v => m.ok && okKeyId k && okOct j && okWord v
  | .checkerSlot d c => okDie d && okRegion c
  | .sweepLateTimer d => okDie d
  | .goldEnSet m => m.ok
  | .goldDieFillEnd d => okDie d
  | .goldValidSet r => okRegion r
  | .upsetInfoRead => true
  | .capLive m => m.ok
  | .capLiveEnd _ => true
  | .capPaused m => m.ok
  | .capExport m => m.ok
  | .capExportEnd => true
  | .capImport m => m.ok
  | .capImportEnd => true
  | .capInject m => m.ok
  | .capQuiesceEnd => true
  | .capQlimExpire => true
  | .capIvhiWrite m v => m.ok && okWord v
  | .heartbeatPeriod => true
  | .heartbeatFrame d b f => okDie d && okBundle b && f.ok
  | .heartbeatMiss d b => okDie d && okBundle b
  | .bundleReelIn m d b wire force => m.ok && okDie d && okBundle b && okPc12 wire && okBit force
  | .bundlePayOut m d b wire force => m.ok && okDie d && okBundle b && okPc12 wire && okBit force
  | .bundleRetrain m d b wire force => m.ok && okDie d && okBundle b && okPc12 wire && okBit force
  | .bundleMaintRetrain m d b wire force => m.ok && okDie d && okBundle b && okPc12 wire && okBit force
  | .bundleMarkBad m d b wire force => m.ok && okDie d && okBundle b && okPc12 wire && okBit force
  | .trainStepOverrun d b => okDie d && okBundle b
  | .trainRetry d b => okDie d && okBundle b
  | .agreeTimeout d b => okDie d && okBundle b
  | .trainEnd d b _ seq _ => okDie d && okBundle b && okHalf seq
  | .dieIsolate m d => m.ok && okDie d
  | .dieAdmit m d => m.ok && okDie d
  | .admitTimeout d => okDie d
  | .dieAdmitEnd d _ => okDie d
  | .routeWrite m d b p valid sd sb sp => m.ok && okDie d && okBundle b && okXrPos p && okBit valid && okDie sd && okBundle sb && okXrPos sp
  | .flitReplay k p _ j _ _ => okRouter k && okPort p && okFlit j
  | .nocRead p => p.ok
  | .nocWrite p => p.ok
  | .nocTrace src _ => okPc12 src
  | .nocMirror p => p.ok
  | .readRsp node tag _ => okNode node && okTag tag
  | .writeRsp node tag _ => okNode node && okTag tag
  | .reservedOpcode p _ => p.ok
  | .creditReturn node vc stall => okNode node && okLd vc && okCnt20 stall
  | .creditLimExpire node => okNode node
  | .portReelIn m k p twin => m.ok && okRouter k && okPort p && twin.all okLd
  | .portPayOut m k p twin => m.ok && okRouter k && okPort p && twin.all okLd
  | .portUnfence m k p => m.ok && okRouter k && okPort p
  | .routerReelIn m k => m.ok && okRouter k
  | .routerPayOut m k => m.ok && okRouter k
  | .selftestEnd k p _ => okRouter k && okUnitPort p
  | .nocSwap m => m.ok
  | .swapCheckEnd => true
  | .epochBoundary => true
  | .setDrainEnd => true
  | .bridgeSideDown k p _ => okRouter k && okPort p
  | .resyncReq k p _ => okRouter k && okPort p
  | .resyncAck k p => okRouter k && okPort p
  | .traceFlushTimer src node => okPc12 src && okNode node
  | .traceSyncTimer k => okRouter k
  | .arbRequest a l => a.ok && l.all ArbAsk.ok
  | .arbBeatEnd a _ lent => a.ok && lent.all okArbIdx
  | .arbRequestDrop a idx _ => a.ok && okArbIdx idx
  | .drogueBite a => a.ok
  | .arbUnfence m a idx => m.ok && a.ok && okArbIdx idx
  | .streamBeat e port d => okEngine e && okLd port && okSeq d
  | .streamFlush m e p => m.ok && okEngine e && okLd p
  | .engNapRequest e => okEngine e
  | .dmaGo m e c => m.ok && okEngine e && okUnit2 c
  | .dmaAbort m e c => m.ok && okEngine e && okUnit2 c
  | .dmaResponse e tag _ => okEngine e && okTag tag
  | .trioPwrReq m t v => m.ok && okTrio t && okTri v
  | .trioPwrEnd t us => okTrio t && okHalf us
  | .trioClearEnd t => okTrio t
  | .engNop e is => okEngine e && is.ok
  | .mac e is f => okEngine e && is.ok && f.ok
  | .cmac e is f => okEngine e && is.ok && f.ok
  | .qmac e is f => okEngine e && is.ok && f.ok
  | .dmac e is f => okEngine e && is.ok && f.ok
  | .pmov e is f => okEngine e && is.ok && f.ok
  | .clr e is f => okEngine e && is.ok && f.ok
  | .adda e is f => okEngine e && is.ok && f.ok
  | .suba e is f => okEngine e && is.ok && f.ok
  | .mova e is f => okEngine e && is.ok && f.ok
  | .nega e is f => okEngine e && is.ok && f.ok
  | .absa e is f => okEngine e && is.ok && f.ok
  | .ash e is f => okEngine e && is.ok && f.ok
  | .cmpa e is f => okEngine e && is.ok && f.ok
  | .tsta e is f => okEngine e && is.ok && f.ok
  | .ldi e is reg imm => okEngine e && is.ok && okReg6 reg && okWord imm
  | .ld e is reg a => okEngine e && is.ok && okReg6 reg && a.ok
  | .st e is reg a => okEngine e && is.ok && okReg6 reg && a.ok
  | .movr e is rd rs => okEngine e && is.ok && okReg6 rd && okReg6 rs
  | .lda e is ad a form => okEngine e && is.ok && okLd ad && a.ok && okLd form
  | .ldai e is ad imm => okEngine e && is.ok && okLd ad && okWord imm
  | .jmp e is target => okEngine e && is.ok && okPc12 target
  | .call e is target => okEngine e && is.ok && okPc12 target
  | .ret e is => okEngine e && is.ok
  | .loop e is count last => okEngine e && is.ok && okHalf count && okPc12 last
  | .loopr e is reg last => okEngine e && is.ok && okReg6 reg && okPc12 last
  | .brk e is => okEngine e && is.ok
  | .halt e is code => okEngine e && is.ok && okByte code
  | .kick e is => okEngine e && is.ok
  | .stim e is reg _ chan imm => okEngine e && is.ok && okReg6 reg && okByte chan && okWord imm
  | .waitd e is mask => okEngine e && is.ok && okLd mask
  | .sig e is code => okEngine e && is.ok && okByte code
  | .engStallRelease e cyc => okEngine e && okNs cyc
  | .engStart m e => m.ok && okEngine e
  | .engStop m e => m.ok && okEngine e
  | .engStep m e cyc => m.ok && okEngine e && okNs cyc
  | .engClrreg m e => m.ok && okEngine e
  | .engStopEnd e => okEngine e
  | .engStallAbandon e => okEngine e
  | .engWdtExpire e => okEngine e
  | .engRegdataWrite m e v => m.ok && okEngine e && okWord v
  | .dmcRequest n => okPc n
  | .dmcQueueEntryFree n => okPc n
  | .dmcMerge n => okPc n
  | .dmcCommandSlot n _ => okPc n
  | .dmcReadChecked n => okPc n
  | .dmcPageTimer n bank _ => okPc n && okReg6 bank
  | .refreshDebtTick n => okPc n
  | .dmcTempRead n t => okPc n && okByte t
  | .selfRefreshEntry n => okPc n
  | .selfRefreshExit n => okPc n
  | .recalTimer n => okPc n
  | .dmcCmdRecal m n => m.ok && okPc n
  | .recalEnd n => okPc n
  | .dmcParityError n kind _ => okPc n && okTri kind
  | .dmcCmdReelIn m n => m.ok && okPc n
  | .dmcCmdPayOut m n => m.ok && okPc n
  | .dmcCmdRetrain m n => m.ok && okPc n
  | .retrainStepOverrun n result => okPc n && okU result
  | .retrainEnd n repairs us => okPc n && okU repairs && okNs us
  | .dmcInitEnd n => okPc n
  | .eccNotifyRead => true
  | .eccMclr m => m.ok
  | .eccInjArm m => m.ok
  | .scrubGo m => m.ok
  | .scrubAbort m => m.ok
  | .scrubWord => true
  | .scrubPassEnd => true
  | .ksInstall m k => m.ok && okKey k
  | .ksInitEnd k => okKey k
  | .ksRetire m k => m.ok && okKey k
  | .ksFlushEnd k => okKey k
  | .ksResume m k => m.ok && okKey k
  | .encRead e => okUnit2 e
  | .encVerifyEnd e _ => okUnit2 e
  | .encWrite e _ inner => okUnit2 e && okU inner
  | .quadCfgWrite m q v => m.ok && okQuad q && okWord v
  | .quadPllRelock q => okQuad q
  | .laneRxRecord n fec _ => okLane n && okTri fec
  | .laneTxWrite q => okQuad q
  | .laneTxSent n => okLane n
  | .laneCdrLoss n => okLane n
  | .eqReload m => m.ok
  | .binEval => true
  | .walkStep n => okLane n
  | .prbsClr m n => m.ok && okLane n
  | .injGo m n => m.ok && okLane n
  | .slip m n => m.ok && okLane n
  | .slipEnd n => okLane n
  | .snap m n => m.ok && okLane n
  | .snapCapture n w => okLane n && okSeq w
  | .pcieInbound e fn tag _ _ bar off n _ _ => okUnit2 e && okFunc fn && okTag tag && okOct bar && okAddr off && okHalf n
  | .pcieOutbound e => okUnit2 e
  | .pcieCpl e _ _ _ => okUnit2 e
  | .pcieCplTimeout e _ => okUnit2 e
  | .pcieLinkLoss e ltssm => okUnit2 e && okOct ltssm
  | .pcieLinkRestore e rate width flit _ => okUnit2 e && okOct rate && okTags width && okBit flit
  | .flrVf fn => okFunc fn
  | .flrPf e => okUnit2 e
  | .mirStart m => m.ok
  | .mirStop m => m.ok
  | .mirCmdSelfFail m => m.ok
  | .mirTrainEnd => true
  | .mirHello _ role => okBit role
  | .mirIdle seq _ _ => okSeq seq
  | .mirIdleTimer => true
  | .mirFrameBad _ => true
  | .mirWlog seq pl epoch off _ => okSeq seq && okByte pl && okEpoch epoch && okAddr off
  | .mirSeed seq pl epoch off _ => okSeq seq && okByte pl && okEpoch epoch && okAddr off
  | .mirImage seq pl epoch rgn off _ => okSeq seq && okByte pl && okEpoch epoch && okRegion rgn && okAddr off
  | .mirEffect seq pl epoch _ => okSeq seq && okByte pl && okEpoch epoch
  | .mirEpochEnd seq epoch wl img eff mask => okSeq seq && okEpoch epoch && okEpoch wl && okEpoch img && okEpoch eff && okSeq mask
  | .mirCommitApplyEnd => true
  | .mirAck seq epoch => okSeq seq && okEpoch epoch
  | .mirRel seq epoch => okSeq seq && okEpoch epoch
  | .mirRetry seq first => okSeq seq && okSeq first
  | .mirGive seq pl => okSeq seq && okByte pl
  | .mirWireTest seq time => okSeq seq && okSeq time
  | .mirWireTestTimer time => okSeq time
  | .mirLossTimer => true
  | .mirLaneLockLoss lane => okBundle lane
  | .mirRetrainEnd => true
  | .mirRetrainTimeout => true
  | .mirEpochTimer => true
  | .mirAckTimeout => true
  | .pairFailInRise => true
  | .takeWinExpire => true
  | .takeoverEnd j => okPl j
  | .plGive m j => m.ok && okPl j
  | .plReseed m j => m.ok && okPl j
  | .judgeWindowEnd c0 c1 => okCnt20 c0 && okCnt20 c1
  | .judgeQuarterEnd c0 c1 => okCnt20 c0 && okCnt20 c1
  | .clkFreqWrite m p f0 f1 => m.ok && okPll p && okPc12 f0 && okPc12 f1
  | .pllLock p => okPll p
  | .pllLockLoss p => okPll p
  | .pllIdleTimer p => okPll p
  | .clockSwitchEnd n w => okDom n && okU w
  | .clockSwitchForce n w => okDom n && okU w
  | .clockSwStallTimer n w => okDom n && okU w
  | .pwrDomReq m n v => m.ok && okPwr n && okLd v
  | .pwrDomEnd n us => okPwr n && okHalf us
  | .thermConversion _ => true
  | .supplyOutOfRange k _ _ => okSupply k
  | .lcAdvance m => m.ok
  | .lcKeyProg m idx => m.ok && okLd idx
  | .lcRevoke m idx => m.ok && okLd idx
  | .lcReturn m => m.ok
  | .lcScrap m => m.ok
  | .lcCmdEnd failed => okLd failed
  | .featCommit m v => m.ok && okWord v
  | .hubAttn m v _ => m.ok && okWord v
  | .hubAttnPop _ => true
  | .droplogRead _ => true
  | .evqPop _ => true
  | .mbxH2fDb m fn v _ => m.ok && okFunc fn && okHalf v
  | .mbxF2hPiWrite m fn v => m.ok && okFunc fn && okHalf v
  | .hubMsixRaise m fn vec => m.ok && okFunc fn && okVec vec
  | .msixUnmask fn v => okFunc fn && okVec v
  | .ping => true
  | .recoveryStatus => true
  | .flashErase _ => true
  | .flashProgram _ => true
  | .flashCrc => true
  | .restart => true
  | .hdmaGo m c lease win dir => m.ok && okLd c && okLease lease && okByte win && okBit dir
  | .hdmaAbort m c => m.ok && okLd c
  | .hdmaEnd c => okLd c
  | .smbProcessRead a => okAddr a
  | .smbBlockWrite a v _ => okAddr a && okWord v
  | .smbEventRead => true
  | .smbStatusRead => true
  | .smbAra => true
  | .smbTimeout => true
  | .bspiRead m cnt => m.ok && okByte cnt
  | .bspiProgram m cnt => m.ok && okByte cnt
  | .bspiErase4k m => m.ok
  | .bspiCmdEnd _ => true
  | .gpioSwitchPark n => okPin n
  | .gpioSwitchConnect n _ _ => okPin n
  | .gpioLockArm m w core => m.ok && okTri w && okLd core
  | .gpioLockMaskWrite m mask => m.ok && okWord mask
  | .gpioLockCommit m w => m.ok && okTri w
  | .gpioLockTimeout => true
  | .bankSupplyLoss b => okBank b
  | .tapReset => true
  | .extest _ => true
  | .idcode => true
  | .samplePreload _ => true
  | .bypass => true
  | .dbgAccess op a v => okLd op && okAddr a && okWord v
  | .cfgLoad w => okWord w
  | .dbgAuthGo m => m.ok
  | .dbgAuthEnd => true
  | .dbgTokenDrop m => m.ok
  | .dbgStim m core g v => m.ok && okLd core && okLd g && okWord v
  | .napStimSample r k chan v => okRegion r && okUnit2 k && okByte chan && okWord v
  | .pmcSelWrite m k v => m.ok && okOct k && okWord v
  | .brRaise _ _ => true
  | .brClear m mask _ => m.ok && okWord mask
  | .haltDeferExpire g _ => okLd g
  | .bistSliceStart d => okDie d
  | .bistSliceEnd d _ _ => okDie d
  | .bstMapqWrite m unit => m.ok && okUnit unit
  | .bstXpGo m alg unit => m.ok && okLd alg && okUnit unit
  | .bstXpEnd _ => true
  | .supplyInRange k _ => okSupply k
  | .bankSupplyReturn b level => okBank b && okTri level
  | .pairFailInFall => true
  | .wireTestRelease => true
  | .wireTestReleaseEnd => true
  | .mirTrainTimeout => true
  | .configurationUpset faddr b => okWord faddr && okPos b
  | .memoryBitError mid row bit => okUnit mid && okSeq row && okPos bit
  | .wireFault d b w => okDie d && okBundle b && okWire w
  | .dieReset d => okDie d
  | .laneCdrLock n => okLane n
  | .pcsBlockLock n => okLane n
  | .prbsLock n _ => okLane n
  | .prbsLockLoss n _ => okLane n
  | .traceOutputRecord i => okUnit2 i
  | .bootFlashData _ => true
  | .pcieConfigRequest e fn _ => okUnit2 e && okFunc fn
  | .pcieLinkReturnToL0 ep _ => okUnit2 ep

end Sys2Proof
end

