-- ==== Sys2Proof/Tests/Slice0.lean ====
section
/-! SUPPORT. Tests: the well-formedness smoke, published vectors of the cryptographic standards, the spec's worked examples, and a
witness for the hypotheses of every statement. -/

set_option linter.all false
set_option Elab.async false

namespace Sys2Proof.Tests

open Sys2Proof Sys2Proof.Machine Sys2Proof.Machine.Reg Sys2Proof.Certificates.Slice0 Sys2Proof.Laws.Commands

/-- A READ request to node 1 from node 0. -/
def pkt1 : Packet := ⟨1, 0, 1, 0, 0, 0, 0, 0, 0, 0, false, 0, false, 0, [], []⟩

/-- A device in recovery whose oldest mailbox message is an empty one of opcode `opc`. -/
def wRec (opc : Nat) : State :=
  let s := State.reset.setFs [(CFG_BOOT_STATUS_RIP, 1), (HUB_STATUS_RECOVERY, 1), (MBX_H2F_DB_PI 0, 1), (MBX_H2F_RING_WORD 0 0, opc)]
  { s with
    pins := { s.pins with progN := true, porN := true, resetN := true, thermTripN := true }
    boot := { s.boot with phase := 5 } }

/-- Slot 2 in HEADER with a header that matches: unsigned, not encrypted, one manifest entry of one frame of region 45, a body
of 8 bytes; the manifest and the body follow. -/
def wHeader : State :=
  (State.reset.setF (CFG_LD_STATUS_STATE 2) 2).setSlot 2 { Slot.empty with
    all := leBytes 4 0x5342584B ++ leBytes 2 1 ++ leBytes 2 0x180 ++ leBytes 2 0x4B58 ++ leBytes 2 0x2400 ++ [0, 255, 2, 0]
      ++ leBytes 8 0 ++ List.replicate 8 255 ++ leBytes 4 1 ++ leBytes 4 8 ++ List.replicate 344 0
      ++ leBytes 4 0xAA400000 ++ leBytes 4 1 ++ leBytes 4 0x0F000000 ++ leBytes 4 1 }

/-- Slot 2 between commands of a body with the given bytes. -/
def wBody (d : List Byte) : State :=
  (wHeader.setF (CFG_LD_STATUS_STATE 2) 4).updSlot 2 fun x =>
    { x with all := x.all.take 0x24 ++ leBytes 4 800 ++ (x.all.drop 0x28).take 352 ++ d ++ List.replicate 400 0, pos := 392 }

/-- Die 5 admitted, GOLD_EN set; the routers, links and controllers of the first stack on the ways from the configuration controller are
LIVE. -/
def wGold : State :=
  State.reset.setFs ((List.range 4).flatMap (fun x => [(NOC_ROUTER_STATUS_STATE (nodeRouter cfgNode / 8 * 8 + x), 1),
      (NOC_PORT_STATUS_STATE (nodeRouter cfgNode / 8 * 8 + x) 3, 1)]) ++
    (List.range 4).flatMap (fun y => [(NOC_ROUTER_STATUS_STATE (8 * y), 1), (NOC_PORT_STATUS_STATE (8 * y) 0, 1)]) ++
    [(NOC_PORT_STATUS_STATE (nodeRouter cfgNode) (nodePort cfgNode), 1), (CMX_DIE_STATUS_STATE 5, 2), (CFG_INTEG_CTRL_GOLD_EN, 1), (CFG_GOLD_BASE_BASE_GIB, 1)] ++
    (List.range 32).flatMap fun n => [(DMC_STATUS_STATE n, 1), (NOC_PORT_STATUS_STATE (nodeRouter (pcNode n)) (nodePort (pcNode n)), 1)])

/-- A frame with the top bit of its check word alone is uncorrectable. -/
theorem frameOutcome_top : frameOutcome 2161 (2 ^ 3199) ≠ .clean := by
  have e : maskFrame 2161 (2 ^ 3199) = 0 := by decide +kernel
  have h1 : frameCrc 0 = 0 := crc16Of_zero 396
  have h2 : framePH 0 = (0, 0) := bitsPH_zero 3168 0
  have h3 : fWord (2 ^ 3199) 99 = 2 ^ 31 := by decide +kernel
  unfold frameOutcome
  simp only [e, h1, h2, h3]
  decide

theorem wGold_path : ∀ n < 32, wGold.hubRefusal cfgNode n = none := by decide +kernel

/-- The same after a stream wrote a frame of region 45. -/
def wGoldR : State := wGold.updInteg fun x => { x with goldWrote := [(45, [devFrames])] }

theorem wGoldR_path : ∀ n < 32, wGoldR.hubRefusal cfgNode n = none := by decide +kernel

/-- An import of region 45 with key 1, all of whose bytes are 0; the record read. -/
def wImport (b : List Byte) : State :=
  ((State.reset.setF CFG_CAP_CTRL_KEY 1).updBoot fun x => { x with bkeyMask := [(1, 255)] }).updCap fun c =>
    { c with op := 4, phase := 1, regions := [45], buf := b }

/-- A record's header. -/
def wRecord : List Byte :=
  leBytes 4 0x5043584B ++ leBytes 2 1 ++ List.replicate 14 0 ++ leBytes 4 65536 ++ List.replicate 104 0

/-- The ciphertext and the tag of a record of zeros. -/
def wCt : List Byte := List.replicate 65536 0
def wTag : List Byte :=
  Crypto.bytesOf (Crypto.gcmTag (List.replicate 32 0) (capIv wRecord) (Crypto.nums wRecord) (Crypto.nums wCt))

theorem xorL_lt (a b : List Nat) (ha : ∀ x ∈ a, x < 2 ^ 8) (hb : ∀ x ∈ b, x < 2 ^ 8) : ∀ x ∈ Crypto.xorL a b, x < 2 ^ 8 := by
  induction a generalizing b with
  | nil => intro x hx; cases b <;> simp [Crypto.xorL] at hx
  | cons p a ih =>
    cases b with
    | nil => intro x hx; simp [Crypto.xorL] at hx
    | cons q b =>
      intro x hx
      have : Crypto.xorL (p :: a) (q :: b) = (p ^^^ q) :: Crypto.xorL a b := rfl
      rw [this] at hx
      rcases List.mem_cons.mp hx with h | h
      · rw [h]; exact Nat.xor_lt_two_pow (ha p (by simp)) (hb q (by simp))
      · exact ih b (fun x hx => ha x (by simp [hx])) (fun x hx => hb x (by simp [hx])) x h

theorem xorL_length (a b : List Nat) : (Crypto.xorL a b).length = min a.length b.length := by
  induction a generalizing b with
  | nil => cases b <;> simp [Crypto.xorL]
  | cons p a ih =>
    cases b with
    | nil => simp [Crypto.xorL]
    | cons q b => simp [Crypto.xorL, ih]

theorem nums_bytesOf (l : List Nat) (h : ∀ x ∈ l, x < 2 ^ 8) : Crypto.nums (Crypto.bytesOf l) = l := by
  induction l with
  | nil => rfl
  | cons a l ih =>
    have h1 : a < 256 := h a (by simp)
    simp only [Crypto.nums, Crypto.bytesOf, List.map_cons] at ih ⊢
    rw [ih (fun x hx => h x (by simp [hx]))]
    simp [Nat.mod_eq_of_lt h1]

theorem beBytes_lt (n v : Nat) : ∀ x ∈ Crypto.beBytes n v, x < 2 ^ 8 := by
  induction n generalizing v with
  | zero => intro x hx; simp [Crypto.beBytes] at hx
  | succ n ih =>
    intro x hx
    rcases List.mem_cons.mp hx with h | h
    · rw [h]; exact Nat.mod_lt _ (by decide)
    · exact ih v x h

theorem beBytes_length (n v : Nat) : (Crypto.beBytes n v).length = n := by
  induction n generalizing v with
  | zero => rfl
  | succ n ih => simp [Crypto.beBytes, ih]

theorem wTag_nums : Crypto.nums wTag = Crypto.gcmTag (List.replicate 32 0) (capIv wRecord) (Crypto.nums wRecord) (Crypto.nums wCt) := by
  refine nums_bytesOf _ (xorL_lt _ _ (beBytes_lt _ _) ?_)
  decide +kernel

theorem wTag_length : wTag.length = 16 := by
  simp only [wTag, Crypto.bytesOf, List.length_map, Crypto.gcmTag]
  rw [xorL_length, beBytes_length]
  decide +kernel

/-- The record of zeros has the form and the tag of a record. -/
theorem wImport_ok :
    let s := wImport (wRecord ++ wCt ++ wTag)
    s.cap.op = 4 ∧ s.cap.regions = [45] ∧ s.bkey (s.f CFG_CAP_CTRL_KEY) = some (List.replicate 32 0) ∧ capFormatOk s.cap.buf = true ∧
    Crypto.gcmTag (List.replicate 32 0) (capIv (s.cap.buf.take 128)) (Crypto.nums (s.cap.buf.take 128))
      (Crypto.nums ((s.cap.buf.drop 128).take (leNat (((s.cap.buf.take 128).drop 0x14).take 4)))) =
      Crypto.nums ((s.cap.buf.drop (128 + leNat (((s.cap.buf.take 128).drop 0x14).take 4))).take 16) := by
  intro s
  have hb : s.cap.buf = wRecord ++ (wCt ++ wTag) := List.append_assoc ..
  have hr : wRecord.length = 128 := by decide +kernel
  have hc : wCt.length = 65536 := List.length_replicate ..
  have h1 : s.cap.buf.take 128 = wRecord := by rw [hb, List.take_left' hr]
  have h2 : s.cap.buf.drop 128 = wCt ++ wTag := by rw [hb, List.drop_left' hr]
  have h3 : leNat ((wRecord.drop 0x14).take 4) = 65536 := by decide +kernel
  refine ⟨rfl, rfl, by decide +kernel, by decide +kernel, ?_⟩
  rw [h1, h3, h2, List.take_left' hc, ← List.drop_drop, h2, List.drop_left' hc, List.take_of_length_le (Nat.le_of_eq wTag_length)]
  exact wTag_nums.symm


/-- Bank 2 of controller 9 at twice the threshold of refresh management. -/
def wActs : Pc := { Pc.empty with acts := [(2, 2 * max 1 Config.rfmThreshold)] }

theorem wActs_due (s : State) (twice : Bool) : s.rfmDue wActs [] twice = some 2 := by
  have e : max 1 Config.rfmThreshold * (if twice = true then 2 else 1) ≤ nget wActs.acts 2 := by
    show max 1 Config.rfmThreshold * (if twice = true then 2 else 1) ≤ 2 * max 1 Config.rfmThreshold
    cases twice
    · show max 1 Config.rfmThreshold * 1 ≤ _
      omega
    · show max 1 Config.rfmThreshold * 2 ≤ _
      omega
  show List.find? _ [2] = some 2
  simp only [List.find?_cons, e, decide_true]
  cases twice <;> rfl

def wMul : MulFld := ⟨0, 0, 0, 0, false, 0, 0, false, 0, ⟨0, 0, 0, 0, false, 0, false⟩⟩
def wAcc : AccFld := ⟨0, 0, 0, ⟨0, 0, 0, 0, false, 0, false⟩⟩

/-! ## Well-formed and ill-formed commands: each check at the largest value it admits, and one above -/

theorem test_wf_okAddr : Instr.wf (.registerWrite .firmware 1099511627775 0 0) = true ∧ Instr.wf (.registerWrite .firmware 1099511627776 0 0) = false := by decide
theorem test_wf_okArbIdx : Instr.wf (.arbRequestDrop (.pc 0) 127 false) = true ∧ Instr.wf (.arbRequestDrop (.pc 0) 128 false) = false := by decide
theorem test_wf_okBank : Instr.wf (.bankSupplyLoss 3) = true ∧ Instr.wf (.bankSupplyLoss 4) = false := by decide
theorem test_wf_okBit : Instr.wf (.porNRise 0 1) = true ∧ Instr.wf (.porNRise 0 2) = false := by decide
theorem test_wf_okBsr32 : Instr.wf (.liveFieldApply 0 31) = true ∧ Instr.wf (.liveFieldApply 0 32) = false := by decide
theorem test_wf_okBundle : Instr.wf (.heartbeatFrame 0 15 ⟨0, 0, [], [], [], []⟩) = true ∧ Instr.wf (.heartbeatFrame 0 16 ⟨0, 0, [], [], [], []⟩) = false := by decide
theorem test_wf_okByte : Instr.wf (.sspUnknownCommand 255) = true ∧ Instr.wf (.sspUnknownCommand 256) = false := by decide
theorem test_wf_okCnt20 : Instr.wf (.roscWindowEnd 0 0 1048575) = true ∧ Instr.wf (.roscWindowEnd 0 0 1048576) = false := by decide
theorem test_wf_okDie : Instr.wf (.roscEnable .firmware 7 0) = true ∧ Instr.wf (.roscEnable .firmware 8 0) = false := by decide
theorem test_wf_okDom : Instr.wf (.clockSwitchEnd 193 0) = true ∧ Instr.wf (.clockSwitchEnd 194 0) = false := by decide
theorem test_wf_okEngine : Instr.wf (.streamBeat 191 0 0) = true ∧ Instr.wf (.streamBeat 192 0 0) = false := by decide
theorem test_wf_okEpoch : Instr.wf (.mirWlog 0 0 4294967295 0 []) = true ∧ Instr.wf (.mirWlog 0 0 4294967296 0 []) = false := by decide
theorem test_wf_okFlit : Instr.wf (.flitReplay 0 0 false 4 0 false) = true ∧ Instr.wf (.flitReplay 0 0 false 5 0 false) = false := by decide
theorem test_wf_okFunc : Instr.wf (.pcieInbound 0 64 0 .read false 0 0 0 [] []) = true ∧ Instr.wf (.pcieInbound 0 65 0 .read false 0 0 0 [] []) = false := by decide
theorem test_wf_okHalf : Instr.wf (.spDataPush .firmware 0 0 65535) = true ∧ Instr.wf (.spDataPush .firmware 0 0 65536) = false := by decide
theorem test_wf_okKey : Instr.wf (.ksInstall .firmware 63) = true ∧ Instr.wf (.ksInstall .firmware 64) = false := by decide
theorem test_wf_okKeyId : Instr.wf (.bkeyWrite .firmware 8 0 0) = true ∧ Instr.wf (.bkeyWrite .firmware 9 0 0) = false := by decide
theorem test_wf_okLane : Instr.wf (.laneRxRecord 143 0 []) = true ∧ Instr.wf (.laneRxRecord 144 0 []) = false := by decide
theorem test_wf_okLd : Instr.wf (.spEnable .firmware 0 3) = true ∧ Instr.wf (.spEnable .firmware 0 4) = false := by decide
theorem test_wf_okLease : Instr.wf (.leaseWrite .firmware 0 255 []) = true ∧ Instr.wf (.leaseWrite .firmware 0 256 []) = false := by decide
theorem test_wf_okNode : Instr.wf (.napDrainTimeout 1023) = true ∧ Instr.wf (.napDrainTimeout 1024) = false := by decide
theorem test_wf_okNs : Instr.wf (.envOpenDone 0 1048575) = true ∧ Instr.wf (.envOpenDone 0 1048576) = false := by decide
theorem test_wf_okOct : Instr.wf (.porNRise 7 0) = true ∧ Instr.wf (.porNRise 8 0) = false := by decide
theorem test_wf_okPage : Instr.wf (.flRead .firmware 0 63) = true ∧ Instr.wf (.flRead .firmware 0 64) = false := by decide
theorem test_wf_okPc : Instr.wf (.dmcRequest 127) = true ∧ Instr.wf (.dmcRequest 128) = false := by decide
theorem test_wf_okPc12 : Instr.wf (.bundleReelIn .firmware 0 0 4095 0) = true ∧ Instr.wf (.bundleReelIn .firmware 0 0 4096 0) = false := by decide
theorem test_wf_okPin : Instr.wf (.gpioSwitchPark 95) = true ∧ Instr.wf (.gpioSwitchPark 96) = false := by decide
theorem test_wf_okPl : Instr.wf (.takeoverEnd 15) = true ∧ Instr.wf (.takeoverEnd 16) = false := by decide
theorem test_wf_okPll : Instr.wf (.clkFreqWrite .firmware 122 0 0) = true ∧ Instr.wf (.clkFreqWrite .firmware 123 0 0) = false := by decide
theorem test_wf_okPort : Instr.wf (.flitReplay 0 19 false 0 0 false) = true ∧ Instr.wf (.flitReplay 0 20 false 0 0 false) = false := by decide
theorem test_wf_okPos : Instr.wf (.configurationUpset 0 3199) = true ∧ Instr.wf (.configurationUpset 0 3200) = false := by decide
theorem test_wf_okPwr : Instr.wf (.pwrDomReq .firmware 175 0) = true ∧ Instr.wf (.pwrDomReq .firmware 176 0) = false := by decide
theorem test_wf_okQuad : Instr.wf (.quadCfgWrite .firmware 35 0) = true ∧ Instr.wf (.quadCfgWrite .firmware 36 0) = false := by decide
theorem test_wf_okReg6 : Instr.wf (.ldi 0 ⟨0, 1⟩ 63 0) = true ∧ Instr.wf (.ldi 0 ⟨0, 1⟩ 64 0) = false := by decide
theorem test_wf_okRegion : Instr.wf (.leaseWrite .firmware 63 0 []) = true ∧ Instr.wf (.leaseWrite .firmware 64 0 []) = false := by decide
theorem test_wf_okRouter : Instr.wf (.flitReplay 63 0 false 0 0 false) = true ∧ Instr.wf (.flitReplay 64 0 false 0 0 false) = false := by decide
theorem test_wf_okSeq : Instr.wf (.streamBeat 0 0 18446744073709551615) = true ∧ Instr.wf (.streamBeat 0 0 18446744073709551616) = false := by decide
theorem test_wf_okSlot : Instr.wf (.cfgHeader 4) = true ∧ Instr.wf (.cfgHeader 5) = false := by decide
theorem test_wf_okSupply : Instr.wf (.supplyOutOfRange 8 false false) = true ∧ Instr.wf (.supplyOutOfRange 9 false false) = false := by decide
theorem test_wf_okTag : Instr.wf (.readRsp 0 255 false) = true ∧ Instr.wf (.readRsp 0 256 false) = false := by decide
theorem test_wf_okTags : Instr.wf (.pcieLinkRestore 0 0 31 0 []) = true ∧ Instr.wf (.pcieLinkRestore 0 0 32 0 []) = false := by decide
theorem test_wf_okTri : Instr.wf (.trioPwrReq .firmware 0 2) = true ∧ Instr.wf (.trioPwrReq .firmware 0 3) = false := by decide
theorem test_wf_okTrio : Instr.wf (.trioPwrReq .firmware 63 0) = true ∧ Instr.wf (.trioPwrReq .firmware 64 0) = false := by decide
theorem test_wf_okU : Instr.wf (.retrainStepOverrun 0 15) = true ∧ Instr.wf (.retrainStepOverrun 0 16) = false := by decide
theorem test_wf_okUnit : Instr.wf (.bstMapqWrite .firmware 1048575) = true ∧ Instr.wf (.bstMapqWrite .firmware 1048576) = false := by decide
theorem test_wf_okUnit2 : Instr.wf (.roscEnable .firmware 0 1) = true ∧ Instr.wf (.roscEnable .firmware 0 2) = false := by decide
theorem test_wf_okUnitPort : Instr.wf (.selftestEnd 0 31 false) = true ∧ Instr.wf (.selftestEnd 0 32 false) = false := by decide
theorem test_wf_okVec : Instr.wf (.hubMsixRaise .firmware 0 63) = true ∧ Instr.wf (.hubMsixRaise .firmware 0 64) = false := by decide
theorem test_wf_okWire : Instr.wf (.wireFault 0 0 2111) = true ∧ Instr.wf (.wireFault 0 0 2112) = false := by decide
theorem test_wf_okWord : Instr.wf (.registerWrite .firmware 0 4294967295 0) = true ∧ Instr.wf (.registerWrite .firmware 0 4294967296 0) = false := by decide
theorem test_wf_okXrPos : Instr.wf (.routeWrite .firmware 0 0 1791 0 0 0 0) = true ∧ Instr.wf (.routeWrite .firmware 0 0 1792 0 0 0 0) = false := by decide

theorem test_wf_master : Instr.wf (.goldEnSet (.tenant 255 0)) = true ∧ Instr.wf (.goldEnSet (.tenant 256 0)) = false ∧
    Instr.wf (.goldEnSet (.tenant 0 0x10000)) = false := by decide
theorem test_wf_packet : Instr.wf (.nocRead pkt1) = true ∧ Instr.wf (.nocRead { pkt1 with dst := 1024 }) = false ∧
    Instr.wf (.nocRead { pkt1 with src := 1024 }) = false ∧ Instr.wf (.nocRead { pkt1 with tag := 1024 }) = false ∧
    Instr.wf (.nocRead { pkt1 with lease := 256 }) = false ∧ Instr.wf (.nocRead { pkt1 with addr := 2 ^ 40 }) = false ∧
    Instr.wf (.nocRead { pkt1 with bcnt := 512 }) = false ∧ Instr.wf (.nocRead { pkt1 with vc := 4 }) = false ∧
    Instr.wf (.nocRead { pkt1 with page := 4 }) = false := by decide
theorem test_wf_arbiter : Instr.wf (.drogueBite (.noc 63 19)) = true ∧ Instr.wf (.drogueBite (.noc 64 0)) = false ∧
    Instr.wf (.drogueBite (.noc 0 20)) = false ∧ Instr.wf (.drogueBite (.pc 128)) = false ∧ Instr.wf (.drogueBite (.eng 192 0)) = false ∧
    Instr.wf (.drogueBite (.eng 0 3)) = false ∧ Instr.wf (.drogueBite (.readback 64)) = false ∧
    Instr.wf (.drogueBite (.tether 8)) = false := by decide
theorem test_wf_link_width : Instr.wf (.pcieLinkRestore 0 1 31 0 []) = true ∧ Instr.wf (.pcieLinkRestore 0 1 32 0 []) = false := by decide
theorem test_wf_issue : Instr.wf (.engNop 0 ⟨15, 1⟩) = true ∧ Instr.wf (.engNop 0 ⟨16, 1⟩) = false := by decide
theorem test_wf_store_field : wMul.st.ok = true ∧ (⟨8, 0, 0, 0, false, 0, false⟩ : StoreFld).ok = false ∧
    (⟨0, 4, 0, 0, false, 0, false⟩ : StoreFld).ok = false ∧ (⟨0, 0, 4, 0, false, 0, false⟩ : StoreFld).ok = false ∧
    (⟨0, 0, 0, 4, false, 0, false⟩ : StoreFld).ok = false ∧ (⟨0, 0, 0, 0, false, 4, false⟩ : StoreFld).ok = false := by decide
theorem test_wf_multiply_fields : Instr.wf (.mac 0 ⟨0, 1⟩ wMul) = true ∧ Instr.wf (.mac 0 ⟨0, 1⟩ { wMul with aop := 4 }) = false ∧
    { wMul with tgt := 4 }.ok = false ∧ { wMul with xsrc := 4 }.ok = false ∧ { wMul with xr := 4 }.ok = false ∧
    { wMul with xn := 4 }.ok = false ∧ { wMul with yr := 4 }.ok = false ∧ { wMul with yn := 4 }.ok = false := by decide
theorem test_wf_accumulator_fields : Instr.wf (.adda 0 ⟨0, 1⟩ wAcc) = true ∧ Instr.wf (.adda 0 ⟨0, 1⟩ { wAcc with ad := 4 }) = false ∧
    { wAcc with as := 4 }.ok = false ∧ { wAcc with shamt := 64 }.ok = false := by decide
theorem test_wf_address_fields : Instr.wf (.ld 0 ⟨0, 1⟩ 0 ⟨3, 3, false, 3⟩) = true ∧ Instr.wf (.ld 0 ⟨0, 1⟩ 0 ⟨4, 0, false, 0⟩) = false ∧
    Instr.wf (.ld 0 ⟨0, 1⟩ 0 ⟨0, 4, false, 0⟩) = false ∧ Instr.wf (.ld 0 ⟨0, 1⟩ 0 ⟨0, 0, false, 4⟩) = false := by decide

/-! ## The queue, and words -/

theorem test_no_word : decodeTableWord 0 0 = none ∧ decodeTableWord 32 0x12345678 = none := by decide
theorem test_step_front : step { State.reset with pending := [.resetNRelease, .porNFall] } =
    exec .resetNRelease { State.reset with pending := [.porNFall] } := rfl
theorem test_step_idle : step State.reset = .next State.reset.idleTick := rfl

/-! ## Published vectors: FIPS 180-4 (SHA-384 of "abc"), FIPS 197 (AES-256, appendix C.3), the check value of CRC-32 -/

set_option maxRecDepth 100000 in
theorem test_sha384 : Crypto.sha384 [0x61, 0x62, 0x63] = Crypto.beBytes 48
    0xcb00753f45a35e8bb5a03d699ac65007272c32ab0eded1631a8b605a43ff5bed8086072ba1e7cc2358baeca134c825a7 := by decide +kernel
theorem test_aes256 : Crypto.aesEnc (List.range 32) (Crypto.beBytes 16 0x00112233445566778899aabbccddeeff) =
    Crypto.beBytes 16 0x8ea2b7ca516745bfeafc49904b496089 ∧
    Crypto.aesDec (List.range 32) (Crypto.beBytes 16 0x8ea2b7ca516745bfeafc49904b496089) =
    Crypto.beBytes 16 0x00112233445566778899aabbccddeeff := by decide +kernel
theorem test_gcm : Crypto.gcmSeal (List.replicate 32 0) (List.replicate 12 0) [] (List.replicate 16 0) =
    (Crypto.beBytes 16 0xcea7403d4d606b6e074ec5d3baf39d18, Crypto.beBytes 16 0xd0d1c8a799996bf0265b98b5d48ab919) := by decide +kernel
theorem test_crc32 : Crypto.crc32 [0x31, 0x32, 0x33, 0x34, 0x35, 0x36, 0x37, 0x38, 0x39] = 0xCBF43926 := by decide +kernel

/-- The answer of a command. -/
def ans (i : Instr) (s : State) : Option Resp :=
  match exec i s with | .next t => some t.resp | _ => none

/-- Something of the state after a command. -/
def after {α : Type} (i : Instr) (s : State) (g : State → α) : Option α :=
  match exec i s with | .next t => some (g t) | _ => none

/-- The reset state with some fields set. -/
def st (l : List (Fld × Nat)) : State := State.reset.setFs l

/-- A register as firmware reads it. -/
def reads (s : State) (a : Nat) : Option Resp := ans (.rcRead .firmware a) s

/-- A write of firmware, and something of the state after it. -/
def fw {α : Type} (a v : Nat) (s : State) (g : State → α) : Option α := after (.registerWrite .firmware a v 0) s g

/-! ## Worked examples of the spec: expected values are the spec's own -/

/-- 01, worked example: the lease of region 45 is written at 0xF0_0000_04B4. -/
theorem test_lease_write : fw 0xF0000004B4 0x00270000 State.reset (fun t => t.f (HUB_RGN_STATE_LEASE 45)) = some 0x27 := by decide +kernel
/-- 01, worked example: the same write while the region is LOADING is ignored and sets FIELD_BUSY. -/
theorem test_lease_busy : fw 0xF0000004B4 0x00270000 (st [(HUB_RGN_STATE_STATE 45, 1)])
    (fun t => (t.f HUB_STATUS_FIELD_BUSY, t.f (HUB_RGN_STATE_LEASE 45))) = some (1, 0) := by decide +kernel
/-- 01, worked example: region 45 attaches at N(3,6); NAP 5.10 is node 0x1E0. -/
theorem test_nap_node : routerOf 45 = 8 * 6 + 3 ∧ napNode 45 0 = 0x1E0 := by decide
/-- 02, worked example: FAB_RGN_ENV_STATUS after step 6 of the release, and after step 8. -/
theorem test_env_status : reads (st [(FAB_RGN_ENV_STATUS_CAUSE 5 5, 3), (FAB_RGN_ENV_STATUS_STEP 5 5, 5), (FAB_RGN_ENV_STATUS_SEAM 5 5, 9),
    (FAB_RGN_ENV_STATUS_SRC 5 5, 0), (FAB_RGN_ENV_STATUS_OPEN 5 5, 0)]) 0xF015150000 = some (.ok 0x00030590) ∧
    reads (st [(FAB_RGN_ENV_STATUS_CAUSE 5 5, 3), (FAB_RGN_ENV_STATUS_STEP 5 5, 5), (FAB_RGN_ENV_STATUS_SEAM 5 5, 0),
    (FAB_RGN_ENV_STATUS_SRC 5 5, 0), (FAB_RGN_ENV_STATUS_OPEN 5 5, 0)]) 0xF015150000 = some (.ok 0x00030500) := by decide +kernel
/-- 03, worked example: CFG_LD0_CTRL = 0x002D_0001 is GO for region 45, which becomes LOADING. -/
theorem test_load_go : after (.registerWrite .firmware 0xF003000100 0x002D0001 0) (st [(CFG_LD_LEN_LEN 0, 0x00493FD4)])
    (fun t => (t.rState 45, t.f (CFG_LD_CTRL_TARGET 0))) = some (1, 45) := by decide +kernel
/-- 03, worked example: the frame of INIT[3] of cell 5 in the cluster of column 13, row 70; 04: its region index. -/
theorem test_frame_address : farIndex 0xAA036001 = some (rgnBase 45 + 2161) ∧ indexFar (rgnBase 45 + 2161) = 0xAA036001 := by decide +kernel
/-- 03, worked example: the start of manifest entry 2 in region 45. -/
theorem test_frame_ram : farIndex 0xAA400000 = some (rgnBase 45 + 30720) := by decide +kernel
set_option maxRecDepth 100000 in
/-- 04, worked example: one flipped bit 614 of a clean frame is SINGLE at that bit. -/
theorem test_frame_single : frameOutcome (rgnBase 45 + 2161) 0 = .clean ∧ frameOutcome (rgnBase 45 + 2161) (2 ^ 614) = .single 614 := by decide +kernel
/-- 04, worked example: CFG_UPSET_INFO of that upset. -/
theorem test_upset_info : reads (st [(CFG_UPSET_INFO_VALID, 1), (CFG_UPSET_INFO_CLASS, 1), (CFG_UPSET_INFO_KIND, 0), (CFG_UPSET_INFO_BIT, 614)])
    CFG_UPSET_INFO = some (.ok 0x90000266) := by decide +kernel
/-- 04, worked example: CFG_BAL_45 of a paused, consistent image with SEQ 1. -/
theorem test_ballast : reads (st [(CFG_BAL_VALID 45, 1), (CFG_BAL_PAUSED 45, 1), (CFG_BAL_CONSISTENT 45, 1), (CFG_BAL_SEQ 45, 1)]) (CFG_BAL 45) =
    some (.ok 0xE0000001) := by decide +kernel
/-- 04, worked example: the IV of the export on device A (serial 0x0000_00A1_7C40_0B12, COUNTER 0x0000_0009_0000_0005). -/
theorem test_export_iv : capIv (List.replicate 8 0 ++ leBytes 8 0xA17C400B12 ++ List.replicate 8 0 ++ leBytes 8 0x900000005) =
    [0x12, 0x0B, 0x40, 0x7C, 0x05, 0, 0, 0, 0x09, 0, 0, 0] := by decide +kernel
/-- 05, worked example: the route of crossing wire 100 of bundle 2.2, written at 0xF0_0424_3990. -/
theorem test_route : fw 0xF004243990 0xDB000002 (st [(CMX_DIE_STATUS_STATE 5, 2), (CMX_DIE_STATUS_STATE 2, 2), (HUB_RGN_STATE_LEASE 45, 0x27), (HUB_RGN_STATE_LEASE 17, 0x27),
    (CMX_B_STATUS_STATE 5 11, 3), (CMX_B_STATUS_STATE 2 2, 3)])
    (fun t => (t.f (CMX_XR_SRC_DIE 2 2 100), t.f (CMX_XR_SRC_BUNDLE 2 2 100), t.f (CMX_XR_SRC_POS 2 2 100))) = some (5, 11, 2) := by decide +kernel
/-- 06, worked example: the slot-0 entry of output W of N(3,6) in set 1 is at 0xF0_051C_E180. -/
theorem test_slot_entry : fw 0xF0051CE180 0x80000007 State.reset (fun t => (t.f (NOC_SLOT_VALID 51 1 3 0), t.f (NOC_SLOT_IN_PORT 51 1 3 0))) =
    some (1, 7) := by decide +kernel
/-- 06, worked example: PC40 is node 0x055; 10: PC58 is node 0x077; 12: the quad NAP of Q13 is node 0x08D. -/
theorem test_nodes : pcNode 40 = 0x055 ∧ pcNode 58 = 0x077 ∧ quadNode 13 = 0x08D := by decide
/-- 08, worked example: CMAC into A0:A1, with FRAC, from X[XA0] and Y[YA1]. -/
def cmacState : State :=
  (st [(ENG_STATUS_STATE 45 1, 1)]).updEng 136 fun g => { g with
    regs := [(0, 0x105), (5, 0x203), (8, 22), (13, 4), (16, 2 ^ 30 + 0x100 * 2 ^ 14 + 0x117), (21, 2 ^ 31 + 0x200 * 2 ^ 14 + 0x207)]
    acc := [(0, 0x003FFF8000), (1, 0x0000018000)]
    x := [(0x105, 0xC0004000)], y := [(0x203, 0x20006000)] }
theorem test_cmac : after (.cmac 136 ⟨0, 1⟩ ⟨0, 0, 0, 0, true, 0, 1, true, 1, ⟨0, 0, 0, 0, false, 0, false⟩⟩) cmacState
    (fun t => (nget (t.engAt 136).acc 0, nget (t.engAt 136).acc 1)) = some (0x007FFF8000, 0xFFE0018000) := by decide +kernel
/-- 08, worked example: the address registers after the reads. -/
theorem test_cmac_addresses : after (.cmac 136 ⟨0, 1⟩ ⟨0, 0, 0, 0, true, 0, 1, true, 1, ⟨0, 0, 0, 0, false, 0, false⟩⟩) cmacState
    (fun t => (nget (t.engAt 136).regs 0, nget (t.engAt 136).regs 5)) = some (0x103, 0x207) := by decide +kernel
/-- 08, worked example: the complex 16-bit store of A0:A1 to X word 0x0120, which saturates the real half and sets MS. -/
theorem test_complex_store : after (.pmov 136 ⟨0, 1⟩ ⟨0, 0, 0, 0, false, 0, 0, false, 0, ⟨1, 2, 0, 3, false, 0, false⟩⟩)
    (cmacState.updEng 136 fun g => { g with acc := [(0, 0x007FFF8000), (1, 0xFFE0018000)], regs := [(3, 0x120)] })
    (fun t => ((t.engAt 136).word 0 0x120, t.f (ENG_DP_FLAGS_MS 45 1))) = some (0xE0027FFF, 1) := by decide +kernel
/-- 09, worked example: words of the FIR program. -/
theorem test_fir_words : decodeEng 0x801000004000007F = .ldi 16 0x4000007F ∧ decodeEng 0x800800000000FFFF = .ldi 8 0xFFFF ∧
    decodeEng 0xCC00000400000018 = .loop 64 24 ∧ decodeEng 0x9028000000000000 = .lda 2 ⟨2, 0, false, 0⟩ 0 ∧
    decodeEng 0x40100008B8000000 = .clr ⟨1, 0, 0, ⟨1, 0, 1, 1, true, 2, false⟩⟩ ∧
    decodeEng 0x0C00210000000000 = .qmac ⟨0, 0, 0, 0, true, 0, 0, true, 0, ⟨0, 0, 0, 0, false, 0, false⟩⟩ ∧
    decodeEng 0x1400281B00000000 = .pmov ⟨0, 0, 0, 0, true, 1, 0, false, 0, ⟨3, 1, 2, 0, false, 0, false⟩⟩ ∧
    decodeEng 0xD800000000000001 = .halt 1 := by decide +kernel
/-- 09, worked example: words of the butterfly stage. -/
theorem test_fft_words : decodeEng 0x9000080000000000 = .lda 0 ⟨0, 0, false, 0⟩ 1 ∧
    decodeEng 0x9010900000000000 = .lda 1 ⟨0, 0, true, 0⟩ 2 ∧
    decodeEng 0x4C20000CD0000000 = .mova ⟨2, 0, 0, ⟨1, 2, 1, 2, true, 0, false⟩⟩ ∧
    decodeEng 0x0814610C70000000 = .cmac ⟨1, 1, 0, 1, true, 0, 0, true, 0, ⟨1, 2, 0, 3, true, 0, false⟩⟩ ∧
    decodeEng 0x0800400000000000 = .cmac ⟨0, 0, 0, 1, false, 0, 0, false, 0, ⟨0, 0, 0, 0, false, 0, false⟩⟩ := by decide +kernel
/-- 10, worked example: HBM 0x09_1234_5640 under MAP 0 and MAP 1. -/
theorem test_hbm_map : mapAddr 0 0x0912345640 = (58, 0x91A240) ∧ mapAddr 1 0x0912345640 = (31, 0x12246840) := by decide
/-- 11, worked example: SEC_LOG0_INFO and SEC_K9_STATUS of the late alarm. -/
theorem test_sec_words : reads (st [(SEC_LOG_INFO_VALID 0, 1), (SEC_LOG_INFO_KIND 0, 0), (SEC_LOG_INFO_KEY 0, 9), (SEC_LOG_INFO_SRC 0, 0x1E0),
    (SEC_LOG_INFO_TAG 0, 0x2A)]) (SEC_LOG_INFO 0) = some (.ok 0x825E02A0) ∧
    reads (st [(SEC_K_STATUS_AUTHFAIL 9, 1), (SEC_K_STATUS_STATE 9, 3)]) 0xF007001250 = some (.ok 0x00010003) := by decide +kernel
/-- 12, worked example: LNE_Q13_CFG = 0x2706_1A86. -/
theorem test_quad_cfg : reads (st [(LNE_Q_CFG_LEASE 13, 0x27), (LNE_Q_CFG_RAW_MBD 13, 25000), (LNE_Q_CFG_RATE 13, 6)]) 0xF008100D00 =
    some (.ok 0x27061A86) := by decide +kernel
/-- 12, worked example: LNE_SLIP after 12 slips and a snapshot. -/
theorem test_slip_word : reads (st [(LNE_SLIP_POS 52, 12), (LNE_SLIP_SLIP_DONE 52, 1), (LNE_SLIP_SNAP_VALID 52, 1)]) (LNE_SLIP 52) =
    some (.ok 0xCC) := by decide +kernel
/-- 13, worked example: MIR_RGN45 = 0x4314_0000. -/
theorem test_mirror_region : fw (MIR_RGN 45) 0x43140000 State.reset
    (fun t => (t.f (MIR_RGN_MODE 45), t.f (MIR_RGN_PL 45), t.f (MIR_RGN_PEER 45))) = some (1, 3, 20) := by decide +kernel
/-- 14, worked example: CLK_DOM91_STATUS after a forced switch of the root to region PLL output 1. -/
theorem test_domain_status : reads (st [(CLK_DOM_STATUS_FORCED 91, 1), (CLK_DOM_STATUS_WHERE 91, 31), (CLK_DOM_STATUS_LOST_OLD 91, 15),
    (CLK_DOM_STATUS_SRC_NOW 91, 1), (CLK_DOM_STATUS_SW 91, 0)]) 0xF0020032DC = some (.ok 0x081F0F10) := by decide +kernel
/-- 15, worked example: FEAT_CAP0 (BST_EXPERT not offered outside FACTORY and RETURN, 17 R449) and FEAT_CAP1. -/
theorem test_features : reads (st [(HUB_LC_STATE_STATE, 1)]) (FEAT_CAP 0) = some (.ok 0xFFFF) ∧ reads State.reset (FEAT_CAP 1) = some (.ok 0xB) := by decide +kernel
/-- 15, worked example: the host's write of CFG_CTRL, owned by firmware, is dropped and logged. -/
theorem test_drop_log : after (.registerWrite .host 0xF003000000 1 0) State.reset (fun t => (t.dropInfo, t.f CFG_CTRL_XP_ENABLE)) =
    some (0x8800F000, 0) := by decide +kernel
theorem test_drop_addr : after (.registerWrite .host 0xF003000000 1 0) State.reset (fun t => reads t 0xF000000060) = some (some (.ok 0x03000000)) := by decide +kernel
/-- 15, worked example: the bytes of NAP_FENCED for region 45. -/
theorem test_event_bytes : (⟨.NAP_FENCED, true, 0x27, 45, 0x12345678, 7⟩ : EvRec).toBytes =
    [0x00, 0x05, 0x06, 0x27, 0x2D, 0x00, 0x78, 0x56, 0x34, 0x12, 0x00, 0x00, 0x07, 0x00, 0x00, 0x00] := by decide +kernel
/-- 16, worked example: GPIO_PIN29_PAD at 0xF0_0B00_01E8, and GPIO_RMAP45_2 at 0xF0_0B00_15A8. -/
theorem test_pad : fw 0xF00B0001E8 0x0000822B State.reset (fun t => t.f (GPIO_PIN_PAD_MGMT_EN 29)) = some 1 ∧
    fw 0xF00B0015A8 0x8000001D State.reset (fun t => (t.f (GPIO_RMAP_EN 45 2), t.f (GPIO_RMAP_PIN 45 2))) = some (1, 29) := by decide +kernel
/-- 16, worked example: the third lock write locks pin 29. -/
theorem test_lock : after (.gpioLockCommit .firmware 0) ((st [(GPIO_LOCK_STATUS_STEP, 2)]).updGpio fun g => { g with word := 0, mask := 0x20000000 })
    (fun t => t.f (GPIO_LOCKED_BITS 0)) = some 0x20000000 := by decide +kernel
/-- 17, worked example: DBG_BR_ENG136 = 0x0008_0113 halts on channel 3 and raises channel 3 on an exception. -/
theorem test_bridle_engine : fw 0xF00C000A20 0x00080113 State.reset
    (fun t => (t.f (DBG_BR_ENG_HALT_ON 136), t.f (DBG_BR_ENG_ON 136), t.f (DBG_BR_ENG_RAISE_EN 136), t.f (DBG_BR_ENG_RAISE_CH 136))) =
    some (8, 1, 1, 3) := by decide +kernel
/-- 17, worked example, step 7: a watchdog with less than 4,096 ticks resumes at 4,096, one with more keeps its count. -/
theorem test_halt_release : after (.brClear .debug 8 false) ((st [(DBG_BR_STATE_CH, 8), (DBG_STATUS_LEVEL, 2), (DBG_BR_ENG_HALT_ON 135, 8),
    (DBG_BR_ENG_HALT_ON 137, 8), (ENG_STATUS_STATE 45 0, 4), (ENG_STATUS_STATE 45 2, 4), (ENG_WDT_EN 45 0, 1), (ENG_WDT_EN 45 2, 1),
    (ENG_WDT_COUNT_COUNT 45 0, 2000), (ENG_WDT_COUNT_COUNT 45 2, 10000)]))
    (fun t => (t.engState 135, t.f (ENG_WDT_COUNT_COUNT 45 0), t.engState 137, t.f (ENG_WDT_COUNT_COUNT 45 2))) = some (1, 4096, 1, 10000) := by decide +kernel
/-- 18, worked example: a load and its maximum power at grade -2. -/
theorem test_load_power : (⟨40, 60, 24, 2, 2, 1, 2, 5, true⟩ : Load).power = 418025 := by decide
/-- 18, worked example: ball BK37 lies 0.64 mm east and 14.72 mm south of the centre, in the core zone. -/
theorem test_ball : ballRow 48 = ['B', 'K'] ∧ ballAt 48 37 = (64, -1472) ∧ ballZone 48 37 = .core := by decide

/-! ## Witnesses: for every statement with hypotheses, states and operands that meet them together, clause by clause -/

theorem test_stepRunsTheFrontCommand :
    (State.reset.pending = []) :=
  by decide +kernel
theorem test_everyStepKeepsTheInvariant :
    (State.reset.Inv) :=
  by decide +kernel
theorem test_refusedCommandsDoOnlyTheCheck :
    (commandRegister (.pmcSelWrite .host 3 0) = some (.host, DBG_PMC_SEL 3) ∧ State.reset.gate .host (DBG_PMC_SEL 3) ≠ .pass) :=
  by decide +kernel
theorem test_theAccessCheckFollowsTheOwner :
    (ownerFld (NOC_PORT_CTRL 3 5) = some NOC_CTRL_OWNER ∧ State.reset.f NOC_CTRL_OWNER = Master.num .firmware) ∧
    (ownerFld (FAB_SP_CTRL 7 3) = some (FAB_DIE_CTRL_OWNER 7) ∧ 0xF010000000 ≤ FAB_SP_CTRL 7 3 ∧ dieIsolated (State.reset.setF (CMX_DIE_STATUS_STATE 7) 3) ((FAB_SP_CTRL 7 3 - 0xF010000000) / 0x1000000) = true) ∧
    (0xF010000000 ≤ FAB_SP_CTRL 0 0 ∧ dieIsolated State.reset ((FAB_SP_CTRL 0 0 - 0xF010000000) / 0x1000000) = false) ∧
    (State.reset.drop.entries.length < 32) :=
  by and_intros <;> decide +kernel
theorem test_accessesOutsideRegistersAreRefused :
    (isHbm (NOC_CTRL + 2) = false ∧ blockOf (NOC_CTRL + 2) = some .NOC ∧ (NOC_CTRL + 2) % 4 ≠ 0) ∧
    (isHbm 0xF000FFFFFC = false ∧ blockOf 0xF000FFFFFC = some .HUB ∧ 0xF000FFFFFC % 4 = 0 ∧ decodeReg 0xF000FFFFFC = none) ∧
    (blockOf 0xF010000001 = some .FAB ∧ dieIsolated State.reset ((0xF010000001 - 0xF010000000) / 0x1000000) = false) ∧
    (State.reset.xback = [] ∧ isHbm 0xF000FFFFFC = false ∧ State.reset.xsweep = State.reset ∧ dieIsolated State.reset.xsweep 0 = false) ∧
    (isHbm 0x2400000000 = false ∧ blockOf 0x2400000000 = none ∧ blockOf 0xF018000000 = none) :=
  by and_intros <;> decide +kernel
theorem test_isolatedDieWindowsAnswerErrors :
    (dieIsolated (State.reset.setF (CMX_DIE_STATUS_STATE 7) 3) 7 = true ∧ dieIsolated (State.reset.setF (CMX_DIE_STATUS_STATE 7) 3).xsweep 7 = true ∧ 0xF010000000 + 7 * 0x1000000 ≤ FAB_SP_CTRL 7 3 ∧ FAB_SP_CTRL 7 3 < 0xF010000000 + 8 * 0x1000000) ∧
    (blockOf (CMX_DIE_STATUS 7) = some .CMX ∧ CMX_DIE_STATUS 7 % 4 = 0 ∧ (decodeReg (CMX_DIE_STATUS 7)).isSome = true) :=
  by and_intros <;> decide +kernel
theorem test_fieldsFollowTheirTypeAndClass :
    (((State.reset.setF (HUB_HDMA_STATUS_BUSY 3) 1).quietBusy .HDMA_LEN [3]) = true ∧ State.reset.quietBusy .HDMA_LEN [3] = false ∧ fieldStore .HDMA_LEN 0 8 = some 8) ∧
    ((State.reset.setF HUB_STATUS_COMMITTED 1).committed = true ∧ State.reset.committed = false ∧ fieldStore .PWR_THERM_CFG 8 200 = some 125) :=
  by and_intros <;> decide +kernel
theorem test_registerWritesJudgeEachField :
    (State.reset.gate .firmware PWR_THERM_CFG = .pass ∧ State.reset.committed = false) ∧
    ((State.reset.setF HUB_STATUS_COMMITTED 1).gate .firmware PWR_THERM_CFG = .pass ∧ (State.reset.setF HUB_STATUS_COMMITTED 1).committed = true ∧ 0x7800 / 2 ^ 8 % 2 ^ 8 ≠ (State.reset.setF HUB_STATUS_COMMITTED 1).f PWR_THERM_CFG_TRIP_C) ∧
    (State.reset.gate .firmware (HDMA_LEN 2) = .pass ∧ State.reset.bit (HUB_HDMA_STATUS_BUSY 2) = false ∧ 8 % 2 ^ 32 ≠ State.reset.f (HDMA_LEN_LEN 2)) ∧
    ((State.reset.setF (HUB_HDMA_STATUS_BUSY 2) 1).gate .firmware (HDMA_LEN 2) = .pass ∧ (State.reset.setF (HUB_HDMA_STATUS_BUSY 2) 1).bit (HUB_HDMA_STATUS_BUSY 2) = true ∧ 8 % 2 ^ 32 ≠ (State.reset.setF (HUB_HDMA_STATUS_BUSY 2) 1).f (HDMA_LEN_LEN 2)) :=
  by and_intros <;> decide +kernel
theorem test_registerReadsReturnAndClear :
    (nget State.reset.xsweep.latch CFG_INTEG_STATUS = 0) :=
  by decide +kernel
theorem test_hbmReadsAsItWasWritten :
    ([true, false].length = [(1 : Byte), 2].length) :=
  by decide +kernel
theorem test_regionLeaseAndReleaseCommands :
    (let s := State.reset; let m := Master.firmware; let r := 45; let l := 7; s.gate m (HUB_RGN_STATE r) = .pass ∧ s.rState r = 0 ∧ l ≠ s.lease r ∧ l ≠ 0) ∧
    (let s := State.reset.setFs [(HUB_RGN_STATE_LEASE 45, 7)]; let m := Master.firmware; let r := 45; s.gate m (HUB_RGN_STATE r) = .pass ∧ s.rState r = 0 ∧ s.lease r ≠ 0) ∧
    (let s := State.reset.setFs [(HUB_RGN_STATE_STATE 45, 2)]; let m := Master.firmware; let r := 45; s.gate m (HUB_RGN_STATE r) = .pass ∧ s.rState r ≠ 0) ∧
    (let s := State.reset.setFs [(HUB_RGN_STATE_STATE 45, 2)]; let m := Master.firmware; let r := 45; s.gate m (HUB_RGN_STATE r) = .pass ∧ (s.rState r = 2 ∨ s.rState r = 3)) ∧
    (let s := State.reset.setFs [(HUB_RGN_STATE_STATE 45, 4)]; let m := Master.firmware; let r := 45; s.gate m (HUB_RGN_STATE r) = .pass ∧ s.rState r = 4) ∧
    (let s := State.reset.setFs [(HUB_RGN_STATE_STATE 45, 5)]; let m := Master.firmware; let r := 45; s.gate m (HUB_RGN_STATE r) = .pass ∧ (s.rState r = 0 ∨ s.rState r = 5)) ∧
    (let s := State.reset; let r := 45; s.envMoves r = false ∧ s.underCapture r = false) ∧
    (let s := State.reset.setFs [(FAB_RGN_ENV_STATUS_STEP 5 5, 1)]; let r := 45; (s.envMoves r = true ∨ s.underCapture r = true)) :=
  by and_intros <;> decide +kernel
theorem test_envelopeAndClearingCommands :
    (let s := State.reset.setFs [(FAB_RGN_ENV_STATUS_STEP 5 5, 2)]; let r := 45; let delta := ([] : List (Nat × Byte)); 1 ≤ s.envStep r ∧ s.envStep r ≤ 4 ∧ s.cap.gated.contains r = false ∧ s.capHolds r = false) ∧
    (let s := (State.reset.setF (FAB_RGN_ENV_STATUS_STEP 5 5) 2).updCap fun c => { c with op := 2, phase := 2, regions := [45], left := [45] }; let r := 45; let delta := ([] : List (Nat × Byte)); 1 ≤ s.envStep r ∧ s.envStep r ≤ 4 ∧ s.cap.gated.contains r = false ∧ s.capHolds r = true) ∧
    (let s := State.reset.setFs [(FAB_RGN_ENV_STATUS_STEP 5 5, 6)]; let r := 45; s.envStep r = 6 ∧ s.openingSlot r = none ∧ (s.envOpened r).underCapture r = false) ∧
    (let s := State.reset.setFs [(FAB_RGN_ENV_STATUS_STEP 5 5, 6), (CFG_LD_STATUS_STATE 2, 6), (CFG_LD_CTRL_TARGET 2, 45)]; let r := 45; let n := 2; s.envStep r = 6 ∧ s.openingSlot r = some n ∧ ((s.envOpened r).loadOpened n).underCapture r = false) ∧
    (let s := State.reset.setFs [(FAB_RGN_ENV_STATUS_STEP 0 0, 1)]; let node := 1; let r := 0; let k := 1; unitOf node = .fabricNap r k ∧ (s.envStep r = 1 ∨ s.envStep r = 2)) ∧
    (let s := State.reset.setFs [(FAB_RGN_ENV_STATUS_STEP 5 5, 1)]; let r := 45; (s.envStep r = 1 ∨ s.envStep r = 2)) ∧
    (let s := (State.reset.setFs [(HUB_RGN_STATE_STATE 45, 5), (FAB_RGN_ENV_STATUS_STEP 5 5, 5)]).updRgn 45 fun x => { x with zeroed := true }; let r := 45; s.rState r = 5 ∧ s.envStep r = 5 ∧ s.bit (ENG_TRIO_PWR_CLEARING r) = false ∧ (s.rgnAt r).zeroed = true) ∧
    (let s := State.reset.updNoc fun n => { n with heldReq := [pkt1] }; let node := 1; s.noc.heldReq.find? (fun q => q.dst = node) = some pkt1) :=
  by and_intros <;> decide +kernel
theorem test_oscillatorCommands :
    (let s := State.reset; let m := Master.firmware; let d := 5; let n := 1; s.gate m (FAB_ROSC_CTRL d n) = .pass ∧ s.bit (FAB_ROSC_CTRL_EN d n) = false) ∧
    (let s := State.reset.setFs [(FAB_ROSC_CTRL_EN 5 1, 1)]; let m := Master.firmware; let d := 5; let n := 1; s.gate m (FAB_ROSC_CTRL d n) = .pass ∧ s.bit (FAB_ROSC_CTRL_EN d n) = true) ∧
    (let s := State.reset.setFs [(FAB_ROSC_CTRL_EN 5 1, 1)]; let d := 5; let n := 1; s.bit (FAB_ROSC_CTRL_EN d n) = true) ∧
    (let s := State.reset; let m := Master.firmware; let d := 5; let n := 1; s.gate m (FAB_ROSC_CTRL d n) = .pass ∧ s.xback.contains (FAB_ROSC_TRIM_TRIM d n).key = false) ∧
    (let s := { State.reset with xback := [(FAB_ROSC_TRIM_TRIM 5 1).key] }; let m := Master.firmware; let d := 5; let n := 1; s.gate m (FAB_ROSC_CTRL d n) = .pass ∧ s.xback.contains (FAB_ROSC_TRIM_TRIM d n).key = true) ∧
    (let s := (State.reset.setF (FAB_ROSC_CTRL_EN 5 1) 1).setRosc 5 1 ⟨false, false, true⟩; let d := 5; let n := 1; s.bit (FAB_ROSC_CTRL_EN d n) = true ∧ (s.rosc d n).skip = false ∧ (s.rosc d n).gated = false ∧ (s.rosc d n).expert = true) ∧
    (let s := State.reset.setFs [(FAB_ROSC_CTRL_EN 5 1, 1)]; let d := 5; let n := 1; s.bit (FAB_ROSC_CTRL_EN d n) = true ∧ (s.rosc d n).skip = false ∧ (s.rosc d n).gated = false ∧ (s.rosc d n).expert = false) ∧
    (let s := (State.reset.setF (FAB_ROSC_CTRL_EN 5 1) 1).setRosc 5 1 ⟨true, true, true⟩; let d := 5; let n := 1; s.bit (FAB_ROSC_CTRL_EN d n) = true ∧ ((s.rosc d n).skip = true ∨ (s.rosc d n).gated = true) ∧ (s.rosc d n).expert = true) :=
  by and_intros <;> decide +kernel
theorem test_smallFlashCommands :
    (let s := State.reset.setFs [(HUB_SUPPLY_NV_OK, 1)]; let m := Master.firmware; let d := 5; let page := 9; s.gate m (FAB_FL_CTRL d) = .pass ∧ s.bit (FAB_FL_STATUS_BUSY d) = false) ∧
    (let s := State.reset.setFs [(FAB_FL_STATUS_BUSY 5, 1)]; let m := Master.firmware; let d := 5; let page := 9; s.gate m (FAB_FL_CTRL d) = .pass ∧ s.bit (FAB_FL_STATUS_BUSY d) = true) ∧
    (let s := State.reset.setFs [(HUB_SUPPLY_NV_OK, 1)]; let m := Master.firmware; let d := 5; let page := 9; s.gate m (FAB_FL_CTRL d) = .pass ∧ s.bit (FAB_FL_STATUS_BUSY d) = false ∧ ((s.answer (.ok 0)).setF (FAB_FL_CTRL_PAGE d) page).bit HUB_SUPPLY_NV_OK = true) ∧
    (let s := State.reset; let m := Master.firmware; let d := 5; let page := 9; s.gate m (FAB_FL_CTRL d) = .pass ∧ s.bit (FAB_FL_STATUS_BUSY d) = false ∧ ((s.answer (.ok 0)).setF (FAB_FL_CTRL_PAGE d) page).bit HUB_SUPPLY_NV_OK = false) ∧
    (let s := State.reset.setFs [(FAB_FL_STATUS_BUSY 5, 1)]; let m := Master.firmware; let d := 5; let page := 9; s.gate m (FAB_FL_CTRL d) = .pass ∧ s.bit (FAB_FL_STATUS_BUSY d) = true) ∧
    (let s := State.reset.setFs [(HUB_SUPPLY_NV_OK, 1)]; let m := Master.firmware; let d := 5; let page := 9; s.gate m (FAB_FL_CTRL d) = .pass ∧ s.bit (FAB_FL_STATUS_BUSY d) = false ∧ ((s.answer (.ok 0)).setF (FAB_FL_CTRL_PAGE d) page).bit HUB_SUPPLY_NV_OK = true) ∧
    (let s := State.reset; let m := Master.firmware; let d := 5; let page := 9; s.gate m (FAB_FL_CTRL d) = .pass ∧ s.bit (FAB_FL_STATUS_BUSY d) = false ∧ ((s.answer (.ok 0)).setF (FAB_FL_CTRL_PAGE d) page).bit HUB_SUPPLY_NV_OK = false) ∧
    (let s := State.reset.setFs [(FAB_FL_STATUS_BUSY 5, 1)]; let m := Master.firmware; let d := 5; let page := 9; s.gate m (FAB_FL_CTRL d) = .pass ∧ s.bit (FAB_FL_STATUS_BUSY d) = true) ∧
    (let s := ((State.reset.setFlOp 5 1).setFlPage 5 0 ⟨true, 65535, [], 3⟩).setFlPage 5 1 ⟨true, 0, [], 3⟩; let d := 5; let q := 1; s.flOp d = 1 ∧ s.flCopy d (s.f (FAB_FL_CTRL_PAGE d)) = some q) ∧
    (let s := State.reset.setFlOp 5 1; let d := 5; s.flOp d = 1 ∧ s.flCopy d (s.f (FAB_FL_CTRL_PAGE d)) = none) ∧
    (let s := (State.reset.setFlOp 5 2).setFlPage 5 1 ⟨true, 65535, [], 3⟩; let d := 5; let c := 1; s.flOp d = 2 ∧ s.flCopy d (s.f (FAB_FL_CTRL_PAGE d)) = some c) ∧
    (let s := State.reset.setFlOp 5 3; let d := 5; s.flOp d = 3) :=
  by and_intros <;> decide +kernel
theorem test_serialPortCommands_1 :
    (let s := State.reset; let m := Master.firmware; let d := 5; let p := 3; s.gate m (FAB_SP_CTRL d p) = .pass) ∧
    (let s := State.reset; let m := Master.firmware; let d := 5; let p := 3; s.gate m (FAB_SP_CTRL d p) = .pass) ∧
    (let s := State.reset; let m := Master.firmware; let d := 5; let p := 3; s.gate m (FAB_SP_DATA d p) = .pass ∧ s.spMgmt d p = true ∧ (s.serialAt d p).tx.length < 16) ∧
    (let s := State.reset.setSerial 5 3 ⟨List.replicate 16 0, [], 0, false, false⟩; let m := Master.firmware; let d := 5; let p := 3; s.gate m (FAB_SP_DATA d p) = .pass ∧ s.spMgmt d p = true ∧ ¬ (s.serialAt d p).tx.length < 16) ∧
    (let s := State.reset.setFs [(FAB_SP_CTRL_CONN 5 3, 8)]; let m := Master.firmware; let d := 5; let p := 3; s.gate m (FAB_SP_DATA d p) = .pass ∧ s.spMgmt d p = false) ∧
    (let s := State.reset.setFs [(CMX_DIE_STATUS_STATE 5, 3)]; let d := 5; dieIsolated s d = true) ∧
    (let s := State.reset; let d := 5; let p := 3; dieIsolated s d = false ∧ (s.spMgmt d p = false ∨ (s.serialAt d p).rx = [])) ∧
    (let s := State.reset.setSerial 5 3 ⟨[], [7, 8], 0, false, false⟩; let d := 5; let p := 3; let b : Byte := 7; let t : List Byte := [8]; dieIsolated s d = false ∧ s.spMgmt d p = true ∧ (s.serialAt d p).rx = b :: t) ∧
    (let s := State.reset.setSerial 5 3 ⟨[], [7, 8], 0, false, false⟩; let d := 5; let p := 3; let b : Byte := 7; let t : List Byte := [8]; dieIsolated s d = false ∧ s.spMgmt d p = true ∧ (s.serialAt d p).rx = b :: t) :=
  by and_intros <;> decide +kernel
theorem test_serialPortCommands_2 :
    (let s := State.reset.setFs [(FAB_SP_CTRL_EN 5 3, 1), (FAB_SP_CTRL_MODE 5 3, 2)]; let m := Master.firmware; let d := 5; let p := 3; s.gate m (FAB_SP_DATA d p) = .pass ∧ s.spMgmt d p = true ∧ s.spMaster d p = true) ∧
    (let s := State.reset; let d := 5; let p := 3; s.spRuns d p = false) ∧
    (let s := State.reset.setFs [(FAB_SP_CTRL_EN 5 3, 1), (FAB_SP_CTRL_MODE 5 3, 1)]; let d := 5; let p := 3; s.spRuns d p = true) ∧
    (let s := State.reset; let d := 5; let p := 3; s.spMgmt d p = true) ∧
    (let s := State.reset.setSerial 5 3 ⟨[7, 8], [], 0, false, false⟩; let d := 5; let p := 3; let b : Byte := 7; let t : List Byte := [8]; (s.serialAt d p).tx = b :: t) ∧
    (let s := State.reset; let d := 5; let p := 3; s.spMode d p ≠ 4 ∧ (s.serialAt d p).rx.length < 16) ∧
    (let s := State.reset.setSerial 5 3 ⟨[], List.replicate 16 0, 0, false, false⟩; let d := 5; let p := 3; s.spMode d p ≠ 4 ∧ ¬ (s.serialAt d p).rx.length < 16) ∧
    (let s := (State.reset.setFs [(FAB_SP_CTRL_MODE 5 3, 4)]).setSerial 5 3 ⟨[], [], 3, false, false⟩; let d := 5; let p := 3; s.spMode d p = 4 ∧ (s.serialAt d p).rd ≠ 0 ∧ (s.serialAt d p).rx.length < 16) :=
  by and_intros <;> decide +kernel
theorem test_resetPinCommands :
    (let s := State.reset; s.pins.porN = false) ∧
    (let s := (State.reset.setF HUB_SUPPLY_IN_RANGE 0x3FF).updPins fun p => { p with porN := true }; s.pins.porN = true ∧ s.f HUB_SUPPLY_IN_RANGE = 0x3FF ∧ s.boot.phase = 0) ∧
    (let s := State.reset.updPins fun p => { p with porN := true }; s.pins.porN = true) ∧
    (let s := (State.reset.updPins fun p => { p with resetN := true }).updBoot fun b => { b with phase := 5 }; s.pins.resetN = true ∧ s.boot.phase ≠ 0) ∧
    (let s := State.reset.updPins fun p => { p with resetN := true }; s.pins.resetN = true ∧ s.boot.phase = 0) ∧
    (let s := (State.reset.updPins fun p => { p with resetN := false }).updBoot fun b => { b with phase := 7 }; s.pins.resetN = false ∧ s.boot.phase ≠ 0) ∧
    (let s := (State.reset.updPins fun p => { p with progN := true, porN := true, resetN := true, thermTripN := true }).updBoot fun b => { b with phase := 5 }; s.pins.progN = true ∧ s.running = true) ∧
    (let s := (State.reset.updPins fun p => { p with progN := false, porN := true, resetN := true, thermTripN := true }).updBoot fun b => { b with phase := 7 }; s.pins.progN = false ∧ s.running = true ∧ s.boot.phase = 7) ∧
    (let s := wRec 0x8006; s.recReady = true ∧ s.h2fWord (s.f (MBX_H2F_CI_CI 0)) 0 % 65536 = 0x8006 ∧ s.pins.progN = true ∧ s.running = true) :=
  by and_intros <;> decide +kernel
theorem test_supplyCommands :
    (let k := 8; k < 9) ∧
    (let s := State.reset; let k := 7; let floor := false; let early := false; let t := let a := s.seqCheck early; let a := a.setF HUB_SUPPLY_IN_RANGE (setBitN (a.f HUB_SUPPLY_IN_RANGE) k false); if a.t0Passed then a.setF HUB_SUPPLY_DROOP 1 else a; let u := if floor ∧ (k = 0 ∨ k = 1 ∨ k = 8) then ((t.updPins fun p => { p with below := if p.below.contains k then p.below else k :: p.below }).nvShow).nvAbandon else t; k < 9 ∧ t =
      (let a := s.seqCheck early
       let a := a.setF HUB_SUPPLY_IN_RANGE (setBitN (a.f HUB_SUPPLY_IN_RANGE) k false)
       if a.t0Passed then a.setF HUB_SUPPLY_DROOP 1 else a) ∧ (u = (if floor ∧ (k = 0 ∨ k = 1 ∨ k = 8) then
        ((t.updPins fun p => { p with below := if p.below.contains k then p.below else k :: p.below }).nvShow).nvAbandon
      else t)) ∧ ¬ (k = 8 ∧ u.t0Passed ∧ u.pins.resetN ∧ u.pins.thermTripN)) ∧
    (let s := (State.reset.updPins fun p => { p with porN := true, resetN := true, thermTripN := true }).updBoot fun b => { b with phase := 5 }; let k := 8; let floor := false; let early := false; let t := let a := s.seqCheck early; let a := a.setF HUB_SUPPLY_IN_RANGE (setBitN (a.f HUB_SUPPLY_IN_RANGE) k false); if a.t0Passed then a.setF HUB_SUPPLY_DROOP 1 else a; let u := if floor ∧ (k = 0 ∨ k = 1 ∨ k = 8) then ((t.updPins fun p => { p with below := if p.below.contains k then p.below else k :: p.below }).nvShow).nvAbandon else t; k < 9 ∧ t =
      (let a := s.seqCheck early
       let a := a.setF HUB_SUPPLY_IN_RANGE (setBitN (a.f HUB_SUPPLY_IN_RANGE) k false)
       if a.t0Passed then a.setF HUB_SUPPLY_DROOP 1 else a) ∧ (u = (if floor ∧ (k = 0 ∨ k = 1 ∨ k = 8) then
        ((t.updPins fun p => { p with below := if p.below.contains k then p.below else k :: p.below }).nvShow).nvAbandon
      else t)) ∧ k = 8 ∧ u.t0Passed ∧ u.pins.resetN ∧ u.pins.thermTripN) ∧
    (let s := (State.reset.setF (GPIO_BANK_STATUS_LEVEL 2) 1).updBoot fun b => { b with phase := 5 }; let b := 2; let t := ((s.setF (GPIO_BANK_STATUS_LEVEL b) 0).banksShow).padNote; s.bankUp b = true ∧ t = ((s.setF (GPIO_BANK_STATUS_LEVEL b) 0).banksShow).padNote ∧ t.t0Passed = true) ∧
    (let s := State.reset.setF (GPIO_BANK_STATUS_LEVEL 2) 1; let b := 2; let t := ((s.setF (GPIO_BANK_STATUS_LEVEL b) 0).banksShow).padNote; s.bankUp b = true ∧ t = ((s.setF (GPIO_BANK_STATUS_LEVEL b) 0).banksShow).padNote ∧ t.t0Passed = false) ∧
    (let s := State.reset; let b := 2; let level := 2; b < 4 ∧ s.bankUp b = false ∧ (level = 1 ∨ level = 2)) ∧
    (let s := State.reset; let b := 2; s.bankUp b = false) :=
  ⟨by decide +kernel,
   ⟨by decide, rfl, rfl, by decide⟩,
   ⟨by decide, rfl, rfl, by decide⟩,
   ⟨by decide +kernel, rfl, by decide +kernel⟩,
   ⟨by decide +kernel, rfl, by decide +kernel⟩,
   by decide +kernel,
   by decide +kernel⟩
theorem test_bootCommands :
    (let s := State.reset.updBoot fun b => { b with phase := 4 }; let m := Master.firmware; s.gate m CFG_BOOT_CTRL = .pass ∧ s.boot.phase = 4) ∧
    (let s := State.reset; let m := Master.firmware; s.gate m CFG_BOOT_CTRL = .pass ∧ s.boot.phase ≠ 4) ∧
    (let s := State.reset.updBoot fun b => { b with phase := 4 }; s.boot.phase = 4 ∧ s.dbg.halted.contains 0 = false) ∧
    (let s := State.reset.updBoot fun b => { b with phase := 3, flash := 1 }; s.boot.phase = 3 ∧ s.masterMode = true ∧ s.boot.flash ≠ 0) ∧
    (let s := State.reset; (s.boot.phase ≠ 3 ∨ s.masterMode = false ∨ s.boot.flash = 0)) ∧
    (let s := (State.reset.setF (CLK_PLL_STATUS_STATE 0) 1).updBoot fun b => { b with phase := 1 }; s.boot.phase = 1 ∧ (s.pllLocks 0).boot.phase = 1 ∧ (s.pllLocks 0).pllState 0 = 2) ∧
    (let p := 91; p ≠ 0) ∧
    (let s := State.reset.setFs [(CFG_LD_STATUS_STATE 2, 1)]; let d : List Byte := [0x4B, 0x58]; s.taking 2 = true ∧ s.streamLeft 2 = none ∧ d.length ≤ s.stageFree 2 / 256 * 256) ∧
    (let s := State.reset.setF (CFG_LD_STATUS_STATE 2) 1; let d : List Byte := List.replicate 1048577 0; s.taking 2 = true ∧ s.streamLeft 2 = none ∧ s.stageFree 2 / 256 * 256 < d.length) ∧
    (let code := 9; code ≠ 2 ∧ code ≠ 5) ∧
    (let s := State.reset.setFs [(CFG_LD_STATUS_STATE 3, 1)]; s.taking 3 = true ∧ 4 ≤ s.stageFree 3) ∧
    (let s := State.reset.updBoot fun b => { b with phase := 3, mode := 4 }; s.f DBG_STATUS_LEVEL = 2 ∧ s.boot.phase = 3 ∧ s.boot.mode = 4) ∧
    (let s := State.reset.setFs [(DBG_STATUS_LEVEL, 1)]; s.f DBG_STATUS_LEVEL ≠ 2) :=
  ⟨by decide +kernel,
   by decide +kernel,
   by decide +kernel,
   by decide +kernel,
   by decide +kernel,
   (by decide +kernel),
   by decide +kernel,
   by decide +kernel,
   (by
  intro s d
  refine ⟨by decide, by decide, ?_⟩
  rw [List.length_replicate]
  decide),
   by decide +kernel,
   by decide +kernel,
   by decide +kernel,
   by decide +kernel⟩
theorem test_loadControlCommands :
    (let s := State.reset; let m := Master.firmware; let n := 2; let r := 45; s.gate m (CFG_LD_CTRL n) = .pass ∧ s.ldIdle n = true ∧ State.rState (((((s.answer (.ok 0)).setFs [(CFG_LD_CTRL_TARGET n, r), (CFG_LD_STATUS_ERR n, 0), (CFG_LD_STATUS_FRAMES n, 0)]).setSlot n Slot.empty).setLdState n 0).applyLive CFG_CTRL_STALL_LIM) r = 0) ∧
    (let s := State.reset.setFs [(CFG_LD_STATUS_STATE 2, 4)]; let m := Master.firmware; let n := 2; s.gate m (CFG_LD_CTRL n) = .pass ∧ s.ldIdle n = false) ∧
    (let s := State.reset.setFs [(CFG_LD_STATUS_STATE 2, 4)]; let m := Master.firmware; let n := 2; s.gate m (CFG_LD_CTRL n) = .pass ∧ 1 ≤ s.ldState n ∧ s.ldState n ≤ 5 ∧ (s.slotAt n).boot = false) ∧
    (let s := State.reset.setFs [(CFG_LD_STATUS_STATE 2, 4)]; let n := 2; 2 ≤ s.ldState n ∧ s.ldState n ≤ 4 ∧ (s.slotAt n).waking = false) ∧
    (let s := wGold.setFs [(CFG_LD_STATUS_STATE 1, 2), (CFG_LD_LEN_LEN 1, 512)]; let n := 1; n < 2 ∧ s.taking n = true ∧ 0 < (s.srcChunk n).2 ∧ (s.srcChunk n).2 ≤ s.stageFree n ∧ (s.hubRead (s.srcChunk n).1 (s.srcChunk n).2).2.1 = stOk) ∧
    (let s := State.reset.setFs [(CFG_LD_STATUS_STATE 1, 2), (CFG_LD_LEN_LEN 1, 512), (DMC_STATUS_STATE 0, 7)]; let n := 1; n < 2 ∧ s.taking n = true ∧ 0 < (s.srcChunk n).2 ∧ (s.srcChunk n).2 ≤ s.stageFree n ∧ (s.hubRead (s.srcChunk n).1 (s.srcChunk n).2).2.1 ≠ stOk) ∧
    (let s := wHeader; let n := 2; s.ldState n = 2 ∧ s.unitAt n 0 384 = .ready ∧ s.badRows stageMacro (stageRows n 0 384).1 (stageRows n 0 384).2 = [] ∧ s.headerErr n = 0) ∧
    (let s := (State.reset.setF (CFG_LD_STATUS_STATE 2) 2).setSlot 2 { Slot.empty with all := List.replicate 384 0 }; let n := 2; s.ldState n = 2 ∧ s.unitAt n 0 384 = .ready ∧ s.badRows stageMacro (stageRows n 0 384).1 (stageRows n 0 384).2 = [] ∧ s.headerErr n ≠ 0) ∧
    (let s := (wHeader.setF (CFG_LD_STATUS_STATE 2) 3); let n := 2; s.ldState n = 3 ∧ s.unitAt n 384 (8 * (s.slotAt n).manCount) = .ready ∧ s.badRows stageMacro (stageRows n 384 (8 * (s.slotAt n).manCount)).1 (stageRows n 384 (8 * (s.slotAt n).manCount)).2 = []) ∧
    (let s := (wHeader.setFs [(CFG_LD_STATUS_STATE 2, 5), (CFG_LD_CTRL_TARGET 2, 45)]); let n := 2; s.ldState n = 5 ∧ s.unitAt n (s.slotAt n).bodyEnd ((s.slotAt n).total - (s.slotAt n).bodyEnd) = .ready ∧ s.badRows stageMacro (stageRows n (s.slotAt n).bodyEnd ((s.slotAt n).total - (s.slotAt n).bodyEnd)).1
    (stageRows n (s.slotAt n).bodyEnd ((s.slotAt n).total - (s.slotAt n).bodyEnd)).2 = [] ∧ (s.slotAt n).signed = false ∧ (s.slotAt n).encrypted = false ∧ (s.slotAt n).boot = false ∧ s.dirCheck (s.ldTarget n) = true) ∧
    (let s := (wHeader.setFs [(CFG_LD_STATUS_STATE 2, 5), (CFG_LD_CTRL_TARGET 2, 45)]).setFrame (rgnBase 45 + 33223) (2 ^ 2388); let n := 2; s.ldState n = 5 ∧ s.unitAt n (s.slotAt n).bodyEnd ((s.slotAt n).total - (s.slotAt n).bodyEnd) = .ready ∧ s.badRows stageMacro (stageRows n (s.slotAt n).bodyEnd ((s.slotAt n).total - (s.slotAt n).bodyEnd)).1
    (stageRows n (s.slotAt n).bodyEnd ((s.slotAt n).total - (s.slotAt n).bodyEnd)).2 = [] ∧ (s.slotAt n).signed = false ∧ (s.slotAt n).encrypted = false ∧ (s.slotAt n).boot = false ∧ s.dirCheck (s.ldTarget n) = false) ∧
    (let s := (wHeader.setFs [(CFG_LD_STATUS_STATE 2, 5)]).updSlot 2 fun x => { x with boot := true }; let n := 2; s.ldState n = 5 ∧ s.unitAt n (s.slotAt n).bodyEnd ((s.slotAt n).total - (s.slotAt n).bodyEnd) = .ready ∧ s.badRows stageMacro (stageRows n (s.slotAt n).bodyEnd ((s.slotAt n).total - (s.slotAt n).bodyEnd)).1
    (stageRows n (s.slotAt n).bodyEnd ((s.slotAt n).total - (s.slotAt n).bodyEnd)).2 = [] ∧ (s.slotAt n).signed = false ∧ (s.slotAt n).encrypted = false ∧ (s.slotAt n).boot = true) ∧
    (let s := State.reset; let m := Master.firmware; let k := 8; let j := 7; s.gate m (CFG_BKEY (k - 1) j) = .pass ∧ ((List.range 4).filter fun n => s.decrypts n k) = [] ∧ s.capUsesKey k = false) :=
  by and_intros <;> decide +kernel
theorem test_loadBodyCommands :
    (let s := wBody (leBytes 4 0x01000000 ++ leBytes 4 0xAA400000); let n := 2; commandAt s n 1 0 = true ∧ stagedUnit s n (s.slotAt n).pos 8 = true ∧ ¬ ((s.slotAt n).reloc = true ∧ s.slotWord n ((s.slotAt n).pos + 4) / 2 ^ 25 ≠ 0)) ∧
    (let s := (wBody (leBytes 4 0x02000001)).updSlot 2 fun x => { x with far := some (some (rgnBase 45)) }; let n := 2; let c := 1; commandAt s n 2 c = true ∧ c ≠ 0 ∧ (s.slotAt n).far ≠ none ∧ s.framesWait n = false ∧ (State.framesWait ((s.updSlot n fun x => { x with cmd := some (2, c, x.pos) }).advance n 4) n) = false) ∧
    (let s := (wBody (leBytes 4 0x02000001 ++ List.replicate 400 0)).updSlot 2 fun x => { x with pos := 396, cmd := some (2, 1, 392) }; let n := 2; let c := 1; let st := 392; (s.slotAt n).cmd = some (2, c, st) ∧ s.ldState n = 4 ∧ (s.slotAt n).pos ≠ st + 4 + 400 * c ∧ stagedUnit s n (s.slotAt n).pos 400 = true) ∧
    (let s := (wBody []).updSlot 2 fun x => { x with far := some (some 1679360) }; let n := 2; let i := 1679360; (s.slotAt n).far = some (some i) ∧ s.inManifest n i = true ∧ frameOutcome i 0 = .clean ∧ s.bootStream n = false) ∧
    (let s := (wBody []).updSlot 2 fun x => { x with far := some (some (rgnBase 45 + 1)) }; let n := 2; let i := rgnBase 45 + 1; let v := 0; (s.slotAt n).far = some (some i) ∧ (s.inManifest n i = false ∨ frameOutcome i v ≠ .clean)) ∧
    (let s := (wBody (leBytes 4 0x03000001)).updSlot 2 fun x => { x with far := some (some (rgnBase 45)) }; let n := 2; let c := 1; commandAt s n 3 c = true ∧ c ≠ 0 ∧ (s.slotAt n).far ≠ none ∧ s.framesWait n = false) ∧
    (let s := (wBody (leBytes 4 0x04000001 ++ List.replicate 400 0)).updSlot 2 fun x => { x with far := some (some (rgnBase 45)) }; let n := 2; let c := 1; commandAt s n 4 c = true ∧ c ≠ 0 ∧ (s.slotAt n).far ≠ none ∧ s.framesWait n = false ∧ stagedUnit s n (s.slotAt n).pos 404 = true) ∧
    (let s := wBody (leBytes 4 0x05000000); let n := 2; let c := 0; commandAt s n 5 c = true) ∧
    (let s := (wBody (leBytes 4 0x06000001 ++ leBytes 4 0x100)).updSlot 2 fun x => { x with boot := true }; let n := 2; let c := 1; commandAt s n 6 c = true ∧ (s.slotAt n).boot = true ∧ stagedUnit s n (s.slotAt n).pos 8 = true) ∧
    (let s := wBody (leBytes 4 0x06000001 ++ leBytes 4 0x100); let n := 2; let c := 1; commandAt s n 6 c = true ∧ (s.slotAt n).boot = false) ∧
    (let s := wBody (leBytes 4 0x07000005); let n := 2; let c := 5; commandAt s n 7 c = true) ∧
    (let s := (wHeader.setF (CFG_LD_STATUS_STATE 2) 4).updSlot 2 fun x => { x with pos := 392 }; let n := 2; commandAt s n 15 0 = true ∧ stagedUnit s n (s.slotAt n).pos 8 = true) :=
  ⟨by decide +kernel,
   by decide +kernel,
   by decide +kernel,
   (by
  intro s n i
  exact ⟨by decide +kernel, by decide +kernel, frameOutcome_blank _, by decide +kernel⟩),
   by decide +kernel,
   by decide +kernel,
   by decide +kernel,
   by decide +kernel,
   by decide +kernel,
   (by decide +kernel),
   by decide +kernel,
   by decide +kernel⟩
theorem test_configurationCheckingCommands :
    (let s := (State.reset.setFs [(CMX_DIE_STATUS_STATE 5, 2), (CFG_INTEG_CTRL_EN, 0)]).updInteg fun x => { x with common := [5] }; let d := 5; let c := 9; dieAdmitted s d = true ∧ s.integ.common.contains d = true ∧ s.linesHeld d c = false ∧ s.checkerSkips (checkerFrame d c (s.sweepSlot d c)) = true) ∧
    (let s := (State.reset.setFs [(CMX_DIE_STATUS_STATE 5, 2), (CFG_INTEG_CTRL_EN, 1)]).updInteg fun x => { x with common := [5] }; let d := 5; let c := 9; let t := s.arbAsk (.readback (8 * d + c / 8)) ⟨c % 8, 0, 0, 0⟩; dieAdmitted s d = true ∧ s.integ.common.contains d = true ∧ s.linesHeld d c = false ∧ s.checkerSkips (checkerFrame d c (s.sweepSlot d c)) = false ∧ t = s.arbAsk (.readback (8 * d + c / 8)) ⟨c % 8, 0, 0, 0⟩ ∧ t.arbOwns (.readback (8 * d + c / 8)) (c % 8) = true) ∧
    (let s := ((State.reset.setFs [(CMX_DIE_STATUS_STATE 5, 2), (CFG_INTEG_CTRL_EN, 1)]).updInteg fun x => { x with common := [5] }).setArb (.readback 41) (Arb.empty.fence 1); let d := 5; let c := 9; let t := s.arbAsk (.readback (8 * d + c / 8)) ⟨c % 8, 0, 0, 0⟩; dieAdmitted s d = true ∧ s.integ.common.contains d = true ∧ s.linesHeld d c = false ∧ s.checkerSkips (checkerFrame d c (s.sweepSlot d c)) = false ∧ t = s.arbAsk (.readback (8 * d + c / 8)) ⟨c % 8, 0, 0, 0⟩ ∧ t.arbOwns (.readback (8 * d + c / 8)) (c % 8) = false) ∧
    (let s := State.reset; let d := 5; let c := 9; (dieAdmitted s d = false ∨ s.integ.common.contains d = false)) ∧
    (let s := ((State.reset.setFs [(CMX_DIE_STATUS_STATE 5, 2)]).updInteg fun x => { x with common := [5] }).setArb (.readback 41) { Arb.empty with owner := some ⟨8, 0, 0, 0, 0, 0, false⟩ }; let d := 5; let c := 9; dieAdmitted s d = true ∧ s.integ.common.contains d = true ∧ s.linesHeld d c = true) ∧
    (let s := State.reset; let i := 2161; let t := s.reframe i (s.frame i % frameSpan + frameCheck (maskFrame i (s.frame i)) * frameSpan); t = s.reframe i (s.frame i % frameSpan + frameCheck (maskFrame i (s.frame i)) * frameSpan)) ∧
    (let s := State.reset.setFs [(CFG_INTEG_CTRL_CORRECT, 1)]; let i := 2161; (s.mapRead i).eff CFG_INTEG_CTRL_CORRECT = 1) ∧
    (let s := State.reset; let i := 2161; let kind := 0; frameOutcome i (s.frame i) = .clean ∧ kind ≠ 1) ∧
    (let s := State.reset; let i := 2161; frameOutcome i (s.frame i) = .clean) ∧
    (let s := State.reset.setFrame 2161 (2 ^ 3199); let i := 2161; frameOutcome i (s.frame i) ≠ .clean) ∧
    (let s := State.reset.setFs [(CFG_INTEG_CTRL_CORRECT, 0)]; let i := 2161; (s.mapRead i).eff CFG_INTEG_CTRL_CORRECT ≠ 1) ∧
    (let s := State.reset.setFs [(CFG_INTEG_CTRL_RELOAD, 0)]; let i := 2161; s.eff CFG_INTEG_CTRL_RELOAD ≠ 1 ∧ s.integ.stuck.contains i = false) ∧
    (let s := State.reset.updInteg fun x => { x with stuck := [2161] }; let i := 2161; s.integ.stuck.contains i = true) ∧
    (let far := 0xAA036001; let i := (farIndex 0xAA036001).getD 0; let b := 614; farIndex far = some i ∧ b < 3200) :=
  ⟨by decide +kernel,
   ⟨by decide +kernel, by decide +kernel, by decide +kernel, by decide +kernel, rfl, by decide +kernel⟩,
   ⟨by decide +kernel, by decide +kernel, by decide +kernel, by decide +kernel, rfl, by decide +kernel⟩,
   by decide +kernel,
   by decide +kernel,
   rfl,
   by decide +kernel,
   ⟨frameOutcome_blank _, by decide⟩,
   frameOutcome_blank _,
   (by
  intro s i
  have e : (State.reset.setFrame 2161 (2 ^ 3199)).frame 2161 = 2 ^ 3199 := by decide +kernel
  show frameOutcome 2161 ((State.reset.setFrame 2161 (2 ^ 3199)).frame 2161) ≠ .clean
  rw [e]
  exact frameOutcome_top),
   by decide +kernel,
   by decide +kernel,
   by decide +kernel,
   by decide +kernel⟩
theorem test_goldenStoreAndUpsetLogCommands :
    (let s := State.reset; let m := Master.firmware; s.gate m CFG_INTEG_CTRL = .pass ∧ s.f CFG_INTEG_CTRL_GOLD_EN = 0 ∧ s.committed = false) ∧
    (let s := State.reset.setFs [(HUB_STATUS_COMMITTED, 1)]; let m := Master.firmware; s.gate m CFG_INTEG_CTRL = .pass ∧ s.committed = true) ∧
    (let s := State.reset.setFs [(CFG_INTEG_CTRL_GOLD_EN, 1)]; let m := Master.firmware; s.gate m CFG_INTEG_CTRL = .pass ∧ s.f CFG_INTEG_CTRL_GOLD_EN = 1 ∧ s.committed = false) ∧
    (let s := wGold; let d := 5; s.bit CFG_INTEG_CTRL_GOLD_EN = true ∧ dieAdmitted s d = true ∧ s.integ.fillBad.contains d = false ∧ s.f CFG_INTEG_STATUS_GOLD_DIE / 2 ^ d % 2 = 0 ∧ s.hubStatus (s.goldAddr (commonBase d)) 6553600 = stOk ∧ (s.listedFrames (commonBase d) 16384).all (fun e => decide (frameOutcome e.1 e.2 = .clean)) = true) ∧
    (let s := wGoldR; let r := 45; let w := devFrames; let l := ([] : List Nat); SMap.get (fun _ => []) s.integ.goldWrote r = w :: l ∧ s.bit CFG_INTEG_CTRL_GOLD_EN = true ∧ s.hubStatus (s.goldAddr (rgnBase r)) 13926400 = stOk) ∧
    (let s := State.reset.setFs [(CMX_DIE_STATUS_STATE 5, 2)]; let d := 5; dieAdmitted s d = true ∧ (nget s.integ.late d = 0 ∨ nget s.integ.late d + 2000000 < s.nocTime + 1)) ∧
    (let s := (State.reset.setF (CMX_DIE_STATUS_STATE 5) 2).updInteg fun x => { x with late := [(5, 1)] }; let d := 5; dieAdmitted s d = true ∧ nget s.integ.late d ≠ 0 ∧ s.nocTime + 1 ≤ nget s.integ.late d + 2000000) ∧
    (let s := State.reset.updInteg fun x => { x with log := [⟨0xAA036001, 1, 0, 614⟩] }; let e : UpsetEnt := ⟨0xAA036001, 1, 0, 614⟩; let l : List UpsetEnt := []; s.integ.log = e :: l) ∧
    (let s := State.reset; s.integ.log = []) :=
  ⟨by decide +kernel,
   by decide +kernel,
   by decide +kernel,
   (by
  intro s d
  exact ⟨by decide +kernel, by decide +kernel, by decide +kernel, by decide +kernel, hubStatus_stack0 _ _ _ _ (by decide +kernel) (by decide +kernel) wGold_path rfl, by decide +kernel⟩),
   (by
  intro s r w l
  exact ⟨by decide +kernel, by decide +kernel, hubStatus_stack0 _ _ _ _ (by decide +kernel) (by decide +kernel) wGoldR_path rfl⟩),
   by decide +kernel,
   by decide +kernel,
   by decide +kernel,
   by decide +kernel⟩
theorem test_captureCommands_1 :
    (let s := State.reset; let m := Master.firmware; s.gate m CFG_CAP_CTRL = .pass ∧ s.capBusy = false ∧ (s.arb .capture).fenced.contains 0 = false) ∧
    (let s := State.reset.setArb .capture ((State.reset.arb .capture).fence 0); let m := Master.firmware; s.gate m CFG_CAP_CTRL = .pass ∧ s.capBusy = false ∧ (s.arb .capture).fenced.contains 0 = true) ∧
    (let s := State.reset.setFs [(CFG_CAP_STATUS_BUSY, 1)]; let m := Master.firmware; s.gate m CFG_CAP_CTRL = .pass ∧ s.capBusy = true) ∧
    (let s := State.reset; let m := Master.firmware; s.gate m CFG_CAP_CTRL = .pass ∧ s.capBusy = false ∧ (s.arb .capture).fenced.contains 0 = false) ∧
    (let s := State.reset.setArb .capture ((State.reset.arb .capture).fence 0); let m := Master.firmware; s.gate m CFG_CAP_CTRL = .pass ∧ s.capBusy = false ∧ (s.arb .capture).fenced.contains 0 = true) ∧
    (let s := State.reset.setFs [(CFG_CAP_STATUS_BUSY, 1)]; let m := Master.firmware; s.gate m CFG_CAP_CTRL = .pass ∧ s.capBusy = true) ∧
    (let s := State.reset; let m := Master.firmware; s.gate m CFG_CAP_CTRL = .pass ∧ s.capBusy = false ∧ (s.arb .capture).fenced.contains 0 = false) ∧
    (let s := State.reset.setArb .capture ((State.reset.arb .capture).fence 0); let m := Master.firmware; s.gate m CFG_CAP_CTRL = .pass ∧ s.capBusy = false ∧ (s.arb .capture).fenced.contains 0 = true) ∧
    (let s := State.reset.setFs [(CFG_CAP_STATUS_BUSY, 1)]; let m := Master.firmware; s.gate m CFG_CAP_CTRL = .pass ∧ s.capBusy = true) ∧
    (let s := State.reset; let m := Master.firmware; s.gate m CFG_CAP_CTRL = .pass ∧ s.capBusy = false ∧ (s.arb .capture).fenced.contains 0 = false) ∧
    (let s := State.reset.setArb .capture ((State.reset.arb .capture).fence 0); let m := Master.firmware; s.gate m CFG_CAP_CTRL = .pass ∧ s.capBusy = false ∧ (s.arb .capture).fenced.contains 0 = true) ∧
    (let s := State.reset.setFs [(CFG_CAP_STATUS_BUSY, 1)]; let m := Master.firmware; s.gate m CFG_CAP_CTRL = .pass ∧ s.capBusy = true) ∧
    (let s := State.reset; let m := Master.firmware; s.gate m CFG_CAP_CTRL = .pass ∧ s.capBusy = false ∧ (s.arb .capture).fenced.contains 0 = false) ∧
    (let s := State.reset.setArb .capture ((State.reset.arb .capture).fence 0); let m := Master.firmware; s.gate m CFG_CAP_CTRL = .pass ∧ s.capBusy = false ∧ (s.arb .capture).fenced.contains 0 = true) :=
  by and_intros <;> decide +kernel
theorem test_captureCommands_2 :
    (let s := State.reset.setFs [(CFG_CAP_STATUS_BUSY, 1)]; let m := Master.firmware; s.gate m CFG_CAP_CTRL = .pass ∧ s.capBusy = true) ∧
    (let s := (State.reset.updCap fun c => { c with wait := some 1 }).setArb .capture { Arb.empty with owner := some ⟨0, 0, 0, 0, 0, 0, false⟩ }; let op := 1; s.cap.wait = some op ∧ s.cap.op = 0 ∧ s.arbOwns .capture 0 = true) ∧
    (let s := State.reset; (s.cap.wait = none ∨ s.cap.op ≠ 0 ∨ s.arbOwns .capture 0 = false)) ∧
    (let s := State.reset.setFs [(CFG_CAP_MASK_MASK 1, 0x2000), (HUB_RGN_STATE_STATE 45, 2)]; let op := 1; let t := s.setFs [(CFG_CAP_STATUS_ERR, 0), (CFG_CAP_STATUS_BUSY, 1)]; (op = 1 ∨ op = 2) ∧ t = s.setFs [(CFG_CAP_STATUS_ERR, 0), (CFG_CAP_STATUS_BUSY, 1)] ∧ t.capMask ≠ [] ∧ (t.capMask.any fun r => t.pairRegion r || decide (t.rState r ≠ 2)) = false) ∧
    (let s := (State.reset.setF (HUB_RGN_STATE_STATE 45) 2).updCap fun c => { c with op := 1, phase := 2, regions := [45] }; let l := [45]; s.cap.op = 1 ∧ s.cap.phase = 2 ∧ l = s.cap.regions.filter (fun r => decide (s.rState r = 2))) ∧
    (let s := State.reset; (s.cap.op ≠ 1 ∨ s.cap.phase ≠ 2)) ∧
    (let s := State.reset.updCap fun c => { c with op := 3 }; s.cap.op = 3) ∧
    (let s := wImport []; let r := 45; let k : List Nat := List.replicate 32 0; s.cap.op = 4 ∧ s.cap.regions = [r] ∧ s.bkey (s.f CFG_CAP_CTRL_KEY) = some k ∧ capFormatOk s.cap.buf = false) ∧
    (let s := wImport (wRecord ++ List.replicate 16 0); let r := 45; let k : List Nat := List.replicate 32 0; s.cap.op = 4 ∧ s.cap.regions = [r] ∧ s.bkey (s.f CFG_CAP_CTRL_KEY) = some k ∧ capFormatOk s.cap.buf = true ∧ ¬ (Crypto.gcmTag k (capIv (s.cap.buf.take 128)) (Crypto.nums (s.cap.buf.take 128))
      (Crypto.nums ((s.cap.buf.drop 128).take (leNat (((s.cap.buf.take 128).drop 0x14).take 4)))) =
      Crypto.nums ((s.cap.buf.drop (128 + leNat (((s.cap.buf.take 128).drop 0x14).take 4))).take 16))) ∧
    ((wImport (wRecord ++ wCt ++ wTag)).cap.op = 4 ∧ (wImport (wRecord ++ wCt ++ wTag)).cap.regions = [45] ∧ (wImport (wRecord ++ wCt ++ wTag)).bkey ((wImport (wRecord ++ wCt ++ wTag)).f CFG_CAP_CTRL_KEY) = some (List.replicate 32 0) ∧ capFormatOk (wImport (wRecord ++ wCt ++ wTag)).cap.buf = true ∧ Crypto.gcmTag (List.replicate 32 0) (capIv ((wImport (wRecord ++ wCt ++ wTag)).cap.buf.take 128)) (Crypto.nums ((wImport (wRecord ++ wCt ++ wTag)).cap.buf.take 128))
      (Crypto.nums (((wImport (wRecord ++ wCt ++ wTag)).cap.buf.drop 128).take (leNat ((((wImport (wRecord ++ wCt ++ wTag)).cap.buf.take 128).drop 0x14).take 4)))) =
      Crypto.nums (((wImport (wRecord ++ wCt ++ wTag)).cap.buf.drop (128 + leNat ((((wImport (wRecord ++ wCt ++ wTag)).cap.buf.take 128).drop 0x14).take 4))).take 16)) ∧
    (let s := State.reset.updCap fun c => { c with op := 2, phase := 1, regions := [45] }; s.cap.phase = 1 ∧ (s.cap.op = 1 ∨ s.cap.op = 2 ∨ s.cap.op = 5) ∧ s.cap.regions.any s.napDue = false) ∧
    (let s := State.reset.updCap fun c => { c with op := 2, phase := 1, regions := [45] }; s.cap.phase = 1 ∧ (s.cap.op = 1 ∨ s.cap.op = 2)) ∧
    (let s := State.reset.updCap fun c => { c with op := 5, phase := 1, regions := [45] }; s.cap.phase = 1 ∧ s.cap.op = 5) ∧
    (let s := State.reset; let m := Master.firmware; s.gate m CFG_CAP_IVHI = .pass ∧ s.capBusy = false) :=
  ⟨by decide +kernel,
   by decide +kernel,
   by decide +kernel,
   ⟨by decide, rfl, by decide +kernel, by decide +kernel⟩,
   by decide +kernel,
   by decide +kernel,
   by decide +kernel,
   by decide +kernel,
   by decide +kernel,
   wImport_ok,
   by decide +kernel,
   by decide +kernel,
   by decide +kernel,
   by decide +kernel⟩
theorem test_bundleCommands_1 :
    (let s := State.reset.setFs [(CMX_B_STATUS_STATE 5 9, 3)]; let m := Master.firmware; let d := 5; let b := 9; let wire := 7; let force := 0; s.gate m (CMX_B_CTRL d b) = .pass ∧ s.bState d b ≠ 1 ∧ ((s.answer (.ok 0)).setFs [(CMX_B_CTRL_WIRE d b, wire), (CMX_B_CTRL_FORCE d b, force)]).bState d b = 3 ∧ (decide (((s.answer (.ok 0)).setFs [(CMX_B_CTRL_WIRE d b, wire), (CMX_B_CTRL_FORCE d b, force)]).f (CMX_B_CTRL_FORCE d b) = 0) && ((s.answer (.ok 0)).setFs [(CMX_B_CTRL_WIRE d b, wire), (CMX_B_CTRL_FORCE d b, force)]).bundleUsed d b) = false) ∧
    (let s := State.reset.setFs [(CMX_B_STATUS_STATE 5 9, 2)]; let m := Master.firmware; let d := 5; let b := 9; let wire := 7; let force := 0; s.gate m (CMX_B_CTRL d b) = .pass ∧ s.bState d b ≠ 1 ∧ ((s.answer (.ok 0)).setFs [(CMX_B_CTRL_WIRE d b, wire), (CMX_B_CTRL_FORCE d b, force)]).bState d b = 2) ∧
    (let s := State.reset.setFs [(CMX_B_STATUS_STATE 5 9, 3)]; let m := Master.firmware; let d := 5; let b := 9; let wire := 7; let force := 0; s.gate m (CMX_B_CTRL d b) = .pass ∧ s.bState d b ≠ 1 ∧ ((s.answer (.ok 0)).setFs [(CMX_B_CTRL_WIRE d b, wire), (CMX_B_CTRL_FORCE d b, force)]).bState d b = 3 ∧ (decide (((s.answer (.ok 0)).setFs [(CMX_B_CTRL_WIRE d b, wire), (CMX_B_CTRL_FORCE d b, force)]).f (CMX_B_CTRL_FORCE d b) = 0) && ((s.answer (.ok 0)).setFs [(CMX_B_CTRL_WIRE d b, wire), (CMX_B_CTRL_FORCE d b, force)]).bundleUsed d b) = false) ∧
    (let s := State.reset.setFs [(CMX_B_STATUS_STATE 5 9, 2)]; let m := Master.firmware; let d := 5; let b := 9; let wire := 7; let force := 0; s.gate m (CMX_B_CTRL d b) = .pass ∧ s.bState d b ≠ 1 ∧ ((s.answer (.ok 0)).setFs [(CMX_B_CTRL_WIRE d b, wire), (CMX_B_CTRL_FORCE d b, force)]).bState d b = 2 ∧ (decide (((s.answer (.ok 0)).setFs [(CMX_B_CTRL_WIRE d b, wire), (CMX_B_CTRL_FORCE d b, force)]).f (CMX_B_CTRL_FORCE d b) = 0) && ((s.answer (.ok 0)).setFs [(CMX_B_CTRL_WIRE d b, wire), (CMX_B_CTRL_FORCE d b, force)]).bundleUsed d b) = false) ∧
    (let s := State.reset.setFs [(CMX_B_STATUS_STATE 5 9, 0)]; let m := Master.firmware; let d := 5; let b := 9; let wire := 7; let force := 0; s.gate m (CMX_B_CTRL d b) = .pass ∧ s.bState d b ≠ 1 ∧ ((s.answer (.ok 0)).setFs [(CMX_B_CTRL_WIRE d b, wire), (CMX_B_CTRL_FORCE d b, force)]).bState d b ≠ 3) ∧
    (let s := State.reset.setFs [(CMX_B_STATUS_STATE 5 9, 0)]; let m := Master.firmware; let d := 5; let b := 9; let wire := 7; let force := 0; s.gate m (CMX_B_CTRL d b) = .pass ∧ s.bState d b ≠ 1 ∧ ((s.answer (.ok 0)).setFs [(CMX_B_CTRL_WIRE d b, wire), (CMX_B_CTRL_FORCE d b, force)]).bState d b ≠ 2) ∧
    (let s := State.reset.setFs [(CMX_B_STATUS_STATE 5 9, 0)]; let m := Master.firmware; let d := 5; let b := 9; let wire := 7; let force := 0; s.gate m (CMX_B_CTRL d b) = .pass ∧ s.bState d b ≠ 1 ∧ ((s.answer (.ok 0)).setFs [(CMX_B_CTRL_WIRE d b, wire), (CMX_B_CTRL_FORCE d b, force)]).bState d b ≠ 2 ∧ ((s.answer (.ok 0)).setFs [(CMX_B_CTRL_WIRE d b, wire), (CMX_B_CTRL_FORCE d b, force)]).bState d b ≠ 3) ∧
    (let s := State.reset.setFs [(CMX_B_STATUS_STATE 5 9, 0)]; let m := Master.firmware; let d := 5; let b := 9; let wire := 7; let force := 0; s.gate m (CMX_B_CTRL d b) = .pass ∧ s.bState d b ≠ 1 ∧ ((s.answer (.ok 0)).setFs [(CMX_B_CTRL_WIRE d b, wire), (CMX_B_CTRL_FORCE d b, force)]).bState d b ≠ 2 ∧ ((s.answer (.ok 0)).setFs [(CMX_B_CTRL_WIRE d b, wire), (CMX_B_CTRL_FORCE d b, force)]).bState d b ≠ 5) ∧
    (let s := State.reset.setFs [(CMX_B_STATUS_STATE 5 9, 3)]; let m := Master.firmware; let d := 5; let b := 9; let wire := 7; let force := 0; s.gate m (CMX_B_CTRL d b) = .pass ∧ s.bState d b ≠ 1 ∧ ((s.answer (.ok 0)).setFs [(CMX_B_CTRL_WIRE d b, wire), (CMX_B_CTRL_FORCE d b, force)]).bState d b ≠ 0 ∧ ((s.answer (.ok 0)).setFs [(CMX_B_CTRL_WIRE d b, wire), (CMX_B_CTRL_FORCE d b, force)]).bState d b ≠ 2) :=
  by and_intros <;> decide +kernel
theorem test_bundleCommands_2 :
    (let s := State.reset.setFs [(CMX_B_STATUS_STATE 5 9, 3), (HUB_RGN_STATE_STATE 44, 2)]; let m := Master.firmware; let d := 5; let b := 9; let wire := 7; let force := 0; s.gate m (CMX_B_CTRL d b) = .pass ∧ s.bState d b ≠ 1 ∧ ((s.answer (.ok 0)).setFs [(CMX_B_CTRL_WIRE d b, wire), (CMX_B_CTRL_FORCE d b, force)]).bState d b = 3 ∧ (decide (((s.answer (.ok 0)).setFs [(CMX_B_CTRL_WIRE d b, wire), (CMX_B_CTRL_FORCE d b, force)]).f (CMX_B_CTRL_FORCE d b) = 0) && ((s.answer (.ok 0)).setFs [(CMX_B_CTRL_WIRE d b, wire), (CMX_B_CTRL_FORCE d b, force)]).bundleUsed d b) = true) ∧
    (let s := State.reset.setFs [(CMX_B_STATUS_STATE 5 9, 5)]; let m := Master.firmware; let d := 5; let b := 9; let wire := 7; let force := 0; s.gate m (CMX_B_CTRL d b) = .pass ∧ s.bState d b ≠ 1 ∧ (((s.answer (.ok 0)).setFs [(CMX_B_CTRL_WIRE d b, wire), (CMX_B_CTRL_FORCE d b, force)]).bState d b = 2 ∨ ((s.answer (.ok 0)).setFs [(CMX_B_CTRL_WIRE d b, wire), (CMX_B_CTRL_FORCE d b, force)]).bState d b = 5) ∧ ((s.answer (.ok 0)).setFs [(CMX_B_CTRL_WIRE d b, wire), (CMX_B_CTRL_FORCE d b, force)]).rState (bundleRegion d b) = 0 ∧ ((s.answer (.ok 0)).setFs [(CMX_B_CTRL_WIRE d b, wire), (CMX_B_CTRL_FORCE d b, force)]).validRoutes.any (((s.answer (.ok 0)).setFs [(CMX_B_CTRL_WIRE d b, wire), (CMX_B_CTRL_FORCE d b, force)]).xrNames d b) = false) ∧
    (let s := State.reset.setFs [(CMX_B_STATUS_STATE 5 9, 5), (HUB_RGN_STATE_STATE 44, 2)]; let m := Master.firmware; let d := 5; let b := 9; let wire := 7; let force := 0; s.gate m (CMX_B_CTRL d b) = .pass ∧ s.bState d b ≠ 1 ∧ (((s.answer (.ok 0)).setFs [(CMX_B_CTRL_WIRE d b, wire), (CMX_B_CTRL_FORCE d b, force)]).bState d b = 2 ∨ ((s.answer (.ok 0)).setFs [(CMX_B_CTRL_WIRE d b, wire), (CMX_B_CTRL_FORCE d b, force)]).bState d b = 5) ∧ (((s.answer (.ok 0)).setFs [(CMX_B_CTRL_WIRE d b, wire), (CMX_B_CTRL_FORCE d b, force)]).rState (bundleRegion d b) ≠ 0 ∨ ((s.answer (.ok 0)).setFs [(CMX_B_CTRL_WIRE d b, wire), (CMX_B_CTRL_FORCE d b, force)]).validRoutes.any (((s.answer (.ok 0)).setFs [(CMX_B_CTRL_WIRE d b, wire), (CMX_B_CTRL_FORCE d b, force)]).xrNames d b) = true)) ∧
    (let s := State.reset.setFs [(CMX_B_STATUS_STATE 5 9, 2)]; let m := Master.firmware; let d := 5; let b := 9; let wire := 2111; let force := 0; s.gate m (CMX_B_CTRL d b) = .pass ∧ s.bState d b ≠ 1 ∧ (((s.answer (.ok 0)).setFs [(CMX_B_CTRL_WIRE d b, wire), (CMX_B_CTRL_FORCE d b, force)]).bState d b = 0 ∨ ((s.answer (.ok 0)).setFs [(CMX_B_CTRL_WIRE d b, wire), (CMX_B_CTRL_FORCE d b, force)]).bState d b = 2) ∧ ((s.answer (.ok 0)).setFs [(CMX_B_CTRL_WIRE d b, wire), (CMX_B_CTRL_FORCE d b, force)]).f (CMX_B_CTRL_WIRE d b) < 2112) ∧
    (let s := State.reset.setFs [(CMX_B_STATUS_STATE 5 9, 1)]; let m := Master.firmware; let d := 5; let b := 9; s.gate m (CMX_B_CTRL d b) = .pass ∧ s.bState d b = 1) ∧
    (let s := State.reset.setFs [(CMX_B_STATUS_STATE 5 9, 1)]; let m := Master.firmware; let d := 5; let b := 9; s.gate m (CMX_B_CTRL d b) = .pass ∧ s.bState d b = 1) ∧
    (let s := State.reset.setFs [(CMX_B_STATUS_STATE 5 9, 1)]; let m := Master.firmware; let d := 5; let b := 9; s.gate m (CMX_B_CTRL d b) = .pass ∧ s.bState d b = 1) ∧
    (let s := State.reset.setFs [(CMX_B_STATUS_STATE 5 9, 1)]; let m := Master.firmware; let d := 5; let b := 9; s.gate m (CMX_B_CTRL d b) = .pass ∧ s.bState d b = 1) ∧
    (let s := State.reset.setFs [(CMX_B_STATUS_STATE 5 9, 1)]; let m := Master.firmware; let d := 5; let b := 9; s.gate m (CMX_B_CTRL d b) = .pass ∧ s.bState d b = 1) :=
  by and_intros <;> decide +kernel
theorem test_heartbeatAndTrainingCommands :
    (let s := State.reset.setFs [(CMX_B_STATUS_STATE 5 9, 3)]; let d := 5; let b := 9; let f : HbFrame := ⟨0, 0, [], [], [], []⟩; s.beatOk d b f = true ∧ (s.bState d b = 3 ∨ s.bState d b = 4)) ∧
    (let s := State.reset.setFs [(CMX_B_STATUS_STATE 5 9, 1)]; let d := 5; let b := 9; let f : HbFrame := ⟨0, 0, [], [], [], []⟩; s.beatOk d b f = true ∧ s.bState d b = 1) ∧
    (let s := State.reset; let d := 5; let b := 9; let f : HbFrame := ⟨0, 0, [], [], [], []⟩; s.beatOk d b f = false) ∧
    (let s := State.reset; let d := 5; let b := 9; let f : HbFrame := ⟨0, 0, [], [], [], []⟩; (s.bState d b = 0 ∨ s.bState d b = 5 ∨ s.cmx.resets.contains d = true ∨ s.pllState (115 + d) = 3 ∨ (s.bState d b ≠ 1 ∧ f.seq ≠ (s.bundleAt d b).seq))) ∧
    (let s := State.reset.setFs [(CMX_B_STATUS_STATE 5 9, 4)]; let d := 5; let b := 9; s.beats d b = true ∧ (s.bState d b = 3 ∨ s.bState d b = 4)) ∧
    (let s := State.reset.setFs [(CMX_B_STATUS_STATE 5 9, 1)]; let d := 5; let b := 9; s.beats d b = true ∧ s.bState d b = 1) ∧
    (let s := (State.reset.setFs [(CMX_B_STATUS_STATE 5 9, 1), (CMX_B_STATUS_ATTEMPTS 5 9, 1)]).updBundle 5 9 fun x => { x with agree := some 0 }; let d := 5; let b := 9; s.bState d b = 1 ∧ (s.setF (CMX_B_STATUS_ATTEMPTS d b) (min 3 (s.f (CMX_B_STATUS_ATTEMPTS d b) + 1))).f (CMX_B_STATUS_ATTEMPTS d b) ≠ 3) ∧
    (let s := (State.reset.setFs [(CMX_B_STATUS_STATE 5 9, 1), (CMX_B_STATUS_ATTEMPTS 5 9, 2)]).updBundle 5 9 fun x => { x with agree := some 0 }; let d := 5; let b := 9; s.bState d b = 1 ∧ (s.setF (CMX_B_STATUS_ATTEMPTS d b) (min 3 (s.f (CMX_B_STATUS_ATTEMPTS d b) + 1))).f (CMX_B_STATUS_ATTEMPTS d b) = 3) ∧
    (let s := (State.reset.setFs [(CMX_B_STATUS_STATE 5 9, 1), (CMX_B_STATUS_ATTEMPTS 5 9, 1)]).updBundle 5 9 fun x => { x with agree := some 0 }; let d := 5; let b := 9; (s.bundleAt d b).agree.isNone = false ∧ (s.bundleAt d b).trained = false ∧ s.bState d b = 1 ∧ (s.setF (CMX_B_STATUS_ATTEMPTS d b) (min 3 (s.f (CMX_B_STATUS_ATTEMPTS d b) + 1))).f (CMX_B_STATUS_ATTEMPTS d b) ≠ 3) ∧
    (let s := (State.reset.setFs [(CMX_B_STATUS_STATE 5 9, 1), (CMX_B_STATUS_ATTEMPTS 5 9, 2)]).updBundle 5 9 fun x => { x with agree := some 0 }; let d := 5; let b := 9; (s.bundleAt d b).agree.isNone = false ∧ (s.bundleAt d b).trained = false ∧ s.bState d b = 1 ∧ (s.setF (CMX_B_STATUS_ATTEMPTS d b) (min 3 (s.f (CMX_B_STATUS_ATTEMPTS d b) + 1))).f (CMX_B_STATUS_ATTEMPTS d b) = 3) ∧
    (let s := (State.reset.setF (CMX_B_STATUS_STATE 5 9) 2).updBundle 5 9 fun x => { x with retry := true }; let d := 5; let b := 9; s.bState d b = 2 ∧ (s.bundleAt d b).retry = true) ∧
    (let s := State.reset.setFs [(CMX_B_STATUS_STATE 5 9, 1)]; let d := 5; let b := 9; s.bState d b = 1 ∧ (s.bundleAt d b).agree = none) ∧
    (let s := State.reset.updBundle 5 9 fun x => { x with agree := some 9 }; let d := 5; let b := 9; let n := 9; (s.bundleAt d b).agree = some n) ∧
    (let s := State.reset.updNoc fun n => { n with sent := SMap.put (fun _ => none) n.sent (32 * 1 + 1) (some pkt1) }; let k := 1; let p := 1; let inward := false; let j := 0; let err := 1; s.flitFails k p inward j err = true) ∧
    (let s := State.reset; let k := 1; let p := 1; let inward := false; let j := 0; let err := 1; s.flitFails k p inward j err = false) :=
  by and_intros <;> decide +kernel
theorem test_dieAndRouteCommands :
    (let s := State.reset.setFs [(HUB_RGN_STATE_LEASE 44, 7), (CMX_B_STATUS_STATE 5 9, 3)]; let m := Master.firmware; let d := 5; let b := 9; let p := 0; let valid := 1; let sd := 5; let sb := 9; let sp := 1; s.gate m (CMX_XR d b p) = .pass ∧ (s.arb (.tether d)).fenced.contains 0 = false) ∧
    (let s := State.reset.setArb (.tether 5) (Arb.empty.fence 0); let m := Master.firmware; let d := 5; let b := 9; let p := 0; let valid := 1; let sd := 5; let sb := 9; let sp := 1; s.gate m (CMX_XR d b p) = .pass ∧ (s.arb (.tether d)).fenced.contains 0 = true) ∧
    (let s := (State.reset.updCmx fun c => { c with xrq := [⟨5, 9, 0, 0, 0, 0, 0⟩] }).arbRequest (.tether 5) [⟨0, 0, 0, 0⟩]; let d := 5; let x : XrWrite := ⟨5, 9, 0, 0, 0, 0, 0⟩; s.arbOwns (.tether d) 0 = true ∧ s.cmx.xrq.find? (fun x => decide (x.d = d)) = some x) ∧
    (let s := State.reset.setFs [(HUB_RGN_STATE_LEASE 44, 7), (CMX_B_STATUS_STATE 5 9, 3)]; let d := 5; let b := 9; let p := 0; let valid := 1; let sd := 5; let sb := 9; let sp := 1; (valid = 0 ∨ s.xrCheck d b p sd sb sp = 0)) ∧
    (let s := State.reset; let d := 5; let b := 9; let p := 0; let valid := 1; let sd := 5; let sb := 9; let sp := 1; valid ≠ 0 ∧ s.xrCheck d b p sd sb sp ≠ 0) ∧
    (let s := State.reset.setFs [(CMX_DIE_STATUS_STATE 5, 2)]; let m := Master.firmware; let d := 5; s.gate m (CMX_DIE_CTRL d) = .pass ∧ s.dieState d = 2) ∧
    (let s := State.reset; let m := Master.firmware; let d := 5; s.gate m (CMX_DIE_CTRL d) = .pass ∧ (s.dieState d = 0 ∨ s.dieState d = 1)) ∧
    (let s := State.reset.setFs [(CMX_DIE_STATUS_STATE 5, 3)]; let m := Master.firmware; let d := 5; s.gate m (CMX_DIE_CTRL d) = .pass ∧ dieIsolated s d = true) ∧
    (let s := State.reset; let m := Master.firmware; let d := 5; s.gate m (CMX_DIE_CTRL d) = .pass ∧ (s.dieState d = 0 ∨ s.dieState d = 3)) ∧
    (let s := State.reset.setFs [(CMX_DIE_STATUS_STATE 5, 2)]; let m := Master.firmware; let d := 5; s.gate m (CMX_DIE_CTRL d) = .pass ∧ (¬ (s.dieState d = 0 ∨ s.dieState d = 3))) ∧
    (let s := State.reset.setFs [(CMX_DIE_STATUS_STATE 5, 1)]; let d := 5; s.dieState d = 1) ∧
    (let s := (State.reset.setF (CMX_DIE_STATUS_STATE 5) 1).setFs ((List.range 16).map fun b => (CMX_B_STATUS_STATE 5 b, 3)); let d := 5; s.dieState d = 1 ∧ ((List.range 16).any fun b => decide (s.bState d b ≠ 3 ∧ s.bState d b ≠ 5)) = false ∧ s.allDisabled d = false) ∧
    (let s := (State.reset.setF (CMX_DIE_STATUS_STATE 5) 1).setFs ((List.range 16).map fun b => (CMX_B_STATUS_STATE 5 b, 3)); let d := 5; s.dieState d = 1 ∧ ((List.range 16).any fun b => decide (s.bState d b ≠ 3 ∧ s.bState d b ≠ 5)) = false ∧ s.allDisabled d = false) ∧
    (let s := (State.reset.setF (CMX_DIE_STATUS_STATE 5) 1).setFs ((List.range 16).map fun b => (CMX_B_STATUS_STATE 5 b, 5)); let d := 5; s.dieState d = 1 ∧ ((List.range 16).any fun b => decide (s.bState d b ≠ 3 ∧ s.bState d b ≠ 5)) = false ∧ s.allDisabled d = true) :=
  by and_intros <;> decide +kernel
theorem test_nocPacketCommands_1 :
    (let s := State.reset; let p := { pkt1 with src := nodeAt 27 7, dst := nodeAt 27 5, opc := opcRead }; let q := { { p with opc := opcRead, data := [], be := [] } with lease := 0, kv := false, key := 0 }; ({ p with opc := opcRead, data := [], be := [] }) = { p with opc := opcRead, data := [], be := [] } ∧ s.napMaySend p.src = true ∧ s.f (NOC_PORT_STATUS_STATE (nodeRouter p.src) (nodePort p.src)) = 1 ∧ (s.dueOf p.src).length < 64 ∧ (if isTenantSrc { ({ p with opc := opcRead, data := [], be := [] }) with vc := s.vcOf ({ p with opc := opcRead, data := [], be := [] }) } then s.napCheck { ({ p with opc := opcRead, data := [], be := [] }) with vc := s.vcOf ({ p with opc := opcRead, data := [], be := [] }) } (s.srcLease ({ p with opc := opcRead, data := [], be := [] })) else s.hubStamp { ({ p with opc := opcRead, data := [], be := [] }) with vc := s.vcOf ({ p with opc := opcRead, data := [], be := [] }) }) =
      .forward q) ∧
    (let s := State.reset; let p := { pkt1 with src := nodeAt 27 7, dst := noNode, opc := opcRead }; let p := { p with addr := 0x100, bcnt := 511 }; let st := stErr; let c := false; let log := none; ({ p with opc := opcRead, data := [], be := [] }) = { p with opc := opcRead, data := [], be := [] } ∧ s.napMaySend p.src = true ∧ s.f (NOC_PORT_STATUS_STATE (nodeRouter p.src) (nodePort p.src)) = 1 ∧ (s.dueOf p.src).length < 64 ∧ (if isTenantSrc { ({ p with opc := opcRead, data := [], be := [] }) with vc := s.vcOf ({ p with opc := opcRead, data := [], be := [] }) } then s.napCheck { ({ p with opc := opcRead, data := [], be := [] }) with vc := s.vcOf ({ p with opc := opcRead, data := [], be := [] }) } (s.srcLease ({ p with opc := opcRead, data := [], be := [] })) else s.hubStamp { ({ p with opc := opcRead, data := [], be := [] }) with vc := s.vcOf ({ p with opc := opcRead, data := [], be := [] }) }) =
      .answer st c log) ∧
    (let s := State.reset; let p := pkt1; (s.napMaySend p.src = false ∨ s.f (NOC_PORT_STATUS_STATE (nodeRouter p.src) (nodePort p.src)) ≠ 1 ∨ 64 ≤ (s.dueOf p.src).length)) ∧
    (let s := State.reset; let p := { pkt1 with src := nodeAt 27 7, dst := nodeAt 27 5, opc := opcWrite }; let q := { { p with opc := opcWrite } with lease := 0, kv := false, key := 0 }; ({ p with opc := opcWrite }) = { p with opc := opcWrite } ∧ s.napMaySend p.src = true ∧ s.f (NOC_PORT_STATUS_STATE (nodeRouter p.src) (nodePort p.src)) = 1 ∧ (s.dueOf p.src).length < 64 ∧ (if isTenantSrc { ({ p with opc := opcWrite }) with vc := s.vcOf ({ p with opc := opcWrite }) } then s.napCheck { ({ p with opc := opcWrite }) with vc := s.vcOf ({ p with opc := opcWrite }) } (s.srcLease ({ p with opc := opcWrite })) else s.hubStamp { ({ p with opc := opcWrite }) with vc := s.vcOf ({ p with opc := opcWrite }) }) =
      .forward q) ∧
    (let s := State.reset; let p := { pkt1 with src := nodeAt 27 7, dst := noNode, opc := opcWrite }; let p := { p with addr := 0x100, bcnt := 511 }; let st := stErr; let c := false; let log := none; ({ p with opc := opcWrite }) = { p with opc := opcWrite } ∧ s.napMaySend p.src = true ∧ s.f (NOC_PORT_STATUS_STATE (nodeRouter p.src) (nodePort p.src)) = 1 ∧ (s.dueOf p.src).length < 64 ∧ (if isTenantSrc { ({ p with opc := opcWrite }) with vc := s.vcOf ({ p with opc := opcWrite }) } then s.napCheck { ({ p with opc := opcWrite }) with vc := s.vcOf ({ p with opc := opcWrite }) } (s.srcLease ({ p with opc := opcWrite })) else s.hubStamp { ({ p with opc := opcWrite }) with vc := s.vcOf ({ p with opc := opcWrite }) }) =
      .answer st c log) ∧
    (let s := State.reset; let p := pkt1; (s.napMaySend p.src = false ∨ s.f (NOC_PORT_STATUS_STATE (nodeRouter p.src) (nodePort p.src)) ≠ 1 ∨ 64 ≤ (s.dueOf p.src).length)) ∧
    (let r := { pkt1 with dst := engineNode 0, tag := 5, opc := opcReadRsp }; let s := State.reset.updNoc fun n => { n with rsps := [r] }; let node := engineNode 0; let tag := 5; let e := 0; s.rspFor node tag = some r ∧ r.opc = opcReadRsp ∧ unitOf node = .engine e) ∧
    (let r := { pkt1 with dst := nodeAt 0 0, tag := 5, opc := opcReadRsp }; let s := (State.reset.updNoc fun n => { n with rsps := [r] }).setF (NOC_PORT_STATUS_STATE 0 4) 4; let node := nodeAt 0 0; let tag := 5; s.rspFor node tag = some r ∧ r.opc = opcReadRsp ∧ ((∀ e, unitOf node ≠ .engine e)) ∧ s.rspFenced node = true) ∧
    (let r := { pkt1 with dst := 0x1B6, tag := 5, opc := opcReadRsp }; let s := State.reset.updNoc fun n => { n with rsps := [r] }; let node := 0x1B6; let tag := 5; s.rspFor node tag = some r ∧ r.opc = opcReadRsp ∧ ((∀ e, unitOf node ≠ .engine e)) ∧ s.rspFenced node = false) ∧
    (let r := { pkt1 with dst := 0x1B6, tag := 5, opc := opcReadRsp }; let s := State.reset.updNoc fun n => { n with rsps := [r] }; let node := 0x1B6; let tag := 5; s.rspFor node tag = some r ∧ r.opc = opcReadRsp ∧ unitOf node = .cfgCtl ∧ s.rspFenced node = false ∧ (s.takeRsp node tag).f (NOC_PORT_STATUS_STATE (nodeRouter node) (nodePort node)) = 1) ∧
    (let s := State.reset; let node := 0x187; let tag := 5; ((∀ r, s.rspFor node tag = some r → r.opc ≠ opcReadRsp))) ∧
    (let r := { pkt1 with dst := engineNode 0, tag := 5, opc := opcWriteRsp }; let s := State.reset.updNoc fun n => { n with rsps := [r] }; let node := engineNode 0; let tag := 5; let e := 0; s.rspFor node tag = some r ∧ r.opc = opcWriteRsp ∧ unitOf node = .engine e) :=
  ⟨by decide +kernel,
   by decide +kernel,
   by decide +kernel,
   by decide +kernel,
   by decide +kernel,
   (by decide +kernel),
   by decide +kernel,
   ⟨by decide +kernel, by decide +kernel, fun e h => absurd (h.symm.trans (by decide +kernel : unitOf (nodeAt 0 0) = .fabricNap (regionAt 0) 0)) (by intro x; cases x), by decide +kernel⟩,
   ⟨by decide +kernel, by decide +kernel, fun e h => absurd (h.symm.trans (by decide +kernel : unitOf 0x1B6 = .cfgCtl)) (by intro x; cases x), by decide +kernel⟩,
   by decide +kernel,
   (fun r h => by cases h),
   by decide +kernel⟩
theorem test_nocPacketCommands_2 :
    (let r := { pkt1 with dst := nodeAt 0 0, tag := 5, opc := opcWriteRsp }; let s := (State.reset.updNoc fun n => { n with rsps := [r] }).setF (NOC_PORT_STATUS_STATE 0 4) 4; let node := nodeAt 0 0; let tag := 5; s.rspFor node tag = some r ∧ r.opc = opcWriteRsp ∧ ((∀ e, unitOf node ≠ .engine e)) ∧ s.rspFenced node = true) ∧
    (let r := { pkt1 with dst := 0x1B6, tag := 5, opc := opcWriteRsp }; let s := State.reset.updNoc fun n => { n with rsps := [r] }; let node := 0x1B6; let tag := 5; s.rspFor node tag = some r ∧ r.opc = opcWriteRsp ∧ ((∀ e, unitOf node ≠ .engine e)) ∧ s.rspFenced node = false) ∧
    (let r := { pkt1 with dst := 0x1B6, tag := 5, opc := opcWriteRsp }; let s := State.reset.updNoc fun n => { n with rsps := [r] }; let node := 0x1B6; let tag := 5; s.rspFor node tag = some r ∧ r.opc = opcWriteRsp ∧ unitOf node = .cfgCtl ∧ s.rspFenced node = false ∧ (s.takeRsp node tag).f (NOC_PORT_STATUS_STATE (nodeRouter node) (nodePort node)) = 1) ∧
    (let s := State.reset; let node := 0x187; let tag := 5; ((∀ r, s.rspFor node tag = some r → r.opc ≠ opcWriteRsp))) ∧
    (let p := { pkt1 with src := nodeAt 57 6 }; let s := State.reset.setFs [(NOC_PORT_STATUS_STATE 57 9, 1), (NOC_ROUTER_STATUS_STATE 57, 1)]; ({ p with opc := opcMirror, vc := 3, dst := nodeAt 57 5, rset := s.activeSet }) = { p with opc := opcMirror, vc := 3, dst := nodeAt 57 5, rset := s.activeSet } ∧ (s.travel ({ p with opc := opcMirror, vc := 3, dst := nodeAt 57 5, rset := s.activeSet }) (nodeRouter p.src) (nodePort p.src)).2 = .through ∧ ({ p with opc := opcMirror, vc := 3, dst := nodeAt 57 5, rset := s.activeSet }).ended = false ∧ (s.travel ({ p with opc := opcMirror, vc := 3, dst := nodeAt 57 5, rset := s.activeSet }) (nodeRouter p.src) (nodePort p.src)).1.portRefusal ({ p with opc := opcMirror, vc := 3, dst := nodeAt 57 5, rset := s.activeSet }).dst = none) ∧
    (let p := { pkt1 with src := nodeAt 57 6 }; let s := State.reset.setF (NOC_ROUTER_STATUS_STATE 57) 1; ({ p with opc := opcMirror, vc := 3, dst := nodeAt 57 5, rset := s.activeSet }) = { p with opc := opcMirror, vc := 3, dst := nodeAt 57 5, rset := s.activeSet } ∧ (s.travel ({ p with opc := opcMirror, vc := 3, dst := nodeAt 57 5, rset := s.activeSet }) (nodeRouter p.src) (nodePort p.src)).2 = .through ∧ (({ p with opc := opcMirror, vc := 3, dst := nodeAt 57 5, rset := s.activeSet }).ended = true ∨ (s.travel ({ p with opc := opcMirror, vc := 3, dst := nodeAt 57 5, rset := s.activeSet }) (nodeRouter p.src) (nodePort p.src)).1.portRefusal ({ p with opc := opcMirror, vc := 3, dst := nodeAt 57 5, rset := s.activeSet }).dst ≠ none)) ∧
    (let p := { pkt1 with src := nodeAt 57 6 }; let s := (State.reset.setF (NOC_ROUTER_STATUS_STATE 57) 1).setArb (.noc 57 9) { Arb.empty with owner := some ⟨1, 0, 0, 0, 0, 0, false⟩ }; ({ p with opc := opcMirror, vc := 3, dst := nodeAt 57 5, rset := s.activeSet }) = { p with opc := opcMirror, vc := 3, dst := nodeAt 57 5, rset := s.activeSet } ∧ (s.travel ({ p with opc := opcMirror, vc := 3, dst := nodeAt 57 5, rset := s.activeSet }) (nodeRouter p.src) (nodePort p.src)).2 = .waits) ∧
    (let p := { pkt1 with src := nodeAt 57 6 }; let s := State.reset.setF (NOC_ROUTER_STATUS_STATE 57) 2; let st := stUnreach; let k := 57; let i := 10; ({ p with opc := opcMirror, vc := 3, dst := nodeAt 57 5, rset := s.activeSet }) = { p with opc := opcMirror, vc := 3, dst := nodeAt 57 5, rset := s.activeSet } ∧ (s.travel ({ p with opc := opcMirror, vc := 3, dst := nodeAt 57 5, rset := s.activeSet }) (nodeRouter p.src) (nodePort p.src)).2 = .lost st k i) ∧
    (let p := { pkt1 with dst := sinkNode, opc := opcTrace, src := 7 }; let src := 7; let s := State.reset.updNoc fun n => { n with inbox := [p] }; s.noc.inbox.find? (fun p => decide (p.dst = sinkNode ∧ p.opc = opcTrace ∧ p.src = src)) = some p) ∧
    (let s := State.reset; let src := 7; s.noc.inbox.find? (fun p => decide (p.dst = sinkNode ∧ p.opc = opcTrace ∧ p.src = src)) = none) ∧
    (let s := (State.reset.setF (NOC_PORT_STATUS_STATE 0 4) 1).updNoc fun n => { n with owed := nput n.owed 0 1 }; let node := 0; isTenantPort (nodeRouter node) (nodePort node) = true ∧ s.f (NOC_PORT_STATUS_STATE (nodeRouter node) (nodePort node)) = 1 ∧ s.creditDue node = true) ∧
    (let s := State.reset; let node := 0; (isTenantPort (nodeRouter node) (nodePort node) = false ∨ s.f (NOC_PORT_STATUS_STATE (nodeRouter node) (nodePort node)) ≠ 1 ∨ s.creditDue node = false)) :=
  ⟨⟨by decide +kernel, by decide +kernel, fun e h => absurd (h.symm.trans (by decide +kernel : unitOf (nodeAt 0 0) = .fabricNap (regionAt 0) 0)) (by intro x; cases x), by decide +kernel⟩,
   ⟨by decide +kernel, by decide +kernel, fun e h => absurd (h.symm.trans (by decide +kernel : unitOf 0x1B6 = .cfgCtl)) (by intro x; cases x), by decide +kernel⟩,
   by decide +kernel,
   (fun r h => by cases h),
   by decide +kernel,
   by decide +kernel,
   by decide +kernel,
   by decide +kernel,
   by decide +kernel,
   (by decide +kernel),
   by decide +kernel,
   by decide +kernel⟩
theorem test_nocPortAndRouterCommands_1 :
    (let s := State.reset.updNoc fun n => { n with inbox := [pkt1] }; let m := Master.firmware; let k := 0; let p := 5; s.gate m (NOC_PORT_CTRL k p) = .pass ∧ s.portBusy k p = true) ∧
    (let s := State.reset.setFs [(NOC_PORT_STATUS_STATE 0 4, 2)]; let m := Master.firmware; let k := 0; let p := 4; s.gate m (NOC_PORT_CTRL k p) = .pass ∧ s.portBusy k p = false ∧ s.f (NOC_PORT_STATUS_STATE k p) ≠ 1) ∧
    (let s := State.reset.setFs [(NOC_PORT_STATUS_STATE 0 4, 1), (HUB_RGN_STATE_STATE (regionAt 0), 2)]; let m := Master.firmware; let k := 0; let p := 4; s.gate m (NOC_PORT_CTRL k p) = .pass ∧ s.portBusy k p = false ∧ s.f (NOC_PORT_STATUS_STATE k p) = 1 ∧ (if p < 4 then s.linkUsed k p || s.linkUsed (neighbour k p) (facing p) else s.napInUse k p) = true) ∧
    (let s := State.reset.setFs [(NOC_PORT_STATUS_STATE 63 1, 1)]; let m := Master.firmware; let k := 63; let p := 1; s.gate m (NOC_PORT_CTRL k p) = .pass ∧ s.portBusy k p = false ∧ s.f (NOC_PORT_STATUS_STATE k p) = 1 ∧ (if p < 4 then s.linkUsed k p || s.linkUsed (neighbour k p) (facing p) else s.napInUse k p) = false ∧ p < 4) ∧
    (let s := State.reset.setFs [(NOC_PORT_STATUS_STATE 0 4, 1)]; let m := Master.firmware; let k := 0; let p := 4; s.gate m (NOC_PORT_CTRL k p) = .pass ∧ s.portBusy k p = false ∧ s.f (NOC_PORT_STATUS_STATE k p) = 1 ∧ (if p < 4 then s.linkUsed k p || s.linkUsed (neighbour k p) (facing p) else s.napInUse k p) = false ∧ 4 ≤ p) ∧
    (let s := State.reset; let m := Master.firmware; let k := 9; let p := 1; let c := 2; s.gate m (NOC_PORT_CTRL k p) = .pass ∧ p < 4 ∧ meshPresent k p = true ∧ p < facing p) ∧
    (let s := State.reset; let m := Master.firmware; let k := 9; let p := 3; let c := 2; s.gate m (NOC_PORT_CTRL k p) = .pass ∧ p < 4 ∧ meshPresent k p = true ∧ ¬ p < facing p) ∧
    (let s := State.reset; let m := Master.firmware; let k := 9; let p := 7; let c := 2; ¬ (p < 4 ∧ meshPresent k p = true)) ∧
    (let s := State.reset.updNoc fun n => { n with inbox := [pkt1] }; let m := Master.firmware; let k := 0; let p := 5; s.gate m (NOC_PORT_CTRL k p) = .pass ∧ s.portBusy k p = true) ∧
    (let s := State.reset.setFs [(NOC_PORT_STATUS_STATE 0 4, 7)]; let m := Master.firmware; let k := 0; let p := 4; s.gate m (NOC_PORT_CTRL k p) = .pass ∧ s.portBusy k p = false ∧ (s.f (NOC_PORT_STATUS_STATE k p) = 2 ∨ s.f (NOC_PORT_STATUS_STATE k p) = 7)) ∧
    (let s := State.reset.setFs [(NOC_PORT_STATUS_STATE 0 4, 3)]; let m := Master.firmware; let k := 0; let p := 4; s.gate m (NOC_PORT_CTRL k p) = .pass ∧ s.portBusy k p = false ∧ s.f (NOC_PORT_STATUS_STATE k p) ≠ 2 ∧ s.f (NOC_PORT_STATUS_STATE k p) ≠ 7) ∧
    (let s := State.reset; let m := Master.firmware; let k := 9; let p := 1; let c := 2; s.gate m (NOC_PORT_CTRL k p) = .pass ∧ p < 4 ∧ meshPresent k p = true ∧ p < facing p) :=
  by and_intros <;> decide +kernel
theorem test_nocPortAndRouterCommands_2 :
    (let s := State.reset; let m := Master.firmware; let k := 9; let p := 3; let c := 2; s.gate m (NOC_PORT_CTRL k p) = .pass ∧ p < 4 ∧ meshPresent k p = true ∧ ¬ p < facing p) ∧
    (let s := State.reset; let m := Master.firmware; let k := 9; let p := 7; let c := 2; ¬ (p < 4 ∧ meshPresent k p = true)) ∧
    (let s := State.reset.setFs [(NOC_PORT_STATUS_STATE 0 4, 4)]; let m := Master.firmware; let k := 0; let p := 4; s.gate m (NOC_PORT_CTRL k p) = .pass ∧ s.f (NOC_PORT_STATUS_STATE k p) = 4) ∧
    (let s := State.reset.setFs [(NOC_PORT_STATUS_STATE 0 4, 1)]; let m := Master.firmware; let k := 0; let p := 4; s.gate m (NOC_PORT_CTRL k p) = .pass ∧ s.f (NOC_PORT_STATUS_STATE k p) ≠ 4) ∧
    (let s := State.reset.setFs [(NOC_ROUTER_STATUS_STATE 9, 3)]; let m := Master.firmware; let k := 9; s.gate m (NOC_ROUTER_CTRL k) = .pass ∧ s.f (NOC_ROUTER_STATUS_STATE k) = 3) ∧
    (let s := State.reset.setFs [(NOC_ROUTER_STATUS_STATE 9, 2)]; let m := Master.firmware; let k := 9; s.gate m (NOC_ROUTER_CTRL k) = .pass ∧ s.f (NOC_ROUTER_STATUS_STATE k) ≠ 3 ∧ s.f (NOC_ROUTER_STATUS_STATE k) ≠ 1) ∧
    (let s := State.reset.setFs [(NOC_ROUTER_STATUS_STATE 9, 1)]; let m := Master.firmware; let k := 9; s.gate m (NOC_ROUTER_CTRL k) = .pass ∧ s.f (NOC_ROUTER_STATUS_STATE k) = 1) ∧
    (let s := State.reset.setFs [(NOC_ROUTER_STATUS_STATE 9, 3)]; let m := Master.firmware; let k := 9; s.gate m (NOC_ROUTER_CTRL k) = .pass ∧ s.f (NOC_ROUTER_STATUS_STATE k) = 3) ∧
    (let s := State.reset.setFs [(NOC_ROUTER_STATUS_STATE 9, 2)]; let m := Master.firmware; let k := 9; s.gate m (NOC_ROUTER_CTRL k) = .pass ∧ (s.f (NOC_ROUTER_STATUS_STATE k) = 2 ∨ s.f (NOC_ROUTER_STATUS_STATE k) = 7)) ∧
    (let s := State.reset.setFs [(NOC_ROUTER_STATUS_STATE 9, 1)]; let m := Master.firmware; let k := 9; s.gate m (NOC_ROUTER_CTRL k) = .pass ∧ s.f (NOC_ROUTER_STATUS_STATE k) ≠ 3 ∧ s.f (NOC_ROUTER_STATUS_STATE k) ≠ 2 ∧ s.f (NOC_ROUTER_STATUS_STATE k) ≠ 7) ∧
    (let s := State.reset.setFs [(NOC_ROUTER_STATUS_STATE 9, 3)]; let k := 9; s.f (NOC_ROUTER_STATUS_STATE k) = 3) ∧
    (let s := State.reset.setFs [(NOC_ROUTER_STATUS_STATE 9, 3)]; let k := 9; s.f (NOC_ROUTER_STATUS_STATE k) = 3) :=
  by and_intros <;> decide +kernel
theorem test_nocPortAndRouterCommands_3 :
    (let s := State.reset.setFs [(NOC_PORT_STATUS_STATE 0 4, 3)]; let k := 0; let p := 4; p ≠ 31 ∧ s.f (NOC_PORT_STATUS_STATE k p) = 3) ∧
    (let s := State.reset.setFs [(NOC_PORT_STATUS_STATE 0 4, 3)]; let k := 0; let p := 4; p ≠ 31 ∧ s.f (NOC_PORT_STATUS_STATE k p) = 3) ∧
    (let s := State.reset.setFs [(NOC_PORT_STATUS_STATE 0 4, 1)]; let k := 0; let p := 4; ((p = 31 ∧ s.f (NOC_ROUTER_STATUS_STATE k) ≠ 3) ∨ (p ≠ 31 ∧ s.f (NOC_PORT_STATUS_STATE k p) ≠ 3))) ∧
    (let s := State.reset.setFs [(NOC_PORT_STATUS_STATE 0 4, 1)]; let k := 0; let p := 4; s.f (NOC_PORT_STATUS_STATE k p) ≠ 8) ∧
    (let s := State.reset.setFs [(NOC_PORT_STATUS_STATE 9 1, 1)]; let k := 9; let p := 1; s.f (NOC_PORT_STATUS_STATE k p) ≠ 8 ∧ p < 4) ∧
    (let s := State.reset.setFs [(NOC_PORT_STATUS_STATE 0 4, 1)]; let k := 0; let p := 4; s.f (NOC_PORT_STATUS_STATE k p) ≠ 8 ∧ 4 ≤ p) ∧
    (let s := State.reset.setFs [(NOC_PORT_STATUS_STATE 0 4, 8)]; let k := 0; let p := 4; s.f (NOC_PORT_STATUS_STATE k p) = 8) ∧
    (let s := State.reset.setFs [(NOC_PORT_STATUS_STATE 63 9, 5)]; let k := 63; let p := 9; let far := true; ((s.updNoc fun n => { n with down := n.down.filter (· ≠ sideKey k p far) })) = (s.updNoc fun n => { n with down := n.down.filter (· ≠ sideKey k p far) }) ∧ (((s.updNoc fun n => { n with down := n.down.filter (· ≠ sideKey k p far) })).f (NOC_PORT_STATUS_STATE k p) = 5 ∨ ((s.updNoc fun n => { n with down := n.down.filter (· ≠ sideKey k p far) })).f (NOC_PORT_STATUS_STATE k p) = 6) ∧ ((s.updNoc fun n => { n with down := n.down.filter (· ≠ sideKey k p far) })).sidesUp k p = true ∧ ((s.updNoc fun n => { n with down := n.down.filter (· ≠ sideKey k p far) })).unitUp k p = true) ∧
    (let s := State.reset.setFs [(NOC_PORT_STATUS_STATE 0 4, 1)]; let k := 0; let p := 4; let far := true; ((s.updNoc fun n => { n with down := n.down.filter (· ≠ sideKey k p far) })) = (s.updNoc fun n => { n with down := n.down.filter (· ≠ sideKey k p far) }) ∧ ((((s.updNoc fun n => { n with down := n.down.filter (· ≠ sideKey k p far) })).f (NOC_PORT_STATUS_STATE k p) ≠ 5 ∧ ((s.updNoc fun n => { n with down := n.down.filter (· ≠ sideKey k p far) })).f (NOC_PORT_STATUS_STATE k p) ≠ 6) ∨ ((s.updNoc fun n => { n with down := n.down.filter (· ≠ sideKey k p far) })).sidesUp k p = false ∨ ((s.updNoc fun n => { n with down := n.down.filter (· ≠ sideKey k p far) })).unitUp k p = false)) ∧
    (let s := (State.reset.setF (NOC_PORT_STATUS_STATE 0 4) 6).updNoc fun n => setResync n 4 1; let k := 0; let p := 4; s.f (NOC_PORT_STATUS_STATE k p) = 6 ∧ nget s.noc.resync (32 * k + p) = 1) ∧
    (let s := State.reset.setFs [(NOC_PORT_STATUS_STATE 0 4, 6)]; let k := 0; let p := 4; (s.f (NOC_PORT_STATUS_STATE k p) ≠ 6 ∨ nget s.noc.resync (32 * k + p) ≠ 1)) :=
  by and_intros <;> decide +kernel
theorem test_nocTableAndTraceCommands :
    (let s := State.reset.setFs [(NOC_STATUS_DRAINING, 1)]; let m := Master.firmware; s.gate m NOC_EPOCH = .pass ∧ ((s.bit NOC_STATUS_CHECKING ∨ s.bit NOC_STATUS_SWAP_PENDING ∨ s.bit NOC_STATUS_DRAINING))) ∧
    (let s := State.reset; let m := Master.firmware; s.gate m NOC_EPOCH = .pass ∧ (¬ (s.bit NOC_STATUS_CHECKING ∨ s.bit NOC_STATUS_SWAP_PENDING ∨ s.bit NOC_STATUS_DRAINING))) ∧
    (let s := State.reset.setFs [(NOC_STATUS_CHECKING, 1)]; s.bit NOC_STATUS_CHECKING = true) ∧
    (let s := State.reset; s.bit NOC_STATUS_CHECKING = false) ∧
    (let s := State.reset; s.setFlies (1 - s.activeSet) = false) ∧
    (let s := State.reset.updNoc fun n => { n with rsps := [{ pkt1 with rset := 1 }] }; s.setFlies (1 - s.activeSet) = true) ∧
    (let s := State.reset.setProbe 5 ⟨[⟨4, 5, 1, 1⟩], 0, some 0, false⟩; let src := 5; src < 2 ^ 10 ∧ s.gapOver (s.probe src) = false) ∧
    (let s := State.reset; let src := 5; ¬ (src < 2 ^ 10 ∧ s.gapOver (s.probe src) = false) ∧ (s.probe src).recs = []) ∧
    (let s := State.reset.setProbe 5 ⟨[⟨4, 5, 1, 1⟩], 0, none, false⟩; let src := 5; let node := 5; let d := ((s.probe src).recs.take 32).flatMap TraceRec.toBytes; let pk : Packet := ⟨sinkNode, node, opcTrace, 0, 0, 0, d.length - 1, 0, 0, 0, false, 3, false, s.activeSet, d, []⟩; let q := (if src < 2 ^ 10 then pk else { pk with vc := s.vcOf pk }); let t := s.setProbe src { s.probe src with
      recs := (s.probe src).recs.drop 32, last := some s.nocTime, due := decide (32 ≤ ((s.probe src).recs.drop 32).length) }; ¬ (src < 2 ^ 10 ∧ s.gapOver (s.probe src) = false) ∧ (s.probe src).recs ≠ [] ∧ d = ((s.probe src).recs.take 32).flatMap TraceRec.toBytes ∧ pk =
      ⟨sinkNode, node, opcTrace, 0, 0, 0, d.length - 1, 0, 0, 0, false, 3, false, s.activeSet, d, []⟩ ∧ q = (if src < 2 ^ 10 then pk else { pk with vc := s.vcOf pk }) ∧ t = s.setProbe src { s.probe src with
      recs := (s.probe src).recs.drop 32, last := some s.nocTime, due := decide (32 ≤ ((s.probe src).recs.drop 32).length) }) ∧
    (let s := State.reset.setFs [(NOC_PRB_CTRL_TRACE_EN 9, 1), (DBG_STATUS_LEVEL, 2)]; let k := 9; s.eff (NOC_PRB_CTRL_TRACE_EN k) = 1 ∧ 1 ≤ s.f DBG_STATUS_LEVEL) ∧
    (let s := State.reset; let k := 9; (s.eff (NOC_PRB_CTRL_TRACE_EN k) ≠ 1 ∨ s.f DBG_STATUS_LEVEL = 0)) :=
  ⟨by decide +kernel,
   by decide +kernel,
   by decide +kernel,
   by decide +kernel,
   by decide +kernel,
   (by decide +kernel),
   by decide +kernel,
   by decide +kernel,
   ⟨by decide +kernel, by decide +kernel, rfl, rfl, rfl, rfl⟩,
   by decide +kernel,
   by decide +kernel⟩
theorem test_arbiterCommands :
    (let a := ArbId.pc 9; let x : ArbAsk := ⟨5, 0, 0, 0⟩; let s := State.reset.setArb a ((State.reset.arb a).fence 5); (s.arb a).fenced.contains x.idx = true) ∧
    (let s := State.reset; let a := ArbId.pc 9; let x : ArbAsk := ⟨5, 0, 0, 0⟩; (s.arb a).fenced.contains x.idx = false) ∧
    (let a := ArbId.pc 9; let s := State.reset; let lent : Option Nat := none; a ≠ .mirror ∧ ((a = .capture → s.cap.op = 0)) ∧ (((∃ k p, a = .noc k p) → lent = none))) ∧
    (let a := ArbId.pc 9; let o : ArbReq := ⟨5, 0, 0, 0, 0, 0, false⟩; let s := State.reset.setArb a { (State.reset.arb a) with owner := some o, burst := 4, beats := 3 }; let more := true; let stays := true; let t := s.setArb a ({ s.arb a with owner := none, immune := false, beats := 0, dropped := false }.setStreak o.idx 0); (s.arb a).owner = some o ∧ stays = (more && !(s.arb a).dropped) ∧ (stays = false ∨ (a.perPacket = false ∧ (s.arb a).burst ≤ (s.arb a).beats + 1)) ∧ t = s.setArb a ({ s.arb a with owner := none, immune := false, beats := 0, dropped := false }.setStreak o.idx 0)) ∧
    (let a := ArbId.pc 9; let o : ArbReq := ⟨5, 0, 0, 0, 0, 0, false⟩; let s := State.reset.setArb a { (State.reset.arb a) with owner := some o, burst := 4 }; (s.arb a).owner = some o ∧ (s.arb a).dropped = false ∧ (a.perPacket = true ∨ (s.arb a).beats + 1 < (s.arb a).burst) ∧ ((s.arb a).immune = true ∨ ((s.arb a).spool.any fun q => decide (s.arbClass a q > s.arbClass a o)) = false)) ∧
    (let a := ArbId.pc 9; let o : ArbReq := ⟨5, 0, 0, 0, 0, 0, false⟩; let q : ArbReq := ⟨6, 3, 1, 0, 0, 0, false⟩; let s := State.reset.setArb a { (State.reset.arb a) with owner := some o, burst := 4, spool := [q] }; let t := (s.setArb a ({ s.arb a with owner := none, resume := (o, (s.arb a).beats + 1) :: (s.arb a).resume, beats := 0 }.setStreak o.idx ((s.arb a).streakOf o.idx + 1))).arbPreempted a; let imm := false; (s.arb a).owner = some o ∧ (s.arb a).dropped = false ∧ (a.perPacket = true ∨ (s.arb a).beats + 1 < (s.arb a).burst) ∧ (s.arb a).immune = false ∧ ((s.arb a).spool.any fun q => decide (s.arbClass a q > s.arbClass a o)) = true ∧ t = (s.setArb a ({ s.arb a with owner := none, resume := (o, (s.arb a).beats + 1) :: (s.arb a).resume, beats := 0 }.setStreak o.idx
      ((s.arb a).streakOf o.idx + 1))).arbPreempted a ∧ t.arbPick a = some (q, imm)) ∧
    (let s := State.reset; let a := ArbId.pc 9; (s.arb a).owner = none) ∧
    (let s := State.reset.updCap fun c => { c with op := 1 }; s.cap.op ≠ 0) ∧
    (let a := ArbId.pc 9; let o : ArbReq := ⟨5, 0, 0, 0, 0, 0, false⟩; let s := State.reset.setArb a { (State.reset.arb a) with owner := some o, burst := 4 }; (s.arb a).owner = some o) ∧
    (let s := State.reset; let a := ArbId.pc 9; (s.arb a).owner = none) ∧
    (let a := ArbId.pc 9; let o : ArbReq := ⟨5, 0, 0, 0, 0, 0, false⟩; let s := State.reset.setArb a { (State.reset.arb a) with owner := some o, burst := 4 }; let idx := 5; s.arbOwns a idx = true) ∧
    (let s := State.reset; let a := ArbId.pc 9; let idx := 5; let beat := false; (beat = false ∨ s.arbOwns a idx = false)) ∧
    (let s := State.reset; let m := Master.firmware; let a := ArbId.mirror; s.gate m a.base = .pass ∧ ((∀ k p, a ≠ .noc k p))) ∧
    (let s := State.reset; let m := Master.firmware; let k := 3; let p := 5; s.gate m (ArbId.noc k p).base = .pass) :=
  ⟨by decide +kernel,
   by decide +kernel,
   ⟨by decide, fun _ => by decide +kernel, fun _ => rfl⟩,
   ⟨by decide +kernel, by decide +kernel, by decide +kernel, rfl⟩,
   by decide +kernel,
   ⟨by decide +kernel, by decide +kernel, by decide +kernel, by decide +kernel, by decide +kernel, rfl, by decide +kernel⟩,
   by decide +kernel,
   by decide +kernel,
   by decide +kernel,
   by decide +kernel,
   by decide +kernel,
   (by decide +kernel),
   ⟨by decide, fun _ _ h => by cases h⟩,
   by decide +kernel⟩
theorem test_engineInstructionsIssue :
    (let s := State.reset; let e := 0; let is : Issue := ⟨0, 1⟩; (s.engState e ≠ 1 ∨ (s.engAt e).stall.isSome ∨ s.eff (ENG_TRIO_CLK_EN (e / 3)) / 2 ^ (e % 3) % 2 = 0)) ∧
    (let s := { State.reset.setF (ENG_STATUS_STATE 0 0) 1 with ecc := { State.reset.ecc with bad := [((2 ^ 16 + 32) * 2 ^ 20, [0, 1])] } }; let e := 0; let is : Issue := ⟨0, 1⟩; s.engState e = 1 ∧ (s.engAt e).stall = none ∧ s.eff (ENG_TRIO_CLK_EN (e / 3)) / 2 ^ (e % 3) % 2 = 1 ∧ (engCounted s e is).rowErr e (0x4000 + s.engPc e) = 2) ∧
    (let s := State.reset.setFs [(ENG_STATUS_STATE 0 0, 1)]; let e := 0; let is : Issue := ⟨0, 1⟩; let op := EngOp.ldi 46 5; let d := 2; engIssues s e is ∧ op.illegal = some d) ∧
    (let s := State.reset.setFs [(ENG_STATUS_STATE 0 0, 1)]; let e := 0; let is : Issue := ⟨15, 1⟩; let op := EngOp.ret; engIssues s e is ∧ op.illegal = none ∧ op ≠ .nop ∧ is.cond = 15) ∧
    (let s := (State.reset.setFs [(ENG_STATUS_STATE 0 0, 1), (ENG_STATUS_LDEPTH 0 0, 1), (ENG_PC_PC 0 0, 9)]).updEng 0 fun g => { g with lsRange := nput g.lsRange 0 (5 * 65536 + 9) }; let e := 0; let is : Issue := ⟨0, 1⟩; let op := EngOp.ret; engIssues s e is ∧ op.illegal = none ∧ (op = .nop ∨ is.cond ≠ 15) ∧ engAtEnd s e is = true ∧ op.noEnd = true) ∧
    (let s := State.reset.setFs [(ENG_STATUS_STATE 0 0, 1)]; let e := 0; let is : Issue := ⟨1, 1⟩; let op := EngOp.kick; engIssues s e is ∧ op.illegal = none ∧ op ≠ .nop ∧ is.cond ≠ 15 ∧ (engAtEnd s e is = false ∨ op.noEnd = false) ∧ (engFetched s e is).condHolds e is.cond = false) ∧
    (let s := State.reset.setFs [(ENG_STATUS_STATE 0 0, 1)]; let e := 0; let is : Issue := ⟨0, 1⟩; engIssues s e is) ∧
    (let st : StoreFld := ⟨0, 0, 0, 0, false, 0, false⟩; st.sd = 0) ∧
    (let st : StoreFld := ⟨2, 0, 0, 0, false, 0, false⟩; (st.sd = 1 ∨ st.sd = 2)) ∧
    (let st : StoreFld := ⟨3, 0, 0, 0, false, 0, false⟩; let e := 0; let w := 7; let sat := false; let s := State.reset.setF (ENG_STRM_CFG_PACK 0 0) 0; let t := s; let g := (Eng.empty.setFifo 2 [7]); 3 ≤ st.sd ∧ t = (if sat then s.setF (ENG_DP_FLAGS_MS (e / 3) (e % 3)) 1 else s) ∧ (t.engAt e).streamWrite (st.sd - 1) (t.pack e (st.sd - 1)) (storeStream st w) = some g) ∧
    (let st : StoreFld := ⟨3, 0, 0, 0, false, 0, false⟩; let e := 0; let w := 7; let sat := false; let s := (State.reset.setF (ENG_STRM_CFG_PACK 0 0) 0).updEng 0 fun g => g.setFifo 2 (List.replicate 16 0); let t := s; 3 ≤ st.sd ∧ t = (if sat then s.setF (ENG_DP_FLAGS_MS (e / 3) (e % 3)) 1 else s) ∧ (t.engAt e).streamWrite (st.sd - 1) (t.pack e (st.sd - 1)) (storeStream st w) = none) :=
  ⟨by decide +kernel,
   by decide +kernel,
   (by simp only [engIssues, engCond, engCounted, engFetched, engAtEnd]; decide +kernel),
   (by simp only [engIssues, engCond, engCounted, engFetched, engAtEnd]; decide +kernel),
   (by simp only [engIssues, engCond, engCounted, engFetched, engAtEnd]; decide +kernel),
   (by simp only [engIssues, engCond, engCounted, engFetched, engAtEnd]; decide +kernel),
   (by simp only [engIssues, engCond, engCounted, engFetched, engAtEnd]; decide +kernel),
   by decide +kernel,
   by decide +kernel,
   by decide +kernel,
   by decide +kernel⟩
theorem test_engineMultiplies :
    (let s := State.reset.setFs [(ENG_STATUS_STATE 0 0, 1)]; let e := 0; let is : Issue := ⟨0, 1⟩; let f : MulFld := ⟨0, 0, 0, 0, true, 1, 2, true, 1, ⟨1, 0, 0, 0, false, 0, false⟩⟩; let x := 0; let y := 0; engIssues s e is ∧ engCond s e is ∧ f.illegal 3 false = false ∧ (engFetched s e is).readOperand e ((engFetched s e is).engAt e) f.xAddr = some (x, ((((engFetched s e is).engAt e).postIf true 0 0 1))) ∧ (engFetched s e is).operandErr e ((engFetched s e is).engAt e) f.xAddr ≠ 2 ∧ (engFetched s e is).operandErr e ((engFetched s e is).engAt e) f.yAddr ≠ 2 ∧ ((engFetched s e is).operandSee e ((engFetched s e is).engAt e) f.xAddr |>.operandSee e ((engFetched s e is).engAt e) f.yAddr) = ((engFetched s e is).operandSee e ((engFetched s e is).engAt e) f.xAddr).operandSee e ((engFetched s e is).engAt e) f.yAddr ∧ ((engFetched s e is).operandSee e ((engFetched s e is).engAt e) f.xAddr |>.operandSee e ((engFetched s e is).engAt e) f.yAddr).readOperand e ((((engFetched s e is).engAt e).postIf true 0 0 1)) f.yAddr = some (y, (((((engFetched s e is).engAt e).postIf true 0 0 1).postIf true 1 2 1)))) ∧
    (let s := State.reset.setFs [(ENG_STATUS_STATE 0 0, 1)]; let e := 0; let is : Issue := ⟨0, 1⟩; let f : MulFld := ⟨0, 0, 1, 0, true, 1, 2, true, 1, ⟨0, 0, 0, 0, false, 0, false⟩⟩; engIssues s e is ∧ engCond s e is ∧ f.illegal 3 false = false ∧ (engFetched s e is).readOperand e ((engFetched s e is).engAt e) f.xAddr = none) ∧
    (let s := { State.reset.setF (ENG_STATUS_STATE 0 0) 1 with ecc := { State.reset.ecc with bad := [((2 ^ 16) * 2 ^ 20, [0, 1])] } }; let e := 0; let is : Issue := ⟨0, 1⟩; let f : MulFld := ⟨0, 0, 0, 0, true, 1, 2, true, 1, ⟨0, 0, 0, 0, false, 0, false⟩⟩; let x := 0; engIssues s e is ∧ engCond s e is ∧ f.illegal 3 false = false ∧ (engFetched s e is).readOperand e ((engFetched s e is).engAt e) f.xAddr = some (x, ((((engFetched s e is).engAt e).postIf true 0 0 1))) ∧ ((engFetched s e is).operandErr e ((engFetched s e is).engAt e) f.xAddr = 2 ∨ (engFetched s e is).operandErr e ((engFetched s e is).engAt e) f.yAddr = 2)) ∧
    (let s := State.reset.setFs [(ENG_STATUS_STATE 0 0, 1)]; let e := 0; let is : Issue := ⟨0, 1⟩; let f : MulFld := ⟨0, 0, 0, 0, true, 1, 2, true, 1, ⟨0, 0, 0, 0, false, 0, false⟩⟩; let x := 0; let y := 0; engIssues s e is ∧ engCond s e is ∧ f.illegal 1 false = false ∧ (engFetched s e is).readOperand e ((engFetched s e is).engAt e) f.xAddr = some (x, ((((engFetched s e is).engAt e).postIf true 0 0 1))) ∧ (engFetched s e is).operandErr e ((engFetched s e is).engAt e) f.xAddr ≠ 2 ∧ (engFetched s e is).operandErr e ((engFetched s e is).engAt e) f.yAddr ≠ 2 ∧ ((engFetched s e is).operandSee e ((engFetched s e is).engAt e) f.xAddr |>.operandSee e ((engFetched s e is).engAt e) f.yAddr) = ((engFetched s e is).operandSee e ((engFetched s e is).engAt e) f.xAddr).operandSee e ((engFetched s e is).engAt e) f.yAddr ∧ ((engFetched s e is).operandSee e ((engFetched s e is).engAt e) f.xAddr |>.operandSee e ((engFetched s e is).engAt e) f.yAddr).readOperand e ((((engFetched s e is).engAt e).postIf true 0 0 1)) f.yAddr = some (y, (((((engFetched s e is).engAt e).postIf true 0 0 1).postIf true 1 2 1)))) ∧
    (let s := State.reset.setFs [(ENG_STATUS_STATE 0 0, 1)]; let e := 0; let is : Issue := ⟨0, 1⟩; let f : MulFld := ⟨0, 0, 1, 0, true, 1, 2, true, 1, ⟨0, 0, 0, 0, false, 0, false⟩⟩; engIssues s e is ∧ engCond s e is ∧ f.illegal 1 false = false ∧ (engFetched s e is).readOperand e ((engFetched s e is).engAt e) f.xAddr = none) ∧
    (let s := { State.reset.setF (ENG_STATUS_STATE 0 0) 1 with ecc := { State.reset.ecc with bad := [((2 ^ 16) * 2 ^ 20, [0, 1])] } }; let e := 0; let is : Issue := ⟨0, 1⟩; let f : MulFld := ⟨0, 0, 0, 0, true, 1, 2, true, 1, ⟨0, 0, 0, 0, false, 0, false⟩⟩; let x := 0; engIssues s e is ∧ engCond s e is ∧ f.illegal 1 false = false ∧ (engFetched s e is).readOperand e ((engFetched s e is).engAt e) f.xAddr = some (x, ((((engFetched s e is).engAt e).postIf true 0 0 1))) ∧ ((engFetched s e is).operandErr e ((engFetched s e is).engAt e) f.xAddr = 2 ∨ (engFetched s e is).operandErr e ((engFetched s e is).engAt e) f.yAddr = 2)) ∧
    (let s := State.reset.setFs [(ENG_STATUS_STATE 0 0, 1)]; let e := 0; let is : Issue := ⟨0, 1⟩; let f : MulFld := ⟨0, 0, 0, 0, true, 1, 2, true, 1, ⟨0, 0, 0, 0, false, 0, false⟩⟩; let x := 0; let y := 0; engIssues s e is ∧ engCond s e is ∧ f.illegal 0 false = false ∧ (engFetched s e is).readOperand e ((engFetched s e is).engAt e) f.xAddr = some (x, ((((engFetched s e is).engAt e).postIf true 0 0 1))) ∧ (engFetched s e is).operandErr e ((engFetched s e is).engAt e) f.xAddr ≠ 2 ∧ (engFetched s e is).operandErr e ((engFetched s e is).engAt e) f.yAddr ≠ 2 ∧ ((engFetched s e is).operandSee e ((engFetched s e is).engAt e) f.xAddr |>.operandSee e ((engFetched s e is).engAt e) f.yAddr) = ((engFetched s e is).operandSee e ((engFetched s e is).engAt e) f.xAddr).operandSee e ((engFetched s e is).engAt e) f.yAddr ∧ ((engFetched s e is).operandSee e ((engFetched s e is).engAt e) f.xAddr |>.operandSee e ((engFetched s e is).engAt e) f.yAddr).readOperand e ((((engFetched s e is).engAt e).postIf true 0 0 1)) f.yAddr = some (y, (((((engFetched s e is).engAt e).postIf true 0 0 1).postIf true 1 2 1)))) ∧
    (let s := State.reset.setFs [(ENG_STATUS_STATE 0 0, 1)]; let e := 0; let is : Issue := ⟨0, 1⟩; let f : MulFld := ⟨0, 0, 1, 0, true, 1, 2, true, 1, ⟨0, 0, 0, 0, false, 0, false⟩⟩; engIssues s e is ∧ engCond s e is ∧ f.illegal 0 false = false ∧ (engFetched s e is).readOperand e ((engFetched s e is).engAt e) f.xAddr = none) ∧
    (let s := { State.reset.setF (ENG_STATUS_STATE 0 0) 1 with ecc := { State.reset.ecc with bad := [((2 ^ 16) * 2 ^ 20, [0, 1])] } }; let e := 0; let is : Issue := ⟨0, 1⟩; let f : MulFld := ⟨0, 0, 0, 0, true, 1, 2, true, 1, ⟨0, 0, 0, 0, false, 0, false⟩⟩; let x := 0; engIssues s e is ∧ engCond s e is ∧ f.illegal 0 false = false ∧ (engFetched s e is).readOperand e ((engFetched s e is).engAt e) f.xAddr = some (x, ((((engFetched s e is).engAt e).postIf true 0 0 1))) ∧ ((engFetched s e is).operandErr e ((engFetched s e is).engAt e) f.xAddr = 2 ∨ (engFetched s e is).operandErr e ((engFetched s e is).engAt e) f.yAddr = 2)) ∧
    (let s := State.reset.setFs [(ENG_STATUS_STATE 0 0, 1)]; let e := 0; let is : Issue := ⟨0, 1⟩; let f : MulFld := ⟨0, 0, 0, 0, true, 1, 2, true, 1, ⟨0, 0, 0, 0, false, 0, false⟩⟩; let x := 0; let y := 0; engIssues s e is ∧ engCond s e is ∧ f.illegal 1 false = false ∧ (engFetched s e is).readOperand e ((engFetched s e is).engAt e) f.xAddr = some (x, ((((engFetched s e is).engAt e).postIf true 0 0 1))) ∧ (engFetched s e is).operandErr e ((engFetched s e is).engAt e) f.xAddr ≠ 2 ∧ (engFetched s e is).operandErr e ((engFetched s e is).engAt e) f.yAddr ≠ 2 ∧ ((engFetched s e is).operandSee e ((engFetched s e is).engAt e) f.xAddr |>.operandSee e ((engFetched s e is).engAt e) f.yAddr) = ((engFetched s e is).operandSee e ((engFetched s e is).engAt e) f.xAddr).operandSee e ((engFetched s e is).engAt e) f.yAddr ∧ ((engFetched s e is).operandSee e ((engFetched s e is).engAt e) f.xAddr |>.operandSee e ((engFetched s e is).engAt e) f.yAddr).readOperand e ((((engFetched s e is).engAt e).postIf true 0 0 1)) f.yAddr = some (y, (((((engFetched s e is).engAt e).postIf true 0 0 1).postIf true 1 2 1)))) ∧
    (let s := State.reset.setFs [(ENG_STATUS_STATE 0 0, 1)]; let e := 0; let is : Issue := ⟨0, 1⟩; let f : MulFld := ⟨0, 0, 1, 0, true, 1, 2, true, 1, ⟨0, 0, 0, 0, false, 0, false⟩⟩; engIssues s e is ∧ engCond s e is ∧ f.illegal 1 false = false ∧ (engFetched s e is).readOperand e ((engFetched s e is).engAt e) f.xAddr = none) ∧
    (let s := { State.reset.setF (ENG_STATUS_STATE 0 0) 1 with ecc := { State.reset.ecc with bad := [((2 ^ 16) * 2 ^ 20, [0, 1])] } }; let e := 0; let is : Issue := ⟨0, 1⟩; let f : MulFld := ⟨0, 0, 0, 0, true, 1, 2, true, 1, ⟨0, 0, 0, 0, false, 0, false⟩⟩; let x := 0; engIssues s e is ∧ engCond s e is ∧ f.illegal 1 false = false ∧ (engFetched s e is).readOperand e ((engFetched s e is).engAt e) f.xAddr = some (x, ((((engFetched s e is).engAt e).postIf true 0 0 1))) ∧ ((engFetched s e is).operandErr e ((engFetched s e is).engAt e) f.xAddr = 2 ∨ (engFetched s e is).operandErr e ((engFetched s e is).engAt e) f.yAddr = 2)) ∧
    (let s := State.reset.setFs [(ENG_STATUS_STATE 0 0, 1)]; let e := 0; let is : Issue := ⟨0, 1⟩; let f : MulFld := ⟨0, 0, 0, 0, true, 1, 2, true, 1, ⟨2, 0, 0, 0, false, 0, false⟩⟩; engIssues s e is ∧ engCond s e is ∧ f.illegal 0 true = false) :=
  ⟨(by simp only [engIssues, engCond, engCounted, engFetched, engAtEnd]; decide +kernel),
   (by simp only [engIssues, engCond, engCounted, engFetched, engAtEnd]; decide +kernel),
   (by simp only [engIssues, engCond, engCounted, engFetched, engAtEnd]; decide +kernel),
   (by simp only [engIssues, engCond, engCounted, engFetched, engAtEnd]; decide +kernel),
   (by simp only [engIssues, engCond, engCounted, engFetched, engAtEnd]; decide +kernel),
   (by simp only [engIssues, engCond, engCounted, engFetched, engAtEnd]; decide +kernel),
   (by simp only [engIssues, engCond, engCounted, engFetched, engAtEnd]; decide +kernel),
   (by simp only [engIssues, engCond, engCounted, engFetched, engAtEnd]; decide +kernel),
   (by simp only [engIssues, engCond, engCounted, engFetched, engAtEnd]; decide +kernel),
   (by simp only [engIssues, engCond, engCounted, engFetched, engAtEnd]; decide +kernel),
   (by simp only [engIssues, engCond, engCounted, engFetched, engAtEnd]; decide +kernel),
   (by simp only [engIssues, engCond, engCounted, engFetched, engAtEnd]; decide +kernel),
   (by simp only [engIssues, engCond, engCounted, engFetched, engAtEnd]; decide +kernel)⟩
theorem test_engineAccumulatorInstructions :
    (let s := State.reset.setFs [(ENG_STATUS_STATE 0 0, 1)]; let e := 0; let is : Issue := ⟨0, 1⟩; let f : AccFld := ⟨1, 2, 0, ⟨1, 0, 0, 0, false, 0, false⟩⟩; engIssues s e is ∧ engCond s e is ∧ f.illegal false = false) ∧
    (let s := State.reset.setFs [(ENG_STATUS_STATE 0 0, 1)]; let e := 0; let is : Issue := ⟨0, 1⟩; let f : AccFld := ⟨1, 2, 0, ⟨1, 0, 0, 0, false, 0, false⟩⟩; engIssues s e is ∧ engCond s e is ∧ f.illegal false = false) ∧
    (let s := State.reset.setFs [(ENG_STATUS_STATE 0 0, 1)]; let e := 0; let is : Issue := ⟨0, 1⟩; let f : AccFld := ⟨1, 2, 0, ⟨1, 0, 0, 0, false, 0, false⟩⟩; engIssues s e is ∧ engCond s e is ∧ f.illegal false = false) ∧
    (let s := State.reset.setFs [(ENG_STATUS_STATE 0 0, 1)]; let e := 0; let is : Issue := ⟨0, 1⟩; let f : AccFld := ⟨1, 2, 0, ⟨1, 0, 0, 0, false, 0, false⟩⟩; engIssues s e is ∧ engCond s e is ∧ f.illegal false = false) ∧
    (let s := State.reset.setFs [(ENG_STATUS_STATE 0 0, 1)]; let e := 0; let is : Issue := ⟨0, 1⟩; let f : AccFld := ⟨1, 2, 0, ⟨1, 0, 0, 0, false, 0, false⟩⟩; engIssues s e is ∧ engCond s e is ∧ f.illegal false = false) ∧
    (let s := State.reset.setFs [(ENG_STATUS_STATE 0 0, 1)]; let e := 0; let is : Issue := ⟨0, 1⟩; let f : AccFld := ⟨1, 2, 0, ⟨1, 0, 0, 0, false, 0, false⟩⟩; engIssues s e is ∧ engCond s e is ∧ f.illegal false = false) ∧
    (let s := State.reset.setFs [(ENG_STATUS_STATE 0 0, 1)]; let e := 0; let is : Issue := ⟨0, 1⟩; let f : AccFld := ⟨1, 2, 63, ⟨1, 0, 0, 0, false, 0, false⟩⟩; engIssues s e is ∧ engCond s e is ∧ f.illegal true = false) ∧
    (let s := State.reset.setFs [(ENG_STATUS_STATE 0 0, 1)]; let e := 0; let is : Issue := ⟨0, 1⟩; let f : AccFld := ⟨1, 2, 0, ⟨1, 0, 0, 0, false, 0, false⟩⟩; engIssues s e is ∧ engCond s e is ∧ f.illegal false = false) ∧
    (let s := State.reset.setFs [(ENG_STATUS_STATE 0 0, 1)]; let e := 0; let is : Issue := ⟨0, 1⟩; let f : AccFld := ⟨1, 2, 0, ⟨1, 0, 0, 0, false, 0, false⟩⟩; engIssues s e is ∧ engCond s e is ∧ f.illegal false = false) :=
  ⟨(by simp only [engIssues, engCond, engCounted, engFetched, engAtEnd]; decide +kernel),
   (by simp only [engIssues, engCond, engCounted, engFetched, engAtEnd]; decide +kernel),
   (by simp only [engIssues, engCond, engCounted, engFetched, engAtEnd]; decide +kernel),
   (by simp only [engIssues, engCond, engCounted, engFetched, engAtEnd]; decide +kernel),
   (by simp only [engIssues, engCond, engCounted, engFetched, engAtEnd]; decide +kernel),
   (by simp only [engIssues, engCond, engCounted, engFetched, engAtEnd]; decide +kernel),
   (by simp only [engIssues, engCond, engCounted, engFetched, engAtEnd]; decide +kernel),
   (by simp only [engIssues, engCond, engCounted, engFetched, engAtEnd]; decide +kernel),
   (by simp only [engIssues, engCond, engCounted, engFetched, engAtEnd]; decide +kernel)⟩
theorem test_engineRegisterAndControlInstructions_1 :
    (let s := State.reset.setFs [(ENG_STATUS_STATE 0 0, 1)]; let e := 0; let is : Issue := ⟨0, 1⟩; let reg := 45; let imm := 7; engIssues s e is ∧ engCond s e is ∧ badReg reg true = false) ∧
    (let s := State.reset.setFs [(ENG_STATUS_STATE 0 0, 1)]; let e := 0; let is : Issue := ⟨0, 1⟩; let rd := 45; let rs := 46; engIssues s e is ∧ engCond s e is ∧ badReg rd true = false ∧ badReg rs false = false) ∧
    (let s := State.reset.setFs [(ENG_STATUS_STATE 0 0, 1)]; let e := 0; let is : Issue := ⟨0, 1⟩; let ad := 3; let imm := 7; engIssues s e is ∧ engCond s e is) ∧
    (let s := State.reset.setFs [(ENG_STATUS_STATE 0 0, 1)]; let e := 0; let is : Issue := ⟨0, 1⟩; let reg := 26; let a : AddrFld := ⟨1, 2, true, 3⟩; let w := 0; engIssues s e is ∧ engCond s e is ∧ badReg reg true = false ∧ (engFetched s e is).readOperand e ((engFetched s e is).engAt e) a = some (w, ((((engFetched s e is).engAt e).postIf true 1 2 3))) ∧ (engFetched s e is).operandErr e ((engFetched s e is).engAt e) a ≠ 2) ∧
    (let s := State.reset.setFs [(ENG_STATUS_STATE 0 0, 1)]; let e := 0; let is : Issue := ⟨0, 1⟩; let reg := 26; let a : AddrFld := ⟨2, 0, false, 0⟩; engIssues s e is ∧ engCond s e is ∧ badReg reg true = false ∧ (engFetched s e is).readOperand e ((engFetched s e is).engAt e) a = none) ∧
    (let s := State.reset.setFs [(ENG_STATUS_STATE 0 0, 1)]; let e := 0; let is : Issue := ⟨0, 1⟩; let ad := 1; let a : AddrFld := ⟨1, 2, true, 3⟩; let form := 1; let w := 0; engIssues s e is ∧ engCond s e is ∧ form ≠ 3 ∧ (engFetched s e is).readOperand e ((engFetched s e is).engAt e) a = some (w, ((((engFetched s e is).engAt e).postIf true 1 2 3))) ∧ (engFetched s e is).operandErr e ((engFetched s e is).engAt e) a ≠ 2) ∧
    (let s := State.reset.setFs [(ENG_STATUS_STATE 0 0, 1)]; let e := 0; let is : Issue := ⟨0, 1⟩; let ad := 1; let a : AddrFld := ⟨3, 0, false, 0⟩; let form := 1; engIssues s e is ∧ engCond s e is ∧ form ≠ 3 ∧ (engFetched s e is).readOperand e ((engFetched s e is).engAt e) a = none) ∧
    (let s := State.reset.setFs [(ENG_STATUS_STATE 0 0, 1)]; let e := 0; let is : Issue := ⟨0, 1⟩; let reg := 26; let a : AddrFld := ⟨1, 2, true, 3⟩; engIssues s e is ∧ engCond s e is ∧ badReg reg false = false ∧ a.ms < 2) ∧
    (let s := State.reset.setFs [(ENG_STATUS_STATE 0 0, 1), (ENG_STRM_CFG_PACK 0 0, 0)]; let e := 0; let is : Issue := ⟨0, 1⟩; let reg := 26; let a : AddrFld := ⟨2, 0, false, 0⟩; engIssues s e is ∧ engCond s e is ∧ badReg reg false = false ∧ 2 ≤ a.ms ∧ ((engFetched s e is).engAt e).streamWrite a.ms ((engFetched s e is).pack e a.ms) ((engFetched s e is).engReg e reg) = some ((Eng.empty.setFifo 2 [0]))) ∧
    (let s := (State.reset.setFs [(ENG_STATUS_STATE 0 0, 1), (ENG_STRM_CFG_PACK 0 0, 0)]).updEng 0 fun g => g.setFifo 2 (List.replicate 16 0); let e := 0; let is : Issue := ⟨0, 1⟩; let reg := 26; let a : AddrFld := ⟨2, 0, false, 0⟩; engIssues s e is ∧ engCond s e is ∧ badReg reg false = false ∧ 2 ≤ a.ms ∧ ((engFetched s e is).engAt e).streamWrite a.ms ((engFetched s e is).pack e a.ms) ((engFetched s e is).engReg e reg) = none) ∧
    (let s := State.reset.setFs [(ENG_STATUS_STATE 0 0, 1)]; let e := 0; let is : Issue := ⟨0, 1⟩; let target := 9; engIssues s e is ∧ engCond s e is ∧ engAtEnd s e is = false) :=
  ⟨(by simp only [engIssues, engCond, engCounted, engFetched, engAtEnd]; decide +kernel),
   (by simp only [engIssues, engCond, engCounted, engFetched, engAtEnd]; decide +kernel),
   (by simp only [engIssues, engCond, engCounted, engFetched, engAtEnd]; decide +kernel),
   (by simp only [engIssues, engCond, engCounted, engFetched, engAtEnd]; decide +kernel),
   (by simp only [engIssues, engCond, engCounted, engFetched, engAtEnd]; decide +kernel),
   (by simp only [engIssues, engCond, engCounted, engFetched, engAtEnd]; decide +kernel),
   (by simp only [engIssues, engCond, engCounted, engFetched, engAtEnd]; decide +kernel),
   (by simp only [engIssues, engCond, engCounted, engFetched, engAtEnd]; decide +kernel),
   (by simp only [engIssues, engCond, engCounted, engFetched, engAtEnd]; decide +kernel),
   (by simp only [engIssues, engCond, engCounted, engFetched, engAtEnd]; decide +kernel),
   (by simp only [engIssues, engCond, engCounted, engFetched, engAtEnd]; decide +kernel)⟩
theorem test_engineRegisterAndControlInstructions_2 :
    (let s := State.reset.setFs [(ENG_STATUS_STATE 0 0, 1)]; let e := 0; let is : Issue := ⟨0, 1⟩; let target := 9; engIssues s e is ∧ engCond s e is ∧ engAtEnd s e is = false ∧ (engFetched s e is).cdepth e < 8) ∧
    (let s := State.reset.setFs [(ENG_STATUS_STATE 0 0, 1), (ENG_STATUS_CDEPTH 0 0, 8)]; let e := 0; let is : Issue := ⟨0, 1⟩; let target := 9; engIssues s e is ∧ engCond s e is ∧ engAtEnd s e is = false ∧ 8 ≤ (engFetched s e is).cdepth e) ∧
    (let s := State.reset.setFs [(ENG_STATUS_STATE 0 0, 1), (ENG_STATUS_CDEPTH 0 0, 8)]; let e := 0; let is : Issue := ⟨0, 1⟩; engIssues s e is ∧ engCond s e is ∧ engAtEnd s e is = false ∧ (engFetched s e is).cdepth e ≠ 0) ∧
    (let s := State.reset.setFs [(ENG_STATUS_STATE 0 0, 1)]; let e := 0; let is : Issue := ⟨0, 1⟩; engIssues s e is ∧ engCond s e is ∧ engAtEnd s e is = false ∧ (engFetched s e is).cdepth e = 0) ∧
    (let s := State.reset.setFs [(ENG_STATUS_STATE 0 0, 1)]; let e := 0; let is : Issue := ⟨0, 1⟩; let count := 3; let last := 9; engIssues s e is ∧ engCond s e is ∧ engAtEnd s e is = false ∧ (engFetched s e is).engPc e + 1 ≤ last ∧ count ≠ 0 ∧ (engFetched s e is).ldepth e < 4) ∧
    (let s := State.reset.setFs [(ENG_STATUS_STATE 0 0, 1)]; let e := 0; let is : Issue := ⟨0, 1⟩; let count := 0; let last := 9; engIssues s e is ∧ engCond s e is ∧ engAtEnd s e is = false ∧ (engFetched s e is).engPc e + 1 ≤ last ∧ count = 0) ∧
    (let s := State.reset.setFs [(ENG_STATUS_STATE 0 0, 1), (ENG_PC_PC 0 0, 5), (ENG_STATUS_LDEPTH 0 0, 4)]; let e := 0; let is : Issue := ⟨0, 1⟩; let count := 3; let last := 9; engIssues s e is ∧ engCond s e is ∧ engAtEnd s e is = false ∧ (engFetched s e is).engPc e + 1 ≤ last ∧ count ≠ 0 ∧ 4 ≤ (engFetched s e is).ldepth e) ∧
    (let s := State.reset.setFs [(ENG_STATUS_STATE 0 0, 1), (ENG_PC_PC 0 0, 5), (ENG_PC_PC 0 0, 9)]; let e := 0; let is : Issue := ⟨0, 1⟩; let count := 3; let last := 9; engIssues s e is ∧ engCond s e is ∧ engAtEnd s e is = false ∧ last < (engFetched s e is).engPc e + 1) ∧
    (let s := (State.reset.setF (ENG_STATUS_STATE 0 0) 1).updEng 0 fun g => { g with regs := [(0, 5)] }; let e := 0; let is : Issue := ⟨0, 1⟩; let reg := 0; let last := 9; engIssues s e is ∧ engCond s e is ∧ badReg reg false = false ∧ engAtEnd s e is = false ∧ (engFetched s e is).engPc e + 1 ≤ last ∧ ((engFetched s e is).engReg e reg % 2 ^ 16) ≠ 0 ∧ (engFetched s e is).ldepth e < 4) ∧
    (let s := State.reset.setFs [(ENG_STATUS_STATE 0 0, 1)]; let e := 0; let is : Issue := ⟨0, 1⟩; let reg := 0; let last := 9; engIssues s e is ∧ engCond s e is ∧ badReg reg false = false ∧ engAtEnd s e is = false ∧ (engFetched s e is).engPc e + 1 ≤ last ∧ ((engFetched s e is).engReg e reg % 2 ^ 16) = 0) ∧
    (let s := (State.reset.setFs [(ENG_STATUS_STATE 0 0, 1), (ENG_STATUS_LDEPTH 0 0, 4), (ENG_PC_PC 0 0, 5)]).updEng 0 fun g => { g with regs := [(0, 5)] }; let e := 0; let is : Issue := ⟨0, 1⟩; let reg := 0; let last := 9; engIssues s e is ∧ engCond s e is ∧ badReg reg false = false ∧ engAtEnd s e is = false ∧ (engFetched s e is).engPc e + 1 ≤ last ∧ ((engFetched s e is).engReg e reg % 2 ^ 16) ≠ 0 ∧ 4 ≤ (engFetched s e is).ldepth e) :=
  ⟨(by simp only [engIssues, engCond, engCounted, engFetched, engAtEnd]; decide +kernel),
   (by simp only [engIssues, engCond, engCounted, engFetched, engAtEnd]; decide +kernel),
   (by simp only [engIssues, engCond, engCounted, engFetched, engAtEnd]; decide +kernel),
   (by simp only [engIssues, engCond, engCounted, engFetched, engAtEnd]; decide +kernel),
   (by simp only [engIssues, engCond, engCounted, engFetched, engAtEnd]; decide +kernel),
   (by simp only [engIssues, engCond, engCounted, engFetched, engAtEnd]; decide +kernel),
   (by simp only [engIssues, engCond, engCounted, engFetched, engAtEnd]; decide +kernel),
   (by simp only [engIssues, engCond, engCounted, engFetched, engAtEnd]; decide +kernel),
   (by simp only [engIssues, engCond, engCounted, engFetched, engAtEnd]; decide +kernel),
   (by simp only [engIssues, engCond, engCounted, engFetched, engAtEnd]; decide +kernel),
   (by simp only [engIssues, engCond, engCounted, engFetched, engAtEnd]; decide +kernel)⟩
theorem test_engineRegisterAndControlInstructions_3 :
    (let s := State.reset.setFs [(ENG_STATUS_STATE 0 0, 1), (ENG_PC_PC 0 0, 5), (ENG_PC_PC 0 0, 9)]; let e := 0; let is : Issue := ⟨0, 1⟩; let reg := 0; let last := 9; engIssues s e is ∧ engCond s e is ∧ badReg reg false = false ∧ engAtEnd s e is = false ∧ last < (engFetched s e is).engPc e + 1) ∧
    (let s := (State.reset.setFs [(ENG_STATUS_STATE 0 0, 1), (ENG_STATUS_LDEPTH 0 0, 1)]).updEng 0 fun g => { g with lsRange := [(0, 5 * 65536 + 9)] }; let e := 0; let is : Issue := ⟨0, 1⟩; engIssues s e is ∧ engCond s e is ∧ engAtEnd s e is = false ∧ (engFetched s e is).ldepth e ≠ 0) ∧
    (let s := State.reset.setFs [(ENG_STATUS_STATE 0 0, 1)]; let e := 0; let is : Issue := ⟨0, 1⟩; engIssues s e is ∧ engCond s e is ∧ engAtEnd s e is = false ∧ (engFetched s e is).ldepth e = 0) ∧
    (let s := State.reset.setFs [(ENG_STATUS_STATE 0 0, 1)]; let e := 0; let is : Issue := ⟨0, 1⟩; let code := 9; engIssues s e is ∧ engCond s e is ∧ engAtEnd s e is = false) ∧
    (let s := State.reset.setFs [(ENG_STATUS_STATE 0 0, 1), (ENG_WDT_EN 0 0, 1)]; let e := 0; let is : Issue := ⟨0, 1⟩; engIssues s e is ∧ engCond s e is ∧ (engFetched s e is).bit (ENG_WDT_EN (e / 3) (e % 3)) = true) ∧
    (let s := State.reset.setFs [(ENG_STATUS_STATE 0 0, 1)]; let e := 0; let is : Issue := ⟨0, 1⟩; engIssues s e is ∧ engCond s e is ∧ (engFetched s e is).bit (ENG_WDT_EN (e / 3) (e % 3)) = false) ∧
    (let s := State.reset.setFs [(ENG_STATUS_STATE 0 0, 1), (ENG_STIM_CTRL_EN 0 0, 1), (DBG_STATUS_LEVEL, 2)]; let e := 0; let is : Issue := ⟨0, 1⟩; let reg := 63; let i := true; let chan := 3; let imm := 7; engIssues s e is ∧ engCond s e is ∧ (!i && badReg reg false) = false ∧ (engFetched s e is).bit (ENG_STIM_CTRL_EN (e / 3) (e % 3)) = true ∧ (engFetched s e is).observes = true ∧ ((engFetched s e is).stimPush (engSource e) (engineNode e) ⟨2, engSource e, (engFetched s e is).nocTime % 2 ^ 48, chan % 256 * 2 ^ 56 + (engFetched s e is).engPc e * 2 ^ 44 + (if i then imm else (engFetched s e is).engReg e reg) % 2 ^ 32⟩) = (engFetched s e is).stimPush (engSource e) (engineNode e) ⟨2, engSource e, (engFetched s e is).nocTime % 2 ^ 48, chan % 256 * 2 ^ 56 + (engFetched s e is).engPc e * 2 ^ 44 + (if i then imm else (engFetched s e is).engReg e reg) % 2 ^ 32⟩) ∧
    (let s := State.reset.setFs [(ENG_STATUS_STATE 0 0, 1)]; let e := 0; let is : Issue := ⟨0, 1⟩; let reg := 9; let i := false; let chan := 3; let imm := 7; engIssues s e is ∧ engCond s e is ∧ (!i && badReg reg false) = false ∧ ((engFetched s e is).bit (ENG_STIM_CTRL_EN (e / 3) (e % 3)) = false ∨ (engFetched s e is).observes = false)) ∧
    (let s := State.reset.setFs [(ENG_STATUS_STATE 0 0, 1)]; let e := 0; let is : Issue := ⟨0, 1⟩; let mask := 3; engIssues s e is ∧ engCond s e is ∧ (¬ ((mask % 2 = 1 ∧ (engFetched s e is).dmaBusy e 0) ∨ (mask / 2 % 2 = 1 ∧ (engFetched s e is).dmaBusy e 1)))) ∧
    (let s := State.reset.setFs [(ENG_STATUS_STATE 0 0, 1), (ENG_DMA_STATUS_BUSY 0 0 1, 1)]; let e := 0; let is : Issue := ⟨0, 1⟩; let mask := 2; engIssues s e is ∧ engCond s e is ∧ (((mask % 2 = 1 ∧ (engFetched s e is).dmaBusy e 0) ∨ (mask / 2 % 2 = 1 ∧ (engFetched s e is).dmaBusy e 1)))) ∧
    (let s := State.reset.setFs [(ENG_STATUS_STATE 0 0, 1)]; let e := 0; let is : Issue := ⟨0, 1⟩; let code := 9; engIssues s e is ∧ engCond s e is) :=
  ⟨(by simp only [engIssues, engCond, engCounted, engFetched, engAtEnd]; decide +kernel),
   (by simp only [engIssues, engCond, engCounted, engFetched, engAtEnd]; decide +kernel),
   (by simp only [engIssues, engCond, engCounted, engFetched, engAtEnd]; decide +kernel),
   (by simp only [engIssues, engCond, engCounted, engFetched, engAtEnd]; decide +kernel),
   (by simp only [engIssues, engCond, engCounted, engFetched, engAtEnd]; decide +kernel),
   (by simp only [engIssues, engCond, engCounted, engFetched, engAtEnd]; decide +kernel),
   (by simp only [engIssues, engCond, engCounted, engFetched, engAtEnd]; decide +kernel),
   (by simp only [engIssues, engCond, engCounted, engFetched, engAtEnd]; decide +kernel),
   (by simp only [engIssues, engCond, engCounted, engFetched, engAtEnd]; decide +kernel),
   (by simp only [engIssues, engCond, engCounted, engFetched, engAtEnd]; decide +kernel),
   (by simp only [engIssues, engCond, engCounted, engFetched, engAtEnd]; decide +kernel)⟩
theorem test_engineStreamAndDmaCommands_1 :
    (let s := (State.reset.setF (ENG_TRIO_PWR_STATE 0) 2).updRgn 0 fun x => { x with conn := true }; let e := 1; let port := 1; s.trioUp (e / 3) = true ∧ s.connected (e / 3) = true ∧ port < 2 ∧ ((s.engAt e).fifoOf port).length < 16) ∧
    (let s := ((State.reset.setF (ENG_TRIO_PWR_STATE 0) 2).updRgn 0 fun x => { x with conn := true }).updEng 1 fun g => g.setFifo 1 (List.replicate 16 0); let e := 1; let port := 1; s.trioUp (e / 3) = true ∧ s.connected (e / 3) = true ∧ port < 2 ∧ 16 ≤ ((s.engAt e).fifoOf port).length) ∧
    (let s := ((State.reset.setF (ENG_TRIO_PWR_STATE 0) 2).updRgn 0 fun x => { x with conn := true }).updEng 1 fun g => g.setFifo 2 [9]; let e := 1; let port := 2; let b := 9; let t := ([] : List Nat); s.trioUp (e / 3) = true ∧ s.connected (e / 3) = true ∧ 2 ≤ port ∧ (s.engAt e).fifoOf port = b :: t) ∧
    (let s := State.reset; let e := 1; let port := 2; (s.trioUp (e / 3) = false ∨ s.connected (e / 3) = false ∨ (2 ≤ port ∧ (s.engAt e).fifoOf port = []))) ∧
    (let s := State.reset.updEng 1 fun g => g.setPend 2 (some 7); let m := Master.firmware; let e := 1; let p := 0; let lo := 7; s.gate m (ENG_STRM_CTRL (e / 3) (e % 3)) = .pass ∧ (s.engAt e).pendOf (2 + p) = some lo ∧ ((s.engAt e).fifoOf (2 + p)).length < 16) ∧
    (let s := State.reset; let m := Master.firmware; let e := 1; let p := 0; s.gate m (ENG_STRM_CTRL (e / 3) (e % 3)) = .pass ∧ ((s.engAt e).pendOf (2 + p) = none ∨ 16 ≤ ((s.engAt e).fifoOf (2 + p)).length)) ∧
    (let p : Packet := { pkt1 with dst := engineNode 1, opc := opcRead, addr := 0x100, bcnt := 7 }; let s := State.reset.updNoc fun n => { n with inbox := [p] }; let e := 1; s.noc.inbox.find? (fun p => decide (p.dst = engineNode e)) = some p ∧ s.memHeld e p.addr = false) ∧
    (let p : Packet := { pkt1 with dst := engineNode 1, opc := opcRead, addr := 0x100, bcnt := 7 }; let s := (State.reset.setArb (.eng 1 0) { Arb.empty with owner := some ⟨1, 0, 0, 0, 0, 0, false⟩ }).updNoc fun n => { n with inbox := [p] }; let e := 1; s.noc.inbox.find? (fun p => decide (p.dst = engineNode e)) = some p ∧ s.memHeld e p.addr = true) ∧
    (let s := State.reset; let e := 1; s.noc.inbox.find? (fun p => decide (p.dst = engineNode e)) = none) ∧
    (let s := State.reset; let e := 1; let p : Packet := { pkt1 with dst := engineNode 1, opc := opcWrite, addr := 0x20000, bcnt := 7 }; s.f (ENG_TRIO_PWR_CLEARING (e / 3)) ≠ 1 ∧ s.memFenced e p.addr = false ∧ localRange p.addr (p.bcnt + 1) = true ∧ p.addr % 4 = 0 ∧ p.opc = opcWrite ∧ (localMem p.addr ≠ 2 ∨ s.engBusy e = false)) ∧
    (let s := State.reset; let e := 1; let p : Packet := { pkt1 with dst := engineNode 1, opc := opcRead, addr := 0x10000, bcnt := 7 }; s.f (ENG_TRIO_PWR_CLEARING (e / 3)) ≠ 1 ∧ s.memFenced e p.addr = false ∧ localRange p.addr (p.bcnt + 1) = true ∧ p.addr % 4 = 0 ∧ p.opc ≠ opcWrite) :=
  by and_intros <;> decide +kernel
theorem test_engineStreamAndDmaCommands_2 :
    (let s := State.reset.setArb (.eng 1 1) (Arb.empty.fence 0); let e := 1; let p : Packet := { pkt1 with dst := engineNode 1, opc := opcRead, addr := 0x10000, bcnt := 7 }; s.f (ENG_TRIO_PWR_CLEARING (e / 3)) ≠ 1 ∧ s.memFenced e p.addr = true) ∧
    (let s := State.reset; let e := 1; let p : Packet := { pkt1 with dst := engineNode 1, opc := opcWrite, addr := 0xFFFC, bcnt := 7 }; (s.f (ENG_TRIO_PWR_CLEARING (e / 3)) = 1 ∨ s.memFenced e p.addr = false) ∧ (s.f (ENG_TRIO_PWR_CLEARING (e / 3)) = 1 ∨ localRange p.addr (p.bcnt + 1) = false ∨ p.addr % 4 ≠ 0 ∨ (p.opc = opcWrite ∧ localMem p.addr = 2 ∧ s.engBusy e = true))) ∧
    (let s := State.reset.setFs [(ENG_DMA_STATUS_BUSY 0 1 1, 1)]; let m := Master.firmware; let e := 1; let c := 1; s.gate m (ENG_DMA_CTRL (e / 3) (e % 3) c) = .pass ∧ s.dmaBusy e c = true) ∧
    (let s := State.reset.setFs [(ENG_DMA_LADDR_LADDR 0 1 1, 0x28000)]; let m := Master.firmware; let e := 1; let c := 1; s.gate m (ENG_DMA_CTRL (e / 3) (e % 3) c) = .pass ∧ s.dmaBusy e c = false ∧ s.dmaCheck e c ≠ 0) ∧
    (let s := State.reset.setFs [(ENG_DMA_LEN_LEN 0 1 1, 64)]; let m := Master.firmware; let e := 1; let c := 1; s.gate m (ENG_DMA_CTRL (e / 3) (e % 3) c) = .pass ∧ s.dmaBusy e c = false ∧ s.dmaCheck e c = 0) ∧
    (let s := State.reset.setFs [(ENG_DMA_STATUS_BUSY 0 1 1, 1)]; let m := Master.firmware; let e := 1; let c := 1; s.gate m (ENG_DMA_CTRL (e / 3) (e % 3) c) = .pass ∧ s.dmaBusy e c = true) ∧
    (let s := State.reset; let m := Master.firmware; let e := 1; let c := 1; s.gate m (ENG_DMA_CTRL (e / 3) (e % 3) c) = .pass ∧ s.dmaBusy e c = false) ∧
    (let r : Packet := { pkt1 with dst := engineNode 1, tag := 5, opc := opcReadRsp, data := [1, 2, 3, 4], status := stOk }; let q : DmaReq := ⟨5, 0x100, 4⟩; let s := (State.reset.updNoc fun n => { n with rsps := [r] }).updEng 1 fun g => g.setDma 0 { Dma.empty with out := [q] }; let e := 1; let tag := 5; let em := false; s.rspFor (engineNode e) tag = some r ∧ s.rspFenced (engineNode e) = false ∧ (((s.takeRsp (engineNode e) tag).engAt e).dmaOf (tag / 128)).out.find? (fun x => decide (x.tag = tag)) = some q ∧ ((s.engAt e).dmaOf (tag / 128)).out.any (fun q => decide (q.tag = tag) && s.memHeld e q.addr) = false ∧ em = false ∧ r.ended = false ∧ r.status = stOk) ∧
    (let r : Packet := { pkt1 with dst := engineNode 1, tag := 5, opc := opcReadRsp, data := [1, 2, 3, 4], status := stFenced }; let q : DmaReq := ⟨5, 0x100, 4⟩; let s := (State.reset.updNoc fun n => { n with rsps := [r] }).updEng 1 fun g => g.setDma 0 { Dma.empty with out := [q] }; let e := 1; let tag := 5; let em := false; s.rspFor (engineNode e) tag = some r ∧ s.rspFenced (engineNode e) = false ∧ (((s.takeRsp (engineNode e) tag).engAt e).dmaOf (tag / 128)).out.find? (fun x => decide (x.tag = tag)) = some q ∧ ((s.engAt e).dmaOf (tag / 128)).out.any (fun q => decide (q.tag = tag) && s.memHeld e q.addr) = false ∧ (em = true ∨ r.ended = true ∨ r.status ≠ stOk)) ∧
    (let r : Packet := { pkt1 with dst := engineNode 1, tag := 5, opc := opcReadRsp, data := [1, 2, 3, 4], status := stOk }; let q : DmaReq := ⟨5, 0x100, 4⟩; let s := ((State.reset.setArb (.eng 1 0) { Arb.empty with owner := some ⟨1, 0, 0, 0, 0, 0, false⟩ }).updNoc fun n => { n with rsps := [r] }).updEng 1 fun g => g.setDma 0 { Dma.empty with out := [q] }; let e := 1; let tag := 5; let em := false; s.rspFor (engineNode e) tag = some r ∧ s.rspFenced (engineNode e) = false ∧ ((s.engAt e).dmaOf (tag / 128)).out.any (fun q => decide (q.tag = tag) && s.memHeld e q.addr) = true) ∧
    (let s := State.reset; let e := 1; let tag := 5; s.rspFor (engineNode e) tag = none) :=
  by and_intros <;> decide +kernel
theorem test_trioPowerCommands :
    (let s := State.reset; let m := Master.firmware; let t := 9; let v := 7; s.gate m (ENG_TRIO_PWR t) = .pass ∧ v % 4 = 3) ∧
    (let s := State.reset.setFs [(ENG_TRIO_PWR_STATE 9, 3)]; let m := Master.firmware; let t := 9; let v := 2; s.gate m (ENG_TRIO_PWR t) = .pass ∧ v % 4 ≠ 3 ∧ ((((s.answer (.ok 0)).setF (ENG_TRIO_PWR_REQ t) (v % 4)).f (ENG_TRIO_PWR_STATE t) = 3 ∨ ((s.answer (.ok 0)).setF (ENG_TRIO_PWR_REQ t) (v % 4)).f (ENG_TRIO_PWR_CLEARING t) = 1))) ∧
    (let s := State.reset.setFs [(ENG_TRIO_PWR_STATE 9, 2)]; let m := Master.firmware; let t := 9; let v := 2; s.gate m (ENG_TRIO_PWR t) = .pass ∧ v % 4 ≠ 3 ∧ (¬ (((s.answer (.ok 0)).setF (ENG_TRIO_PWR_REQ t) (v % 4)).f (ENG_TRIO_PWR_STATE t) = 3 ∨ ((s.answer (.ok 0)).setF (ENG_TRIO_PWR_REQ t) (v % 4)).f (ENG_TRIO_PWR_CLEARING t) = 1)) ∧ v % 4 = ((s.answer (.ok 0)).setF (ENG_TRIO_PWR_REQ t) (v % 4)).f (ENG_TRIO_PWR_STATE t)) ∧
    (let s := State.reset.setFs [(ENG_TRIO_PWR_STATE 9, 2), (ENG_STATUS_STATE 9 1, 1)]; let m := Master.firmware; let t := 9; let v := 0; s.gate m (ENG_TRIO_PWR t) = .pass ∧ v % 4 ≠ 3 ∧ (¬ (((s.answer (.ok 0)).setF (ENG_TRIO_PWR_REQ t) (v % 4)).f (ENG_TRIO_PWR_STATE t) = 3 ∨ ((s.answer (.ok 0)).setF (ENG_TRIO_PWR_REQ t) (v % 4)).f (ENG_TRIO_PWR_CLEARING t) = 1)) ∧ v % 4 ≠ ((s.answer (.ok 0)).setF (ENG_TRIO_PWR_REQ t) (v % 4)).f (ENG_TRIO_PWR_STATE t) ∧ v % 4 < 2 ∧ ((s.answer (.ok 0)).setF (ENG_TRIO_PWR_REQ t) (v % 4)).trioInUse t = true) ∧
    (let s := State.reset.setFs [(ENG_TRIO_PWR_STATE 9, 0)]; let m := Master.firmware; let t := 9; let v := 2; s.gate m (ENG_TRIO_PWR t) = .pass ∧ v % 4 ≠ 3 ∧ (¬ (((s.answer (.ok 0)).setF (ENG_TRIO_PWR_REQ t) (v % 4)).f (ENG_TRIO_PWR_STATE t) = 3 ∨ ((s.answer (.ok 0)).setF (ENG_TRIO_PWR_REQ t) (v % 4)).f (ENG_TRIO_PWR_CLEARING t) = 1)) ∧ v % 4 ≠ ((s.answer (.ok 0)).setF (ENG_TRIO_PWR_REQ t) (v % 4)).f (ENG_TRIO_PWR_STATE t) ∧ (2 ≤ v % 4 ∨ ((s.answer (.ok 0)).setF (ENG_TRIO_PWR_REQ t) (v % 4)).trioInUse t = false)) ∧
    (let s := State.reset.setFs [(ENG_TRIO_PWR_STATE 9, 3)]; let t := 9; s.f (ENG_TRIO_PWR_STATE t) = 3) ∧
    (let s := State.reset; let t := 9; s.f (ENG_TRIO_PWR_STATE t) ≠ 3) ∧
    (let s := State.reset.setFs [(ENG_TRIO_PWR_CLEARING 9, 1)]; let t := 9; s.bit (ENG_TRIO_PWR_CLEARING t) = true) ∧
    (let s := State.reset; let t := 9; s.bit (ENG_TRIO_PWR_CLEARING t) = false) :=
  by and_intros <;> decide +kernel
theorem test_engineRunControlCommands_1 :
    (let s := State.reset.setFs [(ENG_STATUS_STATE 0 1, 1)]; let m := Master.firmware; let e := 1; s.gate m (ENG_CTRL (e / 3) (e % 3)) = .pass ∧ s.engBusy e = true) ∧
    (let s := State.reset.setFs [(ENG_STATUS_STATE 0 1, 1)]; let m := Master.firmware; let e := 1; s.gate m (ENG_CTRL (e / 3) (e % 3)) = .pass ∧ s.engBusy e = true) ∧
    (let s := State.reset.setFs [(ENG_STATUS_STATE 0 1, 1)]; let m := Master.firmware; let e := 1; s.gate m (ENG_CTRL (e / 3) (e % 3)) = .pass ∧ s.engBusy e = true) ∧
    (let s := State.reset.setFs [(ENG_TRIO_PWR_STATE 0, 2)]; let m := Master.firmware; let e := 1; s.gate m (ENG_CTRL (e / 3) (e % 3)) = .pass ∧ s.engBusy e = false ∧ s.trioUp (e / 3) = true ∧ s.progSlice e = false) ∧
    (let s := (State.reset.setF (ENG_TRIO_PWR_STATE 0) 2).updBist fun b => { b with run := [(0, 229)] }; let m := Master.firmware; let e := 1; s.gate m (ENG_CTRL (e / 3) (e % 3)) = .pass ∧ s.engBusy e = false ∧ s.trioUp (e / 3) = true ∧ s.progSlice e = true) ∧
    (let s := State.reset.setF (ENG_TRIO_PWR_STATE 0) 0; let m := Master.firmware; let e := 1; s.gate m (ENG_CTRL (e / 3) (e % 3)) = .pass ∧ s.engBusy e = false ∧ s.trioUp (e / 3) = false) ∧
    (let s := State.reset.setFs [(ENG_TRIO_PWR_STATE 0, 2), (ENG_TRIO_CLK_EN 0, 7)]; let m := Master.firmware; let e := 1; s.gate m (ENG_CTRL (e / 3) (e % 3)) = .pass ∧ s.engBusy e = false ∧ s.trioUp (e / 3) = true ∧ ((((s.answer (.ok 0)).updEng e fun g => { g with stall := none, stepping := true, merge := none }).wdtReload e).setEngState e 1).engClocked e = true) ∧
    (let s := State.reset.setFs [(ENG_TRIO_PWR_STATE 0, 2), (ENG_TRIO_CLK_EN 0, 0)]; let m := Master.firmware; let e := 1; s.gate m (ENG_CTRL (e / 3) (e % 3)) = .pass ∧ s.engBusy e = false ∧ s.trioUp (e / 3) = true ∧ ((((s.answer (.ok 0)).updEng e fun g => { g with stall := none, stepping := true, merge := none }).wdtReload e).setEngState e 1).engClocked e = false) ∧
    (let s := State.reset; let m := Master.firmware; let e := 1; s.gate m (ENG_CTRL (e / 3) (e % 3)) = .pass ∧ s.engBusy e = false) ∧
    (let s := State.reset.setFs [(ENG_STATUS_STATE 0 1, 1)]; let m := Master.firmware; let e := 1; s.gate m (ENG_CTRL (e / 3) (e % 3)) = .pass ∧ s.engState e = 1) ∧
    (let s := State.reset; let m := Master.firmware; let e := 1; s.gate m (ENG_CTRL (e / 3) (e % 3)) = .pass ∧ s.engState e ≠ 1) :=
  by and_intros <;> decide +kernel
theorem test_engineRunControlCommands_2 :
    (let s := (State.reset.setF (ENG_STATUS_STATE 0 1) 5).updEng 1 fun g => { g with merge := some 9 }; let e := 1; let a := 9; s.engState e = 5 ∧ (s.engAt e).stall = none ∧ (s.engAt e).merge = some a) ∧
    (let s := (State.reset.setF (ENG_STATUS_STATE 0 1) 5).updEng 1 fun g => { g with stopTo := 3 }; let e := 1; s.engState e = 5 ∧ (s.engAt e).stall = none ∧ (s.engAt e).merge = none ∧ (s.engAt e).stopTo = 3) ∧
    (let s := (State.reset.setF (ENG_STATUS_STATE 0 1) 5).updEng 1 fun g => { g with stopTo := 4 }; let e := 1; s.engState e = 5 ∧ (s.engAt e).stall = none ∧ (s.engAt e).merge = none ∧ (s.engAt e).stopTo ≠ 3) ∧
    (let s := State.reset; let e := 1; (s.engState e ≠ 5 ∨ (s.engAt e).stall.isSome)) ∧
    (let s := (State.reset.setFs [(ENG_STATUS_STATE 0 1, 5), (ENG_TRIO_CLK_EN 0, 7)]).updEng 1 fun g => { g with stall := some (.retry ⟨0, 1⟩ (.waitd 1)) }; let e := 1; let is : Issue := ⟨0, 1⟩; let op := EngOp.waitd 1; (s.engAt e).stall = some (.retry is op) ∧ s.engClocked e = true) ∧
    (let s := (State.reset.setFs [(ENG_STATUS_STATE 0 1, 5), (ENG_TRIO_CLK_EN 0, 7)]).updEng 1 fun g => { g with stall := some (.gated ⟨0, 1⟩ (.waitd 1)) }; let e := 1; let is : Issue := ⟨0, 1⟩; let op := EngOp.waitd 1; (s.engAt e).stall = some (.gated is op) ∧ s.engClocked e = true) ∧
    (let s := State.reset.setFs [(ENG_TRIO_CLK_EN 0, 0)]; let e := 1; s.engClocked e = false) ∧
    (let s := (State.reset.setFs [(ENG_STATUS_STATE 0 1, 5), (ENG_TRIO_CLK_EN 0, 7)]).updEng 1 fun g => { g with stall := some (.word 2 7) }; let e := 1; let cyc := 3; let i := 2; let w := 7; (s.engAt e).stall = some (.word i w) ∧ s.engClocked e = true ∧ (s.engAt e).streamWrite i (((s.count (ENG_STRM_STALL_CYCLES (e / 3) (e % 3)) cyc).count (ENG_CYCLES_COUNT (e / 3) (e % 3)) cyc).pack e i) w = some ((({ Eng.empty with stall := some (.word 2 7) } : Eng).setPend 2 (some 7)))) ∧
    (let s := State.reset; let e := 1; (s.engAt e).stall = none) ∧
    (let s := (State.reset.setF (ENG_STATUS_STATE 0 1) 5).updEng 1 fun g => { g with stall := some (.retry ⟨0, 1⟩ (.waitd 1)) }; let e := 1; let is : Issue := ⟨0, 1⟩; let op := EngOp.waitd 1; s.engState e = 5 ∧ (s.engAt e).stall = some (.retry is op)) ∧
    (let s := (State.reset.setF (ENG_STATUS_STATE 0 1) 5).updEng 1 fun g => { g with stall := some (.word 2 7) }; let e := 1; let i := 2; let w := 7; s.engState e = 5 ∧ (s.engAt e).stall = some (.word i w)) :=
  by and_intros <;> decide +kernel
theorem test_engineRunControlCommands_3 :
    (let s := State.reset; let e := 1; (s.engState e ≠ 5 ∨ (s.engAt e).stall = none)) ∧
    (let s := State.reset.setFs [(ENG_STATUS_STATE 0 1, 1), (ENG_WDT_EN 0 1, 1), (ENG_WDT_COUNT_COUNT 0 1, 0)]; let e := 1; s.engState e = 1 ∧ s.f (ENG_WDT_EN (e / 3) (e % 3)) = 1 ∧ s.f (ENG_WDT_COUNT_COUNT (e / 3) (e % 3)) = 0) ∧
    (let s := State.reset; let e := 1; (s.engState e ≠ 1 ∨ s.f (ENG_WDT_EN (e / 3) (e % 3)) ≠ 1 ∨ s.f (ENG_WDT_COUNT_COUNT (e / 3) (e % 3)) ≠ 0)) ∧
    (let s := State.reset.setFs [(ENG_STATUS_STATE 0 1, 1)]; let m := Master.firmware; let e := 1; s.gate m (ENG_REGDATA (e / 3) (e % 3)) = .pass ∧ s.engBusy e = true) ∧
    (let s := State.reset.setFs [(ENG_REGSEL_NUM 0 1, 88)]; let m := Master.firmware; let e := 1; let n := 88; s.gate m (ENG_REGDATA (e / 3) (e % 3)) = .pass ∧ s.engBusy e = false ∧ n = (s.f (ENG_REGSEL_NUM (e / 3) (e % 3)))) ∧
    (let s := State.reset; let e := 1; let npc := 9; let cnt := false; let u := s.setEngPc e npc; u = (if cnt then (s.setEngPc e npc).engRetire e else s.setEngPc e npc) ∧ (u.engAt e).merge = none ∧ (u.engAt e).stepping = false) ∧
    (let s := State.reset; let e := 1; let npc := 9; let cnt := false; let u := s.setEngPc e npc; u = (if cnt then (s.setEngPc e npc).engRetire e else s.setEngPc e npc) ∧ (u.engAt e).merge = none ∧ (u.engAt e).stepping = false) ∧
    (let s := State.reset.updEng 1 fun g => { g with merge := some 7 }; let e := 1; let npc := 9; let cnt := false; let u := s.setEngPc e npc; let a := 7; u = (if cnt then (s.setEngPc e npc).engRetire e else s.setEngPc e npc) ∧ (u.engAt e).merge = some a) ∧
    (let s := State.reset; let e := 1; ((s.setEngPc e ((s.engPc e + 1) % 4096)).engRetire e) = (s.setEngPc e ((s.engPc e + 1) % 4096)).engRetire e ∧ (((s.setEngPc e ((s.engPc e + 1) % 4096)).engRetire e).engAt e).merge = none) :=
  by and_intros <;> decide +kernel
theorem test_controllerQueueCommands_1 :
    (let p : Packet := { pkt1 with dst := pcNode 9 }; let s := (State.reset.setF (DMC_STATUS_STATE 9) 1).updNoc fun x => { x with inbox := [p] }; let n := 9; s.noc.inbox.find? (fun p => decide (p.dst = pcNode n)) = some p ∧ (s.pcState n ≠ 4 ∨ isRequest p = false ∨ (s.pcAt n).reel = true)) ∧
    (let s := State.reset; let n := 9; s.noc.inbox.find? (fun p => decide (p.dst = pcNode n)) = none) ∧
    (let p := { pkt1 with addr := 0, bcnt := 63 }; isRequest p = true ∧ (State.reset.setF (DMC_STATUS_STATE (State.reset.pcOf 0)) 1).pcRefusal (State.reset.pcOf 0) = none ∧ isHbm p.addr = true ∧ (State.reset.setF (DMC_STATUS_STATE (State.reset.pcOf 0)) 1).pcOf p.addr = (State.reset.pcOf 0) ∧ p.addr % 512 + (p.bcnt + 1) ≤ 512 ∧ (p.opc ≠ opcRead ∨ ((State.reset.setF (DMC_STATUS_STATE (State.reset.pcOf 0)) 1).arb (.pc (State.reset.pcOf 0))).fenced.contains (pcPort p) = false)) ∧
    (let s := State.reset; let n := 9; let p := pkt1; let st := stSideDown; isRequest p = true ∧ s.pcRefusal n = some st) ∧
    (let s := State.reset; let n := 9; s.pcState n ≠ 1) ∧
    (let s := State.reset.setFs [(DMC_STATUS_STATE 9, 1), (DMC_REF_STATUS_DEBT 9, 384)]; let n := 9; s.pcState n = 1 ∧ 48 * max 1 (s.eff (DMC_REF_POSTPONE_LIM n)) ≤ s.f (DMC_REF_STATUS_DEBT n)) ∧
    (let b : Beat := ⟨0, 0, 0, 3, 0, List.replicate 64 0, List.replicate 64 true, true, false, 0, 0, [], []⟩; let s := (State.reset.setF (DMC_STATUS_STATE 9) 1).updPc 9 fun c => { c with wq := [b] }; let n := 9; let busy := ([] : List Nat); slotOpen s n busy ∧ slotHazard s n busy = some (true, b)) ∧
    (let b : Beat := ⟨0, 0, 0, 3, 0, List.replicate 64 0, List.replicate 64 true, true, false, 0, 0, [], []⟩; let s := (State.reset.setF (DMC_STATUS_STATE 9) 1).updPc 9 fun c => { c with rq := [b], wq := [{ b with age := 9 }] }; let n := 9; let busy := ([] : List Nat); slotOpen s n busy ∧ slotHazard s n busy = some (false, b)) ∧
    (let b : Beat := ⟨0, 0, 0, 3, 0, List.replicate 64 0, List.replicate 64 true, false, false, 0, 0, [], []⟩; let s := (State.reset.setF (DMC_STATUS_STATE 9) 1).updPc 9 fun c => { c with wq := [b] }; let n := 9; let busy := ([] : List Nat); slotOpen s n busy ∧ slotHazard s n busy = none ∧ s.writeTurn n (s.pcAt n) (!(slotReads s n busy).isEmpty) ≠ 0 ∧ (slotTurned s n busy).pick n ({ s.pcAt n with turn := s.writeTurn n (s.pcAt n) (!(slotReads s n busy).isEmpty) }) (slotWrites s n busy) = some b) ∧
    (let b : Beat := ⟨0, 0, 2, 3, 0, List.replicate 64 0, List.replicate 64 true, false, false, 0, 0, [], []⟩; let q : ArbReq := ⟨2, 0, 0, 0, 0, 0, false⟩; let s := ((State.reset.setF (DMC_STATUS_STATE 9) 1).updPc 9 fun c => { c with rq := [b] }).setArb (.pc 9) { State.reset.arb (.pc 9) with owner := some q, burst := 4 }; let n := 9; let busy := ([] : List Nat); slotOpen s n busy ∧ slotHazard s n busy = none ∧ ((s.writeTurn n (s.pcAt n) (!(slotReads s n busy).isEmpty) = 0 ∨ (slotTurned s n busy).pick n ({ s.pcAt n with turn := s.writeTurn n (s.pcAt n) (!(slotReads s n busy).isEmpty) }) (slotWrites s n busy) = none)) ∧ ((slotAsked s n busy).arb (.pc n)).owner = some q ∧ (slotAsked s n busy).pick n ({ s.pcAt n with turn := s.writeTurn n (s.pcAt n) (!(slotReads s n busy).isEmpty) }) ((slotReads s n busy).filter fun b => decide (b.port = q.idx)) = some b) ∧
    (let s := State.reset.setFs [(DMC_STATUS_STATE 9, 1)]; let n := 9; let busy := ([] : List Nat); slotOpen s n busy ∧ slotHazard s n busy = none ∧ ((s.writeTurn n (s.pcAt n) (!(slotReads s n busy).isEmpty) = 0 ∨ (slotTurned s n busy).pick n ({ s.pcAt n with turn := s.writeTurn n (s.pcAt n) (!(slotReads s n busy).isEmpty) }) (slotWrites s n busy) = none)) ∧ (((slotAsked s n busy).arb (.pc n)).owner = none)) ∧
    (let s := (State.reset.setF (DMC_STATUS_STATE 9) 1).setPc 9 wActs; let n := 9; let busy := ([] : List Nat); let k := 2; s.pcState n = 1 ∧ s.f (DMC_REF_STATUS_DEBT n) < 48 * max 1 (s.eff (DMC_REF_POSTPONE_LIM n)) ∧ s.rfmDue (s.pcAt n) busy true = some k) :=
  ⟨by decide +kernel,
   by decide +kernel,
   by decide +kernel,
   by decide +kernel,
   by decide +kernel,
   (by decide +kernel),
   (by simp only [slotOpen, slotHazard, slotWrites, slotReads]; decide +kernel),
   (by simp only [slotOpen, slotHazard, slotWrites, slotReads]; decide +kernel),
   (by simp only [slotOpen, slotHazard, slotAsked, slotTurned, slotWrites, slotReads]; decide +kernel),
   (by simp only [slotOpen, slotHazard, slotAsked, slotTurned, slotWrites, slotReads]; decide +kernel),
   (by simp only [slotOpen, slotHazard, slotAsked, slotTurned, slotWrites, slotReads]; decide +kernel),
   ⟨by decide +kernel, by decide +kernel, wActs_due _ true⟩⟩
theorem test_controllerQueueCommands_2 :
    (let s := State.reset.setPc 9 wActs; let n := 9; let busy := ([] : List Nat); let k := 2; s.rfmDue (s.pcAt n) busy false = some k) ∧
    (let s := State.reset; let n := 9; let busy := ([] : List Nat); s.rfmDue (s.pcAt n) busy false = none ∧ s.f (DMC_REF_STATUS_DEBT n) = 0) ∧
    (let s := State.reset.setFs [(DMC_REF_STATUS_DEBT 9, 5)]; let n := 9; let busy := [0, 1]; let k := 2; s.rfmDue (s.pcAt n) busy false = none ∧ s.f (DMC_REF_STATUS_DEBT n) ≠ 0 ∧ (List.range 48).find? (fun k => !busy.contains k && !(s.pcAt n).round.contains k && !((s.pcAt n).rq ++ (s.pcAt n).wq).any (fun b => decide ((s.rowBankOf b.addr).2 = k))) = some k) ∧
    (let b : Beat := ⟨0, 0, 2, 3, 0, List.replicate 64 0, List.replicate 64 true, false, false, 0, 0, [], []⟩; let s := (State.reset.setF (DMC_STATUS_STATE 9) 1).updPc 9 fun c => { c with issued := [b] }; let n := 9; let rest := ([] : List Beat); (s.pcAt n).issued = b :: rest ∧ (s.pcAt n).reqs.find? (fun q => decide (q.rid = b.rid)) = none) ∧
    (let s := State.reset; let n := 9; (s.pcAt n).issued = []) ∧
    (let b : Beat := ⟨0, 0, 0, 3, 0, List.replicate 64 0, [true], false, true, 0, 0, [], []⟩; let s := (State.reset.setF (DMC_STATUS_STATE 9) 1).updPc 9 fun c => { c with wq := [{ b with age := 1, mrg := false }, b] }; let n := 9; (s.pcAt n).wq.find? (·.mrg) = some b ∧ ((s.pcAt n).wq.any fun x => x.addr = b.addr && decide (x.age < b.age)) = true) ∧
    (let b : Beat := ⟨0, 0, 0, 3, 0, List.replicate 64 0, [true], false, true, 0, 0, [], []⟩; let s := (State.reset.setF (DMC_STATUS_STATE 9) 1).updPc 9 fun c => { c with wq := [b] }; let n := 9; (s.pcAt n).wq.find? (·.mrg) = some b ∧ ((s.pcAt n).wq.any fun x => x.addr = b.addr && decide (x.age < b.age)) = false ∧ (s.pcAt n).reqs.find? (fun q => decide (q.rid = b.rid)) = none) ∧
    (let s := State.reset; let n := 9; (s.pcAt n).wq.find? (·.mrg) = none) ∧
    (let pg : Nat × Nat := (5, 0); let s := (State.reset.updPc 9 fun c => { c with pages := SMap.put (fun _ => none) c.pages 3 (some pg) }); let n := 9; let bank := 3; let longest := false; SMap.get (fun _ => none) (s.pcAt n).pages bank = some pg ∧ (longest = true ∨ ((pg.2 = 0 ∨ pg.2 = 3) ∧ ((s.pcAt n).rq ++ (s.pcAt n).wq).any (fun b => decide (s.rowBankOf b.addr = (pg.1, bank))) = false))) ∧
    (let pg : Nat × Nat := (5, 1); let s := (State.reset.updPc 9 fun c => { c with pages := SMap.put (fun _ => none) c.pages 3 (some pg) }); let n := 9; let bank := 3; let longest := false; SMap.get (fun _ => none) (s.pcAt n).pages bank = some pg ∧ (longest = false ∧ ((pg.2 ≠ 0 ∧ pg.2 ≠ 3) ∨ ((s.pcAt n).rq ++ (s.pcAt n).wq).any (fun b => decide (s.rowBankOf b.addr = (pg.1, bank))) = true))) ∧
    (let s := State.reset; let n := 9; let bank := 3; SMap.get (fun _ => none) (s.pcAt n).pages bank = none) :=
  ⟨wActs_due _ false,
   by decide +kernel,
   by decide +kernel,
   by decide +kernel,
   by decide +kernel,
   by decide +kernel,
   (by decide +kernel),
   by decide +kernel,
   by decide +kernel,
   by decide +kernel,
   by decide +kernel⟩
theorem test_controllerStateCommands_1 :
    (let s := State.reset.setFs [(DMC_STATUS_STATE 9, 5)]; let n := 9; ((s.pcState n = 1 ∨ s.pcState n = 3 ∨ s.pcState n = 5))) ∧
    (let s := State.reset.setFs [(DMC_STATUS_STATE 9, 4)]; let n := 9; (¬ (s.pcState n = 1 ∨ s.pcState n = 3 ∨ s.pcState n = 5))) ∧
    (let s := State.reset.setFs [(DMC_STATUS_STATE 9, 1), (DMC_SR_EN 9, 1)]; let n := 9; (s.pcState n = 1 ∧ s.eff (DMC_SR_EN n) = 1 ∧ (s.pcAt n).rq.isEmpty ∧ (s.pcAt n).wq.isEmpty ∧ (s.pcAt n).issued.isEmpty ∧ s.pcInputEmpty n)) ∧
    (let s := State.reset; let n := 9; ¬ (s.pcState n = 1 ∧ s.eff (DMC_SR_EN n) = 1 ∧ (s.pcAt n).rq.isEmpty ∧ (s.pcAt n).wq.isEmpty ∧ (s.pcAt n).issued.isEmpty ∧ s.pcInputEmpty n)) ∧
    (let s := (State.reset.setF (DMC_STATUS_STATE 9) 4).updPc 9 fun c => { c with head := [(0, pkt1)] }; let n := 9; s.pcState n = 4 ∧ s.pcInputEmpty n = false) ∧
    (let s := State.reset; let n := 9; (s.pcState n ≠ 4 ∨ s.pcInputEmpty n = true)) ∧
    (let s := State.reset.setFs [(DMC_STATUS_STATE 9, 1), (DMC_RECAL_RECAL_MS 9, 5)]; let n := 9; s.pcState n = 1 ∧ s.eff (DMC_RECAL_RECAL_MS n) ≠ 0) ∧
    (let s := State.reset; let n := 9; (s.pcState n ≠ 1 ∨ s.eff (DMC_RECAL_RECAL_MS n) = 0)) ∧
    (let s := State.reset.setFs [(DMC_STATUS_STATE 9, 5)]; let n := 9; s.pcState n = 5) ∧
    (let s := State.reset; let n := 9; s.pcState n ≠ 5) ∧
    (let s := State.reset.setFs [(DMC_STATUS_STATE 9, 5)]; let m := Master.firmware; let n := 9; s.gate m (DMC_CTRL n) = .pass ∧ (s.pcState n = 3 ∨ s.pcState n = 5)) ∧
    (let s := State.reset.setFs [(DMC_STATUS_STATE 9, 1)]; let m := Master.firmware; let n := 9; s.gate m (DMC_CTRL n) = .pass ∧ (s.pcState n = 1) ∧ (s.pcAt n).reel = false) ∧
    (let s := State.reset.setFs [(DMC_STATUS_STATE 9, 0)]; let m := Master.firmware; let n := 9; s.gate m (DMC_CTRL n) = .pass ∧ s.pcState n ≠ 3 ∧ s.pcState n ≠ 5 ∧ ((s.pcState n ≠ 1) ∨ (s.pcAt n).reel = true)) ∧
    (let s := State.reset.setFs [(DMC_STATUS_STATE 9, 5)]; let m := Master.firmware; let n := 9; s.gate m (DMC_CTRL n) = .pass ∧ (s.pcState n = 3 ∨ s.pcState n = 5)) ∧
    (let s := State.reset.setFs [(DMC_STATUS_STATE 9, 4)]; let m := Master.firmware; let n := 9; s.gate m (DMC_CTRL n) = .pass ∧ ((s.pcState n = 1 ∨ s.pcState n = 4)) ∧ (s.pcAt n).reel = false) :=
  by and_intros <;> decide +kernel
theorem test_controllerStateCommands_2 :
    (let s := State.reset.setFs [(DMC_STATUS_STATE 9, 0)]; let m := Master.firmware; let n := 9; s.gate m (DMC_CTRL n) = .pass ∧ s.pcState n ≠ 3 ∧ s.pcState n ≠ 5 ∧ ((s.pcState n ≠ 1 ∧ s.pcState n ≠ 4) ∨ (s.pcAt n).reel = true)) ∧
    (let s := State.reset.setFs [(DMC_STATUS_STATE 9, 5)]; let m := Master.firmware; let n := 9; s.gate m (DMC_CTRL n) = .pass ∧ (s.pcState n = 3 ∨ s.pcState n = 5)) ∧
    (let s := State.reset.setFs [(DMC_STATUS_STATE 9, 7)]; let m := Master.firmware; let n := 9; s.gate m (DMC_CTRL n) = .pass ∧ ((s.pcState n = 2 ∨ s.pcState n = 7)) ∧ (s.pcAt n).reel = false) ∧
    (let s := State.reset.setFs [(DMC_STATUS_STATE 9, 0)]; let m := Master.firmware; let n := 9; s.gate m (DMC_CTRL n) = .pass ∧ s.pcState n ≠ 3 ∧ s.pcState n ≠ 5 ∧ ((s.pcState n ≠ 2 ∧ s.pcState n ≠ 7) ∨ (s.pcAt n).reel = true)) ∧
    (let s := State.reset.setFs [(DMC_STATUS_STATE 9, 5)]; let m := Master.firmware; let n := 9; s.gate m (DMC_CTRL n) = .pass ∧ (s.pcState n = 3 ∨ s.pcState n = 5)) ∧
    (let s := State.reset.setFs [(DMC_STATUS_STATE 9, 4)]; let m := Master.firmware; let n := 9; s.gate m (DMC_CTRL n) = .pass ∧ ((s.pcState n = 1 ∨ s.pcState n = 4)) ∧ (s.pcAt n).reel = false) ∧
    (let s := State.reset.setFs [(DMC_STATUS_STATE 9, 0)]; let m := Master.firmware; let n := 9; s.gate m (DMC_CTRL n) = .pass ∧ s.pcState n ≠ 3 ∧ s.pcState n ≠ 5 ∧ ((s.pcState n ≠ 1 ∧ s.pcState n ≠ 4) ∨ (s.pcAt n).reel = true)) ∧
    (let s := State.reset.setFs [(DMC_STATUS_STATE 9, 5)]; let n := 9; (s.pcState n = 1 ∨ s.pcState n = 5)) ∧
    (let s := State.reset; let n := 9; s.pcState n ≠ 1 ∧ s.pcState n ≠ 5) ∧
    (let s := State.reset.setFs [(DMC_STATUS_STATE 9, 3)]; let n := 9; s.pcState n = 3) ∧
    (let s := State.reset; let n := 9; s.pcState n ≠ 3) ∧
    (let s := State.reset.setFs [(DMC_STATUS_STATE 9, 3)]; let n := 9; s.pcState n = 3) ∧
    (let s := State.reset; let n := 9; s.pcState n ≠ 3) ∧
    (let s := State.reset; let n := 9; s.pcState n = 0 ∧ (s.pcAt n).inited = false) ∧
    (let s := State.reset.setFs [(DMC_STATUS_STATE 9, 1)]; let n := 9; (s.pcState n ≠ 0 ∨ (s.pcAt n).inited = true)) :=
  by and_intros <;> decide +kernel
theorem test_errorCorrectionAndScrubCommands :
    (let s := State.reset; let m := Master.firmware; s.gate m ECC_MCLR = .pass) ∧
    (let s := State.reset.setFs [(ECC_CTRL_XP_ENABLE, 1), (HUB_STATUS_COMMITTED, 1), (FEAT_ACCEPT_ACCEPT 0, 65535)]; let m := Master.firmware; s.gate m ECC_XP_INJ = .pass ∧ s.xpOn ECC_XP_INJ = true) ∧
    (let s := State.reset; let m := Master.firmware; s.gate m ECC_XP_INJ = .pass ∧ s.xpOn ECC_XP_INJ = false) ∧
    (let s := State.reset.setFs [(ECC_SCRUB_STATUS_BUSY, 1)]; let m := Master.firmware; s.gate m ECC_SCRUB_CTRL = .pass ∧ s.bit ECC_SCRUB_STATUS_BUSY = true) ∧
    (let s := State.reset.setFs [(ECC_SCRUB_LEN_UNITS, 0)]; let m := Master.firmware; s.gate m ECC_SCRUB_CTRL = .pass ∧ s.bit ECC_SCRUB_STATUS_BUSY = false ∧ (s.f ECC_SCRUB_LEN_UNITS * 4096 = 0 ∨ 0x2400000000 < s.f ECC_SCRUB_BASE_UNITS * 4096 + s.f ECC_SCRUB_LEN_UNITS * 4096)) ∧
    (let s := State.reset.setFs [(ECC_SCRUB_LEN_UNITS, 1)]; let m := Master.firmware; s.gate m ECC_SCRUB_CTRL = .pass ∧ s.bit ECC_SCRUB_STATUS_BUSY = false ∧ (¬ (s.f ECC_SCRUB_LEN_UNITS * 4096 = 0 ∨ 0x2400000000 < s.f ECC_SCRUB_BASE_UNITS * 4096 + s.f ECC_SCRUB_LEN_UNITS * 4096))) ∧
    (let s := State.reset.setFs [(ECC_SCRUB_STATUS_BUSY, 1)]; let m := Master.firmware; s.gate m ECC_SCRUB_CTRL = .pass ∧ s.bit ECC_SCRUB_STATUS_BUSY = true) ∧
    (let s := State.reset; let m := Master.firmware; s.gate m ECC_SCRUB_CTRL = .pass ∧ s.bit ECC_SCRUB_STATUS_BUSY = false) ∧
    (let s := State.reset.setFs [(ECC_SCRUB_STATUS_BUSY, 1)]; s.bit ECC_SCRUB_STATUS_BUSY = true ∧ s.ecc.scrubEnd ≤ s.ecc.scrubPos) ∧
    (let s := State.reset; (s.bit ECC_SCRUB_STATUS_BUSY = false ∨ s.ecc.scrubPos < s.ecc.scrubEnd)) ∧
    (let s := { State.reset.setFs [(ECC_SCRUB_STATUS_BUSY, 1), (DMC_STATUS_STATE (State.reset.pcOf 0), 7)] with ecc := { State.reset.ecc with scrubEnd := 4096 } }; s.bit ECC_SCRUB_STATUS_BUSY = true ∧ s.ecc.scrubPos < s.ecc.scrubEnd ∧ (s.pcState (s.pcOf s.ecc.scrubPos) = 2 ∨ s.pcState (s.pcOf s.ecc.scrubPos) = 7)) ∧
    (let s := { State.reset.setFs [(ECC_SCRUB_STATUS_BUSY, 1), (DMC_STATUS_STATE (State.reset.pcOf 0), 4)] with ecc := { State.reset.ecc with scrubEnd := 4096 } }; s.bit ECC_SCRUB_STATUS_BUSY = true ∧ s.ecc.scrubPos < s.ecc.scrubEnd ∧ s.pcState (s.pcOf s.ecc.scrubPos) = 4) ∧
    (let s := { State.reset.setFs [(ECC_SCRUB_STATUS_BUSY, 1), (DMC_STATUS_STATE (State.reset.pcOf 0), 1)] with ecc := { State.reset.ecc with scrubEnd := 4096 } }; s.bit ECC_SCRUB_STATUS_BUSY = true ∧ s.ecc.scrubPos < s.ecc.scrubEnd ∧ s.pcState (s.pcOf s.ecc.scrubPos) = 1) ∧
    (let s := State.reset; (s.bit ECC_SCRUB_STATUS_BUSY = false ∨ s.ecc.scrubEnd ≤ s.ecc.scrubPos)) :=
  by and_intros <;> decide +kernel
theorem test_keySlotAndEncryptionCommands_1 :
    (let s := State.reset.setFs [(SEC_K_STATUS_STATE 5, 1)]; let m := Master.firmware; let k := 9; s.gate m (SEC_K_CTRL k) = .pass ∧ s.ksIniting ≠ []) ∧
    (let s := State.reset; let m := Master.firmware; let k := 9; s.gate m (SEC_K_CTRL k) = .pass ∧ s.ksIniting = [] ∧ s.installErr k ≠ 0) ∧
    (let s := { (State.reset.setFs [(SEC_K_CTRL_LEASE 9, 7), (HUB_RGN_STATE_LEASE 3, 7), (SEC_K_RANGE_SIZE_64M 9, 1)]).updSec fun c => { c with loaded := List.replicate 24 0 } with leaseWin := [(7, [(0, 2 ^ 30)])] }; let m := Master.firmware; let k := 9; s.gate m (SEC_K_CTRL k) = .pass ∧ s.ksIniting = [] ∧ s.installErr k = 0) ∧
    (let s := State.reset.setFs [(SEC_K_STATUS_STATE 9, 3)]; let m := Master.firmware; let k := 9; s.gate m (SEC_K_CTRL k) = .pass ∧ (s.ksState k = 2 ∨ s.ksState k = 3 ∨ s.ksState k = 4)) ∧
    (let s := State.reset; let m := Master.firmware; let k := 9; s.gate m (SEC_K_CTRL k) = .pass ∧ (¬ (s.ksState k = 2 ∨ s.ksState k = 3 ∨ s.ksState k = 4))) ∧
    (let s := State.reset.setFs [(SEC_K_STATUS_STATE 9, 3)]; let m := Master.firmware; let k := 9; s.gate m (SEC_K_CTRL k) = .pass ∧ s.ksState k = 3) ∧
    (let s := State.reset; let m := Master.firmware; let k := 9; s.gate m (SEC_K_CTRL k) = .pass ∧ ¬ (s.ksState k = 3)) ∧
    (let s := State.reset.setFs [(SEC_K_STATUS_STATE 9, 1)]; let k := 9; s.ksState k = 1) ∧
    (let s := State.reset; let k := 9; s.ksState k ≠ 1) ∧
    (let s := State.reset.setFs [(SEC_K_STATUS_STATE 9, 5)]; let k := 9; s.ksState k = 5 ∧ (s.sec.pend.any fun q => decide (q.k = k)) = false) :=
  by and_intros <;> decide +kernel
theorem test_keySlotAndEncryptionCommands_2 :
    (let s := State.reset; let k := 9; (s.ksState k ≠ 5 ∨ (s.sec.pend.any fun q => decide (q.k = k)) = true)) ∧
    (let p : Packet := { pkt1 with dst := encNode 0, opc := opcRead, kv := true, key := 9 }; let s := (State.reset.setFs [(SEC_K_STATUS_STATE 9, 2), (SEC_K_RANGE_SIZE_64M 9, 1), (DMC_STATUS_STATE (State.reset.pcOf 0), 1)]).updNoc fun n => { n with inbox := [p] }; let e := 0; s.encPick e opcRead [] s.noc.inbox = some p ∧ (s.encTake p).encClosed p.key true = none ∧ (s.encTake p).encPcRefusal e p true = none) ∧
    (let p : Packet := { pkt1 with dst := encNode 0, opc := opcRead, kv := true, key := 9 }; let s := (State.reset.setFs []).updNoc fun n => { n with inbox := [p] }; let e := 0; s.encPick e opcRead [] s.noc.inbox = some p ∧ (s.encTake p).encClosed p.key true = some (((State.reset.encClosed 9 true).getD 0))) ∧
    (let s := State.reset; let e := 0; s.encPick e opcRead [] s.noc.inbox = none) ∧
    (let p : Packet := { pkt1 with dst := encNode 0, opc := opcWrite, kv := true, key := 9 }; let s := (State.reset.setFs [(SEC_K_STATUS_STATE 9, 2), (SEC_K_RANGE_SIZE_64M 9, 1), (DMC_STATUS_STATE (State.reset.pcOf 0), 1)]).updNoc fun n => { n with inbox := [p] }; let e := 0; let t0 := TreeRes.good false; s.encPick e opcWrite [] s.noc.inbox = some p ∧ (s.encTake p).encClosed p.key false = none ∧ (s.encTake p).encPcRefusal e p false = none) ∧
    (let p : Packet := { pkt1 with dst := encNode 0, opc := opcWrite, kv := true, key := 9 }; let s := (State.reset.setFs []).updNoc fun n => { n with inbox := [p] }; let e := 0; s.encPick e opcWrite [] s.noc.inbox = some p ∧ (s.encTake p).encClosed p.key false = some (((State.reset.encClosed 9 false).getD 0))) ∧
    (let s := State.reset; let e := 0; s.encPick e opcWrite [] s.noc.inbox = none) ∧
    (let x : EncGran := ⟨0, [], 0, 0⟩; let q : EncPend := ⟨0, pkt1, 9, [x], true, [], false⟩; let s := State.reset.updSec fun c => { c with pend := [q] }; let e := 0; let t := TreeRes.good false; s.sec.pend.find? (fun q => decide (q.eng = e)) = some q ∧ q.grans = [x]) ∧
    (let x : EncGran := ⟨0, [], 0, 0⟩; let q : EncPend := ⟨0, pkt1, 9, [x, x], true, [], false⟩; let s := State.reset.updSec fun c => { c with pend := [q] }; let e := 0; let t := TreeRes.good false; let y := x; let rest := ([] : List EncGran); s.sec.pend.find? (fun q => decide (q.eng = e)) = some q ∧ q.grans = x :: y :: rest) ∧
    (let s := State.reset; let e := 0; s.sec.pend.find? (fun q => decide (q.eng = e)) = none) :=
  by and_intros <;> decide +kernel
theorem test_quadAndRecordCommands_1 :
    (let s := State.reset.setFs [(LNE_STATUS_MODE 49, 1)]; let m := Master.firmware; let q := 12; let v := 0x09000006; s.gate m (LNE_Q_CFG q) = .pass ∧ tenantQuad q = true ∧ ((quadLanes q).all fun n => decide (s.laneMode n = 0)) = false) ∧
    (let s := State.reset; let m := Master.firmware; let q := 12; let v := 0x09000006; s.gate m (LNE_Q_CFG q) = .pass ∧ tenantQuad q = true ∧ ((quadLanes q).all fun n => decide (s.laneMode n = 0)) = true) ∧
    (let s := State.reset.setFs [(LNE_STATUS_MODE 13, 1)]; let m := Master.firmware; let q := 3; let v := 7; s.gate m (LNE_Q_CFG q) = .pass ∧ tenantQuad q = false ∧ ((quadLanes q).all fun n => decide (s.laneMode n = 0)) = false) ∧
    (let s := State.reset; let m := Master.firmware; let q := 3; let v := 7; s.gate m (LNE_Q_CFG q) = .pass ∧ tenantQuad q = false ∧ ((quadLanes q).all fun n => decide (s.laneMode n = 0)) = true) ∧
    (let s := State.reset.setFs [(LNE_STATUS_MODE 49, 1), (LNE_Q_STATUS_PLL_LOCK 12, 1)]; let n := 49; s.laneMode n ≠ 0 ∧ s.bit (LNE_Q_STATUS_PLL_LOCK (quadOf n)) = true) ∧
    (let s := State.reset; let n := 49; ¬ (s.laneMode n ≠ 0 ∧ s.bit (LNE_Q_STATUS_PLL_LOCK (quadOf n)) = true)) ∧
    (let s := State.reset.setFs [(LNE_STATUS_CDR_LOCK 49, 1), (LNE_Q_CFG_RATE 12, 3)]; let n := 49; s.bit (LNE_STATUS_CDR_LOCK n) = true ∧ pcsRate (s.quadRate (quadOf n)) = true) ∧
    (let s := State.reset; let n := 49; ¬ (s.bit (LNE_STATUS_CDR_LOCK n) = true ∧ pcsRate (s.quadRate (quadOf n)) = true)) ∧
    (let s := State.reset.setFs [(LNE_STATUS_CDR_LOCK 49, 1)]; let n := 49; s.bit (LNE_STATUS_CDR_LOCK n) = true) ∧
    (let s := State.reset; let n := 49; s.bit (LNE_STATUS_CDR_LOCK n) = false) :=
  by and_intros <;> decide +kernel
theorem test_quadAndRecordCommands_2 :
    (let s := State.reset; let n := 49; ((s.laneMode n ≠ 1 ∨ tenantQuad (quadOf n) = false ∨ (s.quadRate (quadOf n)) = 0 ∨ s.bit (LNE_STATUS_CDR_LOCK n) = false ∨ (pcsRate (s.quadRate (quadOf n)) = true ∧ s.bit (LNE_STATUS_PCS_LOCK n) = false)))) ∧
    (let s := State.reset.setFs [(LNE_STATUS_MODE 49, 1), (LNE_Q_CFG_RATE 12, 6), (LNE_STATUS_CDR_LOCK 49, 1), (LNE_SLIP_SLIP_DONE 49, 0)]; let n := 49; let fec := 0; let t := s; (¬ (s.laneMode n ≠ 1 ∨ tenantQuad (quadOf n) = false ∨ (s.quadRate (quadOf n)) = 0 ∨ s.bit (LNE_STATUS_CDR_LOCK n) = false ∨ (pcsRate (s.quadRate (quadOf n)) = true ∧ s.bit (LNE_STATUS_PCS_LOCK n) = false))) ∧ t = (if 3 ≤ (s.quadRate (quadOf n)) ∧ (s.quadRate (quadOf n)) ≤ 5 then (if fec = 1 then s.count (LNE_FEC_CNT_CORR n) 1 else if fec = 2 then s.count (LNE_FEC_CNT_UNCORR n) 1 else s) else s) ∧ ((rawRate (s.quadRate (quadOf n)) = true ∧ t.bit (LNE_SLIP_SLIP_DONE n) = false) ∨ 16384 < (t.laneAt n).rx.length + s.recSize n)) ∧
    (let s := State.reset.setFs [(LNE_STATUS_MODE 49, 1), (LNE_Q_CFG_RATE 12, 6), (LNE_STATUS_CDR_LOCK 49, 1), (LNE_SLIP_SLIP_DONE 49, 1)]; let n := 49; let fec := 0; let t := s; (¬ (s.laneMode n ≠ 1 ∨ tenantQuad (quadOf n) = false ∨ (s.quadRate (quadOf n)) = 0 ∨ s.bit (LNE_STATUS_CDR_LOCK n) = false ∨ (pcsRate (s.quadRate (quadOf n)) = true ∧ s.bit (LNE_STATUS_PCS_LOCK n) = false))) ∧ t = (if 3 ≤ (s.quadRate (quadOf n)) ∧ (s.quadRate (quadOf n)) ≤ 5 then (if fec = 1 then s.count (LNE_FEC_CNT_CORR n) 1 else if fec = 2 then s.count (LNE_FEC_CNT_UNCORR n) 1 else s) else s) ∧ ¬ (rawRate (s.quadRate (quadOf n)) = true ∧ t.bit (LNE_SLIP_SLIP_DONE n) = false) ∧ (t.laneAt n).rx.length + s.recSize n ≤ 16384) ∧
    (let p : Packet := { pkt1 with dst := quadNode 12, opc := opcRead, data := List.replicate 16 0 }; let s := (State.reset.setFs [(LNE_STATUS_MODE 48, 1), (LNE_Q_CFG_RATE 12, 6)]).updNoc fun n => { n with inbox := [p] }; let q := 12; s.noc.inbox.find? (fun p => decide (p.dst = quadNode q)) = some p ∧ p.opc = opcRead) ∧
    (let p : Packet := { pkt1 with dst := quadNode 12, opc := opcWrite, data := List.replicate 16 0 }; let s := (State.reset.setFs [(LNE_STATUS_MODE 48, 1), (LNE_Q_CFG_RATE 12, 6)]).updNoc fun n => { n with inbox := [p] }; let q := 12; s.noc.inbox.find? (fun p => decide (p.dst = quadNode q)) = some p ∧ p.opc = opcWrite ∧ (¬ ((s.updNoc fun x => { x with inbox := dropFirst (fun p => p.dst = quadNode q) x.inbox }).laneMode (4 * q + p.addr / 4096 % 4) ≠ 1 ∨ (s.updNoc fun x => { x with inbox := dropFirst (fun p => p.dst = quadNode q) x.inbox }).bit CFG_BOOT_STATUS_RIP = true ∨ (s.updNoc fun x => { x with inbox := dropFirst (fun p => p.dst = quadNode q) x.inbox }).quadRate q = 0 ∨ p.data.length % (s.updNoc fun x => { x with inbox := dropFirst (fun p => p.dst = quadNode q) x.inbox }).recSize (4 * q + p.addr / 4096 % 4) ≠ 0 ∨ 16384 < (((s.updNoc fun x => { x with inbox := dropFirst (fun p => p.dst = quadNode q) x.inbox }).laneAt (4 * q + p.addr / 4096 % 4)).tx.map fun p => p.data.length).foldl (· + ·) 0 + p.data.length))) ∧
    (let p : Packet := { pkt1 with dst := quadNode 12, opc := opcWrite, data := List.replicate 16 0 }; let s := (State.reset.setFs [(LNE_STATUS_MODE 48, 0), (LNE_Q_CFG_RATE 12, 6)]).updNoc fun n => { n with inbox := [p] }; let q := 12; s.noc.inbox.find? (fun p => decide (p.dst = quadNode q)) = some p ∧ p.opc = opcWrite ∧ (((s.updNoc fun x => { x with inbox := dropFirst (fun p => p.dst = quadNode q) x.inbox }).laneMode (4 * q + p.addr / 4096 % 4) ≠ 1 ∨ (s.updNoc fun x => { x with inbox := dropFirst (fun p => p.dst = quadNode q) x.inbox }).bit CFG_BOOT_STATUS_RIP = true ∨ (s.updNoc fun x => { x with inbox := dropFirst (fun p => p.dst = quadNode q) x.inbox }).quadRate q = 0 ∨ p.data.length % (s.updNoc fun x => { x with inbox := dropFirst (fun p => p.dst = quadNode q) x.inbox }).recSize (4 * q + p.addr / 4096 % 4) ≠ 0 ∨ 16384 < (((s.updNoc fun x => { x with inbox := dropFirst (fun p => p.dst = quadNode q) x.inbox }).laneAt (4 * q + p.addr / 4096 % 4)).tx.map fun p => p.data.length).foldl (· + ·) 0 + p.data.length))) ∧
    (let s := State.reset; let q := 12; s.noc.inbox.find? (fun p => decide (p.dst = quadNode q)) = none) ∧
    (let p := pkt1; let t := ([] : List Packet); let s := (State.reset.setFs [(LNE_STATUS_MODE 49, 1), (LNE_STATUS_TX_IDLE 49, 0)]).updLane 49 fun x => { x with tx := [p] }; let n := 49; (s.laneAt n).tx = p :: t ∧ s.laneMode n = 1 ∧ s.bit (LNE_STATUS_TX_IDLE n) = false) ∧
    (let s := State.reset; let n := 49; (s.laneAt n).tx = []) :=
  by and_intros <;> decide +kernel
theorem test_equalisationPrbsAndSlipCommands_1 :
    (let s := State.reset; let m := Master.firmware; s.gate m LNE_GLB_CTRL = .pass) ∧
    (let s := State.reset.setFs [(LNE_STATUS_MODE 49, 1)]; let n := 49; s.laneMode n ≠ 0 ∧ s.eff (LNE_XP_EQ_CTRL_OVERRIDE n) ≠ 1) ∧
    (let s := State.reset; let n := 49; (s.laneMode n = 0 ∨ s.eff (LNE_XP_EQ_CTRL_OVERRIDE n) = 1)) ∧
    (let s := State.reset.setFs [(LNE_STATUS_WALK 49, 1)]; let n := 49; s.bit (LNE_STATUS_WALK n) = true ∧ s.walkWaits n = false) ∧
    (let s := State.reset; let n := 49; (s.bit (LNE_STATUS_WALK n) = false ∨ s.walkWaits n = true)) ∧
    (let s := State.reset.setFs [(PCI_EP_STATUS_LTSSM 1, 5)]; let ep := 1; (s.f (PCI_EP_STATUS_LTSSM ep) = 4 ∨ s.f (PCI_EP_STATUS_LTSSM ep) = 5)) ∧
    (let s := State.reset; let ep := 1; (¬ (s.f (PCI_EP_STATUS_LTSSM ep) = 4 ∨ s.f (PCI_EP_STATUS_LTSSM ep) = 5))) ∧
    (let s := State.reset; let m := Master.firmware; let n := 49; s.gate m (LNE_PRBS_CTRL n) = .pass ∧ s.prbsAllowed n = true) ∧
    (let s := State.reset; let m := Master.firmware; let n := 3; s.gate m (LNE_PRBS_CTRL n) = .pass ∧ s.prbsAllowed n = false) ∧
    (let s := State.reset.setFs [(LNE_STATUS_MODE 49, 2)]; let n := 49; s.laneMode n = 2) ∧
    (let s := State.reset; let n := 49; s.laneMode n ≠ 2) ∧
    (let s := State.reset.setFs [(LNE_STATUS_MODE 49, 2)]; let n := 49; s.laneMode n = 2) ∧
    (let s := State.reset; let n := 49; s.laneMode n ≠ 2) ∧
    (let taps := [7, 6]; let x : PrbsRun := ⟨⟨List.replicate 7 true, 127, []⟩, false, false, false, 0, 0⟩; let b := false; x.lock = false ∧ taps.headD 0 ≤ x.chk.hist.length ∧ b = prbsNext taps x.chk.hist ∧ x.chk.hist.any id = true) ∧
    (let x : PrbsRun := ⟨⟨[], 0, []⟩, true, false, false, 0, 0⟩; x.lock = true) :=
  by and_intros <;> decide +kernel
theorem test_equalisationPrbsAndSlipCommands_2 :
    (let s := State.reset; let m := Master.firmware; let n := 49; s.gate m (LNE_INJ n) = .pass ∧ s.laneMode n = 0) ∧
    (let s := State.reset.setFs [(LNE_STATUS_MODE 3, 1)]; let m := Master.firmware; let n := 3; s.gate m (LNE_INJ n) = .pass ∧ s.laneMode n = 1 ∧ tenantQuad (quadOf n) = false) ∧
    (let s := State.reset.setFs [(LNE_STATUS_MODE 49, 1), (LNE_INJ_INJ_MODE 49, 0)]; let m := Master.firmware; let n := 49; s.gate m (LNE_INJ n) = .pass ∧ s.laneMode n ≠ 0 ∧ ¬ (s.laneMode n = 1 ∧ tenantQuad (quadOf n) = false) ∧ s.f (LNE_INJ_INJ_MODE n) = 0) ∧
    (let s := State.reset.setFs [(LNE_STATUS_MODE 49, 1), (LNE_INJ_INJ_MODE 49, 1)]; let m := Master.firmware; let n := 49; s.gate m (LNE_INJ n) = .pass ∧ s.laneMode n ≠ 0 ∧ ¬ (s.laneMode n = 1 ∧ tenantQuad (quadOf n) = false) ∧ s.f (LNE_INJ_INJ_MODE n) = 1) ∧
    (let s := State.reset.setFs [(LNE_STATUS_MODE 49, 1), (LNE_INJ_INJ_MODE 49, 2)]; let m := Master.firmware; let n := 49; s.gate m (LNE_INJ n) = .pass ∧ s.laneMode n ≠ 0 ∧ ¬ (s.laneMode n = 1 ∧ tenantQuad (quadOf n) = false) ∧ s.f (LNE_INJ_INJ_MODE n) = 2) ∧
    (let s := State.reset.setFs [(LNE_STATUS_MODE 49, 1), (LNE_INJ_INJ_MODE 49, 3)]; let m := Master.firmware; let n := 49; s.gate m (LNE_INJ n) = .pass ∧ s.laneMode n ≠ 0 ∧ ¬ (s.laneMode n = 1 ∧ tenantQuad (quadOf n) = false) ∧ s.f (LNE_INJ_INJ_MODE n) = 3) ∧
    (let s := State.reset; let m := Master.firmware; let n := 3; s.gate m (LNE_SLIP n) = .pass ∧ ¬ (tenantQuad (quadOf n) = true ∧ rawRate (s.quadRate (quadOf n)) = true)) ∧
    (let s := State.reset.setFs [(LNE_Q_CFG_RATE 12, 7), (LNE_SLIP_SLIP_DONE 49, 1)]; let m := Master.firmware; let n := 49; s.gate m (LNE_SLIP n) = .pass ∧ tenantQuad (quadOf n) = true ∧ rawRate (s.quadRate (quadOf n)) = true ∧ s.bit (LNE_SLIP_SLIP_DONE n) = true) ∧
    (let s := State.reset.setFs [(LNE_Q_CFG_RATE 12, 7), (LNE_SLIP_SLIP_DONE 49, 0)]; let m := Master.firmware; let n := 49; s.gate m (LNE_SLIP n) = .pass ∧ tenantQuad (quadOf n) = true ∧ rawRate (s.quadRate (quadOf n)) = true ∧ s.bit (LNE_SLIP_SLIP_DONE n) = false) ∧
    (let s := State.reset.setFs [(LNE_SLIP_SLIP_DONE 49, 0)]; let n := 49; s.bit (LNE_SLIP_SLIP_DONE n) = false) ∧
    (let s := State.reset.setFs [(LNE_SLIP_SLIP_DONE 49, 1)]; let n := 49; s.bit (LNE_SLIP_SLIP_DONE n) = true) ∧
    (let s := State.reset; let m := Master.firmware; let n := 49; s.gate m (LNE_SLIP n) = .pass) ∧
    (let s := (State.reset.setFs [(LNE_STATUS_MODE 49, 1), (LNE_Q_CFG_RATE 12, 6), (LNE_SLIP_SLIP_DONE 49, 1)]).updLane 49 fun x => { x with snap := true }; let n := 49; (s.laneAt n).snap = true ∧ s.bit (LNE_SLIP_SLIP_DONE n) = true ∧ s.laneMode n = 1 ∧ rawRate (s.quadRate (quadOf n)) = true) ∧
    (let s := State.reset; let n := 49; ¬ ((s.laneAt n).snap = true ∧ s.bit (LNE_SLIP_SLIP_DONE n) = true ∧ s.laneMode n = 1 ∧ rawRate (s.quadRate (quadOf n)) = true)) :=
  by and_intros <;> decide +kernel
theorem test_pcieCommands_1 :
    (let s := State.reset; let e := 0; s.pciUp e = false) ∧
    (let s := State.reset.setF (PCI_EP_STATUS_LTSSM 0) 3; let e := 0; let fn := 0; let bar := 4; let k := Tlp.read; let off := 0x40; let n := 4; let t := s; let kind := 1; let a := 0x40; k ≠ .atomic ∧ s.pciUp e = true ∧ t = (match fn, bar with | 0, 2 => s.applyLive PCI_PF_HBMWIN_BASE_GIB | r + 1, 0 => s.applyLive (PCI_VF_WIN_BASE_64M r) | _, _ => s) ∧ t.barAt fn bar off n = some (kind, a) ∧ t.pciServes e fn = true ∧ (!t.pci.d3.contains (funcKey e fn)) = true) ∧
    (let s := State.reset.setF (PCI_EP_STATUS_LTSSM 0) 3; let e := 0; let fn := 0; let bar := 4; let k := Tlp.read; let off := 0xFFFE; let n := 4; let t := s; k ≠ .atomic ∧ s.pciUp e = true ∧ t = (match fn, bar with | 0, 2 => s.applyLive PCI_PF_HBMWIN_BASE_GIB | r + 1, 0 => s.applyLive (PCI_VF_WIN_BASE_64M r) | _, _ => s) ∧ t.barAt fn bar off n = none) ∧
    (let s := (State.reset.setF (PCI_EP_STATUS_LTSSM 0) 3).updPci fun p => { p with d3 := [0] }; let e := 0; let fn := 0; let bar := 4; let k := Tlp.read; let off := 0x40; let n := 4; let t := s; let kind := 1; let a := 0x40; k ≠ .atomic ∧ s.pciUp e = true ∧ t = (match fn, bar with | 0, 2 => s.applyLive PCI_PF_HBMWIN_BASE_GIB | r + 1, 0 => s.applyLive (PCI_VF_WIN_BASE_64M r) | _, _ => s) ∧ t.barAt fn bar off n = some (kind, a) ∧ ¬ (t.pciServes e fn = true ∧ (!t.pci.d3.contains (funcKey e fn)) = true)) ∧
    (let s := State.reset.setF (PCI_EP_STATUS_LTSSM 0) 3; let e := 0; s.pciUp e = true) ∧
    (let s := State.reset; let e := 0; (s.outBehind e).noc.inbox.find? (fun p => decide (p.dst = pcieNode e)) = none) ∧
    (let p : Packet := { pkt1 with dst := pcieNode 0 }; let s := State.reset.updNoc fun n => { n with inbox := [p] }; let e := 0; (s.outBehind e).noc.inbox.find? (fun p => decide (p.dst = pcieNode e)) = some p) ∧
    (let s := State.reset; let e := 0; let p := pkt1; let st := stSideDown; s.outRefusal e p = some st) ∧
    (let x : Packet := { pkt1 with lease := 7, opc := opcWrite }; let s := { State.reset.setFs [(PCI_EP_STATUS_LTSSM 0, 3), (PCI_OWIN_CTRL_VALID 0, 1), (PCI_OWIN_CTRL_LEASE 0, 7), (MIR_PL_STATUS_STATE 0, 2), (MIR_PL_CFG_MODE 0, 1), (MIR_PL_CFG_LEASE 0, 7)] with pci := { State.reset.pci with bm := [0] }, heldFx := [⟨1, 0, 0, 7, 0, 0, 0, [], some x⟩] }; let e := 0; let p : Packet := { pkt1 with lease := 7 }; s.outRefusal e p = none ∧ p.opc = opcRead ∧ s.outWaits p = some x) ∧
    (let s := { State.reset.setFs [(PCI_EP_STATUS_LTSSM 0, 3), (PCI_OWIN_CTRL_VALID 0, 1), (PCI_OWIN_CTRL_LEASE 0, 7)] with pci := { State.reset.pci with bm := [0] } }; let e := 0; let p : Packet := { pkt1 with lease := 7 }; s.outRefusal e p = none ∧ p.opc = opcRead ∧ s.outWaits p = none) ∧
    (let s := { State.reset.setFs [(PCI_EP_STATUS_LTSSM 0, 3), (PCI_OWIN_CTRL_VALID 0, 1), (PCI_OWIN_CTRL_LEASE 0, 7)] with pci := { State.reset.pci with bm := [0] } }; let e := 0; let p : Packet := { pkt1 with lease := 7, opc := opcWrite }; s.outRefusal e p = none ∧ p.opc ≠ opcRead) ∧
    (let x : Nat × Packet := (0, { pkt1 with dst := pcieNode 0 }); let s := State.reset.updPci fun c => { c with reads := [x] }; let e := 0; let i := 0; let d : List Byte := [0]; s.readAt e i = some x ∧ d.length = x.2.bcnt + 1) :=
  by and_intros <;> decide +kernel
theorem test_pcieCommands_2 :
    (let x : Nat × Packet := (0, { pkt1 with dst := pcieNode 0 }); let s := State.reset.updPci fun c => { c with reads := [x] }; let e := 0; let i := 0; let d : List Byte := [0]; s.readAt e i = some x ∧ d.length = x.2.bcnt + 1) ∧
    (let x : Nat × Packet := (0, { pkt1 with dst := pcieNode 0 }); let s := State.reset.updPci fun c => { c with reads := [x] }; let e := 0; let i := 0; s.readAt e i = some x) ∧
    (let x : Nat × Packet := (0, { pkt1 with dst := pcieNode 0 }); let s := State.reset.updPci fun c => { c with reads := [x] }; let e := 0; let i := 0; s.readAt e i = some x) ∧
    (let x : Nat × Packet := (0, { pkt1 with dst := pcieNode 0 }); let s := State.reset.updPci fun c => { c with reads := [x] }; let e := 0; let i := 0; s.readAt e i = some x) ∧
    (let s := State.reset; let e := 0; let i := 0; s.readAt e i = none) ∧
    (let s := State.reset.setF (PCI_EP_STATUS_LTSSM 0) 3; let e := 0; let fn := 0; s.pciUp e = true ∧ s.pciServes e fn = true) ∧
    (let s := State.reset.setF (PCI_EP_STATUS_LTSSM 0) 3; let e := 0; let fn := 0; s.pciUp e = true ∧ s.pciServes e fn = true) ∧
    (let s := State.reset.setF (PCI_EP_STATUS_LTSSM 0) 3; let e := 0; let fn := 0; s.pciUp e = true ∧ s.pciServes e fn = true) ∧
    (let s := State.reset.setF (PCI_EP_STATUS_LTSSM 0) 3; let e := 0; let fn := 0; s.pciUp e = true ∧ s.pciServes e fn = true) ∧
    (let s := State.reset.setF (PCI_EP_STATUS_LTSSM 0) 3; let e := 0; let fn := 0; let num := 65; s.pciUp e = true ∧ s.pciServes e fn = true ∧ (fn ≠ 0 ∨ s.totalVfs e < num)) ∧
    (let s := State.reset.setF (PCI_EP_STATUS_LTSSM 0) 3; let e := 0; let fn := 0; let num := 64; s.pciUp e = true ∧ s.pciServes e fn = true ∧ fn = 0 ∧ num ≤ s.totalVfs e) ∧
    (let s := State.reset.setF (PCI_EP_STATUS_LTSSM 0) 3; let e := 0; let fn := 0; let num := 64; s.pciUp e = true ∧ s.pciServes e fn = true ∧ fn = 0 ∧ num ≤ s.totalVfs e) :=
  by and_intros <;> decide +kernel
theorem test_pcieCommands_3 :
    (let s := State.reset.setF (PCI_EP_STATUS_LTSSM 0) 3; let e := 0; let fn := 0; s.pciUp e = true ∧ s.pciServes e fn = true) ∧
    (let s := State.reset.setF (PCI_EP_STATUS_LTSSM 0) 3; let e := 0; let fn := 65; s.pciUp e = true ∧ s.pciServes e fn = false) ∧
    (let s := State.reset; let e := 0; s.pciUp e = false) ∧
    (let s := State.reset; let e := 0; s.pciUp e = false) ∧
    (let s := State.reset.setF (PCI_EP_STATUS_LTSSM 0) 3; let e := 0; let ltssm := 5; s.pciUp e = true ∧ (ltssm = 4 ∨ ltssm = 5)) ∧
    (let s := State.reset.setF (PCI_EP_STATUS_LTSSM 0) 3; let e := 0; let ltssm := 0; s.pciUp e = true ∧ ltssm ≠ 4 ∧ ltssm ≠ 5) ∧
    (let s := State.reset.setF (PCI_EP_STATUS_LTSSM 0) 3; let e := 0; s.pciUp e = true) ∧
    (let s := State.reset; let e := 0; s.pciUp e = false) ∧
    (let s := State.reset.setF (PWR_DOM_STATUS_STATE 172) 2; let e := 0; s.pciUp e = false ∧ s.f (PCI_EP_CTRL_LINK_DIS e) ≠ 1 ∧ s.f (PWR_DOM_STATUS_STATE (172 + e)) = 2) ∧
    (let s := State.reset.setF (PCI_EP_STATUS_LTSSM 0) 3; let e := 0; (s.pciUp e = true ∨ s.f (PCI_EP_CTRL_LINK_DIS e) = 1 ∨ s.f (PWR_DOM_STATUS_STATE (172 + e)) ≠ 2)) ∧
    (let s := State.reset.updPci fun p => { p with vfs := [(0, 64)] }; let fn := 46; 1 ≤ fn ∧ fn ≤ 64 ∧ s.funcEnabled (s.funcEp fn) fn = true) ∧
    (let s := State.reset; let fn := 46; ¬ (1 ≤ fn ∧ fn ≤ 64 ∧ s.funcEnabled (s.funcEp fn) fn = true)) :=
  by and_intros <;> decide +kernel
theorem test_mirrorLinkCommands_1 :
    (let s := State.reset.setFs [(MIR_STATUS_LINK, 2)]; let m := Master.firmware; s.gate m MIR_CTRL = .pass ∧ (¬ (s.link = 0 ∨ s.link = 4 ∨ s.link = 5) ∨ s.bit MIR_STATUS_SELF_FAILED = true ∨ s.bit CFG_BOOT_STATUS_RIP = true)) ∧
    (let s := State.reset; let m := Master.firmware; s.gate m MIR_CTRL = .pass ∧ (¬ (¬ (s.link = 0 ∨ s.link = 4 ∨ s.link = 5) ∨ s.bit MIR_STATUS_SELF_FAILED = true ∨ s.bit CFG_BOOT_STATUS_RIP = true)) ∧ s.mir.keySet ≠ 255) ∧
    (let s := State.reset.updMir fun x => { x with keySet := 255 }; let m := Master.firmware; s.gate m MIR_CTRL = .pass ∧ (¬ (¬ (s.link = 0 ∨ s.link = 4 ∨ s.link = 5) ∨ s.bit MIR_STATUS_SELF_FAILED = true ∨ s.bit CFG_BOOT_STATUS_RIP = true)) ∧ s.mir.keySet = 255) ∧
    (let s := State.reset; let m := Master.firmware; s.gate m MIR_CTRL = .pass ∧ (¬ (s.link = 1 ∨ s.link = 2 ∨ s.link = 3))) ∧
    (let s := State.reset.setFs [(MIR_STATUS_LINK, 2)]; let m := Master.firmware; s.gate m MIR_CTRL = .pass ∧ ((s.link = 1 ∨ s.link = 2 ∨ s.link = 3))) ∧
    (let s := State.reset.setFs [(MIR_STATUS_SELF_FAILED, 1)]; let m := Master.firmware; s.gate m MIR_CTRL = .pass ∧ s.bit MIR_STATUS_SELF_FAILED = true) ∧
    (let s := State.reset; let m := Master.firmware; s.gate m MIR_CTRL = .pass ∧ s.bit MIR_STATUS_SELF_FAILED = false) ∧
    (let s := State.reset.setFs [(MIR_STATUS_LINK, 1)]; s.link = 1 ∧ s.mir.trained = false) ∧
    (let s := State.reset.setFs [(MIR_STATUS_LINK, 1)]; s.link = 1 ∧ s.mir.trained = false) ∧
    (let s := State.reset; ¬ (s.link = 1 ∧ s.mir.trained = false)) ∧
    (let s := State.reset; (s.link ≠ 1 ∨ s.mir.trained = false)) ∧
    (let s := (State.reset.setF MIR_STATUS_LINK 1).updMir fun x => { x with trained := true }; s.link = 1 ∧ s.mir.trained = true) ∧
    (let s := (State.reset.setF MIR_STATUS_LINK 1).updMir fun x => { x with trained := true }; let role := 0; s.link = 1 ∧ s.mir.trained = true ∧ role % 2 = s.f MIR_STATUS_ROLE) ∧
    (let s := (State.reset.setF MIR_STATUS_LINK 1).updMir fun x => { x with trained := true }; let role := 1; s.link = 1 ∧ s.mir.trained = true ∧ role % 2 ≠ s.f MIR_STATUS_ROLE) :=
  by and_intros <;> decide +kernel
theorem test_mirrorLinkCommands_2 :
    (let s := State.reset; let lane := 40; (¬ ((s.link = 2 ∨ s.link = 3) ∧ 32 ≤ lane ∧ lane < 48 ∧ s.mirUses lane = true))) ∧
    (let s := (State.reset.setF MIR_STATUS_LINK 2).updMir fun x => { x with badQuads := [8] }; let lane := 40; ((s.link = 2 ∨ s.link = 3) ∧ 32 ≤ lane ∧ lane < 48 ∧ s.mirUses lane = true) ∧ (s.updMir fun x => { x with badQuads := (lane / 4) :: x.badQuads }).mir.noPair = true) ∧
    (let s := State.reset.setFs [(MIR_STATUS_LINK, 3)]; let lane := 40; s.link = 3 ∧ 32 ≤ lane ∧ lane < 48 ∧ s.mirUses lane = true ∧ (s.updMir fun x => { x with badQuads := (lane / 4) :: x.badQuads }).mir.noPair = false) ∧
    (let s := State.reset.setFs [(MIR_STATUS_LINK, 2)]; let lane := 40; s.link = 2 ∧ 32 ≤ lane ∧ lane < 48 ∧ s.mirUses lane = true ∧ (s.updMir fun x => { x with badQuads := (lane / 4) :: x.badQuads }).mir.noPair = false) ∧
    (let s := State.reset.setFs [(MIR_STATUS_LINK, 3)]; s.link = 3) ∧
    (let s := State.reset; s.link ≠ 3) ∧
    (let s := (State.reset.setF MIR_STATUS_LINK 2).updMir fun x => { x with expect := some (9, false) }; let t := 9; (s.setF MIR_STATUS_FAIL_IN 1).link = 2 ∧ (s.setF MIR_STATUS_FAIL_IN 1).mir.expect = some (t, false)) ∧
    (let s := State.reset.setFs [(MIR_STATUS_LINK, 2)]; (s.setF MIR_STATUS_FAIL_IN 1).link = 2 ∧ ((∀ t, (s.setF MIR_STATUS_FAIL_IN 1).mir.expect ≠ some (t, false)))) ∧
    (let s := State.reset.setFs [(MIR_STATUS_LINK, 3)]; (s.setF MIR_STATUS_FAIL_IN 1).link = 3) ∧
    (let s := State.reset; (s.setF MIR_STATUS_FAIL_IN 1).link ≠ 2 ∧ (s.setF MIR_STATUS_FAIL_IN 1).link ≠ 3) ∧
    (let s := State.reset; s.bit MIR_STATUS_SELF_FAILED = false) ∧
    (let s := State.reset.updMir fun x => { x with own := some 9 }; s.mir.own.isSome = true) ∧
    (let s := State.reset; s.mir.own.isSome = false) :=
  ⟨by decide +kernel,
   by decide +kernel,
   by decide +kernel,
   by decide +kernel,
   by decide +kernel,
   (by decide +kernel),
   by decide +kernel,
   ⟨rfl, fun t h => by cases h⟩,
   by decide +kernel,
   by decide +kernel,
   by decide +kernel,
   by decide +kernel,
   by decide +kernel⟩
theorem test_mirrorEpochCommands_1 :
    (let s := State.reset.setFs [(MIR_STATUS_LINK, 2)]; let seq := 0; s.link = 2 ∧ s.seqRx = seq) ∧
    (let s := State.reset.setFs [(MIR_STATUS_LINK, 2)]; let seq := 0; s.link = 2 ∧ s.seqRx = seq) ∧
    (let s := State.reset.setFs [(MIR_STATUS_LINK, 2)]; let seq := 0; s.link = 2 ∧ s.seqRx = seq) ∧
    (let s := State.reset.setFs [(MIR_STATUS_LINK, 2)]; let seq := 0; s.link = 2 ∧ s.seqRx = seq) ∧
    (let s := State.reset.setFs [(MIR_STATUS_LINK, 2)]; let seq := 0; s.link = 2 ∧ s.seqRx = seq) ∧
    (let s := State.reset.setFs [(MIR_STATUS_LINK, 2)]; let seq := 0; s.link = 2 ∧ s.seqRx = seq) ∧
    (let s := State.reset.setFs [(MIR_STATUS_LINK, 2)]; let seq := 0; s.link = 2 ∧ s.seqRx = seq) ∧
    (let s := State.reset.setFs [(MIR_STATUS_LINK, 2)]; let seq := 0; s.link = 2 ∧ s.seqRx = seq) ∧
    (let s := State.reset.setFs [(MIR_STATUS_LINK, 2)]; let seq := 0; s.link = 2 ∧ s.seqRx = seq) ∧
    (let s := State.reset.setFs [(MIR_STATUS_LINK, 2)]; let seq := 0; s.link = 2 ∧ s.seqRx = seq) ∧
    (let s := State.reset.setFs [(MIR_STATUS_LINK, 2)]; let seq := 0; s.link = 2 ∧ s.seqRx = seq) ∧
    (let s := State.reset; s.link ≠ 2) ∧
    (let s := (State.reset.setF MIR_STATUS_LINK 2).updMir fun x => { x with retrying := true }; let seq := 1; let t := s; s.link = 2 ∧ s.seqRx ≠ seq ∧ t = (if s.mir.retrying then s else (s.pushCtl 0x0A s.seqRx 0).updMir fun m => { m with retrying := true })) ∧
    (let s := State.reset.setFs [(MIR_STATUS_LINK, 2)]; s.link = 2) :=
  ⟨by decide +kernel,
   by decide +kernel,
   by decide +kernel,
   by decide +kernel,
   by decide +kernel,
   (by decide +kernel),
   by decide +kernel,
   by decide +kernel,
   by decide +kernel,
   by decide +kernel,
   by decide +kernel,
   (by decide +kernel),
   ⟨rfl, by decide, rfl⟩,
   by decide +kernel⟩
theorem test_mirrorEpochCommands_2 :
    (let s := State.reset; s.link ≠ 2) ∧
    (let s := State.reset; s.mir.applying = none) ∧
    (let e : EpochEnd := ⟨5, 0, 0, 0, 0⟩; let s := State.reset.updMir fun x => { x with applying := some e }; s.mir.applying = some e) ∧
    (let s := State.reset; (s.link ≠ 2 ∨ (s.pls 1 [1, 2]).isEmpty = true)) ∧
    (let s := (State.reset.setFs [(MIR_STATUS_LINK, 2), (MIR_PL_CFG_MODE 3, 1), (MIR_PL_STATUS_STATE 3, 2)]).updMir fun x => { x with unacked := true }; (¬ (s.link ≠ 2 ∨ (s.pls 1 [1, 2]).isEmpty = true)) ∧ (s.mir.unacked = true ∨ s.mir.cutting = true)) ∧
    (let s := State.reset.setFs [(MIR_STATUS_LINK, 2), (MIR_PL_CFG_MODE 3, 1), (MIR_PL_STATUS_STATE 3, 2)]; (¬ (s.link ≠ 2 ∨ (s.pls 1 [1, 2]).isEmpty = true)) ∧ (¬ (s.mir.unacked = true ∨ s.mir.cutting = true)) ∧ s.mirRegions = []) ∧
    (let s := State.reset.setFs [(MIR_STATUS_LINK, 2), (MIR_PL_CFG_MODE 3, 1), (MIR_PL_STATUS_STATE 3, 2), (MIR_PL_CFG_LEASE 3, 7), (HUB_RGN_STATE_LEASE 45, 7), (HUB_RGN_STATE_STATE 45, 2), (MIR_RGN_MODE 45, 1), (MIR_RGN_PL 45, 3)]; (¬ (s.link ≠ 2 ∨ (s.pls 1 [1, 2]).isEmpty = true)) ∧ (¬ (s.mir.unacked = true ∨ s.mir.cutting = true)) ∧ s.mirRegions ≠ []) ∧
    (let s := State.reset; let j := 3; (s.mir.takes.contains j = false ∨ s.mir.applying.isSome = true)) ∧
    (let s := State.reset.updMir fun x => { x with takes := [3] }; let j := 3; s.mir.takes.contains j = true ∧ s.mir.applying.isSome = false) ∧
    (let s := State.reset.setFs [(MIR_STATUS_LINK, 2), (MIR_PL_CFG_MODE 3, 1), (MIR_PL_STATUS_STATE 3, 2)]; let m := Master.firmware; let j := 3; s.gate m (MIR_PL_CFG j) = .pass ∧ s.plMode j = 1 ∧ s.plState j = 2 ∧ s.link = 2) ∧
    (let s := State.reset; let m := Master.firmware; let j := 3; s.gate m (MIR_PL_CFG j) = .pass ∧ ¬ (s.plMode j = 1 ∧ s.plState j = 2 ∧ s.link = 2)) ∧
    (let s := State.reset.setFs [(MIR_STATUS_LINK, 2), (MIR_PL_CFG_MODE 3, 1), (MIR_PL_STATUS_STATE 3, 2)]; let m := Master.firmware; let j := 3; s.gate m (MIR_PL_CFG j) = .pass ∧ (s.link = 2 ∧ (s.plMode j = 1 ∨ s.plMode j = 2))) ∧
    (let s := State.reset; let m := Master.firmware; let j := 3; s.gate m (MIR_PL_CFG j) = .pass ∧ (¬ (s.link = 2 ∧ (s.plMode j = 1 ∨ s.plMode j = 2)))) :=
  ⟨by decide +kernel,
   by decide +kernel,
   rfl,
   by decide +kernel,
   by decide +kernel,
   by decide +kernel,
   by decide +kernel,
   by decide +kernel,
   (by decide +kernel),
   by decide +kernel,
   by decide +kernel,
   by decide +kernel,
   by decide +kernel⟩
theorem test_clockCommands :
    (let s := State.reset; let c0 := 0; let c1 := 25600; let v := 1; verdict (decide (s.f CLK_JUDGE_AON_SRC ≠ 0)) 4 c0 c1 = v) ∧
    (let s := State.reset; let m := Master.firmware; let p := 0; let f0 := 0; let f1 := 0; s.gate m (CLK_PLL_CFG p) = .pass ∧ (planned p = false ∨ (freqClamp p f0 = s.f (CLK_PLL_CFG_FREQ0_MHZ p) ∧ (64 < p ∨ freqClamp p f1 = s.f (CLK_PLL_CFG_FREQ1_MHZ p))))) ∧
    (let s := State.reset; let m := Master.firmware; let p := 46; let f0 := 300; let f1 := 250; s.gate m (CLK_PLL_CFG p) = .pass ∧ planned p = true ∧ (¬ (freqClamp p f0 = s.f (CLK_PLL_CFG_FREQ0_MHZ p) ∧ (64 < p ∨ freqClamp p f1 = s.f (CLK_PLL_CFG_FREQ1_MHZ p)))) ∧ (¬ (s.pllState p = 2 ∨ s.pllState p = 3 ∨ s.pllState p = 4))) ∧
    (let s := State.reset.setFs [(CLK_PLL_STATUS_STATE 46, 2)]; let m := Master.firmware; let p := 46; let f0 := 300; let f1 := 250; s.gate m (CLK_PLL_CFG p) = .pass ∧ planned p = true ∧ (¬ (freqClamp p f0 = s.f (CLK_PLL_CFG_FREQ0_MHZ p) ∧ (64 < p ∨ freqClamp p f1 = s.f (CLK_PLL_CFG_FREQ1_MHZ p)))) ∧ ((s.pllState p = 2 ∨ s.pllState p = 3 ∨ s.pllState p = 4))) ∧
    (let s := State.reset.setFs [(CLK_PLL_STATUS_STATE 46, 2)]; let p := 46; s.pllState p = 2) ∧
    (let s := State.reset.setFs [(CLK_PLL_STATUS_STATE 46, 4)]; let p := 46; s.pllState p = 4 ∧ (s.pllAt p).phase ≠ 2) ∧
    (let s := State.reset.setFs [(CLK_PLL_STATUS_STATE 77, 2), (LNE_Q_CFG_RATE 0, 0), (PWR_DOM_STATUS_STATE 128, 0)]; let p := 77; s.pllNeeded p = false ∧ s.pllState p ≠ 0) ∧
    (let s := State.reset; let p := 0; (s.pllNeeded p = true ∨ s.pllState p = 0)) ∧
    (let s := State.reset.setMux 191 31 ⟨.osc, .osc, 1, false, false⟩; let n := 191; let w := 31; ((s.muxAt n w).sw ≠ 0 ∧ s.clkRuns (s.muxAt n w).tgt = true ∧ ((s.muxAt n w).sw = 2 ∨ s.clkRuns (s.muxAt n w).cur = true))) ∧
    (let s := State.reset; let n := 191; let w := 31; (¬ ((s.muxAt n w).sw ≠ 0 ∧ s.clkRuns (s.muxAt n w).tgt = true ∧ ((s.muxAt n w).sw = 2 ∨ s.clkRuns (s.muxAt n w).cur = true)))) ∧
    (let s := State.reset.setMux 191 31 ⟨.osc, .osc, 1, false, false⟩; let n := 191; let w := 31; (s.muxAt n w).sw = 1) ∧
    (let s := State.reset; let n := 191; let w := 31; (s.muxAt n w).sw ≠ 1) ∧
    (let s := State.reset; let n := 191; let w := 31; ((s.muxAt n w).sw = 0 ∨ (s.muxAt n w).stalled = true ∨ s.clkRuns (s.muxAt n w).tgt = true ∨ ((s.muxAt n w).sw = 1 ∧ s.clkRuns (s.muxAt n w).cur = false))) ∧
    (let s := State.reset.setMux 91 31 ⟨.osc, .pll 46 1, 2, false, false⟩; let n := 91; let w := 31; (¬ ((s.muxAt n w).sw = 0 ∨ (s.muxAt n w).stalled = true ∨ s.clkRuns (s.muxAt n w).tgt = true ∨ ((s.muxAt n w).sw = 1 ∧ s.clkRuns (s.muxAt n w).cur = false)))) :=
  by and_intros <;> decide +kernel
theorem test_powerThermalAndLifecycleCommands_1 :
    (let s := State.reset; let m := Master.firmware; let n := 70; let v := 1; s.gate m (PWR_DOM_CTRL n) = .pass ∧ (2 ≤ v ∨ (64 ≤ n ∧ n < 128))) ∧
    (let s := State.reset.setFs [(PWR_DOM_STATUS_STATE 45, 3)]; let m := Master.firmware; let n := 45; let v := 1; s.gate m (PWR_DOM_CTRL n) = .pass ∧ (¬ (2 ≤ v ∨ (64 ≤ n ∧ n < 128))) ∧ ((s.answer (.ok 0)).setF (PWR_DOM_CTRL_REQ n) v).pwrState n = 3) ∧
    (let s := State.reset.setFs [(PWR_DOM_STATUS_STATE 45, 0)]; let m := Master.firmware; let n := 45; let v := 1; s.gate m (PWR_DOM_CTRL n) = .pass ∧ (¬ (2 ≤ v ∨ (64 ≤ n ∧ n < 128))) ∧ ((s.answer (.ok 0)).setF (PWR_DOM_CTRL_REQ n) v).f (PWR_DOM_CTRL_REQ n) = 1 ∧ ((s.answer (.ok 0)).setF (PWR_DOM_CTRL_REQ n) v).pwrState n = 0) ∧
    (let s := State.reset.setFs [(PWR_DOM_STATUS_STATE 45, 2)]; let m := Master.firmware; let n := 45; let v := 0; s.gate m (PWR_DOM_CTRL n) = .pass ∧ (¬ (2 ≤ v ∨ (64 ≤ n ∧ n < 128))) ∧ ((s.answer (.ok 0)).setF (PWR_DOM_CTRL_REQ n) v).f (PWR_DOM_CTRL_REQ n) = 0 ∧ ((s.answer (.ok 0)).setF (PWR_DOM_CTRL_REQ n) v).pwrState n = 2) ∧
    (let s := State.reset; let n := 70; (s.pwrState n ≠ 3 ∨ (64 ≤ n ∧ n < 128))) ∧
    (let s := State.reset.setFs [(PWR_DOM_STATUS_STATE 45, 3)]; let n := 45; (¬ (s.pwrState n ≠ 3 ∨ (64 ≤ n ∧ n < 128))) ∧ s.pwr.up.contains n = false) ∧
    (let s := (State.reset.setFs [(PWR_DOM_STATUS_STATE 45, 3)]).updPwr fun p => { p with up := [45] }; let n := 45; (¬ (s.pwrState n ≠ 3 ∨ (64 ≤ n ∧ n < 128))) ∧ s.pwr.up.contains n = true ∧ s.wakeWaits n = false) ∧
    (let s := (State.reset.setFs [(PWR_DOM_STATUS_STATE 165, 3), (CLK_PLL_CFG_KEEP 74, 1), (CLK_PLL_STATUS_STATE 74, 0)]).updPwr fun p => { p with up := [165] }; let n := 165; (¬ (s.pwrState n ≠ 3 ∨ (64 ≤ n ∧ n < 128))) ∧ s.pwr.up.contains n = true ∧ s.wakeWaits n = true) ∧
    (let s := State.reset; let t := ((List.range 64).foldl (fun t n => t.setF (PWR_TEMP_TEMP n) (([] : List Nat).getD n 0)) (s.applyLive PWR_THERM_CFG_WARN_C)).thermShow; t = ((List.range 64).foldl (fun t n => t.setF (PWR_TEMP_TEMP n) (([] : List Nat).getD n 0)) (s.applyLive PWR_THERM_CFG_WARN_C)).thermShow) ∧
    (let s := State.reset.setFs [(HUB_LC_STATUS_BUSY, 1)]; let m := Master.firmware; s.gate m HUB_LC_CMD = .pass ∧ s.bit HUB_LC_STATUS_BUSY = true) ∧
    (let s := State.reset.setFs [(HUB_LC_STATE_STATE, 3)]; let m := Master.firmware; s.gate m HUB_LC_CMD = .pass ∧ s.bit HUB_LC_STATUS_BUSY = false ∧ (s.answer (.ok 0)).lcCheck 1 0 ≠ 0) :=
  ⟨by decide +kernel,
   by decide +kernel,
   by decide +kernel,
   by decide +kernel,
   by decide +kernel,
   (by decide +kernel),
   by decide +kernel,
   by decide +kernel,
   rfl,
   by decide +kernel,
   by decide +kernel⟩
theorem test_powerThermalAndLifecycleCommands_2 :
    (let s := (State.reset.updPins fun p => { p with below := [] }); let m := Master.firmware; s.gate m HUB_LC_CMD = .pass ∧ s.bit HUB_LC_STATUS_BUSY = false ∧ (s.answer (.ok 0)).lcCheck 1 0 = 0) ∧
    (let s := State.reset; let m := Master.firmware; let idx := 1; s.gate m HUB_LC_CMD = .pass ∧ s.bit HUB_LC_STATUS_BUSY = false ∧ (s.answer (.ok 0)).lcCheck 2 idx ≠ 0) ∧
    (let s := (State.reset.updPins fun p => { p with below := [] }).setFs [(HUB_LC_STATE_STATE, 1)]; let m := Master.firmware; let idx := 1; s.gate m HUB_LC_CMD = .pass ∧ s.bit HUB_LC_STATUS_BUSY = false ∧ (s.answer (.ok 0)).lcCheck 2 idx = 0) ∧
    (let s := State.reset; let m := Master.firmware; let idx := 1; s.gate m HUB_LC_CMD = .pass ∧ s.bit HUB_LC_STATUS_BUSY = false ∧ (s.answer (.ok 0)).lcCheck 3 idx ≠ 0) ∧
    (let s := (State.reset.updPins fun p => { p with below := [] }).setFs [(HUB_LC_STATE_STATE, 2), (HUB_LC_STATE_KEYS, 0x3)]; let m := Master.firmware; let idx := 1; s.gate m HUB_LC_CMD = .pass ∧ s.bit HUB_LC_STATUS_BUSY = false ∧ (s.answer (.ok 0)).lcCheck 3 idx = 0) ∧
    (let s := State.reset; let m := Master.firmware; s.gate m HUB_LC_CMD = .pass ∧ s.bit HUB_LC_STATUS_BUSY = false) ∧
    (let s := State.reset.setFs [(HUB_LC_STATE_STATE, 5)]; let m := Master.firmware; s.gate m HUB_LC_CMD = .pass ∧ s.bit HUB_LC_STATUS_BUSY = false ∧ (s.answer (.ok 0)).lcCheck 5 0 ≠ 0) ∧
    (let s := (State.reset.updPins fun p => { p with below := [] }); let m := Master.firmware; s.gate m HUB_LC_CMD = .pass ∧ s.bit HUB_LC_STATUS_BUSY = false ∧ (s.answer (.ok 0)).lcCheck 5 0 = 0) ∧
    (let s := State.reset; s.life.cmd = 0) ∧
    (let s := { State.reset with life := ⟨1, 0⟩ }; s.life.cmd ≠ 0) :=
  by and_intros <;> decide +kernel
theorem test_hubCommands_1 :
    (let s := State.reset.setFs [(HUB_STATUS_COMMITTED, 1)]; let m := Master.firmware; s.gate m FEAT_COMMIT = .pass ∧ s.committed = true) ∧
    (let s := State.reset; let m := Master.firmware; s.gate m FEAT_COMMIT = .pass ∧ s.committed = false) ∧
    (let s := State.reset; let m := Master.firmware; let late := false; s.sharedGate m = .pass ∧ ((if late then s.logDrop m .order HUB_ATTN else s).answer (.ok 0)).ev.attn.length < 16) ∧
    (let s := { State.reset with ev := { State.reset.ev with attn := List.replicate 16 (2, 0) } }; let m := Master.firmware; let late := false; s.sharedGate m = .pass ∧ ¬ ((if late then s.logDrop m .order HUB_ATTN else s).answer (.ok 0)).ev.attn.length < 16) ∧
    (let s := State.reset; let m := Master.tenant 7 45; s.sharedGate m ≠ .pass) ∧
    (let s := State.reset; let m := Master.firmware; let fn := 0; let v := 65; let late := false; let t := s.answer (.ok 0); s.sharedGate m = .pass ∧ t = ((if late then s.logDrop m .order (MBX_H2F_DB fn) else s).answer (.ok 0)) ∧ ((v % 65536 + 65536 - t.f (MBX_H2F_CI_CI fn)) % 65536 < (t.f (MBX_H2F_DB_PI fn) + 65536 - t.f (MBX_H2F_CI_CI fn)) % 65536 ∨
        64 < (v % 65536 + 65536 - t.f (MBX_H2F_CI_CI fn)) % 65536)) ∧
    (let s := State.reset; let m := Master.firmware; let fn := 0; let v := 1; let late := false; let t := s.answer (.ok 0); s.sharedGate m = .pass ∧ t = ((if late then s.logDrop m .order (MBX_H2F_DB fn) else s).answer (.ok 0)) ∧ (¬ ((v % 65536 + 65536 - t.f (MBX_H2F_CI_CI fn)) % 65536 < (t.f (MBX_H2F_DB_PI fn) + 65536 - t.f (MBX_H2F_CI_CI fn)) % 65536 ∨
        64 < (v % 65536 + 65536 - t.f (MBX_H2F_CI_CI fn)) % 65536))) ∧
    (let s := State.reset; let m := Master.firmware; let fn := 0; s.gate m (MBX_F2H_PI fn) = .pass) ∧
    (let s := State.reset; let m := Master.firmware; s.gate m HUB_MSIX_RAISE = .pass) ∧
    (let s := State.reset.setFs [(HUB_RGN_STATE_LEASE 45, 7), (MIR_PL_STATUS_STATE 0, 2), (MIR_PL_CFG_MODE 0, 1), (MIR_PL_CFG_LEASE 0, 7)]; let fn := 46; s.funcFenced fn = true) ∧
    (let s := State.reset; let fn := 0; let v := 2; s.funcFenced fn = false ∧ s.msixMasked fn v = true) :=
  ⟨by decide +kernel,
   by decide +kernel,
   by decide +kernel,
   by decide +kernel,
   by decide +kernel,
   ⟨by decide, rfl, by decide +kernel⟩,
   ⟨by decide, rfl, by decide +kernel⟩,
   by decide +kernel,
   by decide +kernel,
   by decide +kernel,
   by decide +kernel⟩
theorem test_hubCommands_2 :
    (let s := State.reset.setF (MBX_MSIX_WORD 0 11) 0; let fn := 0; let v := 2; s.funcFenced fn = false ∧ s.msixMasked fn v = false) ∧
    (let s := wRec 0x8001; let t := (s.setF (MBX_H2F_CI_CI 0) ((s.f (MBX_H2F_CI_CI 0)) + 1)); s.recReady = true ∧ s.h2fWord (s.f (MBX_H2F_CI_CI 0)) 0 % 65536 = 0x8001 ∧ t = (s.setF (MBX_H2F_CI_CI 0) ((s.f (MBX_H2F_CI_CI 0)) + 1))) ∧
    (let s := wRec 0x8002; let t := (s.setF (MBX_H2F_CI_CI 0) ((s.f (MBX_H2F_CI_CI 0)) + 1)); s.recReady = true ∧ s.h2fWord (s.f (MBX_H2F_CI_CI 0)) 0 % 65536 = 0x8002 ∧ t = (s.setF (MBX_H2F_CI_CI 0) ((s.f (MBX_H2F_CI_CI 0)) + 1))) ∧
    (let s := wRec 0x8003; let t := (s.setF (MBX_H2F_CI_CI 0) ((s.f (MBX_H2F_CI_CI 0)) + 1)); let failed := false; s.recReady = true ∧ s.h2fWord (s.f (MBX_H2F_CI_CI 0)) 0 % 65536 = 0x8003 ∧ t = (s.setF (MBX_H2F_CI_CI 0) ((s.f (MBX_H2F_CI_CI 0)) + 1)) ∧ (t.recCheck (decide ((s.recArg 0) % 65536 ≠ 0 ∨ (s.recArg 1) % 65536 ≠ 0 ∨ 2 ^ 32 < (s.recArg 0) + (s.recArg 1))) ≠ 0)) ∧
    (let s := ((wRec 0x8003).setF HUB_SUPPLY_NV_OK 1); let t := (s.setF (MBX_H2F_CI_CI 0) ((s.f (MBX_H2F_CI_CI 0)) + 1)); s.recReady = true ∧ s.h2fWord (s.f (MBX_H2F_CI_CI 0)) 0 % 65536 = 0x8003 ∧ t = (s.setF (MBX_H2F_CI_CI 0) ((s.f (MBX_H2F_CI_CI 0)) + 1)) ∧ (t.recCheck (decide ((s.recArg 0) % 65536 ≠ 0 ∨ (s.recArg 1) % 65536 ≠ 0 ∨ 2 ^ 32 < (s.recArg 0) + (s.recArg 1))) = 0)) ∧
    (let s := ((wRec 0x8003).setF HUB_SUPPLY_NV_OK 1); let t := (s.setF (MBX_H2F_CI_CI 0) ((s.f (MBX_H2F_CI_CI 0)) + 1)); s.recReady = true ∧ s.h2fWord (s.f (MBX_H2F_CI_CI 0)) 0 % 65536 = 0x8003 ∧ t = (s.setF (MBX_H2F_CI_CI 0) ((s.f (MBX_H2F_CI_CI 0)) + 1)) ∧ (t.recCheck (decide ((s.recArg 0) % 65536 ≠ 0 ∨ (s.recArg 1) % 65536 ≠ 0 ∨ 2 ^ 32 < (s.recArg 0) + (s.recArg 1))) = 0)) ∧
    (let s := wRec 0x8004; let t := (s.setF (MBX_H2F_CI_CI 0) ((s.f (MBX_H2F_CI_CI 0)) + 1)); let failed := false; s.recReady = true ∧ s.h2fWord (s.f (MBX_H2F_CI_CI 0)) 0 % 65536 = 0x8004 ∧ t = (s.setF (MBX_H2F_CI_CI 0) ((s.f (MBX_H2F_CI_CI 0)) + 1)) ∧ (t.recCheck (decide (2 ^ 32 < (s.recArg 0) + (s.recArg 3) ∨ hbmEnd < (s.recArg 1 + s.recArg 2 * 2 ^ 32) + (s.recArg 3))) ≠ 0)) ∧
    (let s := ((wRec 0x8004).setF HUB_SUPPLY_NV_OK 1); let t := (s.setF (MBX_H2F_CI_CI 0) ((s.f (MBX_H2F_CI_CI 0)) + 1)); s.recReady = true ∧ s.h2fWord (s.f (MBX_H2F_CI_CI 0)) 0 % 65536 = 0x8004 ∧ t = (s.setF (MBX_H2F_CI_CI 0) ((s.f (MBX_H2F_CI_CI 0)) + 1)) ∧ (t.recCheck (decide (2 ^ 32 < (s.recArg 0) + (s.recArg 3) ∨ hbmEnd < (s.recArg 1 + s.recArg 2 * 2 ^ 32) + (s.recArg 3))) = 0)) ∧
    (let s := ((wRec 0x8004).setF HUB_SUPPLY_NV_OK 1); let t := (s.setF (MBX_H2F_CI_CI 0) ((s.f (MBX_H2F_CI_CI 0)) + 1)); let u := (t.hubRead (s.recArg 1 + s.recArg 2 * 2 ^ 32) (s.recArg 3)).1; let st := (t.hubRead (s.recArg 1 + s.recArg 2 * 2 ^ 32) (s.recArg 3)).2.1; let d := (t.hubRead (s.recArg 1 + s.recArg 2 * 2 ^ 32) (s.recArg 3)).2.2; s.recReady = true ∧ s.h2fWord (s.f (MBX_H2F_CI_CI 0)) 0 % 65536 = 0x8004 ∧ t = (s.setF (MBX_H2F_CI_CI 0) ((s.f (MBX_H2F_CI_CI 0)) + 1)) ∧ (t.recCheck (decide (2 ^ 32 < (s.recArg 0) + (s.recArg 3) ∨ hbmEnd < (s.recArg 1 + s.recArg 2 * 2 ^ 32) + (s.recArg 3))) = 0) ∧ t.hubRead (s.recArg 1 + s.recArg 2 * 2 ^ 32) (s.recArg 3) = (u, st, d)) ∧
    (let s := wRec 0x8005; let t := (s.setF (MBX_H2F_CI_CI 0) ((s.f (MBX_H2F_CI_CI 0)) + 1)); s.recReady = true ∧ s.h2fWord (s.f (MBX_H2F_CI_CI 0)) 0 % 65536 = 0x8005 ∧ t = (s.setF (MBX_H2F_CI_CI 0) ((s.f (MBX_H2F_CI_CI 0)) + 1))) ∧
    (let s := State.reset; s.recReady = false) :=
  ⟨by decide +kernel,
   by decide +kernel,
   by decide +kernel,
   by decide +kernel,
   by decide +kernel,
   (by decide +kernel),
   by decide +kernel,
   by decide +kernel,
   ⟨by decide +kernel, by decide +kernel, rfl, by decide +kernel, Prod.ext rfl (Prod.ext rfl rfl)⟩,
   by decide +kernel,
   by decide +kernel⟩
theorem test_hostDmaSmbusAndFlashCommands_1 :
    (let s := State.reset.setFs [(HUB_HDMA_STATUS_BUSY 1, 1)]; let m := Master.firmware; let c := 1; s.gate m (HUB_HDMA_CTRL c) = .pass ∧ s.bit (HUB_HDMA_STATUS_BUSY c) = true) ∧
    (let s := State.reset; let m := Master.firmware; let c := 1; let lease := 0; let win := 0; let dir := 0; let t := (s.answer (.ok 0)).setFs [(HUB_HDMA_CTRL_LEASE c, lease), (HUB_HDMA_CTRL_WIN c, win), (HUB_HDMA_CTRL_DIR c, dir), (HUB_HDMA_STATUS_RSTATUS c, 0)]; s.gate m (HUB_HDMA_CTRL c) = .pass ∧ s.bit (HUB_HDMA_STATUS_BUSY c) = false ∧ t = ((s.answer (.ok 0)).setFs [(HUB_HDMA_CTRL_LEASE c, lease), (HUB_HDMA_CTRL_WIN c, win), (HUB_HDMA_CTRL_DIR c, dir),
        (HUB_HDMA_STATUS_RSTATUS c, 0)]) ∧ (t.f (HDMA_LEN_LEN c) = 0 ∨ t.f (HDMA_LEN_LEN c) % 4 ≠ 0 ∨ hbmEnd < t.hdmaHbm c + t.f (HDMA_LEN_LEN c))) ∧
    (let s := State.reset.setFs [(HDMA_LEN_LEN 1, 64)]; let m := Master.firmware; let c := 1; let lease := 0; let win := 0; let dir := 0; let t := (s.answer (.ok 0)).setFs [(HUB_HDMA_CTRL_LEASE c, lease), (HUB_HDMA_CTRL_WIN c, win), (HUB_HDMA_CTRL_DIR c, dir), (HUB_HDMA_STATUS_RSTATUS c, 0)]; s.gate m (HUB_HDMA_CTRL c) = .pass ∧ s.bit (HUB_HDMA_STATUS_BUSY c) = false ∧ t = ((s.answer (.ok 0)).setFs [(HUB_HDMA_CTRL_LEASE c, lease), (HUB_HDMA_CTRL_WIN c, win), (HUB_HDMA_CTRL_DIR c, dir),
        (HUB_HDMA_STATUS_RSTATUS c, 0)]) ∧ (¬ (t.f (HDMA_LEN_LEN c) = 0 ∨ t.f (HDMA_LEN_LEN c) % 4 ≠ 0 ∨ hbmEnd < t.hdmaHbm c + t.f (HDMA_LEN_LEN c)))) ∧
    (let s := State.reset.setFs [(HUB_HDMA_STATUS_BUSY 1, 1)]; let m := Master.firmware; let c := 1; s.gate m (HUB_HDMA_CTRL c) = .pass ∧ s.bit (HUB_HDMA_STATUS_BUSY c) = true) ∧
    (let s := State.reset; let m := Master.firmware; let c := 1; s.gate m (HUB_HDMA_CTRL c) = .pass ∧ s.bit (HUB_HDMA_STATUS_BUSY c) = false) ∧
    (let s := State.reset.setFs [(HUB_HDMA_STATUS_BUSY 1, 1)]; let c := 1; (s.bit (HUB_HDMA_STATUS_BUSY c) = true ∧ (s.hdmaAt c).step = 0 ∧ ((s.hdmaAt c).stop = true ∨ s.f (HDMA_LEN_LEN c) ≤ (s.hdmaAt c).off))) ∧
    (let s := State.reset; let c := 1; (¬ (s.bit (HUB_HDMA_STATUS_BUSY c) = true ∧ (s.hdmaAt c).step = 0 ∧ ((s.hdmaAt c).stop = true ∨ s.f (HDMA_LEN_LEN c) ≤ (s.hdmaAt c).off)))) ∧
    (let s := State.reset; let a := HUB_CTRL; s.smbFull = false ∧ smbHeldReg a = false) ∧
    (let s := { State.reset with pins := { State.reset.pins with porN := true, resetN := true, thermTripN := true } }; let a := HUB_ID; (s.smbFull = true ∨ smbHeldReg a = true)) ∧
    (let s := State.reset.setFs [(FEAT_ACCEPT_ACCEPT 1, 8), (HUB_STATUS_COMMITTED, 1)]; let pecOk := false; s.feature 35 = true ∧ pecOk = false) ∧
    (let s := State.reset; let pecOk := true; ¬ (s.feature 35 = true ∧ pecOk = false) ∧ s.smbFull = false) ∧
    (let s := { State.reset with pins := { State.reset.pins with porN := true, resetN := true, thermTripN := true } }; let pecOk := true; ¬ (s.feature 35 = true ∧ pecOk = false) ∧ s.smbFull = true) ∧
    (let s := State.reset; s.ev.board = []) ∧
    (let r : EvRec := ⟨.MIR_SELF_FAIL, false, 0, noInst, 0, 0⟩; let t : List EvRec := []; let s := { State.reset with ev := { State.reset.ev with board := [r] } }; s.ev.board = r :: t) :=
  ⟨by decide +kernel,
   ⟨by decide +kernel, by decide +kernel, rfl, by decide +kernel⟩,
   ⟨by decide +kernel, by decide +kernel, rfl, by decide +kernel⟩,
   by decide +kernel,
   by decide +kernel,
   by decide +kernel,
   by decide +kernel,
   by decide +kernel,
   (by decide +kernel),
   by decide +kernel,
   by decide +kernel,
   by decide +kernel,
   rfl,
   rfl⟩
theorem test_hostDmaSmbusAndFlashCommands_2 :
    (let s := State.reset.setFs [(HUB_BSPI_STATUS_BUSY, 1)]; let m := Master.firmware; s.gate m HUB_BSPI_CMD = .pass ∧ s.bit HUB_BSPI_STATUS_BUSY = true) ∧
    (let s := State.reset; let m := Master.firmware; s.gate m HUB_BSPI_CMD = .pass ∧ s.bit HUB_BSPI_STATUS_BUSY = false ∧ s.pins.cfgDone = false) ∧
    (let s := State.reset.updPins fun p => { p with cfgDone := true }; let m := Master.firmware; s.gate m HUB_BSPI_CMD = .pass ∧ s.bit HUB_BSPI_STATUS_BUSY = false ∧ s.pins.cfgDone = true) ∧
    (let s := State.reset.updPins fun p => { p with cfgDone := true }; let m := Master.firmware; s.gate m HUB_BSPI_CMD = .pass ∧ s.bit HUB_BSPI_STATUS_BUSY = false ∧ s.pins.cfgDone = true ∧ s.bit HUB_SUPPLY_NV_OK = false) ∧
    (let s := (State.reset.setF HUB_SUPPLY_NV_OK 1).updPins fun p => { p with cfgDone := true }; let m := Master.firmware; s.gate m HUB_BSPI_CMD = .pass ∧ s.bit HUB_BSPI_STATUS_BUSY = false ∧ s.pins.cfgDone = true ∧ s.bit HUB_SUPPLY_NV_OK = true) ∧
    (let s := (State.reset.setF HUB_SUPPLY_NV_OK 1).updPins fun p => { p with cfgDone := true }; let m := Master.firmware; s.gate m HUB_BSPI_CMD = .pass ∧ s.bit HUB_BSPI_STATUS_BUSY = false ∧ s.pins.cfgDone = true ∧ s.bit HUB_SUPPLY_NV_OK = true) ∧
    (let s := State.reset; s.bspi = none) ∧
    (let s := { State.reset with bspi := some (1, 0) }; let cnt := 0; s.bspi = some (1, cnt)) ∧
    (let s := { State.reset with bspi := some (1, 0) }; let cnt := 0; s.bspi = some (1, cnt)) ∧
    (let s := { State.reset with bspi := some (2, 0) }; let cnt := 0; s.bspi = some (2, cnt)) ∧
    (let s := { State.reset with bspi := some (2, 0) }; let cnt := 0; s.bspi = some (2, cnt)) ∧
    (let s := { State.reset with bspi := some (3, 0) }; let cnt := 0; s.bspi = some (3, cnt)) ∧
    (let s := { State.reset with bspi := some (3, 0) }; let cnt := 0; s.bspi = some (3, cnt)) :=
  ⟨by decide +kernel,
   by decide +kernel,
   by decide +kernel,
   by decide +kernel,
   by decide +kernel,
   (by decide +kernel),
   rfl,
   rfl,
   rfl,
   rfl,
   rfl,
   rfl,
   rfl⟩
theorem test_pinSwitchAndLockCommands_1 :
    (let s := State.reset.updGpio fun x => { x with phase := nput x.phase 29 1 }; let n := 29; (nget s.gpio.phase n = 1 ∨ nget s.gpio.phase n = 3)) ∧
    (let s := State.reset; let n := 29; (¬ (nget s.gpio.phase n = 1 ∨ nget s.gpio.phase n = 3))) ∧
    (let s := State.reset.updGpio fun x => { x with phase := nput x.phase 29 2 }; let n := 29; let lev : List (Nat × Nat) := []; let ext : List (Nat × Nat) := []; let t := s; t = (let u := s.updGpio fun g => { g with lev := lev.foldl (fun m x => nput m x.1 x.2) g.lev, ext := ext.foldl (fun m x => nput m x.1 x.2) g.ext }
      u.shareAll ((lev.map Prod.fst).filterMap u.srcNow)) ∧ nget t.gpio.phase n = 2) ∧
    (let s := State.reset.updGpio fun x => { x with phase := nput x.phase 29 3 }; let n := 29; let lev : List (Nat × Nat) := []; let ext : List (Nat × Nat) := []; let t := s; t = (let u := s.updGpio fun g => { g with lev := lev.foldl (fun m x => nput m x.1 x.2) g.lev, ext := ext.foldl (fun m x => nput m x.1 x.2) g.ext }
      u.shareAll ((lev.map Prod.fst).filterMap u.srcNow)) ∧ nget t.gpio.phase n = 3) ∧
    (let s := State.reset; let n := 29; let lev : List (Nat × Nat) := []; let ext : List (Nat × Nat) := []; let t := s; t = (let u := s.updGpio fun g => { g with lev := lev.foldl (fun m x => nput m x.1 x.2) g.lev, ext := ext.foldl (fun m x => nput m x.1 x.2) g.ext }
      u.shareAll ((lev.map Prod.fst).filterMap u.srcNow)) ∧ nget t.gpio.phase n ≠ 2 ∧ nget t.gpio.phase n ≠ 3) ∧
    (let s := State.reset.setFs [(GPIO_LOCK_STATUS_STEP, 1)]; let m := Master.firmware; s.gate m GPIO_LOCK = .pass ∧ s.f GPIO_LOCK_STATUS_STEP ≠ 0) ∧
    (let s := State.reset; let m := Master.firmware; let w := 2; s.gate m GPIO_LOCK = .pass ∧ s.f GPIO_LOCK_STATUS_STEP = 0 ∧ w < 3) ∧
    (let s := State.reset; let m := Master.firmware; let w := 3; s.gate m GPIO_LOCK = .pass ∧ s.f GPIO_LOCK_STATUS_STEP = 0 ∧ 3 ≤ w) :=
  ⟨by decide +kernel,
   by decide +kernel,
   ⟨rfl, by decide⟩,
   ⟨rfl, by decide⟩,
   ⟨rfl, by decide, by decide⟩,
   by decide +kernel,
   by decide +kernel,
   by decide +kernel⟩
theorem test_pinSwitchAndLockCommands_2 :
    (let s := State.reset.setFs [(GPIO_LOCK_STATUS_STEP, 1)]; let m := Master.firmware; s.gate m GPIO_LOCK_MASK = .pass ∧ s.f GPIO_LOCK_STATUS_STEP = 1) ∧
    (let s := State.reset.setFs [(GPIO_LOCK_STATUS_STEP, 2)]; let m := Master.firmware; s.gate m GPIO_LOCK_MASK = .pass ∧ s.f GPIO_LOCK_STATUS_STEP = 2) ∧
    (let s := State.reset; let m := Master.firmware; s.gate m GPIO_LOCK_MASK = .pass ∧ s.f GPIO_LOCK_STATUS_STEP = 0) ∧
    (let s := State.reset.setFs [(GPIO_LOCK_STATUS_STEP, 2)]; let m := Master.firmware; let w := 0; s.gate m GPIO_LOCK = .pass ∧ s.f GPIO_LOCK_STATUS_STEP = 2 ∧ s.gpio.word = w) ∧
    (let s := State.reset.setFs [(GPIO_LOCK_STATUS_STEP, 1)]; let m := Master.firmware; let w := 0; s.gate m GPIO_LOCK = .pass ∧ ¬ (s.f GPIO_LOCK_STATUS_STEP = 2 ∧ s.gpio.word = w) ∧ s.f GPIO_LOCK_STATUS_STEP ≠ 0) ∧
    (let s := State.reset; let m := Master.firmware; let w := 0; s.gate m GPIO_LOCK = .pass ∧ s.f GPIO_LOCK_STATUS_STEP = 0) ∧
    (let s := State.reset.setFs [(GPIO_LOCK_STATUS_STEP, 1)]; s.f GPIO_LOCK_STATUS_STEP ≠ 0) ∧
    (let s := State.reset; s.f GPIO_LOCK_STATUS_STEP = 0) :=
  by and_intros <;> decide +kernel
theorem test_debugPortAndTraceCommands_1 :
    (let s := State.reset.setFs [(DBG_STATUS_LEVEL, 2)]; 2 ≤ s.f DBG_STATUS_LEVEL) ∧
    (let s := State.reset.setFs [(DBG_STATUS_LEVEL, 1)]; s.f DBG_STATUS_LEVEL < 2) ∧
    (let s := State.reset.setFs [(DBG_STATUS_LEVEL, 0)]; s.f DBG_STATUS_LEVEL = 0) ∧
    (let s := State.reset.setFs [(DBG_STATUS_LEVEL, 2)]; let op := 3; let a := 0; let t := (s.updDbg fun x => { x with ir := 0x10 }); 1 ≤ s.f DBG_STATUS_LEVEL ∧ t = (s.updDbg fun x => { x with ir := 0x10 }) ∧ (op = 0 ∨ 3 ≤ op)) ∧
    (let s := State.reset.setFs [(DBG_STATUS_LEVEL, 1)]; let a := 0; let t := (s.updDbg fun x => { x with ir := 0x10 }); 1 ≤ s.f DBG_STATUS_LEVEL ∧ t = (s.updDbg fun x => { x with ir := 0x10 }) ∧ isHbm a = true ∧ s.f DBG_STATUS_LEVEL < 2) ∧
    (let s := State.reset.setFs [(DBG_STATUS_LEVEL, 1)]; let a := HUB_ID; let t := (s.updDbg fun x => { x with ir := 0x10 }); 1 ≤ s.f DBG_STATUS_LEVEL ∧ t = (s.updDbg fun x => { x with ir := 0x10 }) ∧ ¬ (isHbm a = true ∧ s.f DBG_STATUS_LEVEL < 2)) ∧
    (let s := State.reset.setFs [(DBG_STATUS_LEVEL, 1)]; let a := HUB_ID; let t := (s.updDbg fun x => { x with ir := 0x10 }); 1 ≤ s.f DBG_STATUS_LEVEL ∧ t = (s.updDbg fun x => { x with ir := 0x10 }) ∧ ¬ (isHbm a = true ∧ s.f DBG_STATUS_LEVEL < 2)) ∧
    (let s := State.reset.setFs [(DBG_AUTH_STATUS_BUSY, 1)]; let m := Master.firmware; s.gate m DBG_AUTH_CMD = .pass ∧ s.bit DBG_AUTH_STATUS_BUSY = true) ∧
    (let s := State.reset; let m := Master.firmware; s.gate m DBG_AUTH_CMD = .pass ∧ s.bit DBG_AUTH_STATUS_BUSY = false ∧ s.lcState ≠ 2) ∧
    (let s := State.reset.setFs [(HUB_LC_STATE_STATE, 2)]; let m := Master.firmware; s.gate m DBG_AUTH_CMD = .pass ∧ s.bit DBG_AUTH_STATUS_BUSY = false ∧ s.lcState = 2) ∧
    (let s := State.reset; s.bit DBG_AUTH_STATUS_BUSY = false) ∧
    (let s := State.reset.setFs [(DBG_AUTH_STATUS_BUSY, 1)]; s.bit DBG_AUTH_STATUS_BUSY = true ∧ s.lcState ≠ 2) ∧
    (let s := State.reset.setFs [(DBG_AUTH_STATUS_BUSY, 1), (HUB_LC_STATE_STATE, 2)]; let ok := false; s.bit DBG_AUTH_STATUS_BUSY = true ∧ s.lcState = 2 ∧ s.dbgTokenOk = ok) :=
  ⟨by decide +kernel,
   by decide +kernel,
   by decide +kernel,
   ⟨by decide, rfl, by decide +kernel⟩,
   ⟨by decide, rfl, by decide +kernel⟩,
   ⟨by decide, rfl, by decide +kernel⟩,
   ⟨by decide, rfl, by decide +kernel⟩,
   by decide +kernel,
   by decide +kernel,
   by decide +kernel,
   by decide +kernel,
   by decide +kernel,
   (by decide +kernel)⟩
theorem test_debugPortAndTraceCommands_2 :
    (let s := State.reset; let m := Master.firmware; s.gate m DBG_CTRL = .pass) ∧
    (let s := State.reset.setFs [(DBG_STATUS_LEVEL, 0)]; let core := 2; let g := 2; core = g ∧ s.f DBG_STATUS_LEVEL = 0) ∧
    (let s := State.reset.setFs [(DBG_STATUS_LEVEL, 2)]; let core := 2; let g := 2; core = g ∧ 1 ≤ s.f DBG_STATUS_LEVEL) ∧
    (let s := State.reset; let m := Master.host; let core := 0; let g := 2; ((∀ l i, m ≠ .tenant l i)) ∧ (m ≠ .firmware ∨ core ≠ g)) ∧
    (let s := State.reset; let r := 45; (s.connected r = false ∨ s.f (DBG_STIM_RGN_BITS (r / 32)) / 2 ^ (r % 32) % 2 = 0 ∨ s.f DBG_STATUS_LEVEL = 0)) ∧
    (let s := (State.reset.setFs [(DBG_STIM_RGN_BITS 1, 0x2000), (DBG_STATUS_LEVEL, 2)]).updRgn 45 fun x => { x with conn := true }; let r := 45; let k := 0; let chan := 0; let v := 0; let t := s.stimRecord (3 * 2 ^ 10 + napNode r k) (napNode r k) chan v; (¬ (s.connected r = false ∨ s.f (DBG_STIM_RGN_BITS (r / 32)) / 2 ^ (r % 32) % 2 = 0 ∨ s.f DBG_STATUS_LEVEL = 0)) ∧ t = s.stimRecord (3 * 2 ^ 10 + napNode r k) (napNode r k) chan v) ∧
    (let s := State.reset; let m := Master.firmware; let k := 3; s.gate m (DBG_PMC_SEL k) = .pass) ∧
    (let s := State.reset; let i := 0; (s.trcRun = false ∨ s.eff DBG_TRC_CTRL_OUT / 2 ^ i % 2 = 0)) ∧
    (let s := State.reset.setFs [(DBG_TRC_CTRL_OUT, 3), (DBG_STATUS_LEVEL, 2)]; s.trcRun = true ∧ s.eff DBG_TRC_CTRL_OUT / 2 ^ 0 % 2 ≠ 0 ∧ (s.dbg.taken.contains 0 = true ∨ s.dbg.store = [])) ∧
    (let s := State.reset.setFs [(DBG_TRC_CTRL_OUT, 3), (DBG_STATUS_LEVEL, 2)]; let i := 1; i ≠ 0 ∧ s.trcRun = true ∧ s.eff DBG_TRC_CTRL_OUT / 2 ^ i % 2 ≠ 0 ∧ (s.dbg.taken.contains i = true ∨ s.dbg.store = [])) ∧
    (let r : TraceRec := ⟨2, 0, 0, 0⟩; let l : List TraceRec := []; let s := (State.reset.setFs [(DBG_TRC_CTRL_OUT, 1), (DBG_STATUS_LEVEL, 2)]).updDbg fun d => { d with store := [r] }; let i := 0; s.trcRun = true ∧ s.eff DBG_TRC_CTRL_OUT / 2 ^ i % 2 ≠ 0 ∧ s.dbg.taken.contains i = false ∧ s.dbg.store = r :: l) ∧
    (let r : TraceRec := ⟨2, 0, 0, 0⟩; let s := State.reset.updDbg fun d => { d with ring := List.replicate 31 r }; let l := List.replicate 32 r; l = s.dbg.ring ++ [r] ∧ l.length = 32) ∧
    (let s := State.reset; s.dbg.ring.length < 31) :=
  ⟨by decide +kernel,
   by decide +kernel,
   by decide +kernel,
   ⟨fun l i h => (by cases h), by decide⟩,
   by decide +kernel,
   ⟨by decide +kernel, rfl⟩,
   by decide +kernel,
   by decide +kernel,
   by decide +kernel,
   by decide +kernel,
   by decide +kernel,
   (by decide +kernel),
   by decide +kernel⟩
theorem test_bridleAndSelfTestCommands_1 :
    (let s := State.reset.setFs [(DBG_CTRL_OWNER, 2)]; let m := Master.firmware; let late := false; s.gate m DBG_BR_RAISE = .pass) ∧
    (let s := State.reset; let ch := 3; s.chRaised (2 ^ ch) = false) ∧
    (let s := State.reset.updDbg fun d => { d with due := 8 }; s.dbg.due ≠ 0) ∧
    (let s := State.reset; s.dbg.due = 0) ∧
    (let s := State.reset; let m := Master.firmware; let late := false; s.gate m DBG_BR_STATE = .pass) ∧
    (let s := State.reset; let g := 2; s.dbg.deferred.contains g = false) ∧
    (let s := State.reset.updDbg fun d => { d with deferred := [2], locked := nput d.locked 2 2 }; let g := 2; let ended := false; s.dbg.deferred.contains g = true ∧ nget s.dbg.locked g = 2 ∧ ended = false) ∧
    (let s := State.reset.updDbg fun d => { d with deferred := [2], locked := nput d.locked 2 2 }; let g := 2; let ended := true; s.dbg.deferred.contains g = true ∧ nget s.dbg.locked g = 2 ∧ ended = true) ∧
    (let s := State.reset.updDbg fun d => { d with deferred := [2], locked := nput d.locked 2 1 }; let g := 2; let ended := true; s.dbg.deferred.contains g = true ∧ nget s.dbg.locked g ≠ 2) ∧
    (let s := State.reset; let d := 5; let t := ((s.applyLive BST_CTRL_EN).applyLive BST_CTRL_CLASSES).applyLive BST_SCHED_PERIOD_US; t = ((s.applyLive BST_CTRL_EN).applyLive BST_CTRL_CLASSES).applyLive BST_SCHED_PERIOD_US ∧ (nget t.bist.run d ≠ 0 ∨ t.eff BST_CTRL_EN = 0 ∨ t.eff BST_CTRL_CLASSES = 0)) :=
  ⟨by decide +kernel,
   by decide +kernel,
   by decide +kernel,
   by decide +kernel,
   by decide +kernel,
   (by decide +kernel),
   by decide +kernel,
   by decide +kernel,
   by decide +kernel,
   ⟨rfl, by decide +kernel⟩⟩
theorem test_bridleAndSelfTestCommands_2 :
    (let s := State.reset.setFs [(BST_CTRL_EN, 1), (BST_CTRL_CLASSES, 7)]; let d := 5; let t := ((s.applyLive BST_CTRL_EN).applyLive BST_CTRL_CLASSES).applyLive BST_SCHED_PERIOD_US; t = ((s.applyLive BST_CTRL_EN).applyLive BST_CTRL_CLASSES).applyLive BST_SCHED_PERIOD_US ∧ (¬ (nget t.bist.run d ≠ 0 ∨ t.eff BST_CTRL_EN = 0 ∨ t.eff BST_CTRL_CLASSES = 0))) ∧
    (let s := State.reset; let d := 5; nget s.bist.run d = 0) ∧
    (let s := State.reset.updBist fun b => { b with run := nput b.run 5 1 }; let d := 5; nget s.bist.run d ≠ 0) ∧
    (let s := State.reset; let m := Master.firmware; s.gate m BST_MAPQ = .pass) ∧
    (let s := State.reset; let m := Master.firmware; s.gate m BST_XP_CMD = .pass ∧ s.xpOn BST_XP_CMD = false) ∧
    (let s := (State.reset.setFs [(BST_CTRL_XP_ENABLE, 1), (FEAT_ACCEPT_ACCEPT 0, 0x8000), (HUB_STATUS_COMMITTED, 1), (HUB_LC_STATE_STATE, 1), (BST_XP_STATUS_BUSY, 1)]); let m := Master.firmware; s.gate m BST_XP_CMD = .pass ∧ s.xpOn BST_XP_CMD = true ∧ s.bit BST_XP_STATUS_BUSY = true) ∧
    (let s := (State.reset.setFs [(BST_CTRL_XP_ENABLE, 1), (FEAT_ACCEPT_ACCEPT 0, 0x8000), (HUB_STATUS_COMMITTED, 1), (HUB_LC_STATE_STATE, 1)]); let m := Master.firmware; let alg := 0; let unit := 0; s.gate m BST_XP_CMD = .pass ∧ s.xpOn BST_XP_CMD = true ∧ s.bit BST_XP_STATUS_BUSY = false ∧ ((s.answer (.ok 0)).setFs [(BST_XP_CMD_ALG, alg), (BST_XP_CMD_MACRO, unit)]).macroIdle unit = true) ∧
    (let s := (State.reset.setFs [(BST_CTRL_XP_ENABLE, 1), (FEAT_ACCEPT_ACCEPT 0, 0x8000), (HUB_STATUS_COMMITTED, 1), (HUB_LC_STATE_STATE, 1)]); let m := Master.firmware; let alg := 0; let unit := 0x30000; s.gate m BST_XP_CMD = .pass ∧ s.xpOn BST_XP_CMD = true ∧ s.bit BST_XP_STATUS_BUSY = false ∧ ((s.answer (.ok 0)).setFs [(BST_XP_CMD_ALG, alg), (BST_XP_CMD_MACRO, unit)]).macroIdle unit = false) ∧
    (let s := State.reset; s.bit BST_XP_STATUS_BUSY = false) ∧
    (let s := State.reset.setFs [(BST_XP_STATUS_BUSY, 1)]; s.bit BST_XP_STATUS_BUSY = true) :=
  ⟨⟨rfl, by decide +kernel⟩,
   by decide +kernel,
   by decide +kernel,
   by decide +kernel,
   by decide +kernel,
   by decide +kernel,
   (by decide +kernel),
   by decide +kernel,
   by decide +kernel,
   by decide +kernel⟩
theorem test_thermalWarningRaisesAndRearms :
    (let s := State.reset.setFs ([(PWR_THERM_STATUS_WARN, 0), (PWR_THERM_CFG_WARN_C, 110)] ++ (List.range 64).map fun n => (PWR_TEMP_VALID n, 1)); let raw : List Nat := List.replicate 64 440; let t := converted s raw; t = converted s raw ∧ t.bit PWR_THERM_STATUS_WARN = false ∧ (∃ n, warm t 0 n)) ∧
    (let s := State.reset.setFs ([(PWR_THERM_STATUS_WARN, 0), (PWR_THERM_CFG_WARN_C, 110)] ++ (List.range 64).map fun n => (PWR_TEMP_VALID n, 1)); let raw : List Nat := List.replicate 64 100; let t := converted s raw; t = converted s raw ∧ t.bit PWR_THERM_STATUS_WARN = false ∧ ((∀ n, ¬ warm t 0 n))) ∧
    (let s := State.reset.setFs ([(PWR_THERM_STATUS_WARN, 1), (PWR_THERM_CFG_WARN_C, 110)] ++ (List.range 64).map fun n => (PWR_TEMP_VALID n, 1)); let raw : List Nat := List.replicate 64 100; let t := converted s raw; t = converted s raw ∧ t.bit PWR_THERM_STATUS_WARN = true ∧ ((∀ n, ¬ warm t 20 n))) ∧
    (let s := State.reset.setFs ([(PWR_THERM_STATUS_WARN, 1), (PWR_THERM_CFG_WARN_C, 110)] ++ (List.range 64).map fun n => (PWR_TEMP_VALID n, 1)); let raw : List Nat := List.replicate 64 440; let t := converted s raw; t = converted s raw ∧ t.bit PWR_THERM_STATUS_WARN = true ∧ (∃ n, warm t 20 n)) ∧
    (let s := State.reset; let raw : List Nat := List.replicate 64 100; let t := s.thermConvert raw; let u := t.updPwr fun p => { p with hot := t.hotSensors }; t = s.thermConvert raw ∧ u = (t.updPwr fun p => { p with hot := t.hotSensors })) :=
  ⟨⟨rfl, by decide +kernel, (any_validSensor_warm _).mp (by decide +kernel)⟩,
   ⟨rfl, by decide +kernel, fun n h => absurd ((any_validSensor_warm _).mpr ⟨n, h⟩) (by decide +kernel)⟩,
   ⟨rfl, by decide +kernel, (all_validSensor_cool _).mp (by decide +kernel)⟩,
   ⟨rfl, by decide +kernel, ((any_validSensor_warm _).mp (by decide +kernel)).imp fun n h => ⟨h.1, h.2.1, by have := h.2.2; omega⟩⟩,
   ⟨rfl, rfl⟩⟩
theorem test_smbusWhileTheDeviceIsHeld :
    (let s := State.reset; let l : List EvRec := []; (s.pins.porN = false ∨ s.pins.resetN = false ∨ s.pins.thermTripN = false) ∧ s.ev.board = l) ∧
    (let s := State.reset; (s.pins.porN = false ∨ s.pins.resetN = false ∨ s.pins.thermTripN = false)) ∧
    (let s := State.reset; let a := HUB_ID; let k := ((decodeReg HUB_ID).map (·.1)).getD ⟨.HUB_ID, 0, [], false, []⟩; let ix := ((decodeReg HUB_ID).map (·.2)).getD []; (s.pins.porN = false ∨ s.pins.resetN = false ∨ s.pins.thermTripN = false) ∧ (a = HUB_ID ∨ a = HUB_SUPPLY ∨ blockOf a = some .PWR) ∧ a % 4 = 0 ∧ decodeReg a = some (k, ix)) ∧
    (let s := State.reset; let a := 0; (s.pins.porN = false ∨ s.pins.resetN = false ∨ s.pins.thermTripN = false) ∧ (¬ (a = HUB_ID ∨ a = HUB_SUPPLY ∨ blockOf a = some .PWR))) ∧
    (let s := State.reset; let pecOk := true; (s.pins.porN = false ∨ s.pins.resetN = false ∨ s.pins.thermTripN = false) ∧ (s.feature 35 = false ∨ pecOk = true)) :=
  ⟨⟨by decide, rfl⟩,
   by decide +kernel,
   ⟨by decide, by decide +kernel, by decide, by rfl⟩,
   by decide +kernel,
   by decide +kernel⟩

end Sys2Proof.Tests
end

section
/-! Registers and events in general (00_scope.md): what raising an event puts into the queues, how accesses are decoded,
how a written field is judged by its type and class, and what a read returns and clears. -/

namespace Sys2Proof.Proofs.Scope

open Sys2Proof Sys2Proof.Machine Sys2Proof.Machine.Reg Sys2Proof.Certificates.Slice0 Sys2Proof.Laws.Commands

/-! ## The event queues under a raised event (R401) -/

/-- The firmware queue and the board queue, each with its running number. -/
def queues (s : State) : List EvRec × Nat × List EvRec × Nat := (s.ev.fw, s.ev.fwSeq, s.ev.board, s.ev.boardSeq)

theorem queues_pmcBump (s : State) (ev arg n : Nat) : queues (s.pmcBump ev arg n) = queues s := by
  obtain ⟨x, h⟩ := s.pmcBump_only ev arg n
  rw [h]; rfl

theorem queues_ringPush (s : State) (fn : Nat) (r : EvRec) : queues (s.ringPush fn r) = queues s := by
  obtain ⟨hfw, hfs, hb, hbs⟩ := s.ringPush_queues fn r
  simp only [queues, hfw, hfs, hb, hbs]

/-- A queue's length and number decide what the next record becomes, so equal queues take a record alike. -/
theorem queues_pushBoard_congr {s t : State} (r : EvRec) (h : queues s = queues t) :
    queues (s.pushBoard r) = queues (t.pushBoard r) := by
  simp only [queues, Prod.mk.injEq] at h
  obtain ⟨hfw, hfs, hb, hbs⟩ := h
  simp only [queues, State.pushBoard, hfw, hfs, hb, hbs]

/-- The record of a raised event before a queue gives it its number. A TENANT event with lease 0x00 is a DEVICE event (R17). -/
def raisedRec (s : State) (e : Ev) (tenant : Bool) (lease inst : Nat) : EvRec :=
  ⟨e, tenant && decide (lease ≠ 0), if tenant && decide (lease ≠ 0) then lease else 0, inst, s.nocTime % 2 ^ 48, 0⟩

/-- Of all that raising an event does, only the two pushes reach the two queues. -/
theorem queues_raise (s : State) (e : Ev) (tenant : Bool) (lease inst : Nat) :
    queues (s.raise e tenant lease inst) =
      queues (if (tenant && decide (lease ≠ 0)) = false ∧ 1 ≤ e.sev
        then (s.pushFw (raisedRec s e tenant lease inst)).pushBoard (raisedRec s e tenant lease inst)
        else s.pushFw (raisedRec s e tenant lease inst)) := by
  generalize hr : raisedRec s e tenant lease inst = r
  have hbump := queues_pmcBump (s.pushFw r) 3 e.code 1
  have hrings : queues (s.raise e tenant lease inst) =
      queues (if !(tenant && decide (lease ≠ 0)) && decide (1 ≤ e.sev) then ((s.pushFw r).pmcBump 3 e.code 1).pushBoard r
        else (s.pushFw r).pmcBump 3 e.code 1) := by
    subst hr
    rcases s.raise_steps e tenant lease inst with h | ⟨fn, h⟩
    · rw [h, queues_ringPush]; rfl
    · rw [h, queues_ringPush, queues_ringPush]; rfl
  simp only [Bool.and_eq_true, Bool.not_eq_true', decide_eq_true_eq] at hrings
  rw [hrings]
  split
  · exact queues_pushBoard_congr r hbump
  · exact hbump

/-- Settles O8: the two pushes give the queues, and the frame of a raised event is the model's law. -/
theorem raisedEventsReachTheQueues : Obligations.RaisedEventsReachTheQueues := by
  unfold Obligations.RaisedEventsReachTheQueues
  intro s e tenant lease inst ten r b t
  have h := queues_raise s e tenant lease inst
  by_cases hboard : ten = false ∧ 1 ≤ e.sev
  · rw [if_pos hboard] at h ⊢
    simp only [queues, Prod.mk.injEq] at h
    obtain ⟨hfw, hfs, hb, hbs⟩ := h
    exact ⟨hfw, hfs, ⟨hb, hbs⟩, State.EvFrame.raise ..⟩
  · rw [if_neg hboard] at h ⊢
    simp only [queues, Prod.mk.injEq] at h
    obtain ⟨hfw, hfs, hb, hbs⟩ := h
    exact ⟨hfw, hfs, ⟨hb, hbs⟩, State.EvFrame.raise ..⟩

/-! ## Accesses by their address (R5, R25) -/

theorem exec_registerWrite (m : Master) (a v aux : Nat) (s : State) :
    exec (.registerWrite m a v aux) s = .next (s.mgmtWrite m a v 4 aux) := rfl

theorem exec_rcRead (m : Master) (a : Nat) (s : State) : exec (.rcRead m a) s = .next (s.mgmtRead m a 4 false) := rfl

theorem exec_liveFieldApply (a lo : Nat) (s : State) : exec (.liveFieldApply a lo) s = .next (s.xsweep.liveApply a lo) := rfl

/-- With no expert field that waits there is nothing to sweep (R15). -/
theorem xsweep_of_none_waits {s : State} (h : s.xback = []) : s.xsweep = s := by
  unfold State.xsweep
  rw [h, List.foldl_nil]

theorem not_isolated {s : State} {b : Block} {d : Nat} (hi : b = .FAB → dieIsolated s d = false) :
    ¬ (b = .FAB ∧ dieIsolated s d = true) :=
  fun ⟨hb, h⟩ => Bool.false_ne_true ((hi hb).symm.trans h)

section Access

variable {s : State} {m : Master} {a v n aux : Nat} {peek : Bool} {b : Block}

theorem mgmtWrite_noBlock (hm : ∀ l i, m ≠ .tenant l i) (hh : isHbm a = false) (hb : blockOf a = none) :
    s.mgmtWrite m a v n aux = s.answer .err := by
  cases m with
  | tenant l i => exact absurd rfl (hm l i)
  | _ => simp [State.mgmtWrite, hh, hb]

theorem mgmtRead_noBlock (hm : ∀ l i, m ≠ .tenant l i) (hh : isHbm a = false) (hb : blockOf a = none) :
    s.mgmtRead m a n peek = s.xsweep.answer .err := by
  cases m with
  | tenant l i => exact absurd rfl (hm l i)
  | _ => simp [State.mgmtRead, hh, hb]

theorem mgmtWrite_misaligned (hm : ∀ l i, m ≠ .tenant l i) (hh : isHbm a = false) (hb : blockOf a = some b)
    (hi : b = .FAB → dieIsolated s ((a - 0xF010000000) / 0x1000000) = false) (hn : n ≠ 4 ∨ a % 4 ≠ 0) :
    s.mgmtWrite m a v n aux = (s.logDrop m .align a).answer .err := by
  cases m with
  | tenant l i => exact absurd rfl (hm l i)
  | _ => simp only [State.mgmtWrite, hh, hb, if_neg (not_isolated hi), if_pos hn]; rfl

theorem mgmtWrite_noRegister (hm : ∀ l i, m ≠ .tenant l i) (hh : isHbm a = false) (hb : blockOf a = some b)
    (hi : b = .FAB → dieIsolated s ((a - 0xF010000000) / 0x1000000) = false) (ha : a % 4 = 0) (hd : decodeReg a = none) :
    s.mgmtWrite m a v 4 aux = s.answer (.ok 0) := by
  cases m with
  | tenant l i => exact absurd rfl (hm l i)
  | _ => simp [State.mgmtWrite, hh, hb, if_neg (not_isolated hi), ha, hd]

/-- A read inside a block window: of 4 aligned bytes, it shows what stands at the offset; any other is refused. -/
theorem mgmtRead_inBlock (hm : ∀ l i, m ≠ .tenant l i) (hh : isHbm a = false) (hb : blockOf a = some b)
    (hi : b = .FAB → dieIsolated s.xsweep ((a - 0xF010000000) / 0x1000000) = false) :
    s.mgmtRead m a n peek =
      if n ≠ 4 ∨ a % 4 ≠ 0 then (s.xsweep.logDrop m .align a).answer .err
      else (decodeReg a).elim (s.xsweep.answer (.ok 0)) fun r =>
        (s.xsweep.regRead r.1 r.2 a (peek || decide (m = .debug))).1.answer
          (.ok (s.xsweep.regRead r.1 r.2 a (peek || decide (m = .debug))).2) := by
  cases m with
  | tenant l i => exact absurd rfl (hm l i)
  | _ =>
    simp only [State.mgmtRead, hh, hb, if_neg (not_isolated hi)]
    cases decodeReg a <;> rfl

end Access

/-- Settles O9, by the decode of the address: no block, a misaligned access, an offset that no register implements. -/
theorem accessesOutsideRegistersAreRefused : Obligations.AccessesOutsideRegistersAreRefused := by
  unfold Obligations.AccessesOutsideRegistersAreRefused
  refine ⟨?writes, ?reads, ?nothing, fun s h => xsweep_of_none_waits h,
    fun s m a v aux => ⟨exec_registerWrite m a v aux s, exec_rcRead m a s⟩⟩
  case writes =>
    intro s m a v n aux b hm hh hb hi
    refine ⟨mgmtWrite_misaligned hm hh hb hi, ?_⟩
    rintro rfl ha hd
    exact mgmtWrite_noRegister hm hh hb hi ha hd
  case reads =>
    rintro s t m a n peek b rfl hm hh hb hi
    rw [mgmtRead_inBlock hm hh hb hi]
    refine ⟨fun hn => if_pos hn, fun hn ha hd => ?_⟩
    rw [if_neg (by simp [hn, ha]), hd]
    rfl
  case nothing =>
    intro s m a v n aux peek hm hh hb
    exact ⟨mgmtWrite_noBlock hm hh hb, mgmtRead_noBlock hm hh hb⟩

/-! ## One written field (R6, R10 to R13) -/

theorem f_writeLive_self (s : State) (F : Fld) (v : Nat) : (s.writeLive F v).f F = v % 2 ^ F.w := State.f_setF_self s F v

theorem f_writeLive_ne (s : State) {F G : Fld} (v : Nat) (h : F.key ≠ G.key) : (s.writeLive F v).f G = s.f G :=
  State.f_setF_ne s v h

/-- A LIVE write leaves the value in force of every other field alone. -/
theorem eff_writeLive_ne (s : State) {F G : Fld} (v : Nat) (h : F.key ≠ G.key) : (s.writeLive F v).eff G = s.eff G := by
  have hheld : SMap.get (fun _ => none) (s.writeLive F v).held G.key = SMap.get (fun _ => none) s.held G.key :=
    SMap.get_put_ne (fun _ => none) s.held (some (s.eff F)) h
  unfold State.eff
  rw [hheld, f_writeLive_ne s v h]

/-- Clearing the bits of `x` in a field of width `w` clears these and no other. -/
theorem testBit_and_complement {n x w k : Nat} (hx : x < 2 ^ w) (hk : k < w) :
    ((n &&& (2 ^ w - 1 - x)) % 2 ^ w).testBit k = (n.testBit k && !x.testBit k) := by
  have hsub : 2 ^ w - 1 - x = 2 ^ w - (x + 1) := by omega
  rw [Nat.testBit_mod_two_pow, Nat.testBit_and, hsub, Nat.testBit_two_pow_sub_succ hx]
  simp [hk]

theorem fv_lt (v lo w : Nat) : fv v lo w < 2 ^ w := Nat.mod_lt _ (Nat.two_pow_pos w)

section Field

variable {s u : State} {m : Master} {id : RegId} {ix : List Nat} {a v y : Nat} {f : FieldSpec}

theorem fieldPut_of_readOnly (h : f.ty = .ro ∨ f.ty = .rc ∨ f.ty = .wo) : State.fieldPut s m id ix a v u f = u := by
  rcases h with h | h | h <;> simp [State.fieldPut, h]

theorem fieldPut_w1c (h : f.ty = .w1c) : State.fieldPut s m id ix a v u f =
    u.setF ⟨a, f.lo, f.w⟩ (u.f ⟨a, f.lo, f.w⟩ &&& (2 ^ f.w - 1 - fv v f.lo f.w)) := by
  simp [State.fieldPut, h]

theorem fieldPut_boot_committed (ht : f.ty = .rw ∨ f.ty = .rwl) (hc : f.cls = .boot) (h : s.committed = true) :
    State.fieldPut s m id ix a v u f = u := by
  rcases ht with ht | ht <;> simp [State.fieldPut, ht, hc, h]

theorem fieldPut_boot (ht : f.ty = .rw ∨ f.ty = .rwl) (hc : f.cls = .boot) (h : s.committed = false)
    (hy : fieldStore id f.lo (fv v f.lo f.w) = some y) : State.fieldPut s m id ix a v u f = u.setF ⟨a, f.lo, f.w⟩ y := by
  rcases ht with ht | ht <;> simp [State.fieldPut, ht, hc, h, hy]

theorem fieldPut_quiet_busy (ht : f.ty = .rw ∨ f.ty = .rwl) (hc : f.cls = .quiet) (h : s.quietBusy id ix = true) :
    State.fieldPut s m id ix a v u f = u.quietRefused id ix := by
  rcases ht with ht | ht <;> simp [State.fieldPut, ht, hc, h]

theorem fieldPut_quiet_idle (ht : f.ty = .rw ∨ f.ty = .rwl) (hc : f.cls = .quiet) (h : s.quietBusy id ix = false)
    (hy : fieldStore id f.lo (fv v f.lo f.w) = some y) : State.fieldPut s m id ix a v u f = u.setF ⟨a, f.lo, f.w⟩ y := by
  rcases ht with ht | ht <;> simp [State.fieldPut, ht, hc, h, hy]

theorem fieldPut_live (ht : f.ty = .rw ∨ f.ty = .rwl) (hc : f.cls = .live) (h : f.once = false)
    (hy : fieldStore id f.lo (fv v f.lo f.w) = some y) : State.fieldPut s m id ix a v u f = u.writeLive ⟨a, f.lo, f.w⟩ y := by
  rcases ht with ht | ht <;> simp [State.fieldPut, ht, hc, h, hy]

end Field

/-- Settles O11, type by type and class by class. -/
theorem fieldsFollowTheirTypeAndClass : Obligations.FieldsFollowTheirTypeAndClass := by
  unfold Obligations.FieldsFollowTheirTypeAndClass
  intro s u m id ix a v f F x t
  refine ⟨fieldPut_of_readOnly, fun ht => ?w1c, fun ht => ⟨fieldPut_boot_committed ht, fun y hc h hy => fieldPut_boot ht hc h hy,
    fun y hc _ h => fieldPut_quiet_busy ht hc h, fun y hc hy h => fieldPut_quiet_idle ht hc h hy, fun y hc h hy => ?live⟩⟩
  case w1c =>
    have htu : t = u.setF F (u.f F &&& (2 ^ f.w - 1 - x)) := fieldPut_w1c ht
    rw [htu]
    refine ⟨fun k hk => ?_, fun G hG => State.f_setF_ne u _ hG.symm⟩
    rw [State.f_setF_self]
    exact testBit_and_complement (fv_lt v f.lo f.w) hk
  case live =>
    have htu : t = u.writeLive F y := fieldPut_live ht hc h hy
    rw [htu, State.eff_applyLive_self]
    exact ⟨f_writeLive_self u F y, State.eff_writeLive_self u F y, f_writeLive_self u F y,
      fun G hG => ⟨f_writeLive_ne u y hG.symm, eff_writeLive_ne u y hG.symm⟩⟩

/-! ## Reads that return and clear (R6, R9) -/

/-- The entry of CFG_INTEG_STATUS in the register table (04 R112). -/
def integStatusKind : RegKind :=
  ⟨.CFG_INTEG_STATUS, 0x1010, [], false, [⟨24, 8, .ro, .none, 0, false⟩, ⟨16, 8, .w1c, .none, 0, false⟩,
    ⟨8, 8, .rc, .none, 0, false⟩, ⟨0, 8, .rc, .none, 0, false⟩]⟩

theorem decodeReg_integStatus : decodeReg CFG_INTEG_STATUS = some (integStatusKind, []) := by rfl

/-- A read of CFG_INTEG_STATUS decodes to the read of its register. -/
theorem exec_rcRead_integStatus {m : Master} (hm : ∀ l i, m ≠ .tenant l i) (s : State) :
    exec (.rcRead m CFG_INTEG_STATUS) s =
      .next ((s.xsweep.regRead integStatusKind [] CFG_INTEG_STATUS (decide (m = .debug))).1.answer
        (.ok (s.xsweep.regRead integStatusKind [] CFG_INTEG_STATUS (decide (m = .debug))).2)) := by
  have hb : blockOf CFG_INTEG_STATUS = some .CFG := by decide
  rw [exec_rcRead, mgmtRead_inBlock hm (isHbm_register hb) hb (fun h => by cases h), if_neg (by decide),
    decodeReg_integStatus, Bool.false_or]
  rfl

theorem regShow_integStatus (t : State) : t.regShow integStatusKind [] CFG_INTEG_STATUS =
    t.f CFG_INTEG_STATUS_GOLD_DIE * 2 ^ 24 + t.f CFG_INTEG_STATUS_SWEEP_LATE * 2 ^ 16 +
      t.f CFG_INTEG_STATUS_CORR * 2 ^ 8 + t.f CFG_INTEG_STATUS_STUCK := by
  simp [State.regShow, State.regSpecial, State.regWord, integStatusKind, CFG_INTEG_STATUS_GOLD_DIE, CFG_INTEG_STATUS_SWEEP_LATE,
    CFG_INTEG_STATUS_CORR, CFG_INTEG_STATUS_STUCK]

/-- A peek shows a register that no half of is latched, and changes nothing. -/
theorem regRead_peek {t : State} {k : RegKind} {ix : List Nat} {a : Nat} (hl : nget t.latch a = 0) :
    t.regRead k ix a true = (t, t.regShow k ix a) := by
  simp [State.regRead, hl]

/-- A read that is not a peek also clears the RC fields, CORR and STUCK. -/
theorem regRead_integStatus {t : State} (hl : nget t.latch CFG_INTEG_STATUS = 0) :
    t.regRead integStatusKind [] CFG_INTEG_STATUS false =
      ((t.setF CFG_INTEG_STATUS_CORR 0).setF CFG_INTEG_STATUS_STUCK 0, t.regShow integStatusKind [] CFG_INTEG_STATUS) := by
  have hclear : t.rcClear CFG_INTEG_STATUS integStatusKind.fields =
    (t.setF CFG_INTEG_STATUS_CORR 0).setF CFG_INTEG_STATUS_STUCK 0 := rfl
  have hpop : ∀ u : State, u.readPop integStatusKind.id [] = u := fun _ => rfl
  have hhi : t.hiOf integStatusKind.id [] = none := rfl
  simp only [State.regRead, hl, hhi, if_true, Bool.false_eq_true, if_false, hclear, hpop]

/-- Settles O13: a peek shows the four fields, any other read also clears CORR and STUCK. -/
theorem registerReadsReturnAndClear : Obligations.RegisterReadsReturnAndClear := by
  unfold Obligations.RegisterReadsReturnAndClear
  refine ⟨?reads, ?peek⟩
  case reads =>
    rintro s t m rfl hm hl
    have hd : decide (m = .debug) = false := by rcases hm with rfl | rfl | rfl <;> rfl
    rw [exec_rcRead_integStatus (by rcases hm with rfl | rfl | rfl <;> simp), hd, regRead_integStatus hl, regShow_integStatus]
  case peek =>
    rintro s t rfl hl
    rw [exec_rcRead_integStatus (by simp), decide_eq_true rfl, regRead_peek hl, regShow_integStatus]

/-! ## A written register -/

@[simp] theorem committed_answer (s : State) (r : Resp) : (s.answer r).committed = s.committed := rfl

/-- A write that the check lets through, of a plain register: its fields are put, then waiting expert fields return. -/
theorem exec_registerWrite_pass {s : State} {m : Master} {a v aux : Nat} {k : RegKind} {ix : List Nat} {b : Block}
    (hg : s.gate m a = .pass) (hb : blockOf a = some b) (hf : b ≠ .FAB) (ha : a % 4 = 0) (hd : decodeReg a = some (k, ix))
    (hx : k.expert = false) (hid : k.id ≠ .HUB_ATTN ∧ k.id ≠ .MBX_H2F_DB ∧ k.id ≠ .HUB_LC_CMD ∧ k.id ≠ .DBG_STIM) :
    exec (.registerWrite m a v aux) s = .next ((s.answer (.ok 0)).regAct m k ix a v aux) := by
  rw [exec_registerWrite, mgmtWrite_pass hg (isHbm_register hb) hb hf ha hd hx hid]

/-- TRIP_C and WARN_C in the register table. -/
def tripField : FieldSpec := ⟨8, 8, .rw, .boot, 110, false⟩
def warnField : FieldSpec := ⟨0, 8, .rw, .live, 95, false⟩

/-- The entry of PWR_THERM_CFG in the register table. -/
def thermCfgKind : RegKind := ⟨.PWR_THERM_CFG, 0x10, [], false, [tripField, warnField]⟩

theorem decodeReg_thermCfg : decodeReg PWR_THERM_CFG = some (thermCfgKind, []) := by rfl

theorem exec_registerWrite_thermCfg {s : State} {m : Master} {v aux : Nat} (hg : s.gate m PWR_THERM_CFG = .pass) :
    exec (.registerWrite m PWR_THERM_CFG v aux) s =
      .next ((s.answer (.ok 0)).plainWrite m thermCfgKind [] PWR_THERM_CFG v).xsweep := by
  rw [exec_registerWrite_pass hg (b := .PWR) (by decide) (by decide) (by decide) decodeReg_thermCfg rfl (by decide)]
  rfl

/-- TRIP_C is BOOT and WARN_C is LIVE: each is judged by the state before the write. -/
theorem fieldsPut_thermCfg (u : State) (m : Master) (v : Nat) :
    u.fieldsPut m .PWR_THERM_CFG [] PWR_THERM_CFG v thermCfgKind.fields =
      (if u.committed then u else u.setF PWR_THERM_CFG_TRIP_C (min 125 (max 100 (v / 2 ^ 8 % 2 ^ 8)))).writeLive
        PWR_THERM_CFG_WARN_C (v % 2 ^ 8) := by
  have hwarn : ∀ t, State.fieldPut u m .PWR_THERM_CFG [] PWR_THERM_CFG v t warnField =
      t.writeLive PWR_THERM_CFG_WARN_C (v % 2 ^ 8) := fun t =>
    fieldPut_live (.inl rfl) rfl rfl (by simp [fieldStore, fv, warnField])
  have htrip : State.fieldPut u m .PWR_THERM_CFG [] PWR_THERM_CFG v u tripField =
      if u.committed then u else u.setF PWR_THERM_CFG_TRIP_C (min 125 (max 100 (v / 2 ^ 8 % 2 ^ 8))) := by
    split
    · next h => exact fieldPut_boot_committed (.inl rfl) rfl h
    · next h => exact fieldPut_boot (.inl rfl) rfl (by simpa using h) rfl
  simp only [State.fieldsPut, thermCfgKind, List.foldl_cons, List.foldl_nil, htrip, hwarn]

theorem bootHit_thermCfg (u : State) : u.bootHit thermCfgKind.fields = u.committed := by
  simp [State.bootHit, thermCfgKind, tripField]

theorem plainWrite_thermCfg_open {u : State} {m : Master} {v : Nat} (h : u.committed = false) :
    u.plainWrite m thermCfgKind [] PWR_THERM_CFG v =
      (u.setF PWR_THERM_CFG_TRIP_C (min 125 (max 100 (v / 2 ^ 8 % 2 ^ 8)))).writeLive PWR_THERM_CFG_WARN_C (v % 2 ^ 8) := by
  have hf := fieldsPut_thermCfg u m v
  simp only [h, Bool.false_eq_true, if_false] at hf
  simp only [State.plainWrite, bootHit_thermCfg, h, Bool.false_eq_true, if_false]
  exact hf

theorem plainWrite_thermCfg_committed {u : State} {m : Master} {v : Nat} (h : u.committed = true) :
    u.plainWrite m thermCfgKind [] PWR_THERM_CFG v =
      (u.logDrop m .bootLocked PWR_THERM_CFG).writeLive PWR_THERM_CFG_WARN_C (v % 2 ^ 8) := by
  have hf := fieldsPut_thermCfg (u.logDrop m .bootLocked PWR_THERM_CFG) m v
  simp only [logDrop_committed, h, if_true] at hf
  simp only [State.plainWrite, bootHit_thermCfg, h, if_true]
  exact hf

/-- LEN of a channel in the register table. -/
def lenField : FieldSpec := ⟨0, 32, .rw, .quiet, 0, false⟩

/-- The entry of HDMA_LEN in the register table. -/
def hdmaLenKind : RegKind := ⟨.HDMA_LEN, 0x20C, [(0x20, 4)], false, [lenField]⟩

theorem decodeReg_hdmaLen : decodeReg (HDMA_LEN 2) = some (hdmaLenKind, [2]) := by rfl

/-- A field takes the bits of its width, so cutting them before changes nothing. -/
theorem setF_mod (s : State) (F : Fld) (v : Nat) : s.setF F (v % 2 ^ F.w) = s.setF F v := by
  simp only [State.setF, Nat.mod_mod]

/-- LEN is QUIET: a busy channel refuses it and sets FIELD_BUSY (R11). -/
theorem fieldPut_len (u : State) (m : Master) (v : Nat) :
    State.fieldPut u m .HDMA_LEN [2] (HDMA_LEN 2) v u lenField =
      if u.bit (HUB_HDMA_STATUS_BUSY 2) then u.setF (HUB_HDMA_STATUS_FIELD_BUSY 2) 1 else u.setF (HDMA_LEN_LEN 2) v := by
  split
  · next h => exact fieldPut_quiet_busy (.inl rfl) rfl h
  · next h =>
    have hidle : u.quietBusy .HDMA_LEN [2] = false := by simpa [State.quietBusy] using h
    rw [fieldPut_quiet_idle (.inl rfl) rfl hidle rfl, ← setF_mod _ (HDMA_LEN_LEN 2) v]
    simp [fv, lenField, HDMA_LEN_LEN]

theorem plainWrite_hdmaLen (u : State) (m : Master) (v : Nat) :
    u.plainWrite m hdmaLenKind [2] (HDMA_LEN 2) v = State.fieldPut u m .HDMA_LEN [2] (HDMA_LEN 2) v u lenField := by
  have hboot : u.bootHit hdmaLenKind.fields = false := by simp [State.bootHit, hdmaLenKind, lenField]
  simp only [State.plainWrite, hboot]
  rfl

theorem exec_registerWrite_hdmaLen {s : State} {m : Master} {v aux : Nat} (hg : s.gate m (HDMA_LEN 2) = .pass) :
    exec (.registerWrite m (HDMA_LEN 2) v aux) s =
      .next ((s.answer (.ok 0)).plainWrite m hdmaLenKind [2] (HDMA_LEN 2) v).xsweep := by
  rw [exec_registerWrite_pass hg (b := .HUB) (by decide) (by decide) (by decide) decodeReg_hdmaLen rfl (by decide)]
  rfl

/-! ## LIVE fields at their safe boundaries -/

/-- What follows once a field is in force: `old` were the trace outputs in force before. -/
def afterApply (old : Nat) (u : State) (id : RegId) (ix : List Nat) (a lo : Nat) : State :=
  match id, ix with
  | .DBG_BR_CORE, _ | .DBG_BR_ENG, _ | .DBG_BR_RGN, _ => if lo = 16 then u.haltOnApplied a else u
  | .DBG_TRC_CTRL, _ => if lo = 0 then u.outApplied old else u
  | .LNE_XP_EQ_CTRL, [n] | .LNE_XP_EQ_W, [n, _] => u.laneOverride n
  | _, _ => u

theorem afterApply_bridle (old : Nat) (u : State) {id : RegId} (ix : List Nat) (a lo : Nat)
    (h : id ∈ [RegId.DBG_BR_CORE, .DBG_BR_ENG, .DBG_BR_RGN]) :
    afterApply old u id ix a lo = if lo = 16 then u.haltOnApplied a else u := by
  simp only [List.mem_cons, List.not_mem_nil, or_false] at h
  rcases h with rfl | rfl | rfl <;> rfl

theorem afterApply_none {old : Nat} {u : State} {id : RegId} {ix : List Nat} {a lo : Nat}
    (h : id ∉ [RegId.DBG_BR_CORE, .DBG_BR_ENG, .DBG_BR_RGN, .DBG_TRC_CTRL, .LNE_XP_EQ_CTRL, .LNE_XP_EQ_W]) :
    afterApply old u id ix a lo = u := by
  unfold afterApply
  split <;> simp at h ⊢

/-- The boundary of a field does not come by LIVE_FIELD_APPLY: it is a command of its own, the block is busy, or there is no
edge. -/
def Waits (t : State) (k : RegKind) (ix : List Nat) (f : FieldSpec) (lo : Nat) : Prop :=
  f.cls = .live ∧ ownBoundary k.id lo ∨ f.cls = .quiet ∧ t.quietBusy k.id ix ∨ t.noEdge k.id ix lo

section Apply

variable {t : State} {a lo : Nat} {k : RegKind} {ix : List Nat} {f : FieldSpec}

theorem liveApply_noRegister (hd : decodeReg a = none) : t.liveApply a lo = t := by
  simp [State.liveApply, hd]

theorem liveApply_noField (hd : decodeReg a = some (k, ix)) (hf : fieldAt k.fields lo = none) : t.liveApply a lo = t := by
  simp [State.liveApply, hd, hf]

theorem liveApply_waits (hd : decodeReg a = some (k, ix)) (hf : fieldAt k.fields lo = some f) (hw : Waits t k ix f lo) :
    t.liveApply a lo = t := by
  simp only [State.liveApply, hd, hf]
  exact if_pos hw

theorem liveApply_acts (hd : decodeReg a = some (k, ix)) (hf : fieldAt k.fields lo = some f) (hw : ¬ Waits t k ix f lo) :
    t.liveApply a lo = afterApply (t.eff DBG_TRC_CTRL_OUT)
      ((if k.id = .GPIO_PIN_PAD then t.padNote else t).applyLive ⟨a, f.lo, f.w⟩) k.id ix a lo := by
  simp only [State.liveApply, hd, hf]
  exact if_neg hw

end Apply

/-- Settles O12: the fields of one write are judged apart, and LIVE_FIELD_APPLY acts unless the field waits. -/
theorem registerWritesJudgeEachField : Obligations.RegisterWritesJudgeEachField := by
  unfold Obligations.RegisterWritesJudgeEachField
  refine ⟨?bootOpen, ?bootClosed, ?quietIdle, ?quietBusy, ?live⟩
  case bootOpen =>
    intro s m v aux hg hc
    rw [exec_registerWrite_thermCfg hg, plainWrite_thermCfg_open ((committed_answer s _).trans hc)]
  case bootClosed =>
    intro s m v aux hg hc
    rw [exec_registerWrite_thermCfg hg, plainWrite_thermCfg_committed ((committed_answer s _).trans hc)]
  case quietIdle =>
    intro s m v aux hg hq
    rw [exec_registerWrite_hdmaLen hg, plainWrite_hdmaLen, fieldPut_len, State.bit_answer, hq, if_neg Bool.false_ne_true]
  case quietBusy =>
    intro s m v aux hg hq
    rw [exec_registerWrite_hdmaLen hg, plainWrite_hdmaLen, fieldPut_len, State.bit_answer, if_pos hq]
  case live =>
    rintro s t a lo rfl
    rw [exec_liveFieldApply]
    refine ⟨fun hd => by rw [liveApply_noRegister hd], fun k ix hd => ⟨fun hf => by rw [liveApply_noField hd hf], ?_⟩⟩
    intro f hf waits u
    have acts : ¬ waits → s.xsweep.liveApply a lo = afterApply (s.xsweep.eff DBG_TRC_CTRL_OUT) u k.id ix a lo :=
      liveApply_acts hd hf
    refine ⟨fun hw => by rw [liveApply_waits hd hf hw], ?inForce, ?bridle, ?trace, ?laneCtrl, ?laneWeights⟩
    case inForce =>
      intro hw hid
      exact ⟨by rw [acts hw, afterApply_none hid], State.eff_applyLive_self _ _⟩
    case bridle =>
      intro hw hid
      rw [acts hw, afterApply_bridle _ _ _ _ _ hid]
    case trace =>
      intro hw hid
      rw [acts hw, hid]; rfl
    case laneCtrl =>
      rintro hw hid n rfl
      rw [acts hw, hid]; rfl
    case laneWeights =>
      rintro hw hid n j rfl
      rw [acts hw, hid]; rfl

end Sys2Proof.Proofs.Scope
end

section
/-! The package as one device (01_package_as_one_device.md): who may write a register and what a refusal does, the windows of
isolated dies, leases and releases of regions, and their envelopes. -/

namespace Sys2Proof.Proofs.Package

open Sys2Proof Sys2Proof.Machine Sys2Proof.Machine.Reg Sys2Proof.Certificates.Slice0 Sys2Proof.Laws.Commands Sys2Proof.Proofs.Scope

/-! ## The commands that write a register -/

/-- Every command of the table acts behind the access check of its register, and only there. -/
theorem exec_of_commandRegister {c : Instr} {m : Master} {a : Nat} (h : commandRegister c = some (m, a)) :
    ∃ act : State → State, ∀ s, exec c s = .next (s.viaWrite m a act) := by
  unfold commandRegister at h
  split at h <;> cases h <;> exact ⟨_, fun _ => rfl⟩

/-- Settles O6: a command of the table acts through State.viaWrite, which a refusing check leaves to State.refuse. -/
theorem refusedCommandsDoOnlyTheCheck : Obligations.RefusedCommandsDoOnlyTheCheck := by
  unfold Obligations.RefusedCommandsDoOnlyTheCheck
  intro c s m a hc hg
  obtain ⟨act, hexec⟩ := exec_of_commandRegister hc
  rw [hexec, s.viaWrite_refuse m a act hg]

/-! ## The access check by master, owner and die (R27, R28, R396) -/

theorem gate_tenant (s : State) (l i a : Nat) : s.gate (.tenant l i) a = .denied l := rfl

section Gate

variable {s : State} {m : Master} {a : Nat} {F : Fld}

/-- The window of an isolated die answers an error to every master but a tenant, the debug port too (R27). -/
theorem gate_isolated (hm : ∀ l i, m ≠ .tenant l i) (hF : ownerFld a = some F) (ha : 0xF010000000 ≤ a)
    (hd : dieIsolated s ((a - 0xF010000000) / 0x1000000) = true) : s.gate m a = .error := by
  cases m with
  | tenant l i => exact absurd rfl (hm l i)
  | _ => simp [State.gate, hF, ha, hd]

/-- Anywhere else the OWNER field decides for the board, the host and the firmware (R396). -/
theorem gate_owner (hm : m = .board ∨ m = .host ∨ m = .firmware) (hF : ownerFld a = some F)
    (hd : 0xF010000000 ≤ a → dieIsolated s ((a - 0xF010000000) / 0x1000000) = false) :
    s.gate m a = if s.f F = m.num then .pass else .drop .notOwner := by
  have hopen : ¬ (decide (0xF010000000 ≤ a) && dieIsolated s ((a - 0xF010000000) / 0x1000000)) = true := by
    simpa using hd
  rcases hm with rfl | rfl | rfl <;> simp only [State.gate, hF, if_neg hopen] <;> rfl

end Gate

/-- The masters that an OWNER field can name besides the debug port are no tenants. -/
theorem not_tenant {m : Master} (hm : m = .board ∨ m = .host ∨ m = .firmware) (l i : Nat) : m ≠ .tenant l i := by
  rcases hm with rfl | rfl | rfl <;> exact Master.noConfusion

/-- Settles O7: the check by master and owner, then what each refusal leaves. -/
theorem theAccessCheckFollowsTheOwner : Obligations.TheAccessCheckFollowsTheOwner := by
  unfold Obligations.TheAccessCheckFollowsTheOwner
  refine ⟨fun s m a F hm hF hd => gate_owner hm hF hd,
    fun s m a F hm hF ha hd => gate_isolated (not_tenant hm) hF ha hd, gate_tenant, ?dropped, ?denied, fun s m a => rfl⟩
  case dropped =>
    intro s m a c hroom
    show (s.logDrop m c a).answer .dropped = _
    rw [s.logDrop_room m c a hroom]
    rfl
  case denied =>
    intro s l i a
    rfl

/-! ## The windows of the dies (R25, R27) -/

/-- The addresses of die d's window. -/
def inDieWindow (d a : Nat) : Prop := 0xF010000000 + d * 0x1000000 ≤ a ∧ a < 0xF010000000 + (d + 1) * 0x1000000

theorem blockOf_inDieWindow {d a : Nat} (hd : d < 8) (h : inDieWindow d a) : blockOf a = some .FAB := by
  obtain ⟨hlo, hhi⟩ := h
  exact if_pos (by omega)

theorem die_inDieWindow {d a : Nat} (h : inDieWindow d a) : (a - 0xF010000000) / 0x1000000 = d := by
  obtain ⟨hlo, hhi⟩ := h
  omega

theorem ownerFld_fab {a : Nat} (h : blockOf a = some .FAB) :
    ownerFld a = some (FAB_DIE_CTRL_OWNER ((a - 0xF010000000) / 0x1000000)) := by
  simp only [ownerFld, h]

theorem ownerFld_cmx {a : Nat} (h : blockOf a = some .CMX) :
    ownerFld a = some (CMX_DIE_CTRL_OWNER ((a - 0xF004000000) / 0x100000)) := by
  simp only [ownerFld, h]

/-- Every block but FAB lies below the dies' windows. -/
theorem lt_dieWindows {a : Nat} {b : Block} (h : blockOf a = some b) (hb : b ≠ .FAB) : a < 0xF010000000 := by
  unfold blockOf at h
  split at h
  · exact absurd (Option.some.inj h).symm hb
  · split at h
    · next hlow => exact hlow.2
    · cases h

section Isolated

variable {s : State} {m : Master} {d a : Nat}

theorem mgmtWrite_isolated (v n aux : Nat) (hm : ∀ l i, m ≠ .tenant l i) (hd : d < 8) (hi : dieIsolated s d = true)
    (ha : inDieWindow d a) : s.mgmtWrite m a v n aux = s.answer .err := by
  have hb := blockOf_inDieWindow hd ha
  cases m with
  | tenant l i => exact absurd rfl (hm l i)
  | _ => simp [State.mgmtWrite, isHbm_register hb, hb, die_inDieWindow ha, hi]

theorem mgmtRead_isolated (n : Nat) (peek : Bool) (hm : ∀ l i, m ≠ .tenant l i) (hd : d < 8)
    (hi : dieIsolated s.xsweep d = true) (ha : inDieWindow d a) : s.mgmtRead m a n peek = s.xsweep.answer .err := by
  have hb := blockOf_inDieWindow hd ha
  cases m with
  | tenant l i => exact absurd rfl (hm l i)
  | _ => simp [State.mgmtRead, isHbm_register hb, hb, die_inDieWindow ha, hi]

theorem gate_inIsolatedWindow (hm : ∀ l i, m ≠ .tenant l i) (hd : d < 8) (hi : dieIsolated s d = true)
    (ha : inDieWindow d a) : s.gate m a = .error :=
  gate_isolated hm (ownerFld_fab (blockOf_inDieWindow hd ha)) (Nat.le_trans (Nat.le_add_right _ _) ha.1) (by rw [die_inDieWindow ha, hi])

end Isolated

/-- Settles O10: a window that reads as isolated answers errors; the CMX block lies below the windows. -/
theorem isolatedDieWindowsAnswerErrors : Obligations.IsolatedDieWindowsAnswerErrors := by
  unfold Obligations.IsolatedDieWindowsAnswerErrors
  refine ⟨?window, ?cmx⟩
  case window =>
    intro s m d a v aux hm hd hi hlo hhi
    have ha : inDieWindow d a := ⟨hlo, hhi⟩
    rw [exec_registerWrite, exec_rcRead, mgmtWrite_isolated v 4 aux hm hd hi ha]
    exact ⟨rfl, fun hx => by rw [mgmtRead_isolated 4 false hm hd hx ha], gate_inIsolatedWindow hm hd hi ha⟩
  case cmx =>
    intro s m a hm hb
    have hlow : a < 0xF010000000 := lt_dieWindows hb (by decide)
    refine ⟨gate_owner hm (ownerFld_cmx hb) (fun h => absurd hlow (by omega)), fun k ix h4 hdec => ?_⟩
    have hpeek : (false || decide (m = .debug)) = false := by rcases hm with rfl | rfl | rfl <;> rfl
    rw [exec_rcRead, mgmtRead_inBlock (not_tenant hm) (isHbm_register hb) hb (fun h => by cases h), if_neg (by simp [h4]), hdec,
      hpeek]
    rfl

/-! ## Leases and releases (R21, R22) -/

theorem exec_leaseWrite {s : State} {m : Master} {r : Nat} (l : Nat) (win : List (Nat × Nat))
    (hg : s.gate m (HUB_RGN_STATE r) = .pass) :
    exec (.leaseWrite m r l win) s = .next ((s.answer (.ok 0)).leaseWrite r l win) :=
  congrArg Host.Outcome.next (s.viaWrite_pass m _ _ hg)

theorem exec_release {s : State} {m : Master} {r : Nat} (hg : s.gate m (HUB_RGN_STATE r) = .pass) :
    exec (.release m r) s = .next ((s.answer (.ok 0)).release m r) :=
  congrArg Host.Outcome.next (s.viaWrite_pass m _ _ hg)

@[simp] theorem rState_answer (s : State) (x : Resp) (r : Nat) : (s.answer x).rState r = s.rState r := rfl
@[simp] theorem lease_answer (s : State) (x : Resp) (r : Nat) : (s.answer x).lease r = s.lease r := rfl

/-- The lease of a region changes to another one (R21). -/
theorem setLease_other {s : State} {r l : Nat} (h : l ≠ s.lease r) :
    s.setLease r l = ((((s.setF (HUB_RGN_STATE_LEASE r) l).trioClear r).ksOrphans).quadOrphans).seams r := if_neg h

section Lease

variable {s : State} {r l : Nat} {win : List (Nat × Nat)}

theorem leaseWrite_notFree (h : s.rState r ≠ 0) : s.leaseWrite r l win = s.setF HUB_STATUS_FIELD_BUSY 1 := if_pos h

theorem leaseWrite_free_leased (h : s.rState r = 0) (hl : l ≠ 0) : s.leaseWrite r l win =
    { s.setLease r l with leaseWin := SMap.put (fun _ => []) (s.setLease r l).leaseWin l win } := by
  simp only [State.leaseWrite, h, ne_eq, not_true_eq_false, if_false, if_neg hl]

/-- Lease 0x00 is no lease: it has no window. -/
theorem leaseWrite_free_unleased (h : s.rState r = 0) : s.leaseWrite r 0 win = s.setLease r 0 := by
  simp only [State.leaseWrite, h, ne_eq, not_true_eq_false, if_false, if_true]

end Lease

section Release

variable {s : State} {m : Master} {r : Nat}

theorem release_running (h : s.rState r = 2 ∨ s.rState r = 3) :
    s.release m r = (s.setF (HUB_RGN_STATE_REL_PEND r) 1).clearRegion r := by
  rcases h with h | h <;> simp only [State.release, h]

theorem release_lost (h : s.rState r = 4) : s.release m r = s.setF (HUB_RGN_STATE_REL_PEND r) 1 := by
  simp only [State.release, h]

theorem release_freeOrClearing (h : s.rState r = 0 ∨ s.rState r = 5) :
    s.release m r = s.logDrop m .badCode (HUB_RGN_STATE r) := by
  rcases h with h | h <;> simp only [State.release, h]

theorem clearRegion_atOnce (he : s.envMoves r = false) (hc : s.underCapture r = false) : s.clearRegion r = s.beginClearing r :=
  if_neg (by simp [he, hc])

theorem clearRegion_marked (h : s.envMoves r = true ∨ s.underCapture r = true) :
    s.clearRegion r = s.updRgn r fun x => { x with wantClear := true } := if_pos h

end Release

/-- Settles O15: LEASE_WRITE by FREE or not, RELEASE by the region's state, and when the clear of a region begins. -/
theorem regionLeaseAndReleaseCommands : Obligations.RegionLeaseAndReleaseCommands := by
  unfold Obligations.RegionLeaseAndReleaseCommands
  refine ⟨?leased, ?unleased, ?busy, ?running, ?lost, ?badCode, fun s r he hc => clearRegion_atOnce he hc,
    fun s r h => clearRegion_marked h⟩
  case leased =>
    intro s m r l win hg hs hl h0
    rw [exec_leaseWrite l win hg, leaseWrite_free_leased (by simpa using hs) h0, setLease_other (by simpa using hl)]
  case unleased =>
    intro s m r win hg hs hl
    rw [exec_leaseWrite 0 win hg, leaseWrite_free_unleased (by simpa using hs), setLease_other (by simpa using hl.symm)]
  case busy =>
    intro s m r l win hg hs
    rw [exec_leaseWrite l win hg, leaseWrite_notFree (by simpa using hs)]
  case running =>
    intro s m r hg hs
    rw [exec_release hg, release_running (by simpa using hs)]
  case lost =>
    intro s m r hg hs
    rw [exec_release hg, release_lost (by simpa using hs)]
  case badCode =>
    intro s m r hg hs
    rw [exec_release hg, release_freeOrClearing (by simpa using hs)]

/-! ## Envelopes and CLEARING (R22, R50 to R57) -/

/-- A close runs whose taps are not gated yet: STEP 1 to 4, and the region does not wait for the others of a capture (R55). -/
theorem exec_envCloseDone {s : State} {r : Nat} (delta : List (Nat × Byte)) (h1 : 1 ≤ s.envStep r) (h4 : s.envStep r ≤ 4)
    (hg : s.cap.gated.contains r = false) : exec (.envCloseDone r delta) s = .next (s.closeDone r delta) :=
  congrArg Host.Outcome.next (if_pos ⟨h1, h4, by rw [hg]; rfl⟩)

theorem closeDone_own {s : State} {r : Nat} (delta : List (Nat × Byte)) (h : s.capHolds r = false) :
    s.closeDone r delta =
      (((((s.fabDelta r delta).setEnvStep r 2).gateTaps r false).envParked r fun v => v.ownShadow r).afterClose r).mirPump := by
  simp only [State.closeDone, h, Bool.false_and, Bool.false_eq_true, if_false]

/-- Under a capture or an inject the region waits with its taps gated, in whole periods unless they were forced (R54, R55). -/
theorem closeDone_captured {s : State} {r : Nat} (delta : List (Nat × Byte)) (h : s.capHolds r = true) :
    s.closeDone r delta =
      ((((s.fabDelta r delta).setEnvStep r 2).gateTaps r (!(s.rgnAt r).forced)).capGated r).mirPump := by
  simp only [State.closeDone, h, Bool.true_and, if_true]

/-- An open runs: STEP 6 (R56). -/
theorem exec_envOpenDone {s : State} {r : Nat} (ns : Nat) (h : s.envStep r = 6) :
    exec (.envOpenDone r ns) s = .next (s.openDone r ns) := congrArg Host.Outcome.next (if_pos h)

theorem openDone_unloaded {s : State} {r : Nat} (ns : Nat) (hn : s.openingSlot r = none)
    (hc : (s.envOpened r).underCapture r = false) :
    s.openDone r ns = ((((s.envOpened r).capFinish).afterOpen r false).capServe).mirPump := by
  simp only [State.openDone, hn, hc, Bool.false_eq_true, if_false, Option.isSome_none]

theorem openDone_loaded {s : State} {r n : Nat} (ns : Nat) (hn : s.openingSlot r = some n)
    (hc : ((s.envOpened r).loadOpened n).underCapture r = false) :
    s.openDone r ns = (((((s.envOpened r).loadOpened n).capFinish).afterOpen r true).capServe).mirPump := by
  simp only [State.openDone, hn, hc, Bool.false_eq_true, if_false, Option.isSome_some]

theorem exec_napDrainTimeout {s : State} {node r k : Nat} (hn : unitOf node = .fabricNap r k)
    (h : s.envStep r = 1 ∨ s.envStep r = 2) :
    exec (.napDrainTimeout node) s = .next ((s.cutPacket node).setEnvStep r 2) := by
  show execNapDrainTimeout node s = _
  simp only [execNapDrainTimeout, hn, if_pos h]

/-- The clear ends once the region is closed and its trio is clear (R22, R215). -/
theorem exec_clearingEnd {s : State} {r : Nat} (hs : s.rState r = 5) (he : s.envStep r = 5)
    (ht : s.bit (ENG_TRIO_PWR_CLEARING r) = false) : exec (.clearingEnd r) s = .next (s.clearingEnd r) :=
  congrArg Host.Outcome.next (if_pos ⟨hs, he, by rw [ht]; rfl⟩)

theorem exec_napHoldTimeout {s : State} {node : Nat} {p : Packet}
    (h : s.noc.heldReq.find? (fun q => q.dst = node) = some p) :
    exec (.napHoldTimeout node) s =
      .next ((s.updNoc fun n => { n with heldReq := dropFirst (fun q => q.dst = node) n.heldReq }).respond p stErr []) := by
  show execNapHoldTimeout node s = _
  simp only [execNapHoldTimeout, h]

/-- Settles O16: each command by the step of the envelope and by what else holds the region. -/
theorem envelopeAndClearingCommands : Obligations.EnvelopeAndClearingCommands := by
  unfold Obligations.EnvelopeAndClearingCommands
  refine ⟨?closeOwn, ?closeCaptured, fun s r copy => rfl, ?openUnloaded, ?openLoaded, fun s node r k hn h => exec_napDrainTimeout hn h,
    fun s r h => congrArg Host.Outcome.next (if_pos h), ?clearing, fun s node p h => exec_napHoldTimeout h⟩
  case closeOwn =>
    intro s r delta h1 h4 hg hc
    rw [exec_envCloseDone delta h1 h4 hg, closeDone_own delta hc]
  case closeCaptured =>
    intro s r delta h1 h4 hg hc
    rw [exec_envCloseDone delta h1 h4 hg, closeDone_captured delta hc]
  case openUnloaded =>
    intro s r ns h6 hn hc
    rw [exec_envOpenDone ns h6, openDone_unloaded ns hn hc]
  case openLoaded =>
    intro s r ns n h6 hn hc
    rw [exec_envOpenDone ns h6, openDone_loaded ns hn hc]
  case clearing =>
    intro s r hs he ht hz
    rw [exec_clearingEnd hs he ht, State.clearingEnd, if_pos hz]

end Sys2Proof.Proofs.Package
end

section
/-! The hard blocks of the fabric dies (02_fabric_regions_envelopes.md): ring oscillators, the small flash and the serial
ports. -/

namespace Sys2Proof.Proofs.FabricBlocks

open Sys2Proof Sys2Proof.Machine Sys2Proof.Machine.Reg

/-- A command behind an access check that passes acts on the state that has answered. -/
theorem exec_viaWrite_pass {c : Instr} {s : State} {m : Master} {a : Nat} (act : State → State)
    (hc : exec c s = .next (s.viaWrite m a act)) (hg : s.gate m a = .pass) : exec c s = .next (act (s.answer (.ok 0))) := by
  rw [hc, s.viaWrite_pass m a act hg]

/-! ## Ring oscillators (R60) -/

section Oscillator

variable {s : State} {m : Master} {d n : Nat}

theorem exec_roscEnable (hg : s.gate m (FAB_ROSC_CTRL d n) = .pass) :
    exec (.roscEnable m d n) s = .next ((s.answer (.ok 0)).roscEnable d n) := exec_viaWrite_pass (·.roscEnable d n) rfl hg

theorem exec_roscDisable (hg : s.gate m (FAB_ROSC_CTRL d n) = .pass) :
    exec (.roscDisable m d n) s = .next ((s.answer (.ok 0)).roscDisable d n) := exec_viaWrite_pass (·.roscDisable d n) rfl hg

theorem roscEnable_stopped (h : s.bit (FAB_ROSC_CTRL_EN d n) = false) :
    s.roscEnable d n = (s.setF (FAB_ROSC_CTRL_EN d n) 1).setRosc d n { s.rosc d n with gated := true, skip := true } := by
  simp only [State.roscEnable, h, Bool.false_eq_true, if_false]

theorem roscEnable_running (h : s.bit (FAB_ROSC_CTRL_EN d n) = true) : s.roscEnable d n = s := if_pos h

/-- An oscillator that stops: EN, VALID and COUNT are cleared, and no window is left to skip. -/
def roscStopped (s : State) (d n : Nat) : State :=
  (s.setFs [(FAB_ROSC_CTRL_EN d n, 0), (FAB_ROSC_MEAS_VALID d n, 0), (FAB_ROSC_MEAS_COUNT d n, 0)]).setRosc d n
    { s.rosc d n with gated := false, skip := false }

/-- An expert TRIM whose return waited for the oscillator to stop returns (R15). -/
theorem roscDisable_eq : s.roscDisable d n =
    if s.xback.contains (FAB_ROSC_TRIM_TRIM d n).key then (roscStopped s d n).roscBack d n else roscStopped s d n := rfl

/-- COUNT and VALID after a complete window of `cnt` cycles. -/
def roscReported (s : State) (d n cnt : Nat) : State :=
  s.setFs [(FAB_ROSC_MEAS_COUNT d n, min cnt (2 ^ 20 - 1)), (FAB_ROSC_MEAS_VALID d n, 1)]

section Window

variable (cnt : Nat) (hen : s.bit (FAB_ROSC_CTRL_EN d n) = true)

include hen

theorem exec_roscWindowEnd_complete (hs : (s.rosc d n).skip = false) (hg : (s.rosc d n).gated = false) :
    exec (.roscWindowEnd d n cnt) s = .next (if (s.rosc d n).expert then roscReported s d n cnt
      else ((roscReported s d n cnt).setF (FAB_ROSC_TRIM_TRIM d n) ((roscReported s d n cnt).free 8)).freeNext) := by
  show execRoscWindowEnd d n cnt s = _
  simp only [execRoscWindowEnd, hen, hs, hg, Bool.not_true, Bool.false_eq_true, or_self, if_false, roscReported]

theorem exec_roscWindowEnd_incomplete (h : (s.rosc d n).skip = true ∨ (s.rosc d n).gated = true)
    (hx : (s.rosc d n).expert = true) :
    exec (.roscWindowEnd d n cnt) s = .next (s.setRosc d n { s.rosc d n with skip := (s.rosc d n).gated }) := by
  show execRoscWindowEnd d n cnt s = _
  simp only [execRoscWindowEnd, hen, hx, Bool.not_true, Bool.false_eq_true, if_pos h, if_true, if_false]

end Window

end Oscillator

/-- Settles O17: ENABLE by EN, DISABLE by whether an expert TRIM waits for it, the end of a window by its being complete. -/
theorem oscillatorCommands : Obligations.OscillatorCommands := by
  unfold Obligations.OscillatorCommands
  refine ⟨?enableStopped, ?enableRunning, fun s d n hen => congrArg Host.Outcome.next (if_pos hen), ?disable, ?disableReturns,
    ?complete, ?completeCalibrates, fun s d n cnt hen h hx => exec_roscWindowEnd_incomplete cnt hen h hx⟩
  case enableStopped =>
    intro s m d n hg hen
    rw [exec_roscEnable hg, roscEnable_stopped (by simpa using hen)]
    rfl
  case enableRunning =>
    intro s m d n hg hen
    rw [exec_roscEnable hg, roscEnable_running (by simpa using hen)]
  case disable =>
    intro s m d n hg hx
    rw [exec_roscDisable hg, roscDisable_eq, State.answer_xback, if_neg (ne_true_of_eq_false hx)]
    rfl
  case disableReturns =>
    intro s m d n hg hx
    rw [exec_roscDisable hg, roscDisable_eq, State.answer_xback, if_pos hx]
    rfl
  case complete =>
    intro s d n cnt hen hs hg hx
    rw [exec_roscWindowEnd_complete cnt hen hs hg, if_pos hx]
    rfl
  case completeCalibrates =>
    intro s d n cnt hen hs hg hx
    rw [exec_roscWindowEnd_complete cnt hen hs hg, if_neg (ne_true_of_eq_false hx)]
    rfl

/-! ## The small flash (R61, R62) -/

section Flash

variable {s : State} {m : Master} {d page : Nat}

theorem exec_flRead (hg : s.gate m (FAB_FL_CTRL d) = .pass) :
    exec (.flRead m d page) s = .next ((s.answer (.ok 0)).flStart d page 1) := exec_viaWrite_pass (·.flStart d page 1) rfl hg

theorem exec_flWrite (hg : s.gate m (FAB_FL_CTRL d) = .pass) :
    exec (.flWrite m d page) s = .next ((s.answer (.ok 0)).flStart d page 2) := exec_viaWrite_pass (·.flStart d page 2) rfl hg

theorem exec_flErase (hg : s.gate m (FAB_FL_CTRL d) = .pass) :
    exec (.flErase m d page) s = .next ((s.answer (.ok 0)).flStart d page 3) := exec_viaWrite_pass (·.flStart d page 3) rfl hg

theorem flStart_busy (op : Nat) (h : s.bit (FAB_FL_STATUS_BUSY d) = true) :
    s.flStart d page op = s.setF (FAB_FL_STATUS_FIELD_BUSY d) 1 := if_pos h

/-- PAGE taken, the operation under way and BUSY set. -/
def flStarted (s : State) (d page op : Nat) : State :=
  ((s.setF (FAB_FL_CTRL_PAGE d) page).setFlOp d op).setF (FAB_FL_STATUS_BUSY d) 1

section Idle

variable (h : s.bit (FAB_FL_STATUS_BUSY d) = false)

include h

/-- A READ starts at any supply; it changes no page. -/
theorem flStart_read : s.flStart d page 1 = flStarted s d page 1 := by
  simp only [State.flStart, h, flStarted, Bool.false_eq_true, if_false, Nat.reduceLeDiff, false_and, Nat.reduceEqDiff]

/-- A WRITE begins by erasing the page without the valid copy (R61). -/
theorem flStart_write (hnv : (s.setF (FAB_FL_CTRL_PAGE d) page).bit HUB_SUPPLY_NV_OK = true) :
    s.flStart d page 2 = (flStarted s d page 2).flErase d
      ((flStarted s d page 2).flOther d ((flStarted s d page 2).f (FAB_FL_CTRL_PAGE d))) := by
  simp only [State.flStart, h, hnv, flStarted, Bool.false_eq_true, if_false, Nat.reduceEqDiff, Bool.not_true, and_false, if_true]

theorem flStart_erase (hnv : (s.setF (FAB_FL_CTRL_PAGE d) page).bit HUB_SUPPLY_NV_OK = true) :
    s.flStart d page 3 = flStarted s d page 3 := by
  simp only [State.flStart, h, hnv, flStarted, Bool.false_eq_true, if_false, Nat.reduceEqDiff, Bool.not_true, and_false]

/-- Below an NV-write floor an operation that writes ends before it touches a page (R62). -/
theorem flStart_floor {op : Nat} (hop : 2 ≤ op) (hnv : (s.setF (FAB_FL_CTRL_PAGE d) page).bit HUB_SUPPLY_NV_OK = false) :
    s.flStart d page op =
      (s.setF (FAB_FL_CTRL_PAGE d) page).setFs [(FAB_FL_STATUS_ERR d, 1), (FAB_FL_STATUS_DONE d, 1)] := by
  have h0 : op ≠ 0 := by omega
  simp only [State.flStart, h, hnv, Bool.false_eq_true, if_false, if_neg h0, Bool.not_false, and_true, if_pos hop]

end Idle

section OpEnd

variable (ok : Bool)

theorem exec_flOpEnd_read (h : s.flOp d = 1) : exec (.flOpEnd d ok) s = .next (s.flReadEnd d) := by
  show execFlOpEnd d ok s = _
  simp only [execFlOpEnd, h]

theorem exec_flOpEnd_write (h : s.flOp d = 2) : exec (.flOpEnd d ok) s = .next (s.flWriteEnd d ok) := by
  show execFlOpEnd d ok s = _
  simp only [execFlOpEnd, h]

theorem exec_flOpEnd_erase (h : s.flOp d = 3) : exec (.flOpEnd d ok) s = .next (s.flEraseEnd d) := by
  show execFlOpEnd d ok s = _
  simp only [execFlOpEnd, h]

theorem flReadEnd_copy {q : Nat} (h : s.flCopy d (s.f (FAB_FL_CTRL_PAGE d)) = some q) :
    s.flReadEnd d = ((s.setFlBuf d (s.flPage d q).data).setFs
      [(FAB_FL_STATUS_SEQ d, (s.flPage d q).seq), (FAB_FL_STATUS_EMPTY d, 0)]).flEnd d 0 := by
  simp only [State.flReadEnd, h]

theorem flReadEnd_empty (h : s.flCopy d (s.f (FAB_FL_CTRL_PAGE d)) = none) :
    s.flReadEnd d = ((s.setFlBuf d []).setF (FAB_FL_STATUS_EMPTY d) 1).flEnd d 0 := by
  simp only [State.flReadEnd, h]

/-- The page without the valid copy, programmed with the sequence number after that of copy `c`. -/
def flProgrammed (s : State) (d c : Nat) (ok : Bool) : State :=
  let q := s.flOther d (s.f (FAB_FL_CTRL_PAGE d))
  s.setFlPage d q ⟨ok, ((s.flPage d c).seq + 1) % 65536, s.flBuf d, (s.flPage d q).wear⟩

theorem flWriteEnd_copy {c : Nat} (h : s.flCopy d (s.f (FAB_FL_CTRL_PAGE d)) = some c) :
    s.flWriteEnd d ok =
      let q := s.flOther d (s.f (FAB_FL_CTRL_PAGE d))
      let t := flProgrammed s d c ok
      if ok then (t.setF (FAB_FL_STATUS_SEQ d) (t.flPage d q).seq).flWorn d (decide (10000 < (s.flPage d q).wear))
      else t.flEnd d 2 := by
  simp only [State.flWriteEnd, h, flProgrammed]

end OpEnd

end Flash

/-- Settles O18: a start by BUSY and the NV-write floor, the end of an operation by its kind and the valid copy. -/
theorem smallFlashCommands : Obligations.SmallFlashCommands := by
  unfold Obligations.SmallFlashCommands
  refine ⟨?read, ?readBusy, ?write, ?writeFloor, ?writeBusy, ?erase, ?eraseFloor, ?eraseBusy, ?readEnd, ?readEndEmpty,
    ?writeEnd, fun s d ok h => exec_flOpEnd_erase ok h⟩
  case read =>
    intro s m d page hg hb
    rw [exec_flRead hg, flStart_read (by simpa using hb)]
    rfl
  case readBusy =>
    intro s m d page hg hb
    rw [exec_flRead hg, flStart_busy 1 (by simpa using hb)]
  case write =>
    intro s m d page hg hb hnv
    rw [exec_flWrite hg, flStart_write (by simpa using hb) hnv]
    rfl
  case writeFloor =>
    intro s m d page hg hb hnv
    rw [exec_flWrite hg, flStart_floor (by simpa using hb) (by decide) hnv]
  case writeBusy =>
    intro s m d page hg hb
    rw [exec_flWrite hg, flStart_busy 2 (by simpa using hb)]
  case erase =>
    intro s m d page hg hb hnv
    rw [exec_flErase hg, flStart_erase (by simpa using hb) hnv]
    rfl
  case eraseFloor =>
    intro s m d page hg hb hnv
    rw [exec_flErase hg, flStart_floor (by simpa using hb) (by decide) hnv]
  case eraseBusy =>
    intro s m d page hg hb
    rw [exec_flErase hg, flStart_busy 3 (by simpa using hb)]
  case readEnd =>
    intro s d q ok hop hq
    rw [exec_flOpEnd_read ok hop, flReadEnd_copy hq]
  case readEndEmpty =>
    intro s d ok hop hq
    rw [exec_flOpEnd_read ok hop, flReadEnd_empty hq]
  case writeEnd =>
    intro s d c ok hop hc
    rw [exec_flOpEnd_write ok hop, flWriteEnd_copy ok hc]
    rfl

/-! ## Serial ports (R63) -/

section Serial

variable {s : State} {m : Master} {d p : Nat}

theorem exec_spDataPush (v : Nat) (hg : s.gate m (FAB_SP_DATA d p) = .pass) :
    exec (.spDataPush m d p v) s = .next ((s.answer (.ok 0)).spPush d p v) := exec_viaWrite_pass (·.spPush d p v) rfl hg

theorem exec_spRdStart (hg : s.gate m (FAB_SP_DATA d p) = .pass) :
    exec (.spRdStart m d p) s = .next ((s.answer (.ok 0)).spRead d p) := exec_viaWrite_pass (·.spRead d p) rfl hg

theorem exec_spDataPop (peek : Bool) : exec (.spDataPop d p peek) s = .next (s.spPop d p peek) := rfl

theorem spMgmt_answer (r : Resp) : (s.answer r).spMgmt d p = s.spMgmt d p := rfl
theorem spMaster_answer (r : Resp) : (s.answer r).spMaster d p = s.spMaster d p := rfl
theorem serialAt_answer (r : Resp) : (s.answer r).serialAt d p = s.serialAt d p := rfl

section Put

variable {b : Byte}

theorem spPut_room (h : (s.serialAt d p).tx.length < 16) :
    s.spPut d p b = (s.setSerial d p { s.serialAt d p with tx := (s.serialAt d p).tx ++ [b] }).spShow d p := if_pos h

theorem spPut_full (h : ¬ (s.serialAt d p).tx.length < 16) : s.spPut d p b = s.setF (FAB_SP_STATUS_OVERRUN d p) 1 := if_neg h

end Put

theorem spPush_mgmt (v : Nat) (h : s.spMgmt d p = true) : s.spPush d p v = s.spPut d p (BitVec.ofNat 8 v) := if_pos h

theorem spPush_region (v : Nat) (h : s.spMgmt d p = false) : s.spPush d p v = s :=
  if_neg (ne_true_of_eq_false h)

section Pop

variable {b : Byte} {t : List Byte} {peek : Bool}

theorem spPop_isolated (h : dieIsolated s d = true) : s.spPop d p peek = s.answer .err := if_pos h

/-- A port of a region, or one with nothing received, answers 0. -/
theorem spPop_nothing (hi : dieIsolated s d = false) (h : s.spMgmt d p = false ∨ (s.serialAt d p).rx = []) :
    s.spPop d p peek = s.answer (.ok 0) := by
  rcases h with h | h
  · simp only [State.spPop, hi, h, Bool.false_eq_true, Bool.not_false, if_false, if_true]
  · simp only [State.spPop, hi, h, Bool.false_eq_true, if_false, ite_self]

theorem spPop_oldest (hi : dieIsolated s d = false) (hm : s.spMgmt d p = true) (h : (s.serialAt d p).rx = b :: t) :
    s.spPop d p peek =
      (if peek then s else s.setSerial d p { s.serialAt d p with rx := t }).answer (.ok b.toNat) := by
  simp only [State.spPop, hi, hm, h, Bool.false_eq_true, Bool.not_true, if_false]

end Pop

theorem spRead_master (hm : s.spMgmt d p = true) (h : s.spMaster d p = true) :
    s.spRead d p = (s.setSerial d p { s.serialAt d p with rd := s.f (FAB_SP_FMT_RDLEN d p) + 1 }).spShow d p := by
  simp only [State.spRead, State.spReadGo, hm, h, if_true]

theorem exec_spByteEnd_stopped (rx : Option Byte) (sent nack more : Bool) (fab : SpFabric) (h : s.spRuns d p = false) :
    exec (.spByteEnd d p rx sent nack more fab) s = .next s := congrArg Host.Outcome.next (if_pos (by rw [h]; rfl))

/-- No region's fabric reaches a port that management drives. -/
theorem spFabric_mgmt (fab : SpFabric) (h : s.spMgmt d p = true) : s.spFabric d p fab = s := if_pos h

theorem spSent_head {b : Byte} {t : List Byte} (h : (s.serialAt d p).tx = b :: t) :
    s.spSent d p = { s.setSerial d p { s.serialAt d p with
        tx := t, bus := decide (s.spMode d p = 4) && !t.isEmpty } with out := s.out ++ s.spLine d p b t.isEmpty } := by
  simp only [State.spSent, h]

section Got

variable (b : Byte)

/-- The port once a byte has come in a mode other than I²C master: the byte counts against the read, and no START is open. -/
def plainRead (x : Machine.Serial) : Machine.Serial := { x with rd := x.rd - 1, bus := false }

/-- Outside an I²C master's read a byte received puts nothing on the line. -/
theorem spGot_plain (hm : s.spMode d p ≠ 4) : s.spGot d p b =
    if (s.serialAt d p).rx.length < 16
    then s.setSerial d p { plainRead (s.serialAt d p) with rx := (s.serialAt d p).rx ++ [b] }
    else (s.setSerial d p (plainRead (s.serialAt d p))).setF (FAB_SP_STATUS_OVERRUN d p) 1 := by
  simp only [State.spGot, hm, false_and, decide_false, Bool.false_and, Bool.false_eq_true, if_false, List.append_nil, plainRead]

/-- An I²C master's read begins with START and its last byte ends with STOP. -/
theorem spGot_i2cRead (hm : s.spMode d p = 4) (hrd : (s.serialAt d p).rd ≠ 0) (hroom : (s.serialAt d p).rx.length < 16) :
    s.spGot d p b = { s with out := s.out
          ++ (if (s.serialAt d p).bus then [] else [Out.serialStart (4 * d + p) (2 * s.f (FAB_SP_FMT_I2C_ADDR d p) + 1)])
          ++ (if (s.serialAt d p).rd = 1 then [Out.serialStop (4 * d + p)] else []) }.setSerial d p { s.serialAt d p with
        rx := (s.serialAt d p).rx ++ [b], rd := (s.serialAt d p).rd - 1, bus := decide (1 < (s.serialAt d p).rd) } := by
  have hreads : decide (s.spMode d p = 4 ∧ (s.serialAt d p).rd ≠ 0) = true := decide_eq_true ⟨hm, hrd⟩
  simp only [State.spGot, hreads, Bool.true_and, decide_eq_true_eq, if_pos hroom]
  cases (s.serialAt d p).bus <;> rfl

end Got

end Serial

/-- Settles O19: each command by who drives the port and the state of its FIFOs; a byte received also by the I²C read. -/
theorem serialPortCommands : Obligations.SerialPortCommands := by
  unfold Obligations.SerialPortCommands
  refine ⟨fun s m d p hg => exec_viaWrite_pass (·.spEnable d p) rfl hg,
    fun s m d p hg => exec_viaWrite_pass (·.spDisable d p) rfl hg,
    ?push, ?pushFull, ?pushRegion, fun s d p peek hi => congrArg Host.Outcome.next (spPop_isolated hi),
    fun s d p peek hi h => congrArg Host.Outcome.next (spPop_nothing hi h), ?pop, ?peek, ?rdStart,
    fun s d p rx sent nack more fab h => exec_spByteEnd_stopped rx sent nack more fab h, ?byteEnd,
    fun s d p fab h => spFabric_mgmt fab h, fun s d p b t h => spSent_head h, ?got, ?gotFull,
    fun s d p b hm hrd hroom => spGot_i2cRead b hm hrd hroom⟩
  case push =>
    intro s m d p v hg hm hroom
    rw [exec_spDataPush v hg, spPush_mgmt v (by rwa [spMgmt_answer]), spPut_room (by rwa [serialAt_answer]), serialAt_answer]
  case pushFull =>
    intro s m d p v hg hm hfull
    rw [exec_spDataPush v hg, spPush_mgmt v (by rwa [spMgmt_answer]), spPut_full (by rwa [serialAt_answer])]
  case pushRegion =>
    intro s m d p v hg hm
    rw [exec_spDataPush v hg, spPush_region v (by rwa [spMgmt_answer])]
  case pop =>
    intro s d p b t hi hm h
    rw [exec_spDataPop, spPop_oldest hi hm h, if_neg Bool.false_ne_true]
  case peek =>
    intro s d p b t hi hm h
    rw [exec_spDataPop, spPop_oldest hi hm h, if_pos rfl]
  case rdStart =>
    intro s m d p hg hm h
    rw [exec_spRdStart hg, spRead_master (by rwa [spMgmt_answer]) (by rwa [spMaster_answer]), serialAt_answer, State.f_answer]
  case byteEnd =>
    intro s d p rx sent nack more fab h
    exact congrArg Host.Outcome.next (if_neg (by rw [h]; decide))
  case got =>
    intro s d p b hm hroom
    rw [spGot_plain b hm, if_pos hroom]
    rfl
  case gotFull =>
    intro s d p b hm hfull
    rw [spGot_plain b hm, if_neg hfull]
    rfl

end Sys2Proof.Proofs.FabricBlocks
end

section
/-! Loading personalities (03_loading_personalities.md): the boot and the ports of its streams, the control of load slots, and
the commands of a stream's body. -/

namespace Sys2Proof.Proofs.Loading

open Sys2Proof Sys2Proof.Machine Sys2Proof.Machine.Reg Sys2Proof.Certificates.Slice0 Sys2Proof.Laws.Commands
open Sys2Proof.Proofs.FabricBlocks (exec_viaWrite_pass)

/-! ## The boot and the stream ports (R64 to R77, R97) -/

section Boot

variable {s : State}

theorem exec_shellReady {m : Master} (hg : s.gate m CFG_BOOT_CTRL = .pass) :
    exec (.shellReady m) s = .next (s.answer (.ok 0)).shellReady := exec_viaWrite_pass State.shellReady rfl hg

theorem shellReady_passed (h : s.boot.phase = 4) : s.shellReady =
    ((s.updPins fun p => { p with cfgDone := true, cfgErr := false }).ripOff.commitNow.setF HUB_STATUS_SHELL_UP 1).updBoot
      fun b => { b with phase := 5 } := if_pos h

/-- Before an image has passed and after CFG_DONE the write of SHELL_READY is ignored (R69). -/
theorem shellReady_ignored (h : s.boot.phase ≠ 4) : s.shellReady = s := if_neg h

theorem exec_bootWdtExpire_running (h : s.boot.phase = 4) (hh : s.dbg.halted.contains 0 = false) :
    exec .bootWdtExpire s = .next (s.bootFail 0x18) := congrArg Host.Outcome.next (if_pos ⟨h, by rw [hh]; rfl⟩)

/-- The next k bytes of the flash enter the boot stream, and the address that the boot master reads at follows (R66). -/
def flashFed (s : State) (k : Nat) : State :=
  (s.feed 4 ((List.range k).map fun i => s.flashByte (s.boot.off + i))).updBoot fun b => { b with off := b.off + k }

theorem exec_bootFlashData (k : Nat) : exec (.bootFlashData k) s =
    .next (if s.boot.phase = 3 ∧ s.masterMode ∧ s.boot.flash ≠ 0 then flashFed s (min k (s.stageFree 4)) else s) := rfl

theorem exec_pllLock (p : Nat) : exec (.pllLock p) s =
    .next (if p = 0 ∧ (s.pllLocks p).boot.phase = 1 ∧ (s.pllLocks p).pllState 0 = 2 then (s.pllLocks p).bootRom
      else s.pllLocks p) := rfl

/-- A stream whose length is not known yet is taken as far as whole 256-byte units of SPACE hold it; what exceeds them fails the
load (R75). -/
theorem exec_sspWriteStream (d : List Byte) (ht : s.taking 2 = true) (hl : s.streamLeft 2 = none) :
    exec (.sspWriteStream d) s = .next (if s.stageFree 2 / 256 * 256 < d.length
      then (s.feed 2 (d.take (s.stageFree 2 / 256 * 256))).slotFail 2 0x11 else s.feed 2 d) := by
  show Host.Outcome.next (s.sspWrite d) = _
  simp only [State.sspWrite, ht, hl, Bool.not_true, Bool.false_eq_true, if_false]

theorem sspBegin_unknown {code : Nat} (d : List Byte) (h2 : code ≠ 2) (h5 : code ≠ 5) : s.sspBegin code d = s :=
  (if_neg h2).trans (if_neg h5)

theorem exec_pspWord_ready (w : Nat) (ht : s.taking 3 = true) (hf : 4 ≤ s.stageFree 3) :
    exec (.pspWord w) s = .next (s.feed 3 (leBytes 4 w)) :=
  congrArg Host.Outcome.next (if_pos (by simp only [State.pspReady, ht, hf, decide_true, Bool.and_true]))

theorem exec_cfgLoad_boot (w : Nat) (hl : s.f DBG_STATUS_LEVEL = 2) (hp : s.boot.phase = 3) (hm : s.boot.mode = 4) :
    exec (.cfgLoad w) s = .next ((s.updDbg fun x => { x with ir := 0x12 }).feed 4 (leBytes 4 w)) :=
  congrArg Host.Outcome.next ((if_pos hl).trans (if_pos ⟨hp, hm⟩))

theorem exec_cfgLoad_bypass (w : Nat) (hl : s.f DBG_STATUS_LEVEL ≠ 2) :
    exec (.cfgLoad w) s = .next (s.updDbg fun x => { x with ir := 0xFF }) := congrArg Host.Outcome.next (if_neg hl)

end Boot

/-- Settles O22, command by command: each by the phase of the boot, the boot mode, or what the port's slot takes. -/
theorem bootCommands : Obligations.BootCommands := by
  unfold Obligations.BootCommands
  refine ⟨?ready, ?readyIgnored, fun s h hh => exec_bootWdtExpire_running h hh, ?flash, ?noFlash, ?lockHub, ?lockOther, ?write,
    ?writeBeyond, fun s => rfl, fun s code h2 h5 => congrArg Host.Outcome.next (sspBegin_unknown [] h2 h5),
    fun s w ht hf => exec_pspWord_ready w ht hf, fun s w hl hp hm => exec_cfgLoad_boot w hl hp hm,
    fun s w hl => exec_cfgLoad_bypass w hl⟩
  case ready =>
    intro s m hg h
    rw [exec_shellReady hg, shellReady_passed (s := s.answer (.ok 0)) h]
  case readyIgnored =>
    intro s m hg h
    rw [exec_shellReady hg, shellReady_ignored (s := s.answer (.ok 0)) h]
  case flash =>
    intro s k hp hm hf
    rw [exec_bootFlashData, if_pos ⟨hp, hm, hf⟩]
    rfl
  case noFlash =>
    intro s k h
    have hno : ¬ (s.boot.phase = 3 ∧ s.masterMode ∧ s.boot.flash ≠ 0) := by
      rintro ⟨hp, hm, hf⟩
      simp [hp, hm, hf] at h
    rw [exec_bootFlashData, if_neg hno]
  case lockHub =>
    intro s _ hp hl
    rw [exec_pllLock, if_pos ⟨rfl, hp, hl⟩]
  case lockOther =>
    intro s p hp
    rw [exec_pllLock, if_neg fun h => hp h.1]
  case write =>
    intro s d ht hl hd
    rw [exec_sspWriteStream d ht hl, if_neg (Nat.not_lt.mpr hd)]
  case writeBeyond =>
    intro s d ht hl hd
    rw [exec_sspWriteStream d ht hl, if_pos hd]

/-! ## The control of load slots (R78 to R85, R92 to R96) -/

/-- A unit whose staging rows hold no error is acted on, and reading it changes nothing. -/
theorem staged_noBadRows {s : State} {n o k : Nat} (h : s.badRows stageMacro (stageRows n o k).1 (stageRows n o k).2 = [])
    (act : State → State) : s.staged n o k act = act s := by
  simp only [State.staged, State.eccReadRange, h, List.any_nil, List.foldl_nil, Bool.false_eq_true, if_false]

theorem onUnit_noBadRows {s : State} {n o k : Nat} {u : UnitState} (hu : u = .ready)
    (h : s.badRows stageMacro (stageRows n o k).1 (stageRows n o k).2 = []) (act : State → State) :
    s.onUnit n u o k act = act s := by
  subst hu
  exact staged_noBadRows h act

/-- GO writes TARGET, clears what the slot shows of its last load and applies STALL_LIM; whether the region may load is not
judged yet. -/
def goTargeted (s : State) (n r : Nat) : State :=
  (((s.setFs [(CFG_LD_CTRL_TARGET n, r), (CFG_LD_STATUS_ERR n, 0), (CFG_LD_STATUS_FRAMES n, 0)]).setSlot n
    Slot.empty).setLdState n 0).applyLive CFG_CTRL_STALL_LIM

/-- Region r is LOADING for a load, its golden copy is no longer valid, and the slot waits for its stream. -/
def goArmed (s : State) (n r : Nat) : State :=
  ((((s.setRState r 1).setEnvCause r 2).setGoldValid r false).updInteg
    fun g => { g with goldWrote := SMap.erase g.goldWrote r }).setLdState n (if n < 2 then 2 else 1)

section Control

variable {s : State} {m : Master} {n : Nat}

section Go

variable (r : Nat)

theorem exec_loadGo (hg : s.gate m (CFG_LD_CTRL n) = .pass) :
    exec (.loadGo m n r) s = .next ((s.answer (.ok 0)).loadGo n r) := exec_viaWrite_pass (·.loadGo n r) rfl hg

/-- A FREE region is taken; an OFF one wakes first (R96). -/
theorem loadGo_free (hi : s.ldIdle n = true) (hr : (goTargeted s n r).rState r = 0) :
    s.loadGo n r = if (goArmed (goTargeted s n r) n r).pwrState r = 2 then goArmed (goTargeted s n r) n r
      else ((goArmed (goTargeted s n r) n r).updSlot n fun x => { x with waking := true }).pwrReq r 1 := by
  have hlost : ¬ (goTargeted s n r).rState r = 4 := by rw [hr]; decide
  exact (if_neg (by rw [hi]; decide)).trans ((if_neg hlost).trans (if_neg (not_not_intro hr)))

theorem loadGo_busy (hi : s.ldIdle n = false) : s.loadGo n r = s.busy (CFG_LD_STATUS_FIELD_BUSY n) :=
  if_pos (by rw [hi]; rfl)

end Go

theorem exec_loadAbort (hg : s.gate m (CFG_LD_CTRL n) = .pass) :
    exec (.loadAbort m n) s = .next ((s.answer (.ok 0)).loadAbort n) := exec_viaWrite_pass (·.loadAbort n) rfl hg

theorem loadAbort_running (h1 : 1 ≤ s.ldState n) (h5 : s.ldState n ≤ 5) (hb : (s.slotAt n).boot = false) :
    s.loadAbort n = s.loadFail n 0x16 := if_pos ⟨h1, h5, by rw [State.bootStream, hb]; rfl⟩

theorem exec_loadStall_running (h2 : 2 ≤ s.ldState n) (h4 : s.ldState n ≤ 4) (hw : (s.slotAt n).waking = false) :
    exec (.loadStall n) s = .next (s.slotFail n 0x0E) := congrArg Host.Outcome.next (if_pos ⟨h2, h4, by rw [hw]; rfl⟩)

/-- A read of slots 0 and 1 that staging has room for is answered with data or with an error (R78). -/
theorem exec_cfgSourceData_reads (hn : n < 2) (ht : s.taking n = true) (h0 : 0 < (s.srcChunk n).2)
    (hf : (s.srcChunk n).2 ≤ s.stageFree n) : exec (.cfgSourceData n) s = .next (
      if (s.hubRead (s.srcChunk n).1 (s.srcChunk n).2).2.1 = stOk
      then (s.hubRead (s.srcChunk n).1 (s.srcChunk n).2).1.feed n (s.hubRead (s.srcChunk n).1 (s.srcChunk n).2).2.2
      else (s.hubRead (s.srcChunk n).1 (s.srcChunk n).2).1.slotFail n 0x12) := by
  have hgo : ¬ (2 ≤ n ∨ !s.taking n ∨ (s.srcChunk n).2 = 0 ∨ s.stageFree n < (s.srcChunk n).2) := by
    rw [ht]
    simp only [Bool.not_true, Bool.false_eq_true, false_or]
    omega
  exact congrArg Host.Outcome.next (if_neg hgo)

theorem exec_cfgHeader_staged (hs : s.ldState n = 2) (hu : s.unitAt n 0 384 = .ready)
    (hb : s.badRows stageMacro (stageRows n 0 384).1 (stageRows n 0 384).2 = []) :
    exec (.cfgHeader n) s = .next (if s.headerErr n ≠ 0 then s.slotFail n (s.headerErr n)
      else (s.updSlot n fun x => { x with pos := 384, all := x.all.take x.total }).setLdState n 3) :=
  congrArg Host.Outcome.next ((if_neg (not_not_intro hs)).trans (onUnit_noBadRows hu hb _))

theorem exec_cfgManifest_staged (hs : s.ldState n = 3) (hu : s.unitAt n 384 (8 * (s.slotAt n).manCount) = .ready)
    (hb : s.badRows stageMacro (stageRows n 384 (8 * (s.slotAt n).manCount)).1
      (stageRows n 384 (8 * (s.slotAt n).manCount)).2 = []) :
    exec (.cfgManifest n) s = .next (if s.manifestOk n then (s.updSlot n fun x => { x with pos := x.body0 }).setLdState n 4
      else s.slotFail n 0x09) :=
  congrArg Host.Outcome.next ((if_neg (not_not_intro hs)).trans (onUnit_noBadRows hu hb _))

section Verify

variable (hs : s.ldState n = 5)
  (hu : s.unitAt n (s.slotAt n).bodyEnd ((s.slotAt n).total - (s.slotAt n).bodyEnd) = .ready)
  (hb : s.badRows stageMacro (stageRows n (s.slotAt n).bodyEnd ((s.slotAt n).total - (s.slotAt n).bodyEnd)).1
    (stageRows n (s.slotAt n).bodyEnd ((s.slotAt n).total - (s.slotAt n).bodyEnd)).2 = [])
  (hsig : (s.slotAt n).signed = false) (henc : (s.slotAt n).encrypted = false)

include hs hu hb hsig henc

/-- With neither a signature nor a tag to check, a boot image passes and a region's directions are checked (R93). -/
theorem exec_cfgVerifyDone_plain : exec (.cfgVerifyDone n) s = .next (
    if (s.slotAt n).boot then s.bootPass n
    else if s.dirCheck (s.ldTarget n) then ((s.setLdState n 6).setEnvSrc (s.ldTarget n) 0).envOpen (s.ldTarget n)
    else s.slotFail n 0x13) := by
  refine congrArg Host.Outcome.next ((if_neg (not_not_intro hs)).trans ((onUnit_noBadRows hu hb _).trans ?_))
  simp only [hsig, henc, Bool.false_and, Bool.false_eq_true, if_false]

end Verify

theorem exec_bkeyWrite (k j v : Nat) (hg : s.gate m (CFG_BKEY (k - 1) j) = .pass) :
    exec (.bkeyWrite m k j v) s = .next ((s.answer (.ok 0)).bkeyWrite k j v) := exec_viaWrite_pass (·.bkeyWrite k j v) rfl hg

/-- A word of a key that no slot and no capture uses is stored and marked as written; the first word of a key that was
programmed whole begins it again. -/
theorem bkeyWrite_unused {k : Nat} (j v : Nat) (hd : ((List.range 4).filter fun n => s.decrypts n k) = [])
    (hc : s.capUsesKey k = false) : s.bkeyWrite k j v =
      let x := nget s.boot.bkeyMask k
      let x := if x = 255 then 0 else x
      { s.setF (CFG_BKEY_KEY (k - 1) j) v with
        boot := { s.boot with bkeyMask := nput s.boot.bkeyMask k (if x / 2 ^ j % 2 = 1 then x else x + 2 ^ j) } } := by
  simp only [State.bkeyWrite, hd, hc, List.isEmpty_nil, Bool.not_true, Bool.or_self, Bool.false_eq_true, if_false]

end Control

/-- Settles O23, command by command: each by the state of the slot and of its region, and by the outcome of its check. -/
theorem loadControlCommands : Obligations.LoadControlCommands := by
  unfold Obligations.LoadControlCommands
  refine ⟨?go, ?goBusy, ?abort, fun s n h2 h4 hw => exec_loadStall_running h2 h4 hw, ?source, ?sourceError, ?header, ?headerBad,
    fun s n hs hu hb => exec_cfgManifest_staged hs hu hb, ?opens, ?directions, ?bootPasses, ?key⟩
  case go =>
    intro s m n r hg hi hr
    rw [exec_loadGo r hg, loadGo_free (s := s.answer (.ok 0)) r hi hr]
    rfl
  case goBusy =>
    intro s m n r hg hi
    rw [exec_loadGo r hg, loadGo_busy (s := s.answer (.ok 0)) r hi]
    rfl
  case abort =>
    intro s m n hg h1 h5 hb
    rw [exec_loadAbort hg, loadAbort_running (s := s.answer (.ok 0)) h1 h5 hb]
  case source =>
    intro s n hn ht h0 hf hok
    rw [exec_cfgSourceData_reads hn ht h0 hf, if_pos hok]
  case sourceError =>
    intro s n hn ht h0 hf herr
    rw [exec_cfgSourceData_reads hn ht h0 hf, if_neg herr]
  case header =>
    intro s n hs hu hb he
    rw [exec_cfgHeader_staged hs hu hb, if_neg (not_not_intro he)]
  case headerBad =>
    intro s n hs hu hb he
    rw [exec_cfgHeader_staged hs hu hb, if_pos he]
  case opens =>
    intro s n hs hu hb hsig henc hboot hdir
    rw [exec_cfgVerifyDone_plain hs hu hb hsig henc, if_neg (ne_true_of_eq_false hboot), if_pos hdir]
  case directions =>
    intro s n hs hu hb hsig henc hboot hdir
    rw [exec_cfgVerifyDone_plain hs hu hb hsig henc, if_neg (ne_true_of_eq_false hboot), if_neg (ne_true_of_eq_false hdir)]
  case bootPasses =>
    intro s n hs hu hb hsig henc hboot
    rw [exec_cfgVerifyDone_plain hs hu hb hsig henc, if_pos hboot]
  case key =>
    intro s m k j v hg hd hc
    rw [exec_bkeyWrite k j v hg, bkeyWrite_unused (s := s.answer (.ok 0)) j v hd hc]
    rfl

/-! ## The commands of a stream's body (R86 to R91, R107) -/

section Body

variable {s : State} {n c : Nat}

/-- A frame command whose count is not 0 and that a FAR precedes acts, unless it waits for the admission of a die (R70, R87). -/
theorem frameCmd_starts (hc : c ≠ 0) (hf : (s.slotAt n).far ≠ none) (hw : s.framesWait n = false) (act : State → State) :
    s.frameCmd n c act = act s := by
  have hgo : ¬ (c = 0 ∨ (s.slotAt n).far.isNone) := by simp [hc, hf]
  rw [State.frameCmd, if_neg hgo, if_neg (ne_true_of_eq_false hw)]

theorem exec_far_staged (h : commandAt s n 1 0 = true) (hu : stagedUnit s n (s.slotAt n).pos 8 = true) :
    exec (.far n) s = .next (
      if (s.slotAt n).reloc ∧ s.slotWord n ((s.slotAt n).pos + 4) / 2 ^ 25 ≠ 0 then s.slotFail n 0x0B
      else (s.updSlot n fun x => { x with far := some (s.streamFrame n (s.slotWord n ((s.slotAt n).pos + 4))) }).advance n 8) :=
  congrArg Host.Outcome.next ((bodyOp_at h _).trans ((if_neg (not_not_intro rfl)).trans (onUnit_ready hu _)))

/-- A command of slot n's stream that goes on over several steps is under way, and its first `k` bytes are passed. -/
def bodyBegun (s : State) (n op c k : Nat) : State :=
  (s.updSlot n fun x => { x with cmd := some (op, c, x.pos) }).advance n k

theorem exec_bodyWrite_starts (h : commandAt s n 2 c = true) (hc : c ≠ 0) (hf : (s.slotAt n).far ≠ none)
    (hw : s.framesWait n = false) (hw' : (bodyBegun s n 2 c 4).framesWait n = false) :
    exec (.bodyWrite n) s =
      .next (State.writeGo ((bodyBegun s n 2 c 4).stagedFrames n) n (bodyBegun s n 2 c 4)) := by
  show execBodyWrite n s = _
  simp only [execBodyWrite, bodyOp_at h, frameCmd_starts hc hf hw]
  exact congrArg Host.Outcome.next (if_neg (ne_true_of_eq_false hw'))

/-- One frame of a WRITE under way: it is put at the frame address, and the stream goes on unless the load has failed. -/
theorem writeGo_frame {c st : Nat} (f : Nat) (hcmd : (s.slotAt n).cmd = some (2, c, st)) (hs : s.ldState n = 4)
    (he : (s.slotAt n).pos ≠ st + 4 + 400 * c) (hu : stagedUnit s n (s.slotAt n).pos 400 = true) :
    State.writeGo (f + 1) n s =
      let t := s.putFrame n (Crypto.leNum (s.slotText n (s.slotAt n).pos 400))
      State.writeGo f n (if t.ldState n = 4 then t.advance n 400 else t) := by
  have hready : s.bodyUnit n (s.slotAt n).pos 400 = .ready := by
    simp only [stagedUnit, Bool.and_eq_true, decide_eq_true_eq] at hu
    exact hu.1
  simp only [State.writeGo, hcmd, hs, ne_eq, not_true_eq_false, if_false, if_neg he, hready, staged_ready hu]

section Frame

variable {i v : Nat} (hf : (s.slotAt n).far = some (some i))

include hf

theorem putFrame_written (hm : s.inManifest n i = true) (ho : frameOutcome i v = .clean) (hb : s.bootStream n = false) :
    s.putFrame n v =
      let t := (s.writeFrame i v).updSlot n fun x =>
        { x with wrote := i :: x.wrote, far := some (if i + 1 < devFrames then some (i + 1) else none) }
      if n < 4 then t.count (CFG_LD_STATUS_FRAMES n) 1 else t := by
  simp only [State.putFrame, hf, Option.join_some, hm, ho, hb, Bool.not_true, Bool.false_eq_true, ne_eq, not_true_eq_false,
    false_and, if_false]

/-- A frame outside the manifest is FENCE_WRITE, whatever its check word says (R86). -/
theorem putFrame_outside (hm : s.inManifest n i = false) : s.putFrame n v = s.slotFail n 0x0A := by
  simp only [State.putFrame, hf, Option.join_some, hm, Bool.not_false, if_true]

theorem putFrame_badCheck (hm : s.inManifest n i = true) (ho : frameOutcome i v ≠ .clean) :
    s.putFrame n v = s.slotFail n 0x0C := by
  simp only [State.putFrame, hf, Option.join_some, hm, Bool.not_true, Bool.false_eq_true, if_false, if_pos ho]

end Frame

theorem exec_blank_starts (h : commandAt s n 3 c = true) (hc : c ≠ 0) (hf : (s.slotAt n).far ≠ none)
    (hw : s.framesWait n = false) : exec (.blank n) s = .next (
      let t := State.multiGo c n 0 s
      if t.ldState n = 4 then t.advance n 4 else t) :=
  congrArg Host.Outcome.next ((bodyOp_at h _).trans (frameCmd_starts hc hf hw _))

theorem exec_multi_starts (h : commandAt s n 4 c = true) (hc : c ≠ 0) (hf : (s.slotAt n).far ≠ none)
    (hw : s.framesWait n = false) (hu : stagedUnit s n (s.slotAt n).pos 404 = true) : exec (.multi n) s = .next (
      let t := State.multiGo c n (Crypto.leNum (s.slotText n ((s.slotAt n).pos + 4) 400)) s
      if t.ldState n = 4 then t.advance n 404 else t) :=
  congrArg Host.Outcome.next ((bodyOp_at h _).trans ((frameCmd_starts hc hf hw _).trans (onUnit_ready hu _)))

theorem exec_essmap_starts (h : commandAt s n 5 c = true) : exec (.essmap n) s = .next (
      let t := (s.updSlot n fun x => { x with cmd := some (5, c, x.pos), ess := { x.ess with given := true } }).advance n 4
      State.essGo (((t.slotAt n).all.length - (t.slotAt n).pos) / 4 + 3) n t) := by
  show execEssmap n s = _
  simp only [execEssmap, bodyOp_at h]

theorem exec_loadmem_at (h : commandAt s n 6 c = true) : exec (.loadmem n) s = .next (State.memGo
      (if !(s.slotAt n).boot then s.slotFail n 0x0B
        else s.onUnit n (s.bodyUnit n (s.slotAt n).pos 8) (s.slotAt n).pos 8 fun s => bodyBegun s n 6 c 8) n) :=
  congrArg (fun t => Host.Outcome.next (State.memGo t n)) (bodyOp_at h _)

theorem exec_endCmd_staged (h : commandAt s n 15 0 = true) (hu : stagedUnit s n (s.slotAt n).pos 8 = true) :
    exec (.endCmd n) s = .next (
      if (s.slotAt n).pos + 8 = (s.slotAt n).bodyEnd ∧ s.slotWord n ((s.slotAt n).pos + 4) = (s.slotAt n).num 0x28 4 ∧
          s.slotWord n ((s.slotAt n).pos + 4) = (s.slotAt n).wrote.length
      then (s.advance n 8).setLdState n 5 else s.slotFail n 0x0D) :=
  congrArg Host.Outcome.next ((bodyOp_at h _).trans ((if_neg (not_not_intro rfl)).trans (onUnit_ready hu _)))

end Body

/-- Settles O24, command by command, and frame by frame: in the manifest and CLEAN, or refused by the first check that fails. -/
theorem loadBodyCommands : Obligations.LoadBodyCommands := by
  unfold Obligations.LoadBodyCommands
  refine ⟨?far, fun s n c h hc hf hw hw' => exec_bodyWrite_starts h hc hf hw hw',
    fun s f n c st hcmd hs he hu => writeGo_frame f hcmd hs he hu, fun s n v i hf hm ho hb => putFrame_written hf hm ho hb,
    ?refused, fun s n c h hc hf hw => exec_blank_starts h hc hf hw,
    fun s n c h hc hf hw hu => exec_multi_starts h hc hf hw hu, fun s n c h => exec_essmap_starts h, ?loadmem, ?loadmemRegion,
    fun s n c h => congrArg Host.Outcome.next (bodyOp_at h _), fun s n h hu => exec_endCmd_staged h hu⟩
  case far =>
    intro s n h hu hr
    rw [exec_far_staged h hu, if_neg hr]
  case refused =>
    intro s n v i hf h
    cases hm : s.inManifest n i with
    | false => exact putFrame_outside hf hm
    | true => exact putFrame_badCheck hf hm (h.resolve_left (by rw [hm]; decide))
  case loadmem =>
    intro s n c h hb hu
    rw [exec_loadmem_at h, if_neg (by rw [hb]; decide), onUnit_ready hu]
    rfl
  case loadmemRegion =>
    intro s n c h hb
    rw [exec_loadmem_at h, if_pos (by rw [hb]; rfl)]

end Sys2Proof.Proofs.Loading
end

section
/-! Configuration integrity and capture (04_configuration_integrity_and_capture.md): the column checkers and their findings, the
golden store and the upset log, and the capture engine. -/

namespace Sys2Proof.Proofs.Integrity

open Sys2Proof Sys2Proof.Machine Sys2Proof.Machine.Reg
open Sys2Proof.Proofs.Scope (committed_answer)
open Sys2Proof.Proofs.FabricBlocks (exec_viaWrite_pass)

/-! ## A checker's slot (R101 to R104) -/

section Checker

variable {s : State} {d c : Nat}

/-- A checker of a die that is not admitted, or whose common frames are not loaded, does not run. -/
theorem exec_checkerSlot_stopped (h : dieAdmitted s d = false ∨ s.integ.common.contains d = false) :
    exec (.checkerSlot d c) s = .next s := by
  have hwait : !dieAdmitted s d ∨ !s.integ.common.contains d ∨ s.linesHeld d c := by
    rcases h with h | h
    · exact Or.inl (by rw [h]; rfl)
    · exact Or.inr (Or.inl (by rw [h]; rfl))
  have hnot : ¬ (dieAdmitted s d = true ∧ s.integ.common.contains d = true) := by
    rintro ⟨ha, hc⟩
    rcases h with h | h
    · exact Bool.false_ne_true (h.symm.trans ha)
    · exact Bool.false_ne_true (h.symm.trans hc)
  exact congrArg Host.Outcome.next ((if_pos hwait).trans (if_neg hnot))

section Running

variable (ha : dieAdmitted s d = true) (hc : s.integ.common.contains d = true)

include ha hc

theorem exec_checkerSlot_linesHeld (hl : s.linesHeld d c = true) :
    exec (.checkerSlot d c) s = .next (s.arbAsk (.readback (8 * d + c / 8)) ⟨c % 8, 0, 0, 0⟩) :=
  congrArg Host.Outcome.next ((if_pos (Or.inr (Or.inr hl))).trans (if_pos ⟨ha, hc⟩))

/-- With the readback lines free, the frame of the checker's place decides whether it asks for them. -/
theorem exec_checkerSlot_linesFree (hl : s.linesHeld d c = false) : exec (.checkerSlot d c) s = .next (
    let i := checkerFrame d c (s.sweepSlot d c)
    let t := s.arbAsk (.readback (8 * d + c / 8)) ⟨c % 8, 0, 0, 0⟩
    if s.checkerSkips i then s.slotPass d c (s.sweepSlot d c)
    else if t.arbOwns (.readback (8 * d + c / 8)) (c % 8)
      then ((t.checkFrame i).slotPass d c (s.sweepSlot d c)).arbBeat (.readback (8 * d + c / 8)) false
    else t) := by
  have hruns : ¬ (!dieAdmitted s d ∨ !s.integ.common.contains d ∨ s.linesHeld d c) := by
    rw [ha, hc, hl]
    decide
  exact congrArg Host.Outcome.next (if_neg hruns)

end Running

end Checker

/-! ## What follows a finding (R106, R109, R110) -/

section Finding

variable {s : State} {i : Nat}

theorem onOutcome_single_corrected {b : Nat} (h : (s.mapRead i).eff CFG_INTEG_CTRL_CORRECT = 1) :
    s.onOutcome i (.single b) =
      ((s.mapRead i).reframe i (s.frame i ^^^ 2 ^ b)).recheck i ((s.mapRead i).bitClass i b) 0 b := if_pos h

theorem onOutcome_single_reported {b : Nat} (h : (s.mapRead i).eff CFG_INTEG_CTRL_CORRECT ≠ 1) :
    s.onOutcome i (.single b) = (s.mapRead i).upsetReload i ((s.mapRead i).frameClass i) := if_neg h

/-- A frame that reads CLEAN again is repaired; only a reload (KIND 1) also ends a STUCK finding. -/
theorem recheck_clean (cls kind bit : Nat) (h : frameOutcome i (s.frame i) = .clean) : s.recheck i cls kind bit =
    (if kind = 1 then s.updInteg fun x => { x with stuck := x.stuck.filter (· ≠ i) } else s).upsetFixed i cls kind bit :=
  if_pos h

theorem recheck_notClean (cls kind bit : Nat) (h : frameOutcome i (s.frame i) ≠ .clean) :
    s.recheck i cls kind bit = s.upsetStuck i cls := if_neg h

theorem upsetStuck_again (cls : Nat) (h : s.integ.stuck.contains i = true) : s.upsetStuck i cls = s := if_pos h

theorem upsetStuck_new (cls : Nat) (h : s.integ.stuck.contains i = false) : s.upsetStuck i cls =
    (((s.upsetLog i cls 3 0xFFF).count CFG_INTEG_STATUS_STUCK 1).updInteg fun x => { x with stuck := i :: x.stuck }).raise
      .CFG_UPSET_STUCK true (((s.upsetLog i cls 3 0xFFF).count CFG_INTEG_STATUS_STUCK 1).frameLease i) (frameInst i) :=
  if_neg (ne_true_of_eq_false h)

theorem upsetReload_off (cls : Nat) (h : s.eff CFG_INTEG_CTRL_RELOAD ≠ 1) : s.upsetReload i cls = s.upsetStuck i cls :=
  if_neg h

theorem exec_configurationUpset {far b : Nat} (hf : farIndex far = some i) (hb : b < 3200) :
    exec (.configurationUpset far b) s = .next (s.reframe i (s.frame i ^^^ 2 ^ b)) := by
  show execConfigurationUpset far b s = _
  simp only [execConfigurationUpset, hf, if_pos hb]

end Finding

/-- Settles O25: a slot by what lets the checker read, a finding by its outcome, a repair by what the frame reads again. -/
theorem configurationCheckingCommands : Obligations.ConfigurationCheckingCommands := by
  unfold Obligations.ConfigurationCheckingCommands
  refine ⟨?skipped, ?granted, ?refused, fun s d c h => exec_checkerSlot_stopped h,
    fun s d c ha hc hl => exec_checkerSlot_linesHeld ha hc hl, fun s i => rfl, ?checkWord,
    fun s i b h => onOutcome_single_corrected h, fun s i v => rfl, ?repaired, ?reloaded,
    fun s i cls kind bit h => recheck_notClean cls kind bit h, fun s i b h => onOutcome_single_reported h, fun s i => rfl,
    ?stuck, fun s i cls h => upsetStuck_again cls h, fun s far b i hf hb => exec_configurationUpset hf hb⟩
  case skipped =>
    intro s d c ha hc hl hs
    rw [exec_checkerSlot_linesFree ha hc hl]
    exact congrArg Host.Outcome.next (if_pos hs)
  case granted =>
    rintro s d c t ha hc hl hs rfl ho
    rw [exec_checkerSlot_linesFree ha hc hl]
    exact congrArg Host.Outcome.next ((if_neg (ne_true_of_eq_false hs)).trans (if_pos ho))
  case refused =>
    rintro s d c t ha hc hl hs rfl ho
    rw [exec_checkerSlot_linesFree ha hc hl]
    exact congrArg Host.Outcome.next ((if_neg (ne_true_of_eq_false hs)).trans (if_neg (ne_true_of_eq_false ho)))
  case checkWord =>
    rintro s i t rfl
    rfl
  case repaired =>
    intro s i cls kind bit h hk
    rw [recheck_clean cls kind bit h, if_neg hk]
  case reloaded =>
    intro s i cls bit h
    rw [recheck_clean cls 1 bit h, if_pos rfl]
  case stuck =>
    intro s i cls hr hs
    rw [upsetReload_off cls hr, upsetStuck_new cls hs]

/-! ## The golden store (R111) -/

section Golden

variable {s : State} {m : Master} {d r : Nat}

theorem exec_goldEnSet (hg : s.gate m CFG_INTEG_CTRL = .pass) :
    exec (.goldEnSet m) s = .next ((s.answer (.ok 0)).goldEnWrite m 1) := exec_viaWrite_pass (·.goldEnWrite m 1) rfl hg

theorem goldEnWrite_committed (v : Nat) (h : s.committed = true) :
    s.goldEnWrite m v = s.dropWrite m .bootLocked CFG_INTEG_CTRL := if_pos h

theorem goldEnWrite_unchanged {v : Nat} (h : s.committed = false) (hv : s.f CFG_INTEG_CTRL_GOLD_EN = v) :
    s.goldEnWrite m v = s := (if_neg (ne_true_of_eq_false h)).trans (if_pos hv.symm)

theorem goldEnWrite_sets (h : s.committed = false) (hv : s.f CFG_INTEG_CTRL_GOLD_EN = 0) :
    s.goldEnWrite m 1 = s.goldEnable :=
  (if_neg (ne_true_of_eq_false h)).trans ((if_neg (by rw [hv]; decide)).trans (if_pos rfl))

/-- A die's fill whose frames are all CLEAN stores each of them. -/
theorem exec_goldDieFillEnd_clean (hen : s.bit CFG_INTEG_CTRL_GOLD_EN = true) (ha : dieAdmitted s d = true)
    (hb : s.integ.fillBad.contains d = false) (hv : s.f CFG_INTEG_STATUS_GOLD_DIE / 2 ^ d % 2 = 0)
    (hst : s.hubStatus (s.goldAddr (commonBase d)) 6553600 = stOk)
    (hclean : (s.listedFrames (commonBase d) 16384).all (fun e => decide (frameOutcome e.1 e.2 = .clean)) = true) :
    exec (.goldDieFillEnd d) s = .next (
      let a := s.goldAddr (commonBase d)
      let t := (s.hubWake a 6553600).drainRange a 6553600
      let t := { t with mem := t.mem.filter fun e => decide (e.1 < a ∨ a + 6553600 ≤ e.1) }
      let t := (s.listedFrames (commonBase d) 16384).foldl (fun t e => t.setBytes (t.goldAddr e.1) (frameBytes e.2)) t
      t.setF CFG_INTEG_STATUS_GOLD_DIE (setBitN (t.f CFG_INTEG_STATUS_GOLD_DIE) d true)) := by
  have hfills : ¬ (!s.bit CFG_INTEG_CTRL_GOLD_EN ∨ !dieAdmitted s d ∨ s.integ.fillBad.contains d
      ∨ s.f CFG_INTEG_STATUS_GOLD_DIE / 2 ^ d % 2 = 1) := by
    rw [hen, ha, hb, hv]
    decide
  have hall : (s.listedFrames (commonBase d) 16384).filter (fun e => decide (frameOutcome e.1 e.2 = .clean)) =
      s.listedFrames (commonBase d) 16384 := List.filter_eq_self.mpr (List.all_eq_true.mp hclean)
  show execGoldDieFillEnd d s = _
  simp only [execGoldDieFillEnd, if_neg hfills, if_neg (not_not_intro hst), hall, if_true]

/-- The copy of a loaded region ends: what its load did not write is blank in the store. -/
theorem exec_goldValidSet_loaded {w : Nat} {l : List Nat} (hw : SMap.get (fun _ => []) s.integ.goldWrote r = w :: l)
    (hen : s.bit CFG_INTEG_CTRL_GOLD_EN = true) (hst : s.hubStatus (s.goldAddr (rgnBase r)) 13926400 = stOk) :
    exec (.goldValidSet r) s = .next (
      let a := s.goldAddr (rgnBase r)
      let t := (s.hubWake a 13926400).drainRange a 13926400
      let t := { t with
        mem := t.mem.filter fun e => decide (e.1 < a ∨ a + 13926400 ≤ e.1) || (w :: l).contains (rgnBase r + (e.1 - a) / 400) }
      (t.updInteg fun x => { x with goldWrote := SMap.erase x.goldWrote r }).setGoldValid r true) := by
  have hcopies : ¬ (!s.bit CFG_INTEG_CTRL_GOLD_EN ∨ s.hubStatus (s.goldAddr (rgnBase r)) 13926400 ≠ stOk) := by
    rw [hen, hst]
    decide
  show execGoldValidSet r s = _
  simp only [execGoldValidSet, hw, if_neg hcopies]

end Golden

/-! ## The late sweep and the upset log (R104, R112) -/

section Log

variable {s : State} {d : Nat}

/-- Bit d of SWEEP_LATE is set. -/
def sweepLate (s : State) (d : Nat) : State :=
  s.setF CFG_INTEG_STATUS_SWEEP_LATE (setBitN (s.f CFG_INTEG_STATUS_SWEEP_LATE) d true)

/-- The event follows unless one was raised in the last 1 ms; `late` holds the cycle after that event, and 0 before the first. -/
theorem exec_sweepLateTimer_admitted (ha : dieAdmitted s d = true) : exec (.sweepLateTimer d) s = .next (
    if nget s.integ.late d ≠ 0 ∧ s.nocTime + 1 ≤ nget s.integ.late d + 2000000 then sweepLate s d
    else ((sweepLate s d).updInteg fun x => { x with late := nput x.late d (s.nocTime + 1) }).raise .CFG_SWEEP_LATE false 0 d) :=
  congrArg Host.Outcome.next (if_neg (by rw [ha]; decide))

theorem exec_upsetInfoRead : exec .upsetInfoRead s = .next (s.upsetPop.answer (.ok s.upsetInfo)) := rfl

theorem upsetPop_oldest {e : UpsetEnt} {l : List UpsetEnt} (h : s.integ.log = e :: l) :
    s.upsetPop = (s.updInteg fun x => { x with log := l, lost := false }).upsetShow := by
  simp only [State.upsetPop, h]

theorem upsetPop_empty (h : s.integ.log = []) : s.upsetPop = (s.updInteg fun x => { x with lost := false }).upsetShow := by
  simp only [State.upsetPop, h]

end Log

/-- Settles O26: GOLD_EN by the commit and its value, a fill by its frames, the late timer by its last event, a read by the log. -/
theorem goldenStoreAndUpsetLogCommands : Obligations.GoldenStoreAndUpsetLogCommands := by
  unfold Obligations.GoldenStoreAndUpsetLogCommands
  refine ⟨?sets, ?locked, ?unchanged, fun s d hen ha hb hv hst hclean => exec_goldDieFillEnd_clean hen ha hb hv hst hclean,
    fun s r w l hw hen hst => exec_goldValidSet_loaded hw hen hst, ?late, ?lateAgain, ?oldest, ?empty⟩
  case sets =>
    intro s m hg hv hc
    rw [exec_goldEnSet hg, goldEnWrite_sets (by rwa [committed_answer]) (by rwa [State.f_answer])]
  case locked =>
    intro s m hg hc
    rw [exec_goldEnSet hg, goldEnWrite_committed 1 (by rwa [committed_answer])]
  case unchanged =>
    intro s m hg hv hc
    rw [exec_goldEnSet hg, goldEnWrite_unchanged (by rwa [committed_answer]) (by rwa [State.f_answer])]
  case late =>
    intro s d ha h
    rw [exec_sweepLateTimer_admitted ha, if_neg (by omega)]
    rfl
  case lateAgain =>
    intro s d ha h0 h1
    rw [exec_sweepLateTimer_admitted ha, if_pos ⟨h0, h1⟩]
    rfl
  case oldest =>
    intro s e l h
    rw [exec_upsetInfoRead, upsetPop_oldest h]
    rfl
  case empty =>
    intro s h
    rw [exec_upsetInfoRead, upsetPop_empty h]

/-! ## The capture engine's OP (R113, R124 to R126) -/

section Op

variable {s : State} {m : Master} {c : Instr} {op : Nat}

theorem capBusy_answer (s : State) (r : Resp) : (s.answer r).capBusy = s.capBusy := rfl
theorem arb_answer (s : State) (r : Resp) (a : ArbId) : (s.answer r).arb a = s.arb a := rfl

section Write

variable (hc : exec c s = .next (s.viaWrite m CFG_CAP_CTRL (·.capOp op))) (hg : s.gate m CFG_CAP_CTRL = .pass)
  (hop : ¬ (op = 0 ∨ 6 ≤ op))

include hc hg hop

/-- A write of an operation on an idle engine requests it. -/
theorem exec_capOp_asks (hb : s.capBusy = false) (hf : (s.arb .capture).fenced.contains 0 = false) :
    exec c s = .next (((((s.answer (.ok 0)).updCap fun c => { c with wait := some op }).setF CFG_CAP_STATUS_BUSY 1).arbAsk
      .capture ⟨0, 0, 0, 0⟩).capServe) := by
  rw [exec_viaWrite_pass (·.capOp op) hc hg, State.capOp, if_neg hop, if_neg (by rw [capBusy_answer, hb]; decide),
    if_neg (by rw [arb_answer, hf]; decide)]

theorem exec_capOp_fenced (hb : s.capBusy = false) (hf : (s.arb .capture).fenced.contains 0 = true) :
    exec c s = .next (s.answer (.ok stFenced)) := by
  rw [exec_viaWrite_pass (·.capOp op) hc hg, State.capOp, if_neg hop, if_neg (by rw [capBusy_answer, hb]; decide),
    if_pos (by rw [arb_answer, hf])]
  rfl

theorem exec_capOp_busy (hb : s.capBusy = true) :
    exec c s = .next ((s.answer (.ok 0)).setF CFG_CAP_STATUS_FIELD_BUSY 1) := by
  rw [exec_viaWrite_pass (·.capOp op) hc hg, State.capOp, if_neg hop, if_pos (by rw [capBusy_answer, hb])]
  rfl

end Write

theorem capServe_granted (hw : s.cap.wait = some op) (h0 : s.cap.op = 0) (ho : s.arbOwns .capture 0 = true) :
    s.capServe = (s.updCap fun c => { c with wait := none }).capStart op := by
  simp only [State.capServe, hw, if_pos (And.intro h0 ho)]

theorem capServe_waits (h : s.cap.wait = none ∨ s.cap.op ≠ 0 ∨ s.arbOwns .capture 0 = false) : s.capServe = s := by
  cases hw : s.cap.wait with
  | none => simp only [State.capServe, hw]
  | some op =>
    have hnot : ¬ (s.cap.op = 0 ∧ s.arbOwns .capture 0 = true) := by
      rintro ⟨h0, ho⟩
      simp [hw, h0, ho] at h
    simp only [State.capServe, hw, if_neg hnot]

/-- The engine shows a new operation: no error yet, and BUSY. -/
def capShown (s : State) : State := s.setFs [(CFG_CAP_STATUS_ERR, 0), (CFG_CAP_STATUS_BUSY, 1)]

/-- LIVE and PAUSED begin when the mask names regions, and all of them are ACTIVE and none is of the pair. -/
theorem capStart_captures (hop : op = 1 ∨ op = 2) (hm : (capShown s).capMask ≠ [])
    (hr : ((capShown s).capMask.any fun r => (capShown s).pairRegion r || decide ((capShown s).rState r ≠ 2)) = false) :
    s.capStart op =
      (capShown s).capBegin op (capShown s).capMask ((capShown s).bit CFG_CAP_CTRL_QUIESCE) false := by
  have hnames : ¬ (capShown s).capMask.isEmpty = true := by rwa [List.isEmpty_iff]
  rcases hop with rfl | rfl
  · exact (if_neg hnames).trans (if_neg (ne_true_of_eq_false hr))
  · exact (if_neg hnames).trans (if_neg (ne_true_of_eq_false hr))

end Op

/-! ## The ends of an operation (R117, R121 to R123) -/

section End

variable {s : State}

/-- The ciphertext of a record, and the tag that it carries; both follow the header of 128 bytes (R122). -/
def recordCipher (b : List Byte) : List Nat :=
  Crypto.nums ((b.drop 128).take (leNat (((b.take 128).drop 0x14).take 4)))

def recordTag (b : List Byte) : List Nat :=
  Crypto.nums ((b.drop (128 + leNat (((b.take 128).drop 0x14).take 4))).take 16)

/-- An import whose key is still there judges the form of the record, then its tag (R125). -/
theorem exec_capImportEnd_keyed {r : Nat} {k : List Nat} (h : s.cap.op = 4) (hr : s.cap.regions = [r])
    (hk : s.bkey (s.f CFG_CAP_CTRL_KEY) = some k) : exec .capImportEnd s = .next (
      if !capFormatOk s.cap.buf then s.capEnd 0x07
      else if Crypto.gcmTag k (capIv (s.cap.buf.take 128)) (Crypto.nums (s.cap.buf.take 128)) (recordCipher s.cap.buf) =
          recordTag s.cap.buf
        then (s.setImage r (s.cap.buf.take 128)
          (Crypto.bytesOf (Crypto.ctr k (capIv (s.cap.buf.take 128)) 2 (recordCipher s.cap.buf)))).capEnd 0
      else s.capEnd 0x08) := by
  show execCapImportEnd s = _
  simp only [execCapImportEnd, if_pos h, hr, hk]
  rfl

theorem exec_capQuiesceEnd_answered (hp : s.cap.phase = 1) (h : s.cap.op = 1 ∨ s.cap.op = 2 ∨ s.cap.op = 5)
    (hd : s.cap.regions.any s.napDue = false) : exec .capQuiesceEnd s = .next s.capProceed.capServe :=
  congrArg Host.Outcome.next (if_pos ⟨hp, h, by rw [hd]; rfl⟩)

theorem exec_capQlimExpire_capture (hp : s.cap.phase = 1) (h : s.cap.op = 1 ∨ s.cap.op = 2) :
    exec .capQlimExpire s = .next ((s.updCap fun c => { c with inflight := true }).capProceed.capServe) :=
  congrArg Host.Outcome.next (if_pos ⟨hp, h⟩)

/-- An inject does not go on with requests under way (R121). -/
theorem exec_capQlimExpire_inject (hp : s.cap.phase = 1) (h : s.cap.op = 5) :
    exec .capQlimExpire s = .next (s.capEnd 0x05).capServe :=
  congrArg Host.Outcome.next ((if_neg (by rw [h]; omega)).trans (if_pos ⟨hp, h⟩))

theorem exec_capIvhiWrite {m : Master} (v : Nat) (hg : s.gate m CFG_CAP_IVHI = .pass) :
    exec (.capIvhiWrite m v) s = .next ((s.answer (.ok 0)).ivhiWrite v) := exec_viaWrite_pass (·.ivhiWrite v) rfl hg

theorem ivhiWrite_idle (v : Nat) (h : s.capBusy = false) :
    s.ivhiWrite v = (s.setF CFG_CAP_IVHI_IVHI v).updCap fun c => { c with count := 0 } := if_neg (ne_true_of_eq_false h)

end End

/-- Settles O27: OP by what the engine and its arbiter do, and each end of an operation by the operation and its phase. -/
theorem captureCommands : Obligations.CaptureCommands := by
  unfold Obligations.CaptureCommands
  refine ⟨fun s m hg hb hf => exec_capOp_asks rfl hg (by decide) hb hf,
    fun s m hg hb hf => exec_capOp_fenced (op := 1) rfl hg (by decide) hb hf,
    fun s m hg hb => exec_capOp_busy (op := 1) rfl hg (by decide) hb,
    fun s m hg hb hf => exec_capOp_asks rfl hg (by decide) hb hf,
    fun s m hg hb hf => exec_capOp_fenced (op := 2) rfl hg (by decide) hb hf,
    fun s m hg hb => exec_capOp_busy (op := 2) rfl hg (by decide) hb,
    fun s m hg hb hf => exec_capOp_asks rfl hg (by decide) hb hf,
    fun s m hg hb hf => exec_capOp_fenced (op := 3) rfl hg (by decide) hb hf,
    fun s m hg hb => exec_capOp_busy (op := 3) rfl hg (by decide) hb,
    fun s m hg hb hf => exec_capOp_asks rfl hg (by decide) hb hf,
    fun s m hg hb hf => exec_capOp_fenced (op := 4) rfl hg (by decide) hb hf,
    fun s m hg hb => exec_capOp_busy (op := 4) rfl hg (by decide) hb,
    fun s m hg hb hf => exec_capOp_asks rfl hg (by decide) hb hf,
    fun s m hg hb hf => exec_capOp_fenced (op := 5) rfl hg (by decide) hb hf,
    fun s m hg hb => exec_capOp_busy (op := 5) rfl hg (by decide) hb,
    fun s op hw h0 ho => capServe_granted hw h0 ho, fun s h => capServe_waits h, ?starts, ?liveEnd, ?liveIgnored,
    fun s h => congrArg Host.Outcome.next (if_pos h), ?badForm, ?badTag, ?imported,
    fun s hp h hd => exec_capQuiesceEnd_answered hp h hd, fun s hp h => exec_capQlimExpire_capture hp h,
    fun s hp h => exec_capQlimExpire_inject hp h, ?ivhi⟩
  case starts =>
    rintro s t op hop rfl hm hr
    exact capStart_captures hop hm hr
  case liveEnd =>
    rintro s delta l h hp rfl
    exact congrArg Host.Outcome.next (if_pos ⟨h, hp⟩)
  case liveIgnored =>
    intro s delta h
    exact congrArg Host.Outcome.next (if_neg fun ⟨hop, hp⟩ => h.elim (· hop) (· hp))
  case badForm =>
    intro s r k h hr hk hform
    rw [exec_capImportEnd_keyed h hr hk, if_pos (by rw [hform]; rfl)]
  case badTag =>
    intro s r k h hr hk hform htag
    rw [exec_capImportEnd_keyed h hr hk, if_neg (by rw [hform]; decide)]
    exact congrArg Host.Outcome.next (if_neg htag)
  case imported =>
    intro s r k h hr hk hform htag
    rw [exec_capImportEnd_keyed h hr hk, if_neg (by rw [hform]; decide)]
    exact congrArg Host.Outcome.next (if_pos htag)
  case ivhi =>
    intro s m v hg hb
    rw [exec_capIvhiWrite v hg, ivhiWrite_idle v (by rwa [capBusy_answer])]

end Sys2Proof.Proofs.Integrity
end

section
/-! The hub and its tethers (05_hub_and_tethers.md): the commands of a bundle, its heartbeats and training, the routes, and the
isolation and admission of a die. -/

namespace Sys2Proof.Proofs.Tethers

open Sys2Proof Sys2Proof.Machine Sys2Proof.Machine.Reg
open Sys2Proof.Proofs.FabricBlocks (exec_viaWrite_pass)
open Sys2Proof.Proofs.Integrity (arb_answer)

/-! ## States of bundles and dies behind an answer -/

theorem bState_answer (s : State) (r : Resp) (d b : Nat) : (s.answer r).bState d b = s.bState d b := rfl
theorem dieState_answer (s : State) (r : Resp) (d : Nat) : (s.answer r).dieState d = s.dieState d := rfl
theorem dieIsolated_answer (s : State) (r : Resp) (d : Nat) : dieIsolated (s.answer r) d = dieIsolated s d := rfl

theorem dieIsolated_eq_false {s : State} {d : Nat} (h : s.dieState d ≠ 3) : dieIsolated s d = false := decide_eq_false h

/-! ## The commands of a bundle (R142, R143, R145, R151) -/

section Bundle

variable {s t : State} {m : Master} {c : Instr} {d b wire force cmd : Nat}

section Write

variable (hc : exec c s = .next (s.viaWrite m (CMX_B_CTRL d b) (·.bundleCtrl d b wire force cmd)))
  (hg : s.gate m (CMX_B_CTRL d b) = .pass)

include hc hg

/-- A bundle in TRAIN takes no field of the write (R151). -/
theorem exec_bundleCtrl_training (ht : s.bState d b = 1) :
    exec c s = .next ((s.answer (.ok 0)).setF (CMX_B_STATUS_FIELD_BUSY d b) 1) := by
  rw [exec_viaWrite_pass (·.bundleCtrl d b wire force cmd) hc hg, State.bundleCtrl, if_pos (by rwa [bState_answer])]
  rfl

/-- In another state the command acts behind the fields. -/
theorem exec_bundleCtrl_taken (ht : s.bState d b ≠ 1)
    (h : ((s.answer (.ok 0)).setFs [(CMX_B_CTRL_WIRE d b, wire), (CMX_B_CTRL_FORCE d b, force)]).bundleCmd d b cmd = t) :
    exec c s = .next t := by
  rw [exec_viaWrite_pass (·.bundleCtrl d b wire force cmd) hc hg, State.bundleCtrl, if_neg (by rwa [bState_answer]), h]

end Write

theorem reelIn_notLive (hs : s.bState d b ≠ 3) : s.bundleCmd d b 1 = s.setF (CMX_B_STATUS_CMD_ERR d b) 2 := if_pos hs

theorem reelIn_used (hs : s.bState d b = 3) (hu : (decide (s.f (CMX_B_CTRL_FORCE d b) = 0) && s.bundleUsed d b) = true) :
    s.bundleCmd d b 1 = s.setF (CMX_B_STATUS_CMD_ERR d b) 1 := (if_neg (not_not_intro hs)).trans (if_pos hu)

theorem reelIn_unused (hs : s.bState d b = 3) (hu : (decide (s.f (CMX_B_CTRL_FORCE d b) = 0) && s.bundleUsed d b) = false) :
    s.bundleCmd d b 1 = (s.dropSteers d b).setBundle d b 2 :=
  (if_neg (not_not_intro hs)).trans (if_neg (ne_true_of_eq_false hu))

theorem payOut_notReeled (hs : s.bState d b ≠ 2) : s.bundleCmd d b 2 = s.setF (CMX_B_STATUS_CMD_ERR d b) 2 := if_pos hs

theorem payOut_reeled (hs : s.bState d b = 2) : s.bundleCmd d b 2 = s.trainStart d b := if_neg (not_not_intro hs)

theorem retrain_otherState (hs : s.bState d b ≠ 2 ∧ s.bState d b ≠ 3) :
    s.bundleCmd d b 3 = s.setF (CMX_B_STATUS_CMD_ERR d b) 2 := if_pos hs

theorem retrain_unused (hs : s.bState d b = 2 ∨ s.bState d b = 3)
    (hu : (decide (s.f (CMX_B_CTRL_FORCE d b) = 0) && s.bundleUsed d b) = false) : s.bundleCmd d b 3 = s.trainStart d b :=
  (if_neg fun h => hs.elim h.1 h.2).trans (if_neg (ne_true_of_eq_false hu))

theorem maintRetrain_otherState (hs : s.bState d b ≠ 2 ∧ s.bState d b ≠ 5) :
    s.bundleCmd d b 4 = s.setF (CMX_B_STATUS_CMD_ERR d b) 2 := if_pos hs

theorem maintRetrain_notFree (hs : s.bState d b = 2 ∨ s.bState d b = 5)
    (hu : s.rState (bundleRegion d b) ≠ 0 ∨ s.validRoutes.any (s.xrNames d b) = true) :
    s.bundleCmd d b 4 = s.setF (CMX_B_STATUS_CMD_ERR d b) 3 := (if_neg fun h => hs.elim h.1 h.2).trans (if_pos hu)

theorem maintRetrain_free (hs : s.bState d b = 2 ∨ s.bState d b = 5) (hr : s.rState (bundleRegion d b) = 0)
    (hx : s.validRoutes.any (s.xrNames d b) = false) : s.bundleCmd d b 4 =
      (((s.dropSteers d b).clearRecord d b).setF (CMX_B_STATUS_ATTEMPTS d b) 0).trainStart d b :=
  (if_neg fun h => hs.elim h.1 h.2).trans (if_neg fun h => h.elim (· hr) (ne_true_of_eq_false hx))

theorem markBad_otherState (hs : s.bState d b ≠ 0 ∧ s.bState d b ≠ 2) :
    s.bundleCmd d b 5 = s.setF (CMX_B_STATUS_CMD_ERR d b) 2 := if_pos hs

theorem markBad_physicalWire (hs : s.bState d b = 0 ∨ s.bState d b = 2) (hw : s.f (CMX_B_CTRL_WIRE d b) < 2112) :
    s.bundleCmd d b 5 = s.updBundle d b fun x => { x with marked := sortUp (s.f (CMX_B_CTRL_WIRE d b) :: x.marked) } :=
  (if_neg fun h => hs.elim h.1 h.2).trans (if_pos hw)

end Bundle

/-- Settles O28: TRAIN refuses the write; behind its fields the bundle's state and use decide each command. -/
theorem bundleCommands : Obligations.BundleCommands := by
  unfold Obligations.BundleCommands
  exact ⟨fun s m d b wire force hg ht hs hu => exec_bundleCtrl_taken rfl hg ht (reelIn_unused hs hu),
    fun s m d b wire force hg ht hs => exec_bundleCtrl_taken rfl hg ht (payOut_reeled hs),
    fun s m d b wire force hg ht hs hu => exec_bundleCtrl_taken rfl hg ht (retrain_unused (.inr hs) hu),
    fun s m d b wire force hg ht hs hu => exec_bundleCtrl_taken rfl hg ht (retrain_unused (.inl hs) hu),
    fun s m d b wire force hg ht hs => exec_bundleCtrl_taken rfl hg ht (reelIn_notLive hs),
    fun s m d b wire force hg ht hs => exec_bundleCtrl_taken rfl hg ht (payOut_notReeled hs),
    fun s m d b wire force hg ht hs => exec_bundleCtrl_taken rfl hg ht (retrain_otherState hs),
    fun s m d b wire force hg ht hs => exec_bundleCtrl_taken rfl hg ht (maintRetrain_otherState hs),
    fun s m d b wire force hg ht hs => exec_bundleCtrl_taken rfl hg ht (markBad_otherState hs),
    fun s m d b wire force hg ht hs hu => exec_bundleCtrl_taken rfl hg ht (reelIn_used hs hu),
    fun s m d b wire force hg ht hs hr hx => exec_bundleCtrl_taken rfl hg ht (maintRetrain_free hs hr hx),
    fun s m d b wire force hg ht hs hu => exec_bundleCtrl_taken rfl hg ht (maintRetrain_notFree hs hu),
    fun s m d b wire force hg ht hs hw => exec_bundleCtrl_taken rfl hg ht (markBad_physicalWire hs hw),
    fun s m d b wire force hg ht => exec_bundleCtrl_training rfl hg ht,
    fun s m d b wire force hg ht => exec_bundleCtrl_training rfl hg ht,
    fun s m d b wire force hg ht => exec_bundleCtrl_training rfl hg ht,
    fun s m d b wire force hg ht => exec_bundleCtrl_training rfl hg ht,
    fun s m d b wire force hg ht => exec_bundleCtrl_training rfl hg ht⟩

/-! ## Heartbeats (R137 to R139, R149) -/

section Heartbeat

variable {s : State} {d b : Nat} {f : HbFrame}

/-- What makes a frame valid (R137, R147, R149). -/
theorem beatOk_iff : s.beatOk d b f = true ↔ lineOk (flipLine (s.dieFrame d b f).line f.flips) = true ∧
    s.pllState (115 + d) ≠ 3 ∧ s.cmx.resets.contains d = false ∧ (s.bState d b ≠ 0 ∧ s.bState d b ≠ 5) ∧
    (s.bState d b = 1 ∨ f.seq = (s.bundleAt d b).seq) := by
  simp only [State.beatOk, Bool.and_eq_true, Bool.or_eq_true, Bool.not_eq_true', decide_eq_true_eq, and_assoc]

/-- A valid frame takes the directions it reports and clears the misses. -/
def frameHeard (s : State) (d b : Nat) (f : HbFrame) : State :=
  (s.dirsHeard d b).updBundle d b fun x =>
    { x with seq := (f.seq + 1) % 65536, misses := 0, lastOk := (s.dirsHeard d b).cmx.period + 1, rxbad := f.mismatches.take 16 }

theorem heartFrame_invalid (h : s.beatOk d b f = false) : s.heartFrame d b f = s := if_pos (by rw [h]; rfl)

theorem heartFrame_up (h : s.beatOk d b f = true) (hs : s.bState d b = 3 ∨ s.bState d b = 4) : s.heartFrame d b f =
    let t := if s.bState d b = 4 then (frameHeard s d b f).updBundle d b fun x => { x with back := true } else frameHeard s d b f
    let t := (sortUp (f.mismatches ++ f.rxbad)).foldl (fun t w => if w < 2112 then t.mismatch d b w else t) t
    if (t.bundleAt d b).narrow ∧ (t.bundleAt d b).steer.isEmpty then t.trainStart d b else t :=
  (if_neg (by rw [h]; decide)).trans (if_pos hs)

theorem heartFrame_training (h : s.beatOk d b f = true) (hs : s.bState d b = 1) :
    s.heartFrame d b f = (frameHeard s d b f).agreeStep d b (decide (f.hash = s.recHash d b)) :=
  (if_neg (by rw [h]; decide)).trans ((if_neg (by rw [hs]; decide)).trans (if_pos hs))

theorem heartMiss_up (h : s.beats d b = true) (hs : s.bState d b ≠ 1) : s.heartMiss d b =
    let t := (s.count (CMX_B_ERR_HB_MISS d b) 1).updBundle d b fun x =>
      { x with misses := x.misses + 1, seq := (x.seq + 1) % 65536, back := false }
    let t := if s.bState d b = 3 then t.setBundle d b 4 else t
    if (t.bundleAt d b).misses < 10 then t else if t.otherBeats d b then t.trainStart d b else t.dieIsolate d 1 :=
  (if_neg (by rw [h]; decide)).trans (if_neg hs)

theorem heartMiss_training (h : s.beats d b = true) (hs : s.bState d b = 1) :
    s.heartMiss d b = (s.count (CMX_B_ERR_HB_MISS d b) 1).agreeStep d b false :=
  (if_neg (by rw [h]; decide)).trans (if_pos hs)

end Heartbeat

/-! ## Training (R144, R146 to R148) -/

section Training

variable {s : State} {d b : Nat}

/-- A failed attempt is counted; the count stays at 3. -/
def attemptCounted (s : State) (d b : Nat) : State :=
  s.setF (CMX_B_STATUS_ATTEMPTS d b) (min 3 (s.f (CMX_B_STATUS_ATTEMPTS d b) + 1))

theorem attemptFails_third (hs : s.bState d b = 1) (h : (attemptCounted s d b).f (CMX_B_STATUS_ATTEMPTS d b) = 3) :
    s.attemptFails d b = (attemptCounted s d b).bundleDisable d b :=
  (if_neg (not_not_intro hs)).trans (if_pos h)

theorem attemptFails_retries (hs : s.bState d b = 1) (h : (attemptCounted s d b).f (CMX_B_STATUS_ATTEMPTS d b) ≠ 3) :
    s.attemptFails d b =
      (((attemptCounted s d b).dropSteers d b).setBundle d b 2).updBundle d b fun x => { x with retry := true } :=
  (if_neg (not_not_intro hs)).trans (if_neg h)

theorem exec_trainStepOverrun (s : State) (d b : Nat) : exec (.trainStepOverrun d b) s = .next (s.attemptFails d b) := rfl

/-- AGREE_TIMEOUT is of a bundle that counts agreeing frames and has not seen ten. -/
theorem exec_agreeTimeout_counting (h : (s.bundleAt d b).agree.isNone = false ∧ (s.bundleAt d b).trained = false) :
    exec (.agreeTimeout d b) s = .next (s.attemptFails d b) :=
  congrArg Host.Outcome.next (if_neg fun hd => hd.elim (ne_true_of_eq_false h.1) (ne_true_of_eq_false h.2))

theorem agreeStep_counting {same : Bool} {n : Nat} (h : (s.bundleAt d b).agree = some n) :
    s.agreeStep d b same = s.updBundle d b fun x => { x with
      agree := some (if same then n + 1 else 0), trained := x.trained || decide (10 ≤ if same then n + 1 else 0) } := by
  simp only [State.agreeStep, h]

end Training

/-- Settles O29: a frame by its validity and the bundle's state, a miss by the state, an attempt by its number. -/
theorem heartbeatAndTrainingCommands : Obligations.HeartbeatAndTrainingCommands := by
  unfold Obligations.HeartbeatAndTrainingCommands
  refine ⟨fun s => rfl, fun s d b f h hs => congrArg Host.Outcome.next (heartFrame_up h hs),
    fun s d b f h hs => congrArg Host.Outcome.next (heartFrame_training h hs),
    fun s d b f h => congrArg Host.Outcome.next (heartFrame_invalid h), ?invalid, ?missed,
    fun s d b h hs => congrArg Host.Outcome.next (heartMiss_training h hs),
    fun s d b hs h => congrArg Host.Outcome.next (attemptFails_retries hs h),
    fun s d b hs h => congrArg Host.Outcome.next (attemptFails_third hs h),
    fun s d b hc hs h => (exec_agreeTimeout_counting hc).trans (congrArg Host.Outcome.next (attemptFails_retries hs h)),
    fun s d b hc hs h => (exec_agreeTimeout_counting hc).trans (congrArg Host.Outcome.next (attemptFails_third hs h)),
    fun s d b hs hr => congrArg Host.Outcome.next (if_pos ⟨hs, hr⟩), ?trained, fun s d b same n h => agreeStep_counting h,
    fun s d b w => rfl, fun s k p inward j err again h => congrArg Host.Outcome.next (if_pos h),
    fun s k p inward j err again h => congrArg Host.Outcome.next (if_neg (ne_true_of_eq_false h))⟩
  case invalid =>
    intro s d b f h
    refine Bool.eq_false_iff.mpr fun hok => ?_
    obtain ⟨-, hpll, hreset, ⟨hdown, hdis⟩, hseq⟩ := beatOk_iff.mp hok
    rcases h with h | h | h | h | ⟨htrain, h⟩
    · exact hdown h
    · exact hdis h
    · exact ne_true_of_eq_false hreset h
    · exact hpll h
    · exact hseq.elim htrain h
  case missed =>
    intro s d b h hs
    exact congrArg Host.Outcome.next (heartMiss_up h (by omega))
  case trained =>
    intro s d b found seq hashes hs ha
    exact congrArg Host.Outcome.next (if_neg (by rw [ha, hs]; decide))

/-! ## Route writes (R131, R133) -/

section Route

variable {s : State} {m : Master} {d b p valid sd sb sp : Nat}

theorem exec_routeWrite (hg : s.gate m (CMX_XR d b p) = .pass) :
    exec (.routeWrite m d b p valid sd sb sp) s = .next ((s.answer (.ok 0)).routeWrite ⟨d, b, p, valid, sd, sb, sp⟩) :=
  exec_viaWrite_pass (·.routeWrite ⟨d, b, p, valid, sd, sb, sp⟩) rfl hg

theorem routeWrite_fenced {x : XrWrite} (h : (s.arb (.tether x.d)).fenced.contains 0 = true) :
    s.routeWrite x = s.answer (.ok stFenced) := if_pos h

theorem routeWrite_asks {x : XrWrite} (h : (s.arb (.tether x.d)).fenced.contains 0 = false) : s.routeWrite x =
    ((s.updCmx fun c => { c with xrq := c.xrq ++ [x] }).arbRequest (.tether x.d) [⟨0, 0, 0, 0⟩]).tetherGo x.d :=
  if_neg (ne_true_of_eq_false h)

theorem tetherServe_granted {n : Nat} {x : XrWrite} (ho : s.arbOwns (.tether d) 0 = true)
    (hx : s.cmx.xrq.find? (fun x => decide (x.d = d)) = some x) : State.tetherServe d (n + 1) s = State.tetherServe d n
      (((s.updCmx fun c => { c with xrq := c.xrq.erase x }).xrWrite x.d x.b x.p x.valid x.sd x.sb x.sp).arbBeat
        (.tether d) false) := by
  simp only [State.tetherServe, ho, hx]

/-- The code that decides a write: 0 where VALID is cleared, the checks' where it is set. -/
theorem xrWrite_waits (h : valid = 0 ∨ s.xrCheck d b p sd sb sp = 0) : s.xrWrite d b p valid sd sb sp =
    (((s.writeLive (CMX_XR_VALID d b p) valid).writeLive (CMX_XR_SRC_DIE d b p) sd).writeLive
      (CMX_XR_SRC_BUNDLE d b p) sb).writeLive (CMX_XR_SRC_POS d b p) sp := by
  have hcode : (if valid = 0 then 0 else s.xrCheck d b p sd sb sp) = 0 := by
    rcases h with h | h
    · exact if_pos h
    · rw [h, ite_self]
  exact if_neg (not_not_intro hcode)

theorem xrWrite_refused (hv : valid ≠ 0) (h : s.xrCheck d b p sd sb sp ≠ 0) :
    s.xrWrite d b p valid sd sb sp = s.setF (CMX_DIE_STATUS_XR_ERR d) (s.xrCheck d b p sd sb sp) := by
  have hcode : (if valid = 0 then 0 else s.xrCheck d b p sd sb sp) = s.xrCheck d b p sd sb sp := if_neg hv
  simp only [State.xrWrite, hcode, if_pos h]

end Route

/-! ## Isolation and admission (R149, R150, R152, R388, R389) -/

section Die

variable {s : State} {m : Master} {d cause : Nat} {idOk : Bool}

theorem exec_dieIsolate (hg : s.gate m (CMX_DIE_CTRL d) = .pass) :
    exec (.dieIsolate m d) s = .next ((s.answer (.ok 0)).dieIsolate d 2) := exec_viaWrite_pass (·.dieIsolate d 2) rfl hg

theorem exec_dieAdmit (hg : s.gate m (CMX_DIE_CTRL d) = .pass) :
    exec (.dieAdmit m d) s = .next ((s.answer (.ok 0)).dieAdmit d) := exec_viaWrite_pass (·.dieAdmit d) rfl hg

/-- What isolation takes from a die, before the events that tell of it (R149). -/
def dieCutOff (s : State) (d cause : Nat) : State :=
  let t := (s.bundlesDown d).setFs [(CMX_DIE_STATUS_STATE d, 3), (CMX_DIE_STATUS_CAUSE d, cause)]
  let t := (((t.regionsLost d).sensorsValid d false).dieClocksStop d).checkersStop d
  (State.sleepPins s (t.goldLoseDie d) (s.diePins d)).padNote

theorem dieIsolate_isolated (h : dieIsolated s d = true) : s.dieIsolate d cause = s := if_pos h

theorem dieIsolate_admitted (h : s.dieState d = 2) : s.dieIsolate d cause =
    ((dieCutOff s d cause).raise .DIE_LOST false 0 d).raiseLeases .REGION_LOST d (s.dieLeases d) := by
  have hin : ¬ dieIsolated s d = true := ne_true_of_eq_false (dieIsolated_eq_false (by rw [h]; decide))
  simp only [State.dieIsolate, if_neg hin, h, decide_true, if_true]
  rfl

/-- Nothing that a die which is not admitted carries is lost. -/
theorem dieIsolate_notAdmitted (h : s.dieState d = 0 ∨ s.dieState d = 1) : s.dieIsolate d cause = dieCutOff s d cause := by
  have hin : ¬ dieIsolated s d = true := ne_true_of_eq_false (dieIsolated_eq_false (by omega))
  have hout : decide (s.dieState d = 2) = false := decide_eq_false (by omega)
  simp only [State.dieIsolate, if_neg hin, hout, Bool.false_eq_true, if_false]
  rfl

theorem dieAdmit_idle (h : s.dieState d = 0 ∨ s.dieState d = 3) : s.dieAdmit d = s.admitStart d := if_pos h

theorem dieAdmit_busy (h : ¬ (s.dieState d = 0 ∨ s.dieState d = 3)) :
    s.dieAdmit d = s.setF (CMX_DIE_STATUS_FIELD_BUSY d) 1 := if_neg h

theorem exec_admitTimeout_admitting (h : s.dieState d = 1) : exec (.admitTimeout d) s = .next (s.admitFail d 1) :=
  congrArg Host.Outcome.next (if_pos h)

/-- With every bundle paid out or disabled, first the bundles and then the identity judge the admission. -/
theorem exec_dieAdmitEnd_settled (h : s.dieState d = 1)
    (hb : ((List.range 16).any fun b => decide (s.bState d b ≠ 3 ∧ s.bState d b ≠ 5)) = false) :
    exec (.dieAdmitEnd d idOk) s = .next (if s.allDisabled d = true then (s.setF (CMX_DIE_STATUS_CAUSE d) 3).admitFail d 0
      else if (!idOk) = true then s.admitFail d 2 else s.admitDone d) :=
  congrArg Host.Outcome.next ((if_neg (not_not_intro h)).trans (if_neg (ne_true_of_eq_false hb)))

end Die

/-- Settles O30: a route write by its arbiter and its checks, a die by its state. -/
theorem dieAndRouteCommands : Obligations.DieAndRouteCommands := by
  unfold Obligations.DieAndRouteCommands
  refine ⟨?asks, ?fenced, fun s d n x ho hx => tetherServe_granted ho hx, fun s d b p valid sd sb sp h => xrWrite_waits h,
    fun s d b p valid sd sb sp hv h => xrWrite_refused hv h, fun s d b p sd sb sp => rfl, ?lost, ?isolated, ?unchanged, ?begins,
    ?busy, fun s d h => exec_admitTimeout_admitting h, ?admitted, ?wrongDie, ?noBundle, fun s d => rfl⟩
  case asks =>
    intro s m d b p valid sd sb sp hg hf
    rw [exec_routeWrite hg, routeWrite_asks (by rwa [arb_answer])]
  case fenced =>
    intro s m d b p valid sd sb sp hg hf
    rw [exec_routeWrite hg, routeWrite_fenced (by rwa [arb_answer])]
  case lost =>
    intro s m d hg h
    rw [exec_dieIsolate hg, dieIsolate_admitted (by rwa [dieState_answer])]
    rfl
  case isolated =>
    intro s m d hg h
    rw [exec_dieIsolate hg, dieIsolate_notAdmitted (by rwa [dieState_answer])]
    rfl
  case unchanged =>
    intro s m d hg h
    rw [exec_dieIsolate hg, dieIsolate_isolated (by rwa [dieIsolated_answer])]
  case begins =>
    intro s m d hg h
    rw [exec_dieAdmit hg, dieAdmit_idle (by rwa [dieState_answer])]
  case busy =>
    intro s m d hg h
    rw [exec_dieAdmit hg, dieAdmit_busy (by rwa [dieState_answer])]
  case admitted =>
    intro s d h hb hd
    rw [exec_dieAdmitEnd_settled h hb, if_neg (ne_true_of_eq_false hd), if_neg (by decide)]
  case wrongDie =>
    intro s d h hb hd
    rw [exec_dieAdmitEnd_settled h hb, if_neg (ne_true_of_eq_false hd), if_pos (by decide)]
  case noBundle =>
    intro s d idOk h hb hd
    rw [exec_dieAdmitEnd_settled h hb, if_pos hd]

end Sys2Proof.Proofs.Tethers
end

section
/-! The packet network (06_packet_network.md): packets and their answers, the commands of ports, routers and bridges, the tables
and the trace. -/

namespace Sys2Proof.Proofs.PacketNetwork

open Sys2Proof Sys2Proof.Machine Sys2Proof.Machine.Reg
open Sys2Proof.Proofs.FabricBlocks (exec_viaWrite_pass)

/-! ## Requests (R157 to R160) -/

section Request

variable {s t : State} {c : Instr} {p : Packet}

/-- A request on the virtual channel that its port lets it use (R161). -/
def onPortVc (s : State) (p : Packet) : Packet := { p with vc := s.vcOf p }

/-- The checks and the stamp of a request, by its sender (R28, R159). -/
def napVerdict (s : State) (p : Packet) : NapCheck :=
  if isTenantSrc (onPortVc s p) then s.napCheck (onPortVc s p) (s.srcLease p) else s.hubStamp (onPortVc s p)

/-- A sender lets a request go: it may send, its port is LIVE and fewer than 64 of its requests are due (R54, R160, R163). -/
def requestLeaves (s : State) (p : Packet) : Prop :=
  s.napMaySend p.src = true ∧ s.f (NOC_PORT_STATUS_STATE (nodeRouter p.src) (nodePort p.src)) = 1 ∧ (s.dueOf p.src).length < 64

/-- A request that leaves is judged by its NAP. -/
theorem requestFrom_leaves (h : requestLeaves s p) : s.requestFrom p = match napVerdict s p with
    | .forward q => (s.updNoc fun n => { n with outst := n.outst ++ [{ q with rset := s.activeSet }] }).forward q
    | .answer st counted log => ((s.updNoc fun n => { n with outst := n.outst ++ [onPortVc s p] }).napRefused
        (onPortVc s p) (s.srcLease p) counted log).respondHere (onPortVc s p) st := by
  obtain ⟨hsend, hlive, hdue⟩ := h
  exact (if_pos hsend).trans ((if_neg (not_not_intro hlive)).trans (if_neg (Nat.not_le.mpr hdue)))

theorem requestFrom_forwarded {q : Packet} (h : requestLeaves s p) (hv : napVerdict s p = .forward q) : s.requestFrom p =
    (s.updNoc fun n => { n with outst := n.outst ++ [{ q with rset := s.activeSet }] }).forward q := by
  rw [requestFrom_leaves h, hv]

theorem requestFrom_answered {st : Nat} {counted : Bool} {log : Option DropCause} (h : requestLeaves s p)
    (hv : napVerdict s p = .answer st counted log) : s.requestFrom p =
      ((s.updNoc fun n => { n with outst := n.outst ++ [onPortVc s p] }).napRefused
        (onPortVc s p) (s.srcLease p) counted log).respondHere (onPortVc s p) st := by
  rw [requestFrom_leaves h, hv]

theorem requestFrom_stays (h : s.napMaySend p.src = false ∨
    s.f (NOC_PORT_STATUS_STATE (nodeRouter p.src) (nodePort p.src)) ≠ 1 ∨ 64 ≤ (s.dueOf p.src).length) :
    s.requestFrom p = s := by
  unfold State.requestFrom State.sendRequest
  split
  · rename_i hsend
    rcases h with hstop | hdown | hfull
    · exact absurd hsend (ne_true_of_eq_false hstop)
    · exact if_pos hdown
    · rw [if_pos hfull, ite_self]
  · rfl

/-- NOC_READ and NOC_WRITE: behind the request, what has reached the register windows is served. -/
theorem exec_request (hc : exec c s = .next (s.requestFrom p).hubServeAll) (h : s.requestFrom p = t) :
    exec c s = .next t.hubServeAll := by rw [hc, h]

end Request

/-! ## Responses (R160, R163) -/

section Response

variable {s : State} {opc node tag : Nat} {em : Bool} {r : Packet}

/-- What a requester is given: STATUS ERR and no data when the response ends with an EM tail (R160). -/
def rspGiven (r : Packet) (em : Bool) : Packet :=
  if em ∨ r.ended then { r with status := stErr, data := [], em := true } else r

theorem rspEnd_otherOpcode (h : ∀ r, s.rspFor node tag = some r → r.opc ≠ opc) : s.rspEnd opc node tag em = s := by
  unfold State.rspEnd
  cases hr : s.rspFor node tag with
  | none => rfl
  | some r => exact if_pos (h r hr)

section Waiting

variable (hr : s.rspFor node tag = some r) (ho : r.opc = opc)

include hr ho

theorem rspEnd_engine {e : Nat} (hu : unitOf node = .engine e) : s.rspEnd opc node tag em = s.dmaResponse e tag em := by
  simp only [State.rspEnd, hr, if_neg (not_not_intro ho), hu]

/-- Any unit but an engine has the response delivered, and goes on unless its port is fenced. -/
theorem rspEnd_delivers (hu : ∀ e, unitOf node ≠ .engine e) : s.rspEnd opc node tag em =
    if s.rspFenced node then s.deliverRsp opc node tag em
    else (s.deliverRsp opc node tag em).rspUse node (if em ∨ r.ended then { r with status := stErr, data := [] } else r) := by
  simp only [State.rspEnd, hr, if_neg (not_not_intro ho)]

theorem deliverRsp_fenced (hf : s.rspFenced node = true) : s.deliverRsp opc node tag em = s.dropRsp node tag := by
  simp only [State.deliverRsp, hr, if_neg (not_not_intro ho), if_pos hf]

theorem rspEnd_fenced (hu : ∀ e, unitOf node ≠ .engine e) (hf : s.rspFenced node = true) :
    s.rspEnd opc node tag em = s.dropRsp node tag := by
  rw [rspEnd_delivers hr ho hu, if_pos hf, deliverRsp_fenced hr ho hf]

theorem rspEnd_used (hu : ∀ e, unitOf node ≠ .engine e) (hf : s.rspFenced node = false) : s.rspEnd opc node tag em =
    (s.deliverRsp opc node tag em).rspUse node (if em ∨ r.ended then { r with status := stErr, data := [] } else r) := by
  rw [rspEnd_delivers hr ho hu, if_neg (ne_true_of_eq_false hf)]

/-- At the LIVE port of the configuration controller the response joins the delivered ones. -/
theorem rspEnd_cfgCtl (hu : unitOf node = .cfgCtl) (hf : s.rspFenced node = false)
    (hlive : (s.takeRsp node tag).f (NOC_PORT_STATUS_STATE (nodeRouter node) (nodePort node)) = 1) :
    s.rspEnd opc node tag em = (s.takeRsp node tag).updNoc fun n =>
      oweCredits { n with delivered := rspGiven r em :: n.delivered } (rspGiven r em) := by
  rw [rspEnd_used hr ho (by simp [hu]) hf]
  simp only [State.rspUse, State.deliverRsp, hr, if_neg (not_not_intro ho), if_neg (ne_true_of_eq_false hf), hu,
    if_neg (not_not_intro hlive), rspGiven]

end Waiting

end Response

/-! ## Posted packets (R155, R158, R160, R161, R164) -/

section Posted

variable {s t : State} {r : State × Fate} {p : Packet} {f : State → State} {src : Nat} {em : Bool}

theorem settle_through (h : r.2 = .through) : State.settle r p f = f r.1 := by
  unfold State.settle; rw [h]

theorem settle_waits (h : r.2 = .waits) : State.settle r p f = r.1 := by
  unfold State.settle; rw [h]

theorem settle_lost {st k i : Nat} (h : r.2 = .lost st k i) :
    State.settle r p f = r.1.updNoc fun n => countDiscard n p.dst := by
  unfold State.settle; rw [h]

theorem arrivePost_reaches (he : p.ended = false) (hp : s.portRefusal p.dst = none) : s.arrivePost p = s.reached p :=
  if_neg (by simp [he, hp])

theorem arrivePost_discarded (h : p.ended = true ∨ s.portRefusal p.dst ≠ none) :
    s.arrivePost p = s.updNoc fun n => countDiscard n p.dst :=
  if_pos (h.imp_right Option.isSome_iff_ne_none.mpr)

/-- A MIRROR packet as it leaves: on VC3 to the mirror-link controller, with the active set. -/
def mirrorPacket (s : State) (p : Packet) : Packet :=
  { p with opc := opcMirror, vc := 3, dst := nodeAt 57 5, rset := s.activeSet }

theorem exec_nocMirror (h : State.settle (s.travel (mirrorPacket s p) (nodeRouter p.src) (nodePort p.src)) (mirrorPacket s p)
    (fun u => u.arrivePost (mirrorPacket s p)) = t) : exec (.nocMirror p) s = .next t.traceSweep := h ▸ rfl

/-- A TRACE packet of node `src` that waits at the sink. -/
def traceAtSink (src : Nat) (p : Packet) : Bool := decide (p.dst = sinkNode ∧ p.opc = opcTrace ∧ p.src = src)

theorem traceArrive_none (h : s.noc.inbox.find? (traceAtSink src) = none) : s.traceArrive src em = s := by
  unfold traceAtSink at h
  simp only [State.traceArrive, h]

theorem traceArrive_some (h : s.noc.inbox.find? (traceAtSink src) = some p) : s.traceArrive src em =
    let t := s.updNoc fun n => { n with inbox := dropFirst (traceAtSink src) n.inbox }
    let t := if em ∨ p.ended then t.updNoc fun n => countDiscard n sinkNode else (traceRecs p.data).foldl State.sinkTake t
    if traceSource p < 2 ^ 10 then t.traceSweep else t.stimGo (traceSource p) src := by
  unfold traceAtSink at h ⊢
  simp only [State.traceArrive, h]

end Posted

/-! ## Credits (R156, R163) -/

section Credit

variable {s : State} {node : Nat}

theorem exec_creditLimExpire_owed (ht : isTenantPort (nodeRouter node) (nodePort node) = true)
    (hs : s.f (NOC_PORT_STATUS_STATE (nodeRouter node) (nodePort node)) = 1) (hc : s.creditDue node = true) :
    exec (.creditLimExpire node) s = .next (
      let k := nodeRouter node
      let p := nodePort node
      ((((s.probeEvent k p 1 3 (s.eff (NOC_PORT_CTRL_CREDIT_LIM k p))).fencePort k p (s.portLease k p)).cutLink k p).updNoc
        fun n => clearOwed n node).flushNode node stFenced) :=
  congrArg Host.Outcome.next (if_pos ⟨ht, hs, hc⟩)

theorem exec_creditLimExpire_ignored (h : isTenantPort (nodeRouter node) (nodePort node) = false ∨
    s.f (NOC_PORT_STATUS_STATE (nodeRouter node) (nodePort node)) ≠ 1 ∨ s.creditDue node = false) :
    exec (.creditLimExpire node) s = .next s :=
  congrArg Host.Outcome.next (if_neg fun ⟨ht, hs, hc⟩ => h.elim (fun h => ne_true_of_eq_false h ht)
    fun h => h.elim (· hs) fun h => ne_true_of_eq_false h hc)

end Credit

/-- Settles O31: a request by its NAP's verdict, a response by its requester and its port, a posted packet by what became of it
on its way. -/
theorem nocPacketCommands : Obligations.NocPacketCommands := by
  unfold Obligations.NocPacketCommands
  refine ⟨?readForwarded, ?readAnswered, fun s p h => exec_request rfl (requestFrom_stays h),
    ?writeForwarded, ?writeAnswered, fun s p h => exec_request rfl (requestFrom_stays h),
    fun s node tag e em r hr ho hu => congrArg Host.Outcome.next (rspEnd_engine hr ho hu),
    fun s node tag em r hr ho hu hf => congrArg Host.Outcome.next (rspEnd_fenced hr ho hu hf),
    fun s node tag em r hr ho hu hf => congrArg Host.Outcome.next (rspEnd_used hr ho hu hf),
    fun s node tag em r hr ho hu hf hl => congrArg Host.Outcome.next (rspEnd_cfgCtl hr ho hu hf hl),
    fun s node tag em h => congrArg Host.Outcome.next (rspEnd_otherOpcode h),
    fun s node tag e em r hr ho hu => congrArg Host.Outcome.next (rspEnd_engine hr ho hu),
    fun s node tag em r hr ho hu hf => congrArg Host.Outcome.next (rspEnd_fenced hr ho hu hf),
    fun s node tag em r hr ho hu hf => congrArg Host.Outcome.next (rspEnd_used hr ho hu hf),
    fun s node tag em r hr ho hu hf hl => congrArg Host.Outcome.next (rspEnd_cfgCtl hr ho hu hf hl),
    fun s node tag em h => congrArg Host.Outcome.next (rspEnd_otherOpcode h),
    ?mirrorReaches, ?mirrorDiscarded, ?mirrorWaits, ?mirrorLost,
    fun s src em p h => congrArg Host.Outcome.next (traceArrive_some h),
    fun s src em h => congrArg Host.Outcome.next (traceArrive_none h),
    fun s p => rfl, fun s p => rfl, fun s node vc stall => rfl,
    fun s node ht hs hc => exec_creditLimExpire_owed ht hs hc, fun s node h => exec_creditLimExpire_ignored h⟩
  case readForwarded =>
    rintro s p q r rfl hm hl hd hv
    exact exec_request rfl (requestFrom_forwarded ⟨hm, hl, hd⟩ hv)
  case readAnswered =>
    rintro s p r st counted log rfl hm hl hd hv
    exact exec_request rfl (requestFrom_answered ⟨hm, hl, hd⟩ hv)
  case writeForwarded =>
    rintro s p q r rfl hm hl hd hv
    exact exec_request rfl (requestFrom_forwarded ⟨hm, hl, hd⟩ hv)
  case writeAnswered =>
    rintro s p r st counted log rfl hm hl hd hv
    exact exec_request rfl (requestFrom_answered ⟨hm, hl, hd⟩ hv)
  case mirrorReaches =>
    rintro s p q rfl hway he hp
    exact exec_nocMirror ((settle_through hway).trans (arrivePost_reaches he hp))
  case mirrorDiscarded =>
    rintro s p q rfl hway h
    exact exec_nocMirror ((settle_through hway).trans (arrivePost_discarded h))
  case mirrorWaits =>
    rintro s p q rfl hway
    exact exec_nocMirror (settle_waits hway)
  case mirrorLost =>
    rintro s p q st k i rfl hway
    exact exec_nocMirror (settle_lost hway)

/-! ## Port commands (R163, R172, R177, R188) -/

section Port

variable {s : State} {m : Master} {k p c c' : Nat}

/-- A port in use may not be reeled in: a set in use routes through its link, or its NAP's region is ACTIVE or PAUSED (R172). -/
def portUsed (s : State) (k p : Nat) : Bool :=
  if p < 4 then s.linkUsed k p || s.linkUsed (neighbour k p) (facing p) else s.napInUse k p

theorem portReelIn_busy (hb : s.portBusy k p = true) : s.portReelIn k p = s.busy (NOC_PORT_STATUS_FIELD_BUSY k p) := if_pos hb

theorem portReelIn_notLive (hb : s.portBusy k p = false) (hs : s.f (NOC_PORT_STATUS_STATE k p) ≠ 1) :
    s.portReelIn k p = s.setF (NOC_PORT_STATUS_ERR k p) 3 := (if_neg (ne_true_of_eq_false hb)).trans (if_pos hs)

/-- Of an idle LIVE port its use decides. -/
theorem portReelIn_live (hb : s.portBusy k p = false) (hs : s.f (NOC_PORT_STATUS_STATE k p) = 1) : s.portReelIn k p =
    if portUsed s k p then s.setF (NOC_PORT_STATUS_ERR k p) 2
    else if p < 4 then s.setPort k p 2 else (s.setPort k p 2).flushNode (nodeAt k (p - 4)) stUnreach :=
  (if_neg (ne_true_of_eq_false hb)).trans (if_neg (not_not_intro hs))

theorem portReelIn_used (hb : s.portBusy k p = false) (hs : s.f (NOC_PORT_STATUS_STATE k p) = 1)
    (hu : portUsed s k p = true) : s.portReelIn k p = s.setF (NOC_PORT_STATUS_ERR k p) 2 := by
  rw [portReelIn_live hb hs, if_pos hu]

theorem portReelIn_mesh (hb : s.portBusy k p = false) (hs : s.f (NOC_PORT_STATUS_STATE k p) = 1)
    (hu : portUsed s k p = false) (hp : p < 4) : s.portReelIn k p = s.setPort k p 2 := by
  rw [portReelIn_live hb hs, if_neg (ne_true_of_eq_false hu), if_pos hp]

theorem portReelIn_local (hb : s.portBusy k p = false) (hs : s.f (NOC_PORT_STATUS_STATE k p) = 1)
    (hu : portUsed s k p = false) (hp : 4 ≤ p) :
    s.portReelIn k p = (s.setPort k p 2).flushNode (nodeAt k (p - 4)) stUnreach := by
  rw [portReelIn_live hb hs, if_neg (ne_true_of_eq_false hu), if_neg (Nat.not_lt.mpr hp)]

theorem portPayOut_busy (hb : s.portBusy k p = true) : s.portPayOut k p = s.busy (NOC_PORT_STATUS_FIELD_BUSY k p) := if_pos hb

theorem portPayOut_reeled (hb : s.portBusy k p = false)
    (hs : s.f (NOC_PORT_STATUS_STATE k p) = 2 ∨ s.f (NOC_PORT_STATUS_STATE k p) = 7) :
    s.portPayOut k p = s.setPort k p 3 := (if_neg (ne_true_of_eq_false hb)).trans (if_pos hs)

theorem portPayOut_otherState (hb : s.portBusy k p = false) (h2 : s.f (NOC_PORT_STATUS_STATE k p) ≠ 2)
    (h7 : s.f (NOC_PORT_STATUS_STATE k p) ≠ 7) : s.portPayOut k p = s.setF (NOC_PORT_STATUS_ERR k p) 3 :=
  (if_neg (ne_true_of_eq_false hb)).trans (if_neg (not_or.mpr ⟨h2, h7⟩))

/-- Of two commands to one link the one at the lower port index applies (R177). -/
theorem portCmds_lower (hp : p < 4) (hmesh : meshPresent k p = true) (hlow : p < facing p) : s.portCmds k p c (some c') =
    (s.portCmd k p c).busy (NOC_PORT_STATUS_FIELD_BUSY (neighbour k p) (facing p)) :=
  (if_pos ⟨hp, hmesh⟩).trans (if_pos hlow)

theorem portCmds_upper (hp : p < 4) (hmesh : meshPresent k p = true) (hup : ¬ p < facing p) : s.portCmds k p c (some c') =
    (s.portCmd (neighbour k p) (facing p) c').busy (NOC_PORT_STATUS_FIELD_BUSY k p) :=
  (if_pos ⟨hp, hmesh⟩).trans (if_neg hup)

/-- A port that is no end of a mesh link has no twin. -/
theorem portCmds_unpaired (h : ¬ (p < 4 ∧ meshPresent k p = true)) :
    s.portCmds k p c (some c') = s.portCmds k p c none := if_neg h

theorem portUnfence_otherState (hs : s.f (NOC_PORT_STATUS_STATE k p) ≠ 4) : s.portUnfence k p = s := if_pos hs

theorem portUnfence_fenced (hs : s.f (NOC_PORT_STATUS_STATE k p) = 4) : s.portUnfence k p =
    let due := if p < 4 then [] else
      s.noc.outst.filter fun q => q.src = nodeAt k (p - 4) && !(s.noc.rsps.any fun r => r.dst = nodeAt k (p - 4) ∧ r.tag = q.tag)
    let t := (due.foldl (fun t q => t.respondHere q stFenced) s).unfenceInputs k p
    if t.sidesUp k p then (t.portState k p 6).updNoc fun n => setResync n (32 * k + p) 1 else t.portState k p 5 :=
  if_neg (not_not_intro hs)

section Written

variable {t : State} (hg : s.gate m (NOC_PORT_CTRL k p) = .pass)

include hg

theorem exec_portReelIn {twin : Option Nat} (h : (s.answer (.ok 0)).portCmds k p 1 twin = t) :
    exec (.portReelIn m k p twin) s = .next t := h ▸ exec_viaWrite_pass (·.portCmds k p 1 twin) rfl hg

theorem exec_portPayOut {twin : Option Nat} (h : (s.answer (.ok 0)).portCmds k p 2 twin = t) :
    exec (.portPayOut m k p twin) s = .next t := h ▸ exec_viaWrite_pass (·.portCmds k p 2 twin) rfl hg

theorem exec_portUnfence (h : (s.answer (.ok 0)).portUnfence k p = t) :
    exec (.portUnfence m k p) s = .next t := h ▸ exec_viaWrite_pass (·.portUnfence k p) rfl hg

end Written

/-- A twin command at a port that has no twin changes nothing of what REEL_IN does. -/
theorem exec_portReelIn_unpaired (h : ¬ (p < 4 ∧ meshPresent k p = true)) :
    exec (.portReelIn m k p (some c)) s = exec (.portReelIn m k p none) s :=
  congrArg (fun act => Host.Outcome.next (s.viaWrite m (NOC_PORT_CTRL k p) act)) (funext fun _ => portCmds_unpaired h)

theorem exec_portPayOut_unpaired (h : ¬ (p < 4 ∧ meshPresent k p = true)) :
    exec (.portPayOut m k p (some c)) s = exec (.portPayOut m k p none) s :=
  congrArg (fun act => Host.Outcome.next (s.viaWrite m (NOC_PORT_CTRL k p) act)) (funext fun _ => portCmds_unpaired h)

end Port

/-! ## Router commands and self-tests (R172) -/

section Router

variable {s t : State} {m : Master} {k p : Nat} {pass : Bool}

theorem routerReelIn_selftest (hs : s.f (NOC_ROUTER_STATUS_STATE k) = 3) :
    s.routerReelIn k = s.busy (NOC_ROUTER_STATUS_FIELD_BUSY k) := if_pos hs

theorem routerReelIn_otherState (h3 : s.f (NOC_ROUTER_STATUS_STATE k) ≠ 3) (h1 : s.f (NOC_ROUTER_STATUS_STATE k) ≠ 1) :
    s.routerReelIn k = s.setF (NOC_ROUTER_STATUS_ERR k) 3 := (if_neg h3).trans (if_pos h1)

theorem routerReelIn_live (hs : s.f (NOC_ROUTER_STATUS_STATE k) = 1) : s.routerReelIn k =
    if s.routerUsed k then s.setF (NOC_ROUTER_STATUS_ERR k) 2 else s.routerState k 2 :=
  (if_neg (by rw [hs]; decide)).trans (if_neg (not_not_intro hs))

theorem routerPayOut_selftest (hs : s.f (NOC_ROUTER_STATUS_STATE k) = 3) :
    s.routerPayOut k = s.busy (NOC_ROUTER_STATUS_FIELD_BUSY k) := if_pos hs

theorem routerPayOut_reeled (hs : s.f (NOC_ROUTER_STATUS_STATE k) = 2 ∨ s.f (NOC_ROUTER_STATUS_STATE k) = 7) :
    s.routerPayOut k = s.setF (NOC_ROUTER_STATUS_STATE k) 3 := (if_neg (by omega)).trans (if_pos hs)

theorem routerPayOut_otherState (h3 : s.f (NOC_ROUTER_STATUS_STATE k) ≠ 3) (h2 : s.f (NOC_ROUTER_STATUS_STATE k) ≠ 2)
    (h7 : s.f (NOC_ROUTER_STATUS_STATE k) ≠ 7) : s.routerPayOut k = s.setF (NOC_ROUTER_STATUS_ERR k) 3 :=
  (if_neg h3).trans (if_neg (not_or.mpr ⟨h2, h7⟩))

theorem exec_routerReelIn (hg : s.gate m (NOC_ROUTER_CTRL k) = .pass) (h : (s.answer (.ok 0)).routerReelIn k = t) :
    exec (.routerReelIn m k) s = .next t := h ▸ exec_viaWrite_pass (·.routerReelIn k) rfl hg

theorem exec_routerPayOut (hg : s.gate m (NOC_ROUTER_CTRL k) = .pass) (h : (s.answer (.ok 0)).routerPayOut k = t) :
    exec (.routerPayOut m k) s = .next t := h ▸ exec_viaWrite_pass (·.routerPayOut k) rfl hg

/-- The self-test of a router (port index 31): a pass waits for the epoch, a failure is FAULT with ERR 4. -/
theorem exec_selftestEnd_router (hs : s.f (NOC_ROUTER_STATUS_STATE k) = 3) : exec (.selftestEnd k 31 pass) s = .next (
    if pass then s.updNoc fun n => setReady n (32 * k + 31) true else (s.routerState k 7).setF (NOC_ROUTER_STATUS_ERR k) 4) :=
  congrArg Host.Outcome.next ((if_pos rfl).trans (if_neg (not_not_intro hs)))

theorem exec_selftestEnd_port (hp : p ≠ 31) (hs : s.f (NOC_PORT_STATUS_STATE k p) = 3) :
    exec (.selftestEnd k p pass) s = .next (
      if pass then s.updNoc fun n => setReady n (32 * k + p) true else (s.setPort k p 7).setF (NOC_PORT_STATUS_ERR k p) 4) :=
  congrArg Host.Outcome.next ((if_neg hp).trans (if_neg (not_not_intro hs)))

theorem exec_selftestEnd_none (h : (p = 31 ∧ s.f (NOC_ROUTER_STATUS_STATE k) ≠ 3) ∨
    (p ≠ 31 ∧ s.f (NOC_PORT_STATUS_STATE k p) ≠ 3)) : exec (.selftestEnd k p pass) s = .next s := by
  rcases h with ⟨hp, hs⟩ | ⟨hp, hs⟩
  · exact congrArg Host.Outcome.next ((if_pos hp).trans (if_pos hs))
  · exact congrArg Host.Outcome.next ((if_neg hp).trans (if_pos hs))

end Router

/-! ## Bridges and resynchronisation (R170, R171, R173) -/

section Bridge

variable {s : State} {k p : Nat} {far : Bool}

/-- One side of a bridge recorded as down (R170). -/
def sideLost (s : State) (k p : Nat) (far : Bool) : State :=
  s.updNoc fun n => { n with down := sideKey k p far :: n.down.filter (· ≠ sideKey k p far) }

/-- One side of a bridge recorded as up (R171). -/
def sideBack (s : State) (k p : Nat) (far : Bool) : State :=
  s.updNoc fun n => { n with down := n.down.filter (· ≠ sideKey k p far) }

theorem sideDown_absent (h : s.f (NOC_PORT_STATUS_STATE k p) = 8) : s.sideDown k p far = s := if_pos h

theorem sideDown_far (h : s.f (NOC_PORT_STATUS_STATE k p) ≠ 8) :
    s.sideDown k p true = (sideLost s k p true).bridgeDown k p stSideDown := (if_neg h).trans (if_pos rfl)

theorem sideDown_mesh (h : s.f (NOC_PORT_STATUS_STATE k p) ≠ 8) (hp : p < 4) :
    s.sideDown k p false = (sideLost s k p false).bridgeDown (neighbour k p) (facing p) stSideDown :=
  (if_neg h).trans ((if_neg Bool.false_ne_true).trans (if_pos hp))

theorem sideDown_local (h : s.f (NOC_PORT_STATUS_STATE k p) ≠ 8) (hp : 4 ≤ p) : s.sideDown k p false =
    let t := sideLost s k p false
    let due := t.noc.outst.filter fun q => decide (q.src = nodeAt k (p - 4)) && !t.noc.answered q
    due.foldl (fun t q => t.respondHere q stSideDown) ((t.portDown k p).resyncDrop k p) :=
  (if_neg h).trans ((if_neg Bool.false_ne_true).trans (if_neg (Nat.not_lt.mpr hp)))

/-- A fence, a fault, a reel-in and an absent port stay what they are when a side goes down. -/
theorem portDown_eq (s : State) (k p : Nat) :
    s.portDown k p = if s.f (NOC_PORT_STATUS_STATE k p) ∈ [2, 4, 7, 8] then s else s.setPort k p 5 := by
  simp only [State.portDown, List.mem_cons, List.not_mem_nil, or_false]

theorem exec_resyncReq_begins
    (hs : (sideBack s k p far).f (NOC_PORT_STATUS_STATE k p) = 5 ∨ (sideBack s k p far).f (NOC_PORT_STATUS_STATE k p) = 6)
    (hsides : (sideBack s k p far).sidesUp k p = true) (hunit : (sideBack s k p far).unitUp k p = true) :
    exec (.resyncReq k p far) s = .next ((((sideBack s k p far).resyncDrop k p).setPort k p 6).updNoc
      fun n => setResync n (32 * k + p) 1) :=
  congrArg Host.Outcome.next (if_pos ⟨hs, hsides, hunit⟩)

theorem exec_resyncReq_waits
    (h : ((sideBack s k p far).f (NOC_PORT_STATUS_STATE k p) ≠ 5 ∧ (sideBack s k p far).f (NOC_PORT_STATUS_STATE k p) ≠ 6) ∨
      (sideBack s k p far).sidesUp k p = false ∨ (sideBack s k p far).unitUp k p = false) :
    exec (.resyncReq k p far) s = .next (sideBack s k p far) := by
  refine congrArg Host.Outcome.next (if_neg ?_)
  rintro ⟨hs, hsides, hunit⟩
  rcases h with ⟨h5, h6⟩ | h | h
  · exact hs.elim h5 h6
  · exact ne_true_of_eq_false h hsides
  · exact ne_true_of_eq_false h hunit

theorem exec_resyncAck_asked (hs : s.f (NOC_PORT_STATUS_STATE k p) = 6) (hr : nget s.noc.resync (32 * k + p) = 1) :
    exec (.resyncAck k p) s = .next (s.updNoc fun n => setReady (setResync n (32 * k + p) 2) (32 * k + p) true) :=
  congrArg Host.Outcome.next (if_pos ⟨hs, hr⟩)

theorem exec_resyncAck_unasked (h : s.f (NOC_PORT_STATUS_STATE k p) ≠ 6 ∨ nget s.noc.resync (32 * k + p) ≠ 1) :
    exec (.resyncAck k p) s = .next s :=
  congrArg Host.Outcome.next (if_neg fun ⟨hs, hr⟩ => h.elim (· hs) (· hr))

end Bridge

/-- Settles O32: a port or router by its state and use, a side of a bridge by which it is, a resynchronisation by what is up. -/
theorem nocPortAndRouterCommands : Obligations.NocPortAndRouterCommands := by
  unfold Obligations.NocPortAndRouterCommands
  refine ⟨fun s m k p hg hb => exec_portReelIn hg (portReelIn_busy hb),
    fun s m k p hg hb hs => exec_portReelIn hg (portReelIn_notLive hb hs),
    fun s m k p hg hb hs hu => exec_portReelIn hg (portReelIn_used hb hs hu),
    fun s m k p hg hb hs hu hp => exec_portReelIn hg (portReelIn_mesh hb hs hu hp),
    fun s m k p hg hb hs hu hp => exec_portReelIn hg (portReelIn_local hb hs hu hp),
    fun s m k p c hg hp hmesh hlow => exec_portReelIn hg (portCmds_lower hp hmesh hlow),
    fun s m k p c hg hp hmesh hup => exec_portReelIn hg (portCmds_upper hp hmesh hup),
    fun s m k p c h => exec_portReelIn_unpaired h,
    fun s m k p hg hb => exec_portPayOut hg (portPayOut_busy hb),
    fun s m k p hg hb hs => exec_portPayOut hg (portPayOut_reeled hb hs),
    fun s m k p hg hb h2 h7 => exec_portPayOut hg (portPayOut_otherState hb h2 h7),
    fun s m k p c hg hp hmesh hlow => exec_portPayOut hg (portCmds_lower hp hmesh hlow),
    fun s m k p c hg hp hmesh hup => exec_portPayOut hg (portCmds_upper hp hmesh hup),
    fun s m k p c h => exec_portPayOut_unpaired h,
    fun s m k p hg hs => exec_portUnfence hg (portUnfence_fenced hs),
    fun s m k p hg hs => exec_portUnfence hg (portUnfence_otherState hs),
    fun s m k hg hs => exec_routerReelIn hg (routerReelIn_selftest hs),
    fun s m k hg h3 h1 => exec_routerReelIn hg (routerReelIn_otherState h3 h1),
    fun s m k hg hs => exec_routerReelIn hg (routerReelIn_live hs),
    fun s m k hg hs => exec_routerPayOut hg (routerPayOut_selftest hs),
    fun s m k hg hs => exec_routerPayOut hg (routerPayOut_reeled hs),
    fun s m k hg h3 h2 h7 => exec_routerPayOut hg (routerPayOut_otherState h3 h2 h7),
    fun s k hs => exec_selftestEnd_router hs, fun s k hs => exec_selftestEnd_router hs,
    fun s k p hp hs => exec_selftestEnd_port hp hs, fun s k p hp hs => exec_selftestEnd_port hp hs,
    fun s k p pass h => exec_selftestEnd_none h,
    fun s k p h => congrArg Host.Outcome.next (sideDown_far h),
    fun s k p h hp => congrArg Host.Outcome.next (sideDown_mesh h hp),
    fun s k p h hp => congrArg Host.Outcome.next (sideDown_local h hp),
    fun s k p far h => congrArg Host.Outcome.next (sideDown_absent h), portDown_eq, ?begins, ?waits,
    fun s k p hs hr => exec_resyncAck_asked hs hr, fun s k p h => exec_resyncAck_unasked h⟩
  case begins =>
    rintro s k p far t rfl hs hsides hunit
    exact exec_resyncReq_begins hs hsides hunit
  case waits =>
    rintro s k p far t rfl h
    exact exec_resyncReq_waits h

/-! ## The tables (R165, R166, R168, R177) -/

section Table

variable {s t : State} {m : Master}

theorem exec_nocSwap (hg : s.gate m NOC_EPOCH = .pass) (h : (s.answer (.ok 0)).nocSwap = t) :
    exec (.nocSwap m) s = .next t := h ▸ exec_viaWrite_pass State.nocSwap rfl hg

theorem nocSwap_underWay (h : s.bit NOC_STATUS_CHECKING ∨ s.bit NOC_STATUS_SWAP_PENDING ∨ s.bit NOC_STATUS_DRAINING) :
    s.nocSwap = s.busy NOC_STATUS_FIELD_BUSY := if_pos h

theorem nocSwap_begins (h : ¬ (s.bit NOC_STATUS_CHECKING ∨ s.bit NOC_STATUS_SWAP_PENDING ∨ s.bit NOC_STATUS_DRAINING)) :
    s.nocSwap = (s.setF NOC_STATUS_CHECKING 1).updNoc fun n => { n with left := [] } := if_neg h

end Table

/-! ## The trace (R174 to R176) -/

section Trace

variable {s : State} {src node : Nat}

/-- A probe whose TRACE_GAP still runs owes its packet. -/
theorem traceDue_owed (h : src < 2 ^ 10 ∧ s.gapOver (s.probe src) = false) :
    s.traceDue src node = s.setProbe src { s.probe src with due := true } :=
  if_pos ⟨h.1, by rw [h.2]; rfl⟩

theorem traceDue_sent (h : ¬ (src < 2 ^ 10 ∧ s.gapOver (s.probe src) = false)) :
    s.traceDue src node = s.sendTrace src node :=
  if_neg fun ⟨hsrc, hgap⟩ => h ⟨hsrc, by simpa using hgap⟩

theorem sendTrace_empty (h : (s.probe src).recs = []) : s.sendTrace src node = s := if_pos (List.isEmpty_iff.mpr h)

/-- The bytes of the oldest 32 records of a store. -/
def traceBytes (s : State) (src : Nat) : List Byte := ((s.probe src).recs.take 32).flatMap TraceRec.toBytes

/-- The TRACE packet of a store: on VC3 from a probe, on the class that its NAP has from any other. -/
def tracePacket (s : State) (src node : Nat) : Packet :=
  let pk : Packet := ⟨sinkNode, node, opcTrace, 0, 0, 0, (traceBytes s src).length - 1, 0, 0, 0, false, 3, false, s.activeSet,
    traceBytes s src, []⟩
  if src < 2 ^ 10 then pk else { pk with vc := s.vcOf pk }

/-- The store without the records that leave. -/
def recordsTaken (s : State) (src : Nat) : State :=
  s.setProbe src { s.probe src with
    recs := (s.probe src).recs.drop 32, last := some s.nocTime, due := decide (32 ≤ ((s.probe src).recs.drop 32).length) }

theorem sendTrace_leaves (h : (s.probe src).recs ≠ []) : s.sendTrace src node =
    State.settle ((recordsTaken s src).travel (tracePacket s src node) (nodeRouter node) (nodePort node))
      (tracePacket s src node) fun u => u.reached (tracePacket s src node) :=
  if_neg fun he => h (List.isEmpty_iff.mp he)

end Trace

/-- Settles O33: a swap by what is under way and by its check, a TRACE packet by its gap and its records. -/
theorem nocTableAndTraceCommands : Obligations.NocTableAndTraceCommands := by
  unfold Obligations.NocTableAndTraceCommands
  refine ⟨fun s m hg h => exec_nocSwap hg (nocSwap_underWay h),
    fun s m hg h => exec_nocSwap hg (nocSwap_begins h),
    fun s h => congrArg Host.Outcome.next (if_pos h),
    fun s h => congrArg Host.Outcome.next (if_neg (ne_true_of_eq_false h)), fun s t => rfl, fun s => rfl,
    fun s h => congrArg Host.Outcome.next (if_neg (ne_true_of_eq_false h)), fun s h => congrArg Host.Outcome.next (if_pos h),
    fun s src node h => congrArg Host.Outcome.next (traceDue_owed h),
    fun s src node h he => congrArg Host.Outcome.next ((traceDue_sent h).trans (sendTrace_empty he)), ?sent,
    fun r p f => rfl, fun s k he hl => congrArg Host.Outcome.next (if_pos ⟨he, decide_eq_true hl⟩), ?unobserved⟩
  case sent =>
    rintro s src node d pk q t h he rfl rfl rfl rfl
    exact congrArg Host.Outcome.next ((traceDue_sent h).trans (sendTrace_leaves he))
  case unobserved =>
    intro s k h
    refine congrArg Host.Outcome.next (if_neg ?_)
    rintro ⟨he, ho⟩
    have hl : 1 ≤ s.f DBG_STATUS_LEVEL := of_decide_eq_true ho
    omega

end Sys2Proof.Proofs.PacketNetwork
end

section
/-! Arbitration (07_arbitration_and_progress.md): how requests enter an arbiter, what the end of a beat does to its owner, what
the drogue and a dropped request take away, and who is served after a grant. -/

namespace Sys2Proof.Proofs.Arbitration

open Sys2Proof Sys2Proof.Machine Sys2Proof.Machine.Reg
open Sys2Proof.Proofs.FabricBlocks (exec_viaWrite_pass)

variable {s t : State} {a : ArbId}

/-! ## Requests (R181, R185, R187) -/

/-- Ordering the requests of a cycle neither loses nor invents one. -/
theorem mem_askInsert (x i : ArbAsk) (l : List ArbAsk) : i ∈ askInsert x l ↔ i = x ∨ i ∈ l := by
  induction l with
  | nil => exact List.mem_cons
  | cons y l ih =>
    by_cases hxy : x.idx < y.idx
    · rw [askInsert, if_pos hxy, List.mem_cons]
    · rw [askInsert, if_neg hxy, List.mem_cons, List.mem_cons, ih]
      exact or_left_comm

theorem arbEnter_fenced {x : ArbAsk} (h : (s.arb a).fenced.contains x.idx = true) : s.arbEnter a x = s.answer (.ok stFenced) :=
  if_pos h

/-- The entry that a request becomes: it takes the arbiter's next age, and notes whether it was raised in an immune grant (R190). -/
def entryOf (b : Arb) (x : ArbAsk) : ArbReq := ⟨x.idx, x.urg, b.age, 0, x.lease, x.rset, b.immune⟩

theorem arbEnter_admitted {x : ArbAsk} (h : (s.arb a).fenced.contains x.idx = false) : s.arbEnter a x =
    s.setArb a (if (s.arb a).spool.length < 16 ∧ (s.arb a).held.isEmpty
      then { s.arb a with spool := (s.arb a).spool ++ [entryOf (s.arb a) x], age := (s.arb a).age + 1 }
      else { s.arb a with held := (s.arb a).held ++ [entryOf (s.arb a) x] }) := if_neg (ne_true_of_eq_false h)

/-! ## The end of a beat (R179, R180, R182) -/

section Beat

variable {more : Bool} {o : ArbReq}

/-- The owner's grant is over at the end of its beat: it has no more or has dropped its request, or its burst is used up. A packet
has no burst limit. -/
def grantEnds (s : State) (a : ArbId) (more : Bool) : Bool :=
  !(more && !(s.arb a).dropped) || (!a.perPacket && decide ((s.arb a).beats + 1 ≥ (s.arb a).burst))

/-- A request of a higher class waits, and the owner is not immune to it. -/
def outranked (s : State) (a : ArbId) (o : ArbReq) : Bool :=
  !(s.arb a).immune && (s.arb a).spool.any fun q => decide (s.arbClass a q > s.arbClass a o)

/-- The arbiter once the grant of owner `o` has ended: its preemption streak is over (R183). -/
def grantEnded (s : State) (a : ArbId) (o : ArbReq) : State :=
  s.setArb a ({ s.arb a with owner := none, immune := false, beats := 0, dropped := false }.setStreak o.idx 0)

/-- The arbiter once owner `o` is preempted: it waits first to resume, keeps its count of beats, and its streak grows (R182, R183). -/
def preempted (s : State) (a : ArbId) (o : ArbReq) : State :=
  (s.setArb a ({ s.arb a with
    owner := none, resume := (o, (s.arb a).beats + 1) :: (s.arb a).resume, beats := 0 }.setStreak o.idx
      ((s.arb a).streakOf o.idx + 1))).arbPreempted a

/-- The grant that the preemption of owner `o` makes way for. -/
def preemptorGranted (s : State) (a : ArbId) (o : ArbReq) : State :=
  match (preempted s a o).arbPick a with
  | some (q, imm) => (preempted s a o).arbTake a q imm
  | none => preempted s a o

theorem preemptorGranted_picked {q : ArbReq} {imm : Bool} (hp : (preempted s a o).arbPick a = some (q, imm)) :
    preemptorGranted s a o = (preempted s a o).arbTake a q imm := by
  rw [preemptorGranted, hp]

/-- A beat that no requester owns only lets the arbiter grant. -/
theorem arbBeat_unowned (ho : (s.arb a).owner = none) : s.arbBeat a more = s.arbGrant a := by
  simp only [State.arbBeat, ho]

/-- Of an owner's beat three things can come: the grant ends, is preempted, or goes on. -/
theorem arbBeat_owned (ho : (s.arb a).owner = some o) : s.arbBeat a more =
    if grantEnds s a more then
      (if more && !(s.arb a).dropped then (grantEnded s a o).arbEnter a ⟨o.idx, o.urg, o.lease, o.rset⟩
        else grantEnded s a o).arbGrant a
    else if outranked s a o then preemptorGranted s a o
    else s.setArb a { s.arb a with beats := (s.arb a).beats + 1 } := by
  simp only [State.arbBeat, ho] <;> rfl

/-- An owner's grant goes on while it has more, unless a burst limit applies and is reached. -/
theorem grantEnds_eq_false (hd : (s.arb a).dropped = false) (hb : a.perPacket = true ∨ (s.arb a).beats + 1 < (s.arb a).burst) :
    grantEnds s a true = false := by
  rcases hb with hpacket | hburst
  · rw [grantEnds, hd, hpacket]; rfl
  · rw [grantEnds, hd, decide_eq_false (Nat.not_le.mpr hburst)]; exact Bool.and_false _

theorem arbBeat_ends (ho : (s.arb a).owner = some o)
    (he : (more && !(s.arb a).dropped) = false ∨ (a.perPacket = false ∧ (s.arb a).burst ≤ (s.arb a).beats + 1)) :
    s.arbBeat a more = (if more && !(s.arb a).dropped then (grantEnded s a o).arbEnter a ⟨o.idx, o.urg, o.lease, o.rset⟩
      else grantEnded s a o).arbGrant a := by
  have hends : grantEnds s a more = true := by
    rcases he with hover | ⟨hbeats, hburst⟩
    · rw [grantEnds, hover]; rfl
    · rw [grantEnds, hbeats, decide_eq_true hburst]; exact Bool.or_true _
  rw [arbBeat_owned ho, if_pos hends]

theorem arbBeat_goesOn (ho : (s.arb a).owner = some o) (hd : (s.arb a).dropped = false)
    (hb : a.perPacket = true ∨ (s.arb a).beats + 1 < (s.arb a).burst)
    (hr : (s.arb a).immune = true ∨ ((s.arb a).spool.any fun q => decide (s.arbClass a q > s.arbClass a o)) = false) :
    s.arbBeat a true = s.setArb a { s.arb a with beats := (s.arb a).beats + 1 } := by
  have hkeeps : outranked s a o = false := by
    rcases hr with himmune | hnone
    · rw [outranked, himmune]; rfl
    · rw [outranked, hnone]; exact Bool.and_false _
  rw [arbBeat_owned ho, if_neg (ne_true_of_eq_false (grantEnds_eq_false hd hb)), if_neg (ne_true_of_eq_false hkeeps)]

theorem arbBeat_preempted {q : ArbReq} {imm : Bool} (ho : (s.arb a).owner = some o) (hd : (s.arb a).dropped = false)
    (hb : a.perPacket = true ∨ (s.arb a).beats + 1 < (s.arb a).burst) (himm : (s.arb a).immune = false)
    (hr : ((s.arb a).spool.any fun q => decide (s.arbClass a q > s.arbClass a o)) = true)
    (hp : (preempted s a o).arbPick a = some (q, imm)) : s.arbBeat a true = (preempted s a o).arbTake a q imm := by
  have hranked : outranked s a o = true := by rw [outranked, himm, hr]; rfl
  rw [arbBeat_owned ho, if_neg (ne_true_of_eq_false (grantEnds_eq_false hd hb)), if_pos hranked, preemptorGranted_picked hp]

/-- A beat ends as the arbiter has it, but for the mirror link, a busy capture engine and a lent cycle of a NoC output. -/
theorem exec_arbBeatEnd {lent : Option Nat} (hm : a ≠ .mirror) (hc : a = .capture → s.cap.op = 0)
    (hl : (∃ k p, a = .noc k p) → lent = none) : exec (.arbBeatEnd a more lent) s = .next ((s.arbBeat a more).arbServe a) := by
  cases a with
  | mirror => exact absurd rfl hm
  | capture => exact congrArg Host.Outcome.next (if_neg (not_not_intro (hc rfl)))
  | noc k p => rw [hl ⟨k, p, rfl⟩]; rfl
  | pc n => rfl
  | eng e m => rfl
  | readback r => rfl
  | tether d => rfl

/-- An operation under way is the capture engine's beat, which its own end completes. -/
theorem exec_arbBeatEnd_captureBusy {lent : Option Nat} (h : s.cap.op ≠ 0) :
    exec (.arbBeatEnd .capture more lent) s = .next s := congrArg Host.Outcome.next (if_pos h)

end Beat

/-! ## The drogue, dropped requests and UNFENCE (R180, R187, R188, R190) -/

theorem drogueBite_unowned (ho : (s.arb a).owner = none) : s.drogueBite a = s := by
  simp only [State.drogueBite, ho]

theorem drogueBite_owned {o : ArbReq} (ho : (s.arb a).owner = some o) : s.drogueBite a =
    (((((s.count a.bitesF 1).setArb a ((s.arb a).fence o.idx)).biteWaits a o.idx).biteEnd a o).arbGrant a).arbServe a := by
  simp only [State.drogueBite, ho]

section Drop

variable {idx : Nat} {beat : Bool}

theorem arbDrop_inBeat (h : s.arbOwns a idx = true) :
    s.arbDrop a idx true = s.setArb a { s.arb a with dropped := true } := if_pos ⟨rfl, h⟩

theorem arbDrop_removes (h : beat = false ∨ s.arbOwns a idx = false) :
    s.arbDrop a idx beat = s.arbRemove a fun i => i = idx := by
  refine if_neg ?_
  rintro ⟨hbeat, howns⟩
  rcases h with h | h
  · exact ne_true_of_eq_false h hbeat
  · exact ne_true_of_eq_false h howns

theorem exec_arbRequestDrop (h : s.arbDrop a idx beat = t) : exec (.arbRequestDrop a idx beat) s = .next (t.arbServe a) :=
  h ▸ rfl

end Drop

section Unfence

variable {m : Master} {idx : Nat}

theorem unfence_readmits (h : ∀ k p, a ≠ .noc k p) : s.unfence a idx =
    s.setArb a { s.arb a with fenced := (s.arb a).fenced.filter (· ≠ idx % 128) } := by
  cases a with
  | noc k p => exact absurd rfl (h k p)
  | pc n => rfl
  | eng e m => rfl
  | readback r => rfl
  | capture => rfl
  | tether d => rfl
  | mirror => rfl

theorem exec_arbUnfence (hg : s.gate m a.base = .pass) (h : ((s.answer (.ok 0)).setF a.idxF idx).unfence a idx = t) :
    exec (.arbUnfence m a idx) s = .next t := h ▸ exec_viaWrite_pass (fun u => (u.setF a.idxF idx).unfence a idx) rfl hg

end Unfence

/-- Settles O34: a request by its fence, a beat by what becomes of the grant, a drop by its beat, a bite by the owner. -/
theorem arbiterCommands : Obligations.ArbiterCommands := by
  unfold Obligations.ArbiterCommands
  refine ⟨fun s a l => rfl, fun x l i => mem_askInsert x i l, fun s a x h => arbEnter_fenced h,
    fun s a x h => arbEnter_admitted h, fun s a more lent hm hc hl => exec_arbBeatEnd hm hc hl, ?ends,
    fun s a o ho hd hb hr => arbBeat_goesOn ho hd hb hr, ?preempts, fun s a more ho => arbBeat_unowned ho,
    fun s k o i more => rfl, fun s more lent => rfl, fun s more lent h => exec_arbBeatEnd_captureBusy h,
    fun s a o ho => congrArg Host.Outcome.next (drogueBite_owned ho),
    fun s a ho => congrArg Host.Outcome.next (drogueBite_unowned ho),
    fun s a idx h => exec_arbRequestDrop (arbDrop_inBeat h),
    fun s a idx beat h => exec_arbRequestDrop (arbDrop_removes h),
    fun s m a idx hg h => exec_arbUnfence hg (unfence_readmits h), fun s m k p idx hg => exec_arbUnfence hg rfl⟩
  case ends =>
    rintro s a o more stays t ho rfl he rfl
    exact arbBeat_ends ho he
  case preempts =>
    rintro s a o t q imm ho hd hb himm hr rfl hp
    exact arbBeat_preempted ho hd hb himm hr hp

end Sys2Proof.Proofs.Arbitration
end

section
/-! The engines' instructions (09_engine_programming.md; 08 R196 to R201): what issues and what refuses to, how an effect ends, and
the effect of each class of instruction. -/

namespace Sys2Proof.Proofs.EngineInstructions

open Sys2Proof Sys2Proof.Machine Sys2Proof.Machine.Reg Sys2Proof.Certificates.Slice0 Sys2Proof.Laws.Commands

variable {s : State} {e : Nat} {is : Issue} {op : EngOp}

/-! ## Issue (R196, R214, R220, R229, R231, R235) -/

theorem engClocked_eq_false (h : s.eff (ENG_TRIO_CLK_EN (e / 3)) / 2 ^ (e % 3) % 2 = 0) : s.engClocked e = false :=
  decide_eq_false (by rw [h]; decide)

theorem engIssue_still (h : s.engState e ≠ 1 ∨ (s.engAt e).stall.isSome ∨
    s.eff (ENG_TRIO_CLK_EN (e / 3)) / 2 ^ (e % 3) % 2 = 0) : s.engIssue e is op = s :=
  if_pos (h.imp_right (·.imp_right fun hgated => by rw [engClocked_eq_false hgated]; rfl))

/-- A RUNNING, unstalled, clocked engine runs the instruction. -/
theorem engIssue_runs (hs : s.engState e = 1) (hw : (s.engAt e).stall = none)
    (hc : s.eff (ENG_TRIO_CLK_EN (e / 3)) / 2 ^ (e % 3) % 2 = 1) : s.engIssue e is op = s.engRun e is op := by
  have hclocked : s.engClocked e = true := decide_eq_true hc
  exact if_neg (by rw [hs, hw, hclocked]; decide)

theorem engRun_fetchError (h : (engCounted s e is).rowErr e (0x4000 + s.engPc e) = 2) :
    s.engRun e is op = (engFetched s e is).engFault e 4 0 := if_pos h

section Fetched

variable (hI : engIssues s e is)

include hI

theorem engIssue_illegal {d : Nat} (hd : op.illegal = some d) : s.engIssue e is op = (engFetched s e is).engFault e 1 d := by
  obtain ⟨hs, hw, hc, hrow⟩ := hI
  rw [engIssue_runs hs hw hc]
  exact (if_neg hrow).trans (by rw [hd]; rfl)

/-- Behind the fields of an instruction three checks stand in this order, and then its effect: COND 15, the END of an active loop,
and the condition (R229, R231). -/
theorem engIssue_checks (hi : op.illegal = none) : ∃ effect, s.engIssue e is op =
    if op ≠ .nop ∧ is.cond = 15 then (engFetched s e is).engFault e 1 1
    else if engAtEnd s e is && op.noEnd then (engFetched s e is).engFault e 1 3
    else if op ≠ .nop ∧ !(engFetched s e is).condHolds e is.cond then
      let r := loopNext (s.engPc e) ((engFetched s e is).engAt e) ((engFetched s e is).ldepth e)
      (((engFetched s e is).setEng e r.2.2).setLdepth e r.2.1).engDone e (s.engPc e) r.1 false false
    else effect := by
  obtain ⟨hs, hw, hc, hrow⟩ := hI
  rw [engIssue_runs hs hw hc]
  exact ⟨_, (if_neg hrow).trans (by rw [hi]; rfl)⟩

theorem engIssue_cond15 (hi : op.illegal = none) (hop : op ≠ .nop) (hc : is.cond = 15) :
    s.engIssue e is op = (engFetched s e is).engFault e 1 1 := by
  obtain ⟨effect, heq⟩ := engIssue_checks hI hi
  rw [heq, if_pos ⟨hop, hc⟩]

theorem engIssue_badEnd (hi : op.illegal = none) (hc : op = .nop ∨ is.cond ≠ 15) (ha : engAtEnd s e is = true)
    (hn : op.noEnd = true) : s.engIssue e is op = (engFetched s e is).engFault e 1 3 := by
  obtain ⟨effect, heq⟩ := engIssue_checks hI hi
  rw [heq, if_neg fun ⟨hop, h15⟩ => hc.elim hop (· h15), if_pos (by rw [ha, hn]; rfl)]

theorem engIssue_skips (hi : op.illegal = none) (hop : op ≠ .nop) (hc : is.cond ≠ 15)
    (hn : engAtEnd s e is = false ∨ op.noEnd = false) (hf : (engFetched s e is).condHolds e is.cond = false) :
    s.engIssue e is op =
      let r := loopNext (s.engPc e) ((engFetched s e is).engAt e) ((engFetched s e is).ldepth e)
      (((engFetched s e is).setEng e r.2.2).setLdepth e r.2.1).engDone e (s.engPc e) r.1 false false := by
  obtain ⟨effect, heq⟩ := engIssue_checks hI hi
  have hend : ¬ (engAtEnd s e is && op.noEnd) = true := by rcases hn with h | h <;> simp [h]
  rw [heq, if_neg fun h => hc h.2, if_neg hend, if_pos ⟨hop, by rw [hf]; rfl⟩]

end Fetched

/-! ## How an effect ends (R197, R231, R234) -/

section Effect

variable {c : Instr} {r : OpRes}

/-- An instruction that may end a loop: its effect ends as `engEnds` says. -/
theorem exec_effect (hc : exec c s = .next (s.engIssue e is op)) (hI : engIssues s e is) (hC : engCond s e is)
    (hi : op.illegal = none) (hn : op.noEnd = false) (hr : runOp e (engFetched s e is) op = r) :
    exec c s = .next (engEnds s e is op r) := by
  rw [hc, engIssue_ends hI (.inr hC) hi hn, hr]

section Plain

variable (hc : exec c s = .next (s.engIssue e is op)) (hI : engIssues s e is) (hC : engCond s e is) (hi : op.illegal = none)
  (hn : op.noEnd = false)

include hc hI hC hi hn

theorem exec_goesOn {u : State} {ue : Bool} (hr : runOp e (engFetched s e is) op = .next u ue) :
    exec c s = .next (engGoesOn s u e ue) := by
  rw [exec_effect hc hI hC hi hn hr, engEnds_next]

theorem exec_waits (hr : runOp e (engFetched s e is) op = .wait) :
    exec c s = .next ((engFetched s e is).updEng e fun g => { g with stall := some (.retry is op) }) :=
  exec_effect hc hI hC hi hn hr

end Plain

section Control

variable (hc : exec c s = .next (s.engIssue e is op)) (hI : engIssues s e is) (hC : engCond s e is) (hi : op.illegal = none)
  (hn : op.noEnd = true) (ha : engAtEnd s e is = false)

include hc hI hC hi hn ha

/-- A control instruction that falls through leaves a loop that it pushed out of its own END rule. -/
theorem exec_control_falls {u : State} {ue : Bool} (hr : runOp e (engFetched s e is) op = .next u ue) :
    exec c s = .next (u.engDone e (s.engPc e) ((s.engPc e + 1) % 4096) ue true) := by
  rw [hc, engIssue_ends_noEnd hI (.inr hC) hi hn ha]
  simp only [hr]

theorem exec_control_jumps {u : State} {npc : Nat} (hr : runOp e (engFetched s e is) op = .jump u npc) :
    exec c s = .next (u.engDone e (s.engPc e) npc false true) := by
  rw [hc, engIssue_ends_noEnd hI (.inr hC) hi hn ha]
  simp only [hr, engEnds_jump]

theorem exec_control_faults {u : State} {cause detail : Nat} (hr : runOp e (engFetched s e is) op = .exc u cause detail) :
    exec c s = .next (u.engFault e cause detail) := by
  rw [hc, engIssue_ends_noEnd hI (.inr hC) hi hn ha]
  simp only [hr, engEnds_exc]

theorem exec_control_halts {u : State} {code : Nat} (hr : runOp e (engFetched s e is) op = .halt u code) :
    exec c s = .next (u.engHalt e code) := by
  rw [hc, engIssue_ends_noEnd hI (.inr hC) hi hn ha]
  simp only [hr, engEnds_halt]

end Control

theorem exec_engNop (hI : engIssues s e is) : exec (.engNop e is) s = .next (engGoesOn s (engFetched s e is) e false) :=
  congrArg Host.Outcome.next (engIssue_ends hI (.inl rfl) rfl rfl)

end Effect

/-! ## Stores (R203, R209, R225) -/

section Store

variable {t : State} {st : StoreFld} {w : Nat} {sat : Bool}

theorem opStore_none (h : st.sd = 0) : s.opStore e st w sat = .next s false := if_pos h

/-- The state in which a store acts: MS is set when the move saturated (R201). -/
def msShown (s : State) (e : Nat) (sat : Bool) : State := if sat then s.setF (ENG_DP_FLAGS_MS (e / 3) (e % 3)) 1 else s

theorem opStore_memory (h : st.sd = 1 ∨ st.sd = 2) : s.opStore e st w sat =
    let t := msShown s e sat
    let a := (t.engAt e).adr (st.sd - 1) st.sr
    let r := t.engStore e (st.sd - 1) a (storeMerge st ((t.engAt e).word (st.sd - 1) a) w)
    .next (r.1.updEng e fun g => g.postIf st.sp (st.sd - 1) st.sr st.sn) r.2 :=
  (if_neg (by omega)).trans (if_pos (by omega))

theorem opStore_port (h : 3 ≤ st.sd) : s.opStore e st w sat =
    match ((msShown s e sat).engAt e).streamWrite (st.sd - 1) ((msShown s e sat).pack e (st.sd - 1)) (storeStream st w) with
    | some g => .next ((msShown s e sat).setEng e g) false
    | none => .word (msShown s e sat) (st.sd - 1) (storeStream st w) :=
  (if_neg (by omega)).trans (if_neg (by omega))

section Stream

variable (h : 3 ≤ st.sd) (ht : t = msShown s e sat)

include h ht

theorem opStore_stream {g : Eng} (hw : (t.engAt e).streamWrite (st.sd - 1) (t.pack e (st.sd - 1)) (storeStream st w) = some g) :
    s.opStore e st w sat = .next (t.setEng e g) false := by
  subst ht
  rw [opStore_port h, hw]

theorem opStore_stream_full (hw : (t.engAt e).streamWrite (st.sd - 1) (t.pack e (st.sd - 1)) (storeStream st w) = none) :
    s.opStore e st w sat = .word t (st.sd - 1) (storeStream st w) := by
  subst ht
  rw [opStore_port h, hw]

end Stream

end Store

/-- Settles O35: what keeps an engine from issuing, the checks of an instruction in their order, and where a store goes. -/
theorem engineInstructionsIssue : Obligations.EngineInstructionsIssue := by
  unfold Obligations.EngineInstructionsIssue
  exact ⟨fun s e is op h => engIssue_still h,
    fun s e is op hs hw hc hrow => (engIssue_runs hs hw hc).trans (engRun_fetchError hrow),
    fun s e is op d hI hd => engIssue_illegal hI hd,
    fun s e is op hI hi hop hc => engIssue_cond15 hI hi hop hc,
    fun s e is op hI hi hc ha hn => engIssue_badEnd hI hi hc ha hn,
    fun s e is op hI hi hop hc hn hf => engIssue_skips hI hi hop hc hn hf,
    fun s e is hI => exec_engNop hI,
    fun s e st w sat h => opStore_none h, fun s e st w sat h => opStore_memory h,
    fun s e st w sat t g h ht hw => opStore_stream h ht hw,
    fun s e st w sat t h ht hw => opStore_stream_full h ht hw⟩

/-! ## Multiplies (R196, R198 to R201, R223 to R225) -/

section Multiply

variable {f : MulFld} {ps : EngMode → Nat → Nat → List (Nat × Int)} {x y : Nat} {g1 g2 : Eng} {t : State}

theorem runOp_mac : runOp e s (.mac f) = s.opMul e f fun m x y => [(f.tgt, m.prod x 0 y 0)] := rfl

theorem runOp_cmac : runOp e s (.cmac f) = s.opMul e f fun m x y =>
    if m.conj then
      [(2 * f.tgt, m.prod x 0 y 0 + m.prod x 1 y 1), (2 * f.tgt + 1, m.prod x 1 y 0 - m.prod x 0 y 1)]
    else
      [(2 * f.tgt, m.prod x 0 y 0 - m.prod x 1 y 1), (2 * f.tgt + 1, m.prod x 0 y 1 + m.prod x 1 y 0)] := rfl

theorem runOp_qmac : runOp e s (.qmac f) = s.opMul e f fun m x y =>
    [(0, m.prod x 0 y 0), (1, m.prod x 1 y 1), (2, m.prod x 0 y 1), (3, m.prod x 1 y 0)] := rfl

theorem runOp_dmac : runOp e s (.dmac f) = s.opMul e f fun m x y =>
    [(2 * f.tgt, m.dprod x y 0), (2 * f.tgt + 1, m.dprod x y 1)] := rfl

theorem opMul_waits (hx : s.readOperand e (s.engAt e) f.xAddr = none) : s.opMul e f ps = .wait := by
  rw [State.opMul, hx]

theorem opMul_uncorrectable (hx : s.readOperand e (s.engAt e) f.xAddr = some (x, g1))
    (hue : s.operandErr e (s.engAt e) f.xAddr = 2 ∨ s.operandErr e (s.engAt e) f.yAddr = 2) :
    s.opMul e f ps = .exc ((s.operandSee e (s.engAt e) f.xAddr).operandSee e (s.engAt e) f.yAddr) 2 0 := by
  rw [State.opMul, hx]
  exact if_pos hue

/-- X is read before Y, and the word that is stored moves from the accumulators as they were. -/
theorem opMul_multiplies (hx : s.readOperand e (s.engAt e) f.xAddr = some (x, g1))
    (hxe : s.operandErr e (s.engAt e) f.xAddr ≠ 2) (hye : s.operandErr e (s.engAt e) f.yAddr ≠ 2)
    (ht : t = (s.operandSee e (s.engAt e) f.xAddr).operandSee e (s.engAt e) f.yAddr)
    (hy : t.readOperand e g1 f.yAddr = some (y, g2)) : s.opMul e f ps =
      let w := moveWord (s.engMode e) (s.engAt e) f.st
      ((t.setEng e g2).accumulate e f.aop (ps (s.engMode e) x y)).opStore e f.st w.1 w.2 := by
  subst ht
  rw [State.opMul, hx]
  exact (if_neg (not_or.mpr ⟨hxe, hye⟩)).trans (by rw [hy])

section Command

variable {c : Instr} (hop : ∀ t, runOp e t op = t.opMul e f ps) (hc : exec c s = .next (s.engIssue e is op))
  (hi : op.illegal = none) (hn : op.noEnd = false) (hI : engIssues s e is) (hC : engCond s e is)

include hop hc hi hn hI hC

theorem exec_mul_waits (hx : (engFetched s e is).readOperand e ((engFetched s e is).engAt e) f.xAddr = none) :
    exec c s = .next ((engFetched s e is).updEng e fun g => { g with stall := some (.retry is op) }) :=
  exec_waits hc hI hC hi hn ((hop _).trans (opMul_waits hx))

theorem exec_mul_uncorrectable
    (hx : (engFetched s e is).readOperand e ((engFetched s e is).engAt e) f.xAddr = some (x, g1))
    (hue : (engFetched s e is).operandErr e ((engFetched s e is).engAt e) f.xAddr = 2 ∨
      (engFetched s e is).operandErr e ((engFetched s e is).engAt e) f.yAddr = 2) :
    exec c s = .next ((((engFetched s e is).operandSee e ((engFetched s e is).engAt e) f.xAddr).operandSee e
      ((engFetched s e is).engAt e) f.yAddr).engFault e 2 0) :=
  exec_effect hc hI hC hi hn ((hop _).trans (opMul_uncorrectable hx hue))

theorem exec_mul_multiplies {l : List (Nat × Int)} (hl : ps ((engFetched s e is).engMode e) x y = l)
    (hx : (engFetched s e is).readOperand e ((engFetched s e is).engAt e) f.xAddr = some (x, g1))
    (hxe : (engFetched s e is).operandErr e ((engFetched s e is).engAt e) f.xAddr ≠ 2)
    (hye : (engFetched s e is).operandErr e ((engFetched s e is).engAt e) f.yAddr ≠ 2)
    (ht : t = ((engFetched s e is).operandSee e ((engFetched s e is).engAt e) f.xAddr).operandSee e
      ((engFetched s e is).engAt e) f.yAddr)
    (hy : t.readOperand e g1 f.yAddr = some (y, g2)) : exec c s = .next (
      let w := moveWord ((engFetched s e is).engMode e) ((engFetched s e is).engAt e) f.st
      engEnds s e is op (((t.setEng e g2).accumulate e f.aop l).opStore e f.st w.1 w.2)) :=
  exec_effect hc hI hC hi hn ((hop _).trans (hl ▸ opMul_multiplies hx hxe hye ht hy))

end Command

end Multiply

/-- Settles O36: each multiply by what its operands give; its fields and its products are all that sets it apart. -/
theorem engineMultiplies : Obligations.EngineMultiplies := by
  unfold Obligations.EngineMultiplies
  exact ⟨
    fun s e is f x y g1 g2 t hI hC hf hx hxe hye ht hy =>
      exec_mul_multiplies (fun _ => runOp_mac) rfl (ite_none_of_false hf) rfl hI hC rfl hx hxe hye ht hy,
    fun s e is f hI hC hf hx => exec_mul_waits (fun _ => runOp_mac) rfl (ite_none_of_false hf) rfl hI hC hx,
    fun s e is f x g1 hI hC hf hx hue =>
      exec_mul_uncorrectable (fun _ => runOp_mac) rfl (ite_none_of_false hf) rfl hI hC hx hue,
    fun s e is f x y g1 g2 t hI hC hf hx hxe hye ht hy =>
      exec_mul_multiplies (fun _ => runOp_cmac) rfl (ite_none_of_false hf) rfl hI hC rfl hx hxe hye ht hy,
    fun s e is f hI hC hf hx => exec_mul_waits (fun _ => runOp_cmac) rfl (ite_none_of_false hf) rfl hI hC hx,
    fun s e is f x g1 hI hC hf hx hue =>
      exec_mul_uncorrectable (fun _ => runOp_cmac) rfl (ite_none_of_false hf) rfl hI hC hx hue,
    fun s e is f x y g1 g2 t hI hC hf hx hxe hye ht hy =>
      exec_mul_multiplies (fun _ => runOp_qmac) rfl (ite_none_of_false hf) rfl hI hC rfl hx hxe hye ht hy,
    fun s e is f hI hC hf hx => exec_mul_waits (fun _ => runOp_qmac) rfl (ite_none_of_false hf) rfl hI hC hx,
    fun s e is f x g1 hI hC hf hx hue =>
      exec_mul_uncorrectable (fun _ => runOp_qmac) rfl (ite_none_of_false hf) rfl hI hC hx hue,
    fun s e is f x y g1 g2 t hI hC hf hx hxe hye ht hy =>
      exec_mul_multiplies (fun _ => runOp_dmac) rfl (ite_none_of_false hf) rfl hI hC rfl hx hxe hye ht hy,
    fun s e is f hI hC hf hx => exec_mul_waits (fun _ => runOp_dmac) rfl (ite_none_of_false hf) rfl hI hC hx,
    fun s e is f x g1 hI hC hf hx hue =>
      exec_mul_uncorrectable (fun _ => runOp_dmac) rfl (ite_none_of_false hf) rfl hI hC hx hue,
    fun s e is f hI hC hf => exec_effect (op := .pmov f) rfl hI hC (ite_none_of_false hf) rfl rfl⟩

/-! ## Accumulators (R200, R226) -/

/-- Settles O37: the exact result of each A-class instruction, and the flags of a result that is written and of one that is not. -/
theorem engineAccumulatorInstructions : Obligations.EngineAccumulatorInstructions := by
  unfold Obligations.EngineAccumulatorInstructions
  exact ⟨
    fun s e is f hI hC hf => exec_effect (op := .clr f) rfl hI hC (ite_none_of_false hf) rfl rfl,
    fun s e is f hI hC hf => exec_effect (op := .adda f) rfl hI hC (ite_none_of_false hf) rfl rfl,
    fun s e is f hI hC hf => exec_effect (op := .suba f) rfl hI hC (ite_none_of_false hf) rfl rfl,
    fun s e is f hI hC hf => exec_effect (op := .mova f) rfl hI hC (ite_none_of_false hf) rfl rfl,
    fun s e is f hI hC hf => exec_effect (op := .nega f) rfl hI hC (ite_none_of_false hf) rfl rfl,
    fun s e is f hI hC hf => exec_effect (op := .absa f) rfl hI hC (ite_none_of_false hf) rfl rfl,
    fun s e is f hI hC hf => exec_effect (op := .ash f) rfl hI hC (ite_none_of_false hf) rfl rfl,
    fun s e is f hI hC hf => exec_effect (op := .cmpa f) rfl hI hC (ite_none_of_false hf) rfl rfl,
    fun s e is f hI hC hf => exec_effect (op := .tsta f) rfl hI hC (ite_none_of_false hf) rfl rfl,
    fun s e f v => rfl, fun s e f v => rfl⟩

/-! ## Loads and stores (R227) -/

section Load

variable {reg ad form : Nat} {a : AddrFld} {w : Nat} {g : Eng}

theorem opLd_waits (h : s.readOperand e (s.engAt e) a = none) : opLd reg a e s = .wait := by
  rw [opLd, h]

theorem opLd_reads (h : s.readOperand e (s.engAt e) a = some (w, g)) (hue : s.operandErr e (s.engAt e) a ≠ 2) :
    opLd reg a e s = .next (((s.operandSee e (s.engAt e) a).setEng e g).setEngReg e reg w) false := by
  rw [opLd, h]
  exact if_neg hue

theorem opLda_waits (h : s.readOperand e (s.engAt e) a = none) : opLda ad a form e s = .wait := by
  rw [opLda, h]

theorem opLda_reads (h : s.readOperand e (s.engAt e) a = some (w, g)) (hue : s.operandErr e (s.engAt e) a ≠ 2) :
    opLda ad a form e s =
      .next ((s.operandSee e (s.engAt e) a).setEng e (g.setAcc ad (toBits 40 (ldaValue form w)))) false := by
  rw [opLda, h]
  exact if_neg hue

theorem opSt_memory (h : a.ms < 2) : opSt reg a e s =
    let r := s.engStore e a.ms ((s.engAt e).adr a.ms a.ar) (s.engReg e reg)
    .next (r.1.updEng e fun g => g.postIf a.p a.ms a.ar a.n) r.2 := if_pos h

theorem opSt_stream (h : 2 ≤ a.ms) (hw : (s.engAt e).streamWrite a.ms (s.pack e a.ms) (s.engReg e reg) = some g) :
    opSt reg a e s = .next (s.setEng e g) false :=
  (if_neg (Nat.not_lt.mpr h)).trans (by rw [hw])

theorem opSt_stream_full (h : 2 ≤ a.ms) (hw : (s.engAt e).streamWrite a.ms (s.pack e a.ms) (s.engReg e reg) = none) :
    opSt reg a e s = .word s a.ms (s.engReg e reg) :=
  (if_neg (Nat.not_lt.mpr h)).trans (by rw [hw])

end Load

/-! ## Control (R230, R231) -/

section Control

variable {t : Nat}

theorem opCall_pushes (h : s.cdepth e < 8) : opCall t e s =
    .jump ((s.updEng e fun g => { g with cs := nput g.cs (s.cdepth e) ((s.engPc e + 1) % 4096) }).setCdepth e (s.cdepth e + 1)) t :=
  if_neg (Nat.not_le.mpr h)

theorem opCall_full (h : 8 ≤ s.cdepth e) : opCall t e s = .exc s 6 0 := if_pos h

theorem opRet_pops (h : s.cdepth e ≠ 0) :
    opRet e s = .jump (s.setCdepth e (s.cdepth e - 1)) (nget (s.engAt e).cs (s.cdepth e - 1)) := if_neg h

theorem opRet_empty (h : s.cdepth e = 0) : opRet e s = .exc s 6 0 := if_pos h

theorem opBreak_leaves (h : s.ldepth e ≠ 0) :
    opBreak e s = .jump (s.setLdepth e (s.ldepth e - 1)) (((s.engAt e).loopEnd (s.ldepth e - 1) + 1) % 4096) := if_neg h

theorem opBreak_empty (h : s.ldepth e = 0) : opBreak e s = .exc s 1 5 := if_pos h

section Loop

variable {count last : Nat}

/-- The END instruction must not lie before the loop's first instruction. -/
theorem opLoop_backward (h : last < s.engPc e + 1) : opLoop count last e s = .exc s 1 4 := if_pos h

variable (h : s.engPc e + 1 ≤ last)

include h

theorem opLoop_never (hc : count = 0) : opLoop count last e s = .jump s ((last + 1) % 4096) :=
  (if_neg (Nat.not_lt.mpr h)).trans (if_pos hc)

theorem opLoop_full (hc : count ≠ 0) (hd : 4 ≤ s.ldepth e) : opLoop count last e s = .exc s 5 0 :=
  (if_neg (Nat.not_lt.mpr h)).trans ((if_neg hc).trans (if_pos hd))

theorem opLoop_pushes (hc : count ≠ 0) (hd : s.ldepth e < 4) : opLoop count last e s =
    .next ((s.updEng e fun g => { g with
      lsRange := nput g.lsRange (s.ldepth e) ((s.engPc e + 1) * 2 ^ 16 + last),
      lsCount := nput g.lsCount (s.ldepth e) count }).setLdepth e (s.ldepth e + 1)) false :=
  (if_neg (Nat.not_lt.mpr h)).trans ((if_neg hc).trans (if_neg (Nat.not_le.mpr hd)))

end Loop

end Control

/-! ## Watchdog, stimulus records and DMA (R228, R236 to R238) -/

section Service

theorem opKick_enabled (h : s.bit (ENG_WDT_EN (e / 3) (e % 3)) = true) : opKick e s = .next (s.wdtReload e) false := by
  rw [opKick, if_pos h]

theorem opKick_disabled (h : s.bit (ENG_WDT_EN (e / 3) (e % 3)) = false) : opKick e s = .next s false := by
  rw [opKick, if_neg (ne_true_of_eq_false h)]

theorem opStim_off {reg chan imm : Nat} {i : Bool} (h : s.bit (ENG_STIM_CTRL_EN (e / 3) (e % 3)) = false ∨ s.observes = false) :
    opStim reg i chan imm e s = .next s false :=
  if_pos (by rcases h with h | h <;> simp [h])

/-- The record of STIM joins the engine's store; a full store drops it, which STIM_STATUS counts. -/
theorem opStim_records {reg chan imm : Nat} {i : Bool} {t : State} (hen : s.bit (ENG_STIM_CTRL_EN (e / 3) (e % 3)) = true)
    (ho : s.observes = true)
    (ht : t = s.stimPush (engSource e) (engineNode e) ⟨2, engSource e, s.nocTime % 2 ^ 48,
      chan % 256 * 2 ^ 56 + s.engPc e * 2 ^ 44 + (if i then imm else s.engReg e reg) % 2 ^ 32⟩) :
    opStim reg i chan imm e s = .next (if (s.probe (engSource e)).dropped < (t.probe (engSource e)).dropped
      then t.count (ENG_STIM_STATUS_DROPPED (e / 3) (e % 3)) 1 else t) false := by
  subst ht
  exact if_neg (by rw [hen, ho]; decide)

/-- A channel that MASK names is BUSY. -/
def waitsForDma (s : State) (e mask : Nat) : Prop :=
  (mask % 2 = 1 ∧ s.dmaBusy e 0) ∨ (mask / 2 % 2 = 1 ∧ s.dmaBusy e 1)

theorem opWaitd_waits {mask : Nat} (h : waitsForDma s e mask) : opWaitd mask e s = .wait := if_pos h

theorem opWaitd_passes {mask : Nat} (h : ¬ waitsForDma s e mask) : opWaitd mask e s = .next s false := if_neg h

end Service

theorem illegal_movr {rd rs : Nat} (hd : badReg rd true = false) (hs : badReg rs false = false) :
    (EngOp.movr rd rs).illegal = none := if_neg (by rw [hd, hs]; decide)

/-- Settles O38: a load or a store by its operand, a jump by its stack, a loop by its range, count and stack. -/
theorem engineRegisterAndControlInstructions : Obligations.EngineRegisterAndControlInstructions := by
  unfold Obligations.EngineRegisterAndControlInstructions
  exact ⟨
    fun s e is reg imm hI hC hr => exec_goesOn (op := .ldi reg imm) rfl hI hC (ite_none_of_false hr) rfl rfl,
    fun s e is rd rs hI hC hd hs => exec_goesOn (op := .movr rd rs) rfl hI hC (illegal_movr hd hs) rfl rfl,
    fun s e is ad imm hI hC => exec_goesOn (op := .ldai ad imm) rfl hI hC rfl rfl rfl,
    fun s e is reg a w g hI hC hr hx hue =>
      exec_goesOn (op := .ld reg a) rfl hI hC (ite_none_of_false hr) rfl (opLd_reads hx hue),
    fun s e is reg a hI hC hr hx => exec_waits (op := .ld reg a) rfl hI hC (ite_none_of_false hr) rfl (opLd_waits hx),
    fun s e is ad a form w g hI hC hf hx hue =>
      exec_goesOn (op := .lda ad a form) rfl hI hC (if_neg hf) rfl (opLda_reads hx hue),
    fun s e is ad a form hI hC hf hx => exec_waits (op := .lda ad a form) rfl hI hC (if_neg hf) rfl (opLda_waits hx),
    fun s e is reg a hI hC hr hm => exec_goesOn (op := .st reg a) rfl hI hC (ite_none_of_false hr) rfl (opSt_memory hm),
    fun s e is reg a g hI hC hr hm hw =>
      exec_goesOn (op := .st reg a) rfl hI hC (ite_none_of_false hr) rfl (opSt_stream hm hw),
    fun s e is reg a hI hC hr hm hw =>
      exec_effect (op := .st reg a) rfl hI hC (ite_none_of_false hr) rfl (opSt_stream_full hm hw),
    fun s e is target hI hC ha => exec_control_jumps (op := .jmp target) rfl hI hC rfl rfl ha rfl,
    fun s e is target hI hC ha hd => exec_control_jumps (op := .call target) rfl hI hC rfl rfl ha (opCall_pushes hd),
    fun s e is target hI hC ha hd => exec_control_faults (op := .call target) rfl hI hC rfl rfl ha (opCall_full hd),
    fun s e is hI hC ha hd => exec_control_jumps (op := .ret) rfl hI hC rfl rfl ha (opRet_pops hd),
    fun s e is hI hC ha hd => exec_control_faults (op := .ret) rfl hI hC rfl rfl ha (opRet_empty hd),
    fun s e is count last hI hC ha hl hc hd =>
      exec_control_falls (op := .loop count last) rfl hI hC rfl rfl ha (opLoop_pushes hl hc hd),
    fun s e is count last hI hC ha hl hc =>
      exec_control_jumps (op := .loop count last) rfl hI hC rfl rfl ha (opLoop_never hl hc),
    fun s e is count last hI hC ha hl hc hd =>
      exec_control_faults (op := .loop count last) rfl hI hC rfl rfl ha (opLoop_full hl hc hd),
    fun s e is count last hI hC ha hl =>
      exec_control_faults (op := .loop count last) rfl hI hC rfl rfl ha (opLoop_backward hl),
    fun s e is reg last hI hC hr ha hl hc hd =>
      exec_control_falls (op := .loopr reg last) rfl hI hC (ite_none_of_false hr) rfl ha (opLoop_pushes hl hc hd),
    fun s e is reg last hI hC hr ha hl hc =>
      exec_control_jumps (op := .loopr reg last) rfl hI hC (ite_none_of_false hr) rfl ha (opLoop_never hl hc),
    fun s e is reg last hI hC hr ha hl hc hd =>
      exec_control_faults (op := .loopr reg last) rfl hI hC (ite_none_of_false hr) rfl ha (opLoop_full hl hc hd),
    fun s e is reg last hI hC hr ha hl =>
      exec_control_faults (op := .loopr reg last) rfl hI hC (ite_none_of_false hr) rfl ha (opLoop_backward hl),
    fun s e is hI hC ha hd => exec_control_jumps (op := .brk) rfl hI hC rfl rfl ha (opBreak_leaves hd),
    fun s e is hI hC ha hd => exec_control_faults (op := .brk) rfl hI hC rfl rfl ha (opBreak_empty hd),
    fun s e is code hI hC ha => exec_control_halts (op := .halt code) rfl hI hC rfl rfl ha rfl,
    fun s e is hI hC hen => exec_goesOn (op := .kick) rfl hI hC rfl rfl (opKick_enabled hen),
    fun s e is hI hC hen => exec_goesOn (op := .kick) rfl hI hC rfl rfl (opKick_disabled hen),
    fun s e is reg i chan imm t hI hC hr hen ho ht =>
      exec_goesOn (op := .stim reg i chan imm) rfl hI hC (ite_none_of_false hr) rfl (opStim_records hen ho ht),
    fun s e is reg i chan imm hI hC hr h =>
      exec_goesOn (op := .stim reg i chan imm) rfl hI hC (ite_none_of_false hr) rfl (opStim_off h),
    fun s e is mask hI hC h => exec_goesOn (op := .waitd mask) rfl hI hC rfl rfl (opWaitd_passes h),
    fun s e is mask hI hC h => exec_waits (op := .waitd mask) rfl hI hC rfl rfl (opWaitd_waits h),
    fun s e is code hI hC => exec_goesOn (op := .sig code) rfl hI hC rfl rfl rfl⟩

end Sys2Proof.Proofs.EngineInstructions
end

section
/-! The DSP engines around their datapath (08_dsp_engines.md): stream ports, requests to the memories, DMA channels, and the power
and the clear of a trio. -/

namespace Sys2Proof.Proofs.DspEngines

open Sys2Proof Sys2Proof.Machine Sys2Proof.Machine.Reg
open Sys2Proof.Proofs.FabricBlocks (exec_viaWrite_pass)

variable {s t : State} {m : Master} {e : Nat}

/-! ## Stream ports (R208, R209, R50) -/

section Stream

variable {port d p : Nat}

/-- Beats move at a trio that is up while the region's outputs are connected. -/
theorem beats_open (hup : s.trioUp (e / 3) = true) (hc : s.connected (e / 3) = true) :
    ¬ (!s.trioUp (e / 3) || !s.connected (e / 3)) = true := by rw [hup, hc]; decide

section Open

variable (hup : s.trioUp (e / 3) = true) (hc : s.connected (e / 3) = true)

include hup hc

theorem exec_streamBeat_input (hp : port < 2) (hroom : ((s.engAt e).fifoOf port).length < 16) : exec (.streamBeat e port d) s =
    .next (s.setEng e ((s.engAt e).setFifo port ((s.engAt e).fifoOf port ++ [d % 2 ^ 64]))) :=
  congrArg Host.Outcome.next ((if_neg (beats_open hup hc)).trans ((if_pos hp).trans (if_pos hroom)))

theorem exec_streamBeat_inputFull (hp : port < 2) (hfull : 16 ≤ ((s.engAt e).fifoOf port).length) :
    exec (.streamBeat e port d) s = .next s :=
  congrArg Host.Outcome.next ((if_neg (beats_open hup hc)).trans ((if_pos hp).trans (if_neg (Nat.not_lt.mpr hfull))))

theorem exec_streamBeat_output {b : Nat} {l : List Nat} (hp : 2 ≤ port) (hf : (s.engAt e).fifoOf port = b :: l) :
    exec (.streamBeat e port d) s = .next ((s.setEng e ((s.engAt e).setFifo port l)).answer (.ok b)) :=
  congrArg Host.Outcome.next
    ((if_neg (beats_open hup hc)).trans ((if_neg (Nat.not_lt.mpr hp)).trans (by rw [hf])))

theorem exec_streamBeat_outputEmpty (hp : 2 ≤ port) (hf : (s.engAt e).fifoOf port = []) :
    exec (.streamBeat e port d) s = .next s :=
  congrArg Host.Outcome.next
    ((if_neg (beats_open hup hc)).trans ((if_neg (Nat.not_lt.mpr hp)).trans (by rw [hf])))

end Open

theorem exec_streamBeat_closed (h : s.trioUp (e / 3) = false ∨ s.connected (e / 3) = false) :
    exec (.streamBeat e port d) s = .next s :=
  congrArg Host.Outcome.next (if_pos (by rcases h with h | h <;> simp [h]))

theorem exec_streamBeat_still
    (h : s.trioUp (e / 3) = false ∨ s.connected (e / 3) = false ∨ (2 ≤ port ∧ (s.engAt e).fifoOf port = [])) :
    exec (.streamBeat e port d) s = .next s := by
  cases hup : s.trioUp (e / 3) with
  | false => exact exec_streamBeat_closed (.inl hup)
  | true =>
    cases hc : s.connected (e / 3) with
    | false => exact exec_streamBeat_closed (.inr hc)
    | true =>
      obtain ⟨hp, hf⟩ : 2 ≤ port ∧ (s.engAt e).fifoOf port = [] := by simpa [hup, hc] using h
      exact exec_streamBeat_outputEmpty hup hc hp hf

theorem flushPort_sends {lo : Nat} (hpend : (s.engAt e).pendOf (2 + p) = some lo)
    (hroom : ((s.engAt e).fifoOf (2 + p)).length < 16) : s.flushPort e p =
      s.setEng e (((s.engAt e).setFifo (2 + p) ((s.engAt e).fifoOf (2 + p) ++ [lo])).setPend (2 + p) none) := by
  rw [State.flushPort, hpend]
  exact if_pos hroom

theorem flushPort_still (h : (s.engAt e).pendOf (2 + p) = none ∨ 16 ≤ ((s.engAt e).fifoOf (2 + p)).length) :
    s.flushPort e p = s := by
  cases hpend : (s.engAt e).pendOf (2 + p) with
  | none => rw [State.flushPort, hpend]
  | some lo =>
    have hfull : 16 ≤ ((s.engAt e).fifoOf (2 + p)).length := h.resolve_left (by rw [hpend]; exact Option.some_ne_none lo)
    rw [State.flushPort, hpend]
    exact if_neg (Nat.not_lt.mpr hfull)

theorem exec_streamFlush (hg : s.gate m (ENG_STRM_CTRL (e / 3) (e % 3)) = .pass) (h : (s.answer (.ok 0)).flushPort e p = t) :
    exec (.streamFlush m e p) s = .next t := h ▸ exec_viaWrite_pass (·.flushPort e p) rfl hg

end Stream

/-! ## Requests to the engine's memories (R210) -/

section Request

variable {p : Packet}

section Inbox

variable (hp : s.noc.inbox.find? (fun p => decide (p.dst = engineNode e)) = some p)

include hp

theorem exec_engNapRequest_serves (hheld : s.memHeld e p.addr = false) : exec (.engNapRequest e) s = .next
    ((s.updNoc fun n => { n with inbox := dropFirst (fun q => q.dst = engineNode e) n.inbox }).serveEng e p) := by
  show execEngNapRequest e s = _
  rw [execEngNapRequest, hp]
  exact congrArg Host.Outcome.next (if_neg (ne_true_of_eq_false hheld))

theorem exec_engNapRequest_held (hheld : s.memHeld e p.addr = true) : exec (.engNapRequest e) s = .next s := by
  show execEngNapRequest e s = _
  rw [execEngNapRequest, hp]
  exact congrArg Host.Outcome.next (if_pos hheld)

end Inbox

theorem exec_engNapRequest_none (hp : s.noc.inbox.find? (fun p => decide (p.dst = engineNode e)) = none) :
    exec (.engNapRequest e) s = .next s := by
  show execEngNapRequest e s = _
  rw [execEngNapRequest, hp]

/-- A request is out of the memories when its bytes do not lie in one of them, or it is not on a 4-byte boundary. -/
def misplaced (p : Packet) : Bool := !localRange p.addr (p.bcnt + 1) || decide (p.addr % 4 ≠ 0)

theorem misplaced_eq_false (hr : localRange p.addr (p.bcnt + 1) = true) (ha : p.addr % 4 = 0) : misplaced p = false := by
  simp [misplaced, hr, ha]

theorem serveEng_clearing (hc : s.f (ENG_TRIO_PWR_CLEARING (e / 3)) = 1) : s.serveEng e p = s.respond p stErr [] := if_pos hc

section Awake

variable (hc : s.f (ENG_TRIO_PWR_CLEARING (e / 3)) ≠ 1)

include hc

theorem serveEng_fenced (hf : s.memFenced e p.addr = true) : s.serveEng e p = s.respond p stFenced [] :=
  (if_neg hc).trans (if_pos hf)

section Unfenced

variable (hf : s.memFenced e p.addr = false)

include hf

theorem serveEng_misplaced (h : misplaced p = true) : s.serveEng e p = s.respond p stErr [] :=
  (if_neg hc).trans ((if_neg (ne_true_of_eq_false hf)).trans (if_pos h))

section Placed

variable (h : misplaced p = false)

include h

theorem serveEng_placed : s.serveEng e p =
    if p.opc = opcWrite then
      if localMem p.addr = 2 ∧ s.engBusy e then s.respond p stErr []
      else
        let r := s.localWrite e p.addr (p.data.take (p.bcnt + 1)) p.be
        r.1.respond p (if r.2 then stErr else stOk) []
    else
      let r := s.localRead e p.addr (p.bcnt + 1)
      if r.2.2 then r.1.respond p stErr [] else r.1.respond p stOk r.2.1 :=
  (if_neg hc).trans ((if_neg (ne_true_of_eq_false hf)).trans (if_neg (ne_true_of_eq_false h)))

theorem serveEng_writes (hw : p.opc = opcWrite) (hm : localMem p.addr ≠ 2 ∨ s.engBusy e = false) : s.serveEng e p =
    let r := s.localWrite e p.addr (p.data.take (p.bcnt + 1)) p.be
    r.1.respond p (if r.2 then stErr else stOk) [] := by
  rw [serveEng_placed hc hf h, if_pos hw]
  exact if_neg fun ⟨hprog, hbusy⟩ => hm.elim (· hprog) fun hidle => ne_true_of_eq_false hidle hbusy

/-- The program of a RUNNING engine is not written. -/
theorem serveEng_program (hw : p.opc = opcWrite) (hm : localMem p.addr = 2) (hb : s.engBusy e = true) :
    s.serveEng e p = s.respond p stErr [] := by
  rw [serveEng_placed hc hf h, if_pos hw, if_pos ⟨hm, hb⟩]

theorem serveEng_reads (hr : p.opc ≠ opcWrite) : s.serveEng e p =
    let r := s.localRead e p.addr (p.bcnt + 1)
    if r.2.2 then r.1.respond p stErr [] else r.1.respond p stOk r.2.1 := by
  rw [serveEng_placed hc hf h, if_neg hr]

end Placed

end Unfenced

end Awake

theorem serveEng_errs (hfence : s.f (ENG_TRIO_PWR_CLEARING (e / 3)) = 1 ∨ s.memFenced e p.addr = false)
    (h : s.f (ENG_TRIO_PWR_CLEARING (e / 3)) = 1 ∨ localRange p.addr (p.bcnt + 1) = false ∨ p.addr % 4 ≠ 0 ∨
      (p.opc = opcWrite ∧ localMem p.addr = 2 ∧ s.engBusy e = true)) : s.serveEng e p = s.respond p stErr [] := by
  by_cases hc : s.f (ENG_TRIO_PWR_CLEARING (e / 3)) = 1
  · exact serveEng_clearing hc
  have hf := hfence.resolve_left hc
  cases hplace : misplaced p with
  | true => exact serveEng_misplaced hc hf hplace
  | false =>
    obtain ⟨hw, hm, hb⟩ : p.opc = opcWrite ∧ localMem p.addr = 2 ∧ s.engBusy e = true := by
      simp only [misplaced, Bool.or_eq_false_iff, Bool.not_eq_false', decide_eq_false_iff_not] at hplace
      simpa [hc, hplace] using h
    exact serveEng_program hc hf hplace hw hm hb

end Request

/-! ## DMA channels (R211, R212, R217) -/

section Dma

variable {c : Nat}

theorem exec_dmaGo (hg : s.gate m (ENG_DMA_CTRL (e / 3) (e % 3) c) = .pass) (h : (s.answer (.ok 0)).dmaGo e c = t) :
    exec (.dmaGo m e c) s = .next t := h ▸ exec_viaWrite_pass (·.dmaGo e c) rfl hg

theorem dmaBusy_answer (r : Resp) : (s.answer r).dmaBusy e c = s.dmaBusy e c := rfl

theorem dmaCheck_answer (r : Resp) : (s.answer r).dmaCheck e c = s.dmaCheck e c := rfl

theorem dmaGo_busy (hb : s.dmaBusy e c = true) : s.dmaGo e c = s.busy (ENG_DMA_STATUS_FIELD_BUSY (e / 3) (e % 3) c) := if_pos hb

theorem dmaGo_fails (hb : s.dmaBusy e c = false) (hr : s.dmaCheck e c ≠ 0) :
    s.dmaGo e c = s.setF (ENG_DMA_STATUS_ERR (e / 3) (e % 3) c) (s.dmaCheck e c) :=
  (if_neg (ne_true_of_eq_false hb)).trans (if_pos hr)

theorem dmaGo_starts (hb : s.dmaBusy e c = false) (hr : s.dmaCheck e c = 0) : s.dmaGo e c =
    let t := s.setFs [(ENG_DMA_STATUS_BUSY (e / 3) (e % 3) c, 1), (ENG_DMA_STATUS_ERR (e / 3) (e % 3) c, 0),
      (ENG_DMA_STATUS_RSTATUS (e / 3) (e % 3) c, 0), (ENG_DMA_STATUS_BYTES (e / 3) (e % 3) c, 0)]
    let t := if (List.range 6).any fun i => t.dmaBusy (3 * (e / 3) + i / 2) (i % 2) && decide (6 * (e / 3) + i ≠ 2 * e + c) then t
      else t.xbackNow (ENG_TRIO_XP_OUTS (e / 3))
    let t := t.updEng e fun g => g.setDma c { g.dmaOf c with off := 0, out := [], err := 0, rst := 0 }
    (State.dmaPump e c 16 t).dmaSettle e c :=
  (if_neg (ne_true_of_eq_false hb)).trans (if_neg (not_not_intro hr))

/-- GO is refused for the first of three reasons: RANGE, ALIGN, PM_BUSY. -/
theorem dmaCheck_eq : s.dmaCheck e c =
    if localRange (s.dmaLocal e c) (max 1 (s.dmaLen e c)) = false then 1
    else if s.dmaLocal e c % 4 ≠ 0 ∨ s.dmaRemote e c % 4 ≠ 0 ∨ s.dmaLen e c % 4 ≠ 0 ∨ s.dmaLen e c = 0 then 2
    else if s.f (ENG_DMA_CTRL_DIR (e / 3) (e % 3) c) = 0 ∧ localMem (s.dmaLocal e c) = 2 ∧ s.engBusy e then 3
    else 0 := by
  simp only [State.dmaCheck, Bool.not_eq_true']

theorem exec_dmaAbort (hg : s.gate m (ENG_DMA_CTRL (e / 3) (e % 3) c) = .pass) (h : (s.answer (.ok 0)).dmaAbort e c = t) :
    exec (.dmaAbort m e c) s = .next t := h ▸ exec_viaWrite_pass (·.dmaAbort e c) rfl hg

theorem dmaAbort_busy (hb : s.dmaBusy e c = true) : s.dmaAbort e c =
    (s.updEng e fun g => g.setDma c { g.dmaOf c with err := if (g.dmaOf c).err = 0 then 5 else (g.dmaOf c).err }).dmaSettle e c :=
  if_pos hb

theorem dmaAbort_idle (hb : s.dmaBusy e c = false) : s.dmaAbort e c = s := if_neg (ne_true_of_eq_false hb)

section Response

variable {tag : Nat} {em : Bool} {r : Packet} {q : DmaReq}

theorem exec_dmaResponse_none (hr : s.rspFor (engineNode e) tag = none) : exec (.dmaResponse e tag em) s = .next s := by
  show execDmaResponse e tag em s = _
  rw [execDmaResponse, State.dmaResponse, hr]

/-- The status that a request ends with: a response with an EM tail, or one that was cut short, is an error (R160, R212). -/
def dmaStatus (em : Bool) (r : Packet) : Nat := if em ∨ r.ended then stErr else r.status

theorem dmaStatus_ok (h : em = false ∧ r.ended = false ∧ r.status = stOk) : dmaStatus em r = stOk := by
  obtain ⟨hem, hended, hst⟩ := h
  rw [dmaStatus, if_neg (by rw [hem, hended]; decide), hst]

theorem dmaStatus_notOk (h : em = true ∨ r.ended = true ∨ r.status ≠ stOk) : dmaStatus em r ≠ stOk := by
  unfold dmaStatus
  split
  · decide
  · next hclean => simpa [not_or.mp hclean] using h

/-- The channel that the response finds, without the request that it answers. -/
def channelAnswered (s : State) (e tag : Nat) : Dma :=
  { ((s.takeRsp (engineNode e) tag).engAt e).dmaOf (tag / 128) with
    out := (((s.takeRsp (engineNode e) tag).engAt e).dmaOf (tag / 128)).out.filter fun x => decide (x.tag ≠ tag) }

section Arrived

variable (hr : s.rspFor (engineNode e) tag = some r) (hf : s.rspFenced (engineNode e) = false)

include hr hf

/-- A response whose memory is with its BIST copy waits. -/
theorem exec_dmaResponse_held
    (hh : ((s.engAt e).dmaOf (tag / 128)).out.any (fun q => decide (q.tag = tag) && s.memHeld e q.addr) = true) :
    exec (.dmaResponse e tag em) s = .next s := by
  show execDmaResponse e tag em s = _
  rw [execDmaResponse, State.dmaResponse, hr]
  exact congrArg Host.Outcome.next ((if_neg (ne_true_of_eq_false hf)).trans (if_pos hh))

variable (hq : (((s.takeRsp (engineNode e) tag).engAt e).dmaOf (tag / 128)).out.find? (fun x => decide (x.tag = tag)) = some q)
  (hh : ((s.engAt e).dmaOf (tag / 128)).out.any (fun q => decide (q.tag = tag) && s.memHeld e q.addr) = false)

include hq hh

theorem dmaResponse_eq : s.dmaResponse e tag em =
    let u := s.takeRsp (engineNode e) tag
    let d := if dmaStatus em r ≠ stOk ∧ (channelAnswered s e tag).err = 0
      then { channelAnswered s e tag with err := 4, rst := dmaStatus em r } else channelAnswered s e tag
    let u := u.setEng e ((u.engAt e).setDma (tag / 128) d)
    let u := if dmaStatus em r = stOk then u.dmaOk e (tag / 128) q r else u
    (State.dmaPump e (tag / 128) 16 u).dmaSettle e (tag / 128) := by
  rw [State.dmaResponse, hr]
  refine (if_neg (ne_true_of_eq_false hf)).trans ((if_neg (ne_true_of_eq_false hh)).trans ?_)
  simp only [hq]
  rfl

theorem exec_dmaResponse_ok (h : em = false ∧ r.ended = false ∧ r.status = stOk) : exec (.dmaResponse e tag em) s = .next (
    let u := ((s.takeRsp (engineNode e) tag).setEng e (((s.takeRsp (engineNode e) tag).engAt e).setDma (tag / 128)
      (channelAnswered s e tag))).dmaOk e (tag / 128) q r
    (State.dmaPump e (tag / 128) 16 u).dmaSettle e (tag / 128)) := by
  refine congrArg Host.Outcome.next ((dmaResponse_eq hr hf hq hh).trans ?_)
  simp only [dmaStatus_ok h, ne_eq, not_true_eq_false, false_and, if_true, if_false]

/-- The first response that is not OK ends the sending. -/
theorem exec_dmaResponse_notOk (h : em = true ∨ r.ended = true ∨ r.status ≠ stOk) : exec (.dmaResponse e tag em) s = .next (
    let d := if (channelAnswered s e tag).err = 0
      then { channelAnswered s e tag with err := 4, rst := dmaStatus em r } else channelAnswered s e tag
    (State.dmaPump e (tag / 128) 16 ((s.takeRsp (engineNode e) tag).setEng e
      (((s.takeRsp (engineNode e) tag).engAt e).setDma (tag / 128) d))).dmaSettle e (tag / 128)) := by
  refine congrArg Host.Outcome.next ((dmaResponse_eq hr hf hq hh).trans ?_)
  simp only [dmaStatus_notOk h, ne_eq, not_false_eq_true, true_and, if_false]

end Arrived

end Response

end Dma

/-- Settles O39: a beat by its port, a request by its fence, its place and its memory, a channel by its state, its check and its
responses. -/
theorem engineStreamAndDmaCommands : Obligations.EngineStreamAndDmaCommands := by
  unfold Obligations.EngineStreamAndDmaCommands
  exact ⟨fun s e port d hup hc hp hroom => exec_streamBeat_input hup hc hp hroom,
    fun s e port d hup hc hp hfull => exec_streamBeat_inputFull hup hc hp hfull,
    fun s e port d b t hup hc hp hf => exec_streamBeat_output hup hc hp hf,
    fun s e port d h => exec_streamBeat_still h,
    fun s m e p lo hg hpend hroom => exec_streamFlush hg (flushPort_sends hpend hroom),
    fun s m e p hg h => exec_streamFlush hg (flushPort_still h),
    fun s e p hp hh => exec_engNapRequest_serves hp hh, fun s e p hp hh => exec_engNapRequest_held hp hh,
    fun s e hp => exec_engNapRequest_none hp,
    fun s e p hc hf hr ha hw hm => serveEng_writes hc hf (misplaced_eq_false hr ha) hw hm,
    fun s e p hc hf hr ha hw => serveEng_reads hc hf (misplaced_eq_false hr ha) hw,
    fun s e p hc hf => serveEng_fenced hc hf, fun s e p hfence h => serveEng_errs hfence h,
    fun s m e c hg hb => exec_dmaGo hg (dmaGo_busy hb), fun s m e c hg hb hr => exec_dmaGo hg (dmaGo_fails hb hr),
    fun s m e c hg hb hr => exec_dmaGo hg (dmaGo_starts hb hr), fun s e c => dmaCheck_eq,
    fun s m e c hg hb => exec_dmaAbort hg (dmaAbort_busy hb), fun s m e c hg hb => exec_dmaAbort hg (dmaAbort_idle hb),
    fun s e tag em r q hr hf hq hh h => exec_dmaResponse_ok hr hf hq hh h,
    fun s e tag em r q hr hf hq hh h => exec_dmaResponse_notOk hr hf hq hh h,
    fun s e tag em r hr hf hh => exec_dmaResponse_held hr hf hh, fun s e tag em hr => exec_dmaResponse_none hr⟩

/-! ## Trio power (R213, R215) -/

section Trio

variable {n v us : Nat}

/-- What a write of REQ does behind the access check. -/
def reqWrite (m : Master) (n v : Nat) (s : State) : State :=
  if v % 4 = 3 then s.logDrop m .badCode (ENG_TRIO_PWR n) else (s.trioReq n (v % 4)).trioMirror n

theorem exec_reqWrite (hg : s.gate m (ENG_TRIO_PWR n) = .pass) (h : reqWrite m n v (s.answer (.ok 0)) = t) :
    exec (.trioPwrReq m n v) s = .next t := h ▸ exec_viaWrite_pass (reqWrite m n v) rfl hg

theorem exec_trioPwrReq_badCode (hg : s.gate m (ENG_TRIO_PWR n) = .pass) (hv : v % 4 = 3) :
    exec (.trioPwrReq m n v) s = .next ((s.answer (.ok 0)).logDrop m .badCode (ENG_TRIO_PWR n)) :=
  exec_reqWrite hg (if_pos hv)

theorem exec_trioPwrReq (hg : s.gate m (ENG_TRIO_PWR n) = .pass) (hv : v % 4 ≠ 3)
    (h : (s.answer (.ok 0)).trioReq n (v % 4) = t) : exec (.trioPwrReq m n v) s = .next (t.trioMirror n) :=
  exec_reqWrite hg (h ▸ if_neg hv)

/-- The trio with REQ written. -/
def reqWritten (s : State) (n v : Nat) : State := s.setF (ENG_TRIO_PWR_REQ n) v

/-- A trio in a transition or a clear. -/
def inMotion (s : State) (n : Nat) : Prop := s.f (ENG_TRIO_PWR_STATE n) = 3 ∨ s.f (ENG_TRIO_PWR_CLEARING n) = 1

theorem trioReq_kept (h : inMotion (reqWritten s n v) n) :
    s.trioReq n v = (reqWritten s n v).setTrio n { (reqWritten s n v).trioAt n with kept := some v } := if_pos h

theorem trioReq_tries (h : ¬ inMotion (reqWritten s n v) n) (ht : (reqWritten s n v).trioTry n v = t) : s.trioReq n v = t :=
  (if_neg h).trans ht

theorem trioTry_there (h : v = s.f (ENG_TRIO_PWR_STATE n)) : s.trioTry n v = s.setF (ENG_TRIO_PWR_ERR n) 0 := if_pos h

theorem trioTry_inUse (hv : v ≠ s.f (ENG_TRIO_PWR_STATE n)) (hu : v < 2 ∧ s.trioInUse n = true) : s.trioTry n v =
    s.setFs [(ENG_TRIO_PWR_REQ n, s.f (ENG_TRIO_PWR_STATE n)), (ENG_TRIO_PWR_ERR n, 1)] := (if_neg hv).trans (if_pos hu)

theorem trioTry_starts (hv : v ≠ s.f (ENG_TRIO_PWR_STATE n)) (hu : 2 ≤ v ∨ s.trioInUse n = false) :
    s.trioTry n v = s.trioStart n v := by
  refine (if_neg hv).trans (if_neg ?_)
  rintro ⟨hleaves, huse⟩
  exact hu.elim (Nat.not_le.mpr hleaves) fun hfree => ne_true_of_eq_false hfree huse

theorem exec_trioPwrEnd_steady (h : s.f (ENG_TRIO_PWR_STATE n) ≠ 3) : exec (.trioPwrEnd n us) s = .next s :=
  congrArg Host.Outcome.next (if_pos h)

theorem exec_trioClearEnd_clearing (h : s.bit (ENG_TRIO_PWR_CLEARING n) = true) :
    exec (.trioClearEnd n) s = .next (((s.setF (ENG_TRIO_PWR_CLEARING n) 0).trioKept n).trioMirror n) :=
  congrArg Host.Outcome.next (if_pos h)

theorem exec_trioClearEnd_clear (h : s.bit (ENG_TRIO_PWR_CLEARING n) = false) : exec (.trioClearEnd n) s = .next s :=
  congrArg Host.Outcome.next (if_neg (ne_true_of_eq_false h))

end Trio

/-- Settles O40: a request by its code, by what the trio does and by its use; the end of a transition and of a clear. -/
theorem trioPowerCommands : Obligations.TrioPowerCommands := by
  unfold Obligations.TrioPowerCommands
  exact ⟨fun s m n v hg hv => exec_trioPwrReq_badCode hg hv,
    fun s m n v hg hv hmove => exec_trioPwrReq hg hv (trioReq_kept hmove),
    fun s m n v hg hv hstill hthere => exec_trioPwrReq hg hv (trioReq_tries hstill (trioTry_there hthere)),
    fun s m n v hg hv hstill hother hu => exec_trioPwrReq hg hv (trioReq_tries hstill (trioTry_inUse hother hu)),
    fun s m n v hg hv hstill hother hu => exec_trioPwrReq hg hv (trioReq_tries hstill (trioTry_starts hother hu)),
    fun s n us h => congrArg Host.Outcome.next (if_neg (not_not_intro h)), fun s n us h => exec_trioPwrEnd_steady h,
    fun s n h => exec_trioClearEnd_clearing h, fun s n h => exec_trioClearEnd_clear h⟩

end Sys2Proof.Proofs.DspEngines
end

section
/-! Run control of the engines (09_engine_programming.md R233 to R241): START, STEP, STOP and CLRREG, how a stop and a stall end,
the watchdog, ENG_REGDATA, and what a completion, an exception and HALT record. -/

namespace Sys2Proof.Proofs.EngineRunControl

open Sys2Proof Sys2Proof.Machine Sys2Proof.Machine.Reg
open Sys2Proof.Proofs.FabricBlocks (exec_viaWrite_pass)

variable {s t u : State} {m : Master} {e : Nat}

/-! ## START, STEP, STOP and CLRREG (R233, R234) -/

section Command

variable {cyc : Nat}

section Write

variable (hg : s.gate m (ENG_CTRL (e / 3) (e % 3)) = .pass)

include hg

theorem exec_engStart (h : (s.answer (.ok 0)).engStart e = t) : exec (.engStart m e) s = .next t :=
  h ▸ exec_viaWrite_pass (·.engStart e) rfl hg

theorem exec_engStep (h : (s.answer (.ok 0)).engStep e cyc = t) : exec (.engStep m e cyc) s = .next t :=
  h ▸ exec_viaWrite_pass (·.engStep e cyc) rfl hg

theorem exec_engStop (h : (s.answer (.ok 0)).engStopTo e 0 = t) : exec (.engStop m e) s = .next t :=
  h ▸ exec_viaWrite_pass (·.engStopTo e 0) rfl hg

theorem exec_engClrreg (h : (s.answer (.ok 0)).engClrregCmd e = t) : exec (.engClrreg m e) s = .next t :=
  h ▸ exec_viaWrite_pass (·.engClrregCmd e) rfl hg

end Write

theorem engStart_busy (hb : s.engBusy e = true) : s.engStart e = s.busy (ENG_DP_FLAGS_FIELD_BUSY (e / 3) (e % 3)) := if_pos hb

theorem engStep_busy (hb : s.engBusy e = true) : s.engStep e cyc = s.busy (ENG_DP_FLAGS_FIELD_BUSY (e / 3) (e % 3)) := if_pos hb

theorem engClrregCmd_busy (hb : s.engBusy e = true) :
    s.engClrregCmd e = s.busy (ENG_DP_FLAGS_FIELD_BUSY (e / 3) (e % 3)) := if_pos hb

theorem engClrregCmd_idle (hb : s.engBusy e = false) : s.engClrregCmd e = s.engClrReg e := if_neg (ne_true_of_eq_false hb)

section Idle

variable (hb : s.engBusy e = false)

include hb

theorem engStart_down (hup : s.trioUp (e / 3) = false) : s.engStart e = s :=
  (if_neg (ne_true_of_eq_false hb)).trans (if_pos (by rw [hup]; rfl))

section Up

variable (hup : s.trioUp (e / 3) = true)

include hup

/-- A START waits while a self-test slice holds the engine's program bank. -/
theorem engStart_waits (hp : s.progSlice e = true) : s.engStart e = s.updBist fun b => { b with start := b.start ++ [e] } :=
  (if_neg (ne_true_of_eq_false hb)).trans ((if_neg (by rw [hup]; decide)).trans (if_pos hp))

theorem engStart_runs (hp : s.progSlice e = false) : s.engStart e =
    (((s.excClear e).updEng e fun g => { g with stall := none, stepping := false, merge := none }).wdtReload e).setEngState e
      (if s.engHeld e then 4 else 1) :=
  (if_neg (ne_true_of_eq_false hb)).trans ((if_neg (by rw [hup]; decide)).trans (if_neg (ne_true_of_eq_false hp)))

/-- An engine that is about to run the one instruction of a STEP. -/
def stepped (s : State) (e : Nat) : State :=
  ((s.updEng e fun g => { g with stall := none, stepping := true, merge := none }).wdtReload e).setEngState e 1

theorem engStep_clocked (hc : (stepped s e).engClocked e = true) : s.engStep e cyc =
    let w := (s.engAt e).progWord (s.engPc e)
    (stepped s e).engRun e ⟨bitsOf w 57 54, cyc⟩ (decodeEng w) :=
  (if_neg (ne_true_of_eq_false hb)).trans ((if_neg (by rw [hup]; decide)).trans (if_pos hc))

theorem engStep_gated (hc : (stepped s e).engClocked e = false) : s.engStep e cyc =
    let w := (s.engAt e).progWord (s.engPc e)
    (stepped s e).updEng e fun g => { g with stall := some (.gated ⟨bitsOf w 57 54, 0⟩ (decodeEng w)) } :=
  (if_neg (ne_true_of_eq_false hb)).trans ((if_neg (by rw [hup]; decide)).trans (if_neg (ne_true_of_eq_false hc)))

end Up

end Idle

theorem engStopTo_running {tgt : Nat} (h : s.engState e = 1) :
    s.engStopTo e tgt = (s.updEng e fun g => { g with stopTo := tgt }).setEngState e 5 := if_pos h

theorem engStopTo_notRunning {tgt : Nat} (h : s.engState e ≠ 1) : s.engStopTo e tgt = s := if_neg h

end Command

/-! ## The end of a stop (R234, R235) -/

section StopEnd

theorem exec_engStopEnd_none (h : s.engState e ≠ 5 ∨ (s.engAt e).stall.isSome) : exec (.engStopEnd e) s = .next s :=
  congrArg Host.Outcome.next (if_pos h)

variable (hs : s.engState e = 5) (hw : (s.engAt e).stall = none)

include hs hw

theorem stopEnds : ¬ (s.engState e ≠ 5 ∨ (s.engAt e).stall.isSome = true) := by rw [hs, hw]; decide

theorem exec_engStopEnd_mergeUe {a : Nat} (hm : (s.engAt e).merge = some a) :
    exec (.engStopEnd e) s = .next (s.engExc e 3 0 a) :=
  congrArg Host.Outcome.next ((if_neg (stopEnds hs hw)).trans (by rw [hm]))

variable (hm : (s.engAt e).merge = none)

include hm

theorem exec_engStopEnd_wdt (hto : (s.engAt e).stopTo = 3) : exec (.engStopEnd e) s = .next (s.engExc e 7 0 (s.engPc e)) :=
  congrArg Host.Outcome.next ((if_neg (stopEnds hs hw)).trans (by rw [hm]; exact if_pos hto))

/-- A halt that has been cleared meanwhile releases the engine. -/
theorem exec_engStopEnd_stops (hto : (s.engAt e).stopTo ≠ 3) : exec (.engStopEnd e) s = .next (
    if (s.engAt e).stopTo = 4 ∧ s.engHeld e = false then (s.setEng e { s.engAt e with stepping := false }).engResume e
    else (s.setEng e { s.engAt e with stepping := false }).setEngState e (s.engAt e).stopTo) := by
  refine congrArg Host.Outcome.next ((if_neg (stopEnds hs hw)).trans ?_)
  simp only [hm, if_neg hto, Bool.not_eq_true']

end StopEnd

/-! ## Stalls (R197, R214, R218, R234) -/

section Stall

variable {cyc : Nat}

/-- The state with the cycles of a stall counted; those of a stall on a stream port count in STALL_CYCLES too (R218). -/
def stallCounted (s : State) (e : Nat) (st : Stall) (cyc : Nat) : State :=
  (if st.onStream then s.count (ENG_STRM_STALL_CYCLES (e / 3) (e % 3)) cyc else s).count (ENG_CYCLES_COUNT (e / 3) (e % 3)) cyc

theorem exec_engStallRelease_unstalled (h : (s.engAt e).stall = none) : exec (.engStallRelease e cyc) s = .next s := by
  show execEngStallRelease e cyc s = _
  rw [execEngStallRelease, h]

theorem exec_engStallRelease_gated (hc : s.engClocked e = false) : exec (.engStallRelease e cyc) s = .next s := by
  cases hst : (s.engAt e).stall with
  | none => exact exec_engStallRelease_unstalled hst
  | some st =>
    show execEngStallRelease e cyc s = _
    rw [execEngStallRelease, hst]
    exact congrArg Host.Outcome.next (if_pos (by rw [hc]; rfl))

section Clocked

variable (hc : s.engClocked e = true)

include hc

theorem clocked_not_gated : ¬ (!s.engClocked e) = true := by rw [hc]; decide

variable {is : Issue} {op : EngOp}

/-- The instruction that waited is issued again. -/
theorem exec_engStallRelease_retry (h : (s.engAt e).stall = some (.retry is op)) : exec (.engStallRelease e cyc) s = .next (
    ((stallCounted s e (.retry is op) cyc).setEng e { s.engAt e with stall := none }).engRun e { is with cyc := 0 } op) := by
  show execEngStallRelease e cyc s = _
  rw [execEngStallRelease, h]
  exact congrArg Host.Outcome.next (if_neg (clocked_not_gated hc))

theorem exec_engStallRelease_step (h : (s.engAt e).stall = some (.gated is op)) : exec (.engStallRelease e cyc) s = .next (
    ((stallCounted s e (.gated is op) cyc).setEng e { s.engAt e with stall := none }).engRun e { is with cyc := 0 } op) := by
  show execEngStallRelease e cyc s = _
  rw [execEngStallRelease, h]
  exact congrArg Host.Outcome.next (if_neg (clocked_not_gated hc))

/-- The stream word that waited goes out, and its instruction completes. -/
theorem exec_engStallRelease_word {i w : Nat} {g : Eng} (h : (s.engAt e).stall = some (.word i w))
    (hu : u = stallCounted s e (.word i w) cyc) (hw : (s.engAt e).streamWrite i (u.pack e i) w = some g) :
    exec (.engStallRelease e cyc) s =
      .next ((u.setEng e { g with stall := none }).engDone e (u.engPc e) (u.engPc e) false true) := by
  subst hu
  show execEngStallRelease e cyc s = _
  rw [execEngStallRelease, h]
  refine congrArg Host.Outcome.next ((if_neg (clocked_not_gated hc)).trans ?_)
  simp only [stallCounted] at hw ⊢
  simp only [hw]

end Clocked

theorem exec_engStallAbandon_none (h : s.engState e ≠ 5 ∨ (s.engAt e).stall = none) :
    exec (.engStallAbandon e) s = .next s := by
  by_cases hs : s.engState e = 5
  · show execEngStallAbandon e s = _
    rw [execEngStallAbandon, h.resolve_left (not_not_intro hs)]
    exact congrArg Host.Outcome.next (if_neg (not_not_intro hs))
  · exact congrArg Host.Outcome.next (if_pos hs)

section Abandoned

variable (hs : s.engState e = 5)

include hs

theorem exec_engStallAbandon_retry {is : Issue} {op : EngOp} (h : (s.engAt e).stall = some (.retry is op)) :
    exec (.engStallAbandon e) s = .next (s.setEng e { s.engAt e with stall := none }) := by
  show execEngStallAbandon e s = _
  rw [execEngStallAbandon, h]
  exact congrArg Host.Outcome.next (if_neg (not_not_intro hs))

theorem exec_engStallAbandon_word {i w : Nat} (h : (s.engAt e).stall = some (.word i w)) :
    exec (.engStallAbandon e) s = .next
      (((s.setEng e { s.engAt e with stall := none }).setF (ENG_STATUS_LOST_WORD (e / 3) (e % 3)) 1).engRetire e) := by
  show execEngStallAbandon e s = _
  rw [execEngStallAbandon, h]
  exact congrArg Host.Outcome.next (if_neg (not_not_intro hs))

end Abandoned

end Stall

/-! ## The watchdog (R236, R237) -/

theorem exec_engWdtExpire_stops (hs : s.engState e = 1) (hen : s.f (ENG_WDT_EN (e / 3) (e % 3)) = 1)
    (h0 : s.f (ENG_WDT_COUNT_COUNT (e / 3) (e % 3)) = 0) : exec (.engWdtExpire e) s = .next (s.engStopTo e 3) :=
  congrArg Host.Outcome.next (if_pos ⟨hs, hen, h0⟩)

theorem exec_engWdtExpire_none (h : s.engState e ≠ 1 ∨ s.f (ENG_WDT_EN (e / 3) (e % 3)) ≠ 1 ∨
    s.f (ENG_WDT_COUNT_COUNT (e / 3) (e % 3)) ≠ 0) : exec (.engWdtExpire e) s = .next s :=
  congrArg Host.Outcome.next
    (if_neg fun ⟨hs, hen, h0⟩ => h.elim (· hs) fun h => h.elim (· hen) (· h0))

/-! ## ENG_REGDATA (R240, R241) -/

section Regdata

variable {v : Nat}

theorem exec_engRegdataWrite (hg : s.gate m (ENG_REGDATA (e / 3) (e % 3)) = .pass)
    (h : (s.answer (.ok 0)).setRegdata m e v = t) : exec (.engRegdataWrite m e v) s = .next t :=
  h ▸ exec_viaWrite_pass (·.setRegdata m e v) rfl hg

theorem setRegdata_busy (hb : s.engBusy e = true) :
    s.setRegdata m e v = s.busy (ENG_DP_FLAGS_FIELD_BUSY (e / 3) (e % 3)) := if_pos hb

theorem setRegdata_idle {n : Nat} (hb : s.engBusy e = false) (hn : n = s.f (ENG_REGSEL_NUM (e / 3) (e % 3))) :
    s.setRegdata m e v =
      if n < 46 then s.setEngReg e n v
      else if 64 ≤ n ∧ n < 68 then
        s.updEng e fun g => { g with lsRange := nput g.lsRange (n - 64) (bitsOf v 27 16 * 2 ^ 16 + bitsOf v 11 0) }
      else if 68 ≤ n ∧ n < 72 then s.updEng e fun g => { g with lsCount := nput g.lsCount (n - 68) (v % 2 ^ 16) }
      else if n = 72 then s.setLdepth e (min 4 (v % 8))
      else if 80 ≤ n ∧ n < 88 then s.updEng e fun g => { g with cs := nput g.cs (n - 80) (v % 2 ^ 12) }
      else if n = 88 then s.setCdepth e (min 8 (v % 16))
      else s.logDrop m .badCode (ENG_REGDATA (e / 3) (e % 3)) := by
  subst hn
  exact if_neg (ne_true_of_eq_false hb)

end Regdata

/-! ## Completion and HALT (R234, R235, R239) -/

section Done

variable {pc npc : Nat} {cnt ue : Bool} (hu : u = if cnt then (s.setEngPc e npc).engRetire e else s.setEngPc e npc)

include hu

/-- The MERGE_UE that is due from the instruction before is taken now. -/
theorem engDone_mergeDue {a : Nat} (hm : (u.engAt e).merge = some a) : s.engDone e pc npc ue cnt = u.engExc e 3 0 a := by
  subst hu
  simp only [State.engDone, hm]

variable (hm : (u.engAt e).merge = none) (hs : (u.engAt e).stepping = false)

include hm hs

theorem engDone_completes : s.engDone e pc npc false cnt = u := by
  subst hu
  simp only [State.engDone, hm, hs, Bool.false_eq_true, if_false]

/-- A merge error of this instruction's store is due after the next one. -/
theorem engDone_mergeError : s.engDone e pc npc true cnt = u.setEng e { u.engAt e with merge := some pc } := by
  subst hu
  simp only [State.engDone, hm, hs, Bool.false_eq_true, if_true, if_false]

end Done

theorem engHalt_halts {code : Nat} (hu : u = (s.setEngPc e ((s.engPc e + 1) % 4096)).engRetire e)
    (hm : (u.engAt e).merge = none) : s.engHalt e code =
      let v := (u.updEng e fun g => { g with stepping := false }).setFs
        [(ENG_STATUS_STATE (e / 3) (e % 3), 2), (ENG_STATUS_HALT_CODE (e / 3) (e % 3), code)]
      (v.raise .ENG_HALT true (u.engLease e) e).brEng e 1 := by
  unfold State.engHalt
  rw [← hu]
  simp only [hm]

/-- Settles O41: each command by what the engine, its trio and its clock do; a stop and a stall by what was in flight. -/
theorem engineRunControlCommands : Obligations.EngineRunControlCommands := by
  unfold Obligations.EngineRunControlCommands
  exact ⟨fun s m e hg hb => exec_engStart hg (engStart_busy hb), fun s m e cyc hg hb => exec_engStep hg (engStep_busy hb),
    fun s m e hg hb => exec_engClrreg hg (engClrregCmd_busy hb),
    fun s m e hg hb hup hp => exec_engStart hg (engStart_runs hb hup hp),
    fun s m e hg hb hup hp => exec_engStart hg (engStart_waits hb hup hp),
    fun s m e hg hb hup => exec_engStart hg (engStart_down hb hup),
    fun s m e cyc hg hb hup hc => exec_engStep hg (engStep_clocked hb hup hc),
    fun s m e cyc hg hb hup hc => exec_engStep hg (engStep_gated hb hup hc),
    fun s m e hg hb => exec_engClrreg hg (engClrregCmd_idle hb),
    fun s m e hg hs => exec_engStop hg (engStopTo_running hs), fun s m e hg hs => exec_engStop hg (engStopTo_notRunning hs),
    fun s e a hs hw hm => exec_engStopEnd_mergeUe hs hw hm, fun s e hs hw hm hto => exec_engStopEnd_wdt hs hw hm hto,
    fun s e hs hw hm hto => exec_engStopEnd_stops hs hw hm hto, fun s e => rfl, fun s e h => exec_engStopEnd_none h,
    fun s e cyc is op h hc => exec_engStallRelease_retry hc h, fun s e cyc is op h hc => exec_engStallRelease_step hc h,
    fun s e cyc hc => exec_engStallRelease_gated hc,
    fun s e cyc i w g h hc hw => exec_engStallRelease_word hc h rfl hw,
    fun s e cyc h => exec_engStallRelease_unstalled h,
    fun s e is op hs h => exec_engStallAbandon_retry hs h, fun s e i w hs h => exec_engStallAbandon_word hs h,
    fun s e h => exec_engStallAbandon_none h,
    fun s e hs hen h0 => exec_engWdtExpire_stops hs hen h0, fun s e h => exec_engWdtExpire_none h,
    fun s m e v hg hb => exec_engRegdataWrite hg (setRegdata_busy hb),
    fun s m e v n hg hb hn => exec_engRegdataWrite hg (setRegdata_idle hb hn),
    fun s e pc npc cnt u hu hm hs => engDone_completes hu hm hs,
    fun s e pc npc cnt u hu hm hs => engDone_mergeError hu hm hs,
    fun s e pc npc cnt ue u a hu hm => engDone_mergeDue hu hm, fun s e cause detail pc => rfl,
    fun s u e code hu hm => engHalt_halts hu hm⟩

end Sys2Proof.Proofs.EngineRunControl
end

section
/-! The stacked DRAM (10_stacked_dram_controller.md): what HBM reads after a write, and how a controller moves between its
states, by time, by the parity of its link and by command. -/

namespace Sys2Proof.Proofs.DramController

open Sys2Proof Sys2Proof.Machine Sys2Proof.Machine.Reg
open Sys2Proof.Proofs.FabricBlocks (exec_viaWrite_pass)

/-! ## Reads after writes of HBM (R157, R261) -/

section Hbm

variable {s : State} {a : Nat} {l : List Byte} {en : List Bool}

/-- A write of one byte under its enable. -/
theorem byte_setByteEn (s : State) (a c : Nat) (b : Byte) (e : Bool) :
    (if e then s.setByte a b else s).byte c = if c = a ∧ e = true then b else s.byte c := by
  cases e with
  | false => simp
  | true => simp [State.byte_setByte]

/-- Within the range of a write an enabled byte reads as written, and any other as before. -/
theorem byte_setBytesEn (hlen : en.length = l.length) {i : Nat} (hi : i < l.length) :
    (s.setBytesEn a l en).byte (a + i) = if en[i]? = some true then l[i] else s.byte (a + i) := by
  induction l generalizing s a en i with
  | nil => exact absurd hi (Nat.not_lt_zero _)
  | cons x l ih =>
    cases en with
    | nil => cases hlen
    | cons e u =>
      rw [State.setBytesEn]
      cases i with
      | zero =>
        rw [State.byte_setBytesEn_ne _ _ _ _ _ (by omega), byte_setByteEn]
        simp
      | succ i =>
        rw [show a + (i + 1) = a + 1 + i by omega, ih (Nat.succ.inj hlen) (Nat.lt_of_succ_lt_succ hi), byte_setByteEn,
          if_neg (show ¬ (a + 1 + i = a ∧ e = true) by omega)]
        simp

theorem byte_setBytes_eq (s : State) (a c : Nat) (l : List Byte) :
    (s.setBytes a l).byte c = if h : a ≤ c ∧ c - a < l.length then l[c - a]'h.2 else s.byte c := by
  by_cases h : a ≤ c ∧ c - a < l.length
  · rw [dif_pos h]
    obtain ⟨i, rfl⟩ := Nat.exists_eq_add_of_le h.1
    simp only [Nat.add_sub_cancel_left] at h ⊢
    exact s.byte_setBytes a i l h.2
  · rw [dif_neg h, s.byte_setBytes_ne a c l (by omega)]

theorem byte_setBytesEn_eq (s : State) (a c : Nat) (hlen : en.length = l.length) :
    (s.setBytesEn a l en).byte c = if a ≤ c ∧ en[c - a]? = some true then l.getD (c - a) 0 else s.byte c := by
  by_cases h : a ≤ c ∧ c - a < l.length
  · obtain ⟨i, rfl⟩ := Nat.exists_eq_add_of_le h.1
    rw [Nat.add_sub_cancel_left] at h ⊢
    simp only [byte_setBytesEn hlen h.2, h.1, true_and, List.getD_eq_getElem?_getD, List.getElem?_eq_getElem h.2,
      Option.getD_some]
  · have hout : ¬ (a ≤ c ∧ en[c - a]? = some true) := by
      rintro ⟨ha, he⟩
      exact h ⟨ha, hlen ▸ (List.getElem?_eq_some_iff.mp he).1⟩
    rw [if_neg hout, s.byte_setBytesEn_ne a c l en (by omega)]

end Hbm

/-- Settles O14: a byte within the range of a write is at an index of the list, and any other keeps its value. -/
theorem hbmReadsAsItWasWritten : Obligations.HbmReadsAsItWasWritten := by
  unfold Obligations.HbmReadsAsItWasWritten
  exact ⟨byte_setBytes_eq, fun s a c l en hlen => byte_setBytesEn_eq s a c hlen,
    fun s a l en h => ⟨Memory.wf_setBytes s a l h, Memory.wf_setBytesEn s a l en h⟩, fun c => rfl⟩

/-! ## Conditions that fail -/

/-- A condition with a flag that must be clear fails when one of the two fails. -/
theorem not_both_of_or {p : Prop} {b : Bool} (h : ¬ p ∨ b = true) : ¬ (p ∧ (!b) = true) := by
  rintro ⟨hp, hb⟩
  rcases h with h | rfl
  · exact h hp
  · cases hb

theorem mem_pair_of_or {v a b : Nat} (h : v = a ∨ v = b) : v ∈ [a, b] :=
  List.mem_cons.mpr (h.imp_right List.mem_singleton.mpr)

theorem not_mem_pair {v a b : Nat} (h : v ≠ a ∧ v ≠ b) : v ∉ [a, b] :=
  fun hm => (List.mem_cons.mp hm).elim h.1 fun hb => h.2 (List.mem_singleton.mp hb)

/-! ## The commands of DMC_CTRL (R266, R267) -/

section Command

variable {s : State} {n : Nat} {accepted : List Nat} {act : State → State}

theorem pcCmd_calibrating (h : s.pcState n = 3 ∨ s.pcState n = 5) :
    s.pcCmd n accepted act = s.busy (DMC_STATUS_FIELD_BUSY n) := if_pos h

theorem pcCmd_accepted (hacc : 3 ∉ accepted ∧ 5 ∉ accepted) (h : s.pcState n ∈ accepted) (hr : (s.pcAt n).reel = false) :
    s.pcCmd n accepted act = act (s.setF (DMC_STATUS_ERR n) 0) := by
  refine (if_neg ?_).trans (if_pos ⟨List.contains_iff_mem.mpr h, by rw [hr]; rfl⟩)
  rintro (h3 | h5)
  · exact hacc.1 (h3 ▸ h)
  · exact hacc.2 (h5 ▸ h)

theorem pcCmd_refused (h3 : s.pcState n ≠ 3) (h5 : s.pcState n ≠ 5)
    (h : s.pcState n ∉ accepted ∨ (s.pcAt n).reel = true) :
    s.pcCmd n accepted act = s.setF (DMC_STATUS_ERR n) 3 := by
  refine (if_neg (not_or.mpr ⟨h3, h5⟩)).trans (if_neg (not_both_of_or ?_))
  exact h.imp_left (mt List.contains_iff_mem.mp)

/-- A command of a controller acts behind the check of DMC_CTRL, by the states that accept it. -/
def isPcCmd (c : Instr) (m : Master) (n : Nat) (accepted : List Nat) (act : State → State) : Prop :=
  ∀ s, exec c s = .next (s.viaWrite m (DMC_CTRL n) fun t => t.pcCmd n accepted act)

variable {m : Master}

theorem isPcCmd_recal : isPcCmd (.dmcCmdRecal m n) m n [1] (·.pcRecal n) := fun _ => rfl

theorem isPcCmd_reelIn :
    isPcCmd (.dmcCmdReelIn m n) m n [1, 4] fun s => (s.updPc n fun c => { c with reel := true }).pcReeled n := fun _ => rfl

theorem isPcCmd_payOut : isPcCmd (.dmcCmdPayOut m n) m n [2, 7] (·.pcRetrain n) := fun _ => rfl

theorem isPcCmd_retrain :
    isPcCmd (.dmcCmdRetrain m n) m n [1, 4] fun s => (if s.pcState n = 4 then s.pcWake n else s).pcRetrain n := fun _ => rfl

variable {c : Instr} (hc : isPcCmd c m n accepted act) (hg : s.gate m (DMC_CTRL n) = .pass)

include hc hg

theorem exec_pcCmd_calibrating (h : s.pcState n = 3 ∨ s.pcState n = 5) :
    exec c s = .next ((s.answer (.ok 0)).busy (DMC_STATUS_FIELD_BUSY n)) :=
  (exec_viaWrite_pass _ (hc s) hg).trans (congrArg _ (pcCmd_calibrating h))

theorem exec_pcCmd_accepted {t : State} (hacc : 3 ∉ accepted ∧ 5 ∉ accepted) (h : s.pcState n ∈ accepted)
    (hr : (s.pcAt n).reel = false) (ht : act ((s.answer (.ok 0)).setF (DMC_STATUS_ERR n) 0) = t) : exec c s = .next t :=
  ht ▸ (exec_viaWrite_pass _ (hc s) hg).trans (congrArg _ (pcCmd_accepted hacc h hr))

theorem exec_pcCmd_refused (h3 : s.pcState n ≠ 3) (h5 : s.pcState n ≠ 5)
    (h : s.pcState n ∉ accepted ∨ (s.pcAt n).reel = true) :
    exec c s = .next ((s.answer (.ok 0)).setF (DMC_STATUS_ERR n) 3) :=
  (exec_viaWrite_pass _ (hc s) hg).trans (congrArg _ (pcCmd_refused h3 h5 h))

end Command

/-! ## Time and the link (R257 to R265) -/

section Timed

variable {s : State} {n : Nat}

theorem exec_selfRefreshExit_wakes (h : s.pcState n = 4) (hi : s.pcInputEmpty n = false) :
    exec (.selfRefreshExit n) s = .next (s.pcWake n) :=
  congrArg Host.Outcome.next (if_pos ⟨h, by rw [hi]; rfl⟩)

theorem exec_selfRefreshExit_none (h : s.pcState n ≠ 4 ∨ s.pcInputEmpty n = true) :
    exec (.selfRefreshExit n) s = .next s :=
  congrArg Host.Outcome.next (if_neg (not_both_of_or h))

theorem exec_recalTimer_none (h : s.pcState n ≠ 1 ∨ s.eff (DMC_RECAL_RECAL_MS n) = 0) :
    exec (.recalTimer n) s = .next s :=
  congrArg Host.Outcome.next (if_neg fun ⟨hs, hms⟩ => h.elim (· hs) hms)

/-- The failure of the retries is counted beside the error, and counting takes no time. -/
theorem nocTime_countIf (b : Bool) (F : Fld) (k : Nat) : (if b then s.count F k else s).nocTime = s.nocTime := by
  cases b <;> rfl

theorem exec_dmcParityError_counts {kind : Nat} {failed : Bool} (h : s.pcState n = 1 ∨ s.pcState n = 5) :
    exec (.dmcParityError n kind failed) s = .next (
      let t := s.count (if kind = 0 then DMC_LINK_ERR_CA_PAR n else if kind = 1 then DMC_LINK_ERR_RD_PAR n else DMC_LINK_ERR_WR_PAR n) 1
      let t := if failed then t.count (DMC_LINK_ERR_RETRY_FAIL n) 1 else t
      let now := if failed then [s.nocTime, s.nocTime] else [s.nocTime]
      let l := ((t.pcAt n).errTimes ++ now).filter fun x => decide (s.nocTime < x + 2000000)
      let t := t.setPc n { t.pcAt n with errTimes := l }
      if (failed ∧ kind = 2) ∨ max 1 (t.eff (DMC_LINK_CFG_ERR_LIM n)) ≤ l.length then t.pcRetrain n else t) := by
  have hlive : ¬ (s.pcState n ≠ 1 ∧ s.pcState n ≠ 5) := fun ⟨h1, h5⟩ => h.elim h1 h5
  show execDmcParityError n kind failed s = _
  rw [execDmcParityError, if_neg hlive]
  simp only [nocTime_countIf, State.count_nocTime]

theorem exec_dmcInitEnd_live (h : s.pcState n = 0) (hi : (s.pcAt n).inited = false) : exec (.dmcInitEnd n) s =
    .next ((s.updPc n fun c => { c with inited := true, calTemp := s.f (DMC_REF_STATUS_TEMP n) }).setPcState n 1) :=
  congrArg Host.Outcome.next (if_pos ⟨h, by rw [hi]; rfl⟩)

theorem exec_dmcInitEnd_none (h : s.pcState n ≠ 0 ∨ (s.pcAt n).inited = true) : exec (.dmcInitEnd n) s = .next s :=
  congrArg Host.Outcome.next (if_neg (not_both_of_or h))

end Timed

/-- Settles O43: a tick, a timer and the link by the state of the controller, a command by the states that accept it. -/
theorem controllerStateCommands : Obligations.ControllerStateCommands := by
  unfold Obligations.ControllerStateCommands
  exact ⟨fun s n h => congrArg Host.Outcome.next (if_pos h), fun s n h => congrArg Host.Outcome.next (if_neg h),
    fun s n t => rfl,
    fun s n h => congrArg Host.Outcome.next (if_pos h), fun s n h => congrArg Host.Outcome.next (if_neg h),
    fun s n h hi => exec_selfRefreshExit_wakes h hi, fun s n h => exec_selfRefreshExit_none h,
    fun s n h hms => congrArg Host.Outcome.next (if_pos ⟨h, hms⟩), fun s n h => exec_recalTimer_none h,
    fun s n h => congrArg Host.Outcome.next (if_pos h), fun s n h => congrArg Host.Outcome.next (if_neg h),
    fun s m n hg h => exec_pcCmd_calibrating isPcCmd_recal hg h,
    fun s m n hg h hr => exec_pcCmd_accepted isPcCmd_recal hg (by decide) (List.mem_singleton.mpr h) hr rfl,
    fun s m n hg h3 h5 h => exec_pcCmd_refused isPcCmd_recal hg h3 h5 (h.imp_left (mt List.mem_singleton.mp)),
    fun s m n hg h => exec_pcCmd_calibrating isPcCmd_reelIn hg h,
    fun s m n hg h hr => exec_pcCmd_accepted isPcCmd_reelIn hg (by decide) (mem_pair_of_or h) hr rfl,
    fun s m n hg h3 h5 h => exec_pcCmd_refused isPcCmd_reelIn hg h3 h5 (h.imp_left not_mem_pair),
    fun s m n hg h => exec_pcCmd_calibrating isPcCmd_payOut hg h,
    fun s m n hg h hr => exec_pcCmd_accepted isPcCmd_payOut hg (by decide) (mem_pair_of_or h) hr rfl,
    fun s m n hg h3 h5 h => exec_pcCmd_refused isPcCmd_payOut hg h3 h5 (h.imp_left not_mem_pair),
    fun s m n hg h => exec_pcCmd_calibrating isPcCmd_retrain hg h,
    fun s m n hg h hr => exec_pcCmd_accepted isPcCmd_retrain hg (by decide) (mem_pair_of_or h) hr rfl,
    fun s m n hg h3 h5 h => exec_pcCmd_refused isPcCmd_retrain hg h3 h5 (h.imp_left not_mem_pair),
    fun s n => rfl,
    fun s n kind failed h => exec_dmcParityError_counts h,
    fun s n kind failed h1 h5 => congrArg Host.Outcome.next (if_pos ⟨h1, h5⟩),
    fun s n result h => congrArg Host.Outcome.next (if_pos h), fun s n result h => congrArg Host.Outcome.next (if_neg h),
    fun s n repairs us h => congrArg Host.Outcome.next (if_pos h),
    fun s n repairs us h => congrArg Host.Outcome.next (if_neg h),
    fun s n h hi => exec_dmcInitEnd_live h hi, fun s n h => exec_dmcInitEnd_none h⟩

end Sys2Proof.Proofs.DramController
end

section
/-! Error correction (11_error_correction_and_encryption.md): the notifications and records of the SRAMs, and the
scrubber. -/

namespace Sys2Proof.Proofs.ErrorCorrection

open Sys2Proof Sys2Proof.Machine Sys2Proof.Machine.Reg
open Sys2Proof.Proofs.FabricBlocks (exec_viaWrite_pass)

variable {s : State} {m : Master}

/-! ## The records and injections of the SRAMs (R275) -/

section Record

theorem exec_eccMclr (hg : s.gate m ECC_MCLR = .pass) : exec (.eccMclr m) s = .next (s.answer (.ok 0)).eccClear :=
  exec_viaWrite_pass State.eccClear rfl hg

theorem xpOn_answer (s : State) (r : Resp) (a : Nat) : (s.answer r).xpOn a = s.xpOn a := rfl

/-- A write of ARM that passes the check: it arms on the expert page, and is dropped off it. -/
def injArm (m : Master) (s : State) : State :=
  if s.xpOn ECC_XP_INJ then s.eccArm else s.dropWrite m .expert ECC_XP_INJ

theorem exec_eccInjArm (hg : s.gate m ECC_XP_INJ = .pass) :
    exec (.eccInjArm m) s = .next (injArm m (s.answer (.ok 0))) := exec_viaWrite_pass (injArm m) rfl hg

theorem exec_eccInjArm_arms (hg : s.gate m ECC_XP_INJ = .pass) (hx : s.xpOn ECC_XP_INJ = true) :
    exec (.eccInjArm m) s = .next (s.answer (.ok 0)).eccArm := by
  rw [exec_eccInjArm hg, injArm, xpOn_answer, if_pos hx]

theorem exec_eccInjArm_dropped (hg : s.gate m ECC_XP_INJ = .pass) (hx : s.xpOn ECC_XP_INJ = false) :
    exec (.eccInjArm m) s = .next ((s.answer (.ok 0)).dropWrite m .expert ECC_XP_INJ) := by
  rw [exec_eccInjArm hg, injArm, xpOn_answer, if_neg (Bool.eq_false_iff.mp hx)]

end Record

/-! ## A pass of the scrubber (R281, R282) -/

section Pass

theorem scrubGo_busy (hb : s.bit ECC_SCRUB_STATUS_BUSY = true) : s.scrubGo = s.busy ECC_SCRUB_STATUS_FIELD_BUSY :=
  if_pos hb

/-- The range in ECC_SCRUB_BASE and ECC_SCRUB_LEN is empty or leaves HBM. -/
def badRange (s : State) : Prop :=
  s.f ECC_SCRUB_LEN_UNITS * 4096 = 0 ∨
    0x2400000000 < s.f ECC_SCRUB_BASE_UNITS * 4096 + s.f ECC_SCRUB_LEN_UNITS * 4096

/-- A pass begun: the summary is cleared, and the range is the written one. -/
def scrubBegun (s : State) : State :=
  let t := s.setFs [(ECC_SCRUB_COUNT_CE, 0), (ECC_SCRUB_COUNT_UE, 0), (ECC_SCRUB_FIRST_LO_ADDR, 0),
    (ECC_SCRUB_FIRST_HI_ADDR, 0), (ECC_SCRUB_LAST_LO_ADDR, 0), (ECC_SCRUB_LAST_HI_ADDR, 0),
    (ECC_SCRUB_STATUS_SKIPPED, 0), (ECC_SCRUB_STATUS_ERR, 0), (ECC_SCRUB_STATUS_BUSY, 1)]
  { t with ecc := { t.ecc with
      scrubPos := s.f ECC_SCRUB_BASE_UNITS * 4096
      scrubEnd := s.f ECC_SCRUB_BASE_UNITS * 4096 + s.f ECC_SCRUB_LEN_UNITS * 4096 } }

theorem scrubGo_refused (hb : s.bit ECC_SCRUB_STATUS_BUSY = false) (hr : badRange s) :
    s.scrubGo = s.setF ECC_SCRUB_STATUS_ERR 1 :=
  (if_neg (Bool.eq_false_iff.mp hb)).trans (if_pos hr)

theorem scrubGo_begins (hb : s.bit ECC_SCRUB_STATUS_BUSY = false) (hr : ¬ badRange s) : s.scrubGo = scrubBegun s :=
  (if_neg (Bool.eq_false_iff.mp hb)).trans (if_neg hr)

theorem scrubAbort_running (hb : s.bit ECC_SCRUB_STATUS_BUSY = true) : s.scrubAbort = s.scrubDone 2 := if_pos hb

theorem scrubAbort_idle (hb : s.bit ECC_SCRUB_STATUS_BUSY = false) : s.scrubAbort = s := if_neg (Bool.eq_false_iff.mp hb)

theorem exec_scrubPassEnd_ends (hb : s.bit ECC_SCRUB_STATUS_BUSY = true) (he : s.ecc.scrubEnd ≤ s.ecc.scrubPos) :
    exec .scrubPassEnd s = .next (s.scrubDone 0) :=
  congrArg Host.Outcome.next (if_pos ⟨hb, he⟩)

theorem exec_scrubPassEnd_none (h : s.bit ECC_SCRUB_STATUS_BUSY = false ∨ s.ecc.scrubPos < s.ecc.scrubEnd) :
    exec .scrubPassEnd s = .next s :=
  congrArg Host.Outcome.next (if_neg fun ⟨hb, he⟩ => h.elim (Bool.eq_false_iff.mp · hb) (Nat.not_lt.mpr he))

section Write

variable {t : State} (hg : s.gate m ECC_SCRUB_CTRL = .pass)

include hg

theorem exec_scrubGo (h : (s.answer (.ok 0)).scrubGo = t) : exec (.scrubGo m) s = .next t :=
  h ▸ exec_viaWrite_pass State.scrubGo rfl hg

theorem exec_scrubAbort (h : (s.answer (.ok 0)).scrubAbort = t) : exec (.scrubAbort m) s = .next t :=
  h ▸ exec_viaWrite_pass State.scrubAbort rfl hg

end Write

end Pass

/-! ## A word of the pass (R271, R277, R281) -/

section Word

/-- The 4 KiB unit at the scrubber's position is passed over and counted. -/
def unitSkipped (s : State) : State :=
  { s.count ECC_SCRUB_STATUS_SKIPPED 1 with ecc := { s.ecc with scrubPos := (s.ecc.scrubPos / 4096 + 1) * 4096 } }

/-- The word at the scrubber's position is read through the controller's queue, corrected, noted in the summary, and passed. -/
def wordScrubbed (s : State) : State :=
  let a := s.ecc.scrubPos
  let t := s.unitRead ⟨noNode, nodeAt 27 5, opcRead, 0, 0, a, 31, 0, 0, 0, false, 0, false, 0, [], []⟩ a 32
  let l := t.wordBad a
  let t := t.checkWord a
  let t := if l.isEmpty then t else t.scrubSee a (decide (2 ≤ l.length))
  { t with ecc := { t.ecc with scrubPos := a + 32 } }

theorem exec_scrubWord_none (h : s.bit ECC_SCRUB_STATUS_BUSY = false ∨ s.ecc.scrubEnd ≤ s.ecc.scrubPos) :
    exec .scrubWord s = .next s :=
  congrArg Host.Outcome.next (if_pos (h.imp_left fun hb => by rw [hb]; rfl))

variable (hb : s.bit ECC_SCRUB_STATUS_BUSY = true) (hp : s.ecc.scrubPos < s.ecc.scrubEnd)

include hb hp

/-- Inside the range the state of the word's controller decides. -/
theorem exec_scrubWord_eq : exec .scrubWord s = .next (
    if s.pcState (s.pcOf s.ecc.scrubPos) = 2 ∨ s.pcState (s.pcOf s.ecc.scrubPos) = 7 then unitSkipped s
    else if s.pcState (s.pcOf s.ecc.scrubPos) = 4 then s.pcWake (s.pcOf s.ecc.scrubPos)
    else if s.pcState (s.pcOf s.ecc.scrubPos) ≠ 1 then s
    else wordScrubbed s) :=
  congrArg Host.Outcome.next (if_neg (by simp [hb, hp]))

theorem exec_scrubWord_skips (h : s.pcState (s.pcOf s.ecc.scrubPos) = 2 ∨ s.pcState (s.pcOf s.ecc.scrubPos) = 7) :
    exec .scrubWord s = .next (unitSkipped s) := by
  rw [exec_scrubWord_eq hb hp, if_pos h]

theorem exec_scrubWord_wakes (h : s.pcState (s.pcOf s.ecc.scrubPos) = 4) :
    exec .scrubWord s = .next (s.pcWake (s.pcOf s.ecc.scrubPos)) := by
  rw [exec_scrubWord_eq hb hp, if_neg (by simp [h]), if_pos h]

theorem exec_scrubWord_scrubs (h : s.pcState (s.pcOf s.ecc.scrubPos) = 1) : exec .scrubWord s = .next (wordScrubbed s) := by
  rw [exec_scrubWord_eq hb hp, if_neg (by simp [h]), if_neg (by simp [h]), if_neg (by simp [h])]

end Word

/-- Settles O44: a pass by BUSY and its range, a word by the state of its controller. -/
theorem errorCorrectionAndScrubCommands : Obligations.ErrorCorrectionAndScrubCommands := by
  unfold Obligations.ErrorCorrectionAndScrubCommands
  exact ⟨fun s => rfl, fun s m hg => exec_eccMclr hg,
    fun s m hg hx => exec_eccInjArm_arms hg hx, fun s m hg hx => exec_eccInjArm_dropped hg hx,
    fun s m hg hb => exec_scrubGo hg (scrubGo_busy hb),
    fun s m hg hb hr => exec_scrubGo hg (scrubGo_refused hb hr),
    fun s m hg hb hr => exec_scrubGo hg (scrubGo_begins hb hr),
    fun s m hg hb => exec_scrubAbort hg (scrubAbort_running hb), fun s m hg hb => exec_scrubAbort hg (scrubAbort_idle hb),
    fun s hb he => exec_scrubPassEnd_ends hb he, fun s h => exec_scrubPassEnd_none h,
    fun s hb hp h => exec_scrubWord_skips hb hp h, fun s hb hp h => exec_scrubWord_wakes hb hp h,
    fun s hb hp h => exec_scrubWord_scrubs hb hp h, fun s h => exec_scrubWord_none h, fun s mid row bit => rfl⟩

end Sys2Proof.Proofs.ErrorCorrection
end

section
/-! Memory encryption (11_error_correction_and_encryption.md): the life of a key slot, and the encrypted accesses that pick a
request, check it and verify its granules. -/

namespace Sys2Proof.Proofs.Encryption

open Sys2Proof Sys2Proof.Machine Sys2Proof.Machine.Reg
open Sys2Proof.Laws.Commands (encCheck_pass encCheck_refused)
open Sys2Proof.Proofs.FabricBlocks (exec_viaWrite_pass)
open Sys2Proof.Proofs.DramController (not_both_of_or)

/-! ## Key slots (R285, R286, R295, R296, R300) -/

section Slot

variable {s : State} {m : Master} {k : Nat}

theorem ksInstall_busy (h : s.ksIniting ≠ []) : s.ksInstall k = s.ksBusyAll := if_pos (by simpa using h)

/-- The slot takes the loaded key: its words are forgotten where they were loaded, and the slot initialises. -/
def keyTaken (s : State) (k : Nat) : State :=
  let ws := s.keyWords
  let t := s.updSec fun c => { c with loaded := [], keys := SMap.put (fun _ => []) c.keys k ws }
  let t := (List.range 24).foldl (fun t j => t.setF (SEC_KEYLOAD_KEY j) 0) t
  (t.setF (SEC_K_STATUS_CTR_WARN k) 0).setKs k 1

theorem ksInstall_eq (h : s.ksIniting = []) : s.ksInstall k =
    if s.installErr k ≠ 0 then s.setF (SEC_K_STATUS_ERR k) (s.installErr k)
    else keyTaken (s.setF (SEC_K_STATUS_ERR k) (s.installErr k)) k :=
  if_neg (by simp [h])

theorem ksInstall_refused (h : s.ksIniting = []) (he : s.installErr k ≠ 0) :
    s.ksInstall k = s.setF (SEC_K_STATUS_ERR k) (s.installErr k) := by
  rw [ksInstall_eq h, if_pos he]

theorem ksInstall_takes (h : s.ksIniting = []) (he : s.installErr k = 0) :
    s.ksInstall k = keyTaken (s.setF (SEC_K_STATUS_ERR k) 0) k := by
  rw [ksInstall_eq h, he, if_neg (not_not_intro rfl)]

section Write

variable {t : State} (hg : s.gate m (SEC_K_CTRL k) = .pass)

include hg

theorem exec_ksInstall (h : (s.answer (.ok 0)).ksInstall k = t) : exec (.ksInstall m k) s = .next t :=
  h ▸ exec_viaWrite_pass (·.ksInstall k) rfl hg

theorem exec_ksRetire (h : (s.answer (.ok 0)).ksRetire k = t) : exec (.ksRetire m k) s = .next t :=
  h ▸ exec_viaWrite_pass (·.ksRetire k) rfl hg

theorem exec_ksResume (h : (s.answer (.ok 0)).ksResume k = t) : exec (.ksResume m k) s = .next t :=
  h ▸ exec_viaWrite_pass (·.ksResume k) rfl hg

end Write

theorem exec_ksFlushEnd_empties (h : s.ksState k = 5) (hq : (s.sec.pend.any fun q => decide (q.k = k)) = false) :
    exec (.ksFlushEnd k) s =
      .next ((s.updSec fun c => { c with keys := SMap.put (fun _ => []) c.keys k [] }).setKs k 0) :=
  congrArg Host.Outcome.next (if_pos ⟨h, by rw [hq]; rfl⟩)

theorem exec_ksFlushEnd_none (h : s.ksState k ≠ 5 ∨ (s.sec.pend.any fun q => decide (q.k = k)) = true) :
    exec (.ksFlushEnd k) s = .next s :=
  congrArg Host.Outcome.next (if_neg (not_both_of_or h))

end Slot

/-! ## Encrypted accesses (R286, R291, R293, R294) -/

section Access

variable {s : State} {e opc st : Nat} {rd : Bool} {go : Packet → State → State} {p : Packet}

/-- An engine serves its next request of an opcode: the request is taken and checked, and goes on if it passes. -/
def encServe (e opc : Nat) (rd : Bool) (go : Packet → State → State) (s : State) : State :=
  match s.encPick e opc [] s.noc.inbox with
  | none => s
  | some p => (s.encTake p).encCheck e p rd (go p)

theorem encServe_none (hp : s.encPick e opc [] s.noc.inbox = none) : encServe e opc rd go s = s := by
  rw [encServe, hp]

theorem encServe_some (hp : s.encPick e opc [] s.noc.inbox = some p) :
    encServe e opc rd go s = (s.encTake p).encCheck e p rd (go p) := by
  rw [encServe, hp]

theorem encServe_acts (hp : s.encPick e opc [] s.noc.inbox = some p)
    (hc : (s.encTake p).encClosed p.key rd = none) (hr : (s.encTake p).encPcRefusal e p rd = none) :
    encServe e opc rd go s = go p (s.encTake p) :=
  (encServe_some hp).trans (encCheck_pass _ hc hr)

theorem encServe_closed (hp : s.encPick e opc [] s.noc.inbox = some p)
    (hc : (s.encTake p).encClosed p.key rd = some st) : encServe e opc rd go s = (s.encTake p).respond p st [] :=
  (encServe_some hp).trans (encCheck_refused _ hc)

section Command

variable {t : State}

theorem exec_encRead (h : encServe e opcRead true (fun p s => s.encReadGo e p) s = t) : exec (.encRead e) s = .next t :=
  congrArg Host.Outcome.next h

theorem exec_encWrite {tree : TreeRes} {inner : Nat}
    (h : encServe e opcWrite false (fun p s => s.encWriteGo e p tree inner) s = t) :
    exec (.encWrite e tree inner) s = .next t :=
  congrArg Host.Outcome.next h

end Command

end Access

/-! ## The end of a verification (R291 to R293) -/

section Verification

variable {s : State} {e : Nat} {t : TreeRes} {q : EncPend} {x : EncGran} {rest : List EncGran}

theorem exec_encVerifyEnd_none (h : s.sec.pend.find? (fun q => decide (q.eng = e)) = none) :
    exec (.encVerifyEnd e t) s = .next s := by
  show execEncVerifyEnd e t s = _
  rw [execEncVerifyEnd, h]

/-- The access whose last granule is verified leaves the list; a read that waited is answered with what the verifications gave. -/
def accessVerified (s : State) (e : Nat) (t : TreeRes) (q : EncPend) (x : EncGran) : State :=
  let r := s.verify e q.p x t
  let u := r.1.updSec fun c => { c with pend := replPend e none c.pend }
  let failed := q.failed || !r.2
  if q.waits then u.respond q.p (if failed then stPoison else stOk) (if failed then [] else q.data) else u

/-- A granule that is not the last leaves the access with the others, and with whether one has failed. -/
def granuleVerified (s : State) (e : Nat) (t : TreeRes) (q : EncPend) (x : EncGran) (rest : List EncGran) : State :=
  let r := s.verify e q.p x t
  r.1.updSec fun c => { c with pend := replPend e (some { q with grans := rest, failed := q.failed || !r.2 }) c.pend }

theorem exec_encVerifyEnd_eq (h : s.sec.pend.find? (fun q => decide (q.eng = e)) = some q) (hx : q.grans = x :: rest) :
    exec (.encVerifyEnd e t) s =
      .next (if rest.isEmpty then accessVerified s e t q x else granuleVerified s e t q x rest) := by
  show execEncVerifyEnd e t s = _
  rw [execEncVerifyEnd, h]
  simp only [hx]
  rfl

end Verification

/-- Settles O45: a slot's command by its state and the checks, an access by what it picks, a verification by what is left. -/
theorem keySlotAndEncryptionCommands : Obligations.KeySlotAndEncryptionCommands := by
  unfold Obligations.KeySlotAndEncryptionCommands
  exact ⟨fun s m k hg h => exec_ksInstall hg (ksInstall_busy h),
    fun s m k hg h he => exec_ksInstall hg (ksInstall_refused h he),
    fun s m k hg h he => exec_ksInstall hg (ksInstall_takes h he),
    fun s m k hg h => exec_ksRetire hg (if_pos h), fun s m k hg h => exec_ksRetire hg (if_neg h),
    fun s m k hg h => exec_ksResume hg (if_pos h), fun s m k hg h => exec_ksResume hg (if_neg h),
    fun s k h => congrArg Host.Outcome.next (if_pos h), fun s k h => congrArg Host.Outcome.next (if_neg h),
    fun s k h hq => exec_ksFlushEnd_empties h hq, fun s k h => exec_ksFlushEnd_none h,
    fun s e p hp hc hr => exec_encRead (encServe_acts hp hc hr), fun s e p st hp hc => exec_encRead (encServe_closed hp hc),
    fun s e hp => exec_encRead (encServe_none hp),
    fun s e t inner p hp hc hr => exec_encWrite (encServe_acts hp hc hr),
    fun s e t inner p st hp hc => exec_encWrite (encServe_closed hp hc),
    fun s e t inner hp => exec_encWrite (encServe_none hp),
    fun s e t q x h hx => exec_encVerifyEnd_eq h hx, fun s e t q x y rest h hx => exec_encVerifyEnd_eq h hx,
    fun s e t h => exec_encVerifyEnd_none h⟩

end Sys2Proof.Proofs.Encryption
end

section
/-! Serial lanes (12_serial_lanes_and_pcie.md): quads and their locks, records received and sent, and equalisation, PRBS,
injection and slip on a lane. -/

namespace Sys2Proof.Proofs.SerialLanes

open Sys2Proof Sys2Proof.Machine Sys2Proof.Machine.Reg
open Sys2Proof.Proofs.FabricBlocks (exec_viaWrite_pass)

/-! ## Quads (R303, R305) -/

section Quad

variable {s : State} {m : Master} {q v : Nat}

/-- Every lane of the quad is OFF. -/
abbrev quadIdle (s : State) (q : Nat) : Bool := (quadLanes q).all fun n => decide (s.laneMode n = 0)

/-- LEASE, RAW_MBD and RATE of a quad are written. -/
def quadWritten (s : State) (q v rate : Nat) : State :=
  s.setFs [(LNE_Q_CFG_LEASE q, v / 2 ^ 24 % 256), (LNE_Q_CFG_RAW_MBD q, v / 16 % 2 ^ 17), (LNE_Q_CFG_RATE q, rate)]

theorem exec_quadCfgWrite (hg : s.gate m (LNE_Q_CFG q) = .pass) :
    exec (.quadCfgWrite m q v) s = .next ((s.answer (.ok 0)).quadCfg m q v) :=
  exec_viaWrite_pass (·.quadCfg m q v) rfl hg

theorem quadCfg_tenant_busy (ht : tenantQuad q = true) (hi : quadIdle s q = false) :
    s.quadCfg m q v = s.busy (LNE_Q_STATUS_FIELD_BUSY q) := by
  simp only [State.quadCfg, ht, hi, Bool.not_false, if_true]

theorem quadCfg_other_busy (ht : tenantQuad q = false) (hi : quadIdle s q = false) :
    s.quadCfg m q v = (s.logDrop m .badCode (LNE_Q_CFG q)).busy (LNE_Q_STATUS_FIELD_BUSY q) := by
  simp only [State.quadCfg, ht, hi, Bool.not_false, if_true, Bool.false_eq_true, if_false]

theorem quadCfg_tenant_idle (ht : tenantQuad q = true) (hi : quadIdle s q = true) : s.quadCfg m q v =
    if decide (v % 8 ≠ s.quadRate q) || (rawRate (v % 8) && decide (v / 16 % 2 ^ 17 ≠ s.f (LNE_Q_CFG_RAW_MBD q)))
    then (quadWritten s q v (v % 8)).quadRestart q else quadWritten s q v (v % 8) := by
  simp only [State.quadCfg, ht, hi, Bool.not_true, Bool.false_eq_true, if_false, if_true]
  rfl

/-- The RATE of a quad that is not a tenant's stays, so that only RAW_MBD can restart its PLL. -/
theorem quadCfg_other_idle (ht : tenantQuad q = false) (hi : quadIdle s q = true) : s.quadCfg m q v =
    if rawRate (s.quadRate q) && decide (v / 16 % 2 ^ 17 ≠ s.f (LNE_Q_CFG_RAW_MBD q))
    then (quadWritten (s.logDrop m .badCode (LNE_Q_CFG q)) q v (s.quadRate q)).quadRestart q
    else quadWritten (s.logDrop m .badCode (LNE_Q_CFG q)) q v (s.quadRate q) := by
  have hsame : decide (s.quadRate q ≠ s.quadRate q) = false := decide_eq_false (not_not_intro rfl)
  simp only [State.quadCfg, ht, hi, hsame, State.f_logDrop, Bool.not_true, Bool.false_eq_true, if_false,
    Bool.false_or]
  rfl

end Quad

/-! ## Locks (R305, R306) -/

section Lock

variable {s : State} {n : Nat}

/-- The receiver without any lock. -/
def unlocked (s : State) (n : Nat) : State := s.setFs [(LNE_STATUS_CDR_LOCK n, 0), (LNE_STATUS_PCS_LOCK n, 0)]

theorem exec_laneCdrLoss_locked (h : s.bit (LNE_STATUS_CDR_LOCK n) = true) : exec (.laneCdrLoss n) s = .next (
    if (unlocked s n).laneMode n = 1
    then (unlocked s n).raise .LANE_RX_LOST true ((unlocked s n).f (LNE_Q_CFG_LEASE (quadOf n))) n
    else unlocked s n) :=
  congrArg Host.Outcome.next (if_pos h)

theorem exec_laneCdrLoss_unlocked (h : s.bit (LNE_STATUS_CDR_LOCK n) = false) : exec (.laneCdrLoss n) s = .next s :=
  congrArg Host.Outcome.next (if_neg (ne_true_of_eq_false h))

end Lock

/-! ## Received records (R306, R308, R321) -/

section Receive

variable {s t : State} {n fec : Nat} {rec : List Byte}

/-- No tenant lane in DATA with a rate and all locks. -/
def notReceiving (s : State) (n : Nat) : Prop :=
  s.laneMode n ≠ 1 ∨ tenantQuad (quadOf n) = false ∨ s.quadRate (quadOf n) = 0 ∨ s.bit (LNE_STATUS_CDR_LOCK n) = false ∨
    (pcsRate (s.quadRate (quadOf n)) = true ∧ s.bit (LNE_STATUS_PCS_LOCK n) = false)

/-- A codeword of an FEC rate is counted: `fec` 1 corrected, 2 uncorrectable. -/
def codewordCounted (s : State) (n fec : Nat) : State :=
  if 3 ≤ s.quadRate (quadOf n) ∧ s.quadRate (quadOf n) ≤ 5 then
    (if fec = 1 then s.count (LNE_FEC_CNT_CORR n) 1 else if fec = 2 then s.count (LNE_FEC_CNT_UNCORR n) 1 else s)
  else s

theorem laneRx_notReceiving (h : notReceiving s n) : s.laneRx n fec rec = s := by
  simp only [State.laneRx, Bool.not_eq_true']
  exact if_pos h

theorem laneRx_receiving (h : ¬ notReceiving s n) (ht : t = codewordCounted s n fec) : s.laneRx n fec rec =
    if rawRate (s.quadRate (quadOf n)) = true ∧ t.bit (LNE_SLIP_SLIP_DONE n) = false then t.count (LNE_DROP_RX_DROP n) 1
    else if 16384 < (t.laneAt n).rx.length + s.recSize n then t.count (LNE_DROP_RX_DROP n) 1
    else (t.updLane n fun x => { x with
      rx := x.rx ++ (rec.take (s.recSize n) ++ List.replicate (s.recSize n - rec.length) 0) }).lanePump n 16 := by
  subst ht
  simp only [State.laneRx, Bool.not_eq_true']
  exact if_neg h

/-- During a slip, or with a full buffer, the record is dropped and counted. -/
theorem laneRx_drops (h : ¬ notReceiving s n) (ht : t = codewordCounted s n fec)
    (hd : (rawRate (s.quadRate (quadOf n)) = true ∧ t.bit (LNE_SLIP_SLIP_DONE n) = false) ∨
      16384 < (t.laneAt n).rx.length + s.recSize n) :
    s.laneRx n fec rec = t.count (LNE_DROP_RX_DROP n) 1 := by
  rw [laneRx_receiving h ht]
  split
  · rfl
  · next hslip => exact if_pos (hd.resolve_left hslip)

theorem laneRx_queues (h : ¬ notReceiving s n) (ht : t = codewordCounted s n fec)
    (hslip : ¬ (rawRate (s.quadRate (quadOf n)) = true ∧ t.bit (LNE_SLIP_SLIP_DONE n) = false))
    (hroom : (t.laneAt n).rx.length + s.recSize n ≤ 16384) :
    s.laneRx n fec rec = (t.updLane n fun x => { x with
      rx := x.rx ++ (rec.take (s.recSize n) ++ List.replicate (s.recSize n - rec.length) 0) }).lanePump n 16 := by
  rw [laneRx_receiving h ht, if_neg hslip, if_neg (Nat.not_lt.mpr hroom)]

theorem exec_laneRxRecord (h : s.laneRx n fec rec = t) : exec (.laneRxRecord n fec rec) s = .next t :=
  congrArg Host.Outcome.next h

end Receive

/-! ## Sent records (R309) -/

section Transmit

variable {s : State} {q n : Nat} {p : Packet}

/-- The state without the oldest request at the quad's node. -/
def requestTaken (s : State) (q : Nat) : State :=
  s.updNoc fun x => { x with inbox := dropFirst (fun p => p.dst = quadNode q) x.inbox }

/-- The lane of quad q that a request is for. -/
def laneOf (q : Nat) (p : Packet) : Nat := 4 * q + p.addr / 4096 % 4

/-- A WRITE that the lane does not take: not in DATA, no rate, no whole records, or no room. -/
def writeRefused (s : State) (q : Nat) (p : Packet) : Prop :=
  s.laneMode (laneOf q p) ≠ 1 ∨ s.bit CFG_BOOT_STATUS_RIP = true ∨ s.quadRate q = 0 ∨
    p.data.length % s.recSize (laneOf q p) ≠ 0 ∨
    16384 < ((s.laneAt (laneOf q p)).tx.map fun p => p.data.length).foldl (· + ·) 0 + p.data.length

theorem exec_laneTxWrite_none (h : s.noc.inbox.find? (fun p => decide (p.dst = quadNode q)) = none) :
    exec (.laneTxWrite q) s = .next s := by
  show execLaneTxWrite q s = _
  rw [execLaneTxWrite, h]

theorem exec_laneTxWrite_read (h : s.noc.inbox.find? (fun p => decide (p.dst = quadNode q)) = some p)
    (hr : p.opc = opcRead) : exec (.laneTxWrite q) s = .next ((requestTaken s q).respond p stErr []) := by
  show execLaneTxWrite q s = _
  rw [execLaneTxWrite, h]
  exact congrArg Host.Outcome.next ((if_pos (by rw [hr]; decide)).trans (if_pos hr))

section Write

variable (h : s.noc.inbox.find? (fun p => decide (p.dst = quadNode q)) = some p) (hw : p.opc = opcWrite)

include h hw

theorem exec_laneTxWrite_refused (hr : writeRefused (requestTaken s q) q p) : exec (.laneTxWrite q) s =
    .next (((requestTaken s q).count (LNE_DROP_TX_REFUSED (laneOf q p)) 1).respond p stErr []) := by
  show execLaneTxWrite q s = _
  rw [execLaneTxWrite, h]
  exact congrArg Host.Outcome.next ((if_neg (not_not_intro hw)).trans (if_pos hr))

theorem exec_laneTxWrite_queued (hr : ¬ writeRefused (requestTaken s q) q p) : exec (.laneTxWrite q) s =
    .next ((requestTaken s q).setLane (laneOf q p) { (requestTaken s q).laneAt (laneOf q p) with
      tx := ((requestTaken s q).laneAt (laneOf q p)).tx ++ [p] }) := by
  show execLaneTxWrite q s = _
  rw [execLaneTxWrite, h]
  exact congrArg Host.Outcome.next ((if_neg (not_not_intro hw)).trans (if_neg hr))

end Write

theorem exec_laneTxSent_none (h : (s.laneAt n).tx = []) : exec (.laneTxSent n) s = .next s := by
  show execLaneTxSent n s = _
  rw [execLaneTxSent, h]

/-- The oldest WRITE has gone onto the line. -/
theorem exec_laneTxSent_oldest {rest : List Packet} (h : (s.laneAt n).tx = p :: rest) (hm : s.laneMode n = 1)
    (hi : s.bit (LNE_STATUS_TX_IDLE n) = false) : exec (.laneTxSent n) s = .next (
      let u := (s.updLane n fun x => { x with tx := rest }).respond p stOk []
      ({ u with out := u.out ++ [.lane n p.data] } : State).laneRunsDry n) := by
  show execLaneTxSent n s = _
  rw [execLaneTxSent, h]
  exact congrArg Host.Outcome.next (if_neg (by simp [hm, hi]))

end Transmit

/-- Settles O46: a quad by its lanes and its owner, a record by the lane's state and room, a WRITE by its checks. -/
theorem quadAndRecordCommands : Obligations.QuadAndRecordCommands := by
  unfold Obligations.QuadAndRecordCommands
  exact ⟨fun s m q v hg ht hi => (exec_quadCfgWrite hg).trans (congrArg _ (quadCfg_tenant_busy ht hi)),
    fun s m q v hg ht hi => (exec_quadCfgWrite hg).trans (congrArg _ (quadCfg_tenant_idle ht hi)),
    fun s m q v hg ht hi => (exec_quadCfgWrite hg).trans (congrArg _ (quadCfg_other_busy ht hi)),
    fun s m q v hg ht hi => (exec_quadCfgWrite hg).trans (congrArg _ (quadCfg_other_idle ht hi)),
    fun s q => rfl,
    fun s n h => congrArg _ (if_pos h), fun s n h => congrArg _ (if_neg h),
    fun s n h => congrArg _ (if_pos h), fun s n h => congrArg _ (if_neg h),
    fun s n h => exec_laneCdrLoss_locked h, fun s n h => exec_laneCdrLoss_unlocked h,
    fun s n fec rec h => exec_laneRxRecord (laneRx_notReceiving h),
    fun s n fec rec t h ht hd => exec_laneRxRecord (laneRx_drops h ht hd),
    fun s n fec rec t h ht hs hr => exec_laneRxRecord (laneRx_queues h ht hs hr),
    fun s q p h hr => exec_laneTxWrite_read h hr, fun s q p h hw hr => exec_laneTxWrite_queued h hw hr,
    fun s q p h hw hr => exec_laneTxWrite_refused h hw hr, fun s q h => exec_laneTxWrite_none h,
    fun s n p t h hm hi => exec_laneTxSent_oldest h hm hi, fun s n h => exec_laneTxSent_none h⟩

/-! ## Equalisation (R310, R312 to R316) -/

section Equalisation

variable {s : State} {n : Nat}

theorem exec_eqReload {m : Master} (hg : s.gate m LNE_GLB_CTRL = .pass) :
    exec (.eqReload m) s = .next (s.answer (.ok 0)).eqReload := exec_viaWrite_pass State.eqReload rfl hg

theorem laneRetarget_running (hm : s.laneMode n ≠ 0) (ho : s.eff (LNE_XP_EQ_CTRL_OVERRIDE n) ≠ 1) : s.laneRetarget n =
    ((s.laneNoteDefault n).updLane n fun x => { x with target := (s.laneNoteDefault n).laneTarget n }).setF
      (LNE_STATUS_WALK n) (b2n (decide ((s.laneNoteDefault n).laneCodes n ≠ (s.laneNoteDefault n).laneTarget n))) :=
  if_neg (not_or.mpr ⟨hm, ho⟩)

/-- The codes of a lane one step of its walk on. -/
def codesStepped (s : State) (n : Nat) : List Nat := walkStep (s.laneCodes n) (s.laneAt n).target

theorem exec_walkStep_walking (hw : s.bit (LNE_STATUS_WALK n) = true) (h : s.walkWaits n = false) :
    exec (.walkStep n) s = .next ((s.setLaneCodes n (codesStepped s n)).setF (LNE_STATUS_WALK n)
      (b2n (decide (codesStepped s n ≠ (s.laneAt n).target)))) :=
  congrArg Host.Outcome.next (if_neg (by simp [hw, h]))

theorem exec_walkStep_still (h : s.bit (LNE_STATUS_WALK n) = false ∨ s.walkWaits n = true) :
    exec (.walkStep n) s = .next s :=
  congrArg Host.Outcome.next (if_pos (by simpa using h))

end Equalisation

/-! ## PRBS checkers (R317 to R319) -/

section Prbs

variable {s : State} {m : Master} {n : Nat} {w : List Bool}

theorem exec_prbsClr (hg : s.gate m (LNE_PRBS_CTRL n) = .pass) :
    exec (.prbsClr m n) s = .next ((s.answer (.ok 0)).prbsClr m n) := exec_viaWrite_pass (·.prbsClr m n) rfl hg

/-- A lane in TEST: the checker judges the bits, its counts and LOCK are shown, and a reseed takes up CHK_PAT. -/
def prbsSeen (s : State) (n : Nat) (r : PrbsRun) : State :=
  let t := ((s.updLane n fun x => { x with chk := r.chk }).prbsCount n r.bits r.errs).setF (LNE_PRBS_STATUS_LOCK n) (b2n r.lock)
  let t := if r.lost then t.setF (LNE_PRBS_STATUS_LOST n) 1 else t
  if r.reseed then t.applyLive (LNE_PRBS_CTRL_CHK_PAT n) else t

theorem prbsSee_test (h : s.laneMode n = 2) : s.prbsSee n w = prbsSeen s n (s.prbsJudge n w) := if_neg (not_not_intro h)

theorem prbsSee_other (h : s.laneMode n ≠ 2) : s.prbsSee n w = s := if_pos h

variable {taps : List Nat} {x : PrbsRun} {b : Bool}

/-- A checker that is seeded and sees the bit it expects counts the agreement. -/
theorem prbsBit_agrees (hl : x.lock = false) (hs : taps.headD 0 ≤ x.chk.hist.length) (hb : b = prbsNext taps x.chk.hist)
    (hz : x.chk.hist.any id = true) : x.bit taps b =
      { x with chk := ⟨(b :: x.chk.hist).take 31, x.chk.run + 1, []⟩, lock := decide (128 ≤ x.chk.run + 1) } := by
  simp only [PrbsRun.bit, hl, Bool.false_eq_true, if_false]
  rw [if_neg (Nat.not_lt.mpr hs), if_pos ⟨hb, hz⟩]

/-- The last bits that disagreed, this one among them. -/
def wrongBits (taps : List Nat) (x : PrbsRun) (b : Bool) : List Bool :=
  ((b != prbsNext taps x.chk.hist) :: x.chk.wrong).take 128

/-- A bit at a checker with LOCK is counted, and the last 128 decide whether LOCK stays. -/
theorem prbsBit_locked (hl : x.lock = true) :
    (x.bit taps b).bits = x.bits + 1 ∧ (x.bit taps b).errs = x.errs + b2n (b != prbsNext taps x.chk.hist) ∧
      ((x.bit taps b).lock = false ↔ 64 ≤ (wrongBits taps x b).count true) := by
  simp only [PrbsRun.bit, hl, if_true, ← wrongBits.eq_1]
  split
  · next h => exact ⟨rfl, rfl, iff_of_true rfl h⟩
  · next h => exact ⟨rfl, rfl, iff_of_false (by simp) h⟩

end Prbs

/-! ## Injection (R320) -/

section Injection

variable {s : State} {m : Master} {n : Nat}

theorem exec_injGo {t : State} (hg : s.gate m (LNE_INJ n) = .pass) (h : (s.answer (.ok 0)).injGo n = t) :
    exec (.injGo m n) s = .next t := h ▸ exec_viaWrite_pass (·.injGo n) rfl hg

theorem injGo_off (h : s.laneMode n = 0) : s.injGo n = s := if_pos h

theorem injGo_notTenant (hm : s.laneMode n = 1) (ht : tenantQuad (quadOf n) = false) :
    s.injGo n = s.busy (LNE_STATUS_FIELD_BUSY n) := by
  simp only [State.injGo, hm, ht, Bool.not_false, and_self, if_true, if_neg Nat.one_ne_zero]

/-- What a GO does by INJ_MODE: stop, one flip, INJ_N flips, or a rate. -/
def injected (s : State) (n : Nat) : State :=
  match s.f (LNE_INJ_INJ_MODE n) with
  | 0 => s.updLane n fun x => { x with inj := none }
  | 1 => { s with out := s.out ++ [.laneFlip n 1] }
  | 2 => { s with out := s.out ++ [.laneFlip n (s.f (LNE_INJ_INJ_N n))] }
  | _ => s.updLane n fun x => { x with inj := some (s.f (LNE_INJ_INJ_N n)) }

theorem injGo_runs (h0 : s.laneMode n ≠ 0) (h1 : ¬ (s.laneMode n = 1 ∧ tenantQuad (quadOf n) = false)) :
    s.injGo n = injected s n :=
  (if_neg h0).trans (if_neg (by simpa using h1))

section Mode

variable {k : Nat} {t : State} (hg : s.gate m (LNE_INJ n) = .pass) (h0 : s.laneMode n ≠ 0)
  (h1 : ¬ (s.laneMode n = 1 ∧ tenantQuad (quadOf n) = false))

include hg h0 h1

theorem exec_injGo_runs (h : injected (s.answer (.ok 0)) n = t) : exec (.injGo m n) s = .next t :=
  exec_injGo hg ((injGo_runs (s := s.answer (.ok 0)) h0 h1).trans h)

end Mode

theorem injected_mode0 (h : s.f (LNE_INJ_INJ_MODE n) = 0) : injected s n = s.updLane n fun x => { x with inj := none } := by
  simp only [injected, h]

theorem injected_mode1 (h : s.f (LNE_INJ_INJ_MODE n) = 1) : injected s n = { s with out := s.out ++ [.laneFlip n 1] } := by
  simp only [injected, h]

theorem injected_mode2 (h : s.f (LNE_INJ_INJ_MODE n) = 2) :
    injected s n = { s with out := s.out ++ [.laneFlip n (s.f (LNE_INJ_INJ_N n))] } := by
  simp only [injected, h]

theorem injected_mode3 (h : s.f (LNE_INJ_INJ_MODE n) = 3) :
    injected s n = s.updLane n fun x => { x with inj := some (s.f (LNE_INJ_INJ_N n)) } := by
  simp only [injected, h]

end Injection

/-! ## Bit slip (R321) -/

section Slip

variable {s : State} {m : Master} {n w : Nat}

/-- A tenant lane in a raw mode. -/
abbrev slips (s : State) (n : Nat) : Prop := tenantQuad (quadOf n) = true ∧ rawRate (s.quadRate (quadOf n)) = true

theorem exec_slip {t : State} (hg : s.gate m (LNE_SLIP n) = .pass) (h : (s.answer (.ok 0)).slip m n = t) :
    exec (.slip m n) s = .next t := h ▸ exec_viaWrite_pass (·.slip m n) rfl hg

theorem slip_refused (h : ¬ slips s n) : s.slip m n = s.dropWrite m .badCode (LNE_SLIP n) :=
  if_pos (by
    rw [Bool.not_eq_true', Bool.not_eq_true', ← Bool.not_eq_true, ← Bool.not_eq_true]
    exact Classical.not_and_iff_not_or_not.mp h)

theorem slip_raw (h : slips s n) : s.slip m n =
    if s.bit (LNE_SLIP_SLIP_DONE n) = false then s.busy (LNE_STATUS_FIELD_BUSY n) else s.setF (LNE_SLIP_SLIP_DONE n) 0 := by
  simp only [State.slip, h, Bool.not_true, Bool.false_eq_true, or_self, if_false, Bool.not_eq_true']

theorem slip_begins (h : slips s n) (hd : s.bit (LNE_SLIP_SLIP_DONE n) = true) :
    s.slip m n = s.setF (LNE_SLIP_SLIP_DONE n) 0 :=
  (slip_raw h).trans (if_neg (by simp [hd]))

theorem slip_busy (h : slips s n) (hd : s.bit (LNE_SLIP_SLIP_DONE n) = false) :
    s.slip m n = s.busy (LNE_STATUS_FIELD_BUSY n) :=
  (slip_raw h).trans (if_pos hd)

theorem exec_slipEnd_slipping (h : s.bit (LNE_SLIP_SLIP_DONE n) = false) : exec (.slipEnd n) s =
    .next (s.setFs [(LNE_SLIP_POS n, (s.f (LNE_SLIP_POS n) + 1) % (if s.quadRate (quadOf n) = 7 then 32 else 64)),
      (LNE_SLIP_SLIP_DONE n, 1)]) :=
  congrArg Host.Outcome.next (if_neg (ne_true_of_eq_false h))

theorem exec_snap (hg : s.gate m (LNE_SLIP n) = .pass) : exec (.snap m n) s = .next ((s.answer (.ok 0)).snap n) :=
  exec_viaWrite_pass (·.snap n) rfl hg

end Slip

/-- Settles O47: lanes and checkers by their mode, injection by INJ_MODE, a slip by the quad's mode and SLIP_DONE. -/
theorem equalisationPrbsAndSlipCommands : Obligations.EqualisationPrbsAndSlipCommands := by
  unfold Obligations.EqualisationPrbsAndSlipCommands
  exact ⟨fun s m hg => exec_eqReload hg, fun s => rfl, fun s n hm ho => laneRetarget_running hm ho, fun s n h => if_pos h,
    fun s n hw h => exec_walkStep_walking hw h, fun s n h => exec_walkStep_still h,
    fun s ep tx h => congrArg _ (if_pos h), fun s ep tx h => congrArg _ (if_neg h),
    fun s m n hg h => (exec_prbsClr hg).trans (congrArg _ (if_pos h)),
    fun s m n hg h => (exec_prbsClr hg).trans (congrArg _ (if_neg (ne_true_of_eq_false h))),
    fun s n w h => congrArg _ (prbsSee_test h), fun s n w h => congrArg _ (prbsSee_other h),
    fun s n w h => congrArg _ (prbsSee_test h), fun s n w h => congrArg _ (prbsSee_other h),
    fun taps x b hl hs hb hz => by rw [prbsBit_agrees hl hs hb hz]; exact ⟨rfl, decide_eq_true_iff, rfl⟩,
    fun taps x b hl => prbsBit_locked hl,
    fun s m n hg h => exec_injGo hg (injGo_off h), fun s m n hg h ht => exec_injGo hg (injGo_notTenant h ht),
    fun s m n hg h0 h1 hm => exec_injGo_runs hg h0 h1 (injected_mode0 hm),
    fun s m n hg h0 h1 hm => exec_injGo_runs hg h0 h1 (injected_mode1 hm),
    fun s m n hg h0 h1 hm => exec_injGo_runs hg h0 h1 (injected_mode2 hm),
    fun s m n hg h0 h1 hm => exec_injGo_runs hg h0 h1 (injected_mode3 hm),
    fun s m n hg h => exec_slip hg (slip_refused h), fun s m n hg h hd => exec_slip hg (slip_begins h hd),
    fun s m n hg h hd => exec_slip hg (slip_busy h hd), fun s n h => exec_slipEnd_slipping h,
    fun s n h => congrArg _ (if_pos h), fun s m n hg => exec_snap hg,
    fun s n w h => congrArg _ (if_pos h), fun s n w h => congrArg _ (if_neg h)⟩

end Sys2Proof.Proofs.SerialLanes
end

section
/-! PCIe (12_serial_lanes_and_pcie.md): inbound and outbound requests, completions, configuration requests, links and function
resets. -/

namespace Sys2Proof.Proofs.Pcie

open Sys2Proof Sys2Proof.Machine Sys2Proof.Machine.Reg

/-! ## Inbound requests (R322, R325, R326) -/

section Inbound

variable {s t : State} {e fn tag bar off n kind a : Nat} {k : Tlp} {ro : Bool} {d : List Byte} {be : List Bool}

theorem exec_pcieInbound_down (h : s.pciUp e = false) : exec (.pcieInbound e fn tag k ro bar off n d be) s = .next s :=
  congrArg Host.Outcome.next (if_neg (ne_true_of_eq_false h))

theorem exec_pcieInbound_atomic (h : s.pciUp e = true) :
    exec (.pcieInbound e fn tag .atomic ro bar off n d be) s = .next (s.complete e fn tag .ur []) :=
  congrArg Host.Outcome.next ((if_pos h).trans (if_pos rfl))

theorem exec_pcieInbound_memory (hk : k ≠ .atomic) (h : s.pciUp e = true) :
    exec (.pcieInbound e fn tag k ro bar off n d be) s =
      .next (s.pciInbound e fn tag (decide (k = .write)) ro bar off n d be) :=
  congrArg Host.Outcome.next ((if_pos h).trans (if_neg hk))

/-- The window register that the request's BAR uses takes effect. -/
def windowApplied (s : State) (fn bar : Nat) : State :=
  match fn, bar with
  | 0, 2 => s.applyLive PCI_PF_HBMWIN_BASE_GIB
  | r + 1, 0 => s.applyLive (PCI_VF_WIN_BASE_64M r)
  | _, _ => s

/-- A request that nothing serves: a write is dropped, a read completed as an Unsupported Request. -/
def unsupported (t : State) (e fn tag : Nat) (wr : Bool) : State := if wr then t else t.complete e fn tag .ur []

/-- A request in a BAR enters its function's queue. -/
def inboundQueued (t : State) (e fn : Nat) (x : Machine.Inbound) : State :=
  (t.setInq (funcKey e fn) (t.inqAt (funcKey e fn) ++ [x])).inPump e (funcKey e fn)

theorem pciInbound_eq (wr : Bool) (ht : t = windowApplied s fn bar) : s.pciInbound e fn tag wr ro bar off n d be =
    (t.barAt fn bar off n).elim (unsupported t e fn tag wr) fun x =>
      if t.pciServes e fn = true ∧ (!t.pci.d3.contains (funcKey e fn)) = true
      then inboundQueued t e fn ⟨tag, wr, ro, x.1, x.2, n, d, be, 0, [], [], false⟩ else unsupported t e fn tag wr := by
  subst ht
  show (match (windowApplied s fn bar).barAt fn bar off n with | some (kind, a) => _ | none => _) = _
  cases (windowApplied s fn bar).barAt fn bar off n <;> rfl

section Memory

variable (hk : k ≠ .atomic) (h : s.pciUp e = true) (ht : t = windowApplied s fn bar)

include hk h ht

theorem exec_pcieInbound_served (hb : t.barAt fn bar off n = some (kind, a))
    (hs : t.pciServes e fn = true ∧ (!t.pci.d3.contains (funcKey e fn)) = true) :
    exec (.pcieInbound e fn tag k ro bar off n d be) s =
      .next (inboundQueued t e fn ⟨tag, decide (k = .write), ro, kind, a, n, d, be, 0, [], [], false⟩) := by
  rw [exec_pcieInbound_memory hk h, pciInbound_eq _ ht, hb]
  exact congrArg Host.Outcome.next (if_pos hs)

theorem exec_pcieInbound_noBar (hb : t.barAt fn bar off n = none) :
    exec (.pcieInbound e fn tag k ro bar off n d be) s =
      .next (if k = .write then t else t.complete e fn tag .ur []) := by
  rw [exec_pcieInbound_memory hk h, pciInbound_eq _ ht, hb]
  simp only [Option.elim_none, unsupported, decide_eq_true_eq]

theorem exec_pcieInbound_notServed (hb : t.barAt fn bar off n = some (kind, a))
    (hs : ¬ (t.pciServes e fn = true ∧ (!t.pci.d3.contains (funcKey e fn)) = true)) :
    exec (.pcieInbound e fn tag k ro bar off n d be) s =
      .next (if k = .write then t else t.complete e fn tag .ur []) := by
  rw [exec_pcieInbound_memory hk h, pciInbound_eq _ ht, hb]
  simp only [Option.elim_some, if_neg hs, unsupported, decide_eq_true_eq]

end Memory

end Inbound

/-! ## Outbound requests (R327, R348, R349) -/

section Outbound

variable {s : State} {e i : Nat} {p : Packet} {x : Nat × Packet} {d : List Byte}

theorem exec_pcieOutbound_none (h : (s.outBehind e).noc.inbox.find? (fun p => decide (p.dst = pcieNode e)) = none) :
    exec (.pcieOutbound e) s = .next (s.outBehind e) := by
  show execPcieOutbound e s = _
  rw [execPcieOutbound, h]

theorem exec_pcieOutbound_oldest
    (h : (s.outBehind e).noc.inbox.find? (fun p => decide (p.dst = pcieNode e)) = some p) :
    exec (.pcieOutbound e) s = .next (((s.outBehind e).owinApply (owinOf p)).outServe e p) := by
  show execPcieOutbound e s = _
  rw [execPcieOutbound, h]

/-- The state without the request that is served. -/
def outTaken (s : State) (p : Packet) : State :=
  s.updNoc fun n => { n with inbox := dropFirst (fun q => decide (q.dst = p.dst)) n.inbox }

theorem outServe_refused {st : Nat} (h : s.outRefusal e p = some st) : s.outServe e p = (outTaken s p).respond p st [] := by
  rw [State.outServe, h]
  rfl

theorem outServe_readBehind {w : Packet} (h : s.outRefusal e p = none) (hr : p.opc = opcRead) (hw : s.outWaits p = some w) :
    s.outServe e p = (outTaken s p).updPci fun c => { c with behind := c.behind ++ [(p, w)] } := by
  simp only [State.outServe, h, hw, if_pos hr]
  rfl

theorem outServe_read (h : s.outRefusal e p = none) (hr : p.opc = opcRead) (hw : s.outWaits p = none) :
    s.outServe e p = if 768 ≤ s.readsAt e then s else (outTaken s p).outRead e p := by
  simp only [State.outServe, h, hw, if_pos hr]
  rfl

theorem outServe_write (h : s.outRefusal e p = none) (hw : p.opc ≠ opcRead) : s.outServe e p =
    if (s.fencePl p.lease).isSome ∧ s.fenceFits p.data.length = false then s else (outTaken s p).owinWrite e p := by
  simp only [State.outServe, h, if_neg hw, Bool.not_eq_true']
  rfl

section Completion

variable (h : s.readAt e i = some x)

include h

/-- A completion by its status; one that is not whole waits for the rest. -/
theorem exec_pcieCpl (st : Cpl) : exec (.pcieCpl e i st d) s = .next (match st with
    | .sc => if d.length = x.2.bcnt + 1 then s.readOver e x stOk d else s
    | .poisoned => if d.length = x.2.bcnt + 1 then s.readOver e x stPoison d else s
    | .ur | .ca => s.readOver e x stErr []) := by
  show execPcieCpl e i st d s = _
  rw [execPcieCpl, h]
  cases st <;> rfl

theorem exec_pcieCplTimeout : exec (.pcieCplTimeout e i) s = .next (s.readOver e x stErr []) := by
  show execPcieCplTimeout e i s = _
  rw [execPcieCplTimeout, h]

end Completion

theorem exec_pcieCpl_noRead (st : Cpl) (h : s.readAt e i = none) :
    exec (.pcieCpl e i st d) s = .next s ∧ exec (.pcieCplTimeout e i) s = .next s := by
  constructor
  · show execPcieCpl e i st d s = _
    rw [execPcieCpl, h]
  · show execPcieCplTimeout e i s = _
    rw [execPcieCplTimeout, h]

end Outbound

/-! ## Configuration requests (R322, R323) -/

section Configuration

variable {s : State} {e fn num : Nat} {c : PciCfg}

theorem exec_pcieConfigRequest_down (h : s.pciUp e = false) : exec (.pcieConfigRequest e fn c) s = .next s :=
  congrArg Host.Outcome.next (if_pos (by rw [h]; rfl))

theorem exec_pcieConfigRequest_up (h : s.pciUp e = true) :
    exec (.pcieConfigRequest e fn c) s = .next (if s.pciServes e fn then s.pciConfig e fn c else s.answer .err) :=
  congrArg Host.Outcome.next (if_neg (by rw [h]; decide))

theorem exec_pcieConfigRequest_served (h : s.pciUp e = true) (hs : s.pciServes e fn = true) :
    exec (.pcieConfigRequest e fn c) s = .next (s.pciConfig e fn c) :=
  (exec_pcieConfigRequest_up h).trans (congrArg _ (if_pos hs))

theorem exec_pcieConfigRequest_unserved (h : s.pciUp e = true) (hs : s.pciServes e fn = false) :
    exec (.pcieConfigRequest e fn c) s = .next (s.answer .err) :=
  (exec_pcieConfigRequest_up h).trans (congrArg _ (if_neg (ne_true_of_eq_false hs)))

theorem pciConfig_sriov_ignored (en : Bool) (h : fn ≠ 0 ∨ s.totalVfs e < num) :
    s.pciConfig e fn (.sriov en num) = s.answer (.ok 0) := if_pos h

theorem not_sriov_ignored (h0 : fn = 0) (hn : num ≤ s.totalVfs e) : ¬ (fn ≠ 0 ∨ s.totalVfs e < num) := by omega

theorem pciConfig_sriov_on (h0 : fn = 0) (hn : num ≤ s.totalVfs e) : s.pciConfig e fn (.sriov true num) =
    (s.updPci fun p => { p with vfs := nput p.vfs e num }).answer (.ok 0) := if_neg (not_sriov_ignored h0 hn)

/-- The virtual functions of endpoint e, by their keys. -/
def vfKeys (s : State) (e : Nat) : Nat → Bool := fun k => decide (k ≠ 0 ∧ k ≠ 128) && s.funcOn e k

theorem pciConfig_sriov_off (h0 : fn = 0) (hn : num ≤ s.totalVfs e) : s.pciConfig e fn (.sriov false num) =
    (((s.inboundForget (vfKeys s e)).configReset (vfKeys s e)).updPci fun p => { p with vfs := nput p.vfs e 0 }).answer
      (.ok 0) := if_neg (not_sriov_ignored h0 hn)

end Configuration

/-! ## Links and function resets (R315, R328) -/

section Link

variable {s : State} {e ltssm : Nat}

theorem exec_pcieLinkLoss_down (h : s.pciUp e = false) : exec (.pcieLinkLoss e ltssm) s = .next s :=
  congrArg Host.Outcome.next (if_pos (by rw [h]; rfl))

theorem exec_pcieLinkLoss_up (h : s.pciUp e = true) : exec (.pcieLinkLoss e ltssm) s = .next (
    if ltssm = 4 ∨ ltssm = 5 then s.setF (PCI_EP_STATUS_LTSSM e) ltssm else s.linkLoss e (if ltssm = 3 then 0 else ltssm)) :=
  congrArg Host.Outcome.next (if_neg (by rw [h]; decide))

/-- The loss of a link that was up is an event. -/
theorem linkLoss_up (h : s.pciUp e = true) : s.linkLoss e ltssm =
    (((((s.linkShow e ltssm).pciForget e).flushNode (pcieNode e) stSideDown).respondAll (s.outDue e) stSideDown).partnersGone
      e).raise .PCIE_LINK_DOWN false 0 e := if_pos h

theorem exec_pcieLinkLoss_lost (h : s.pciUp e = true) (h4 : ltssm ≠ 4) (h5 : ltssm ≠ 5) :
    exec (.pcieLinkLoss e ltssm) s = .next (s.linkLoss e (if ltssm = 3 then 0 else ltssm)) :=
  (exec_pcieLinkLoss_up h).trans (congrArg _ (if_neg (not_or.mpr ⟨h4, h5⟩)))

theorem exec_flrPf_up (h : s.pciUp e = true) : exec (.flrPf e) s = .next (s.linkLoss e 0) :=
  congrArg Host.Outcome.next (if_pos h)

theorem exec_flrPf_down (h : s.pciUp e = false) : exec (.flrPf e) s = .next s :=
  congrArg Host.Outcome.next (if_neg (ne_true_of_eq_false h))

/-- A link that is down, not held there, and powered trains. -/
theorem exec_pcieLinkRestore_trains {rate width flit : Nat} {tx : List (Nat × List Nat)} (h : s.pciUp e = false)
    (hd : s.f (PCI_EP_CTRL_LINK_DIS e) ≠ 1) (hp : s.f (PWR_DOM_STATUS_STATE (172 + e)) = 2) :
    exec (.pcieLinkRestore e rate width flit tx) s = .next (
      let t := s.setFs [(PCI_EP_STATUS_LTSSM e, 3), (PCI_EP_STATUS_RATE e, rate), (PCI_EP_STATUS_WIDTH e, width),
        (PCI_EP_STATUS_FLIT e, flit)]
      let t := { t with out := t.out ++ (List.range width).map fun i => Out.preset (16 * e + i) (t.lanePreset (16 * e + i)) }
      (t.partnerTx tx).raise .PCIE_LINK_UP false 0 e) :=
  congrArg Host.Outcome.next (if_neg (by simp [h, hd, hp]))

end Link

/-- Settles O48: a request by link, function and BAR, an answer by the READ it belongs to, a link by being up. -/
theorem pcieCommands : Obligations.PcieCommands := by
  unfold Obligations.PcieCommands
  exact ⟨fun s e fn tag k ro bar off n d be h => exec_pcieInbound_down h,
    fun s e fn tag k ro bar off n d be t kind a hk h ht hb hs => exec_pcieInbound_served hk h ht hb hs,
    fun s e fn tag k ro bar off n d be t hk h ht hb => exec_pcieInbound_noBar hk h ht hb,
    fun s e fn tag k ro bar off n d be t kind a hk h ht hb hs => exec_pcieInbound_notServed hk h ht hb hs,
    fun s e fn tag ro bar off n d be h => exec_pcieInbound_atomic h,
    fun s e h => exec_pcieOutbound_none h, fun s e p h => exec_pcieOutbound_oldest h,
    fun s e p st h => outServe_refused h, fun s e p w h hr hw => outServe_readBehind h hr hw,
    fun s e p h hr hw => outServe_read h hr hw, fun s e p h hw => outServe_write h hw,
    fun s e i x d h hd => (exec_pcieCpl h .sc).trans (congrArg _ (if_pos hd)),
    fun s e i x d h hd => (exec_pcieCpl h .poisoned).trans (congrArg _ (if_pos hd)),
    fun s e i x d h => exec_pcieCpl h .ur, fun s e i x d h => exec_pcieCpl h .ca,
    fun s e i x h => exec_pcieCplTimeout h, fun s e i st d h => exec_pcieCpl_noRead st h,
    fun s e fn h hs => exec_pcieConfigRequest_served h hs, fun s e fn h hs => exec_pcieConfigRequest_served h hs,
    fun s e fn bm h hs => exec_pcieConfigRequest_served h hs, fun s e fn d3 h hs => exec_pcieConfigRequest_served h hs,
    fun s e fn en num h hs hi => (exec_pcieConfigRequest_served h hs).trans (congrArg _ (pciConfig_sriov_ignored en hi)),
    fun s e fn num h hs h0 hn => (exec_pcieConfigRequest_served h hs).trans (congrArg _ (pciConfig_sriov_on h0 hn)),
    fun s e fn num h hs h0 hn => (exec_pcieConfigRequest_served h hs).trans (congrArg _ (pciConfig_sriov_off h0 hn)),
    fun s e fn on h hs => exec_pcieConfigRequest_served h hs,
    fun s e fn c h hs => exec_pcieConfigRequest_unserved h hs, fun s e fn c h => exec_pcieConfigRequest_down h,
    fun s e l h => exec_pcieLinkLoss_down h, fun s e l h hl => (exec_pcieLinkLoss_up h).trans (congrArg _ (if_pos hl)),
    fun s e l h h4 h5 => (exec_pcieLinkLoss_lost h h4 h5).trans (congrArg _ (linkLoss_up h)),
    fun s e h => (exec_flrPf_up h).trans (congrArg _ (linkLoss_up h)), fun s e h => exec_flrPf_down h,
    fun s e rate width flit tx h hd hp => exec_pcieLinkRestore_trains h hd hp,
    fun s e rate width flit tx h => congrArg _ (if_pos h),
    fun s fn h => congrArg _ (if_pos h), fun s fn h => congrArg _ (if_neg h)⟩

end Sys2Proof.Proofs.Pcie
end

section
/-! The redundant pair (13_redundant_pair.md): the mirror link and its failure wires, and the epochs, frames and pair leases that
it carries. -/

namespace Sys2Proof.Proofs.RedundantPair

open Sys2Proof Sys2Proof.Machine Sys2Proof.Machine.Reg
open Sys2Proof.Proofs.FabricBlocks (exec_viaWrite_pass)

/-! ## START, STOP and SELF_FAIL (R334, R339, R356) -/

section Control

variable {s : State} {m : Master}

section Write

variable (hg : s.gate m MIR_CTRL = .pass)

include hg

theorem exec_mirStart : exec (.mirStart m) s = .next (s.answer (.ok 0)).mirStart := exec_viaWrite_pass State.mirStart rfl hg

theorem exec_mirStop : exec (.mirStop m) s = .next (s.answer (.ok 0)).mirStop := exec_viaWrite_pass State.mirStop rfl hg

theorem exec_mirCmdSelfFail : exec (.mirCmdSelfFail m) s = .next (s.answer (.ok 0)).selfFail :=
  exec_viaWrite_pass State.selfFail rfl hg

end Write

/-- START needs a link that does not run, and a device that neither failed nor runs its rip panel. -/
def startRefused (s : State) : Prop :=
  ¬ (s.link = 0 ∨ s.link = 4 ∨ s.link = 5) ∨ s.bit MIR_STATUS_SELF_FAILED = true ∨ s.bit CFG_BOOT_STATUS_RIP = true

/-- The key words are taken, and nothing of the link before is kept. -/
def linkRenewed (s : State) : State :=
  s.updMir fun m => { m with
    key := (List.range 8).flatMap fun i => Crypto.leBytesN 4 (nget m.words i)
    ctl := [], wl := [], img := [], log := [], logBytes := 0, wlCnt := 0, ended := none, unacked := false, endDue := false
    cutting := false, give := [], given := [], rx := [], ends := [], retrying := false, win := false, downed := false
    trained := false, badQuads := [], own := none, expect := none }

theorem mirStart_refused (h : startRefused s) : s.mirStart = s.setF MIR_STATUS_ERR 6 := if_pos h

theorem mirStart_noKey (h : ¬ startRefused s) (hk : s.mir.keySet ≠ 255) : s.mirStart = s.setF MIR_STATUS_ERR 1 :=
  (if_neg h).trans (if_pos hk)

theorem mirStart_trains (h : ¬ startRefused s) (hk : s.mir.keySet = 255) : s.mirStart =
    ((((linkRenewed s).setArb .mirror Arb.empty).setSeqTx 0).setSeqRx 0).setFs
      [(MIR_STATUS_ERR, 0), (MIR_STATUS_LINK, 1), (MIR_STATUS_WIDTH, 0)] :=
  (if_neg h).trans (if_neg (not_not_intro hk))

/-- A device that declares itself failed, for the first time. -/
theorem selfFail_first (h : s.bit MIR_STATUS_SELF_FAILED = false) : s.selfFail =
    let t := s.setFs [(MIR_STATUS_FAIL_OUT, 1), (MIR_STATUS_SELF_FAILED, 1)]
    let u := ((((List.range 16).filter fun j => decide (t.plMode j = 1)).flatMap t.srcRegions).foldl State.mirPause t).dropFx
      fun _ => true
    (if u.link = 1 ∨ u.link = 2 ∨ u.link = 3 then u.linkDown 0 0 else u).raise .MIR_SELF_FAIL false 0 noInst :=
  if_neg (ne_true_of_eq_false h)

end Control

/-! ## Training, HELLO and retrain (R337, R339, R341) -/

section Training

variable {s : State} {role lane : Nat} {tagOk : Bool}

/-- The link trains and its lanes have not locked. -/
def linkTrains (s : State) : Prop := s.link = 1 ∧ s.mir.trained = false

theorem linkTrains_iff : (s.link = 1 ∧ (!s.mir.trained) = true) ↔ linkTrains s := by rw [Bool.not_eq_true', linkTrains]

theorem exec_mirTrainEnd_training (h : linkTrains s) : exec .mirTrainEnd s = .next (
    let t := (s.updMir fun m => { m with trained := true }).setF MIR_STATUS_WIDTH 2
    (t.pushCtl 1 t.serial (t.f MIR_STATUS_ROLE + 0x100)).mirRaise) :=
  congrArg Host.Outcome.next (if_pos (linkTrains_iff.mpr h))

theorem exec_mirTrainTimeout_training (h : linkTrains s) : exec .mirTrainTimeout s = .next (s.linkDown 5 5) :=
  congrArg Host.Outcome.next (if_pos (linkTrains_iff.mpr h))

theorem exec_mirTrain_other (h : ¬ linkTrains s) :
    exec .mirTrainEnd s = .next s ∧ exec .mirTrainTimeout s = .next s :=
  ⟨congrArg _ (if_neg (mt linkTrains_iff.mp h)), congrArg _ (if_neg (mt linkTrains_iff.mp h))⟩

theorem exec_mirHello_untrained (h : s.link ≠ 1 ∨ s.mir.trained = false) : exec (.mirHello tagOk role) s = .next s :=
  congrArg Host.Outcome.next (if_pos (by simpa using h))

/-- The link is UP: every source and standby that does not run yet seeds. -/
def linkUp (s : State) : State :=
  let t := (((s.setSeqRx 1).setF MIR_STATUS_LINK 2).raise .MIR_LINK_UP false 0 noInst).mirApply
  (((List.range 16).filter fun j => decide (t.plMode j = 1 ∨ t.plMode j = 2) && [0, 1, 3, 4].contains (t.plState j)).foldl
    State.plSeed t).mirRaise

section Trained

variable (hl : s.link = 1) (ht : s.mir.trained = true)

include hl ht

theorem exec_mirHello_trained : exec (.mirHello tagOk role) s = .next (
    if (!tagOk) = true then s.linkDown 5 3 else if role % 2 = s.f MIR_STATUS_ROLE then s.linkDown 5 2 else linkUp s) :=
  congrArg Host.Outcome.next (if_neg (by simp [hl, ht]))

theorem exec_mirHello_badTag : exec (.mirHello false role) s = .next (s.linkDown 5 3) :=
  (exec_mirHello_trained hl ht).trans (congrArg _ (if_pos rfl))

theorem exec_mirHello_sameRole (h : role % 2 = s.f MIR_STATUS_ROLE) :
    exec (.mirHello true role) s = .next (s.linkDown 5 2) :=
  (exec_mirHello_trained hl ht).trans (congrArg _ ((if_neg (by decide)).trans (if_pos h)))

theorem exec_mirHello_up (h : role % 2 ≠ s.f MIR_STATUS_ROLE) : exec (.mirHello true role) s = .next (linkUp s) :=
  (exec_mirHello_trained hl ht).trans (congrArg _ ((if_neg (by decide)).trans (if_neg h)))

end Trained

/-- The quad of a lane that lost lock is noted. -/
def laneBad (s : State) (lane : Nat) : State := s.updMir fun x => { x with badQuads := (lane / 4) :: x.badQuads }

/-- The link uses the lane. -/
def linkUses (s : State) (lane : Nat) : Prop :=
  (s.link = 2 ∨ s.link = 3) ∧ 32 ≤ lane ∧ lane < 48 ∧ s.mirUses lane = true

/-- A retrain at 8 lanes starts. -/
def retrainStarted (t : State) : State :=
  let t := (t.setF MIR_STATUS_LINK 3).applyLive MIR_XP_LINK_RETRAIN_US
  if t.bit MIR_STATUS_FAIL_IN then t.linkDown 4 9 else t

theorem exec_mirLaneLockLoss_unused (h : ¬ linkUses s lane) : exec (.mirLaneLockLoss lane) s = .next s :=
  congrArg Host.Outcome.next (if_neg h)

theorem exec_mirLaneLockLoss_used (h : linkUses s lane) : exec (.mirLaneLockLoss lane) s = .next (
    if (laneBad s lane).mir.noPair then (laneBad s lane).linkDown 4 9
    else if s.link = 2 then retrainStarted (laneBad s lane) else laneBad s lane) :=
  congrArg Host.Outcome.next (if_pos h)

theorem exec_mirLaneLockLoss_lost (h : linkUses s lane) (hp : (laneBad s lane).mir.noPair = true) :
    exec (.mirLaneLockLoss lane) s = .next ((laneBad s lane).linkDown 4 9) :=
  (exec_mirLaneLockLoss_used h).trans (congrArg _ (if_pos hp))

section Pair

variable (h32 : 32 ≤ lane) (h48 : lane < 48) (hu : s.mirUses lane = true) (hp : (laneBad s lane).mir.noPair = false)

include h32 h48 hu hp

theorem exec_mirLaneLockLoss_retraining (hl : s.link = 3) :
    exec (.mirLaneLockLoss lane) s = .next (laneBad s lane) :=
  (exec_mirLaneLockLoss_used ⟨.inr hl, h32, h48, hu⟩).trans
    (congrArg _ ((if_neg (ne_true_of_eq_false hp)).trans (if_neg (by rw [hl]; decide))))

theorem exec_mirLaneLockLoss_up (hl : s.link = 2) :
    exec (.mirLaneLockLoss lane) s = .next (retrainStarted (laneBad s lane)) :=
  (exec_mirLaneLockLoss_used ⟨.inl hl, h32, h48, hu⟩).trans
    (congrArg _ ((if_neg (ne_true_of_eq_false hp)).trans (if_pos hl)))

end Pair

end Training

/-! ## The failure wires (R333, R352, R353) -/

section Wire

variable {s t : State}

theorem exec_pairFailInRise_expected {time : Nat} (ht : t = s.setF MIR_STATUS_FAIL_IN 1) (hl : t.link = 2)
    (he : t.mir.expect = some (time, false)) :
    exec .pairFailInRise s = .next (t.updMir fun m => { m with expect := some (time, true) }) := by
  subst ht
  show execPairFailInRise s = _
  simp only [execPairFailInRise, if_pos hl, he]

theorem exec_pairFailInRise_unexpected (ht : t = s.setF MIR_STATUS_FAIL_IN 1) (hl : t.link = 2)
    (he : ∀ time, t.mir.expect ≠ some (time, false)) :
    exec .pairFailInRise s = .next (t.raise .MIR_FAIL_IN_SUSPECT false 0 noInst) := by
  subst ht
  refine congrArg Host.Outcome.next ((if_pos hl).trans ?_)
  split
  · next time h => exact absurd h (he time)
  · rfl

theorem exec_pairFailInRise_notUp (ht : t = s.setF MIR_STATUS_FAIL_IN 1) (hl : t.link ≠ 2) :
    exec .pairFailInRise s =
      .next (if t.link = 3 then t.linkDown 4 9 else if t.mir.win then t.mirDecide true else t) := by
  subst ht
  exact congrArg Host.Outcome.next (if_neg hl)

/-- With no failure of its own the device releases what its sources hold before it decides over its standbys. -/
theorem mirDecide_healthy {failed : Bool} (h : s.bit MIR_STATUS_SELF_FAILED = false) : s.mirDecide failed =
    let t := s.updMir fun m => { m with win := false }
    let u := (t.pls 1 [1, 2]).foldl State.plSolo t
    (u.pls 2 [1, 2]).foldl (fun v j =>
      if failed ∧ v.plState j = 2 then v.takeover j else if v.mir.takes.contains j then v else v.plStale j 0) u := by
  have hw : (s.updMir fun m => { m with win := false }).bit MIR_STATUS_SELF_FAILED = false := h
  simp only [State.mirDecide, hw, Bool.false_eq_true, if_false]

theorem exec_wireTestReleaseEnd_own (h : s.mir.own.isSome = true) (ht : t = s.updMir fun m => { m with own := none }) :
    exec .wireTestReleaseEnd s = .next (
      if t.bit MIR_STATUS_SELF_FAILED = true ∨ t.bit CFG_BOOT_STATUS_RIP = true then t else t.setF MIR_STATUS_FAIL_OUT 0) := by
  subst ht
  exact congrArg Host.Outcome.next (if_pos h)

end Wire

/-- Settles O49: each command by the state of the link, a lost lane by the quad pair it leaves, the wires by what is expected. -/
theorem mirrorLinkCommands : Obligations.MirrorLinkCommands := by
  unfold Obligations.MirrorLinkCommands
  exact ⟨fun s m hg h => (exec_mirStart hg).trans (congrArg _ (mirStart_refused h)),
    fun s m hg h hk => (exec_mirStart hg).trans (congrArg _ (mirStart_noKey h hk)),
    fun s m hg h hk => (exec_mirStart hg).trans (congrArg _ (mirStart_trains h hk)),
    fun s m hg h => (exec_mirStop hg).trans (congrArg _ (if_neg h)),
    fun s m hg h => (exec_mirStop hg).trans (congrArg _ (if_pos h)),
    fun s m hg h => (exec_mirCmdSelfFail hg).trans (congrArg _ (if_pos h)),
    fun s m hg h => (exec_mirCmdSelfFail hg).trans (congrArg _ (selfFail_first h)),
    fun s h => exec_mirTrainEnd_training h, fun s h => exec_mirTrainTimeout_training h, fun s h => exec_mirTrain_other h,
    fun s tagOk role h => exec_mirHello_untrained h, fun s role hl ht => exec_mirHello_badTag hl ht,
    fun s role hl ht h => exec_mirHello_sameRole hl ht h, fun s role hl ht h => exec_mirHello_up hl ht h,
    fun s => rfl, fun s time => ⟨rfl, rfl, rfl, rfl⟩,
    fun s lane h => exec_mirLaneLockLoss_unused h, fun s lane h hp => exec_mirLaneLockLoss_lost h hp,
    fun s lane hl h32 h48 hu hp => exec_mirLaneLockLoss_retraining h32 h48 hu hp hl,
    fun s lane hl h32 h48 hu hp => exec_mirLaneLockLoss_up h32 h48 hu hp hl,
    fun s => rfl, fun s h => congrArg _ (if_pos h), fun s h => congrArg _ (if_neg h),
    fun s time hl he => exec_pairFailInRise_expected rfl hl he, fun s hl he => exec_pairFailInRise_unexpected rfl hl he,
    fun s hl => (exec_pairFailInRise_notUp rfl (by rw [hl]; decide)).trans (congrArg _ (if_pos hl)),
    fun s h2 h3 => (exec_pairFailInRise_notUp rfl h2).trans (congrArg _ (if_neg h3)),
    fun s => rfl, fun s failed h => mirDecide_healthy h,
    fun s h => exec_wireTestReleaseEnd_own h rfl, fun s h => congrArg _ (if_neg (ne_true_of_eq_false h))⟩

/-! ## Frames by their SEQ (R338, R340) -/

section Frame

variable {s : State} {seq : Nat} {act : State → State}

/-- The frame expected is accepted: SEQ advances, the frame acts, and an epoch that is whole commits. -/
theorem mirRecv_expected (hl : s.link = 2) (hs : s.seqRx = seq) :
    s.mirRecv seq act = (act (s.setSeqRx (seq + 1))).mirCommit.mirRaise :=
  (if_neg (not_not_intro hl)).trans (if_neg (not_not_intro hs.symm))

theorem mirRecv_outOfOrder (hl : s.link = 2) (hs : s.seqRx ≠ seq) : s.mirRecv seq act = s.mirBad.mirRaise :=
  (if_neg (not_not_intro hl)).trans (if_pos hs.symm)

theorem mirRecv_linkNotUp (hl : s.link ≠ 2) : s.mirRecv seq act = s := if_pos hl

theorem exec_mirFrameBad_up (tagFails : Bool) (hl : s.link = 2) : exec (.mirFrameBad tagFails) s =
    .next (if tagFails then s.count MIR_COUNT_TAGFAIL 1 else s).mirBad.mirRaise :=
  congrArg Host.Outcome.next (if_pos hl)

end Frame

/-! ## Epochs (R346, R347) -/

section Epoch

variable {s : State}

theorem exec_mirCommitApplyEnd_none (h : s.mir.applying = none) : exec .mirCommitApplyEnd s = .next s := by
  show Host.Outcome.next s.mirApplied = _
  rw [State.mirApplied, h]

/-- The images of a committed epoch move, its log is applied, and ACK is sent. -/
theorem exec_mirCommitApplyEnd_some {e : EpochEnd} (h : s.mir.applying = some e) : exec .mirCommitApplyEnd s = .next (
    let t := ((List.range 64).filter fun r => decide (s.eff (MIR_RGN_MODE r) = 2 ∧ e.mask / 2 ^ s.eff (MIR_RGN_PEER r) % 2 = 1)
      && [1, 2].contains (s.plState (s.eff (MIR_RGN_PL r)))).foldl State.imageMove s
    let due := t.mir.rlog.filter fun x => decide (x.epoch ≤ e.epoch)
    let u := due.foldl (fun v x => if v.plMode x.pl = 2 ∧ v.plState x.pl = 2 then v.wlogPut x else v) t
    let v := u.updMir fun m => { m with
      rlog := m.rlog.filter (fun x => decide (e.epoch < x.epoch)), applying := none
      rx := m.rx.filter fun k => decide (e.epoch < k.1 / 4) }
    let w := v.updMir fun m => { m with ctl := if v.link = 2 then m.ctl ++ [⟨8, noPl, e.epoch, 0, 0, []⟩] else m.ctl }
    w.mirCommit.mirRaise) := by
  show Host.Outcome.next s.mirApplied = _
  rw [State.mirApplied, h]

/-- No epoch is open: the link is not UP, or no pair lease is a source. -/
def noEpoch (s : State) : Prop := s.link ≠ 2 ∨ (s.pls 1 [1, 2]).isEmpty = true

/-- The end of the open epoch waits: for ACK of the one before, or for a cut under way. -/
def epochWaits (s : State) : Prop := s.mir.unacked = true ∨ s.mir.cutting = true

section Open

variable (h : ¬ noEpoch s)

include h

theorem mirEnd_waits (hw : epochWaits s) : s.mirEnd = s.updMir fun m => { m with endDue := true } :=
  (if_neg h).trans (if_pos hw)

theorem mirEnd_noRegion (hw : ¬ epochWaits s) (hr : s.mirRegions = []) :
    s.mirEnd = (s.updMir fun m => { m with endDue := false }).mirCut [] :=
  (if_neg h).trans ((if_neg hw).trans (if_pos (List.isEmpty_iff.mpr hr)))

/-- With the grant of the capture arbiter a joint capture of every source region begins; without it the end waits. -/
theorem mirEnd_captures (hw : ¬ epochWaits s) (hr : s.mirRegions ≠ []) : s.mirEnd =
    let t := s.arbAsk .capture ⟨1, 0, 0, 0⟩
    if t.arbOwns .capture 1 = true ∧ t.cap.op = 0
    then (t.updMir fun m => { m with endDue := false, cutting := true }).capBegin 2 s.mirRegions true true
    else t.updMir fun m => { m with endDue := true } :=
  (if_neg h).trans ((if_neg hw).trans (if_neg (mt List.isEmpty_iff.mp hr)))

end Open

end Epoch

/-! ## Takeover, GIVE and RESEED (R350, R351, R354) -/

section PairLease

variable {s : State} {m : Master} {j : Nat}

theorem exec_takeoverEnd_idle (h : s.mir.takes.contains j = false ∨ s.mir.applying.isSome = true) :
    exec (.takeoverEnd j) s = .next s :=
  congrArg Host.Outcome.next (if_pos (by simpa only [Bool.not_eq_true'] using h))

theorem exec_takeoverEnd_called (ht : s.mir.takes.contains j = true) (ha : s.mir.applying.isSome = false) :
    exec (.takeoverEnd j) s = .next (
      let l := (s.stbyRegions j).filter fun r => s.bit (MIR_RGN_HELD r)
      let t := l.foldl (fun t r =>
        let u := ((t.ramFromImage r).setF (MIR_RGN_HELD r) 0).updRgn r fun x => { x with hold := false }
        ((u.setEnvSrc r 1).envOpen r).envOpened r) s
      let u := (t.mir.keep.filter fun x => decide (x.pl = j)).foldl (fun v x => v.fxRelease (fxOfBytes x.data)) t
      let v := u.updMir fun m => { m with
        keep := m.keep.filter (fun x => decide (x.pl ≠ j)), takes := m.takes.filter (· ≠ j)
        rlog := m.rlog.filter fun x => decide (x.pl ≠ j) }
      let w := v.setPlState j 6
      w.raise .MIR_TAKEOVER true (v.plLease j) noInst) :=
  congrArg Host.Outcome.next (if_neg (by rw [ht, ha]; decide))

theorem exec_plGive (hg : s.gate m (MIR_PL_CFG j) = .pass) :
    exec (.plGive m j) s = .next ((s.answer (.ok 0)).plGive j) := exec_viaWrite_pass (·.plGive j) rfl hg

theorem exec_plReseed (hg : s.gate m (MIR_PL_CFG j) = .pass) :
    exec (.plReseed m j) s = .next ((s.answer (.ok 0)).plReseed j) := exec_viaWrite_pass (·.plReseed j) rfl hg

end PairLease

/-- Settles O50: every frame by the link and its SEQ, the end of an epoch by what it waits for, a pair lease by its state. -/
theorem mirrorEpochCommands : Obligations.MirrorEpochCommands := by
  unfold Obligations.MirrorEpochCommands
  refine ⟨fun s seq o i hl hs => congrArg _ (mirRecv_expected hl hs),
    fun s seq pl e o b hl hs => congrArg _ (mirRecv_expected hl hs),
    fun s seq pl e o b hl hs => congrArg _ (mirRecv_expected hl hs),
    fun s seq pl e r o b hl hs => congrArg _ (mirRecv_expected hl hs),
    fun s seq pl e b hl hs => congrArg _ (mirRecv_expected hl hs),
    fun s seq e wl i f k hl hs => congrArg _ (mirRecv_expected hl hs),
    fun s seq e hl hs => congrArg _ (mirRecv_expected hl hs), fun s seq e hl hs => congrArg _ (mirRecv_expected hl hs),
    fun s seq f hl hs => congrArg _ (mirRecv_expected hl hs), fun s seq pl hl hs => congrArg _ (mirRecv_expected hl hs),
    fun s seq t hl hs => congrArg _ (mirRecv_expected hl hs), ?linkNotUp, ?outOfOrder,
    fun s x hl => exec_mirFrameBad_up x hl, fun s x hl => congrArg _ (if_neg hl),
    fun s h => exec_mirCommitApplyEnd_none h, fun s e h => exec_mirCommitApplyEnd_some h,
    fun s h => congrArg (fun t : State => Host.Outcome.next t.mirRaise) (if_pos h),
    fun s h hw => congrArg (fun t : State => Host.Outcome.next t.mirRaise) (mirEnd_waits h hw),
    fun s h hw hr => congrArg (fun t : State => Host.Outcome.next t.mirRaise) (mirEnd_noRegion h hw hr),
    fun s h hw hr => congrArg (fun t : State => Host.Outcome.next t.mirRaise) (mirEnd_captures h hw hr),
    fun s => rfl, fun s j h => exec_takeoverEnd_idle h, fun s j ht ha => exec_takeoverEnd_called ht ha,
    fun s m j hg h => (exec_plGive hg).trans (congrArg _ (if_pos h)),
    fun s m j hg h => (exec_plGive hg).trans (congrArg _ (if_neg h)),
    fun s m j hg h => (exec_plReseed hg).trans (congrArg _ (if_pos h)),
    fun s m j hg h => (exec_plReseed hg).trans (congrArg _ (if_neg h))⟩
  case linkNotUp =>
    intro s seq pl e off rgn wl img eff mask first time b o i hl
    refine ⟨?_, ?_, ?_, ?_, ?_, ?_, ?_, ?_, ?_, ?_, ?_⟩ <;> exact congrArg Host.Outcome.next (mirRecv_linkNotUp hl)
  case outOfOrder =>
    rintro s seq pl e off rgn wl img eff mask first time b o i t hl hs rfl
    refine ⟨?_, ?_, ?_, ?_, ?_, ?_, ?_, ?_, ?_, ?_, ?_⟩ <;> exact congrArg Host.Outcome.next (mirRecv_outOfOrder hl hs)

end Sys2Proof.Proofs.RedundantPair
end

section
/-! Clocks, power and the lifecycle (14_clocks_power_sleep.md, 15_bringup_lifecycle_host.md R390 to R393): the judge and the PLLs,
switches, power domains, the thermal warning and trip, and the commands that blow fuses. -/

namespace Sys2Proof.Proofs.ClocksAndPower

open Sys2Proof Sys2Proof.Machine Sys2Proof.Machine.Reg Sys2Proof.Certificates.Slice0
open Sys2Proof.Laws.Commands (freqWrite_idle freqWrite_running lcWrite_pass lcCmd_busy lcCmd_rejected lcCmd_accepted
  thermConvert_eq any_validSensor_warm all_validSensor_cool)
open Sys2Proof.Proofs.FabricBlocks (exec_viaWrite_pass)

/-! ## The judge's comparisons (R359) -/

theorem judge_comparisons (c0 c1 : Nat) :
    (cmpRef 1 c0 = true ↔ 101376 ≤ c0 ∧ c0 ≤ 103424) ∧ (cmpBoth 1 c0 c1 = true ↔ c0 ≤ c1 + 1024 ∧ c1 ≤ c0 + 1024) ∧
      (ref1Absent 1 c1 = true ↔ c1 < 1024) := by
  simp only [cmpRef, cmpBoth, ref1Absent, Nat.div_one, decide_eq_true_eq, and_self]

/-! ## PLLs (R362 to R366) -/

section Pll

variable {s : State} {m : Master} {p f0 f1 : Nat}

theorem exec_clkFreqWrite (hg : s.gate m (CLK_PLL_CFG p) = .pass) :
    exec (.clkFreqWrite m p f0 f1) s = .next ((s.answer (.ok 0)).freqWrite p f0 f1) :=
  exec_viaWrite_pass (·.freqWrite p f0 f1) rfl hg

/-- The clamped values are the ones stored. -/
abbrev freqSame (s : State) (p f0 f1 : Nat) : Prop :=
  freqClamp p f0 = s.f (CLK_PLL_CFG_FREQ0_MHZ p) ∧ (64 < p ∨ freqClamp p f1 = s.f (CLK_PLL_CFG_FREQ1_MHZ p))

theorem freqWrite_unchanged (h : planned p = false ∨ freqSame s p f0 f1) : s.freqWrite p f0 f1 = s := by
  unfold State.freqWrite
  split
  · rfl
  · next hp => exact if_pos (decide_eq_true (h.resolve_left fun hf => hp (by rw [hf]; rfl)))

theorem pllLoss_locked (h : s.pllState p = 2) : s.pllLoss p = (s.setPll p 3).coast p := by
  simp only [State.pllLoss, h]

/-- A PLL that has not begun its relock goes back to the reference of its hop. -/
theorem pllLoss_hopping (h : s.pllState p = 4) (hp : (s.pllAt p).phase ≠ 2) : s.pllLoss p =
    (((s.coast p).updPll p fun x => { x with phase := 1 }).muxUpds
      (((s.coast p).updPll p fun x => { x with phase := 1 }).pllDoms p)).hopAway p := by
  simp only [State.pllLoss, h, if_neg hp]

theorem exec_pllIdleTimer_stops (hn : s.pllNeeded p = false) (hs : s.pllState p ≠ 0) :
    exec (.pllIdleTimer p) s = .next ((s.pllHalt p).muxUpds ((s.pllHalt p).pllDoms p)) :=
  congrArg Host.Outcome.next (if_neg (by simp [hn, hs]))

end Pll

/-! ## Switches (R367 to R369) -/

section Switch

variable {s : State} {n w : Nat}

/-- A switch runs whose new source runs and whose old side has released. -/
def switchEnds (s : State) (n w : Nat) : Prop :=
  (s.muxAt n w).sw ≠ 0 ∧ s.clkRuns (s.muxAt n w).tgt = true ∧ ((s.muxAt n w).sw = 2 ∨ s.clkRuns (s.muxAt n w).cur = true)

theorem switchEnds_iff : ¬ switchEnds s n w ↔ ((s.muxAt n w).sw = 0 ∨ (!s.clkRuns (s.muxAt n w).tgt) = true ∨
    (!(decide ((s.muxAt n w).sw = 2) || s.clkRuns (s.muxAt n w).cur)) = true) := by
  simp only [switchEnds, Classical.not_and_iff_not_or_not, Classical.not_not, Bool.not_eq_true',
    Bool.or_eq_false_iff, decide_eq_false_iff_not, not_or, Bool.not_eq_true, ne_eq]

/-- The new source is delivered. -/
def switchEnded (s : State) (n w : Nat) : State :=
  let m := s.muxAt n w
  let t := (s.setMux n w ⟨m.tgt, .osc, 0, false, false⟩).setFs [(CLK_DOM_STATUS_SW n, 0), (CLK_DOM_STATUS_WHERE n, w),
    (CLK_DOM_STATUS_LOST_OLD n, if m.forced then 0xF else 3)]
  let t := t.showSrc n w m.tgt
  let t := match s.muxWant n w with | .pll p _ => t.hopCheck p | _ => t
  t.muxUpd n w

theorem exec_clockSwitchEnd_ends (h : switchEnds s n w) : exec (.clockSwitchEnd n w) s = .next (switchEnded s n w) :=
  congrArg Host.Outcome.next (if_neg fun h' => switchEnds_iff.mpr h' h)

theorem exec_clockSwitchEnd_waits (h : ¬ switchEnds s n w) : exec (.clockSwitchEnd n w) s = .next s :=
  congrArg Host.Outcome.next (if_pos (switchEnds_iff.mp h))

theorem exec_clockSwitchForce_stopping (h : (s.muxAt n w).sw = 1) : exec (.clockSwitchForce n w) s = .next (
    ((s.setMux n w { s.muxAt n w with sw := 2, forced := true }).setFs [(CLK_DOM_STATUS_SW n, 2), (CLK_DOM_STATUS_WHERE n, w),
      (CLK_DOM_STATUS_LOST_OLD n, 0xF), (CLK_DOM_STATUS_FORCED n, 1)]).domEvent .CLK_FORCED n) :=
  congrArg Host.Outcome.next (if_neg (not_not_intro h))

/-- No switch, one reported already, a new source that runs, or an old one that has stopped. -/
def stallIgnored (s : State) (n w : Nat) : Prop :=
  (s.muxAt n w).sw = 0 ∨ (s.muxAt n w).stalled = true ∨ s.clkRuns (s.muxAt n w).tgt = true ∨
    ((s.muxAt n w).sw = 1 ∧ s.clkRuns (s.muxAt n w).cur = false)

theorem stallIgnored_iff : stallIgnored s n w ↔ ((s.muxAt n w).sw = 0 ∨ (s.muxAt n w).stalled = true ∨
    s.clkRuns (s.muxAt n w).tgt = true ∨ ((s.muxAt n w).sw = 1 ∧ (!s.clkRuns (s.muxAt n w).cur) = true)) := by
  rw [stallIgnored, Bool.not_eq_true']

theorem exec_clockSwStallTimer_ignored (h : stallIgnored s n w) : exec (.clockSwStallTimer n w) s = .next s :=
  congrArg Host.Outcome.next (if_pos (stallIgnored_iff.mp h))

theorem exec_clockSwStallTimer_stalls (h : ¬ stallIgnored s n w) : exec (.clockSwStallTimer n w) s = .next (
    ((s.setMux n w { s.muxAt n w with sw := 2, stalled := true }).setFs
      [(CLK_DOM_STATUS_SW n, 2), (CLK_DOM_STATUS_WHERE n, w)]).domEvent .CLK_SW_STALL n) :=
  congrArg Host.Outcome.next (if_neg (mt stallIgnored_iff.mpr h))

end Switch

/-- Settles O51: a PLL by its state and its new values, a switch by what runs. -/
theorem clockCommands : Obligations.ClockCommands := by
  unfold Obligations.ClockCommands
  exact ⟨fun s c0 c1 => rfl, judge_comparisons, fun s c0 c1 v hv => hv ▸ rfl,
    fun s m p f0 f1 hg h => (exec_clkFreqWrite hg).trans (congrArg _ (freqWrite_unchanged h)),
    fun s m p f0 f1 hg hp hs hi => (exec_clkFreqWrite hg).trans (congrArg _ (freqWrite_idle hp hs hi)),
    fun s m p f0 f1 hg hp hs hr => (exec_clkFreqWrite hg).trans (congrArg _ (freqWrite_running hp hs hr)),
    fun s p => rfl, fun s p h => pllLoss_locked h, fun s p h hp => pllLoss_hopping h hp,
    fun s p hn hs => exec_pllIdleTimer_stops hn hs, fun s p h => congrArg _ (if_pos h),
    fun s n w h => exec_clockSwitchEnd_ends h, fun s n w h => exec_clockSwitchEnd_waits h,
    fun s n w h => exec_clockSwitchForce_stopping h, fun s n w h => congrArg _ (if_pos h),
    fun s n w h => exec_clockSwStallTimer_ignored h, fun s n w h => exec_clockSwStallTimer_stalls h⟩

/-! ## Power domains (R372 to R374) -/

section Domain

variable {s t : State} {m : Master} {n v us : Nat}

/-- A request with its value written in REQ. -/
def reqWritten (s : State) (n v : Nat) : State := s.setF (PWR_DOM_CTRL_REQ n) v

theorem exec_pwrDomReq (hg : s.gate m (PWR_DOM_CTRL n) = .pass) :
    exec (.pwrDomReq m n v) s = .next ((s.answer (.ok 0)).pwrReqWrite m n v) := exec_viaWrite_pass (·.pwrReqWrite m n v) rfl hg

theorem pwrReqWrite_refused (h : 2 ≤ v ∨ (64 ≤ n ∧ n < 128)) : s.pwrReqWrite m n v = s.logDrop m .badCode (PWR_DOM_CTRL n) :=
  if_pos h

theorem pwrReqWrite_taken (h : ¬ (2 ≤ v ∨ (64 ≤ n ∧ n < 128))) : s.pwrReqWrite m n v =
    if (reqWritten s n v).pwrState n = 3 then reqWritten s n v else (reqWritten s n v).pwrTry n := if_neg h

theorem pwrReqWrite_tries (h : ¬ (2 ≤ v ∨ (64 ≤ n ∧ n < 128))) (hs : (reqWritten s n v).pwrState n ≠ 3) :
    s.pwrReqWrite m n v = (reqWritten s n v).pwrTry n := (pwrReqWrite_taken h).trans (if_neg hs)

theorem pwrTry_on (hq : s.f (PWR_DOM_CTRL_REQ n) = 1) (hs : s.pwrState n = 0) : s.pwrTry n = s.pwrStart n true :=
  if_pos ⟨hq, hs⟩

theorem pwrTry_off (hq : s.f (PWR_DOM_CTRL_REQ n) = 0) (hs : s.pwrState n = 2) : s.pwrTry n =
    if s.offRefused n = true then s.setFs [(PWR_DOM_STATUS_ERR n, 1), (PWR_DOM_CTRL_REQ n, 1)] else s.pwrStart n false :=
  (if_neg fun h => by rw [hq] at h; exact absurd h.1 (by decide)).trans (if_pos ⟨hq, hs⟩)

/-- A domain has no transition to end. -/
def noTransition (s : State) (n : Nat) : Prop := s.pwrState n ≠ 3 ∨ (64 ≤ n ∧ n < 128)

theorem exec_pwrDomEnd_off (h : ¬ noTransition s n) (hu : s.pwr.up.contains n = false) :
    exec (.pwrDomEnd n us) s = .next ((s.pwrOff n).pwrTry n) :=
  congrArg Host.Outcome.next ((if_neg h).trans (if_neg (ne_true_of_eq_false hu)))

section Wake

variable (h : ¬ noTransition s n) (hu : s.pwr.up.contains n = true)

include h hu

theorem exec_pwrDomEnd_woken (hw : s.wakeWaits n = false) :
    exec (.pwrDomEnd n us) s = .next ((s.pwrWoken n us).pwrTry n) :=
  congrArg Host.Outcome.next ((if_neg h).trans ((if_pos hu).trans (if_neg (ne_true_of_eq_false hw))))

theorem exec_pwrDomEnd_waits (hw : s.wakeWaits n = true) : exec (.pwrDomEnd n us) s = .next (
    if s.pwr.stalled.contains n then s
    else (s.updPwr fun p => { p with stalled := n :: p.stalled }).domEvent .CLK_SW_STALL ((pwrDoms n).headD 0)) :=
  congrArg Host.Outcome.next ((if_neg h).trans ((if_pos hu).trans (if_pos hw)))

end Wake

end Domain

/-! ## The thermal warning and trip (R375 to R377) -/

section Thermal

variable {s t : State} {raw : List Nat}

section Armed

variable (ht : t = converted s raw) (hw : t.bit PWR_THERM_STATUS_WARN = false)

include ht hw

theorem thermConvert_armed : s.thermConvert raw =
    if (t.validSensors.any fun n => decide (4 * t.f PWR_THERM_CFG_WARN_C + 2048 ≤ tempKey (t.f (PWR_TEMP_TEMP n)))) = true
    then (t.setF PWR_THERM_STATUS_WARN 1).raise .THERM_WARN false 0 noInst else t := by
  subst ht
  exact (thermConvert_eq s raw).trans (if_neg (ne_true_of_eq_false hw))

theorem thermConvert_warns (h : ∃ n, warm t 0 n) :
    s.thermConvert raw = (t.setF PWR_THERM_STATUS_WARN 1).raise .THERM_WARN false 0 noInst :=
  (thermConvert_armed ht hw).trans (if_pos ((any_validSensor_warm t).mpr h))

theorem thermConvert_noneWarm (h : ∀ n, ¬ warm t 0 n) : s.thermConvert raw = t :=
  (thermConvert_armed ht hw).trans (if_neg fun ha => (any_validSensor_warm t).mp ha |>.elim h)

end Armed

section Disarmed

variable (ht : t = converted s raw) (hw : t.bit PWR_THERM_STATUS_WARN = true)

include ht hw

theorem thermConvert_disarmed : s.thermConvert raw =
    if (t.validSensors.all fun n => decide (tempKey (t.f (PWR_TEMP_TEMP n)) + 20 < 4 * t.f PWR_THERM_CFG_WARN_C + 2048)) = true
    then t.setF PWR_THERM_STATUS_WARN 0 else t := by
  subst ht
  exact (thermConvert_eq s raw).trans (if_pos hw)

theorem thermConvert_rearms (h : ∀ n, ¬ warm t 20 n) : s.thermConvert raw = t.setF PWR_THERM_STATUS_WARN 0 :=
  (thermConvert_disarmed ht hw).trans (if_pos ((all_validSensor_cool t).mpr h))

theorem thermConvert_staysWarm (h : ∃ n, warm t 20 n) : s.thermConvert raw = t :=
  (thermConvert_disarmed ht hw).trans (if_neg fun ha => h.elim ((all_validSensor_cool t).mp ha))

end Disarmed

end Thermal

/-- Settles O58: the warning by whether it is armed and by the sensors that are warm; the trip follows the conversion. -/
theorem thermalWarningRaisesAndRearms : Obligations.ThermalWarningRaisesAndRearms := by
  unfold Obligations.ThermalWarningRaisesAndRearms
  refine ⟨fun s raw t ht hw h => thermConvert_warns ht hw h, fun s raw t ht hw h => thermConvert_noneWarm ht hw h,
    fun s raw t ht hw h => thermConvert_rearms ht hw h, fun s raw t ht hw h => thermConvert_staysWarm ht hw h, ?_⟩
  rintro s raw t u rfl rfl
  exact ⟨rfl, rfl⟩

/-! ## Lifecycle commands (R390 to R393) -/

section Lifecycle

variable {s t : State} {m : Master} {cmd idx failed : Nat}

/-- A lifecycle command that starts: BUSY until its fuses are blown. -/
def lcStarted (s : State) (cmd idx : Nat) : State :=
  { s.setFs [(HUB_LC_STATUS_BUSY, 1), (HUB_LC_STATUS_ERR, 0)] with life := ⟨cmd, idx⟩ }

section Command

variable {c : Instr} (hc : exec c s = .next (s.lcWrite m cmd idx)) (hg : s.gate m HUB_LC_CMD = .pass)

include hc hg

theorem exec_lc (h : (s.answer (.ok 0)).lcCmd cmd idx = t) : exec c s = .next t := by
  rw [hc, lcWrite_pass cmd idx hg, h]

theorem exec_lc_busy (hb : s.bit HUB_LC_STATUS_BUSY = true) :
    exec c s = .next ((s.answer (.ok 0)).busy HUB_LC_STATUS_FIELD_BUSY) := exec_lc hc hg (lcCmd_busy cmd idx hb)

variable (hcmd : ¬ (cmd = 0 ∨ 6 ≤ cmd)) (hb : s.bit HUB_LC_STATUS_BUSY = false)

include hcmd hb

theorem exec_lc_refused (he : (s.answer (.ok 0)).lcCheck cmd idx ≠ 0) :
    exec c s = .next ((s.answer (.ok 0)).lcEnd cmd ((s.answer (.ok 0)).lcCheck cmd idx)) :=
  exec_lc hc hg (lcCmd_rejected cmd idx hcmd hb he)

theorem exec_lc_starts (he : (s.answer (.ok 0)).lcCheck cmd idx = 0) :
    exec c s = .next (lcStarted (s.answer (.ok 0)) cmd idx) := exec_lc hc hg (lcCmd_accepted cmd idx hcmd hb he)

theorem exec_lc_checked : exec c s = .next (
    if (s.answer (.ok 0)).lcCheck cmd idx ≠ 0 then (s.answer (.ok 0)).lcEnd cmd ((s.answer (.ok 0)).lcCheck cmd idx)
    else lcStarted (s.answer (.ok 0)) cmd idx) := by
  split
  · next he => exact exec_lc_refused hc hg hcmd hb he
  · next he => exact exec_lc_starts hc hg hcmd hb (Classical.not_not.mp he)

end Command

theorem exec_lcCmdEnd_none (h : s.life.cmd = 0) : exec (.lcCmdEnd failed) s = .next s :=
  congrArg Host.Outcome.next (if_pos h)

theorem exec_lcCmdEnd_ends (h : s.life.cmd ≠ 0) : exec (.lcCmdEnd failed) s = .next ((
    if failed = 1 then s
    else (s.lcFirst s.life.cmd s.life.idx).lcBlow s.life.cmd (if failed = 0 then 15 else failed - 2)).lcEnd s.life.cmd
      (if failed = 0 then 0 else 6)) :=
  congrArg Host.Outcome.next (if_neg h)

end Lifecycle

/-- Settles O52: a domain by its state and REQ, a conversion by its readings, a lifecycle command by its check. -/
theorem powerThermalAndLifecycleCommands : Obligations.PowerThermalAndLifecycleCommands := by
  unfold Obligations.PowerThermalAndLifecycleCommands
  refine ⟨fun s m n v hg h => (exec_pwrDomReq hg).trans (congrArg _ (pwrReqWrite_refused h)),
    fun s m n v hg h hs => (exec_pwrDomReq hg).trans (congrArg _ ((pwrReqWrite_taken h).trans (if_pos hs))),
    fun s m n v hg h hq hs => (exec_pwrDomReq hg).trans (congrArg _
      ((pwrReqWrite_tries h (fun e => absurd (hs.symm.trans e) (by decide))).trans (pwrTry_on hq hs))),
    fun s m n v hg h hq hs => (exec_pwrDomReq hg).trans (congrArg _
      ((pwrReqWrite_tries h (fun e => absurd (hs.symm.trans e) (by decide))).trans (pwrTry_off hq hs))),
    fun s n us h => congrArg _ (if_pos h), fun s n us h hu => exec_pwrDomEnd_off h hu,
    fun s n us h hu hw => exec_pwrDomEnd_woken h hu hw, fun s n us h hu hw => exec_pwrDomEnd_waits h hu hw,
    fun s raw => rfl, fun s raw t ht => ht ▸ thermConvert_eq s raw,
    fun s m idx hg hb => ⟨exec_lc_busy rfl hg hb, exec_lc_busy rfl hg hb, exec_lc_busy rfl hg hb, exec_lc_busy rfl hg hb,
      exec_lc_busy rfl hg hb⟩,
    fun s m hg hb he => exec_lc_refused rfl hg (by decide) hb he, fun s m hg hb he => exec_lc_starts rfl hg (by decide) hb he,
    fun s m idx hg hb he => exec_lc_refused rfl hg (by decide) hb he,
    fun s m idx hg hb he => exec_lc_starts rfl hg (by decide) hb he,
    fun s m idx hg hb he => exec_lc_refused rfl hg (by decide) hb he,
    fun s m idx hg hb he => exec_lc_starts rfl hg (by decide) hb he,
    fun s m hg hb => exec_lc_checked rfl hg (by decide) hb,
    fun s m hg hb he => exec_lc_refused rfl hg (by decide) hb he, fun s m hg hb he => exec_lc_starts rfl hg (by decide) hb he,
    fun s failed h => exec_lcCmdEnd_none h, fun s failed h => exec_lcCmdEnd_ends h, fun s cmd err => rfl⟩

end Sys2Proof.Proofs.ClocksAndPower
end

section
/-! Steps, reset and supplies (95_what_each_step_holds.md, 15_bringup_lifecycle_host.md R381 to R386): what every step keeps, the
state after reset, the reset pins, and the supplies of the device and of its banks. -/

namespace Sys2Proof.Proofs.BringUp

open Sys2Proof Sys2Proof.Machine Sys2Proof.Machine.Reg

/-! ## Every step -/

section Step

variable {s t : State}

/-- Each command keeps the queue of waiting commands, and the invariant where it holds: command by command, by the law of its
meaning. -/
theorem exec_ok {Q : List Instr} {B : Prop} (c : Instr) (hk : Ok Q B s) : NextOk Q B (exec c s) := by
  cases c <;> simp [exec, hk]

theorem exec_pending {c : Instr} (h : exec c s = .next t) : t.pending = s.pending :=
  (exec_ok (Q := s.pending) (B := False) c ⟨rfl, False.elim⟩ t h).1

theorem exec_inv {c : Instr} (hi : s.Inv) (h : exec c s = .next t) : t.Inv :=
  (exec_ok (Q := s.pending) (B := True) c ⟨rfl, fun _ => hi⟩ t h).2 trivial

theorem idleTick_pending (s : State) : s.idleTick.pending = s.pending :=
  (State.idleTick_ok (Q := s.pending) (B := False) s ⟨rfl, False.elim⟩).1

theorem idleTick_inv (hi : s.Inv) : s.idleTick.Inv :=
  (State.idleTick_ok (Q := s.pending) (B := True) s ⟨rfl, fun _ => hi⟩).2 trivial

theorem step_idle (h : s.pending = []) : step s = .next s.idleTick := by rw [step, h]

theorem step_command {c : Instr} {rest : List Instr} (h : s.pending = c :: rest) :
    step s = exec c { s with pending := rest } := by rw [step, h]

/-- What a step does: the idle tick, or the front command on the state without it. -/
theorem step_cases (h : step s = .next t) :
    (s.pending = [] ∧ t = s.idleTick) ∨ ∃ c rest, s.pending = c :: rest ∧ exec c { s with pending := rest } = .next t := by
  cases hp : s.pending with
  | nil => exact .inl ⟨rfl, (Host.Outcome.next.inj ((step_idle hp).symm.trans h)).symm⟩
  | cons c rest => exact .inr ⟨c, rest, rfl, (step_command hp).symm.trans h⟩

/-- The meaning of every command is a next state, on every path. -/
theorem exec_next (c : Instr) (s : State) : ∃ t, exec c s = .next t := by
  cases c <;> exact ⟨_, rfl⟩

theorem step_next (s : State) : ∃ t, step s = .next t := by
  cases hp : s.pending with
  | nil => exact ⟨_, step_idle hp⟩
  | cons c rest => rw [step_command hp]; exact exec_next c _

end Step

/-- Settles O1: the step by its queue. -/
theorem stepRunsTheFrontCommand : Obligations.StepRunsTheFrontCommand := by
  unfold Obligations.StepRunsTheFrontCommand
  constructor
  · intro c rest s
    rw [step]
  · intro s h
    exact step_idle h

/-- Settles O2: every command answers a next state, and so does the idle tick. -/
theorem everyStepAnswersANextState : Obligations.EveryStepAnswersANextState := by
  unfold Obligations.EveryStepAnswersANextState
  constructor
  · intro c s
    exact exec_next c s
  · intro s
    exact step_next s

/-- Settles O3: no command touches the queue, and a step takes its front away. -/
theorem stepsConsumeTheQueueInOrder : Obligations.StepsConsumeTheQueueInOrder := by
  unfold Obligations.StepsConsumeTheQueueInOrder
  constructor
  · intro c s t h
    exact exec_pending h
  · intro s t h
    rcases step_cases h with ⟨hp, ht⟩ | ⟨c, rest, hp, hc⟩
    · rw [ht, idleTick_pending, hp, List.tail_nil]
    · rw [exec_pending hc, hp, List.tail_cons]

/-- Settles O4: the idle tick and every command keep the invariant, which does not speak of the queue. -/
theorem everyStepKeepsTheInvariant : Obligations.EveryStepKeepsTheInvariant := by
  unfold Obligations.EveryStepKeepsTheInvariant
  intro s t hi h
  rcases step_cases h with ⟨-, ht⟩ | ⟨c, rest, -, hc⟩
  · rw [ht]
    exact idleTick_inv hi
  · exact exec_inv (s := { s with pending := rest }) hi hc

/-! ## The state after reset (R21, R394, R396) -/

/-- 64 numbers are eight times eight, so that each row of eight is decided by itself. -/
theorem forall_lt_64 {p : Nat → Prop} (h : ∀ a < 8, ∀ b < 8, p (8 * a + b)) (r : Nat) (hr : r < 64) : p r := by
  rw [← Nat.div_add_mod r 8]
  exact h _ (by omega) _ (by omega)

theorem reset_region : ∀ r < 64, State.reset.f (HUB_RGN_STATE_STATE r) = 0 ∧ State.reset.f (HUB_RGN_STATE_LEASE r) = 0 ∧
    State.reset.f (ENG_TRIO_CTRL_OWNER r) = 2 := forall_lt_64 (by decide)

theorem reset_trioEngines : ∀ t < 64, ∀ i < 3, State.reset.f (ENG_STATUS_STATE t i) = 0 := forall_lt_64 (by decide)

theorem reset_engine (e : Nat) (he : e < 192) : State.reset.f (ENG_STATUS_STATE (e / 3) (e % 3)) = 0 :=
  reset_trioEngines _ (by omega) _ (Nat.mod_lt _ (by decide))

theorem reset_inv : State.reset.Inv := ⟨Memory.wf_nil, Nat.zero_le _, Nat.zero_le _, Nat.zero_le _⟩

/-- Settles O5: no field has been written, so that each reads its reset value in the register table. -/
theorem resetMeetsTheInvariant : Obligations.ResetMeetsTheInvariant := by
  unfold Obligations.ResetMeetsTheInvariant
  exact ⟨reset_inv, rfl, by decide, by decide, reset_region, reset_engine, by decide, by decide, rfl, rfl, rfl⟩

/-! ## The reset pins (R382, R384 to R386; R73) -/

section Pin

variable {s : State} {mode role : Nat}

theorem exec_porNRise_low (h : s.pins.porN = false) : exec (.porNRise mode role) s = .next
    (({ s with aonTicks := 0, nocTime := 0 }.updPins fun p =>
      { p with porN := true, cfgMode := mode % 8, role := role % 2 }).tryPowerOn) :=
  congrArg Host.Outcome.next (if_neg (ne_true_of_eq_false h))

theorem t0Passed_eq_false (h : s.boot.phase = 0) : s.t0Passed = false := decide_eq_false (not_not_intro h)

theorem t0Passed_eq_true (h : s.boot.phase ≠ 0) : s.t0Passed = true := decide_eq_true h

theorem tryPowerOn_ready (hp : s.pins.porN = true) (hs : s.f HUB_SUPPLY_IN_RANGE = 0x3FF) (h : s.boot.phase = 0) :
    s.tryPowerOn = s.powerOn := if_pos ⟨hp, hs, by rw [t0Passed_eq_false h]; rfl⟩

theorem exec_resetNAssert_high (h : s.pins.resetN = true) : exec .resetNAssert s = .next (
    if s.t0Passed = true then (s.updPins fun p => { p with resetN := false }).restartHeld
    else s.updPins fun p => { p with resetN := false }) :=
  congrArg Host.Outcome.next (if_neg (by rw [h]; decide))

theorem exec_resetNRelease_low (h : s.pins.resetN = false) (ht : s.boot.phase ≠ 0) : exec .resetNRelease s = .next
    (((s.updPins fun p => { p with resetN := true, thermTripN := p.thermTripN || s.t0Passed }).failOutShow).letGo true) :=
  congrArg Host.Outcome.next ((if_neg (ne_true_of_eq_false h)).trans (if_pos (t0Passed_eq_true ht)))

theorem exec_progNAssert_running (h : s.pins.progN = true) (hr : s.running = true) :
    exec .progNAssert s = .next (s.updPins fun p => { p with progN := false }).progHold :=
  congrArg Host.Outcome.next ((if_neg (by rw [h]; decide)).trans (if_pos hr))

theorem exec_progNRelease_held (h : s.pins.progN = false) (hr : s.running = true) (hp : s.boot.phase = 7) :
    exec .progNRelease s = .next (s.updPins fun p => { p with progN := true }).progBoot :=
  congrArg Host.Outcome.next ((if_neg (ne_true_of_eq_false h)).trans (if_pos ⟨hr, hp⟩))

/-- The recovery opcode RESTART that is served acts as a pulse of PROG_N (R405). -/
theorem exec_restart_served (hr : s.recReady = true) (ho : s.h2fWord (s.f (MBX_H2F_CI_CI 0)) 0 % 65536 = 0x8006)
    (hp : s.pins.progN = true) (h : s.running = true) :
    exec .restart s = .next (((s.recover 0x8006 fun t => (t, none)).progHold).progBoot) := by
  have hserved : (s.recReady && decide (s.h2fWord (s.f (MBX_H2F_CI_CI 0)) 0 % 65536 = 0x8006)) = true := by
    rw [hr, decide_eq_true ho]; rfl
  exact congrArg Host.Outcome.next (if_pos ⟨hserved, hp, h⟩)

end Pin

/-- Settles O20: each pin by its level and by whether t0 has passed. -/
theorem resetPinCommands : Obligations.ResetPinCommands := by
  unfold Obligations.ResetPinCommands
  exact ⟨fun s mode role h => exec_porNRise_low h, fun s hp hs h => tryPowerOn_ready hp hs h,
    fun s h => congrArg _ (if_pos h),
    fun s h ht => (exec_resetNAssert_high h).trans (congrArg _ (if_pos (t0Passed_eq_true ht))),
    fun s h ht => (exec_resetNAssert_high h).trans (congrArg _ (if_neg (ne_true_of_eq_false (t0Passed_eq_false ht)))),
    fun s h ht => exec_resetNRelease_low h ht, fun s h hr => exec_progNAssert_running h hr,
    fun s h hr hp => exec_progNRelease_held h hr hp, fun s hr ho hp h => exec_restart_served hr ho hp h⟩

/-! ## Supplies and banks (R381 to R383, R412) -/

section Supply

variable {s t u : State} {k b level : Nat} {floor early : Bool}

/-- Supply k out of range: its bit falls, and after t0 that is a DROOP. -/
def rangeLost (s : State) (k : Nat) (early : Bool) : State :=
  let a := s.seqCheck early
  let a := a.setF HUB_SUPPLY_IN_RANGE (setBitN (a.f HUB_SUPPLY_IN_RANGE) k false)
  if a.t0Passed then a.setF HUB_SUPPLY_DROOP 1 else a

/-- A supply of the floors' table under its floor: NV_OK falls, and NV writes are abandoned. -/
def floorLost (t : State) (k : Nat) (floor : Bool) : State :=
  if floor ∧ (k = 0 ∨ k = 1 ∨ k = 8) then
    ((t.updPins fun p => { p with below := if p.below.contains k then p.below else k :: p.below }).nvShow).nvAbandon
  else t

theorem exec_supplyInRange (h : k < 9) : exec (.supplyInRange k early) s = .next (
    ((((s.setF HUB_SUPPLY_IN_RANGE (setBitN (s.f HUB_SUPPLY_IN_RANGE) k true)).updPins fun p =>
      { p with below := p.below.filter (· ≠ k) }).nvShow.seqCheck early).tryPowerOn).failOutShow) :=
  congrArg Host.Outcome.next (if_neg (Nat.not_le.mpr h))

/-- Without VCCIO_CFG, with no reset pin low, the device is not healthy. -/
theorem exec_supplyOutOfRange (h : k < 9) (ht : t = rangeLost s k early) (hu : u = floorLost t k floor) :
    exec (.supplyOutOfRange k floor early) s = .next (
      if k = 8 ∧ u.t0Passed ∧ u.pins.resetN ∧ u.pins.thermTripN then u.selfFail.failOutShow else u.failOutShow) := by
  subst hu ht
  exact congrArg Host.Outcome.next (if_neg (Nat.not_le.mpr h))

/-- Bank b without its supply. -/
def bankLost (s : State) (b : Nat) : State := ((s.setF (GPIO_BANK_STATUS_LEVEL b) 0).banksShow).padNote

theorem exec_bankSupplyLoss_unpowered (h : s.bankUp b = false) : exec (.bankSupplyLoss b) s = .next s :=
  congrArg Host.Outcome.next (if_pos (by rw [h]; rfl))

theorem exec_bankSupplyLoss_powered (h : s.bankUp b = true) (ht : t = bankLost s b) :
    exec (.bankSupplyLoss b) s = .next (
      let u := if t.t0Passed then t.setF HUB_SUPPLY_DROOP 1 else t
      if u.t0Passed ∧ u.bankMapped b then u.raise .GPIO_BANK_OFF false 0 noInst else u) := by
  subst ht
  exact congrArg Host.Outcome.next (if_neg (by rw [h]; decide))

theorem exec_bankSupplyLoss_running (h : s.bankUp b = true) (ht : t = bankLost s b) (h0 : t.t0Passed = true) :
    exec (.bankSupplyLoss b) s = .next (
      if (t.setF HUB_SUPPLY_DROOP 1).bankMapped b then (t.setF HUB_SUPPLY_DROOP 1).raise .GPIO_BANK_OFF false 0 noInst
      else t.setF HUB_SUPPLY_DROOP 1) := by
  have hd : (t.setF HUB_SUPPLY_DROOP 1).t0Passed = true := h0
  rw [exec_bankSupplyLoss_powered h ht]
  simp only [h0, hd, if_true, true_and]

theorem exec_bankSupplyLoss_beforeT0 (h : s.bankUp b = true) (ht : t = bankLost s b) (h0 : t.t0Passed = false) :
    exec (.bankSupplyLoss b) s = .next t := by
  rw [exec_bankSupplyLoss_powered h ht]
  simp only [h0, Bool.false_eq_true, if_false, false_and]

theorem exec_bankSupplyReturn_unpowered (hb : b < 4) (h : s.bankUp b = false) (hl : level = 1 ∨ level = 2) :
    exec (.bankSupplyReturn b level) s =
      .next (((s.setF (GPIO_BANK_STATUS_LEVEL b) level).banksShow).padNote.tryPowerOn) :=
  congrArg Host.Outcome.next (if_neg (by simp only [h, Bool.false_eq_true, false_or]; omega))

end Supply

/-- Settles O21: a supply by its number and its floor, a bank by its power and by whether t0 has passed. -/
theorem supplyCommands : Obligations.SupplyCommands := by
  unfold Obligations.SupplyCommands
  exact ⟨fun s k early h => exec_supplyInRange h,
    fun s k floor early t u h ht hu hn => (exec_supplyOutOfRange h ht hu).trans (congrArg _ (if_neg hn)),
    fun s k floor early t u h ht hu hy => (exec_supplyOutOfRange h ht hu).trans (congrArg _ (if_pos hy)),
    fun s b t h ht h0 => exec_bankSupplyLoss_running h ht h0, fun s b t h ht h0 => exec_bankSupplyLoss_beforeT0 h ht h0,
    fun s b level hb h hl => exec_bankSupplyReturn_unpowered hb h hl, fun s b h => exec_bankSupplyLoss_unpowered h⟩

end Sys2Proof.Proofs.BringUp
end

section
/-! The hub and the host's interface (15_bringup_lifecycle_host.md R394 to R409): features, shared registers, queues, mailboxes and
vectors, recovery, host DMA, the SMBus slave and the boot flash. -/

namespace Sys2Proof.Proofs.HubAndHost

open Sys2Proof Sys2Proof.Machine Sys2Proof.Machine.Reg
open Sys2Proof.Laws.Commands (recover_serves recover_idle bspiGo_busy bspiGo_booting bspiGo_read bspiGo_belowFloor bspiGo_program
  bspiGo_erase smbFull_held isHbm_register)
open Sys2Proof.Proofs.FabricBlocks (exec_viaWrite_pass)

/-! ## Features (R394) -/

section Feature

variable {s : State} {m : Master} {v : Nat}

theorem exec_featCommit (hg : s.gate m FEAT_COMMIT = .pass) :
    exec (.featCommit m v) s = .next ((s.answer (.ok 0)).featCommit m v) := exec_viaWrite_pass (·.featCommit m v) rfl hg

theorem featCommit_again (h : s.committed = true) : s.featCommit m v = s.dropWrite m .bootLocked FEAT_COMMIT := if_pos h

theorem featCommit_first (h : s.committed = false) :
    s.featCommit m v = if v % 2 = 1 then s.setF HUB_STATUS_COMMITTED 1 else s := if_neg (by simp [h])

end Feature

/-! ## Registers that masters share (R397) -/

section Shared

variable {s : State} {m : Master} {a fn v : Nat} {late : Bool}

/-- The write has answered; one that waited for another of its cycle is logged. -/
def sharedAnswer (s : State) (m : Master) (a : Nat) (late : Bool) : State :=
  (if late then s.logDrop m .order a else s).answer (.ok 0)

theorem sharedWrite_pass (act : State → State) (hg : s.sharedGate m = .pass) :
    s.sharedWrite m a late act = act (sharedAnswer s m a late) := by
  simp only [State.sharedWrite, hg, sharedAnswer]

theorem sharedWrite_refused (act : State → State) (hg : s.sharedGate m ≠ .pass) :
    s.sharedWrite m a late act = s.refuse m a (s.sharedGate m) := by
  unfold State.sharedWrite
  split
  · next h => exact absurd h hg
  · rfl

theorem exec_hubAttn (hg : s.sharedGate m = .pass) :
    exec (.hubAttn m v late) s = .next ((sharedAnswer s m HUB_ATTN late).attnPush m v) :=
  congrArg Host.Outcome.next (sharedWrite_pass (fun t => t.attnPush m v) hg)

theorem exec_mbxH2fDb (hg : s.sharedGate m = .pass) :
    exec (.mbxH2fDb m fn v late) s = .next ((sharedAnswer s m (MBX_H2F_DB fn) late).doorbell fn v) :=
  congrArg Host.Outcome.next (sharedWrite_pass (fun t => t.doorbell fn v) hg)

theorem exec_hubAttn_refused (hg : s.sharedGate m ≠ .pass) :
    exec (.hubAttn m v late) s = .next (s.refuse m HUB_ATTN (s.sharedGate m)) :=
  congrArg Host.Outcome.next (sharedWrite_refused (fun t => t.attnPush m v) hg)

theorem exec_mbxH2fDb_refused (hg : s.sharedGate m ≠ .pass) :
    exec (.mbxH2fDb m fn v late) s = .next (s.refuse m (MBX_H2F_DB fn) (s.sharedGate m)) :=
  congrArg Host.Outcome.next (sharedWrite_refused (fun t => t.doorbell fn v) hg)

theorem attnPush_room (h : s.ev.attn.length < 16) :
    s.attnPush m v = { s with ev := { s.ev with attn := s.ev.attn ++ [(m.num, v % 2 ^ 32)] } } := if_pos h

theorem attnPush_full (h : ¬ s.ev.attn.length < 16) : s.attnPush m v = s.dropWrite m .full HUB_ATTN := if_neg h

/-- How far an index stands ahead of MBX_H2F_CI. -/
abbrev aheadOfCi (s : State) (fn pi : Nat) : Nat := (pi + 65536 - s.f (MBX_H2F_CI_CI fn)) % 65536

/-- The index moves backward, or more than 64 ahead. -/
abbrev badDoorbell (s : State) (fn v : Nat) : Prop :=
  aheadOfCi s fn (v % 65536) < aheadOfCi s fn (s.f (MBX_H2F_DB_PI fn)) ∨ 64 < aheadOfCi s fn (v % 65536)

theorem doorbell_ignored (h : badDoorbell s fn v) : s.doorbell fn v = s.setF (MBX_STATUS_DB_ERR fn) 1 := if_pos h

theorem doorbell_taken (h : ¬ badDoorbell s fn v) : s.doorbell fn v =
    { s.setF (MBX_H2F_DB_PI fn) v with out := (s.setF (MBX_H2F_DB_PI fn) v).out ++ [.coreIrq fn] } := if_neg h

end Shared

/-! ## Vectors (R403, R404) -/

section Vector

variable {s : State} {fn v : Nat}

theorem msix_fenced (h : s.funcFenced fn = true) : s.msix fn v = s.holdFx ⟨2, s.funcEp fn, fn, s.funcLease fn,
    s.f (MBX_MSIX_WORD fn (4 * v)) + s.f (MBX_MSIX_WORD fn (4 * v + 1)) * 2 ^ 32, s.f (MBX_MSIX_WORD fn (4 * v + 2)),
    s.openEpoch, [], none⟩ := if_pos h

theorem msix_masked (h : s.funcFenced fn = false) (hm : s.msixMasked fn v = true) : s.msix fn v = s.setPba fn v true :=
  (if_neg (by simp [h])).trans (if_pos hm)

theorem msix_sent (h : s.funcFenced fn = false) (hm : s.msixMasked fn v = false) :
    s.msix fn v = { s with out := s.out ++ [.msix fn v] } := (if_neg (by simp [h])).trans (if_neg (by simp [hm]))

/-- The vector with its mask bit cleared. -/
def unmasked (s : State) (fn v : Nat) : State :=
  if s.f (MBX_MSIX_WORD fn (4 * v + 3)) % 2 = 1 then
    s.setF (MBX_MSIX_WORD fn (4 * v + 3)) (s.f (MBX_MSIX_WORD fn (4 * v + 3)) - 1)
  else s

theorem exec_msixUnmask : exec (.msixUnmask fn v) s = .next (
    if ((unmasked s fn v).pba fn v && !(unmasked s fn v).msixMasked fn v) = true then
      ((unmasked s fn v).setPba fn v false).msix fn v
    else unmasked s fn v) := by
  refine congrArg Host.Outcome.next ?_
  by_cases h : (unmasked s fn v).pba fn v = true ∧ (!(unmasked s fn v).msixMasked fn v) = true
  · exact (if_pos h).trans (if_pos (Bool.and_eq_true_iff.mpr h)).symm
  · exact (if_neg h).trans (if_neg (mt Bool.and_eq_true_iff.mp h)).symm

end Vector

/-! ## Recovery (R400, R405) -/

section Recovery

variable {s u : State} {st : Nat} {d : List Byte}

/-- The recovery message at hand is taken off its ring. -/
def messageTaken (s : State) : State := s.setF (MBX_H2F_CI_CI 0) (s.f (MBX_H2F_CI_CI 0) + 1)

/-- Recovery is ready, and the oldest message has opcode `opc`. -/
abbrev serves (s : State) (opc : Nat) : Prop := s.recReady = true ∧ s.h2fWord (s.f (MBX_H2F_CI_CI 0)) 0 % 65536 = opc

/-- The message is answered with the payload `d`. -/
def answered (s t : State) (opc : Nat) (d : List Byte) : State := t.f2hPut opc 1 (s.h2fWord (s.f (MBX_H2F_CI_CI 0)) 1) d

theorem recover_answers {opc : Nat} {serve : State → State × Option (List Byte)} (h : serves s opc)
    (hs : serve (messageTaken s) = (u, some d)) : s.recover opc serve = answered s u opc d := recover_serves h.1 h.2 hs

/-- Status of an erase of the message's range before it begins. -/
def eraseCheck (s t : State) : Nat :=
  t.recCheck (decide (s.recArg 0 % 65536 ≠ 0 ∨ s.recArg 1 % 65536 ≠ 0 ∨ 2 ^ 32 < s.recArg 0 + s.recArg 1))

/-- The HBM address of the message's data. -/
def programSource (s : State) : Nat := s.recArg 1 + s.recArg 2 * 2 ^ 32

/-- Status of a programming of the message's range before it begins. -/
def programCheck (s t : State) : Nat :=
  t.recCheck (decide (2 ^ 32 < s.recArg 0 + s.recArg 3 ∨ hbmEnd < programSource s + s.recArg 3))

theorem exec_flashErase_refused {failed : Bool} (h : serves s 0x8003) (hc : eraseCheck s (messageTaken s) ≠ 0) :
    exec (.flashErase failed) s =
      .next (answered s (messageTaken s) 0x8003 (leBytes 1 (eraseCheck s (messageTaken s)))) :=
  congrArg Host.Outcome.next (recover_answers h (if_pos hc))

theorem exec_flashErase_fails (h : serves s 0x8003) (hc : eraseCheck s (messageTaken s) = 0) :
    exec (.flashErase true) s =
      .next (answered s ((messageTaken s).flashFree (s.recArg 0) (s.recArg 1)) 0x8003 (leBytes 1 3)) :=
  congrArg Host.Outcome.next (recover_answers h (if_neg (not_not_intro hc)))

theorem exec_flashErase_erases (h : serves s 0x8003) (hc : eraseCheck s (messageTaken s) = 0) :
    exec (.flashErase false) s =
      .next (answered s ((messageTaken s).flashErase (s.recArg 0) (s.recArg 1)) 0x8003 (leBytes 1 0)) :=
  congrArg Host.Outcome.next (recover_answers h (if_neg (not_not_intro hc)))

theorem exec_flashProgram_refused {failed : Bool} (h : serves s 0x8004) (hc : programCheck s (messageTaken s) ≠ 0) :
    exec (.flashProgram failed) s =
      .next (answered s (messageTaken s) 0x8004 (leBytes 1 (programCheck s (messageTaken s)))) :=
  congrArg Host.Outcome.next (recover_answers h (if_pos hc))

theorem exec_flashProgram_fails (h : serves s 0x8004) (hc : programCheck s (messageTaken s) = 0) :
    exec (.flashProgram true) s =
      .next (answered s ((messageTaken s).flashFree (s.recArg 0) (s.recArg 3)) 0x8004 (leBytes 1 3)) :=
  congrArg Host.Outcome.next (recover_answers h (if_neg (not_not_intro hc)))

/-- The data read from HBM is programmed; a failed read programs nothing. -/
theorem exec_flashProgram_programs (h : serves s 0x8004) (hc : programCheck s (messageTaken s) = 0)
    (hr : (messageTaken s).hubRead (programSource s) (s.recArg 3) = (u, st, d)) :
    exec (.flashProgram false) s = .next (if st = stOk then answered s (u.flashProg (s.recArg 0) d) 0x8004 (leBytes 1 0)
      else answered s u 0x8004 (leBytes 1 3)) := by
  by_cases hst : st = stOk
  · rw [if_pos hst]
    exact congrArg Host.Outcome.next (recover_answers h ((if_neg (not_not_intro hc)).trans (by
      simp only [programSource] at hr
      simp only [Bool.false_eq_true, if_false, hr, if_pos hst])))
  · rw [if_neg hst]
    exact congrArg Host.Outcome.next (recover_answers h ((if_neg (not_not_intro hc)).trans (by
      simp only [programSource] at hr
      simp only [Bool.false_eq_true, if_false, hr, if_neg hst])))

/-- With no message to answer, or no room for the answer, the opcodes do nothing. -/
theorem recovery_idle {failed : Bool} (h : s.recReady = false) : exec .ping s = .next s ∧ exec .recoveryStatus s = .next s ∧
    exec (.flashErase failed) s = .next s ∧ exec (.flashProgram failed) s = .next s ∧ exec .flashCrc s = .next s :=
  ⟨congrArg _ (recover_idle h), congrArg _ (recover_idle h), congrArg _ (recover_idle h), congrArg _ (recover_idle h),
    congrArg _ (recover_idle h)⟩

end Recovery

/-- Settles O53: a shared register by its gate and its room, a vector by fence and mask, a recovery opcode by its check. -/
theorem hubCommands : Obligations.HubCommands := by
  unfold Obligations.HubCommands
  exact ⟨fun s m v hg hc => (exec_featCommit hg).trans (congrArg _ (featCommit_again hc)),
    fun s m v hg hc => (exec_featCommit hg).trans (congrArg _ (featCommit_first hc)),
    fun s m v late hg h => (exec_hubAttn hg).trans (congrArg _ (attnPush_room h)),
    fun s m v late hg h => (exec_hubAttn hg).trans (congrArg _ (attnPush_full h)),
    fun s m hg => ⟨fun v late => exec_hubAttn_refused hg, fun fn v late => exec_mbxH2fDb_refused hg⟩,
    fun s peek => ⟨rfl, rfl, rfl⟩,
    fun s m fn v late t hg ht h => by subst ht; exact (exec_mbxH2fDb hg).trans (congrArg _ (doorbell_ignored h)),
    fun s m fn v late t hg ht h => by subst ht; exact (exec_mbxH2fDb hg).trans (congrArg _ (doorbell_taken h)),
    fun s m fn v hg => exec_viaWrite_pass (·.f2hWrite fn v) rfl hg,
    fun s m fn vec hg => exec_viaWrite_pass (·.msixRaise fn vec) rfl hg,
    fun s fn v h => msix_fenced h, fun s fn v h hm => msix_masked h hm, fun s fn v h hm => msix_sent h hm,
    fun s fn v => exec_msixUnmask,
    fun s t hr ho ht => by subst ht; exact congrArg _ (recover_answers ⟨hr, ho⟩ rfl),
    fun s t hr ho ht => by subst ht; exact congrArg _ (recover_answers ⟨hr, ho⟩ rfl),
    fun s failed t hr ho ht hc => by subst ht; exact exec_flashErase_refused ⟨hr, ho⟩ hc,
    fun s t hr ho ht hc => by subst ht; exact exec_flashErase_fails ⟨hr, ho⟩ hc,
    fun s t hr ho ht hc => by subst ht; exact exec_flashErase_erases ⟨hr, ho⟩ hc,
    fun s failed t hr ho ht hc => by subst ht; exact exec_flashProgram_refused ⟨hr, ho⟩ hc,
    fun s t hr ho ht hc => by subst ht; exact exec_flashProgram_fails ⟨hr, ho⟩ hc,
    fun s t u st d hr ho ht hc hd => by subst ht; exact exec_flashProgram_programs ⟨hr, ho⟩ hc hd,
    fun s t hr ho ht => by subst ht; exact congrArg _ (recover_answers ⟨hr, ho⟩ rfl),
    fun s failed h => recovery_idle h⟩

/-! ## Host DMA (R406) -/

section HostDma

variable {s : State} {m : Master} {c lease win dir : Nat}

theorem exec_hdmaGo (hg : s.gate m (HUB_HDMA_CTRL c) = .pass) :
    exec (.hdmaGo m c lease win dir) s = .next ((s.answer (.ok 0)).hdmaGo c lease win dir) :=
  exec_viaWrite_pass (·.hdmaGo c lease win dir) rfl hg

theorem exec_hdmaAbort (hg : s.gate m (HUB_HDMA_CTRL c) = .pass) :
    exec (.hdmaAbort m c) s = .next ((s.answer (.ok 0)).hdmaAbort c) := exec_viaWrite_pass (·.hdmaAbort c) rfl hg

/-- The channel as the GO write leaves it. -/
def hdmaArmed (s : State) (c lease win dir : Nat) : State :=
  s.setFs [(HUB_HDMA_CTRL_LEASE c, lease), (HUB_HDMA_CTRL_WIN c, win), (HUB_HDMA_CTRL_DIR c, dir), (HUB_HDMA_STATUS_RSTATUS c, 0)]

/-- The length is not a positive number of words, or the copy ends outside HBM. -/
abbrev hdmaBad (t : State) (c : Nat) : Prop :=
  t.f (HDMA_LEN_LEN c) = 0 ∨ t.f (HDMA_LEN_LEN c) % 4 ≠ 0 ∨ hbmEnd < t.hdmaHbm c + t.f (HDMA_LEN_LEN c)

theorem hdmaGo_busy (h : s.bit (HUB_HDMA_STATUS_BUSY c) = true) :
    s.hdmaGo c lease win dir = s.busy (HUB_HDMA_STATUS_FIELD_BUSY c) := if_pos h

theorem hdmaGo_idle (h : s.bit (HUB_HDMA_STATUS_BUSY c) = false) : s.hdmaGo c lease win dir =
    if hdmaBad (hdmaArmed s c lease win dir) c then
      (hdmaArmed s c lease win dir).setFs [(HUB_HDMA_STATUS_ERR c, 1), (HUB_HDMA_STATUS_DONE c, 1)]
    else (((hdmaArmed s c lease win dir).setFs [(HUB_HDMA_STATUS_ERR c, 0), (HUB_HDMA_STATUS_BUSY c, 1)]).setHdma c
      Hdma.empty).hdmaNext c := if_neg (by simp [h])

theorem exec_hdmaGo_range (hg : s.gate m (HUB_HDMA_CTRL c) = .pass) (h : s.bit (HUB_HDMA_STATUS_BUSY c) = false)
    (hb : hdmaBad (hdmaArmed (s.answer (.ok 0)) c lease win dir) c) : exec (.hdmaGo m c lease win dir) s =
      .next ((hdmaArmed (s.answer (.ok 0)) c lease win dir).setFs [(HUB_HDMA_STATUS_ERR c, 1), (HUB_HDMA_STATUS_DONE c, 1)]) :=
  (exec_hdmaGo hg).trans (congrArg _ ((hdmaGo_idle (s := s.answer (.ok 0)) h).trans (if_pos hb)))

theorem exec_hdmaGo_starts (hg : s.gate m (HUB_HDMA_CTRL c) = .pass) (h : s.bit (HUB_HDMA_STATUS_BUSY c) = false)
    (hb : ¬ hdmaBad (hdmaArmed (s.answer (.ok 0)) c lease win dir) c) : exec (.hdmaGo m c lease win dir) s =
      .next ((((hdmaArmed (s.answer (.ok 0)) c lease win dir).setFs
        [(HUB_HDMA_STATUS_ERR c, 0), (HUB_HDMA_STATUS_BUSY c, 1)]).setHdma c Hdma.empty).hdmaNext c) :=
  (exec_hdmaGo hg).trans (congrArg _ ((hdmaGo_idle (s := s.answer (.ok 0)) h).trans (if_neg hb)))

theorem hdmaAbort_running (h : s.bit (HUB_HDMA_STATUS_BUSY c) = true) :
    s.hdmaAbort c = s.setHdma c { s.hdmaAt c with stop := true } := if_pos h

theorem hdmaAbort_idle (h : s.bit (HUB_HDMA_STATUS_BUSY c) = false) : s.hdmaAbort c = s := if_neg (by simp [h])

end HostDma

/-! ## The SMBus slave (R407, R408) -/

section Smbus

variable {s : State} {a v : Nat} {pecOk : Bool}

theorem smbEvent_empty (h : s.ev.board = []) : s.smbEvent = s.answer (.bytes []) := by simp only [State.smbEvent, h]

theorem smbEvent_oldest {r : EvRec} {t : List EvRec} (h : s.ev.board = r :: t) :
    s.smbEvent = { s with ev := { s.ev with board := t } }.answer (.bytes r.toBytes) := by simp only [State.smbEvent, h]

theorem smbRead_held (h : s.smbFull = false) (hr : smbHeldReg a = false) :
    s.smbRead a = s.answer (.bytes (leBytes 4 0 ++ [2])) := if_pos (by simp [h, hr])

theorem smbRead_served (h : s.smbFull = true ∨ smbHeldReg a = true) : s.smbRead a =
    (s.mgmtRead .board a 4 false).answer (.bytes (s.mgmtRead .board a 4 false).resp.smbBytes) :=
  if_neg (by rcases h with h | h <;> simp [h])

theorem smbBytes_eq (r : Resp) : r.smbBytes = match r with | .ok x => leBytes 4 x ++ [0] | _ => leBytes 4 0 ++ [1] := by
  cases r <;> rfl

theorem exec_smbProcessRead_served (h : s.smbFull = true ∨ smbHeldReg a = true) : exec (.smbProcessRead a) s = .next (
    let t := s.mgmtRead .board a 4 false
    t.answer (.bytes (match t.resp with | .ok x => leBytes 4 x ++ [0] | _ => leBytes 4 0 ++ [1]))) := by
  refine congrArg Host.Outcome.next ((smbRead_served h).trans ?_)
  exact congrArg (fun l => (s.mgmtRead .board a 4 false).answer (.bytes l)) (smbBytes_eq _)

theorem smbWrite_badPec (h : s.feature 35 = true) (hp : pecOk = false) : s.smbWrite a v pecOk = s := if_pos (by simp [h, hp])

/-- The write has no PEC error that SMB_PEC makes the slave heed. -/
abbrev pecPasses (s : State) (pecOk : Bool) : Prop := ¬ (s.feature 35 = true ∧ pecOk = false)

theorem pecPasses_iff : pecPasses s pecOk ↔ ¬ (s.feature 35 = true ∧ (!pecOk) = true) := by
  rw [pecPasses, Bool.not_eq_true']

theorem pecPasses_of_or (h : s.feature 35 = false ∨ pecOk = true) : pecPasses s pecOk := by
  rintro ⟨hf, rfl⟩
  rcases h with h | h
  · rw [hf] at h; cases h
  · cases h

theorem smbWrite_held (hp : pecPasses s pecOk) (h : s.smbFull = false) : s.smbWrite a v pecOk = { s with smb := 2 } :=
  (if_neg (pecPasses_iff.mp hp)).trans (if_pos (by simp [h]))

theorem exec_smbBlockWrite_acts (hp : pecPasses s pecOk) (h : s.smbFull = true) : exec (.smbBlockWrite a v pecOk) s = .next (
    let shared := decide (a = HUB_ATTN) || (match decodeReg a with | some (k, _) => decide (k.id = .MBX_H2F_DB) | none => false)
    let g := if shared ∨ isHbm a ∨ (decodeReg a).isNone then Gate.pass else s.gate .board a
    let t := s.mgmtWrite .board a v 4 0
    { t with smb := smbStatus g t.resp }) :=
  congrArg Host.Outcome.next ((if_neg (pecPasses_iff.mp hp)).trans (if_neg (by simp [h])))

theorem smbHeldReg_true (h : a = HUB_ID ∨ a = HUB_SUPPLY ∨ blockOf a = some .PWR) : smbHeldReg a = true := decide_eq_true h

theorem smbHeldReg_false (h : ¬ (a = HUB_ID ∨ a = HUB_SUPPLY ∨ blockOf a = some .PWR)) : smbHeldReg a = false :=
  decide_eq_false h

/-- A register served while the device is held lies in the HUB or the PWR block. -/
theorem blockOf_held (h : a = HUB_ID ∨ a = HUB_SUPPLY ∨ blockOf a = some .PWR) : ∃ b, blockOf a = some b ∧ b ≠ .FAB := by
  rcases h with rfl | rfl | h
  · exact ⟨.HUB, by decide, by decide⟩
  · exact ⟨.HUB, by decide, by decide⟩
  · exact ⟨.PWR, h, by decide⟩

/-- The management read of such a register shows it. -/
theorem mgmtRead_held {k : RegKind} {ix : List Nat} (h : a = HUB_ID ∨ a = HUB_SUPPLY ∨ blockOf a = some .PWR) (ha : a % 4 = 0)
    (hd : decodeReg a = some (k, ix)) : s.mgmtRead .board a 4 false =
      (s.xsweep.regRead k ix a false).1.answer (.ok (s.xsweep.regRead k ix a false).2) := by
  obtain ⟨b, hb, hf⟩ := blockOf_held h
  rw [Scope.mgmtRead_inBlock (fun _ _ => Master.noConfusion) (isHbm_register hb) hb (fun e => absurd e hf),
    if_neg (by simp [ha]), hd]
  rfl

theorem exec_smbProcessRead_register {k : RegKind} {ix : List Nat} (h : a = HUB_ID ∨ a = HUB_SUPPLY ∨ blockOf a = some .PWR)
    (ha : a % 4 = 0) (hd : decodeReg a = some (k, ix)) : exec (.smbProcessRead a) s = .next (
      let r := s.xsweep.regRead k ix a false
      (r.1.answer (.ok r.2)).answer (.bytes (leBytes 4 r.2 ++ [0]))) := by
  rw [exec_smbProcessRead_served (.inr (smbHeldReg_true h)), mgmtRead_held h ha hd]
  rfl

end Smbus

/-! ## The boot flash (R409) -/

section BootFlash

variable {s : State} {m : Master} {cnt : Nat}

theorem exec_bspiRead (hg : s.gate m HUB_BSPI_CMD = .pass) :
    exec (.bspiRead m cnt) s = .next ((s.answer (.ok 0)).bspiGo 1 cnt) := exec_viaWrite_pass (·.bspiGo 1 cnt) rfl hg

theorem exec_bspiProgram (hg : s.gate m HUB_BSPI_CMD = .pass) :
    exec (.bspiProgram m cnt) s = .next ((s.answer (.ok 0)).bspiGo 2 cnt) := exec_viaWrite_pass (·.bspiGo 2 cnt) rfl hg

theorem exec_bspiErase4k (hg : s.gate m HUB_BSPI_CMD = .pass) :
    exec (.bspiErase4k m) s = .next ((s.answer (.ok 0)).bspiGo 3 0) := exec_viaWrite_pass (·.bspiGo 3 0) rfl hg

/-- What answers every operation answers each of the three commands. -/
theorem exec_bspi_all {u : State} (hg : s.gate m HUB_BSPI_CMD = .pass) (h : ∀ op n, (s.answer (.ok 0)).bspiGo op n = u) :
    exec (.bspiRead m cnt) s = .next u ∧ exec (.bspiProgram m cnt) s = .next u ∧ exec (.bspiErase4k m) s = .next u :=
  ⟨(exec_bspiRead hg).trans (congrArg _ (h 1 cnt)), (exec_bspiProgram hg).trans (congrArg _ (h 2 cnt)),
    (exec_bspiErase4k hg).trans (congrArg _ (h 3 0))⟩

theorem exec_bspiCmdEnd_none {failed : Bool} (h : s.bspi = none) : exec (.bspiCmdEnd failed) s = .next s :=
  congrArg Host.Outcome.next (by simp only [State.bspiEnd, h])

/-- The effect of operation `op` at its end. -/
def bspiEffect (s : State) (op cnt : Nat) (failed : Bool) : State :=
  let a := s.f HUB_BSPI_ADDR_ADDR
  match op, failed with
  | 1, false => s.setBspiBuf (s.flashBytes a (cnt + 1))
  | 2, false => s.flashProg a (s.bspiBuf.take (cnt + 1))
  | 2, true => s.flashFree a (cnt + 1)
  | 3, false => s.flashErase (a / 4096 * 4096) 4096
  | 3, true => s.flashFree (a / 4096 * 4096) 4096
  | _, _ => s

theorem exec_bspiCmdEnd {failed : Bool} {op e : Nat} {t : State} (h : s.bspi = some (op, cnt))
    (ht : bspiEffect s op cnt failed = t) (he : (if failed then 3 else 0) = e) : exec (.bspiCmdEnd failed) s =
      .next ({ t with bspi := none }.setFs [(HUB_BSPI_STATUS_ERR, e), (HUB_BSPI_STATUS_BUSY, 0), (HUB_BSPI_STATUS_DONE, 1)]) := by
  subst ht he
  refine congrArg Host.Outcome.next ?_
  simp only [State.bspiEnd, h]
  rfl

end BootFlash

/-- Settles O54: a channel by BUSY and its range, the slave by what it serves, the flash by BUSY, the boot and the floor. -/
theorem hostDmaSmbusAndFlashCommands : Obligations.HostDmaSmbusAndFlashCommands := by
  unfold Obligations.HostDmaSmbusAndFlashCommands
  exact ⟨fun s m c lease win dir hg h => (exec_hdmaGo hg).trans (congrArg _ (hdmaGo_busy h)),
    fun s m c lease win dir t hg h ht hb => by subst ht; exact exec_hdmaGo_range hg h hb,
    fun s m c lease win dir t hg h ht hb => by subst ht; exact exec_hdmaGo_starts hg h hb,
    fun s m c hg h => (exec_hdmaAbort hg).trans (congrArg _ (hdmaAbort_running h)),
    fun s m c hg h => (exec_hdmaAbort hg).trans (congrArg _ (hdmaAbort_idle h)),
    fun s c h => congrArg _ (if_pos h), fun s c h => congrArg _ (if_neg h),
    fun s a h hr => congrArg _ (smbRead_held h hr), fun s a h => exec_smbProcessRead_served h,
    fun s a v pecOk h hp => congrArg _ (smbWrite_badPec h hp), fun s a v pecOk hp h => congrArg _ (smbWrite_held hp h),
    fun s a v pecOk hp h => exec_smbBlockWrite_acts hp h,
    fun s h => congrArg _ (smbEvent_empty h), fun s r t h => congrArg _ (smbEvent_oldest h), fun s => ⟨rfl, rfl, rfl⟩,
    fun s m cnt hg h => exec_bspi_all hg fun op n => bspiGo_busy op n h,
    fun s m cnt hg h hc => exec_bspi_all hg fun op n => bspiGo_booting op n h hc,
    fun s m cnt hg h hc => (exec_bspiRead hg).trans (congrArg _ (bspiGo_read cnt h hc)),
    fun s m cnt hg h hc hf => ⟨(exec_bspiProgram hg).trans (congrArg _ (bspiGo_belowFloor 2 cnt h hc hf (by decide))),
      (exec_bspiErase4k hg).trans (congrArg _ (bspiGo_belowFloor 3 0 h hc hf (by decide)))⟩,
    fun s m cnt hg h hc hf => (exec_bspiProgram hg).trans (congrArg _ (bspiGo_program cnt h hc hf)),
    fun s m hg h hc hf => (exec_bspiErase4k hg).trans (congrArg _ (bspiGo_erase h hc hf)),
    fun s failed h => exec_bspiCmdEnd_none h,
    fun s cnt h => exec_bspiCmdEnd h rfl rfl, fun s cnt h => exec_bspiCmdEnd h rfl rfl,
    fun s cnt h => exec_bspiCmdEnd h rfl rfl, fun s cnt h => exec_bspiCmdEnd h rfl rfl,
    fun s cnt h => exec_bspiCmdEnd h rfl rfl, fun s cnt h => exec_bspiCmdEnd h rfl rfl⟩

/-- Settles O59: the held slave pops events, shows its status and the registers it serves, and answers BUSY for the rest. -/
theorem smbusWhileTheDeviceIsHeld : Obligations.SmbusWhileTheDeviceIsHeld := by
  unfold Obligations.SmbusWhileTheDeviceIsHeld
  refine ⟨fun s l _ hl => ?_, fun s _ => rfl, fun s a k ix _ hs ha hd => exec_smbProcessRead_register hs ha hd,
    fun s a h hs => congrArg _ (smbRead_held (smbFull_held h) (smbHeldReg_false hs)),
    fun s a v pecOk h hp => congrArg _ (smbWrite_held (pecPasses_of_or hp) (smbFull_held h))⟩
  cases l with
  | nil => exact congrArg _ (smbEvent_empty hl)
  | cons r t => exact congrArg _ (smbEvent_oldest hl)

end Sys2Proof.Proofs.HubAndHost
end

section
/-! Pins (16_pins_and_multiplexer.md R412 to R423): function switches and the lock sequence. -/

namespace Sys2Proof.Proofs.Pins

open Sys2Proof Sys2Proof.Machine Sys2Proof.Machine.Reg
open Sys2Proof.Proofs.FabricBlocks (exec_viaWrite_pass)

/-! ## Function switches (R417, R418) -/

section Switch

variable {s t : State} {n : Nat} {lev ext : List (Nat × Nat)}

/-- The levels that the units behind the sources and the board drive are taken, and the pins they reach checked for sharing. -/
def levelsTaken (s : State) (lev ext : List (Nat × Nat)) : State :=
  let u := s.updGpio fun g => { g with
    lev := lev.foldl (fun m x => nput m x.1 x.2) g.lev
    ext := ext.foldl (fun m x => nput m x.1 x.2) g.ext }
  u.shareAll ((lev.map Prod.fst).filterMap u.srcNow)

/-- The new driver set of a parked pin is connected. -/
def connected (t : State) (n : Nat) : State :=
  (State.sleepPins t ((t.mapApply n).updGpio fun g => { g with phase := nput g.phase n 0 }) [n]).shareCheck n

theorem exec_gpioSwitchConnect_parked (h : nget (levelsTaken s lev ext).gpio.phase n = 2) :
    exec (.gpioSwitchConnect n lev ext) s = .next (connected (levelsTaken s lev ext) n).padNote := by
  show Host.Outcome.next (s.pinConnect n lev ext).padNote = _
  have hp : s.pinConnect n lev ext = connected (levelsTaken s lev ext) n := by
    simp only [levelsTaken] at h
    simp only [State.pinConnect, h, connected, levelsTaken]
  rw [hp]

theorem exec_gpioSwitchConnect_extended (h : nget (levelsTaken s lev ext).gpio.phase n = 3) :
    exec (.gpioSwitchConnect n lev ext) s =
      .next ((levelsTaken s lev ext).updGpio fun g => { g with phase := nput g.phase n 2 }).padNote := by
  show Host.Outcome.next (s.pinConnect n lev ext).padNote = _
  have hp : s.pinConnect n lev ext = (levelsTaken s lev ext).updGpio fun g => { g with phase := nput g.phase n 2 } := by
    simp only [levelsTaken] at h
    simp only [State.pinConnect, h, levelsTaken]
  rw [hp]

theorem exec_gpioSwitchConnect_unswitched (h2 : nget (levelsTaken s lev ext).gpio.phase n ≠ 2)
    (h3 : nget (levelsTaken s lev ext).gpio.phase n ≠ 3) :
    exec (.gpioSwitchConnect n lev ext) s = .next (levelsTaken s lev ext).padNote := by
  show Host.Outcome.next (s.pinConnect n lev ext).padNote = _
  have hp : s.pinConnect n lev ext = levelsTaken s lev ext := by
    unfold State.pinConnect
    simp only
    split
    · next h => exact absurd h h2
    · next h => exact absurd h h3
    · rfl
  rw [hp]

end Switch

/-! ## The lock sequence (R421 to R423) -/

section Lock

variable {s : State} {m : Master} {w core mask : Nat}

/-- The sequence goes back to idle, and its core leaves it. -/
def lockAborted (s : State) : State :=
  ((s.setFs [(GPIO_LOCK_STATUS_STEP, 0), (GPIO_LOCK_STATUS_ABORTED, 1)]).raise .GPIO_LOCK_ABORT false 0 noInst).lockLeave

theorem lockAbort_idle (h : s.f GPIO_LOCK_STATUS_STEP = 0) : s.lockAbort = s := if_pos h

theorem lockAbort_running (h : s.f GPIO_LOCK_STATUS_STEP ≠ 0) : s.lockAbort = lockAborted s := if_neg h

theorem exec_gpioLockArm (hg : s.gate m GPIO_LOCK = .pass) :
    exec (.gpioLockArm m w core) s = .next ((s.answer (.ok 0)).lockArm m w core) := exec_viaWrite_pass (·.lockArm m w core) rfl hg

theorem exec_gpioLockMaskWrite (hg : s.gate m GPIO_LOCK_MASK = .pass) :
    exec (.gpioLockMaskWrite m mask) s = .next ((s.answer (.ok 0)).lockMask mask) := exec_viaWrite_pass (·.lockMask mask) rfl hg

theorem exec_gpioLockCommit (hg : s.gate m GPIO_LOCK = .pass) :
    exec (.gpioLockCommit m w) s = .next ((s.answer (.ok 0)).lockCommit w) := exec_viaWrite_pass (·.lockCommit w) rfl hg

theorem lockArm_again (h : s.f GPIO_LOCK_STATUS_STEP ≠ 0) : s.lockArm m w core = lockAborted s :=
  (if_pos h).trans (lockAbort_running h)

theorem lockArm_idle (h : s.f GPIO_LOCK_STATUS_STEP = 0) (hw : w < 3) : s.lockArm m w core =
    let t := (s.setF GPIO_LOCK_STATUS_STEP 1).updGpio fun g => { g with word := w, mask := 0 }
    if m = .firmware then { t with dbg := { t.dbg with locked := nput t.dbg.locked core 2 } } else t :=
  (if_neg (not_not_intro h)).trans (if_pos hw)

theorem lockArm_noWord (h : s.f GPIO_LOCK_STATUS_STEP = 0) (hw : 3 ≤ w) : s.lockArm m w core = s :=
  (if_neg (not_not_intro h)).trans (if_neg (Nat.not_lt.mpr hw))

theorem lockMask_armed (h : s.f GPIO_LOCK_STATUS_STEP = 1) : s.lockMask mask =
    (s.setF GPIO_LOCK_STATUS_STEP 2).updGpio fun g => { g with mask := mask % 2 ^ 32 } := if_pos h

theorem lockMask_masked (h : s.f GPIO_LOCK_STATUS_STEP = 2) : s.lockMask mask = lockAborted s :=
  (if_neg (by simp [h])).trans (lockAbort_running (by simp [h]))

theorem lockMask_idle (h : s.f GPIO_LOCK_STATUS_STEP = 0) : s.lockMask mask = s :=
  (if_neg (by simp [h])).trans (lockAbort_idle h)

theorem exec_gpioLockTimeout : exec .gpioLockTimeout s = .next s.lockAbort := rfl

/-- The mask is kept, and for this word. -/
abbrev commits (s : State) (w : Nat) : Prop := s.f GPIO_LOCK_STATUS_STEP = 2 ∧ s.gpio.word = w

theorem lockCommit_masked (h : commits s w) : s.lockCommit w = ((s.setF GPIO_LOCK_STATUS_STEP 0).setF (GPIO_LOCKED_BITS w)
    (s.f (GPIO_LOCKED_BITS w) ||| s.gpio.mask)).lockLeave := if_pos h

theorem lockCommit_wrong (h : ¬ commits s w) (hr : s.f GPIO_LOCK_STATUS_STEP ≠ 0) : s.lockCommit w = lockAborted s :=
  (if_neg h).trans (lockAbort_running hr)

theorem lockCommit_idle (h : s.f GPIO_LOCK_STATUS_STEP = 0) : s.lockCommit w = s :=
  (if_neg (by simp [h])).trans (lockAbort_idle h)

end Lock

/-- Settles O55: a switch by the pin's phase, a lock write by the step of the sequence. -/
theorem pinSwitchAndLockCommands : Obligations.PinSwitchAndLockCommands := by
  unfold Obligations.PinSwitchAndLockCommands
  exact ⟨fun s n h => congrArg _ (if_pos h), fun s n h => congrArg _ (if_neg h),
    fun s n lev ext t ht h => by subst ht; exact exec_gpioSwitchConnect_parked h,
    fun s n lev ext t ht h => by subst ht; exact exec_gpioSwitchConnect_extended h,
    fun s n lev ext t ht h2 h3 => by subst ht; exact exec_gpioSwitchConnect_unswitched h2 h3,
    fun s m w core hg h => (exec_gpioLockArm hg).trans (congrArg _ (lockArm_again h)),
    fun s m w core hg h hw => (exec_gpioLockArm hg).trans (congrArg _ (lockArm_idle h hw)),
    fun s m w core hg h hw => (exec_gpioLockArm hg).trans (congrArg _ (lockArm_noWord h hw)),
    fun s m mask hg h => (exec_gpioLockMaskWrite hg).trans (congrArg _ (lockMask_armed h)),
    fun s m mask hg h => (exec_gpioLockMaskWrite hg).trans (congrArg _ (lockMask_masked h)),
    fun s m mask hg h => (exec_gpioLockMaskWrite hg).trans (congrArg _ (lockMask_idle h)),
    fun s m w hg h hw => (exec_gpioLockCommit hg).trans (congrArg _ (lockCommit_masked ⟨h, hw⟩)),
    fun s m w hg h hr => (exec_gpioLockCommit hg).trans (congrArg _ (lockCommit_wrong h hr)),
    fun s m w hg h => (exec_gpioLockCommit hg).trans (congrArg _ (lockCommit_idle h)),
    fun s h => exec_gpioLockTimeout.trans (congrArg _ (lockAbort_running h)),
    fun s h => exec_gpioLockTimeout.trans (congrArg _ (lockAbort_idle h))⟩

end Sys2Proof.Proofs.Pins
end

section
/-! Observation, debug and self-test (17_observation_debug.md R425 to R449): the TAP and its accesses, tokens, trace records, the
bridle, and the slices and direct tests. -/

namespace Sys2Proof.Proofs.DebugAndSelfTest

open Sys2Proof Sys2Proof.Machine Sys2Proof.Machine.Reg
open Sys2Proof.Laws.Commands (tapSelect_access)
open Sys2Proof.Proofs.FabricBlocks (exec_viaWrite_pass)

/-! ## The TAP (R427, R428) -/

section Tap

variable {s : State} {op a v code level : Nat} {d : List Bool}

theorem tapSelect_held (h : level ≤ s.f DBG_STATUS_LEVEL) : s.tapSelect code level = s.updDbg fun x => { x with ir := code } := by
  rw [State.tapSelect, if_pos h]

theorem tapSelect_denied (h : s.f DBG_STATUS_LEVEL < level) :
    s.tapSelect code level = s.updDbg fun x => { x with ir := 0xFF } := by
  rw [State.tapSelect, if_neg (Nat.not_le.mpr h)]

theorem exec_idcode : exec .idcode s = .next ((s.updDbg fun x => { x with ir := 1 }).answer (.ok 0x1B8E14B3)) :=
  congrArg (fun t : State => Host.Outcome.next (t.answer (.ok 0x1B8E14B3))) (tapSelect_held (Nat.zero_le _))

theorem exec_samplePreload :
    exec (.samplePreload d) s = .next ((s.updDbg fun x => { x with ir := 2 }).updDbg fun x => { x with bsr := d }) :=
  congrArg (fun t : State => Host.Outcome.next (t.updDbg fun x => { x with bsr := d })) (tapSelect_held (Nat.zero_le _))

theorem exec_bypass : exec .bypass s = .next (s.updDbg fun x => { x with ir := 0xFF }) :=
  congrArg Host.Outcome.next (tapSelect_held (Nat.zero_le _))

theorem exec_extest : exec (.extest d) s =
    .next (if (s.tapSelect 0 2).dbg.ir = 0 then (s.tapSelect 0 2).updDbg fun x => { x with bsr := d } else s.tapSelect 0 2) := rfl

theorem exec_extest_full (h : 2 ≤ s.f DBG_STATUS_LEVEL) :
    exec (.extest d) s = .next ((s.updDbg fun x => { x with ir := 0 }).updDbg fun x => { x with bsr := d }) := by
  rw [exec_extest, tapSelect_held h]
  exact congrArg Host.Outcome.next (if_pos rfl)

theorem exec_extest_denied (h : s.f DBG_STATUS_LEVEL < 2) :
    exec (.extest d) s = .next (s.updDbg fun x => { x with ir := 0xFF }) := by
  rw [exec_extest, tapSelect_denied h]
  exact congrArg Host.Outcome.next (if_neg (by decide : ¬ (0xFF : Nat) = 0))

/-- DBG_ACCESS is the selected instruction. -/
def accessing (s : State) : State := s.updDbg fun x => { x with ir := 0x10 }

/-- HBM needs FULL. -/
abbrev accessDenied (s : State) (a : Nat) : Prop := isHbm a = true ∧ s.f DBG_STATUS_LEVEL < 2

theorem dbgAccess_belowObserve (h : s.f DBG_STATUS_LEVEL = 0) :
    s.dbgAccess op a v = s.updDbg fun x => { x with ir := 0xFF } := by
  have hs : s.tapSelect 0x10 1 = s.updDbg fun x => { x with ir := 0xFF } := tapSelect_denied (by omega)
  rw [State.dbgAccess, hs]
  exact if_pos (.inl (by decide : ¬ (0xFF : Nat) = 0x10))

theorem dbgAccess_nothing (h : 1 ≤ s.f DBG_STATUS_LEVEL) (ho : op = 0 ∨ 3 ≤ op) : s.dbgAccess op a v = accessing s := by
  rw [State.dbgAccess, tapSelect_access h]
  exact if_pos (.inr ho)

theorem dbgAccess_denied (h : 1 ≤ s.f DBG_STATUS_LEVEL) (hd : accessDenied s a) :
    s.dbgAccess 1 a v = (accessing s).accEnd 3 0 := by
  rw [State.dbgAccess, tapSelect_access h]
  exact (if_neg (by simp [State.updDbg])).trans (if_pos hd)

theorem dbgAccess_read (h : 1 ≤ s.f DBG_STATUS_LEVEL) (hd : ¬ accessDenied s a) : s.dbgAccess 1 a v =
    ((accessing s).mgmtRead .debug a 4 true).accEnd ((accessing s).mgmtRead .debug a 4 true).resp.dbgStatus
      (match ((accessing s).mgmtRead .debug a 4 true).resp with | .ok x => x | _ => 0) := by
  rw [State.dbgAccess, tapSelect_access h]
  exact (if_neg (by simp [State.updDbg])).trans ((if_neg hd).trans (if_pos rfl))

theorem dbgAccess_write (h : 1 ≤ s.f DBG_STATUS_LEVEL) (hd : ¬ accessDenied s a) : s.dbgAccess 2 a v =
    ((accessing s).mgmtWrite .debug a v 4 0).accEnd ((accessing s).mgmtWrite .debug a v 4 0).resp.dbgStatus 0 := by
  rw [State.dbgAccess, tapSelect_access h]
  exact (if_neg (by simp [State.updDbg])).trans ((if_neg hd).trans (if_neg (by decide)))

theorem exec_dbgAccess : exec (.dbgAccess op a v) s = .next (s.dbgAccess op a v) := rfl

end Tap

/-! ## Tokens (R430) -/

section Token

variable {s : State} {m : Master}

theorem exec_dbgAuthGo (hg : s.gate m DBG_AUTH_CMD = .pass) : exec (.dbgAuthGo m) s = .next ((s.answer (.ok 0)).authGo) :=
  exec_viaWrite_pass State.authGo rfl hg

theorem authGo_running (h : s.bit DBG_AUTH_STATUS_BUSY = true) : s.authGo = s := if_pos h

theorem authGo_refused (h : s.bit DBG_AUTH_STATUS_BUSY = false) (hl : s.lcState ≠ 2) : s.authGo = s.authEnd 1 :=
  (if_neg (by simp [h])).trans (if_pos hl)

theorem authGo_starts (h : s.bit DBG_AUTH_STATUS_BUSY = false) (hl : s.lcState = 2) :
    s.authGo = s.setFs [(DBG_AUTH_STATUS_BUSY, 1), (DBG_AUTH_STATUS_ERR, 0)] :=
  (if_neg (by simp [h])).trans (if_neg (not_not_intro hl))

theorem exec_dbgAuthEnd_idle (h : s.bit DBG_AUTH_STATUS_BUSY = false) : exec .dbgAuthEnd s = .next s :=
  congrArg Host.Outcome.next (if_pos (by simp [h]))

theorem exec_dbgAuthEnd_running (h : s.bit DBG_AUTH_STATUS_BUSY = true) :
    exec .dbgAuthEnd s = .next (s.authEnd (if s.lcState ≠ 2 then 1 else if s.dbgTokenOk then 0 else 2)) :=
  congrArg Host.Outcome.next (if_neg (by simp [h]))

theorem exec_dbgAuthEnd_refused (h : s.bit DBG_AUTH_STATUS_BUSY = true) (hl : s.lcState ≠ 2) :
    exec .dbgAuthEnd s = .next (s.authEnd 1) := by rw [exec_dbgAuthEnd_running h, if_pos hl]

theorem exec_dbgAuthEnd_judged {ok : Bool} (h : s.bit DBG_AUTH_STATUS_BUSY = true) (hl : s.lcState = 2)
    (hk : s.dbgTokenOk = ok) : exec .dbgAuthEnd s = .next (s.authEnd (if ok then 0 else 2)) := by
  rw [exec_dbgAuthEnd_running h, if_neg (not_not_intro hl), hk]

end Token

/-! ## Stimulus (R434, R435) -/

section Stimulus

variable {s : State} {m : Master} {core g v r k chan : Nat}

theorem observes_false (h : s.f DBG_STATUS_LEVEL = 0) : s.observes = false := decide_eq_false (by omega)

theorem observes_true (h : 1 ≤ s.f DBG_STATUS_LEVEL) : s.observes = true := decide_eq_true h

theorem observes_eq_false_iff : s.observes = false ↔ s.f DBG_STATUS_LEVEL = 0 := by
  rw [State.observes, decide_eq_false_iff_not]
  omega

/-- A write that is no tenant's: a core's own port makes a record while the level lets it. -/
theorem dbgStim_noTenant (ht : ∀ l i, m ≠ .tenant l i) : s.dbgStim m core g v =
    if m ≠ .firmware ∨ core ≠ g then s.dropWrite m .notOwner (DBG_STIM g)
    else if !s.observes then s.answer (.ok 0)
    else (s.stimRecord (2 * 2 ^ 10 + g) (coreNode g) (s.f (stimChan g)) v).answer (.ok 0) := by
  cases m with
  | tenant l i => exact absurd rfl (ht l i)
  | _ => rfl

theorem dbgStim_other (ht : ∀ l i, m ≠ .tenant l i) (h : m ≠ .firmware ∨ core ≠ g) :
    s.dbgStim m core g v = s.dropWrite m .notOwner (DBG_STIM g) := (dbgStim_noTenant ht).trans (if_pos h)

theorem dbgStim_silent (hc : core = g) (h : s.f DBG_STATUS_LEVEL = 0) :
    s.dbgStim .firmware core g v = s.answer (.ok 0) := by
  rw [dbgStim_noTenant fun _ _ => Master.noConfusion, if_neg (by simp [hc]), observes_false h]
  rfl

theorem dbgStim_records (hc : core = g) (h : 1 ≤ s.f DBG_STATUS_LEVEL) : s.dbgStim .firmware core g v =
    (s.stimRecord (2 * 2 ^ 10 + g) (coreNode g) (s.f (stimChan g)) v).answer (.ok 0) := by
  rw [dbgStim_noTenant fun _ _ => Master.noConfusion, if_neg (by simp [hc]), observes_true h]
  rfl

/-- The region's outputs are shut off, its port is not selected, or the level is below OBSERVE. -/
abbrev napSilent (s : State) (r : Nat) : Prop :=
  s.connected r = false ∨ s.f (DBG_STIM_RGN_BITS (r / 32)) / 2 ^ (r % 32) % 2 = 0 ∨ s.f DBG_STATUS_LEVEL = 0

theorem napSilent_iff : napSilent s r ↔ ((!s.connected r) = true ∨
    s.f (DBG_STIM_RGN_BITS (r / 32)) / 2 ^ (r % 32) % 2 = 0 ∨ (!s.observes) = true) := by
  rw [napSilent, Bool.not_eq_true', Bool.not_eq_true', observes_eq_false_iff]

theorem exec_napStimSample_silent (h : napSilent s r) : exec (.napStimSample r k chan v) s = .next s :=
  congrArg Host.Outcome.next (if_pos (napSilent_iff.mp h))

/-- The state with the NAP's record, or its drop. -/
def napRecorded (s : State) (r k chan v : Nat) : State := s.stimRecord (3 * 2 ^ 10 + napNode r k) (napNode r k) chan v

theorem exec_napStimSample_records (h : ¬ napSilent s r) : exec (.napStimSample r k chan v) s = .next (
    if (s.probe (3 * 2 ^ 10 + napNode r k)).dropped < ((napRecorded s r k chan v).probe (3 * 2 ^ 10 + napNode r k)).dropped then
      (napRecorded s r k chan v).count DBG_TRC_STATUS_NAP_DROP 1
    else napRecorded s r k chan v) := congrArg Host.Outcome.next (if_neg (mt napSilent_iff.mpr h))

end Stimulus

/-! ## Trace outputs (R432, R433) -/

section TraceOutput

variable {s : State} {i : Nat} {r : TraceRec} {l : List TraceRec}

/-- Output `i` runs and is enabled. -/
abbrev outputRuns (s : State) (i : Nat) : Prop := s.trcRun = true ∧ s.eff DBG_TRC_CTRL_OUT / 2 ^ i % 2 ≠ 0

theorem outputRecord_off (h : s.trcRun = false ∨ s.eff DBG_TRC_CTRL_OUT / 2 ^ i % 2 = 0) : s.outputRecord i = s :=
  if_pos (by rwa [Bool.not_eq_true'])

theorem outputRecord_runs (h : outputRuns s i) : s.outputRecord i =
    match (if s.dbg.taken.contains i then none else s.dbg.store.head?) with
    | none => if i = 0 then s.pinsIdle else s
    | some r => ((if i = 0 then s.pinsTake r else s.ringTake r).updDbg fun d => { d with taken := i :: d.taken }).sinkTrim :=
  if_neg (by rw [Bool.not_eq_true', h.1]; exact not_or.mpr ⟨by decide, h.2⟩)

theorem outputRecord_none (h : outputRuns s i) (hn : s.dbg.taken.contains i = true ∨ s.dbg.store = []) :
    s.outputRecord i = if i = 0 then s.pinsIdle else s := by
  have ho : (if s.dbg.taken.contains i = true then none else s.dbg.store.head?) = none := by
    rcases hn with hn | hn
    · exact if_pos hn
    · rw [hn, List.head?_nil, ite_self]
  rw [outputRecord_runs h, ho]

theorem outputRecord_oldest (h : outputRuns s i) (ht : s.dbg.taken.contains i = false) (hs : s.dbg.store = r :: l) :
    s.outputRecord i =
      ((if i = 0 then s.pinsTake r else s.ringTake r).updDbg fun d => { d with taken := i :: d.taken }).sinkTrim := by
  have ho : (if s.dbg.taken.contains i = true then none else s.dbg.store.head?) = some r := by
    rw [ht, if_neg Bool.false_ne_true, hs, List.head?_cons]
  rw [outputRecord_runs h, ho]

theorem exec_traceOutputRecord : exec (.traceOutputRecord i) s = .next (s.outputRecord i) := rfl

/-- The pins without a record send the align record that is due, or zeros. -/
theorem pinsIdle_eq : s.pinsIdle =
    ({ s with out := s.out ++ [Out.trace (List.replicate 16 (if s.dbg.align then 0xFF else 0))] }.updDbg fun d =>
      { d with sent := if s.dbg.align then 0 else d.sent, align := false }) := by
  cases h : s.dbg.align with
  | true => simp only [State.pinsIdle, h, if_true]
  | false =>
    have hd : { s.dbg with align := false } = s.dbg := by rw [← h]
    simp only [State.pinsIdle, h, Bool.false_eq_true, if_false, State.updDbg, hd]

theorem ringTake_last (hl : l = s.dbg.ring ++ [r]) (h : l.length = 32) : s.ringTake r =
    (((s.hubWrite (s.ringBase + s.f DBG_TRC_WPTR_OFF) (l.flatMap TraceRec.toBytes) sinkNode).1).setF DBG_TRC_WPTR_OFF
      ((s.f DBG_TRC_WPTR_OFF + 512) % s.ringLen)).updDbg fun d => { d with ring := [] } := by
  subst hl
  exact if_neg (by omega)

theorem ringTake_more (h : s.dbg.ring.length < 31) : s.ringTake r = s.updDbg fun d => { d with ring := s.dbg.ring ++ [r] } :=
  if_pos (by rw [List.length_append, List.length_singleton]; omega)

end TraceOutput

/-- Settles O56: an instruction by its level, a check by the lifecycle, an output by the record it still has to take. -/
theorem debugPortAndTraceCommands : Obligations.DebugPortAndTraceCommands := by
  unfold Obligations.DebugPortAndTraceCommands
  exact ⟨fun s d => ⟨rfl, exec_idcode, exec_samplePreload, exec_bypass⟩, fun s d h => exec_extest_full h,
    fun s d h => exec_extest_denied h,
    fun s op a v h => exec_dbgAccess.trans (congrArg _ (dbgAccess_belowObserve h)),
    fun s op a v t h ht ho => by subst ht; exact exec_dbgAccess.trans (congrArg _ (dbgAccess_nothing h ho)),
    fun s a v t h ht hd => by subst ht; exact exec_dbgAccess.trans (congrArg _ (dbgAccess_denied h hd)),
    fun s a v t h ht hd => by subst ht; exact exec_dbgAccess.trans (congrArg _ (dbgAccess_read h hd)),
    fun s a v t h ht hd => by subst ht; exact exec_dbgAccess.trans (congrArg _ (dbgAccess_write h hd)),
    fun s m hg h => (exec_dbgAuthGo hg).trans (congrArg _ (authGo_running h)),
    fun s m hg h hl => (exec_dbgAuthGo hg).trans (congrArg _ (authGo_refused h hl)),
    fun s m hg h hl => (exec_dbgAuthGo hg).trans (congrArg _ (authGo_starts h hl)),
    fun s h => exec_dbgAuthEnd_idle h, fun s h hl => exec_dbgAuthEnd_refused h hl, fun s err => rfl,
    fun s ok h hl hk => exec_dbgAuthEnd_judged h hl hk,
    fun s m hg => exec_viaWrite_pass (·.setToken false) rfl hg, fun s b => rfl,
    fun s core g v hc h => congrArg _ (dbgStim_silent hc h), fun s core g v hc h => congrArg _ (dbgStim_records hc h),
    fun s m core g v ht h => congrArg _ (dbgStim_other ht h), fun s src node chan v => rfl,
    fun s r k chan v h => exec_napStimSample_silent h,
    fun s r k chan v t h ht => by subst ht; exact exec_napStimSample_records h,
    fun s m k v hg => exec_viaWrite_pass (·.pmcWrite k v) rfl hg,
    fun s i h => exec_traceOutputRecord.trans (congrArg _ (outputRecord_off h)),
    fun s hr he hn => exec_traceOutputRecord.trans (congrArg _ (outputRecord_none ⟨hr, he⟩ hn)),
    fun s i hi hr he hn => exec_traceOutputRecord.trans (congrArg _ ((outputRecord_none ⟨hr, he⟩ hn).trans (if_neg hi))),
    fun s => pinsIdle_eq,
    fun s i r l hr he ht hs => exec_traceOutputRecord.trans (congrArg _ (outputRecord_oldest ⟨hr, he⟩ ht hs)),
    fun s r l hl h => ringTake_last hl h, fun s r h => ringTake_more h⟩

/-! ## The bridle (R437 to R441) -/

section Bridle

variable {s : State} {m : Master} {mask r ch g : Nat} {late ended : Bool} {resv : List Nat}

theorem exec_brRaise_write (hg : s.gate m DBG_BR_RAISE = .pass) : exec (.brRaise (.write m mask late) resv) s = .next (
    ((if late then (s.answer (.ok 0)).logDrop m .order DBG_BR_RAISE else s.answer (.ok 0)).brRaiseMask mask).brDeliver resv) :=
  exec_viaWrite_pass (fun t => ((if late then t.logDrop m .order DBG_BR_RAISE else t).brRaiseMask mask).brDeliver resv) rfl hg

theorem exec_brClear (hg : s.gate m DBG_BR_STATE = .pass) : exec (.brClear m mask late) s = .next (
    (if late then (s.answer (.ok 0)).logDrop m .order DBG_BR_STATE else s.answer (.ok 0)).brClear mask) :=
  exec_viaWrite_pass (fun t => (if late then t.logDrop m .order DBG_BR_STATE else t).brClear mask) rfl hg

/-- A region raises its mapped channel, unless its outputs are shut off. -/
def regionRaised (s : State) (r : Nat) : State :=
  if s.connected r = false then s
  else if s.eff (DBG_BR_RGN_RAISE_EN r) = 1 ∧ s.eff (DBG_BR_RGN_ON r) / 2 ^ 0 % 2 = 1 then
    s.brRaiseCh (s.eff (DBG_BR_RGN_RAISE_CH r))
  else s

theorem exec_brRaise_region : exec (.brRaise (.region r) resv) s = .next ((regionRaised s r).brDeliver resv) := by
  refine congrArg Host.Outcome.next ?_
  by_cases hc : s.connected r = false
  · rw [regionRaised, if_pos hc]
    exact if_pos (by simp [hc])
  · rw [regionRaised, if_neg hc]
    exact if_neg (by simp [hc])

theorem brRaiseCh_lowered (h : s.chRaised (2 ^ ch) = false) : s.brRaiseCh ch =
    let t := (s.setF DBG_BR_STATE_CH (s.f DBG_BR_STATE_CH + 2 ^ ch)).pmcBump 7 ch 1
    { t with dbg := { t.dbg with
      due := t.dbg.due ||| 2 ^ ch
      started := if t.eff DBG_TRC_CTRL_STOP_CH = ch then false
        else if t.eff DBG_TRC_CTRL_START_CH = ch then true else t.dbg.started } } := if_neg (by simp [h])

theorem exec_haltDeferExpire_none (h : s.dbg.deferred.contains g = false) : exec (.haltDeferExpire g ended) s = .next s :=
  congrArg Host.Outcome.next (if_pos (by rw [h]; rfl))

theorem exec_haltDeferExpire_lock (h : s.dbg.deferred.contains g = true) (hl : nget s.dbg.locked g = 2) :
    exec (.haltDeferExpire g ended) s = .next (if ended then s else s.lockAbort) :=
  congrArg Host.Outcome.next ((if_neg (by rw [h]; decide)).trans (if_pos hl))

/-- The core halts, and its reservation is gone. -/
theorem exec_haltDeferExpire_halts (h : s.dbg.deferred.contains g = true) (hl : nget s.dbg.locked g ≠ 2) :
    exec (.haltDeferExpire g ended) s = .next (
      let t := s.updDbg fun d => { d with
        deferred := d.deferred.filter (· ≠ g), halted := d.halted ++ [g], locked := nput d.locked g 0 }
      t.setF DBG_STATUS_DEFERRED (b2n (!t.dbg.deferred.isEmpty))) :=
  congrArg Host.Outcome.next ((if_neg (by rw [h]; decide)).trans (if_neg hl))

end Bridle

/-! ## Slices (R446, R447) -/

section Slice

variable {s : State} {d : Nat} {verified passed : Bool}

/-- EN, CLASSES and PERIOD_US take effect. -/
def sliceSettings (s : State) : State :=
  ((s.applyLive BST_CTRL_EN).applyLive BST_CTRL_CLASSES).applyLive BST_SCHED_PERIOD_US

/-- A slice runs on the die, or self-test is off. -/
abbrev sliceHeld (t : State) (d : Nat) : Prop :=
  nget t.bist.run d ≠ 0 ∨ t.eff BST_CTRL_EN = 0 ∨ t.eff BST_CTRL_CLASSES = 0

theorem exec_bistSliceStart_held (h : sliceHeld (sliceSettings s) d) :
    exec (.bistSliceStart d) s = .next (sliceSettings s) := congrArg Host.Outcome.next (if_pos h)

theorem exec_bistSliceStart_next (h : ¬ sliceHeld (sliceSettings s) d) : exec (.bistSliceStart d) s = .next (
    let u := (sliceSettings s).slicePick d 2016
    let p := nget u.bist.pos d
    if u.sliceSkipped d p then (u.count BST_STATUS_SKIPPED 1).slicePast d p
    else (u.updBist fun b => { b with run := nput b.run d (p + 1) }).slicePast d p) := congrArg Host.Outcome.next (if_neg h)

theorem exec_bistSliceEnd_none (h : nget s.bist.run d = 0) : exec (.bistSliceEnd d verified passed) s = .next s :=
  congrArg Host.Outcome.next (if_pos h)

theorem exec_bistSliceEnd_running (h : nget s.bist.run d ≠ 0) : exec (.bistSliceEnd d verified passed) s = .next (
    let u := sliceUnit d (nget s.bist.run d - 1)
    let t := s.updBist fun b => { b with run := nput b.run d 0 }
    if u.1 = 3 then (t.sliceProgram u.2 passed).startsDue (bankOf u.2).1 else t.sliceRotate u.2 verified passed) :=
  congrArg Host.Outcome.next (if_neg h)

end Slice

/-! ## The direct test (R449) -/

section DirectTest

variable {s : State} {m : Master} {alg unit : Nat} {fail : Option Nat}

theorem exec_bstXpGo (hg : s.gate m BST_XP_CMD = .pass) : exec (.bstXpGo m alg unit) s = .next (
    if s.xpOn BST_XP_CMD then (s.answer (.ok 0)).bstGo alg unit else (s.answer (.ok 0)).dropWrite m .expert BST_XP_CMD) :=
  exec_viaWrite_pass (fun t => if t.xpOn BST_XP_CMD then t.bstGo alg unit else t.dropWrite m .expert BST_XP_CMD) rfl hg

theorem exec_bstXpGo_noExpert (hg : s.gate m BST_XP_CMD = .pass) (hx : s.xpOn BST_XP_CMD = false) :
    exec (.bstXpGo m alg unit) s = .next ((s.answer (.ok 0)).dropWrite m .expert BST_XP_CMD) := by
  rw [exec_bstXpGo hg, hx, if_neg Bool.false_ne_true]

theorem exec_bstXpGo_expert (hg : s.gate m BST_XP_CMD = .pass) (hx : s.xpOn BST_XP_CMD = true) :
    exec (.bstXpGo m alg unit) s = .next ((s.answer (.ok 0)).bstGo alg unit) := by rw [exec_bstXpGo hg, hx, if_pos rfl]

/-- The command as it is written. -/
def bstWritten (s : State) (alg unit : Nat) : State := s.setFs [(BST_XP_CMD_ALG, alg), (BST_XP_CMD_MACRO, unit)]

theorem bstGo_running (h : s.bit BST_XP_STATUS_BUSY = true) : s.bstGo alg unit = s.busy BST_XP_STATUS_FIELD_BUSY := if_pos h

theorem bstGo_starts (h : s.bit BST_XP_STATUS_BUSY = false) (hi : (bstWritten s alg unit).macroIdle unit = true) :
    s.bstGo alg unit = (bstWritten s alg unit).setFs [(BST_XP_STATUS_BUSY, 1), (BST_XP_STATUS_ERR, 0)] :=
  (if_neg (by simp [h])).trans (if_pos hi)

theorem bstGo_inUse (h : s.bit BST_XP_STATUS_BUSY = false) (hi : (bstWritten s alg unit).macroIdle unit = false) :
    s.bstGo alg unit = (bstWritten s alg unit).setFs [(BST_XP_STATUS_ERR, 1), (BST_XP_STATUS_DONE, 1)] :=
  (if_neg (by simp [h])).trans (if_neg (by rw [← bstWritten, hi]; decide))

theorem exec_bstXpEnd_idle (h : s.bit BST_XP_STATUS_BUSY = false) : exec (.bstXpEnd fail) s = .next s :=
  congrArg Host.Outcome.next (if_pos (by simp [h]))

/-- The unit after its test: its words are written afresh, and what it held is gone. -/
def unitTested (s : State) : State :=
  let u := s.f BST_XP_CMD_MACRO
  let t := s.unitFresh u
  let t := if u / 2 ^ 16 = 1 then t.bankDestroyed u else if u / 2 ^ 16 = 0 then t.ramDestroyed u else t
  t.setFs [(BST_XP_STATUS_BUSY, 0), (BST_XP_STATUS_DONE, 1)]

theorem exec_bstXpEnd_running (h : s.bit BST_XP_STATUS_BUSY = true) : exec (.bstXpEnd fail) s = .next (
    match fail with
    | none => (unitTested s).setF BST_XP_STATUS_ERR 0
    | some row => (unitTested s).setFs [(BST_XP_STATUS_ERR, 2), (BST_XP_STATUS_ROW, row)]) :=
  congrArg Host.Outcome.next (if_neg (by simp [h]))

end DirectTest

/-- Settles O57: a raise by its source, a deferral by what the core holds, a slice by its settings, a test by its page and its unit. -/
theorem bridleAndSelfTestCommands : Obligations.BridleAndSelfTestCommands := by
  unfold Obligations.BridleAndSelfTestCommands
  exact ⟨fun s m mask late resv hg => exec_brRaise_write hg, fun s g resv => rfl, fun s r resv => exec_brRaise_region,
    fun s ch h => brRaiseCh_lowered h, fun s resv h => congrArg _ (if_neg h), fun s resv h => congrArg _ (if_pos h),
    fun s m mask late hg => exec_brClear hg, fun s g ended h => exec_haltDeferExpire_none h,
    fun s g ended h hl he => by subst he; exact exec_haltDeferExpire_lock h hl,
    fun s g ended h hl he => by subst he; exact exec_haltDeferExpire_lock h hl,
    fun s g ended h hl => exec_haltDeferExpire_halts h hl,
    fun s d t ht h => by subst ht; exact exec_bistSliceStart_held h,
    fun s d t ht h => by subst ht; exact exec_bistSliceStart_next h,
    fun s d verified passed h => exec_bistSliceEnd_none h, fun s d verified passed h => exec_bistSliceEnd_running h,
    fun s m unit hg => exec_viaWrite_pass (·.setF BST_MAPQ_UNIT unit) rfl hg,
    fun s m alg unit hg hx => exec_bstXpGo_noExpert hg hx,
    fun s m alg unit hg hx h => (exec_bstXpGo_expert hg hx).trans (congrArg _ (bstGo_running h)),
    fun s m alg unit hg hx h hi => (exec_bstXpGo_expert hg hx).trans (congrArg _ (bstGo_starts h hi)),
    fun s m alg unit hg hx h hi => (exec_bstXpGo_expert hg hx).trans (congrArg _ (bstGo_inUse h hi)),
    fun s fail h => exec_bstXpEnd_idle h, fun s fail h => exec_bstXpEnd_running h⟩

end Sys2Proof.Proofs.DebugAndSelfTest
end
